-- ==== Sys2Proof/Word.lean ====
section
/-! DEFINITION. The word types of the DZ6480 register space (R13, R44) and the byte type of envelopes, payloads
and packets. Only the plainest abbreviations stand here; every bit-field and byte-order helper is in
Machine/Bits.lean. -/
namespace Sys2Proof

/-- A register word (R44: every register is 32 bits wide). -/
abbrev Word := BitVec 32

/-- A byte of an envelope, a payload, a packet or a frame. -/
abbrev Byte := BitVec 8

/-- A page number, bits [31:12] of a register address (R44). -/
abbrev Page := BitVec 20

/-- A zone Z00 … Z63. -/
abbrev Zone := Fin 64

/-- A physical slice S00 … S67 (R20). -/
abbrev Phys := Fin 68

/-- An output index j of R229: 0 AO1, 1 AO2, 2 PWM, 3 DO1, 4 DO2. -/
abbrev Out := Fin 5

end Sys2Proof
end

