-- ==== Sys2Proof/Syntax.lean ====
section
/-! DEFINITION. The commands of the block: one constructor of `Instr` per row of spec/opcode_table.json, with the
operands the row's step needs. An operand carries what reaches the module from outside (a register access, a packet,
a frame, a field signal, a measured value); what the manual lets the module compute itself is computed by the
meanings. The table gives no bits to any row, so the operand lists are this model's (notes/assumptions/10). -/
namespace Sys2Proof

/-- The path on which an envelope arrives (R331, R337). -/
inductive Path where
  | hostLink | spi | busA | busB
  deriving DecidableEq, Repr

/-- A building-bus port (R413). -/
inductive Port where
  | a | b
  deriving DecidableEq, Repr

/-- The view through which a slice page is reached (R48): a zone alias or a physical slice. -/
inductive View where
  | zone (z : Zone)
  | phys (p : Phys)
  deriving DecidableEq, Repr

/-- A command at its execution (R343): the accepted envelope without its CRC, with its head's LSEQ. -/
structure Exec where
  lseq    : Nat
  source  : BitVec 16
  seq     : BitVec 32
  opcode  : BitVec 16
  zmask   : BitVec 64
  payload : List Byte
  deriving DecidableEq, Repr

/-- A condition that reaches a sequence as a trigger (R122). -/
inductive TrigSource where
  | timer | zeroCross | chain (of : Fin 4) | firmware | host | fl1 | fl2 | tch | capture
  deriving DecidableEq, Repr

/-- The filtered signals behind one reading of a temperature input, in volts (R79, R83, R85). -/
inductive InputSample where
  | resistive (vs vref : Rat)
  | diode (v10 v40 v160 : Rat)
  deriving DecidableEq, Repr

/-- A positive-going zero crossing of the fundamental as the tracker finds it (R159, R160): its frequency estimate [mHz] and
its estimate of the fundamental voltage [primary volts rms]. -/
structure CycleData where
  freq : Nat
  v1   : Rat
  deriving DecidableEq, Repr

/-- What one conversion brings to the end of its XFER (R118): the bit decisions of ADC0 and ADC1 [LSB16], dither included,
with their redundancy resolved (R114, R133); and the events that fall on this conversion: the filtered signals of a
temperature input, the tracker's zero crossing, the end of a half cycle, and whether the drivers it measures on CHA and CHB
are in their limits. -/
structure ConvData where
  rawA    : Int
  rawB    : Int := 0
  reading : Option (Fin 4 × InputSample) := none
  cycle   : Option CycleData := none
  half    : Bool := false
  limA    : Bool := false
  limB    : Bool := false
  deriving DecidableEq, Repr

/-- The outcome of one transmit attempt (R433, R435). -/
inductive TxOutcome where
  | acked | ackError | bitError | stuffError | formError | arbLost
  deriving DecidableEq, Repr

/-- An error a receiving port detects (R427). -/
inductive RxError where
  | stuff | crc | form
  deriving DecidableEq, Repr

/-- The fields of a bus frame (R417, R422). -/
structure BusFrame where
  pri  : BitVec 4
  kind : BitVec 8
  src  : BitVec 8
  dst  : BitVec 8
  fast : Bool := false
  data : List Byte
  deriving DecidableEq, Repr

/-- An input under the chatter rule of R94. -/
inductive ChatInput where
  | prd | pra | fl (n : Fin 2) | tach | key (k : Fin 16) | encoder
  deriving DecidableEq, Repr

/-- A pulse input with a glitch filter whose rejections count (R191, R297, R312). -/
inductive PulseInput where
  | fl (n : Fin 2) | tach | encoder
  deriving DecidableEq, Repr

/-- What a mechanism may say to the landing's request (R488). -/
inductive Vote where
  | agree | delay | refuse
  deriving DecidableEq, Repr

/-- The wake sources of R493. -/
inductive WakeSrc where
  | link | busA | busB | knockA | knockB | timer | spi
  deriving DecidableEq, Repr

/-- The causes of a power-loss warning (R552). -/
inductive WarnCause where
  | pdetS1 | pdetS2 | low | high | holdup
  deriving DecidableEq, Repr

/-- Why a packet is discarded (R395, R400, R401). -/
inductive Discard where
  | symbol | abort | crc | badType (tag : BitVec 8) | badLen (tag : BitVec 8) | noBuffer
  deriving DecidableEq, Repr

/-- Why an SPI request draws ERROR (R407). -/
inductive SpiError where
  | crc | badOp | badLen
  deriving DecidableEq, Repr

/-- The alarm kinds of R259 with their index. -/
inductive AlarmKind where
  | daylight | dayStart | band (k : Fin 48) | event (k : Fin 32) | planStep
  deriving DecidableEq, Repr

/-- How a pulse of R371 ends. -/
inductive PulseEnd where
  | expired | ceiling | governor | overCurrent
  deriving DecidableEq, Repr

/-- The active roles of the porch engines (R23). -/
inductive Role where
  | dispatch | journal | bus | timePower
  deriving DecidableEq, Repr

/-- The training ordered sets of R390. -/
inductive TrainSet where
  | ts1 | ts2
  deriving DecidableEq, Repr

/-- The measured gauges of a slice (R534, R541): ring-oscillator shift [0.01 %], regulator margin [mV] and the driver
gauges (DO [mΩ], PWM [0.1 Ω], AO [h]). -/
structure SliceGauges where
  p      : Phys
  shift  : Int
  margin : Nat
  drv    : Vector Nat 5
  deriving DecidableEq, Repr

/-- What the preparation of a migration finds on a target (R521, R523): its quick self-test and the path precheck. -/
structure TargetCheck where
  test   : BitVec 11 := 0
  pathOk : Bool := true
  deriving DecidableEq, Repr

/-- A measured hallway path (R527): R25 of the 18 switches [mΩ] and α [ppm/K]. -/
structure PathMeas where
  zone  : Zone
  spare : Fin 4
  r25   : Vector Nat 18
  alpha : Nat
  deriving DecidableEq, Repr

/-- A durable item of R25: a larder entry by its LSEQ, a guestbook entry by its head, a source slot, a record by its SEQ, one of the
two generations of a slice's checkpoint and meter posting, a zone's configuration, the repair map with the hallway calibration, a log
entry by its ESEQ, the health history, the module records. -/
inductive DurItem where
  | larder (lseq : Nat) | guest (lseq : Nat) | slot (k : Nat) | record (seq : Nat) | ckpt (p : Phys) (older : Bool)
  | posting (p : Phys) (older : Bool) | config (z : Zone) | map | log (eseq : Nat) | history | module
  deriving DecidableEq, Repr

/-- A durable item whose CRC-32 fails (R25, R346, R348): in one bank's copy, or in both. -/
structure BadItem where
  item : DurItem
  both : Bool
  deriving DecidableEq, Repr

/-- What a start finds (R346, R517, R553, R557): bad copies of durable items, quick self-test results per slice, the measured
hold-up capacitance [µF] (0: the store does not charge), the milliseconds of the start and of the replay. -/
structure StartInfo where
  bad    : List BadItem := []
  tests  : List (Phys × BitVec 11) := []
  capUf  : Nat := 68
  durMs  : Nat := 0
  replayMs : Nat := 0
  deriving DecidableEq, Repr

/-- What one MRAM row scrub finds (R25, R530, R531): nothing; a corrected word; words that the word code takes for good while the
CRC-32 of the items they belong to fails; an uncorrectable word, with the items of its row that no bank then holds; the same
with the other bank's copy of those items bad too. -/
inductive RowFinding where
  | clean | corrected | missed (items : List DurItem) | uncorrectable (items : List DurItem) | bothBad (items : List DurItem)
  deriving DecidableEq, Repr

/-- A read-back that fails in an acceptance commit (R36, R330, R531): the bank and row, and whether the repeated write fails too. -/
structure ReadBack where
  bank  : Fin 2
  row   : Fin 8192
  again : Bool
  deriving DecidableEq, Repr

/-- An envelope as a transport delivers it (R322), with the read-backs that fail in its commit should it be accepted. -/
structure Envelope where
  bytes : List Byte
  fails : List ReadBack := []
  deriving DecidableEq, Repr

/-- An envelope that a power-loss warning meets at the dispatcher (R37): its path and node, and whether its first bank write has
begun. -/
structure InFlight where
  path  : Path
  dest  : Nat
  bytes : List Byte
  begun : Bool
  deriving DecidableEq, Repr

/-- A power-loss warning (R37, R552). -/
structure Warning where
  cause  : WarnCause
  flight : Option InFlight := none
  deriving DecidableEq, Repr

/-- The commands of the block: one constructor per row of spec/opcode_table.json, in the table's order. -/
inductive Instr where
  -- register access (chapter 02)
  | registerWrite (addr value : Word)
  | readClear (addr : Word)
  | pgTsLoRead (page : Page)
  | errorAcknowledge (page : Page) (value : Word)
  | setLock (page : Page) (key : BitVec 16)
  | clearLock (page : Page) (key : BitVec 16)
  | setSeal (page : Page) (key : BitVec 16)
  | clearSeal (page : Page) (key : BitVec 16)
  | draughtUnlock (page : Page) (key : BitVec 16)
  -- opcodes at their point of effect (chapter 11)
  | zoneInputsConfiguration (x : Exec)
  | zoneMode (x : Exec)
  | zoneSetpoints (x : Exec)
  | loopConfiguration (x : Exec)
  | actuatorMap (x : Exec)
  | manualOutputLevels (x : Exec)
  | outputConfiguration (x : Exec)
  | panelConfiguration (x : Exec)
  | relayPulse (x : Exec)
  | pulseEnd (p : Phys) (j : Out) (how : PulseEnd)
  | electricalConfiguration (x : Exec)
  | electricalCalibration (x : Exec)
  | heatAndFlowConfiguration (x : Exec)
  | autotuneStart (x : Exec)
  | autotuneAbort (x : Exec)
  | timeZoneRule (x : Exec)
  | weeklyEvents (x : Exec)
  | exceptionDates (x : Exec)
  | tariffBands (x : Exec)
  | policyConfiguration (x : Exec)
  | occupancyLearnerReset (x : Exec)
  | intervalLength (x : Exec)
  | recordAcknowledge (x : Exec)
  | demandReset (x : Exec)
  | waveformCapture (x : Exec)
  | setHouseTime (x : Exec) (elapsed : Nat)
  | adjustHouseTime (x : Exec)
  | hourShift (x : Exec)
  | timeSource (x : Exec)
  | rateTrim (x : Exec)
  | powerStateRequest (x : Exec)
  | migrateZone (x : Exec) (checks : List TargetCheck)
  | sliceSelfTest (x : Exec) (result : BitVec 11)
  | hallwayCalibration (x : Exec) (measured : List PathMeas)
  | sliceMapChange (x : Exec) (result : BitVec 11) (checks : List TargetCheck)
  | repairPolicy (x : Exec)
  | mramBankReturn (x : Exec) (pass : Bool) (remapped : List (Fin 8192))
  | moduleState (x : Exec)
  | sourceRelease (x : Exec)
  | journalConfiguration (x : Exec)
  | busPortConfiguration (x : Exec)
  | noOperation (path : Path) (source : BitVec 16) (seq : BitVec 32) (payload : List Byte)
  | moduleReset (x : Exec)
  | builtInTest (x : Exec) (result : Word) (pass : Bool)
  | testError (x : Exec)
  -- test access port (R7)
  | bypass
  | idcode
  | samplePreload (pins : BitVec 32)
  | extest (pins : BitVec 32)
  -- journal (chapter 10)
  | inboxHandover (lseq : Nat)
  | finalResultWrite (lseq : Nat)
  | tickApply (z : Zone) (lseq : Nat)
  | census (lseq : Nat)
  | censusRetry (lseq : Nat)
  | censusFinal (lseq : Nat)
  | engineTakeover (role : Role)
  | guestbookQuery (seq : Word)
  | larderEntryCopy (lseq : Word)
  | pchSrcIdRead
  -- intervals and records (chapter 06)
  | intervalClose (z : Zone)
  | ilenTakeEffect
  | windowLoad (seq : Word) (bad : List Nat)
  | windowCopyDone
  | checkpoint (p : Phys)
  | meterPosting (p : Phys)
  -- supply and start (chapters 01, 17)
  | sliceRegulatorTrip (p : Phys)
  | powerLossWarning (w : Warning)
  | supplyOutOfRange (vin : Nat)
  | startUp (x : StartInfo)
  | holdupTimeout
  | precharge
  -- zone inputs (chapter 03)
  | ziTRead (v : View) (n : Fin 4)
  | diagNow (v : View)
  | humidityUpdate (p : Phys) (cap leak : Nat)
  | prdRawEdge (p : Phys) (level : Bool)
  | prdEdgeAccepted (p : Phys)
  | praSample (p : Phys) (dc : Nat) (band : Int) (ms : Nat)
  | praInactive (p : Phys)
  | praLevelFault (p : Phys)
  | presenceStuck (p : Phys) (pra : Bool)
  | chatterClear (p : Phys) (input : ChatInput) (raw : Bool)
  | diagWindowEnd (p : Phys) (n : Fin 4) (noise : Rat) (meanR meanT : Rat)
  | diagOffSegmentEnd (p : Phys) (n : Fin 4) (noise : Rat) (meanR meanT : Rat)
  -- converters (chapter 04)
  | sequenceTrigger (p : Phys) (q : Fin 4) (src : TrigSource)
  | sequenceHostTrigger (v : View)
  | sequenceDisable (v : View) (value : Word)
  | conversionComplete (p : Phys) (adc : Fin 2) (d : ConvData)
  | urgentRequest (p : Phys) (host : Bool) (cfg : Word)
  | sequenceActiveTimeout (p : Phys) (q : Fin 4)
  | trimUpdate (p : Phys) (ofsErr gainErr : Int)
  | skewUpdate (p : Phys) (skewErr : Int) (slopeOk : Bool)
  | calConvergeTimeout (p : Phys)
  | zcEntLoRead (v : View) (k : Fin 32)
  | zcUrgLoRead (v : View)
  | zcTsNowRead (v : View)
  -- electrical meter (chapter 05)
  | windowPublish (p : Phys) (grid : List Rat)
  | zeStatRead (v : View)
  | zeHarmStatRead (v : View)
  | zeAccTsLoRead (v : View)
  | zeDmdRead (v : View)
  | captureArm (v : View)
  | captureHostTrigger (v : View)
  | captureStop (v : View)
  | fastDriverSwitch (p : Phys)
  | zeCapDataRead (v : View)
  -- heat and water (chapter 06)
  | flowPulse (p : Phys) (n : Fin 2) (period : Nat)
  | flowRateTimeout (p : Phys) (n : Fin 2)
  | flowOvr (p : Phys) (n : Fin 2) (rate : Nat)
  | leakHourCheck (p : Phys)
  | zhStatRead (v : View)
  | zhAccTsLoRead (v : View)
  -- loops (chapter 07)
  | loopTick (p : Phys)
  | timedModeExpiry (p : Phys)
  | sensorLossTimeout (p : Phys)
  | modelStep (p : Phys)
  | outdoorStale
  | autotuneStepTimeout (p : Phys)
  | zlStatRead (v : View)
  | zlModelRead (v : View) (cool : Bool)
  -- schedule and planner (chapter 08)
  | alarmFire (p : Phys) (kind : AlarmKind) (instant : Nat)
  | occHoldExpiry (p : Phys)
  | learnerUpdate (p : Phys) (bin : Fin 672) (active total : Nat)
  | tariffExpiry (p : Phys)
  | planStart (p : Phys)
  | planComplete (p : Phys)
  | planOverrun (p : Phys)
  | schAlmRead (v : View)
  | zpStatRead (v : View)
  -- outputs (chapter 09)
  | aoLimitTimeout (p : Phys) (j : Out)
  | doOvercurrentTrip (p : Phys) (j : Out)
  | doRetry (p : Phys) (j : Out)
  | overcurrentClear (v : View) (j : Out)
  | doOpenLoad (p : Phys) (j : Out)
  | aoReadbackMismatch (p : Phys) (j : Out) (off : Bool)
  | tachPulse (p : Phys) (period : Nat)
  | fanStall (p : Phys)
  | outputRelease (v : View) (j : Out)
  | zoStatRead (v : View)
  -- panel (chapter 09)
  | keyScan (p : Phys) (raw : BitVec 16)
  | keyLong (p : Phys) (k : Fin 16)
  | keyStuck (p : Phys) (k : Fin 16)
  | keyRepeat (p : Phys) (k : Fin 16)
  | encoderEdge (p : Phys) (a b : Bool)
  | zkStatRead (v : View)
  | zkEvtLoRead (v : View)
  -- host link and SPI (chapter 12)
  | linkTrainingSet (set : TrainSet) (lane : Fin 4) (mask : BitVec 4) (complete : Bool)
  | detectTimeout
  | trainingTimeout
  | noLaneTimeout
  | linkRetrain (lanes : BitVec 4)
  | linkRead (tag : BitVec 8) (rtx : Bool) (addr : Word) (count : Nat)
  | linkWrite (tag : BitVec 8) (rtx : Bool) (addr : Word) (data : List Word)
  | linkCommand (tag : BitVec 8) (rtx : Bool) (envelope : Envelope)
  | creditReturn
  | hlStatRead
  | spiRead (addr : Word) (count : Nat)
  | spiWrite (addr : Word) (data : List Word)
  | spiCommand (envelope : Envelope)
  | fetchLate
  | spiAbandon (complete : Bool)
  -- building bus (chapter 13)
  | busCommandSegment (port : Port) (bits : List Bool)
  | xferTimeout (port : Port) (node : BitVec 8)
  | frameTxEnd (port : Port) (o : TxOutcome) (sof : Nat)
  | probeSend (port : Port)
  | integrationComplete (port : Port)
  | busOffRecovery (port : Port)
  | dominantTimeout (port : Port) (own : Bool)
  | hostFrame (port : Port) (bits : List Bool) (sof : Nat)
  | fbRxHdrRead (port : Port)
  | txSend (port : Port)
  | txCancel (port : Port) (started : Bool)
  | knock (port : Port)
  | fbStatRead (port : Port)
  | outdoor (port : Port) (bits : List Bool)
  | syncSend (port : Port)
  | sync (port : Port) (bits : List Bool) (sof : Nat)
  | followUp (port : Port) (bits : List Bool)
  | followUpTimeout (port : Port)
  | delayReqSend (port : Port)
  | delayReq (port : Port) (bits : List Bool) (sof : Nat)
  | delayResp (port : Port) (bits : List Bool)
  | syncLost (port : Port)
  | yieldEnd (port : Port)
  | busPortReconfigure (port : Port)
  -- time and cellar (chapter 14)
  | oscillatorStop
  | trimWindow
  | railLockout
  | railSwitchover
  | railRecover
  | railReconnect
  | cellMeasure (mv : Nat)
  | retentionRecovery
  | calendarTick
  | calendarLoad
  | clrSubsecRead
  | stepEdge
  | calendarRewrite
  | disciplineMessage (p : Phys) (gain : Int)
  | pchTsNowLoRead
  | pchTsStepRead
  | zxNowLoRead (v : View)
  -- power and thermal (chapter 15)
  | handshakeAnswer (vote : Vote) (reason : BitVec 8)
  | handshakeDelayRetry
  | handshakeTimeout
  | entryBoundaryDefer
  | entryBoundaryAbort
  | wakeEvent (src : WakeSrc) (bad : List Phys)
  | wakeTimerExpiry (bad : List Phys)
  | wakeEventDelivery
  | pwrCenStatRead
  | landingLogCopy (sel : BitVec 4)
  | pwrSupplyRead
  | clrWakeEvtLoRead
  | dieSensorSample (t1 t2 t3 : Int)
  | thStatRead
  -- faults, repair, ageing (chapter 16)
  | heartbeatMiss (p : Phys)
  | sramUncorrectable (p : Phys)
  | sramScrub (p : Phys) (corrected : Nat) (column : Bool)
  | spareDailySelfTest (p : Phys) (result : BitVec 11)
  | repairStart (z : Zone) (checks : List TargetCheck)
  | migrationHold (checks : List TargetCheck)
  | pathRecalibration (m : PathMeas)
  | pathExpiry (z : Zone) (spare : Fin 4)
  | pathRecordCopy (z : Zone) (spare : Fin 4)
  | mramScrub (bank : Fin 2) (row : Fin 8192) (found : RowFinding)
  | collectorFlush
  | collectorEntryCopy (eseq : Word)
  | stressAccumulate (p : Phys) (dieTemp : Rat)
  | wearEvaluation (w : List SliceGauges) (cap esr : Nat)
  | zwStatRead (v : View)
  | pchStateRead
  | pchBitRead
  -- rows added at the table's end
  | packetDiscarded (why : Discard)
  | laneSymbolError (lane : Fin 4) (consecutive inWindow : Nat)
  | spiRequestError (why : SpiError)
  | frameReceiveError (port : Port) (e : RxError) (dominantAfterFlag : Bool)
  | otherFrameReceived (port : Port) (bits : List Bool)
  | inputPulseRejected (p : Phys) (input : PulseInput)
  | sliceClockCalibrationFailed (p : Phys)
  | slewComplete
  deriving DecidableEq, Repr

end Sys2Proof
end

