-- ==== Sys2Proof/Config.lean ====
section
/-! DEFINITION. What the manual fixes for one module and what it leaves open. A constant with a body is a figure of
the manual; an opaque constant is a FREE VALUE: nothing can prove which value it takes, so a theorem about it holds
for every value (notes/assumptions 1 to 9). -/
namespace Sys2Proof.Config

/-! ### Real functions of the manual's formulas (notes/assumptions/1)
The formulas of R81, R82, R89, R96, R161, R243, R236, R533 use real functions; the manual states no finite precision,
so each is a free function on the rationals. -/

/-- The natural logarithm of R81, R89 and R236, as the firmware computes it. -/
opaque ln : Rat → Rat
/-- The exponential of R236 (a = exp(-Ts/τ)) and R533. -/
opaque exp : Rat → Rat
/-- The square root of R82, R96, R161, R239, R243. -/
opaque sqrt : Rat → Rat
/-- The sine of R161. -/
opaque sin : Rat → Rat
/-- The cosine of R161. -/
opaque cos : Rat → Rat
/-- The arcsine of R243. -/
opaque asin : Rat → Rat
/-- The arctangent of R243. -/
opaque atan : Rat → Rat
/-- The time t at which t − τ·(1 − exp(−t/τ)) reaches a value: a first-order zone driven by a ramp (R40, R235); τ and the
value. -/
opaque rampCross : Rat → Rat → Rat
/-- The circle constant as the firmware holds it (R243). -/
opaque pi : Rat
/-- The 90 % quantile of Student's law by its degrees of freedom, for the one-sided prediction bound of R535. -/
opaque studentT : Nat → Rat
/-- The quantile of the chi-squared law used by R535: argument p and degrees of freedom. -/
opaque chi2 : Rat → Nat → Rat

/-! ### Rounding (notes/assumptions/2) -/

/-- How a value between two register units is brought to a unit where the manual states no rounding. -/
opaque roundFree : Rat → Int

/-- A value in register units: exact where it is a whole number of units, free between two units. -/
def toUnits (q : Rat) : Int := if q.den = 1 then q.num else roundFree q

/-- The nearest whole number of units ("rounded to the nearest unit", R264); free on a tie. -/
def nearest (q : Rat) : Int := if (q + 1 / 2).den = 1 then roundFree q else (q + 1 / 2).floor

/-! ### Signal processing whose discrete form the manual does not give (notes/assumptions/3) -/

/-- One step of the 0.5 Hz first-order high-pass of R157 step 3: previous output, previous input, new input, spacing
[1/64 µs]. -/
opaque highPass : Rat → Rat → Rat → Nat → Rat
/-- The current of R157 step 4 at a delay: the filtered current with its hold edges, newest first, and the delay [1/64 µs]. -/
opaque delayCurrent : List (Nat × Rat) → Rat → Rat
/-- A channel resampled at an instant from its samples (R169). -/
opaque resample : List (Nat × Rat) → Rat → Rat
/-- What the firmware shows for a quotient or an angle whose divisor or vector is 0, which the manual does not state: the
magnitude of a harmonic, THD and a phase without a fundamental (R169), DPF without a fundamental (R161). -/
opaque overZero : Nat → Rat

/-- The diagonal of the covariance to which COMMIT resets the recursive model (R242). -/
opaque rlsStart : Rat

/-! ### Per-module values (R22, R576, R129; notes/assumptions/4) -/

/-- VARIANT of PCH_MOD_ID, 0 or 1 (R1, R576). -/
opaque variant : BitVec 4
/-- The 64-bit serial number of R576. -/
opaque serial : BitVec 64
/-- The IDCODE register of the test access port (R7 names the instruction, no rule gives the value). -/
opaque idcode : BitVec 32
/-- What R129 leaves to the firmware in entry k of SQ1 or SQ2: a word of which only the fields that no rule states are
used. -/
opaque defaultEntry : Nat → BitVec 32
/-- The DEC that the firmware chooses for a temperature input from its FILT (R129). -/
opaque filtDec : Nat → Nat
/-- The pseudo-random dither charge of a converter's n-th conversion (R133), by slice and converter, its own seed with it;
used within −256 … +255 LSB16. -/
opaque dither : Nat → Nat → Nat → Int
/-- The band calibration of a converter (R114, R118): slice, converter, band, value in codes. -/
opaque bandCal : Nat → Nat → Nat → Rat → Rat
/-- The factory-trimmed reference resistance of the band's calibration set [mΩ] (R79). -/
opaque refOhm : Nat → Rat
/-- The clock at which the hearth of a slice meets its deadlines in DOZE [MHz] (R484); used within 50 … 250. -/
opaque dozeMhz : Nat → Nat
/-- Word `i` of a record of which both copies fail their CRC, by its SEQ: the manual gives it no value (R209). -/
opaque lostWord : Nat → Nat → Word
/-- The factory crystal curve at a die temperature, as a rate correction [0.01 ppm] (R472). -/
opaque crystalCurve : Rat → Int

/-! ### Free values after steps the manual leaves open (notes/assumptions/5) -/

/-- A free word; the argument is the state's counter of free values taken. -/
opaque freeWord : Nat → BitVec 32
/-- A free fraction; it is used limited to 0 … 1. -/
opaque freeFrac : Nat → Rat
/-- The contents the retained or rebuilt state takes where no rule states them, as a natural. -/
opaque freeNat : Nat → Nat

/-! ### Figures of the manual -/

/-- Records held by the record store (R204). -/
def storeSize : Nat := 98304
/-- Records of the fetch window (R207). -/
def windowSize : Nat := 378
/-- Entries of the larder ring (R337). -/
def larderSize : Nat := 8192
/-- Entries of the guestbook (R334). -/
def guestbookSize : Nat := 8192
/-- Source slots of the guestbook (R333). -/
def slotCount : Nat := 256
/-- Entries kept free for markers (R341). -/
def markerReserve : Nat := 256
/-- Commands one slice inbox holds (R344). -/
def inboxSize : Nat := 32
/-- Entries of the collector log (R513). -/
def collectorSize : Nat := 4096
/-- Entries of the collector buffer (R514). -/
def collectorBuffer : Nat := 64
/-- Words of the capture buffer (R176). -/
def captureSize : Nat := 65536
/-- Receive buffers of the host link (R400). -/
def linkBuffers : Nat := 64
/-- Frames of a bus transmit queue and of a host receive FIFO (R432, R455). -/
def busQueue : Nat := 16
/-- Panel events queued (R313). -/
def panelQueue : Nat := 16
/-- Completion answers queued for the SPI fallback (R408). -/
def spiLateQueue : Nat := 16
/-- Wake events queued (R496) and landing log entries kept (R492). -/
def wakeQueue : Nat := 16

end Sys2Proof.Config
end

