-- ==== Sys2Proof/Machine/Bits.lean ====
section
/-! DEFINITION. Bit fields of register words (R12, R15), little-endian bytes (R13), the CRC-32 of R8, the binary32
images of R155 and R372, saturating counters and the roundings the manual states. -/
namespace Sys2Proof.Machine

/-- Bits [hi:lo] of a word (R12). -/
def fieldOf (w : Word) (hi lo : Nat) : Nat := (w.toNat >>> lo) % 2 ^ (hi + 1 - lo)

/-- A word with bits [hi:lo] replaced by the low bits of `v`. -/
def putField (w : Word) (hi lo v : Nat) : Word :=
  BitVec.ofNat 32 (w.toNat - (fieldOf w hi lo) * 2 ^ lo + (v % 2 ^ (hi + 1 - lo)) * 2 ^ lo)

/-- The low `n` bits of a natural read as a two's-complement number. -/
def signedOf (n v : Nat) : Int :=
  let m := v % 2 ^ n
  if m < 2 ^ (n - 1) then (m : Int) else (m : Int) - (2 ^ n : Nat)

/-- The `n`-bit two's-complement image of an integer (wrapping). -/
def imageOf (n : Nat) (i : Int) : Nat := (i % (2 ^ n : Nat)).toNat

/-- An integer limited to lo … hi. -/
def clampInt (lo hi i : Int) : Int := if i < lo then lo else if hi < i then hi else i

/-- A rational limited to lo … hi. -/
def clampRat (lo hi q : Rat) : Rat := if q < lo then lo else if hi < q then hi else q

/-- A count limited to `n` bits (a saturating counter). -/
def satTo (n v : Nat) : Nat := min v (2 ^ n - 1)

/-- Bit `i` of a natural. -/
def bitOf (v i : Nat) : Bool := v / 2 ^ i % 2 = 1

/-- A Bool as the value of a one-bit field. -/
def bit1 (b : Bool) : Nat := if b then 1 else 0

/-! ### Bytes (R13) -/

/-- The number a byte list spells, least significant byte first (R13). -/
def leNat : List Byte → Nat
  | [] => 0
  | b :: bs => b.toNat + 256 * leNat bs

/-- The `n` bytes of a number, least significant first (R13). -/
def leBytes : Nat → Nat → List Byte
  | 0, _ => []
  | n + 1, v => BitVec.ofNat 8 v :: leBytes n (v / 256)

/-- `n` bytes at offset `o` as a number; a byte that is not present counts as 0. -/
def leAt (p : List Byte) (o n : Nat) : Nat := leNat ((p.drop o).take n)

/-- The little-endian word at offset `o`. -/
def wordAt (p : List Byte) (o : Nat) : Word := BitVec.ofNat 32 (leAt p o 4)

/-- The words of a byte list, the last one padded with zero bytes. -/
def leWords (n : Nat) (p : List Byte) : List Word := (List.range n).map (fun i => wordAt p (4 * i))

/-! ### CRC-32 (R8) -/

/-- One bit of the reflected CRC-32 of polynomial 0x04C1_1DB7 (R8). -/
def crcBit (c : BitVec 32) : BitVec 32 :=
  if c.getLsbD 0 then (c >>> 1) ^^^ 0xEDB88320#32 else c >>> 1

/-- One byte of the CRC-32 of R8. -/
def crcByte (c : BitVec 32) (b : Byte) : BitVec 32 :=
  crcBit (crcBit (crcBit (crcBit (crcBit (crcBit (crcBit (crcBit (c ^^^ b.setWidth 32))))))))

/-- The CRC-32 of a byte list (R8): initial value all ones, reflected, the result complemented. -/
def crc32 (bs : List Byte) : BitVec 32 := ~~~ (bs.foldl crcByte 0xFFFFFFFF#32)

/-! ### binary32 (R155, R372) -/

/-- Whether a binary32 image is finite and above 0 (R372). -/
def f32Positive (w : Word) : Bool :=
  fieldOf w 31 31 = 0 && fieldOf w 30 23 != 255 && fieldOf w 30 0 != 0

/-- The value of a finite binary32 image. -/
def f32Value (w : Word) : Rat :=
  let e := fieldOf w 30 23
  let m := fieldOf w 22 0
  let mag : Rat :=
    if e = 0 then (m : Rat) / ((2 : Rat) ^ 149)
    else if e < 150 then ((m + 2 ^ 23 : Nat) : Rat) / ((2 : Rat) ^ (150 - e))
    else ((m + 2 ^ 23 : Nat) : Rat) * ((2 : Rat) ^ (e - 150))
  if fieldOf w 31 31 = 1 then -mag else mag

/-! ### Roundings -/

/-- The nearest integer, halves away from zero (R125). -/
def roundAway (q : Rat) : Int :=
  if q < 0 then -((-q + 1 / 2).floor) else (q + 1 / 2).floor

/-- The integer part towards zero. -/
def truncRat (q : Rat) : Int := if q < 0 then -((-q).floor) else q.floor

/-- The mean of a list of rationals; 0 for the empty list. -/
def meanOf (l : List Rat) : Rat := if l.isEmpty then 0 else l.foldl (· + ·) 0 / l.length

/-- The largest absolute value of a rational. -/
def absRat (q : Rat) : Rat := if q < 0 then -q else q

end Sys2Proof.Machine
end

