-- ==== Sys2Proof/Machine/Store.lean ====
section
/-! DEFINITION. Sparse stores in one canonical form: lists of (key, item) pairs with strictly rising keys. -/
namespace Sys2Proof.Machine

/-- A sparse store: pairs with strictly rising keys. -/
abbrev SMap (α : Type) := List (Nat × α)

/-- The item at a key. -/
def smFind {α : Type} : SMap α → Nat → Option α
  | [], _ => none
  | (j, a) :: m, k => if k = j then some a else smFind m k

/-- The store with `a` at key `k`, in canonical form. -/
def smPut {α : Type} : SMap α → Nat → α → SMap α
  | [], k, a => [(k, a)]
  | (j, b) :: m, k, a =>
    if k = j then (k, a) :: m else if k < j then (k, a) :: (j, b) :: m else (j, b) :: smPut m k a

/-- The store without key `k`. -/
def smErase {α : Type} : SMap α → Nat → SMap α
  | [], _ => []
  | (j, b) :: m, k => if k = j then smErase m k else (j, b) :: smErase m k

/-- Strictly rising keys, all above `lo`. -/
def smAbove {α : Type} : Nat → SMap α → Bool
  | _, [] => true
  | lo, (j, _) :: m => decide (lo < j) && smAbove j m

/-- The canonical form of a sparse store. -/
def smWf {α : Type} : SMap α → Bool
  | [] => true
  | (j, _) :: m => smAbove j m

end Sys2Proof.Machine
end

