-- ==== Sys2Proof/Machine/RegMap.lean ====
section
/-! DEFINITION. The register maps of the manual's chapters as data: where each register stands, its fields, its access
types and its reset value (R44 to R47, R53 and the register map of each chapter). A slice register is named by the
address it has in slice S00 (page 0x00100 + sub); the slice is chosen by the state. -/
namespace Sys2Proof.Machine

/-- A register of a map: the address of its first instance, the distance of instances and their number, its reset
value and the masks of its writable (RW), write-one-to-clear, read-to-clear and write-only fields (R53). -/
structure RegDef where
  key    : Nat
  stride : Nat
  count  : Nat
  reset  : Nat
  rw     : Nat
  w1c    : Nat
  rc     : Nat
  wo     : Nat
  deriving DecidableEq, Repr

/-- A field of a register: the address of the register's first instance, the distance of instances, bits [hi:lo]. -/
structure Fld where
  key    : Nat
  stride : Nat
  hi     : Nat
  lo     : Nat
  deriving DecidableEq, Repr

/-- A register by the address of its first instance and the distance of its instances. -/
structure Reg where
  key    : Nat
  stride : Nat
  deriving DecidableEq, Repr

/-- The address of instance `i` of a register. -/
def Reg.at (r : Reg) (i : Nat) : Nat := r.key + r.stride * i

/-- The address of the register that holds instance `i` of a field. -/
def Fld.at (x : Fld) (i : Nat) : Nat := x.key + x.stride * i

/-! ### Registers, by the names of the manual -/
namespace R
def ZI_STAT : Reg := ⟨0x101040, 0x0⟩
def ZI_DIAG_CFG : Reg := ⟨0x101044, 0x0⟩
def ZI_HUM_CFG_1 : Reg := ⟨0x101048, 0x0⟩
def ZI_HUM_CFG_2 : Reg := ⟨0x10104C, 0x0⟩
def ZI_HUM : Reg := ⟨0x101050, 0x0⟩
def ZI_HUM_CAP : Reg := ⟨0x101054, 0x0⟩
def ZI_PRES_CFG : Reg := ⟨0x101058, 0x0⟩
def ZI_PRES : Reg := ⟨0x10105C, 0x0⟩
def ZI_PRES_CNT : Reg := ⟨0x101060, 0x0⟩
def ZI_CTRL : Reg := ⟨0x101064, 0x0⟩
def ZI_TCFG_n : Reg := ⟨0x101080, 0x20⟩
def ZI_T_n : Reg := ⟨0x101084, 0x20⟩
def ZI_THR_n : Reg := ⟨0x101088, 0x20⟩
def ZI_TRES_n : Reg := ⟨0x10108C, 0x20⟩
def ZI_TNOISE_n : Reg := ⟨0x101090, 0x20⟩
def ZI_TPAR_A_n : Reg := ⟨0x101094, 0x20⟩
def ZI_TPAR_B_n : Reg := ⟨0x101098, 0x20⟩
def ZI_TPAR_C_n : Reg := ⟨0x10109C, 0x20⟩
def ZC_STAT : Reg := ⟨0x102040, 0x0⟩
def ZC_TIMING : Reg := ⟨0x102044, 0x0⟩
def ZC_CTRL : Reg := ⟨0x102048, 0x0⟩
def ZC_URG_CFG : Reg := ⟨0x10204C, 0x0⟩
def ZC_DROP : Reg := ⟨0x102050, 0x0⟩
def ZC_ABORT : Reg := ⟨0x102054, 0x0⟩
def ZC_TS_NOW : Reg := ⟨0x102058, 0x0⟩
def ZC_TS_EPOCH_LO : Reg := ⟨0x10205C, 0x0⟩
def ZC_TS_EPOCH_HI : Reg := ⟨0x102060, 0x0⟩
def ZC_CAL_STAT : Reg := ⟨0x102064, 0x0⟩
def ZC_CAL_OFS : Reg := ⟨0x102068, 0x0⟩
def ZC_CAL_GAIN : Reg := ⟨0x10206C, 0x0⟩
def ZC_CAL_SKEW : Reg := ⟨0x102070, 0x0⟩
def ZC_SEQ_q : Reg := ⟨0x102080, 0x10⟩
def ZC_SEQ_PER_q : Reg := ⟨0x102084, 0x10⟩
def ZC_SEQ_PH_q : Reg := ⟨0x102088, 0x10⟩
def ZC_SEQ_STAT_q : Reg := ⟨0x10208C, 0x10⟩
def ZC_ENT_CFG_k : Reg := ⟨0x102100, 0x4⟩
def ZC_ENT_k_LO : Reg := ⟨0x103040, 0x8⟩
def ZC_ENT_k_HI : Reg := ⟨0x103044, 0x8⟩
def ZC_ENTB_k_LO : Reg := ⟨0x103140, 0x8⟩
def ZC_ENTB_k_HI : Reg := ⟨0x103144, 0x8⟩
def ZC_URG_LO : Reg := ⟨0x103240, 0x0⟩
def ZC_URG_HI : Reg := ⟨0x103244, 0x0⟩
def ZE_STAT : Reg := ⟨0x104040, 0x0⟩
def ZE_CFG : Reg := ⟨0x104044, 0x0⟩
def ZE_SCALE_V : Reg := ⟨0x104048, 0x0⟩
def ZE_SCALE_I : Reg := ⟨0x10404C, 0x0⟩
def ZE_CAL_VGAIN : Reg := ⟨0x104050, 0x0⟩
def ZE_CAL_IGAIN : Reg := ⟨0x104054, 0x0⟩
def ZE_CAL_PHASE : Reg := ⟨0x104058, 0x0⟩
def ZE_CT_j : Reg := ⟨0x104060, 0x4⟩
def ZE_FREQ : Reg := ⟨0x104080, 0x0⟩
def ZE_VRMS : Reg := ⟨0x104084, 0x0⟩
def ZE_IRMS : Reg := ⟨0x104088, 0x0⟩
def ZE_P : Reg := ⟨0x10408C, 0x0⟩
def ZE_Q : Reg := ⟨0x104090, 0x0⟩
def ZE_S : Reg := ⟨0x104094, 0x0⟩
def ZE_PF : Reg := ⟨0x104098, 0x0⟩
def ZE_DMD : Reg := ⟨0x10409C, 0x0⟩
def ZE_DMD_MAX : Reg := ⟨0x1040A0, 0x0⟩
def ZE_DMD_MAX_TS_LO : Reg := ⟨0x1040A4, 0x0⟩
def ZE_DMD_MAX_TS_HI : Reg := ⟨0x1040A8, 0x0⟩
def ZE_NPAIRS : Reg := ⟨0x1040AC, 0x0⟩
def ZE_SYNTH : Reg := ⟨0x1040B0, 0x0⟩
def ZE_ACC_TS_LO : Reg := ⟨0x1040C0, 0x0⟩
def ZE_ACC_TS_HI : Reg := ⟨0x1040C4, 0x0⟩
def ZE_ACC_a_LO : Reg := ⟨0x1040C8, 0x8⟩
def ZE_ACC_a_HI : Reg := ⟨0x1040CC, 0x8⟩
def ZE_HARM_STAT : Reg := ⟨0x104100, 0x0⟩
def ZE_THD : Reg := ⟨0x104104, 0x0⟩
def ZE_V1 : Reg := ⟨0x104108, 0x0⟩
def ZE_I1 : Reg := ⟨0x10410C, 0x0⟩
def ZE_HV_h : Reg := ⟨0x104204, 0x4⟩
def ZE_HI_h : Reg := ⟨0x104304, 0x4⟩
def ZE_CAP_CFG : Reg := ⟨0x104400, 0x0⟩
def ZE_CAP_CTRL : Reg := ⟨0x104404, 0x0⟩
def ZE_CAP_STAT : Reg := ⟨0x104408, 0x0⟩
def ZE_CAP_TS_LO : Reg := ⟨0x10440C, 0x0⟩
def ZE_CAP_TS_HI : Reg := ⟨0x104410, 0x0⟩
def ZE_CAP_PTR : Reg := ⟨0x104414, 0x0⟩
def ZE_CAP_DATA : Reg := ⟨0x104418, 0x0⟩
def ZH_STAT : Reg := ⟨0x105040, 0x0⟩
def ZH_CFG : Reg := ⟨0x105044, 0x0⟩
def ZH_FL_CFG_n : Reg := ⟨0x105048, 0x4⟩
def ZH_FL_VPP_n : Reg := ⟨0x105050, 0x4⟩
def ZH_DT_OFS : Reg := ⟨0x105058, 0x0⟩
def ZH_WCFG : Reg := ⟨0x10505C, 0x0⟩
def ZH_TEMP : Reg := ⟨0x105060, 0x0⟩
def ZH_DT : Reg := ⟨0x105064, 0x0⟩
def ZH_FLOW_n : Reg := ⟨0x105068, 0x4⟩
def ZH_POWER : Reg := ⟨0x105070, 0x0⟩
def ZH_FAULT_T : Reg := ⟨0x105074, 0x0⟩
def ZH_FL_CNT : Reg := ⟨0x105078, 0x0⟩
def ZH_ACC_TS_LO : Reg := ⟨0x105080, 0x0⟩
def ZH_ACC_TS_HI : Reg := ⟨0x105084, 0x0⟩
def ZH_ACC_a_LO : Reg := ⟨0x105088, 0x8⟩
def ZH_ACC_a_HI : Reg := ⟨0x10508C, 0x8⟩
def ZL_STAT : Reg := ⟨0x106040, 0x0⟩
def ZL_SP_EFF : Reg := ⟨0x106044, 0x0⟩
def ZL_TCTL : Reg := ⟨0x106048, 0x0⟩
def ZL_DEMAND : Reg := ⟨0x10604C, 0x0⟩
def ZL_SP_COMF : Reg := ⟨0x106050, 0x0⟩
def ZL_SP_ECO : Reg := ⟨0x106054, 0x0⟩
def ZL_SP_MISC : Reg := ⟨0x106058, 0x0⟩
def ZL_TIMERS : Reg := ⟨0x10605C, 0x0⟩
def ZL_PI_H : Reg := ⟨0x106060, 0x0⟩
def ZL_PI_C : Reg := ⟨0x106064, 0x0⟩
def ZL_PI_S : Reg := ⟨0x106068, 0x0⟩
def ZL_CASC : Reg := ⟨0x10606C, 0x0⟩
def ZL_LIMIT : Reg := ⟨0x106070, 0x0⟩
def ZL_RET : Reg := ⟨0x106074, 0x0⟩
def ZL_LOSS : Reg := ⟨0x106078, 0x0⟩
def ZL_ACT_j : Reg := ⟨0x106080, 0x4⟩
def ZL_OUT_j : Reg := ⟨0x1060A0, 0x4⟩
def ZL_MODEL_H_1 : Reg := ⟨0x1060C0, 0x0⟩
def ZL_MODEL_H_2 : Reg := ⟨0x1060C4, 0x0⟩
def ZL_MODEL_C_1 : Reg := ⟨0x1060C8, 0x0⟩
def ZL_MODEL_C_2 : Reg := ⟨0x1060CC, 0x0⟩
def ZL_DIST_H : Reg := ⟨0x1060D0, 0x0⟩
def ZL_DIST_C : Reg := ⟨0x1060D4, 0x0⟩
def ZL_OUTDOOR : Reg := ⟨0x1060D8, 0x0⟩
def ZL_TUNE_STAT : Reg := ⟨0x1060E0, 0x0⟩
def ZL_TUNE_MEAS_1 : Reg := ⟨0x1060E4, 0x0⟩
def ZL_TUNE_MEAS_2 : Reg := ⟨0x1060E8, 0x0⟩
def ZL_TUNE_MEAS_3 : Reg := ⟨0x1060EC, 0x0⟩
def ZL_TRANSIT_H : Reg := ⟨0x1060F0, 0x0⟩
def ZL_TRANSIT_C : Reg := ⟨0x1060F4, 0x0⟩
def ZL_UPD_CNT : Reg := ⟨0x1060F8, 0x0⟩
def ZP_STAT : Reg := ⟨0x107040, 0x0⟩
def ZP_CFG_1 : Reg := ⟨0x107044, 0x0⟩
def ZP_CFG_2 : Reg := ⟨0x107048, 0x0⟩
def ZP_CFG_3 : Reg := ⟨0x10704C, 0x0⟩
def ZP_COEF : Reg := ⟨0x107050, 0x0⟩
def ZP_NOW : Reg := ⟨0x107054, 0x0⟩
def ZP_PLAN_TS_LO : Reg := ⟨0x107058, 0x0⟩
def ZP_PLAN_TS_HI : Reg := ⟨0x10705C, 0x0⟩
def ZP_COST_PLAN : Reg := ⟨0x107060, 0x0⟩
def ZP_COST_MODE : Reg := ⟨0x107064, 0x0⟩
def ZP_COST_DAY : Reg := ⟨0x107068, 0x0⟩
def ZP_UNPRICED : Reg := ⟨0x10706C, 0x0⟩
def ZP_CNT : Reg := ⟨0x107070, 0x0⟩
def ZP_STEP_k : Reg := ⟨0x107100, 0x4⟩
def ZP_OCC_w : Reg := ⟨0x107300, 0x4⟩
def SCH_STAT : Reg := ⟨0x108040, 0x0⟩
def SCH_TZ_1 : Reg := ⟨0x108044, 0x0⟩
def SCH_TZ_2 : Reg := ⟨0x108048, 0x0⟩
def SCH_TZ_3 : Reg := ⟨0x10804C, 0x0⟩
def SCH_LOCAL : Reg := ⟨0x108050, 0x0⟩
def SCH_NEXT : Reg := ⟨0x108054, 0x0⟩
def SCH_ALM : Reg := ⟨0x108058, 0x0⟩
def SCH_ALM_TS_LO : Reg := ⟨0x10805C, 0x0⟩
def SCH_ALM_TS_HI : Reg := ⟨0x108060, 0x0⟩
def SCH_ALM_CNT : Reg := ⟨0x108064, 0x0⟩
def SCH_EVT_k : Reg := ⟨0x108100, 0x4⟩
def SCH_EXC_m : Reg := ⟨0x108200, 0x4⟩
def ZT_STAT : Reg := ⟨0x109040, 0x0⟩
def ZT_VALID : Reg := ⟨0x109044, 0x0⟩
def ZT_PRICE_1 : Reg := ⟨0x109048, 0x0⟩
def ZT_PRICE_2 : Reg := ⟨0x10904C, 0x0⟩
def ZT_BAND_k_A : Reg := ⟨0x109100, 0x10⟩
def ZT_BAND_k_B : Reg := ⟨0x109104, 0x10⟩
def ZT_BAND_k_C : Reg := ⟨0x109108, 0x10⟩
def ZO_STAT : Reg := ⟨0x10A040, 0x0⟩
def ZO_CTRL : Reg := ⟨0x10A044, 0x0⟩
def ZO_GCFG : Reg := ⟨0x10A048, 0x0⟩
def ZO_TACH_CFG : Reg := ⟨0x10A04C, 0x0⟩
def ZO_TACH : Reg := ⟨0x10A050, 0x0⟩
def ZO_HOLD : Reg := ⟨0x10A054, 0x0⟩
def ZO_CNT : Reg := ⟨0x10A058, 0x0⟩
def ZO_CFG_j : Reg := ⟨0x10A060, 0x4⟩
def ZO_OUT_j : Reg := ⟨0x10A080, 0x4⟩
def ZO_MEAS_j : Reg := ⟨0x10A0A0, 0x4⟩
def ZK_STAT : Reg := ⟨0x10B040, 0x0⟩
def ZK_CFG : Reg := ⟨0x10B044, 0x0⟩
def ZK_KEYFN_1 : Reg := ⟨0x10B048, 0x0⟩
def ZK_KEYFN_2 : Reg := ⟨0x10B04C, 0x0⟩
def ZK_ENC_CFG : Reg := ⟨0x10B050, 0x0⟩
def ZK_KEYS : Reg := ⟨0x10B054, 0x0⟩
def ZK_FLAGS : Reg := ⟨0x10B058, 0x0⟩
def ZK_ENC : Reg := ⟨0x10B05C, 0x0⟩
def ZK_EVT_LO : Reg := ⟨0x10B060, 0x0⟩
def ZK_EVT_HI : Reg := ⟨0x10B064, 0x0⟩
def ZK_CNT : Reg := ⟨0x10B068, 0x0⟩
def ZW_SLC_STAT : Reg := ⟨0x100040, 0x0⟩
def ZW_SLC_TEST : Reg := ⟨0x100044, 0x0⟩
def ZW_SLC_TEST_TS_LO : Reg := ⟨0x100048, 0x0⟩
def ZW_SLC_TEST_TS_HI : Reg := ⟨0x10004C, 0x0⟩
def ZW_STAT : Reg := ⟨0x10C040, 0x0⟩
def ZW_STRESS : Reg := ⟨0x10C044, 0x0⟩
def ZW_G_RO : Reg := ⟨0x10C048, 0x0⟩
def ZW_G_SRAM : Reg := ⟨0x10C04C, 0x0⟩
def ZW_G_ADC : Reg := ⟨0x10C050, 0x0⟩
def ZW_G_REG : Reg := ⟨0x10C054, 0x0⟩
def ZW_DRV_j : Reg := ⟨0x10C060, 0x4⟩
def ZW_DO_SW_1 : Reg := ⟨0x10C080, 0x0⟩
def ZW_DO_SW_2 : Reg := ⟨0x10C084, 0x0⟩
def ZX_STAT : Reg := ⟨0x10D040, 0x0⟩
def ZX_NOW_LO : Reg := ⟨0x10D044, 0x0⟩
def ZX_NOW_HI : Reg := ⟨0x10D048, 0x0⟩
def ZX_ERR : Reg := ⟨0x10D04C, 0x0⟩
def ZX_RATE : Reg := ⟨0x10D050, 0x0⟩
def ZX_CNT : Reg := ⟨0x10D054, 0x0⟩
def PCH_RS_STAT : Reg := ⟨0x004040, 0x0⟩
def PCH_RS_CFG : Reg := ⟨0x004044, 0x0⟩
def PCH_RS_TAIL : Reg := ⟨0x004048, 0x0⟩
def PCH_RS_ACKED : Reg := ⟨0x00404C, 0x0⟩
def PCH_RS_WIN_SEQ : Reg := ⟨0x004050, 0x0⟩
def PCH_RS_WIN_STAT : Reg := ⟨0x004054, 0x0⟩
def PCH_RS_WIN_FIRST : Reg := ⟨0x004058, 0x0⟩
def PCH_RS_MERGED_LO : Reg := ⟨0x00405C, 0x0⟩
def PCH_RS_MERGED_HI : Reg := ⟨0x004060, 0x0⟩
def PCH_RS_CNT : Reg := ⟨0x004064, 0x0⟩
def PCH_DSP_STAT : Reg := ⟨0x002040, 0x0⟩
def PCH_DSP_CFG : Reg := ⟨0x002044, 0x0⟩
def PCH_DSP_ACC : Reg := ⟨0x002048, 0x0⟩
def PCH_DSP_CNT_1 : Reg := ⟨0x00204C, 0x0⟩
def PCH_DSP_CNT_2 : Reg := ⟨0x002050, 0x0⟩
def PCH_GB_STAT : Reg := ⟨0x002054, 0x0⟩
def PCH_SRC_SEL : Reg := ⟨0x002058, 0x0⟩
def PCH_SRC_ID : Reg := ⟨0x00205C, 0x0⟩
def PCH_SRC_HWM : Reg := ⟨0x002060, 0x0⟩
def PCH_GB_Q_SRC : Reg := ⟨0x002064, 0x0⟩
def PCH_GB_Q_SEQ : Reg := ⟨0x002068, 0x0⟩
def PCH_GB_Q_RES : Reg := ⟨0x00206C, 0x0⟩
def PCH_LD_STAT : Reg := ⟨0x003040, 0x0⟩
def PCH_LD_LAST : Reg := ⟨0x003044, 0x0⟩
def PCH_LD_TAIL : Reg := ⟨0x003048, 0x0⟩
def PCH_LD_TIME : Reg := ⟨0x00304C, 0x0⟩
def PCH_LD_REPLAY : Reg := ⟨0x003050, 0x0⟩
def PCH_LD_CNT : Reg := ⟨0x003054, 0x0⟩
def PCH_LD_SEL : Reg := ⟨0x003058, 0x0⟩
def PCH_LD_ENT_w : Reg := ⟨0x003080, 0x4⟩
def HL_STAT : Reg := ⟨0x00B040, 0x0⟩
def HL_TAGS : Reg := ⟨0x00B044, 0x0⟩
def HL_CTRL : Reg := ⟨0x00B048, 0x0⟩
def HL_EQ : Reg := ⟨0x00B04C, 0x0⟩
def HL_CNT_1 : Reg := ⟨0x00B050, 0x0⟩
def HL_CNT_2 : Reg := ⟨0x00B054, 0x0⟩
def HL_LANE_n : Reg := ⟨0x00B060, 0x4⟩
def HL_SPI_STAT : Reg := ⟨0x00C040, 0x0⟩
def HL_SPI_CNT : Reg := ⟨0x00C044, 0x0⟩
def FB_STAT : Reg := ⟨0x00D040, 0x1000⟩
def FB_CFG : Reg := ⟨0x00D044, 0x1000⟩
def FB_CTRL : Reg := ⟨0x00D048, 0x1000⟩
def FB_WAKE : Reg := ⟨0x00D04C, 0x1000⟩
def FB_CNT_1 : Reg := ⟨0x00D050, 0x1000⟩
def FB_CNT_2 : Reg := ⟨0x00D054, 0x1000⟩
def FB_CNT_3 : Reg := ⟨0x00D058, 0x1000⟩
def FB_FRAMES : Reg := ⟨0x00D05C, 0x1000⟩
def FB_TSYNC_CFG : Reg := ⟨0x00D060, 0x1000⟩
def FB_TSYNC_STAT : Reg := ⟨0x00D064, 0x1000⟩
def FB_TOFS : Reg := ⟨0x00D068, 0x1000⟩
def FB_TDLY : Reg := ⟨0x00D06C, 0x1000⟩
def FB_TX_ID : Reg := ⟨0x00D080, 0x1000⟩
def FB_TX_LEN : Reg := ⟨0x00D084, 0x1000⟩
def FB_TX_STAT : Reg := ⟨0x00D088, 0x1000⟩
def FB_RX_HDR : Reg := ⟨0x00D0C0, 0x1000⟩
def FB_RX_INFO : Reg := ⟨0x00D0C4, 0x1000⟩
def FB_RX_TS_LO : Reg := ⟨0x00D0C8, 0x1000⟩
def FB_RX_TS_HI : Reg := ⟨0x00D0CC, 0x1000⟩
def FB_TX_DATA_k : Reg := ⟨0x00D0A0, 0x4⟩
def FB_RX_DATA_k : Reg := ⟨0x00D0E0, 0x4⟩
def PCH_TS_STAT : Reg := ⟨0x008040, 0x0⟩
def PCH_TS_NOW_LO : Reg := ⟨0x008044, 0x0⟩
def PCH_TS_NOW_HI : Reg := ⟨0x008048, 0x0⟩
def PCH_TS_SLEW : Reg := ⟨0x00804C, 0x0⟩
def PCH_TS_RATE : Reg := ⟨0x008050, 0x0⟩
def PCH_TS_STEP : Reg := ⟨0x008054, 0x0⟩
def PCH_TS_STEP_TS_LO : Reg := ⟨0x008058, 0x0⟩
def PCH_TS_STEP_TS_HI : Reg := ⟨0x00805C, 0x0⟩
def PCH_TS_CNT : Reg := ⟨0x008060, 0x0⟩
def CLR_CAL_STAT : Reg := ⟨0x040040, 0x0⟩
def CLR_SUBSEC : Reg := ⟨0x040044, 0x0⟩
def CLR_DATE : Reg := ⟨0x040048, 0x0⟩
def CLR_TIME : Reg := ⟨0x04004C, 0x0⟩
def CLR_LD_DATE : Reg := ⟨0x040050, 0x0⟩
def CLR_LD_TIME : Reg := ⟨0x040054, 0x0⟩
def CLR_CTRL : Reg := ⟨0x040058, 0x0⟩
def CLR_TRIM : Reg := ⟨0x041040, 0x0⟩
def CLR_TRUST : Reg := ⟨0x041044, 0x0⟩
def CLR_SUPPLY : Reg := ⟨0x042040, 0x0⟩
def CLR_SW_CNT : Reg := ⟨0x042044, 0x0⟩
def PWR_STAT : Reg := ⟨0x009040, 0x0⟩
def PWR_CNT : Reg := ⟨0x009044, 0x0⟩
def PWR_LOG_SEL : Reg := ⟨0x009048, 0x0⟩
def PWR_LOG_1 : Reg := ⟨0x00904C, 0x0⟩
def PWR_LOG_2 : Reg := ⟨0x009050, 0x0⟩
def PWR_LOG_TS_LO : Reg := ⟨0x009054, 0x0⟩
def PWR_LOG_TS_HI : Reg := ⟨0x009058, 0x0⟩
def PWR_CEN_STAT : Reg := ⟨0x009060, 0x0⟩
def PWR_CEN_LSEQ : Reg := ⟨0x009064, 0x0⟩
def PWR_CEN_MISSED_LO : Reg := ⟨0x009068, 0x0⟩
def PWR_CEN_MISSED_HI : Reg := ⟨0x00906C, 0x0⟩
def PWR_CEN_LATE_LO : Reg := ⟨0x009070, 0x0⟩
def PWR_CEN_LATE_HI : Reg := ⟨0x009074, 0x0⟩
def PWR_HELD_w : Reg := ⟨0x009080, 0x4⟩
def PWR_SUPPLY : Reg := ⟨0x009090, 0x0⟩
def PWR_HOLDUP : Reg := ⟨0x009094, 0x0⟩
def PWR_START : Reg := ⟨0x009098, 0x0⟩
def TH_STAT : Reg := ⟨0x00A040, 0x0⟩
def TH_TEMP : Reg := ⟨0x00A044, 0x0⟩
def TH_SENS_n : Reg := ⟨0x00A048, 0x4⟩
def TH_PEAK : Reg := ⟨0x00A054, 0x0⟩
def TH_CNT : Reg := ⟨0x00A058, 0x0⟩
def TH_TIME : Reg := ⟨0x00A05C, 0x0⟩
def CLR_WAKE_STAT : Reg := ⟨0x043040, 0x0⟩
def CLR_WAKE_TIMER : Reg := ⟨0x043044, 0x0⟩
def CLR_WAKE_EVT_LO : Reg := ⟨0x043048, 0x0⟩
def CLR_WAKE_EVT_HI : Reg := ⟨0x04304C, 0x0⟩
def CLR_WAKE_CNT : Reg := ⟨0x043050, 0x0⟩
def PCH_EC_SUM : Reg := ⟨0x001040, 0x0⟩
def PCH_EC_LAST : Reg := ⟨0x001044, 0x0⟩
def PCH_EC_OLDEST : Reg := ⟨0x001048, 0x0⟩
def PCH_EC_CNT : Reg := ⟨0x00104C, 0x0⟩
def PCH_EC_SEL : Reg := ⟨0x001050, 0x0⟩
def PCH_EC_ENT_w : Reg := ⟨0x001080, 0x4⟩
def PCH_MR_STAT : Reg := ⟨0x00F040, 0x0⟩
def PCH_MR_BANK_b : Reg := ⟨0x00F044, 0x4⟩
def PCH_MR_CNT : Reg := ⟨0x00F04C, 0x0⟩
def PCH_RM_STAT : Reg := ⟨0x010040, 0x0⟩
def PCH_RM_POLICY : Reg := ⟨0x010044, 0x0⟩
def PCH_RM_CNT : Reg := ⟨0x010048, 0x0⟩
def PCH_CELL : Reg := ⟨0x01004C, 0x0⟩
def PCH_RM_S_s : Reg := ⟨0x010100, 0x4⟩
def HWY_STAT : Reg := ⟨0x050040, 0x0⟩
def HWY_MAP_z : Reg := ⟨0x050100, 0x4⟩
def HWY_CAL_STAT : Reg := ⟨0x051040, 0x0⟩
def HWY_CAL_SEL : Reg := ⟨0x051044, 0x0⟩
def HWY_CAL_PATH : Reg := ⟨0x051048, 0x0⟩
def HWY_CAL_RES_i : Reg := ⟨0x051080, 0x4⟩
def PCH_MOD_ID : Reg := ⟨0x000040, 0x0⟩
def PCH_SERIAL_LO : Reg := ⟨0x000044, 0x0⟩
def PCH_SERIAL_HI : Reg := ⟨0x000048, 0x0⟩
def PCH_STATE : Reg := ⟨0x00004C, 0x0⟩
def PCH_STATE_TS_LO : Reg := ⟨0x000050, 0x0⟩
def PCH_STATE_TS_HI : Reg := ⟨0x000054, 0x0⟩
def PCH_BIT : Reg := ⟨0x000058, 0x0⟩
def PCH_BIT_RES : Reg := ⟨0x00005C, 0x0⟩
def PCH_DRAUGHT_N : Reg := ⟨0x000060, 0x0⟩

end R

/-! ### Fields, by the names of the manual: `<register>_<field>` -/
namespace F
def ZI_STAT_BAND : Fld := ⟨0x101040, 0x0, 31, 29⟩
def ZI_STAT_TVALID : Fld := ⟨0x101040, 0x0, 27, 24⟩
def ZI_STAT_TSETTLE : Fld := ⟨0x101040, 0x0, 23, 20⟩
def ZI_STAT_TNOISY : Fld := ⟨0x101040, 0x0, 19, 16⟩
def ZI_STAT_HVALID : Fld := ⟨0x101040, 0x0, 15, 15⟩
def ZI_STAT_DVALID : Fld := ⟨0x101040, 0x0, 14, 14⟩
def ZI_STAT_PRES : Fld := ⟨0x101040, 0x0, 11, 11⟩
def ZI_STAT_PRES_FALLBACK : Fld := ⟨0x101040, 0x0, 10, 10⟩
def ZI_STAT_STUCK_PRA : Fld := ⟨0x101040, 0x0, 9, 9⟩
def ZI_STAT_STUCK_PRD : Fld := ⟨0x101040, 0x0, 8, 8⟩
def ZI_STAT_CHAT_PRA : Fld := ⟨0x101040, 0x0, 7, 7⟩
def ZI_STAT_CHAT_PRD : Fld := ⟨0x101040, 0x0, 6, 6⟩
def ZI_DIAG_CFG_THR_ON : Fld := ⟨0x101044, 0x0, 31, 24⟩
def ZI_DIAG_CFG_THR_OFF : Fld := ⟨0x101044, 0x0, 23, 16⟩
def ZI_DIAG_CFG_WINDOW : Fld := ⟨0x101044, 0x0, 15, 6⟩
def ZI_DIAG_CFG_OFF_EVERY : Fld := ⟨0x101044, 0x0, 5, 2⟩
def ZI_DIAG_CFG_EN : Fld := ⟨0x101044, 0x0, 0, 0⟩
def ZI_HUM_CFG_1_C0 : Fld := ⟨0x101048, 0x0, 31, 16⟩
def ZI_HUM_CFG_1_S : Fld := ⟨0x101048, 0x0, 15, 0⟩
def ZI_HUM_CFG_2_TREF : Fld := ⟨0x10104C, 0x0, 31, 30⟩
def ZI_HUM_CFG_2_TCOMP : Fld := ⟨0x10104C, 0x0, 29, 29⟩
def ZI_HUM_CFG_2_KT : Fld := ⟨0x10104C, 0x0, 15, 0⟩
def ZI_HUM_RH : Fld := ⟨0x101050, 0x0, 31, 16⟩
def ZI_HUM_DEW : Fld := ⟨0x101050, 0x0, 15, 0⟩
def ZI_HUM_CAP_LEAK : Fld := ⟨0x101054, 0x0, 31, 16⟩
def ZI_HUM_CAP_CAP : Fld := ⟨0x101054, 0x0, 15, 0⟩
def ZI_PRES_CFG_MODE : Fld := ⟨0x101058, 0x0, 31, 30⟩
def ZI_PRES_CFG_PRD_POL : Fld := ⟨0x101058, 0x0, 29, 29⟩
def ZI_PRES_CFG_PRD_FILT : Fld := ⟨0x101058, 0x0, 23, 14⟩
def ZI_PRES_CFG_STUCK_T : Fld := ⟨0x101058, 0x0, 13, 8⟩
def ZI_PRES_CFG_PRA_THR : Fld := ⟨0x101058, 0x0, 7, 0⟩
def ZI_PRES_PRA_DC : Fld := ⟨0x10105C, 0x0, 31, 16⟩
def ZI_PRES_PRA_MOTION : Fld := ⟨0x10105C, 0x0, 3, 3⟩
def ZI_PRES_PRA_ACT : Fld := ⟨0x10105C, 0x0, 2, 2⟩
def ZI_PRES_PRD_RAW : Fld := ⟨0x10105C, 0x0, 1, 1⟩
def ZI_PRES_PRD_ACC : Fld := ⟨0x10105C, 0x0, 0, 0⟩
def ZI_PRES_CNT_CHAT_CNT : Fld := ⟨0x101060, 0x0, 31, 24⟩
def ZI_PRES_CNT_STUCK_CNT : Fld := ⟨0x101060, 0x0, 23, 16⟩
def ZI_PRES_CNT_ACT_CNT : Fld := ⟨0x101060, 0x0, 15, 0⟩
def ZI_CTRL_DIAG_NOW : Fld := ⟨0x101064, 0x0, 4, 4⟩
def ZI_TCFG_n_TYPE : Fld := ⟨0x101080, 0x20, 31, 28⟩
def ZI_TCFG_n_ROLE : Fld := ⟨0x101080, 0x20, 27, 24⟩
def ZI_TCFG_n_METER : Fld := ⟨0x101080, 0x20, 23, 23⟩
def ZI_TCFG_n_FILT : Fld := ⟨0x101080, 0x20, 22, 20⟩
def ZI_TCFG_n_IEXC : Fld := ⟨0x101080, 0x20, 19, 18⟩
def ZI_TCFG_n_LEAD : Fld := ⟨0x101080, 0x20, 15, 0⟩
def ZI_T_n_VALID : Fld := ⟨0x101084, 0x20, 31, 31⟩
def ZI_T_n_SETTLING : Fld := ⟨0x101084, 0x20, 30, 30⟩
def ZI_T_n_HELD : Fld := ⟨0x101084, 0x20, 29, 29⟩
def ZI_T_n_NOISY : Fld := ⟨0x101084, 0x20, 28, 28⟩
def ZI_T_n_FAULT : Fld := ⟨0x101084, 0x20, 27, 24⟩
def ZI_T_n_IEXC_ACT : Fld := ⟨0x101084, 0x20, 17, 16⟩
def ZI_T_n_TEMP : Fld := ⟨0x101084, 0x20, 15, 0⟩
def ZC_STAT_ACT : Fld := ⟨0x102040, 0x0, 31, 28⟩
def ZC_STAT_PEND : Fld := ⟨0x102040, 0x0, 27, 24⟩
def ZC_STAT_A_PH : Fld := ⟨0x102040, 0x0, 23, 21⟩
def ZC_STAT_B_PH : Fld := ⟨0x102040, 0x0, 20, 18⟩
def ZC_STAT_URG : Fld := ⟨0x102040, 0x0, 17, 16⟩
def ZC_STAT_OWN_A : Fld := ⟨0x102040, 0x0, 15, 12⟩
def ZC_STAT_OWN_B : Fld := ⟨0x102040, 0x0, 11, 8⟩
def ZC_STAT_RATE_LIM : Fld := ⟨0x102040, 0x0, 1, 1⟩
def ZC_TIMING_FS_MHZ : Fld := ⟨0x102044, 0x0, 31, 24⟩
def ZC_TIMING_ACQMIN : Fld := ⟨0x102044, 0x0, 23, 16⟩
def ZC_TIMING_STRETCH : Fld := ⟨0x102044, 0x0, 15, 8⟩
def ZC_CTRL_URGENT : Fld := ⟨0x102048, 0x0, 7, 7⟩
def ZC_CTRL_TRIG3 : Fld := ⟨0x102048, 0x0, 3, 3⟩
def ZC_URG_CFG_CH : Fld := ⟨0x10204C, 0x0, 31, 26⟩
def ZC_URG_CFG_CONV : Fld := ⟨0x10204C, 0x0, 25, 25⟩
def ZC_URG_CFG_ACQ : Fld := ⟨0x10204C, 0x0, 24, 15⟩
def ZC_DROP_DROP_3 : Fld := ⟨0x102050, 0x0, 31, 24⟩
def ZC_DROP_DROP_2 : Fld := ⟨0x102050, 0x0, 23, 16⟩
def ZC_DROP_DROP_1 : Fld := ⟨0x102050, 0x0, 15, 8⟩
def ZC_DROP_DROP_0 : Fld := ⟨0x102050, 0x0, 7, 0⟩
def ZC_ABORT_ABORTS : Fld := ⟨0x102054, 0x0, 31, 16⟩
def ZC_ABORT_URG_DROP : Fld := ⟨0x102054, 0x0, 15, 8⟩
def ZC_ABORT_LATE : Fld := ⟨0x102054, 0x0, 7, 0⟩
def ZC_TS_NOW_TS : Fld := ⟨0x102058, 0x0, 23, 0⟩
def ZC_TS_EPOCH_LO_EPOCH : Fld := ⟨0x10205C, 0x0, 31, 0⟩
def ZC_TS_EPOCH_HI_EPOCH : Fld := ⟨0x102060, 0x0, 31, 0⟩
def ZC_CAL_STAT_SKEW_LIM : Fld := ⟨0x102064, 0x0, 27, 27⟩
def ZC_CAL_STAT_GAIN_LIM : Fld := ⟨0x102064, 0x0, 26, 26⟩
def ZC_CAL_STAT_SKEW_ACT : Fld := ⟨0x102064, 0x0, 25, 25⟩
def ZC_CAL_STAT_CONV : Fld := ⟨0x102064, 0x0, 24, 24⟩
def ZC_CAL_STAT_BAND : Fld := ⟨0x102064, 0x0, 23, 21⟩
def ZC_CAL_OFS_OFS : Fld := ⟨0x102068, 0x0, 15, 0⟩
def ZC_CAL_GAIN_GAIN : Fld := ⟨0x10206C, 0x0, 23, 0⟩
def ZC_CAL_SKEW_SKEW : Fld := ⟨0x102070, 0x0, 8, 0⟩
def ZC_SEQ_q_EN : Fld := ⟨0x102080, 0x10, 31, 31⟩
def ZC_SEQ_q_TRIG : Fld := ⟨0x102080, 0x10, 30, 27⟩
def ZC_SEQ_q_CHAIN : Fld := ⟨0x102080, 0x10, 26, 25⟩
def ZC_SEQ_q_FIRST : Fld := ⟨0x102080, 0x10, 24, 20⟩
def ZC_SEQ_q_LAST : Fld := ⟨0x102080, 0x10, 19, 15⟩
def ZC_SEQ_PER_q_PERIOD : Fld := ⟨0x102084, 0x10, 23, 0⟩
def ZC_SEQ_PH_q_PHASE : Fld := ⟨0x102088, 0x10, 23, 0⟩
def ZC_SEQ_STAT_q_RUNS : Fld := ⟨0x10208C, 0x10, 31, 16⟩
def ZC_SEQ_STAT_q_NEXT : Fld := ⟨0x10208C, 0x10, 15, 8⟩
def ZC_SEQ_STAT_q_BADCFG : Fld := ⟨0x10208C, 0x10, 3, 3⟩
def ZC_SEQ_STAT_q_LATE : Fld := ⟨0x10208C, 0x10, 2, 2⟩
def ZC_SEQ_STAT_q_PEND : Fld := ⟨0x10208C, 0x10, 1, 1⟩
def ZC_SEQ_STAT_q_ACT : Fld := ⟨0x10208C, 0x10, 0, 0⟩
def ZC_ENT_CFG_k_MODE : Fld := ⟨0x102100, 0x4, 31, 29⟩
def ZC_ENT_CFG_k_CHA : Fld := ⟨0x102100, 0x4, 28, 23⟩
def ZC_ENT_CFG_k_CHB : Fld := ⟨0x102100, 0x4, 22, 17⟩
def ZC_ENT_CFG_k_DEC : Fld := ⟨0x102100, 0x4, 16, 13⟩
def ZC_ENT_CFG_k_ACQ : Fld := ⟨0x102100, 0x4, 12, 3⟩
def ZC_ENT_k_LO_NEW : Fld := ⟨0x103040, 0x8, 31, 31⟩
def ZC_ENT_k_LO_OVR : Fld := ⟨0x103040, 0x8, 30, 30⟩
def ZC_ENT_k_LO_DEC_ACT : Fld := ⟨0x103040, 0x8, 27, 24⟩
def ZC_ENT_k_LO_CODE : Fld := ⟨0x103040, 0x8, 23, 0⟩
def ZC_ENT_k_HI_RESTART : Fld := ⟨0x103044, 0x8, 31, 31⟩
def ZC_ENT_k_HI_LATE : Fld := ⟨0x103044, 0x8, 30, 30⟩
def ZC_ENT_k_HI_SAT : Fld := ⟨0x103044, 0x8, 29, 29⟩
def ZC_ENT_k_HI_CALSET : Fld := ⟨0x103044, 0x8, 28, 28⟩
def ZC_ENT_k_HI_CONV : Fld := ⟨0x103044, 0x8, 27, 27⟩
def ZC_ENT_k_HI_BAND : Fld := ⟨0x103044, 0x8, 26, 24⟩
def ZC_ENT_k_HI_TS : Fld := ⟨0x103044, 0x8, 23, 0⟩
def ZC_ENTB_k_LO_NEW : Fld := ⟨0x103140, 0x8, 31, 31⟩
def ZC_ENTB_k_LO_OVR : Fld := ⟨0x103140, 0x8, 30, 30⟩
def ZC_ENTB_k_LO_DEC_ACT : Fld := ⟨0x103140, 0x8, 27, 24⟩
def ZC_ENTB_k_LO_CODE : Fld := ⟨0x103140, 0x8, 23, 0⟩
def ZC_ENTB_k_HI_RESTART : Fld := ⟨0x103144, 0x8, 31, 31⟩
def ZC_ENTB_k_HI_LATE : Fld := ⟨0x103144, 0x8, 30, 30⟩
def ZC_ENTB_k_HI_SAT : Fld := ⟨0x103144, 0x8, 29, 29⟩
def ZC_ENTB_k_HI_CALSET : Fld := ⟨0x103144, 0x8, 28, 28⟩
def ZC_ENTB_k_HI_CONV : Fld := ⟨0x103144, 0x8, 27, 27⟩
def ZC_ENTB_k_HI_BAND : Fld := ⟨0x103144, 0x8, 26, 24⟩
def ZC_ENTB_k_HI_TS : Fld := ⟨0x103144, 0x8, 23, 0⟩
def ZC_URG_LO_NEW : Fld := ⟨0x103240, 0x0, 31, 31⟩
def ZC_URG_LO_OVR : Fld := ⟨0x103240, 0x0, 30, 30⟩
def ZC_URG_LO_DEC_ACT : Fld := ⟨0x103240, 0x0, 27, 24⟩
def ZC_URG_LO_CODE : Fld := ⟨0x103240, 0x0, 23, 0⟩
def ZC_URG_HI_RESTART : Fld := ⟨0x103244, 0x0, 31, 31⟩
def ZC_URG_HI_LATE : Fld := ⟨0x103244, 0x0, 30, 30⟩
def ZC_URG_HI_SAT : Fld := ⟨0x103244, 0x0, 29, 29⟩
def ZC_URG_HI_CALSET : Fld := ⟨0x103244, 0x0, 28, 28⟩
def ZC_URG_HI_CONV : Fld := ⟨0x103244, 0x0, 27, 27⟩
def ZC_URG_HI_BAND : Fld := ⟨0x103244, 0x0, 26, 24⟩
def ZC_URG_HI_TS : Fld := ⟨0x103244, 0x0, 23, 0⟩
def ZE_STAT_LOCK : Fld := ⟨0x104040, 0x0, 31, 31⟩
def ZE_STAT_VCLIP : Fld := ⟨0x104040, 0x0, 30, 30⟩
def ZE_STAT_ICLIP : Fld := ⟨0x104040, 0x0, 29, 29⟩
def ZE_STAT_CREEP : Fld := ⟨0x104040, 0x0, 28, 28⟩
def ZE_STAT_QUAD : Fld := ⟨0x104040, 0x0, 27, 26⟩
def ZE_STAT_FAST : Fld := ⟨0x104040, 0x0, 25, 25⟩
def ZE_STAT_CAL_NEW : Fld := ⟨0x104040, 0x0, 24, 24⟩
def ZE_CFG_GSEL : Fld := ⟨0x104044, 0x0, 31, 29⟩
def ZE_CFG_FNOM : Fld := ⟨0x104044, 0x0, 28, 28⟩
def ZE_CFG_QEN : Fld := ⟨0x104044, 0x0, 27, 27⟩
def ZE_CFG_CREEP : Fld := ⟨0x104044, 0x0, 15, 0⟩
def ZE_SCALE_V_KV : Fld := ⟨0x104048, 0x0, 31, 0⟩
def ZE_SCALE_I_KI : Fld := ⟨0x10404C, 0x0, 31, 0⟩
def ZE_CAL_VGAIN_VGAIN : Fld := ⟨0x104050, 0x0, 23, 0⟩
def ZE_CAL_IGAIN_IGAIN : Fld := ⟨0x104054, 0x0, 23, 0⟩
def ZE_CAL_PHASE_PHASE : Fld := ⟨0x104058, 0x0, 15, 0⟩
def ZE_CT_j_I_PT : Fld := ⟨0x104060, 0x4, 31, 20⟩
def ZE_CT_j_RATIO : Fld := ⟨0x104060, 0x4, 19, 10⟩
def ZE_CT_j_PHASE : Fld := ⟨0x104060, 0x4, 9, 0⟩
def ZE_FREQ_VALID : Fld := ⟨0x104080, 0x0, 31, 31⟩
def ZE_FREQ_F : Fld := ⟨0x104080, 0x0, 16, 0⟩
def ZE_VRMS_VAL : Fld := ⟨0x104084, 0x0, 31, 0⟩
def ZE_IRMS_VAL : Fld := ⟨0x104088, 0x0, 31, 0⟩
def ZE_P_VAL : Fld := ⟨0x10408C, 0x0, 31, 0⟩
def ZE_Q_VAL : Fld := ⟨0x104090, 0x0, 31, 0⟩
def ZE_S_VAL : Fld := ⟨0x104094, 0x0, 31, 0⟩
def ZE_PF_PF : Fld := ⟨0x104098, 0x0, 31, 16⟩
def ZE_PF_DPF : Fld := ⟨0x104098, 0x0, 15, 0⟩
def ZE_DMD_DMD : Fld := ⟨0x10409C, 0x0, 31, 0⟩
def ZE_DMD_MAX_MAX : Fld := ⟨0x1040A0, 0x0, 31, 0⟩
def ZE_NPAIRS_N : Fld := ⟨0x1040AC, 0x0, 31, 0⟩
def ZE_SYNTH_LAST : Fld := ⟨0x1040B0, 0x0, 31, 16⟩
def ZE_SYNTH_OPEN : Fld := ⟨0x1040B0, 0x0, 15, 0⟩
def ZE_HARM_STAT_VALID : Fld := ⟨0x104100, 0x0, 31, 31⟩
def ZE_HARM_STAT_STALE : Fld := ⟨0x104100, 0x0, 30, 30⟩
def ZE_HARM_STAT_WIN : Fld := ⟨0x104100, 0x0, 15, 0⟩
def ZE_THD_THD_V : Fld := ⟨0x104104, 0x0, 31, 16⟩
def ZE_THD_THD_I : Fld := ⟨0x104104, 0x0, 15, 0⟩
def ZE_V1_VAL : Fld := ⟨0x104108, 0x0, 31, 0⟩
def ZE_I1_VAL : Fld := ⟨0x10410C, 0x0, 31, 0⟩
def ZE_HV_h_MAG : Fld := ⟨0x104204, 0x4, 31, 16⟩
def ZE_HV_h_PH : Fld := ⟨0x104204, 0x4, 15, 0⟩
def ZE_HI_h_MAG : Fld := ⟨0x104304, 0x4, 31, 16⟩
def ZE_HI_h_PH : Fld := ⟨0x104304, 0x4, 15, 0⟩
def ZE_CAP_CFG_MODE : Fld := ⟨0x104400, 0x0, 31, 30⟩
def ZE_CAP_CFG_SRC : Fld := ⟨0x104400, 0x0, 29, 27⟩
def ZE_CAP_CFG_DEC : Fld := ⟨0x104400, 0x0, 26, 23⟩
def ZE_CAP_CFG_PRE : Fld := ⟨0x104400, 0x0, 15, 8⟩
def ZE_CAP_CFG_THR : Fld := ⟨0x104400, 0x0, 7, 0⟩
def ZE_CAP_CTRL_STOP : Fld := ⟨0x104404, 0x0, 2, 2⟩
def ZE_CAP_CTRL_TRIG : Fld := ⟨0x104404, 0x0, 1, 1⟩
def ZE_CAP_CTRL_ARM : Fld := ⟨0x104404, 0x0, 0, 0⟩
def ZE_CAP_STAT_STATE : Fld := ⟨0x104408, 0x0, 31, 30⟩
def ZE_CAP_STAT_DOWNGRADED : Fld := ⟨0x104408, 0x0, 29, 29⟩
def ZE_CAP_STAT_ABORTED : Fld := ⟨0x104408, 0x0, 28, 28⟩
def ZE_CAP_STAT_CAP_DROP : Fld := ⟨0x104408, 0x0, 23, 16⟩
def ZE_CAP_STAT_TRIG_IDX : Fld := ⟨0x104408, 0x0, 15, 0⟩
def ZE_CAP_PTR_COUNT : Fld := ⟨0x104414, 0x0, 31, 16⟩
def ZE_CAP_PTR_PTR : Fld := ⟨0x104414, 0x0, 15, 0⟩
def ZE_CAP_DATA_WORD : Fld := ⟨0x104418, 0x0, 31, 0⟩
def ZH_STAT_HVALID : Fld := ⟨0x105040, 0x0, 31, 31⟩
def ZH_STAT_HFAULT : Fld := ⟨0x105040, 0x0, 30, 30⟩
def ZH_STAT_HDIR : Fld := ⟨0x105040, 0x0, 29, 28⟩
def ZH_STAT_DT_LOW : Fld := ⟨0x105040, 0x0, 27, 27⟩
def ZH_STAT_DT_HIGH : Fld := ⟨0x105040, 0x0, 26, 26⟩
def ZH_STAT_CHAT : Fld := ⟨0x105040, 0x0, 25, 24⟩
def ZH_STAT_OVR : Fld := ⟨0x105040, 0x0, 23, 22⟩
def ZH_STAT_LEAK : Fld := ⟨0x105040, 0x0, 21, 21⟩
def ZH_CFG_HMODE : Fld := ⟨0x105044, 0x0, 31, 30⟩
def ZH_CFG_FLOWPOS : Fld := ⟨0x105044, 0x0, 29, 29⟩
def ZH_CFG_EUNIT : Fld := ⟨0x105044, 0x0, 28, 27⟩
def ZH_CFG_VUNIT : Fld := ⟨0x105044, 0x0, 26, 25⟩
def ZH_CFG_PNOM : Fld := ⟨0x105044, 0x0, 24, 16⟩
def ZH_CFG_HCUT : Fld := ⟨0x105044, 0x0, 15, 8⟩
def ZH_CFG_CCUT : Fld := ⟨0x105044, 0x0, 7, 0⟩
def ZH_FL_CFG_n_ROLE : Fld := ⟨0x105048, 0x4, 31, 30⟩
def ZH_FL_CFG_n_EDGE : Fld := ⟨0x105048, 0x4, 29, 29⟩
def ZH_FL_CFG_n_FILT : Fld := ⟨0x105048, 0x4, 28, 16⟩
def ZH_FL_CFG_n_FMAX : Fld := ⟨0x105048, 0x4, 15, 0⟩
def ZH_FL_VPP_n_VPP : Fld := ⟨0x105050, 0x4, 31, 0⟩
def ZH_DT_OFS_DTOFS : Fld := ⟨0x105058, 0x0, 15, 0⟩
def ZH_WCFG_LEAKH : Fld := ⟨0x10505C, 0x0, 31, 24⟩
def ZH_TEMP_TS : Fld := ⟨0x105060, 0x0, 31, 16⟩
def ZH_TEMP_TR : Fld := ⟨0x105060, 0x0, 15, 0⟩
def ZH_DT_DT : Fld := ⟨0x105064, 0x0, 31, 0⟩
def ZH_FLOW_n_FLOW : Fld := ⟨0x105068, 0x4, 31, 0⟩
def ZH_POWER_P : Fld := ⟨0x105070, 0x0, 31, 0⟩
def ZH_FAULT_T_T : Fld := ⟨0x105074, 0x0, 31, 0⟩
def ZH_FL_CNT_CHAT_1 : Fld := ⟨0x105078, 0x0, 31, 24⟩
def ZH_FL_CNT_CHAT_2 : Fld := ⟨0x105078, 0x0, 23, 16⟩
def ZH_FL_CNT_OVR_1 : Fld := ⟨0x105078, 0x0, 15, 8⟩
def ZH_FL_CNT_OVR_2 : Fld := ⟨0x105078, 0x0, 7, 0⟩
def ZL_STAT_MODE : Fld := ⟨0x106040, 0x0, 31, 28⟩
def ZL_STAT_CMD_MODE : Fld := ⟨0x106040, 0x0, 27, 24⟩
def ZL_STAT_SRC : Fld := ⟨0x106040, 0x0, 23, 21⟩
def ZL_STAT_TRANSIT : Fld := ⟨0x106040, 0x0, 20, 20⟩
def ZL_STAT_TUNING : Fld := ⟨0x106040, 0x0, 19, 19⟩
def ZL_STAT_LIMIT_ACT : Fld := ⟨0x106040, 0x0, 18, 18⟩
def ZL_STAT_FROST_ACT : Fld := ⟨0x106040, 0x0, 17, 17⟩
def ZL_STAT_DEW_ACT : Fld := ⟨0x106040, 0x0, 16, 16⟩
def ZL_STAT_RET_ACT : Fld := ⟨0x106040, 0x0, 15, 15⟩
def ZL_STAT_GOV_ACT : Fld := ⟨0x106040, 0x0, 14, 14⟩
def ZL_STAT_LOSS : Fld := ⟨0x106040, 0x0, 13, 13⟩
def ZL_STAT_CASC_BYP : Fld := ⟨0x106040, 0x0, 12, 12⟩
def ZL_STAT_SIDE : Fld := ⟨0x106040, 0x0, 11, 10⟩
def ZL_STAT_PBOOST : Fld := ⟨0x106040, 0x0, 9, 9⟩
def ZL_SP_EFF_SP_H : Fld := ⟨0x106044, 0x0, 31, 16⟩
def ZL_SP_EFF_SP_C : Fld := ⟨0x106044, 0x0, 15, 0⟩
def ZL_TCTL_T_C : Fld := ⟨0x106048, 0x0, 31, 16⟩
def ZL_TCTL_SUP_SP : Fld := ⟨0x106048, 0x0, 15, 0⟩
def ZL_DEMAND_D_H : Fld := ⟨0x10604C, 0x0, 31, 16⟩
def ZL_DEMAND_D_C : Fld := ⟨0x10604C, 0x0, 15, 0⟩
def ZL_SP_COMF_HEAT : Fld := ⟨0x106050, 0x0, 31, 16⟩
def ZL_SP_COMF_COOL : Fld := ⟨0x106050, 0x0, 15, 0⟩
def ZL_SP_ECO_HEAT : Fld := ⟨0x106054, 0x0, 31, 16⟩
def ZL_SP_ECO_COOL : Fld := ⟨0x106054, 0x0, 15, 0⟩
def ZL_SP_MISC_FROST : Fld := ⟨0x106058, 0x0, 31, 16⟩
def ZL_SP_MISC_BOOST : Fld := ⟨0x106058, 0x0, 15, 8⟩
def ZL_SP_MISC_PANEL_LIM : Fld := ⟨0x106058, 0x0, 7, 0⟩
def ZL_TIMERS_BOOST_T : Fld := ⟨0x10605C, 0x0, 31, 24⟩
def ZL_TIMERS_FLUSH_T : Fld := ⟨0x10605C, 0x0, 23, 16⟩
def ZL_TIMERS_REMAIN : Fld := ⟨0x10605C, 0x0, 15, 0⟩
def ZL_PI_H_KC : Fld := ⟨0x106060, 0x0, 31, 16⟩
def ZL_PI_H_TI : Fld := ⟨0x106060, 0x0, 15, 0⟩
def ZL_PI_C_KC : Fld := ⟨0x106064, 0x0, 31, 16⟩
def ZL_PI_C_TI : Fld := ⟨0x106064, 0x0, 15, 0⟩
def ZL_PI_S_KC : Fld := ⟨0x106068, 0x0, 31, 16⟩
def ZL_PI_S_TI : Fld := ⟨0x106068, 0x0, 15, 0⟩
def ZL_CASC_SUP_HMAX : Fld := ⟨0x10606C, 0x0, 31, 16⟩
def ZL_CASC_SUP_CMIN : Fld := ⟨0x10606C, 0x0, 15, 0⟩
def ZL_LIMIT_LIM_SP : Fld := ⟨0x106070, 0x0, 31, 16⟩
def ZL_LIMIT_LIM_SPAN : Fld := ⟨0x106070, 0x0, 15, 8⟩
def ZL_LIMIT_DEW_MARGIN : Fld := ⟨0x106070, 0x0, 7, 0⟩
def ZL_RET_RET_MAX : Fld := ⟨0x106074, 0x0, 31, 16⟩
def ZL_RET_RET_SPAN : Fld := ⟨0x106074, 0x0, 15, 8⟩
def ZL_RET_CASC : Fld := ⟨0x106074, 0x0, 0, 0⟩
def ZL_LOSS_LOSS_H : Fld := ⟨0x106078, 0x0, 31, 24⟩
def ZL_LOSS_LOSS_C : Fld := ⟨0x106078, 0x0, 23, 16⟩
def ZL_LOSS_FAN_MIN : Fld := ⟨0x106078, 0x0, 15, 8⟩
def ZL_LOSS_MEM : Fld := ⟨0x106078, 0x0, 7, 0⟩
def ZL_ACT_j_FUNC : Fld := ⟨0x106080, 0x4, 31, 28⟩
def ZL_ACT_j_START : Fld := ⟨0x106080, 0x4, 27, 20⟩
def ZL_ACT_j_END : Fld := ⟨0x106080, 0x4, 19, 12⟩
def ZL_ACT_j_RATE_MINT : Fld := ⟨0x106080, 0x4, 11, 4⟩
def ZL_OUT_j_REQ : Fld := ⟨0x1060A0, 0x4, 31, 16⟩
def ZL_OUT_j_APPLIED : Fld := ⟨0x1060A0, 0x4, 15, 0⟩
def ZL_MODEL_H_1_K : Fld := ⟨0x1060C0, 0x0, 31, 16⟩
def ZL_MODEL_H_1_THETA : Fld := ⟨0x1060C0, 0x0, 15, 0⟩
def ZL_MODEL_H_2_TAU : Fld := ⟨0x1060C4, 0x0, 31, 16⟩
def ZL_MODEL_H_2_CONF : Fld := ⟨0x1060C4, 0x0, 15, 8⟩
def ZL_MODEL_C_1_K : Fld := ⟨0x1060C8, 0x0, 31, 16⟩
def ZL_MODEL_C_1_THETA : Fld := ⟨0x1060C8, 0x0, 15, 0⟩
def ZL_MODEL_C_2_TAU : Fld := ⟨0x1060CC, 0x0, 31, 16⟩
def ZL_MODEL_C_2_CONF : Fld := ⟨0x1060CC, 0x0, 15, 8⟩
def ZL_DIST_H_K_O : Fld := ⟨0x1060D0, 0x0, 31, 16⟩
def ZL_DIST_H_K_P : Fld := ⟨0x1060D0, 0x0, 15, 0⟩
def ZL_DIST_C_K_O : Fld := ⟨0x1060D4, 0x0, 31, 16⟩
def ZL_DIST_C_K_P : Fld := ⟨0x1060D4, 0x0, 15, 0⟩
def ZL_OUTDOOR_T_O : Fld := ⟨0x1060D8, 0x0, 31, 16⟩
def ZL_OUTDOOR_AGE : Fld := ⟨0x1060D8, 0x0, 7, 0⟩
def ZL_TUNE_STAT_STEP : Fld := ⟨0x1060E0, 0x0, 31, 28⟩
def ZL_TUNE_STAT_RESULT : Fld := ⟨0x1060E0, 0x0, 27, 24⟩
def ZL_TUNE_STAT_CYCLES : Fld := ⟨0x1060E0, 0x0, 23, 16⟩
def ZL_TUNE_STAT_REASON : Fld := ⟨0x1060E0, 0x0, 15, 8⟩
def ZL_TUNE_STAT_SIDE : Fld := ⟨0x1060E0, 0x0, 7, 7⟩
def ZL_TUNE_MEAS_1_A : Fld := ⟨0x1060E4, 0x0, 31, 16⟩
def ZL_TUNE_MEAS_1_PU : Fld := ⟨0x1060E4, 0x0, 15, 0⟩
def ZL_TUNE_MEAS_2_U0 : Fld := ⟨0x1060E8, 0x0, 31, 16⟩
def ZL_TUNE_MEAS_2_UMEAN : Fld := ⟨0x1060E8, 0x0, 15, 0⟩
def ZL_TUNE_MEAS_3_YSHIFT : Fld := ⟨0x1060EC, 0x0, 31, 16⟩
def ZL_TRANSIT_H_T_MEAS : Fld := ⟨0x1060F0, 0x0, 31, 16⟩
def ZL_TRANSIT_H_T_OPT : Fld := ⟨0x1060F0, 0x0, 15, 0⟩
def ZL_TRANSIT_C_T_MEAS : Fld := ⟨0x1060F4, 0x0, 31, 16⟩
def ZL_TRANSIT_C_T_OPT : Fld := ⟨0x1060F4, 0x0, 15, 0⟩
def ZL_UPD_CNT_REJ : Fld := ⟨0x1060F8, 0x0, 31, 16⟩
def ZL_UPD_CNT_ACC : Fld := ⟨0x1060F8, 0x0, 15, 0⟩
def ZP_STAT_PSTATE : Fld := ⟨0x107040, 0x0, 31, 29⟩
def ZP_STAT_UNTR_TIME : Fld := ⟨0x107040, 0x0, 28, 28⟩
def ZP_STAT_UNTR_TARIFF : Fld := ⟨0x107040, 0x0, 27, 27⟩
def ZP_STAT_UNTR_METER_H : Fld := ⟨0x107040, 0x0, 26, 26⟩
def ZP_STAT_UNTR_METER_C : Fld := ⟨0x107040, 0x0, 25, 25⟩
def ZP_STAT_UNTR_MODEL : Fld := ⟨0x107040, 0x0, 24, 24⟩
def ZP_STAT_OUTDOOR_STALE : Fld := ⟨0x107040, 0x0, 23, 23⟩
def ZP_STAT_OCC_FROZEN : Fld := ⟨0x107040, 0x0, 22, 22⟩
def ZP_STAT_PRE : Fld := ⟨0x107040, 0x0, 21, 21⟩
def ZP_STAT_SHORT : Fld := ⟨0x107040, 0x0, 20, 20⟩
def ZP_STAT_AGE : Fld := ⟨0x107040, 0x0, 15, 0⟩
def ZP_CFG_1_CAR_H : Fld := ⟨0x107044, 0x0, 31, 30⟩
def ZP_CFG_1_CAR_C : Fld := ⟨0x107044, 0x0, 29, 28⟩
def ZP_CFG_1_COMF_TOL : Fld := ⟨0x107044, 0x0, 27, 20⟩
def ZP_CFG_1_OCC_THR : Fld := ⟨0x107044, 0x0, 19, 12⟩
def ZP_CFG_1_OCC_HOLD : Fld := ⟨0x107044, 0x0, 11, 4⟩
def ZP_CFG_1_PLAN_EN : Fld := ⟨0x107044, 0x0, 0, 0⟩
def ZP_CFG_2_P_NOM_H : Fld := ⟨0x107048, 0x0, 31, 16⟩
def ZP_CFG_2_P_NOM_C : Fld := ⟨0x107048, 0x0, 15, 0⟩
def ZP_CFG_3_PRE_T : Fld := ⟨0x10704C, 0x0, 31, 24⟩
def ZP_CFG_3_LEARN_W : Fld := ⟨0x10704C, 0x0, 23, 16⟩
def ZP_CFG_3_TO_DT : Fld := ⟨0x10704C, 0x0, 15, 8⟩
def ZP_COEF_P100_H : Fld := ⟨0x107050, 0x0, 31, 16⟩
def ZP_COEF_P100_C : Fld := ⟨0x107050, 0x0, 15, 0⟩
def ZP_NOW_SP_H : Fld := ⟨0x107054, 0x0, 31, 16⟩
def ZP_NOW_SP_C : Fld := ⟨0x107054, 0x0, 15, 0⟩
def ZP_PLAN_TS_LO_TS : Fld := ⟨0x107058, 0x0, 31, 0⟩
def ZP_PLAN_TS_HI_TS : Fld := ⟨0x10705C, 0x0, 31, 0⟩
def ZP_COST_PLAN_COST : Fld := ⟨0x107060, 0x0, 31, 0⟩
def ZP_COST_MODE_COST : Fld := ⟨0x107064, 0x0, 31, 0⟩
def ZP_COST_DAY_COST : Fld := ⟨0x107068, 0x0, 31, 0⟩
def ZP_UNPRICED_MIN : Fld := ⟨0x10706C, 0x0, 31, 16⟩
def ZP_CNT_PLANS : Fld := ⟨0x107070, 0x0, 31, 16⟩
def ZP_CNT_COALESCED : Fld := ⟨0x107070, 0x0, 15, 8⟩
def ZP_CNT_OVERRUN : Fld := ⟨0x107070, 0x0, 7, 0⟩
def ZP_STEP_k_SP_H : Fld := ⟨0x107100, 0x4, 31, 22⟩
def ZP_STEP_k_SP_C : Fld := ⟨0x107100, 0x4, 21, 12⟩
def ZP_STEP_k_OCC : Fld := ⟨0x107100, 0x4, 11, 11⟩
def ZP_STEP_k_BAND : Fld := ⟨0x107100, 0x4, 9, 4⟩
def ZP_OCC_w_P : Fld := ⟨0x107300, 0x4, 31, 0⟩
def SCH_STAT_STATE : Fld := ⟨0x108040, 0x0, 31, 30⟩
def SCH_STAT_DAYTYPE : Fld := ⟨0x108040, 0x0, 29, 27⟩
def SCH_STAT_EXC : Fld := ⟨0x108040, 0x0, 26, 26⟩
def SCH_STAT_EXC_IDX : Fld := ⟨0x108040, 0x0, 25, 20⟩
def SCH_STAT_DST : Fld := ⟨0x108040, 0x0, 19, 19⟩
def SCH_STAT_SUSP : Fld := ⟨0x108040, 0x0, 18, 18⟩
def SCH_TZ_1_STD_OFS : Fld := ⟨0x108044, 0x0, 31, 16⟩
def SCH_TZ_1_DST_OFS : Fld := ⟨0x108044, 0x0, 15, 8⟩
def SCH_TZ_1_DST_EN : Fld := ⟨0x108044, 0x0, 0, 0⟩
def SCH_TZ_2_MONTH : Fld := ⟨0x108048, 0x0, 31, 28⟩
def SCH_TZ_2_WEEK : Fld := ⟨0x108048, 0x0, 27, 25⟩
def SCH_TZ_2_WDAY : Fld := ⟨0x108048, 0x0, 24, 22⟩
def SCH_TZ_2_MIN : Fld := ⟨0x108048, 0x0, 21, 11⟩
def SCH_TZ_3_MONTH : Fld := ⟨0x10804C, 0x0, 31, 28⟩
def SCH_TZ_3_WEEK : Fld := ⟨0x10804C, 0x0, 27, 25⟩
def SCH_TZ_3_WDAY : Fld := ⟨0x10804C, 0x0, 24, 22⟩
def SCH_TZ_3_MIN : Fld := ⟨0x10804C, 0x0, 21, 11⟩
def SCH_LOCAL_YEAR : Fld := ⟨0x108050, 0x0, 31, 23⟩
def SCH_LOCAL_MONTH : Fld := ⟨0x108050, 0x0, 22, 19⟩
def SCH_LOCAL_DAY : Fld := ⟨0x108050, 0x0, 18, 14⟩
def SCH_LOCAL_WDAY : Fld := ⟨0x108050, 0x0, 13, 11⟩
def SCH_LOCAL_MIN : Fld := ⟨0x108050, 0x0, 10, 0⟩
def SCH_NEXT_KIND : Fld := ⟨0x108054, 0x0, 31, 28⟩
def SCH_NEXT_INDEX : Fld := ⟨0x108054, 0x0, 27, 20⟩
def SCH_NEXT_IN : Fld := ⟨0x108054, 0x0, 19, 0⟩
def SCH_ALM_KIND : Fld := ⟨0x108058, 0x0, 31, 28⟩
def SCH_ALM_INDEX : Fld := ⟨0x108058, 0x0, 27, 20⟩
def SCH_ALM_LATE : Fld := ⟨0x108058, 0x0, 19, 19⟩
def SCH_ALM_TS_LO_TS : Fld := ⟨0x10805C, 0x0, 31, 0⟩
def SCH_ALM_TS_HI_TS : Fld := ⟨0x108060, 0x0, 31, 0⟩
def SCH_ALM_CNT_LATE : Fld := ⟨0x108064, 0x0, 31, 16⟩
def SCH_ALM_CNT_SUPERSEDED : Fld := ⟨0x108064, 0x0, 15, 0⟩
def SCH_EVT_k_EN : Fld := ⟨0x108100, 0x4, 31, 31⟩
def SCH_EVT_k_DAYS : Fld := ⟨0x108100, 0x4, 30, 24⟩
def SCH_EVT_k_MIN : Fld := ⟨0x108100, 0x4, 23, 13⟩
def SCH_EVT_k_ACTION : Fld := ⟨0x108100, 0x4, 12, 11⟩
def SCH_EXC_m_EN : Fld := ⟨0x108200, 0x4, 31, 31⟩
def SCH_EXC_m_YEAR : Fld := ⟨0x108200, 0x4, 30, 22⟩
def SCH_EXC_m_MONTH : Fld := ⟨0x108200, 0x4, 21, 18⟩
def SCH_EXC_m_DAY : Fld := ⟨0x108200, 0x4, 17, 13⟩
def SCH_EXC_m_DAYTYPE : Fld := ⟨0x108200, 0x4, 12, 10⟩
def SCH_EXC_m_TARIFF : Fld := ⟨0x108200, 0x4, 9, 9⟩
def ZT_STAT_VALID : Fld := ⟨0x109040, 0x0, 31, 31⟩
def ZT_STAT_EXPIRED : Fld := ⟨0x109040, 0x0, 30, 30⟩
def ZT_STAT_EMPTY : Fld := ⟨0x109040, 0x0, 29, 29⟩
def ZT_STAT_HOLIDAY : Fld := ⟨0x109040, 0x0, 28, 28⟩
def ZT_STAT_BAND : Fld := ⟨0x109040, 0x0, 27, 22⟩
def ZT_VALID_UNTIL : Fld := ⟨0x109044, 0x0, 27, 0⟩
def ZT_PRICE_1_ELEC : Fld := ⟨0x109048, 0x0, 31, 16⟩
def ZT_PRICE_1_HEAT : Fld := ⟨0x109048, 0x0, 15, 0⟩
def ZT_PRICE_2_COOL : Fld := ⟨0x10904C, 0x0, 31, 16⟩
def ZT_BAND_k_A_EN : Fld := ⟨0x109100, 0x10, 31, 31⟩
def ZT_BAND_k_A_DAYS : Fld := ⟨0x109100, 0x10, 30, 24⟩
def ZT_BAND_k_A_MIN : Fld := ⟨0x109100, 0x10, 23, 13⟩
def ZT_BAND_k_B_ELEC : Fld := ⟨0x109104, 0x10, 31, 16⟩
def ZT_BAND_k_B_HEAT : Fld := ⟨0x109104, 0x10, 15, 0⟩
def ZT_BAND_k_C_COOL : Fld := ⟨0x109108, 0x10, 31, 16⟩
def ZO_STAT_FACT : Fld := ⟨0x10A040, 0x0, 31, 24⟩
def ZO_STAT_BAND : Fld := ⟨0x10A040, 0x0, 23, 21⟩
def ZO_STAT_HOSTWAIT : Fld := ⟨0x10A040, 0x0, 20, 20⟩
def ZO_CTRL_CLR : Fld := ⟨0x10A044, 0x0, 12, 8⟩
def ZO_CTRL_REL : Fld := ⟨0x10A044, 0x0, 4, 0⟩
def ZO_GCFG_PWM_FREQ : Fld := ⟨0x10A048, 0x0, 31, 30⟩
def ZO_GCFG_PWM_INV : Fld := ⟨0x10A048, 0x0, 29, 29⟩
def ZO_GCFG_PWM_SPREAD : Fld := ⟨0x10A048, 0x0, 28, 28⟩
def ZO_GCFG_HOSTREL : Fld := ⟨0x10A048, 0x0, 27, 27⟩
def ZO_TACH_CFG_PPR : Fld := ⟨0x10A04C, 0x0, 31, 30⟩
def ZO_TACH_CFG_STALL_T : Fld := ⟨0x10A04C, 0x0, 29, 24⟩
def ZO_TACH_CFG_STALL_MIN : Fld := ⟨0x10A04C, 0x0, 23, 16⟩
def ZO_TACH_CFG_TFILT : Fld := ⟨0x10A04C, 0x0, 15, 8⟩
def ZO_TACH_VALID : Fld := ⟨0x10A050, 0x0, 31, 31⟩
def ZO_TACH_STALL : Fld := ⟨0x10A050, 0x0, 30, 30⟩
def ZO_TACH_CHAT : Fld := ⟨0x10A050, 0x0, 29, 29⟩
def ZO_TACH_RPM : Fld := ⟨0x10A050, 0x0, 15, 0⟩
def ZO_HOLD_MATCH : Fld := ⟨0x10A054, 0x0, 12, 8⟩
def ZO_HOLD_HELD : Fld := ⟨0x10A054, 0x0, 4, 0⟩
def ZO_CNT_OVC : Fld := ⟨0x10A058, 0x0, 31, 24⟩
def ZO_CNT_REL_REJ : Fld := ⟨0x10A058, 0x0, 23, 16⟩
def ZO_CNT_STALLS : Fld := ⟨0x10A058, 0x0, 15, 8⟩
def ZO_CNT_TACH_CHAT : Fld := ⟨0x10A058, 0x0, 7, 0⟩
def ZO_CFG_j_LO : Fld := ⟨0x10A060, 0x4, 31, 24⟩
def ZO_CFG_j_HI : Fld := ⟨0x10A060, 0x4, 23, 16⟩
def ZO_CFG_j_SAFE : Fld := ⟨0x10A060, 0x4, 15, 8⟩
def ZO_CFG_j_ILIM : Fld := ⟨0x10A060, 0x4, 7, 2⟩
def ZO_CFG_j_SLEW : Fld := ⟨0x10A060, 0x4, 1, 0⟩
def ZO_OUT_j_HELD : Fld := ⟨0x10A080, 0x4, 31, 31⟩
def ZO_OUT_j_GOV : Fld := ⟨0x10A080, 0x4, 30, 30⟩
def ZO_OUT_j_ILIM : Fld := ⟨0x10A080, 0x4, 29, 29⟩
def ZO_OUT_j_OVC : Fld := ⟨0x10A080, 0x4, 28, 28⟩
def ZO_OUT_j_OPEN : Fld := ⟨0x10A080, 0x4, 27, 27⟩
def ZO_OUT_j_RBK : Fld := ⟨0x10A080, 0x4, 26, 26⟩
def ZO_OUT_j_SAFE : Fld := ⟨0x10A080, 0x4, 25, 25⟩
def ZO_OUT_j_APPLIED : Fld := ⟨0x10A080, 0x4, 15, 0⟩
def ZO_MEAS_j_VAL : Fld := ⟨0x10A0A0, 0x4, 15, 0⟩
def ZK_STAT_GHOST : Fld := ⟨0x10B040, 0x0, 31, 31⟩
def ZK_STAT_ENC_CHAT : Fld := ⟨0x10B040, 0x0, 30, 30⟩
def ZK_STAT_ENC_OVS : Fld := ⟨0x10B040, 0x0, 29, 29⟩
def ZK_STAT_GROWS : Fld := ⟨0x10B040, 0x0, 27, 24⟩
def ZK_STAT_GCOLS : Fld := ⟨0x10B040, 0x0, 23, 20⟩
def ZK_CFG_DEB : Fld := ⟨0x10B044, 0x0, 31, 25⟩
def ZK_CFG_DIODES : Fld := ⟨0x10B044, 0x0, 24, 24⟩
def ZK_CFG_STUCK_T : Fld := ⟨0x10B044, 0x0, 23, 18⟩
def ZK_CFG_LONG_T : Fld := ⟨0x10B044, 0x0, 17, 14⟩
def ZK_KEYFN_1_FN : Fld := ⟨0x10B048, 0x0, 31, 0⟩
def ZK_KEYFN_2_FN : Fld := ⟨0x10B04C, 0x0, 31, 0⟩
def ZK_ENC_CFG_DETENT : Fld := ⟨0x10B050, 0x0, 31, 30⟩
def ZK_ENC_CFG_DIR : Fld := ⟨0x10B050, 0x0, 29, 29⟩
def ZK_ENC_CFG_EFILT : Fld := ⟨0x10B050, 0x0, 28, 21⟩
def ZK_ENC_CFG_ENC_MAX : Fld := ⟨0x10B050, 0x0, 20, 14⟩
def ZK_ENC_CFG_ENC_FN : Fld := ⟨0x10B050, 0x0, 13, 13⟩
def ZK_KEYS_RAW : Fld := ⟨0x10B054, 0x0, 31, 16⟩
def ZK_KEYS_ACC : Fld := ⟨0x10B054, 0x0, 15, 0⟩
def ZK_FLAGS_STUCK : Fld := ⟨0x10B058, 0x0, 31, 16⟩
def ZK_FLAGS_CHAT : Fld := ⟨0x10B058, 0x0, 15, 0⟩
def ZK_ENC_POS : Fld := ⟨0x10B05C, 0x0, 31, 16⟩
def ZK_ENC_B : Fld := ⟨0x10B05C, 0x0, 1, 1⟩
def ZK_ENC_A : Fld := ⟨0x10B05C, 0x0, 0, 0⟩
def ZK_EVT_LO_VALID : Fld := ⟨0x10B060, 0x0, 31, 31⟩
def ZK_EVT_LO_TYPE : Fld := ⟨0x10B060, 0x0, 30, 28⟩
def ZK_EVT_LO_KEY : Fld := ⟨0x10B060, 0x0, 27, 24⟩
def ZK_EVT_LO_LEFT : Fld := ⟨0x10B060, 0x0, 23, 16⟩
def ZK_EVT_HI_TS : Fld := ⟨0x10B064, 0x0, 31, 0⟩
def ZK_CNT_GHOSTS : Fld := ⟨0x10B068, 0x0, 31, 24⟩
def ZK_CNT_REFUSED : Fld := ⟨0x10B068, 0x0, 23, 16⟩
def ZK_CNT_QOVF : Fld := ⟨0x10B068, 0x0, 15, 8⟩
def ZK_CNT_ENC_DROP : Fld := ⟨0x10B068, 0x0, 7, 0⟩
def ZW_SLC_STAT_STATE : Fld := ⟨0x100040, 0x0, 31, 28⟩
def ZW_SLC_STAT_CAUSE : Fld := ⟨0x100040, 0x0, 27, 22⟩
def ZW_SLC_STAT_RESTARTS : Fld := ⟨0x100040, 0x0, 15, 8⟩
def ZW_SLC_TEST_VALID : Fld := ⟨0x100044, 0x0, 31, 31⟩
def ZW_SLC_TEST_FULL : Fld := ⟨0x100044, 0x0, 30, 30⟩
def ZW_SLC_TEST_RESULT : Fld := ⟨0x100044, 0x0, 10, 0⟩
def ZW_SLC_TEST_TS_LO_TS : Fld := ⟨0x100048, 0x0, 31, 0⟩
def ZW_SLC_TEST_TS_HI_TS : Fld := ⟨0x10004C, 0x0, 31, 0⟩
def ZW_STAT_WORN : Fld := ⟨0x10C040, 0x0, 31, 31⟩
def ZW_STAT_VALID : Fld := ⟨0x10C040, 0x0, 30, 30⟩
def ZW_STAT_LIMITING : Fld := ⟨0x10C040, 0x0, 29, 24⟩
def ZW_STAT_EOL_MED : Fld := ⟨0x10C040, 0x0, 23, 16⟩
def ZW_STAT_EOL_P10 : Fld := ⟨0x10C040, 0x0, 15, 8⟩
def ZW_STRESS_S : Fld := ⟨0x10C044, 0x0, 31, 0⟩
def ZW_G_RO_SHIFT : Fld := ⟨0x10C048, 0x0, 15, 0⟩
def ZW_G_SRAM_COLS_LEFT : Fld := ⟨0x10C04C, 0x0, 31, 24⟩
def ZW_G_SRAM_UNCORR : Fld := ⟨0x10C04C, 0x0, 23, 16⟩
def ZW_G_SRAM_CORR : Fld := ⟨0x10C04C, 0x0, 15, 0⟩
def ZW_G_ADC_SKEW : Fld := ⟨0x10C050, 0x0, 31, 16⟩
def ZW_G_ADC_GAIN : Fld := ⟨0x10C050, 0x0, 15, 0⟩
def ZW_G_REG_MARGIN : Fld := ⟨0x10C054, 0x0, 15, 0⟩
def ZW_DRV_j_EOL_MED : Fld := ⟨0x10C060, 0x4, 31, 24⟩
def ZW_DRV_j_EOL_P10 : Fld := ⟨0x10C060, 0x4, 23, 16⟩
def ZW_DRV_j_G : Fld := ⟨0x10C060, 0x4, 15, 0⟩
def ZW_DO_SW_1_COUNT : Fld := ⟨0x10C080, 0x0, 31, 0⟩
def ZW_DO_SW_2_COUNT : Fld := ⟨0x10C084, 0x0, 31, 0⟩
def ZX_STAT_LOCK : Fld := ⟨0x10D040, 0x0, 31, 31⟩
def ZX_STAT_ALIGNED : Fld := ⟨0x10D040, 0x0, 30, 30⟩
def ZX_STAT_STEP_PEND : Fld := ⟨0x10D040, 0x0, 29, 29⟩
def ZX_NOW_LO_HT : Fld := ⟨0x10D044, 0x0, 31, 0⟩
def ZX_NOW_HI_HT : Fld := ⟨0x10D048, 0x0, 31, 0⟩
def ZX_ERR_ERR : Fld := ⟨0x10D04C, 0x0, 31, 0⟩
def ZX_RATE_RATE : Fld := ⟨0x10D050, 0x0, 31, 0⟩
def ZX_CNT_STEPS : Fld := ⟨0x10D054, 0x0, 31, 16⟩
def ZX_CNT_UNLOCKS : Fld := ⟨0x10D054, 0x0, 15, 0⟩
def PCH_RS_STAT_WARN : Fld := ⟨0x004040, 0x0, 31, 31⟩
def PCH_RS_STAT_FULL : Fld := ⟨0x004040, 0x0, 30, 30⟩
def PCH_RS_STAT_FILL : Fld := ⟨0x004040, 0x0, 16, 0⟩
def PCH_RS_CFG_ILEN : Fld := ⟨0x004044, 0x0, 31, 26⟩
def PCH_RS_CFG_ILEN_NEXT : Fld := ⟨0x004044, 0x0, 25, 20⟩
def PCH_RS_TAIL_SEQ : Fld := ⟨0x004048, 0x0, 31, 0⟩
def PCH_RS_ACKED_SEQ : Fld := ⟨0x00404C, 0x0, 31, 0⟩
def PCH_RS_WIN_SEQ_SEQ : Fld := ⟨0x004050, 0x0, 31, 0⟩
def PCH_RS_WIN_STAT_READY : Fld := ⟨0x004054, 0x0, 31, 31⟩
def PCH_RS_WIN_STAT_BUSY : Fld := ⟨0x004054, 0x0, 30, 30⟩
def PCH_RS_WIN_STAT_COUNT : Fld := ⟨0x004054, 0x0, 8, 0⟩
def PCH_RS_WIN_FIRST_SEQ : Fld := ⟨0x004058, 0x0, 31, 0⟩
def PCH_RS_MERGED_LO_ZONES : Fld := ⟨0x00405C, 0x0, 31, 0⟩
def PCH_RS_MERGED_HI_ZONES : Fld := ⟨0x004060, 0x0, 31, 0⟩
def PCH_RS_CNT_REPAIRED : Fld := ⟨0x004064, 0x0, 31, 16⟩
def PCH_RS_CNT_CHAINS : Fld := ⟨0x004064, 0x0, 15, 0⟩
def PCH_DSP_STAT_REPLAY : Fld := ⟨0x002040, 0x0, 31, 31⟩
def PCH_DSP_STAT_TAKEOVER : Fld := ⟨0x002040, 0x0, 30, 30⟩
def PCH_DSP_STAT_DEGRADED : Fld := ⟨0x002040, 0x0, 29, 29⟩
def PCH_DSP_STAT_OPEN : Fld := ⟨0x002040, 0x0, 28, 28⟩
def PCH_DSP_CFG_GB_RETAIN : Fld := ⟨0x002044, 0x0, 7, 0⟩
def PCH_DSP_ACC_ACC : Fld := ⟨0x002048, 0x0, 31, 0⟩
def PCH_DSP_CNT_1_DUP : Fld := ⟨0x00204C, 0x0, 31, 16⟩
def PCH_DSP_CNT_1_STALE : Fld := ⟨0x00204C, 0x0, 15, 0⟩
def PCH_DSP_CNT_2_ENV_ERR : Fld := ⟨0x002050, 0x0, 31, 24⟩
def PCH_DSP_CNT_2_REJECT : Fld := ⟨0x002050, 0x0, 23, 16⟩
def PCH_DSP_CNT_2_BUSY : Fld := ⟨0x002050, 0x0, 15, 8⟩
def PCH_DSP_CNT_2_REUSE : Fld := ⟨0x002050, 0x0, 7, 0⟩
def PCH_GB_STAT_ENTRIES : Fld := ⟨0x002054, 0x0, 29, 16⟩
def PCH_GB_STAT_SLOTS : Fld := ⟨0x002054, 0x0, 8, 0⟩
def PCH_SRC_SEL_SLOT : Fld := ⟨0x002058, 0x0, 7, 0⟩
def PCH_SRC_ID_USED : Fld := ⟨0x00205C, 0x0, 31, 31⟩
def PCH_SRC_ID_OPEN : Fld := ⟨0x00205C, 0x0, 30, 16⟩
def PCH_SRC_ID_SOURCE : Fld := ⟨0x00205C, 0x0, 15, 0⟩
def PCH_SRC_HWM_HWM : Fld := ⟨0x002060, 0x0, 31, 0⟩
def PCH_GB_Q_SRC_SOURCE : Fld := ⟨0x002064, 0x0, 15, 0⟩
def PCH_GB_Q_SEQ_SEQ : Fld := ⟨0x002068, 0x0, 31, 0⟩
def PCH_GB_Q_RES_VALID : Fld := ⟨0x00206C, 0x0, 31, 31⟩
def PCH_GB_Q_RES_FOUND : Fld := ⟨0x00206C, 0x0, 30, 30⟩
def PCH_GB_Q_RES_BELOW : Fld := ⟨0x00206C, 0x0, 29, 29⟩
def PCH_GB_Q_RES_RESULT : Fld := ⟨0x00206C, 0x0, 23, 16⟩
def PCH_GB_Q_RES_REASON : Fld := ⟨0x00206C, 0x0, 15, 0⟩
def PCH_LD_STAT_A_OK : Fld := ⟨0x003040, 0x0, 31, 31⟩
def PCH_LD_STAT_B_OK : Fld := ⟨0x003040, 0x0, 30, 30⟩
def PCH_LD_STAT_WARN : Fld := ⟨0x003040, 0x0, 29, 29⟩
def PCH_LD_STAT_CKREQ : Fld := ⟨0x003040, 0x0, 28, 28⟩
def PCH_LD_STAT_FILL : Fld := ⟨0x003040, 0x0, 13, 0⟩
def PCH_LD_LAST_LSEQ : Fld := ⟨0x003044, 0x0, 31, 0⟩
def PCH_LD_TAIL_LSEQ : Fld := ⟨0x003048, 0x0, 31, 0⟩
def PCH_LD_TIME_MAX : Fld := ⟨0x00304C, 0x0, 31, 16⟩
def PCH_LD_TIME_LAST : Fld := ⟨0x00304C, 0x0, 15, 0⟩
def PCH_LD_REPLAY_REHANDED : Fld := ⟨0x003050, 0x0, 31, 16⟩
def PCH_LD_REPLAY_DUR : Fld := ⟨0x003050, 0x0, 15, 0⟩
def PCH_LD_CNT_REPAIRED : Fld := ⟨0x003054, 0x0, 31, 16⟩
def PCH_LD_CNT_CKREQ : Fld := ⟨0x003054, 0x0, 15, 8⟩
def PCH_LD_CNT_FULL : Fld := ⟨0x003054, 0x0, 7, 0⟩
def PCH_LD_SEL_LSEQ : Fld := ⟨0x003058, 0x0, 31, 0⟩
def PCH_LD_ENT_w_WORD : Fld := ⟨0x003080, 0x4, 31, 0⟩
def HL_STAT_STATE : Fld := ⟨0x00B040, 0x0, 31, 29⟩
def HL_STAT_WIDTH : Fld := ⟨0x00B040, 0x0, 26, 24⟩
def HL_STAT_ACTIVE : Fld := ⟨0x00B040, 0x0, 23, 20⟩
def HL_STAT_HEALTHY : Fld := ⟨0x00B040, 0x0, 19, 16⟩
def HL_STAT_RXEQ : Fld := ⟨0x00B040, 0x0, 11, 9⟩
def HL_STAT_TXDE : Fld := ⟨0x00B040, 0x0, 8, 7⟩
def HL_TAGS_OPEN : Fld := ⟨0x00B044, 0x0, 24, 16⟩
def HL_TAGS_FREE : Fld := ⟨0x00B044, 0x0, 6, 0⟩
def HL_CTRL_RETRAIN : Fld := ⟨0x00B048, 0x0, 4, 4⟩
def HL_CTRL_LANES : Fld := ⟨0x00B048, 0x0, 3, 0⟩
def HL_EQ_OVR : Fld := ⟨0x00B04C, 0x0, 31, 31⟩
def HL_EQ_RXEQ : Fld := ⟨0x00B04C, 0x0, 30, 28⟩
def HL_EQ_TXDE : Fld := ⟨0x00B04C, 0x0, 27, 26⟩
def HL_CNT_1_CRC_ERR : Fld := ⟨0x00B050, 0x0, 31, 16⟩
def HL_CNT_1_NOCRED : Fld := ⟨0x00B050, 0x0, 15, 8⟩
def HL_CNT_1_TAGBUSY : Fld := ⟨0x00B050, 0x0, 7, 0⟩
def HL_CNT_2_RETRAINS : Fld := ⟨0x00B054, 0x0, 31, 24⟩
def HL_CNT_2_ABORTS : Fld := ⟨0x00B054, 0x0, 23, 16⟩
def HL_CNT_2_RESENT : Fld := ⟨0x00B054, 0x0, 15, 0⟩
def HL_LANE_n_SYM_ERR : Fld := ⟨0x00B060, 0x4, 31, 16⟩
def HL_LANE_n_EXCL : Fld := ⟨0x00B060, 0x4, 15, 15⟩
def HL_SPI_STAT_BUSY : Fld := ⟨0x00C040, 0x0, 31, 31⟩
def HL_SPI_STAT_LATE : Fld := ⟨0x00C040, 0x0, 24, 20⟩
def HL_SPI_CNT_CRC_ERR : Fld := ⟨0x00C044, 0x0, 31, 16⟩
def HL_SPI_CNT_LATE_DROP : Fld := ⟨0x00C044, 0x0, 15, 8⟩
def HL_SPI_CNT_ABANDONED : Fld := ⟨0x00C044, 0x0, 7, 0⟩
def FB_STAT_STATE : Fld := ⟨0x00D040, 0x1000, 31, 29⟩
def FB_STAT_ALONE : Fld := ⟨0x00D040, 0x1000, 28, 28⟩
def FB_STAT_TMASTER : Fld := ⟨0x00D040, 0x1000, 27, 27⟩
def FB_STAT_TSLAVE : Fld := ⟨0x00D040, 0x1000, 26, 26⟩
def FB_STAT_YIELD : Fld := ⟨0x00D040, 0x1000, 25, 25⟩
def FB_STAT_DOMTO : Fld := ⟨0x00D040, 0x1000, 24, 24⟩
def FB_STAT_REC : Fld := ⟨0x00D040, 0x1000, 23, 16⟩
def FB_STAT_TEC : Fld := ⟨0x00D040, 0x1000, 15, 7⟩
def FB_STAT_QLEN : Fld := ⟨0x00D040, 0x1000, 6, 0⟩
def FB_CFG_EN : Fld := ⟨0x00D044, 0x1000, 31, 31⟩
def FB_CFG_RATE : Fld := ⟨0x00D044, 0x1000, 30, 29⟩
def FB_CFG_DRATE : Fld := ⟨0x00D044, 0x1000, 28, 27⟩
def FB_CFG_NODE : Fld := ⟨0x00D044, 0x1000, 23, 16⟩
def FB_CFG_RETRY : Fld := ⟨0x00D044, 0x1000, 15, 8⟩
def FB_CTRL_TX_CANCEL : Fld := ⟨0x00D048, 0x1000, 2, 2⟩
def FB_CTRL_TX_SEND : Fld := ⟨0x00D048, 0x1000, 1, 1⟩
def FB_CTRL_KNOCK : Fld := ⟨0x00D048, 0x1000, 0, 0⟩
def FB_WAKE_ACT_EN : Fld := ⟨0x00D04C, 0x1000, 0, 0⟩
def FB_CNT_1_NOACK : Fld := ⟨0x00D050, 0x1000, 31, 24⟩
def FB_CNT_1_FAILED : Fld := ⟨0x00D050, 0x1000, 23, 16⟩
def FB_CNT_1_DROPPED : Fld := ⟨0x00D050, 0x1000, 15, 8⟩
def FB_CNT_1_BUSOFF : Fld := ⟨0x00D050, 0x1000, 7, 0⟩
def FB_CNT_2_BIT : Fld := ⟨0x00D054, 0x1000, 31, 24⟩
def FB_CNT_2_STUFF : Fld := ⟨0x00D054, 0x1000, 23, 16⟩
def FB_CNT_2_CRC : Fld := ⟨0x00D054, 0x1000, 15, 8⟩
def FB_CNT_2_FORM : Fld := ⟨0x00D054, 0x1000, 7, 0⟩
def FB_CNT_3_ARB_LOST : Fld := ⟨0x00D058, 0x1000, 31, 16⟩
def FB_CNT_3_ACK : Fld := ⟨0x00D058, 0x1000, 15, 8⟩
def FB_CNT_3_XFER_ABANDONED : Fld := ⟨0x00D058, 0x1000, 7, 0⟩
def FB_FRAMES_TX : Fld := ⟨0x00D05C, 0x1000, 31, 16⟩
def FB_FRAMES_RX : Fld := ⟨0x00D05C, 0x1000, 15, 0⟩
def FB_TSYNC_CFG_PERIOD : Fld := ⟨0x00D060, 0x1000, 6, 0⟩
def FB_TSYNC_STAT_LOCK : Fld := ⟨0x00D064, 0x1000, 31, 31⟩
def FB_TSYNC_STAT_TRUSTED : Fld := ⟨0x00D064, 0x1000, 30, 30⟩
def FB_TSYNC_STAT_DVALID : Fld := ⟨0x00D064, 0x1000, 29, 29⟩
def FB_TSYNC_STAT_MASTER : Fld := ⟨0x00D064, 0x1000, 23, 16⟩
def FB_TSYNC_STAT_SEQ : Fld := ⟨0x00D064, 0x1000, 15, 0⟩
def FB_TOFS_OFS : Fld := ⟨0x00D068, 0x1000, 31, 0⟩
def FB_TDLY_DLY : Fld := ⟨0x00D06C, 0x1000, 15, 0⟩
def FB_TX_ID_PRI : Fld := ⟨0x00D080, 0x1000, 27, 24⟩
def FB_TX_ID_KIND : Fld := ⟨0x00D080, 0x1000, 23, 16⟩
def FB_TX_ID_SRC : Fld := ⟨0x00D080, 0x1000, 15, 8⟩
def FB_TX_ID_DST : Fld := ⟨0x00D080, 0x1000, 7, 0⟩
def FB_TX_LEN_LEN : Fld := ⟨0x00D084, 0x1000, 5, 0⟩
def FB_TX_STAT_RESULT : Fld := ⟨0x00D088, 0x1000, 31, 28⟩
def FB_TX_STAT_ATTEMPTS : Fld := ⟨0x00D088, 0x1000, 27, 20⟩
def FB_RX_HDR_VALID : Fld := ⟨0x00D0C0, 0x1000, 31, 31⟩
def FB_RX_HDR_FAST : Fld := ⟨0x00D0C0, 0x1000, 30, 30⟩
def FB_RX_HDR_LEN : Fld := ⟨0x00D0C0, 0x1000, 29, 24⟩
def FB_RX_HDR_KIND : Fld := ⟨0x00D0C0, 0x1000, 23, 16⟩
def FB_RX_HDR_SRC : Fld := ⟨0x00D0C0, 0x1000, 15, 8⟩
def FB_RX_HDR_DST : Fld := ⟨0x00D0C0, 0x1000, 7, 0⟩
def FB_RX_INFO_PRI : Fld := ⟨0x00D0C4, 0x1000, 31, 28⟩
def FB_RX_INFO_LEFT : Fld := ⟨0x00D0C4, 0x1000, 23, 16⟩
def FB_RX_TS_LO_TS : Fld := ⟨0x00D0C8, 0x1000, 31, 0⟩
def FB_RX_TS_HI_TS : Fld := ⟨0x00D0CC, 0x1000, 31, 0⟩
def FB_TX_DATA_k_DATA : Fld := ⟨0x00D0A0, 0x4, 31, 0⟩
def FB_RX_DATA_k_DATA : Fld := ⟨0x00D0E0, 0x4, 31, 0⟩
def PCH_TS_STAT_SRC : Fld := ⟨0x008040, 0x0, 31, 30⟩
def PCH_TS_STAT_MASTER : Fld := ⟨0x008040, 0x0, 29, 28⟩
def PCH_TS_STAT_TRUSTED : Fld := ⟨0x008040, 0x0, 27, 27⟩
def PCH_TS_STAT_LOCK : Fld := ⟨0x008040, 0x0, 26, 26⟩
def PCH_TS_STAT_HOLD : Fld := ⟨0x008040, 0x0, 25, 25⟩
def PCH_TS_STAT_SLEW : Fld := ⟨0x008040, 0x0, 24, 24⟩
def PCH_TS_STAT_ALIGN_PEND : Fld := ⟨0x008040, 0x0, 23, 23⟩
def PCH_TS_NOW_LO_HT : Fld := ⟨0x008044, 0x0, 31, 0⟩
def PCH_TS_NOW_HI_HT : Fld := ⟨0x008048, 0x0, 31, 0⟩
def PCH_TS_SLEW_REM : Fld := ⟨0x00804C, 0x0, 31, 0⟩
def PCH_TS_RATE_RATE : Fld := ⟨0x008050, 0x0, 31, 16⟩
def PCH_TS_RATE_CELL_ERR : Fld := ⟨0x008050, 0x0, 15, 0⟩
def PCH_TS_STEP_STEP : Fld := ⟨0x008054, 0x0, 31, 0⟩
def PCH_TS_STEP_TS_LO_TS : Fld := ⟨0x008058, 0x0, 31, 0⟩
def PCH_TS_STEP_TS_HI_TS : Fld := ⟨0x00805C, 0x0, 31, 0⟩
def PCH_TS_CNT_STEPS : Fld := ⟨0x008060, 0x0, 31, 16⟩
def PCH_TS_CNT_HOLDS : Fld := ⟨0x008060, 0x0, 15, 8⟩
def PCH_TS_CNT_DISC : Fld := ⟨0x008060, 0x0, 7, 0⟩
def CLR_CAL_STAT_CALINV : Fld := ⟨0x040040, 0x0, 31, 31⟩
def CLR_CAL_STAT_LD_REJ : Fld := ⟨0x040040, 0x0, 15, 8⟩
def CLR_SUBSEC_SUB : Fld := ⟨0x040044, 0x0, 14, 0⟩
def CLR_DATE_YEAR : Fld := ⟨0x040048, 0x0, 31, 23⟩
def CLR_DATE_MONTH : Fld := ⟨0x040048, 0x0, 22, 19⟩
def CLR_DATE_DAY : Fld := ⟨0x040048, 0x0, 18, 14⟩
def CLR_TIME_HOUR : Fld := ⟨0x04004C, 0x0, 31, 27⟩
def CLR_TIME_MIN : Fld := ⟨0x04004C, 0x0, 26, 21⟩
def CLR_TIME_SEC : Fld := ⟨0x04004C, 0x0, 20, 15⟩
def CLR_LD_DATE_YEAR : Fld := ⟨0x040050, 0x0, 31, 23⟩
def CLR_LD_DATE_MONTH : Fld := ⟨0x040050, 0x0, 22, 19⟩
def CLR_LD_DATE_DAY : Fld := ⟨0x040050, 0x0, 18, 14⟩
def CLR_LD_TIME_HOUR : Fld := ⟨0x040054, 0x0, 31, 27⟩
def CLR_LD_TIME_MIN : Fld := ⟨0x040054, 0x0, 26, 21⟩
def CLR_LD_TIME_SEC : Fld := ⟨0x040054, 0x0, 20, 15⟩
def CLR_CTRL_LOAD : Fld := ⟨0x040058, 0x0, 0, 0⟩
def CLR_TRIM_TRIM : Fld := ⟨0x041040, 0x0, 31, 21⟩
def CLR_TRIM_BAND : Fld := ⟨0x041040, 0x0, 20, 18⟩
def CLR_TRIM_OFFSET : Fld := ⟨0x041040, 0x0, 13, 0⟩
def CLR_TRUST_TRUSTED : Fld := ⟨0x041044, 0x0, 31, 31⟩
def CLR_TRUST_CAUSE : Fld := ⟨0x041044, 0x0, 30, 28⟩
def CLR_TRUST_RETLOST : Fld := ⟨0x041044, 0x0, 27, 27⟩
def CLR_TRUST_OSCSTOP : Fld := ⟨0x041044, 0x0, 26, 26⟩
def CLR_SUPPLY_ON_CELL : Fld := ⟨0x042040, 0x0, 31, 31⟩
def CLR_SUPPLY_LOCKED : Fld := ⟨0x042040, 0x0, 30, 30⟩
def CLR_SUPPLY_RAIL : Fld := ⟨0x042040, 0x0, 27, 16⟩
def CLR_SUPPLY_CELL : Fld := ⟨0x042040, 0x0, 11, 0⟩
def CLR_SW_CNT_SWITCHES : Fld := ⟨0x042044, 0x0, 31, 16⟩
def CLR_SW_CNT_LOCKOUTS : Fld := ⟨0x042044, 0x0, 15, 0⟩
def PWR_STAT_STATE : Fld := ⟨0x009040, 0x0, 31, 28⟩
def PWR_STAT_TARGET : Fld := ⟨0x009040, 0x0, 27, 24⟩
def PWR_STAT_PHASE : Fld := ⟨0x009040, 0x0, 23, 21⟩
def PWR_STAT_WAKE_PEND : Fld := ⟨0x009040, 0x0, 20, 20⟩
def PWR_STAT_ASKING : Fld := ⟨0x009040, 0x0, 19, 0⟩
def PWR_CNT_ENTRIES : Fld := ⟨0x009044, 0x0, 31, 16⟩
def PWR_CNT_ABORTS : Fld := ⟨0x009044, 0x0, 15, 8⟩
def PWR_CNT_REFUSALS : Fld := ⟨0x009044, 0x0, 7, 0⟩
def PWR_LOG_SEL_SEL : Fld := ⟨0x009048, 0x0, 3, 0⟩
def PWR_LOG_1_PAGE : Fld := ⟨0x00904C, 0x0, 31, 12⟩
def PWR_LOG_1_CAUSE : Fld := ⟨0x00904C, 0x0, 11, 8⟩
def PWR_LOG_1_REASON : Fld := ⟨0x00904C, 0x0, 7, 0⟩
def PWR_LOG_2_STOPPED : Fld := ⟨0x009050, 0x0, 31, 24⟩
def PWR_LOG_2_TARGET : Fld := ⟨0x009050, 0x0, 23, 20⟩
def PWR_LOG_TS_LO_TS : Fld := ⟨0x009054, 0x0, 31, 0⟩
def PWR_LOG_TS_HI_TS : Fld := ⟨0x009058, 0x0, 31, 0⟩
def PWR_CEN_STAT_VALID : Fld := ⟨0x009060, 0x0, 31, 31⟩
def PWR_CEN_STAT_MIXED : Fld := ⟨0x009060, 0x0, 30, 30⟩
def PWR_CEN_STAT_ROLLBACK : Fld := ⟨0x009060, 0x0, 29, 29⟩
def PWR_CEN_STAT_POLICY : Fld := ⟨0x009060, 0x0, 28, 28⟩
def PWR_CEN_STAT_RETRIES : Fld := ⟨0x009060, 0x0, 27, 26⟩
def PWR_CEN_LSEQ_LSEQ : Fld := ⟨0x009064, 0x0, 31, 0⟩
def PWR_CEN_MISSED_LO_ZONES : Fld := ⟨0x009068, 0x0, 31, 0⟩
def PWR_CEN_MISSED_HI_ZONES : Fld := ⟨0x00906C, 0x0, 31, 0⟩
def PWR_CEN_LATE_LO_ZONES : Fld := ⟨0x009070, 0x0, 31, 0⟩
def PWR_CEN_LATE_HI_ZONES : Fld := ⟨0x009074, 0x0, 31, 0⟩
def PWR_HELD_w_SLICES : Fld := ⟨0x009080, 0x4, 31, 0⟩
def PWR_SUPPLY_VIN : Fld := ⟨0x009090, 0x0, 31, 16⟩
def PWR_SUPPLY_RANGE : Fld := ⟨0x009090, 0x0, 15, 15⟩
def PWR_SUPPLY_IIN : Fld := ⟨0x009090, 0x0, 11, 0⟩
def PWR_HOLDUP_VHU : Fld := ⟨0x009094, 0x0, 31, 16⟩
def PWR_HOLDUP_LOW : Fld := ⟨0x009094, 0x0, 15, 15⟩
def PWR_HOLDUP_CAP : Fld := ⟨0x009094, 0x0, 7, 0⟩
def PWR_START_CAUSE : Fld := ⟨0x009098, 0x0, 31, 28⟩
def PWR_START_PDET_S1 : Fld := ⟨0x009098, 0x0, 27, 27⟩
def PWR_START_PDET_S2 : Fld := ⟨0x009098, 0x0, 26, 26⟩
def PWR_START_START_MS : Fld := ⟨0x009098, 0x0, 15, 0⟩
def TH_STAT_WARN : Fld := ⟨0x00A040, 0x0, 31, 31⟩
def TH_STAT_THROTTLE : Fld := ⟨0x00A040, 0x0, 30, 30⟩
def TH_STAT_SHUT : Fld := ⟨0x00A040, 0x0, 29, 29⟩
def TH_STAT_BROKEN : Fld := ⟨0x00A040, 0x0, 28, 26⟩
def TH_STAT_DISAGREE : Fld := ⟨0x00A040, 0x0, 25, 25⟩
def TH_STAT_BAND : Fld := ⟨0x00A040, 0x0, 24, 22⟩
def TH_STAT_FACT : Fld := ⟨0x00A040, 0x0, 21, 15⟩
def TH_TEMP_VOTED : Fld := ⟨0x00A044, 0x0, 31, 16⟩
def TH_SENS_n_BROKEN : Fld := ⟨0x00A048, 0x4, 31, 31⟩
def TH_SENS_n_TEMP : Fld := ⟨0x00A048, 0x4, 15, 0⟩
def TH_PEAK_PEAK : Fld := ⟨0x00A054, 0x0, 15, 0⟩
def TH_CNT_WARNS : Fld := ⟨0x00A058, 0x0, 31, 24⟩
def TH_CNT_THROTTLES : Fld := ⟨0x00A058, 0x0, 23, 16⟩
def TH_CNT_SHUTDOWNS : Fld := ⟨0x00A058, 0x0, 15, 8⟩
def TH_CNT_SENS_FAULTS : Fld := ⟨0x00A058, 0x0, 7, 0⟩
def TH_TIME_THR_S : Fld := ⟨0x00A05C, 0x0, 31, 0⟩
def CLR_WAKE_STAT_LATCHED : Fld := ⟨0x043040, 0x0, 31, 31⟩
def CLR_WAKE_STAT_REPLAYING : Fld := ⟨0x043040, 0x0, 30, 30⟩
def CLR_WAKE_STAT_DEPTH : Fld := ⟨0x043040, 0x0, 29, 25⟩
def CLR_WAKE_TIMER_REMAIN : Fld := ⟨0x043044, 0x0, 31, 0⟩
def CLR_WAKE_EVT_LO_VALID : Fld := ⟨0x043048, 0x0, 31, 31⟩
def CLR_WAKE_EVT_LO_SRC : Fld := ⟨0x043048, 0x0, 30, 27⟩
def CLR_WAKE_EVT_LO_STATE : Fld := ⟨0x043048, 0x0, 26, 24⟩
def CLR_WAKE_EVT_LO_LEFT : Fld := ⟨0x043048, 0x0, 23, 16⟩
def CLR_WAKE_EVT_LO_COUNT : Fld := ⟨0x043048, 0x0, 15, 0⟩
def CLR_WAKE_EVT_HI_TS : Fld := ⟨0x04304C, 0x0, 31, 0⟩
def CLR_WAKE_CNT_WAKES : Fld := ⟨0x043050, 0x0, 31, 16⟩
def CLR_WAKE_CNT_DROPPED : Fld := ⟨0x043050, 0x0, 15, 8⟩
def CLR_WAKE_CNT_DURING : Fld := ⟨0x043050, 0x0, 7, 0⟩
def PCH_EC_SUM_CRIT : Fld := ⟨0x001040, 0x0, 31, 24⟩
def PCH_EC_SUM_FAULT : Fld := ⟨0x001040, 0x0, 23, 16⟩
def PCH_EC_SUM_WARN : Fld := ⟨0x001040, 0x0, 15, 8⟩
def PCH_EC_SUM_INFO : Fld := ⟨0x001040, 0x0, 7, 0⟩
def PCH_EC_LAST_ESEQ : Fld := ⟨0x001044, 0x0, 31, 0⟩
def PCH_EC_OLDEST_ESEQ : Fld := ⟨0x001048, 0x0, 31, 0⟩
def PCH_EC_CNT_BURST : Fld := ⟨0x00104C, 0x0, 31, 16⟩
def PCH_EC_CNT_OVERWRITTEN : Fld := ⟨0x00104C, 0x0, 15, 0⟩
def PCH_EC_SEL_ESEQ : Fld := ⟨0x001050, 0x0, 31, 0⟩
def PCH_EC_ENT_w_WORD : Fld := ⟨0x001080, 0x4, 31, 0⟩
def PCH_MR_STAT_A_OK : Fld := ⟨0x00F040, 0x0, 31, 31⟩
def PCH_MR_STAT_B_OK : Fld := ⟨0x00F040, 0x0, 30, 30⟩
def PCH_MR_STAT_SCRUB : Fld := ⟨0x00F040, 0x0, 29, 29⟩
def PCH_MR_STAT_RETURNING : Fld := ⟨0x00F040, 0x0, 28, 28⟩
def PCH_MR_STAT_BAND : Fld := ⟨0x00F040, 0x0, 27, 25⟩
def PCH_MR_BANK_b_EOL_MED : Fld := ⟨0x00F044, 0x4, 31, 24⟩
def PCH_MR_BANK_b_EOL_P10 : Fld := ⟨0x00F044, 0x4, 23, 16⟩
def PCH_MR_BANK_b_SPARES : Fld := ⟨0x00F044, 0x4, 6, 0⟩
def PCH_MR_CNT_CORRECTED : Fld := ⟨0x00F04C, 0x0, 31, 16⟩
def PCH_MR_CNT_REMAPPED : Fld := ⟨0x00F04C, 0x0, 15, 8⟩
def PCH_MR_CNT_UNCORR : Fld := ⟨0x00F04C, 0x0, 7, 0⟩
def PCH_RM_STAT_FREE : Fld := ⟨0x010040, 0x0, 31, 29⟩
def PCH_RM_STAT_FACT_OUT : Fld := ⟨0x010040, 0x0, 28, 26⟩
def PCH_RM_STAT_BUSY : Fld := ⟨0x010040, 0x0, 25, 25⟩
def PCH_RM_STAT_ZONE : Fld := ⟨0x010040, 0x0, 24, 19⟩
def PCH_RM_STAT_TARGET : Fld := ⟨0x010040, 0x0, 18, 12⟩
def PCH_RM_POLICY_AUTO : Fld := ⟨0x010044, 0x0, 31, 31⟩
def PCH_RM_POLICY_MARGIN : Fld := ⟨0x010044, 0x0, 23, 16⟩
def PCH_RM_CNT_PLANNED : Fld := ⟨0x010048, 0x0, 31, 24⟩
def PCH_RM_CNT_UNPLANNED : Fld := ⟨0x010048, 0x0, 23, 16⟩
def PCH_RM_CNT_ABANDONED : Fld := ⟨0x010048, 0x0, 15, 8⟩
def PCH_RM_CNT_DECLINED : Fld := ⟨0x010048, 0x0, 7, 0⟩
def PCH_CELL_EOL_MED : Fld := ⟨0x01004C, 0x0, 31, 24⟩
def PCH_CELL_EOL_P10 : Fld := ⟨0x01004C, 0x0, 23, 16⟩
def PCH_CELL_CAP : Fld := ⟨0x01004C, 0x0, 15, 8⟩
def PCH_CELL_ESR : Fld := ⟨0x01004C, 0x0, 7, 0⟩
def PCH_RM_S_s_STATE : Fld := ⟨0x010100, 0x4, 31, 28⟩
def PCH_RM_S_s_ZONE : Fld := ⟨0x010100, 0x4, 27, 22⟩
def PCH_RM_S_s_CAUSE : Fld := ⟨0x010100, 0x4, 21, 16⟩
def PCH_RM_S_s_EOL_MED : Fld := ⟨0x010100, 0x4, 15, 8⟩
def PCH_RM_S_s_EOL_P10 : Fld := ⟨0x010100, 0x4, 7, 0⟩
def HWY_STAT_BUSY : Fld := ⟨0x050040, 0x0, 31, 31⟩
def HWY_STAT_ZONE : Fld := ⟨0x050040, 0x0, 30, 25⟩
def HWY_MAP_z_VALID : Fld := ⟨0x050100, 0x4, 31, 31⟩
def HWY_MAP_z_SLICE : Fld := ⟨0x050100, 0x4, 30, 24⟩
def HWY_MAP_z_PATH : Fld := ⟨0x050100, 0x4, 23, 21⟩
def HWY_CAL_STAT_RUN : Fld := ⟨0x051040, 0x0, 31, 31⟩
def HWY_CAL_STAT_OLDEST : Fld := ⟨0x051040, 0x0, 15, 0⟩
def HWY_CAL_SEL_SPARE : Fld := ⟨0x051044, 0x0, 9, 8⟩
def HWY_CAL_SEL_ZONE : Fld := ⟨0x051044, 0x0, 5, 0⟩
def HWY_CAL_PATH_VALID : Fld := ⟨0x051048, 0x0, 31, 31⟩
def HWY_CAL_PATH_UNUSABLE : Fld := ⟨0x051048, 0x0, 30, 30⟩
def HWY_CAL_PATH_AGE : Fld := ⟨0x051048, 0x0, 29, 16⟩
def HWY_CAL_PATH_ALPHA : Fld := ⟨0x051048, 0x0, 15, 0⟩
def HWY_CAL_RES_i_R25 : Fld := ⟨0x051080, 0x4, 31, 16⟩
def HWY_CAL_RES_i_RNOW : Fld := ⟨0x051080, 0x4, 15, 0⟩
def PCH_MOD_ID_VARIANT : Fld := ⟨0x000040, 0x0, 31, 28⟩
def PCH_SERIAL_LO_SERIAL : Fld := ⟨0x000044, 0x0, 31, 0⟩
def PCH_SERIAL_HI_SERIAL : Fld := ⟨0x000048, 0x0, 31, 0⟩
def PCH_STATE_STATE : Fld := ⟨0x00004C, 0x0, 31, 29⟩
def PCH_STATE_PREV : Fld := ⟨0x00004C, 0x0, 28, 26⟩
def PCH_STATE_RESUMED : Fld := ⟨0x00004C, 0x0, 25, 25⟩
def PCH_STATE_DRAUGHT : Fld := ⟨0x00004C, 0x0, 24, 24⟩
def PCH_STATE_CHANGES : Fld := ⟨0x00004C, 0x0, 15, 0⟩
def PCH_STATE_TS_LO_TS : Fld := ⟨0x000050, 0x0, 31, 0⟩
def PCH_STATE_TS_HI_TS : Fld := ⟨0x000054, 0x0, 31, 0⟩
def PCH_BIT_RUN : Fld := ⟨0x000058, 0x0, 31, 31⟩
def PCH_BIT_PASS : Fld := ⟨0x000058, 0x0, 30, 30⟩
def PCH_BIT_TEST : Fld := ⟨0x000058, 0x0, 23, 16⟩
def PCH_BIT_RES_RESULT : Fld := ⟨0x00005C, 0x0, 31, 0⟩
def PCH_DRAUGHT_N_PAGES : Fld := ⟨0x000060, 0x0, 15, 0⟩

end F

/-- The register map of page 0x00000. -/
def regsOf00000 : List RegDef :=
  [⟨0x000040, 0x0, 1, 0x0, 0x0, 0x0, 0x0, 0x0⟩,
   ⟨0x000044, 0x0, 1, 0x0, 0x0, 0x0, 0x0, 0x0⟩,
   ⟨0x000048, 0x0, 1, 0x0, 0x0, 0x0, 0x0, 0x0⟩,
   ⟨0x00004C, 0x0, 1, 0x0, 0x0, 0x0, 0x0, 0x0⟩,
   ⟨0x000050, 0x0, 1, 0x0, 0x0, 0x0, 0x0, 0x0⟩,
   ⟨0x000054, 0x0, 1, 0x0, 0x0, 0x0, 0x0, 0x0⟩,
   ⟨0x000058, 0x0, 1, 0x0, 0x0, 0x0, 0x0, 0x0⟩,
   ⟨0x00005C, 0x0, 1, 0x0, 0x0, 0x0, 0x0, 0x0⟩,
   ⟨0x000060, 0x0, 1, 0x0, 0x0, 0x0, 0x0, 0x0⟩]

/-- The register map of page 0x00001. -/
def regsOf00001 : List RegDef :=
  [⟨0x001040, 0x0, 1, 0x0, 0x0, 0x0, 0x0, 0x0⟩,
   ⟨0x001044, 0x0, 1, 0x0, 0x0, 0x0, 0x0, 0x0⟩,
   ⟨0x001048, 0x0, 1, 0x0, 0x0, 0x0, 0x0, 0x0⟩,
   ⟨0x00104C, 0x0, 1, 0x0, 0x0, 0x0, 0xFFFFFFFF, 0x0⟩,
   ⟨0x001050, 0x0, 1, 0x0, 0xFFFFFFFF, 0x0, 0x0, 0x0⟩,
   ⟨0x001080, 0x4, 6, 0x0, 0x0, 0x0, 0x0, 0x0⟩]

/-- The register map of page 0x00002. -/
def regsOf00002 : List RegDef :=
  [⟨0x002040, 0x0, 1, 0x80000000, 0x0, 0x0, 0x0, 0x0⟩,
   ⟨0x002044, 0x0, 1, 0x1E, 0x0, 0x0, 0x0, 0x0⟩,
   ⟨0x002048, 0x0, 1, 0x0, 0x0, 0x0, 0x0, 0x0⟩,
   ⟨0x00204C, 0x0, 1, 0x0, 0x0, 0x0, 0xFFFFFFFF, 0x0⟩,
   ⟨0x002050, 0x0, 1, 0x0, 0x0, 0x0, 0xFFFFFFFF, 0x0⟩,
   ⟨0x002054, 0x0, 1, 0x0, 0x0, 0x0, 0x0, 0x0⟩,
   ⟨0x002058, 0x0, 1, 0x0, 0xFF, 0x0, 0x0, 0x0⟩,
   ⟨0x00205C, 0x0, 1, 0x0, 0x0, 0x0, 0x0, 0x0⟩,
   ⟨0x002060, 0x0, 1, 0x0, 0x0, 0x0, 0x0, 0x0⟩,
   ⟨0x002064, 0x0, 1, 0x0, 0xFFFF, 0x0, 0x0, 0x0⟩,
   ⟨0x002068, 0x0, 1, 0x0, 0xFFFFFFFF, 0x0, 0x0, 0x0⟩,
   ⟨0x00206C, 0x0, 1, 0x0, 0x0, 0x0, 0x0, 0x0⟩]

/-- The register map of page 0x00003. -/
def regsOf00003 : List RegDef :=
  [⟨0x003040, 0x0, 1, 0xC0000000, 0x0, 0x0, 0x0, 0x0⟩,
   ⟨0x003044, 0x0, 1, 0x0, 0x0, 0x0, 0x0, 0x0⟩,
   ⟨0x003048, 0x0, 1, 0x0, 0x0, 0x0, 0x0, 0x0⟩,
   ⟨0x00304C, 0x0, 1, 0x0, 0x0, 0x0, 0x0, 0x0⟩,
   ⟨0x003050, 0x0, 1, 0x0, 0x0, 0x0, 0x0, 0x0⟩,
   ⟨0x003054, 0x0, 1, 0x0, 0x0, 0x0, 0xFFFFFFFF, 0x0⟩,
   ⟨0x003058, 0x0, 1, 0x0, 0xFFFFFFFF, 0x0, 0x0, 0x0⟩,
   ⟨0x003080, 0x4, 16, 0x0, 0x0, 0x0, 0x0, 0x0⟩]

/-- The register map of page 0x00004. -/
def regsOf00004 : List RegDef :=
  [⟨0x004040, 0x0, 1, 0x0, 0x0, 0x0, 0x0, 0x0⟩,
   ⟨0x004044, 0x0, 1, 0x3CF00000, 0x0, 0x0, 0x0, 0x0⟩,
   ⟨0x004048, 0x0, 1, 0x0, 0x0, 0x0, 0x0, 0x0⟩,
   ⟨0x00404C, 0x0, 1, 0x0, 0x0, 0x0, 0x0, 0x0⟩,
   ⟨0x004050, 0x0, 1, 0x0, 0xFFFFFFFF, 0x0, 0x0, 0x0⟩,
   ⟨0x004054, 0x0, 1, 0x0, 0x0, 0x0, 0x0, 0x0⟩,
   ⟨0x004058, 0x0, 1, 0x0, 0x0, 0x0, 0x0, 0x0⟩,
   ⟨0x00405C, 0x0, 1, 0x0, 0x0, 0x0, 0x0, 0x0⟩,
   ⟨0x004060, 0x0, 1, 0x0, 0x0, 0x0, 0x0, 0x0⟩,
   ⟨0x004064, 0x0, 1, 0x0, 0x0, 0x0, 0xFFFFFFFF, 0x0⟩]

/-- The register map of page 0x00008. -/
def regsOf00008 : List RegDef :=
  [⟨0x008040, 0x0, 1, 0x0, 0x0, 0x0, 0x0, 0x0⟩,
   ⟨0x008044, 0x0, 1, 0x0, 0x0, 0x0, 0x0, 0x0⟩,
   ⟨0x008048, 0x0, 1, 0x0, 0x0, 0x0, 0x0, 0x0⟩,
   ⟨0x00804C, 0x0, 1, 0x0, 0x0, 0x0, 0x0, 0x0⟩,
   ⟨0x008050, 0x0, 1, 0x8000, 0x0, 0x0, 0x0, 0x0⟩,
   ⟨0x008054, 0x0, 1, 0x0, 0x0, 0x0, 0x0, 0x0⟩,
   ⟨0x008058, 0x0, 1, 0x0, 0x0, 0x0, 0x0, 0x0⟩,
   ⟨0x00805C, 0x0, 1, 0x0, 0x0, 0x0, 0x0, 0x0⟩,
   ⟨0x008060, 0x0, 1, 0x0, 0x0, 0x0, 0xFFFFFFFF, 0x0⟩]

/-- The register map of page 0x00009. -/
def regsOf00009 : List RegDef :=
  [⟨0x009040, 0x0, 1, 0x0, 0x0, 0x0, 0x0, 0x0⟩,
   ⟨0x009044, 0x0, 1, 0x0, 0x0, 0x0, 0xFFFFFFFF, 0x0⟩,
   ⟨0x009048, 0x0, 1, 0x0, 0xF, 0x0, 0x0, 0x0⟩,
   ⟨0x00904C, 0x0, 1, 0x0, 0x0, 0x0, 0x0, 0x0⟩,
   ⟨0x009050, 0x0, 1, 0x0, 0x0, 0x0, 0x0, 0x0⟩,
   ⟨0x009054, 0x0, 1, 0x0, 0x0, 0x0, 0x0, 0x0⟩,
   ⟨0x009058, 0x0, 1, 0x0, 0x0, 0x0, 0x0, 0x0⟩,
   ⟨0x009060, 0x0, 1, 0x0, 0x0, 0x0, 0x0, 0x0⟩,
   ⟨0x009064, 0x0, 1, 0x0, 0x0, 0x0, 0x0, 0x0⟩,
   ⟨0x009068, 0x0, 1, 0x0, 0x0, 0x0, 0x0, 0x0⟩,
   ⟨0x00906C, 0x0, 1, 0x0, 0x0, 0x0, 0x0, 0x0⟩,
   ⟨0x009070, 0x0, 1, 0x0, 0x0, 0x0, 0x0, 0x0⟩,
   ⟨0x009074, 0x0, 1, 0x0, 0x0, 0x0, 0x0, 0x0⟩,
   ⟨0x009080, 0x4, 3, 0x0, 0x0, 0x0, 0x0, 0x0⟩,
   ⟨0x009090, 0x0, 1, 0x0, 0x0, 0x0, 0x0, 0x0⟩,
   ⟨0x009094, 0x0, 1, 0x0, 0x0, 0x0, 0x0, 0x0⟩,
   ⟨0x009098, 0x0, 1, 0xC000000, 0x0, 0x0, 0x0, 0x0⟩]

/-- The register map of page 0x0000A. -/
def regsOf0000A : List RegDef :=
  [⟨0x00A040, 0x0, 1, 0xB20000, 0x0, 0x0, 0x0, 0x0⟩,
   ⟨0x00A044, 0x0, 1, 0x80000000, 0x0, 0x0, 0x0, 0x0⟩,
   ⟨0x00A048, 0x4, 3, 0x8000, 0x0, 0x0, 0x0, 0x0⟩,
   ⟨0x00A054, 0x0, 1, 0x8000, 0x0, 0x0, 0xFFFF, 0x0⟩,
   ⟨0x00A058, 0x0, 1, 0x0, 0x0, 0x0, 0xFFFFFFFF, 0x0⟩,
   ⟨0x00A05C, 0x0, 1, 0x0, 0x0, 0x0, 0x0, 0x0⟩]

/-- The register map of page 0x0000B. -/
def regsOf0000B : List RegDef :=
  [⟨0x00B040, 0x0, 1, 0xF0000, 0x0, 0x0, 0x0, 0x0⟩,
   ⟨0x00B044, 0x0, 1, 0x40, 0x0, 0x0, 0x0, 0x0⟩,
   ⟨0x00B048, 0x0, 1, 0x0, 0x0, 0x0, 0x0, 0xFFFFFFFF⟩,
   ⟨0x00B04C, 0x0, 1, 0x0, 0xFC000000, 0x0, 0x0, 0x0⟩,
   ⟨0x00B050, 0x0, 1, 0x0, 0x0, 0x0, 0xFFFFFFFF, 0x0⟩,
   ⟨0x00B054, 0x0, 1, 0x0, 0x0, 0x0, 0xFFFFFFFF, 0x0⟩,
   ⟨0x00B060, 0x4, 4, 0x0, 0x0, 0x0, 0xFFFF0000, 0x0⟩]

/-- The register map of page 0x0000C. -/
def regsOf0000C : List RegDef :=
  [⟨0x00C040, 0x0, 1, 0x0, 0x0, 0x0, 0x0, 0x0⟩,
   ⟨0x00C044, 0x0, 1, 0x0, 0x0, 0x0, 0xFFFFFFFF, 0x0⟩]

/-- The register map of page 0x0000D. -/
def regsOf0000D : List RegDef :=
  [⟨0x00D040, 0x1000, 2, 0x0, 0x0, 0x0, 0x0, 0x0⟩,
   ⟨0x00D044, 0x1000, 2, 0x40FE1000, 0x0, 0x0, 0x0, 0x0⟩,
   ⟨0x00D048, 0x1000, 2, 0x0, 0x0, 0x0, 0x0, 0xFFFFFFFF⟩,
   ⟨0x00D04C, 0x1000, 2, 0x1, 0x1, 0x0, 0x0, 0x0⟩,
   ⟨0x00D050, 0x1000, 2, 0x0, 0x0, 0x0, 0xFFFFFFFF, 0x0⟩,
   ⟨0x00D054, 0x1000, 2, 0x0, 0x0, 0x0, 0xFFFFFFFF, 0x0⟩,
   ⟨0x00D058, 0x1000, 2, 0x0, 0x0, 0x0, 0xFFFFFFFF, 0x0⟩,
   ⟨0x00D05C, 0x1000, 2, 0x0, 0x0, 0x0, 0x0, 0x0⟩,
   ⟨0x00D060, 0x1000, 2, 0x8, 0x7F, 0x0, 0x0, 0x0⟩,
   ⟨0x00D064, 0x1000, 2, 0xFF0000, 0x0, 0x0, 0x0, 0x0⟩,
   ⟨0x00D068, 0x1000, 2, 0x0, 0x0, 0x0, 0x0, 0x0⟩,
   ⟨0x00D06C, 0x1000, 2, 0x0, 0x0, 0x0, 0x0, 0x0⟩,
   ⟨0x00D080, 0x1000, 2, 0x0, 0xFFF00FF, 0x0, 0x0, 0x0⟩,
   ⟨0x00D084, 0x1000, 2, 0x0, 0x3F, 0x0, 0x0, 0x0⟩,
   ⟨0x00D088, 0x1000, 2, 0x0, 0x0, 0x0, 0x0, 0x0⟩,
   ⟨0x00D0C0, 0x1000, 2, 0x0, 0x0, 0x0, 0x0, 0x0⟩,
   ⟨0x00D0C4, 0x1000, 2, 0x0, 0x0, 0x0, 0x0, 0x0⟩,
   ⟨0x00D0C8, 0x1000, 2, 0x0, 0x0, 0x0, 0x0, 0x0⟩,
   ⟨0x00D0CC, 0x1000, 2, 0x0, 0x0, 0x0, 0x0, 0x0⟩,
   ⟨0x00D0A0, 0x4, 8, 0x0, 0xFFFFFFFF, 0x0, 0x0, 0x0⟩,
   ⟨0x00D0E0, 0x4, 8, 0x0, 0x0, 0x0, 0x0, 0x0⟩]

/-- The register map of page 0x0000F. -/
def regsOf0000F : List RegDef :=
  [⟨0x00F040, 0x0, 1, 0xC4000000, 0x0, 0x0, 0x0, 0x0⟩,
   ⟨0x00F044, 0x4, 2, 0xFFFF0040, 0x0, 0x0, 0x0, 0x0⟩,
   ⟨0x00F04C, 0x0, 1, 0x0, 0x0, 0x0, 0xFFFFFFFF, 0x0⟩]

/-- The register map of page 0x00010. -/
def regsOf00010 : List RegDef :=
  [⟨0x010040, 0x0, 1, 0x0, 0x0, 0x0, 0x0, 0x0⟩,
   ⟨0x010044, 0x0, 1, 0x80060000, 0x0, 0x0, 0x0, 0x0⟩,
   ⟨0x010048, 0x0, 1, 0x0, 0x0, 0x0, 0xFFFFFFFF, 0x0⟩,
   ⟨0x01004C, 0x0, 1, 0xFFFF9600, 0x0, 0x0, 0x0, 0x0⟩,
   ⟨0x010100, 0x4, 68, 0xFFFF, 0x0, 0x0, 0x0, 0x0⟩]

/-- The register map of page 0x00040. -/
def regsOf00040 : List RegDef :=
  [⟨0x040040, 0x0, 1, 0x0, 0x0, 0x0, 0xFF00, 0x0⟩,
   ⟨0x040044, 0x0, 1, 0x0, 0x0, 0x0, 0x0, 0x0⟩,
   ⟨0x040048, 0x0, 1, 0x84000, 0x0, 0x0, 0x0, 0x0⟩,
   ⟨0x04004C, 0x0, 1, 0x0, 0x0, 0x0, 0x0, 0x0⟩,
   ⟨0x040050, 0x0, 1, 0x84000, 0xFFFFC000, 0x0, 0x0, 0x0⟩,
   ⟨0x040054, 0x0, 1, 0x0, 0xFFFF8000, 0x0, 0x0, 0x0⟩,
   ⟨0x040058, 0x0, 1, 0x0, 0x0, 0x0, 0x0, 0xFFFFFFFF⟩]

/-- The register map of page 0x00041. -/
def regsOf00041 : List RegDef :=
  [⟨0x041040, 0x0, 1, 0x80080, 0x0, 0x0, 0x0, 0x0⟩,
   ⟨0x041044, 0x0, 1, 0x18000000, 0x0, 0xC000000, 0x0, 0x0⟩]

/-- The register map of page 0x00042. -/
def regsOf00042 : List RegDef :=
  [⟨0x042040, 0x0, 1, 0x0, 0x0, 0x0, 0x0, 0x0⟩,
   ⟨0x042044, 0x0, 1, 0x0, 0x0, 0x0, 0xFFFFFFFF, 0x0⟩]

/-- The register map of page 0x00043. -/
def regsOf00043 : List RegDef :=
  [⟨0x043040, 0x0, 1, 0x0, 0x0, 0x0, 0x0, 0x0⟩,
   ⟨0x043044, 0x0, 1, 0x0, 0x0, 0x0, 0x0, 0x0⟩,
   ⟨0x043048, 0x0, 1, 0x0, 0x0, 0x0, 0x0, 0x0⟩,
   ⟨0x04304C, 0x0, 1, 0x0, 0x0, 0x0, 0x0, 0x0⟩,
   ⟨0x043050, 0x0, 1, 0x0, 0x0, 0x0, 0xFFFFFFFF, 0x0⟩]

/-- The register map of page 0x00050. -/
def regsOf00050 : List RegDef :=
  [⟨0x050040, 0x0, 1, 0x0, 0x0, 0x0, 0x0, 0x0⟩,
   ⟨0x050100, 0x4, 64, 0x80000000, 0x0, 0x0, 0x0, 0x0⟩]

/-- The register map of page 0x00051. -/
def regsOf00051 : List RegDef :=
  [⟨0x051040, 0x0, 1, 0x0, 0x0, 0x0, 0x0, 0x0⟩,
   ⟨0x051044, 0x0, 1, 0x0, 0x33F, 0x0, 0x0, 0x0⟩,
   ⟨0x051048, 0x0, 1, 0x0, 0x0, 0x0, 0x0, 0x0⟩,
   ⟨0x051080, 0x4, 18, 0x0, 0x0, 0x0, 0x0, 0x0⟩]

/-- The register map of page 0x00100 (slice subpage 0x00). -/
def regsOf00100 : List RegDef :=
  [⟨0x100040, 0x0, 1, 0x0, 0x0, 0x0, 0x0, 0x0⟩,
   ⟨0x100044, 0x0, 1, 0x0, 0x0, 0x0, 0x0, 0x0⟩,
   ⟨0x100048, 0x0, 1, 0x0, 0x0, 0x0, 0x0, 0x0⟩,
   ⟨0x10004C, 0x0, 1, 0x0, 0x0, 0x0, 0x0, 0x0⟩]

/-- The register map of page 0x00101 (slice subpage 0x01). -/
def regsOf00101 : List RegDef :=
  [⟨0x101040, 0x0, 1, 0x40000000, 0x0, 0x0, 0x0, 0x0⟩,
   ⟨0x101044, 0x0, 1, 0x14120F3D, 0x0, 0x0, 0x0, 0x0⟩,
   ⟨0x101048, 0x0, 1, 0x0, 0x0, 0x0, 0x0, 0x0⟩,
   ⟨0x10104C, 0x0, 1, 0x0, 0x0, 0x0, 0x0, 0x0⟩,
   ⟨0x101050, 0x0, 1, 0xFFFF8000, 0x0, 0x0, 0x0, 0x0⟩,
   ⟨0x101054, 0x0, 1, 0x0, 0x0, 0x0, 0x0, 0x0⟩,
   ⟨0x101058, 0x0, 1, 0xC005180A, 0x0, 0x0, 0x0, 0x0⟩,
   ⟨0x10105C, 0x0, 1, 0x0, 0x0, 0x0, 0x0, 0x0⟩,
   ⟨0x101060, 0x0, 1, 0x0, 0x0, 0x0, 0xFFFFFFFF, 0x0⟩,
   ⟨0x101064, 0x0, 1, 0x0, 0x0, 0x0, 0x0, 0xFFFFFFFF⟩,
   ⟨0x101080, 0x20, 4, 0x200000, 0x0, 0x0, 0x0, 0x0⟩,
   ⟨0x101084, 0x20, 4, 0x8000, 0x0, 0x0, 0x0, 0x0⟩,
   ⟨0x101088, 0x20, 4, 0x80000000, 0x0, 0x0, 0x0, 0x0⟩,
   ⟨0x10108C, 0x20, 4, 0x0, 0x0, 0x0, 0x0, 0x0⟩,
   ⟨0x101090, 0x20, 4, 0x0, 0x0, 0x0, 0x0, 0x0⟩,
   ⟨0x101094, 0x20, 4, 0x0, 0x0, 0x0, 0x0, 0x0⟩,
   ⟨0x101098, 0x20, 4, 0x0, 0x0, 0x0, 0x0, 0x0⟩,
   ⟨0x10109C, 0x20, 4, 0x0, 0x0, 0x0, 0x0, 0x0⟩]

/-- The register map of page 0x00102 (slice subpage 0x02). -/
def regsOf00102 : List RegDef :=
  [⟨0x102040, 0x0, 1, 0xFF00, 0x0, 0x0, 0x0, 0x0⟩,
   ⟨0x102044, 0x0, 1, 0x0, 0x0, 0x0, 0x0, 0x0⟩,
   ⟨0x102048, 0x0, 1, 0x0, 0x0, 0x0, 0x0, 0xFFFFFFFF⟩,
   ⟨0x10204C, 0x0, 1, 0x80000000, 0xFFFF8000, 0x0, 0x0, 0x0⟩,
   ⟨0x102050, 0x0, 1, 0x0, 0x0, 0x0, 0xFFFFFFFF, 0x0⟩,
   ⟨0x102054, 0x0, 1, 0x0, 0x0, 0x0, 0xFFFFFFFF, 0x0⟩,
   ⟨0x102058, 0x0, 1, 0x0, 0x0, 0x0, 0x0, 0x0⟩,
   ⟨0x10205C, 0x0, 1, 0x0, 0x0, 0x0, 0x0, 0x0⟩,
   ⟨0x102060, 0x0, 1, 0x0, 0x0, 0x0, 0x0, 0x0⟩,
   ⟨0x102064, 0x0, 1, 0x400000, 0x0, 0x0, 0x0, 0x0⟩,
   ⟨0x102068, 0x0, 1, 0x0, 0x0, 0x0, 0x0, 0x0⟩,
   ⟨0x10206C, 0x0, 1, 0x0, 0x0, 0x0, 0x0, 0x0⟩,
   ⟨0x102070, 0x0, 1, 0x0, 0x0, 0x0, 0x0, 0x0⟩,
   ⟨0x102080, 0x10, 4, 0x18C0000, 0xFFFF8000, 0x0, 0x0, 0x0⟩,
   ⟨0x102084, 0x10, 4, 0x40, 0xFFFFFF, 0x0, 0x0, 0x0⟩,
   ⟨0x102088, 0x10, 4, 0x0, 0xFFFFFF, 0x0, 0x0, 0x0⟩,
   ⟨0x10208C, 0x10, 4, 0x0, 0x0, 0x0, 0x0, 0x0⟩,
   ⟨0x102100, 0x4, 32, 0x0, 0xFFFFFFF8, 0x0, 0x0, 0x0⟩]

/-- The register map of page 0x00103 (slice subpage 0x03). -/
def regsOf00103 : List RegDef :=
  [⟨0x103040, 0x8, 32, 0x0, 0x0, 0x0, 0xC0000000, 0x0⟩,
   ⟨0x103044, 0x8, 32, 0x0, 0x0, 0x0, 0x0, 0x0⟩,
   ⟨0x103140, 0x8, 32, 0x0, 0x0, 0x0, 0xC0000000, 0x0⟩,
   ⟨0x103144, 0x8, 32, 0x0, 0x0, 0x0, 0x0, 0x0⟩,
   ⟨0x103240, 0x0, 1, 0x0, 0x0, 0x0, 0xC0000000, 0x0⟩,
   ⟨0x103244, 0x0, 1, 0x0, 0x0, 0x0, 0x0, 0x0⟩]

/-- The register map of page 0x00104 (slice subpage 0x04). -/
def regsOf00104 : List RegDef :=
  [⟨0x104040, 0x0, 1, 0x0, 0x0, 0x0, 0x0, 0x0⟩,
   ⟨0x104044, 0x0, 1, 0x8000032, 0x0, 0x0, 0x0, 0x0⟩,
   ⟨0x104048, 0x0, 1, 0x3F800000, 0x0, 0x0, 0x0, 0x0⟩,
   ⟨0x10404C, 0x0, 1, 0x3F800000, 0x0, 0x0, 0x0, 0x0⟩,
   ⟨0x104050, 0x0, 1, 0x0, 0x0, 0x0, 0x0, 0x0⟩,
   ⟨0x104054, 0x0, 1, 0x0, 0x0, 0x0, 0x0, 0x0⟩,
   ⟨0x104058, 0x0, 1, 0x0, 0x0, 0x0, 0x0, 0x0⟩,
   ⟨0x104060, 0x4, 8, 0x0, 0x0, 0x0, 0x0, 0x0⟩,
   ⟨0x104080, 0x0, 1, 0x0, 0x0, 0x0, 0x0, 0x0⟩,
   ⟨0x104084, 0x0, 1, 0x0, 0x0, 0x0, 0x0, 0x0⟩,
   ⟨0x104088, 0x0, 1, 0x0, 0x0, 0x0, 0x0, 0x0⟩,
   ⟨0x10408C, 0x0, 1, 0x0, 0x0, 0x0, 0x0, 0x0⟩,
   ⟨0x104090, 0x0, 1, 0x0, 0x0, 0x0, 0x0, 0x0⟩,
   ⟨0x104094, 0x0, 1, 0x0, 0x0, 0x0, 0x0, 0x0⟩,
   ⟨0x104098, 0x0, 1, 0x0, 0x0, 0x0, 0x0, 0x0⟩,
   ⟨0x10409C, 0x0, 1, 0x0, 0x0, 0x0, 0x0, 0x0⟩,
   ⟨0x1040A0, 0x0, 1, 0x0, 0x0, 0x0, 0x0, 0x0⟩,
   ⟨0x1040A4, 0x0, 1, 0x0, 0x0, 0x0, 0x0, 0x0⟩,
   ⟨0x1040A8, 0x0, 1, 0x0, 0x0, 0x0, 0x0, 0x0⟩,
   ⟨0x1040AC, 0x0, 1, 0x0, 0x0, 0x0, 0x0, 0x0⟩,
   ⟨0x1040B0, 0x0, 1, 0x0, 0x0, 0x0, 0x0, 0x0⟩,
   ⟨0x1040C0, 0x0, 1, 0x0, 0x0, 0x0, 0x0, 0x0⟩,
   ⟨0x1040C4, 0x0, 1, 0x0, 0x0, 0x0, 0x0, 0x0⟩,
   ⟨0x1040C8, 0x8, 7, 0x0, 0x0, 0x0, 0x0, 0x0⟩,
   ⟨0x1040CC, 0x8, 7, 0x0, 0x0, 0x0, 0x0, 0x0⟩,
   ⟨0x104100, 0x0, 1, 0x0, 0x0, 0x0, 0x0, 0x0⟩,
   ⟨0x104104, 0x0, 1, 0x0, 0x0, 0x0, 0x0, 0x0⟩,
   ⟨0x104108, 0x0, 1, 0x0, 0x0, 0x0, 0x0, 0x0⟩,
   ⟨0x10410C, 0x0, 1, 0x0, 0x0, 0x0, 0x0, 0x0⟩,
   ⟨0x104204, 0x4, 50, 0x0, 0x0, 0x0, 0x0, 0x0⟩,
   ⟨0x104304, 0x4, 50, 0x0, 0x0, 0x0, 0x0, 0x0⟩,
   ⟨0x104400, 0x0, 1, 0x0, 0xFF80FFFF, 0x0, 0x0, 0x0⟩,
   ⟨0x104404, 0x0, 1, 0x0, 0x0, 0x0, 0x0, 0xFFFFFFFF⟩,
   ⟨0x104408, 0x0, 1, 0x0, 0x0, 0x0, 0xFF0000, 0x0⟩,
   ⟨0x10440C, 0x0, 1, 0x0, 0x0, 0x0, 0x0, 0x0⟩,
   ⟨0x104410, 0x0, 1, 0x0, 0x0, 0x0, 0x0, 0x0⟩,
   ⟨0x104414, 0x0, 1, 0x0, 0xFFFF, 0x0, 0x0, 0x0⟩,
   ⟨0x104418, 0x0, 1, 0x0, 0x0, 0x0, 0x0, 0x0⟩]

/-- The register map of page 0x00105 (slice subpage 0x05). -/
def regsOf00105 : List RegDef :=
  [⟨0x105040, 0x0, 1, 0x0, 0x0, 0x0, 0x0, 0x0⟩,
   ⟨0x105044, 0x0, 1, 0xA01414, 0x0, 0x0, 0x0, 0x0⟩,
   ⟨0x105048, 0x4, 2, 0x22710, 0x0, 0x0, 0x0, 0x0⟩,
   ⟨0x105050, 0x4, 2, 0x0, 0x0, 0x0, 0x0, 0x0⟩,
   ⟨0x105058, 0x0, 1, 0x0, 0x0, 0x0, 0x0, 0x0⟩,
   ⟨0x10505C, 0x0, 1, 0x18000000, 0x0, 0x0, 0x0, 0x0⟩,
   ⟨0x105060, 0x0, 1, 0x80008000, 0x0, 0x0, 0x0, 0x0⟩,
   ⟨0x105064, 0x0, 1, 0x0, 0x0, 0x0, 0x0, 0x0⟩,
   ⟨0x105068, 0x4, 2, 0x0, 0x0, 0x0, 0x0, 0x0⟩,
   ⟨0x105070, 0x0, 1, 0x0, 0x0, 0x0, 0x0, 0x0⟩,
   ⟨0x105074, 0x0, 1, 0x0, 0x0, 0x0, 0x0, 0x0⟩,
   ⟨0x105078, 0x0, 1, 0x0, 0x0, 0x0, 0xFFFFFFFF, 0x0⟩,
   ⟨0x105080, 0x0, 1, 0x0, 0x0, 0x0, 0x0, 0x0⟩,
   ⟨0x105084, 0x0, 1, 0x0, 0x0, 0x0, 0x0, 0x0⟩,
   ⟨0x105088, 0x8, 4, 0x0, 0x0, 0x0, 0x0, 0x0⟩,
   ⟨0x10508C, 0x8, 4, 0x0, 0x0, 0x0, 0x0, 0x0⟩]

/-- The register map of page 0x00106 (slice subpage 0x06). -/
def regsOf00106 : List RegDef :=
  [⟨0x106040, 0x0, 1, 0x0, 0x0, 0x0, 0x0, 0x0⟩,
   ⟨0x106044, 0x0, 1, 0x80008000, 0x0, 0x0, 0x0, 0x0⟩,
   ⟨0x106048, 0x0, 1, 0x80008000, 0x0, 0x0, 0x0, 0x0⟩,
   ⟨0x10604C, 0x0, 1, 0x0, 0x0, 0x0, 0x0, 0x0⟩,
   ⟨0x106050, 0x0, 1, 0x8340960, 0x0, 0x0, 0x0, 0x0⟩,
   ⟨0x106054, 0x0, 1, 0x6A40AF0, 0x0, 0x0, 0x0, 0x0⟩,
   ⟨0x106058, 0x0, 1, 0x1F40A1E, 0x0, 0x0, 0x0, 0x0⟩,
   ⟨0x10605C, 0x0, 1, 0x3C1E0000, 0x0, 0x0, 0x0, 0x0⟩,
   ⟨0x106060, 0x0, 1, 0x3E80708, 0x0, 0x0, 0x0, 0x0⟩,
   ⟨0x106064, 0x0, 1, 0x3E80708, 0x0, 0x0, 0x0, 0x0⟩,
   ⟨0x106068, 0x0, 1, 0x12C0078, 0x0, 0x0, 0x0, 0x0⟩,
   ⟨0x10606C, 0x0, 1, 0xFA00514, 0x0, 0x0, 0x0, 0x0⟩,
   ⟨0x106070, 0x0, 1, 0x13883214, 0x0, 0x0, 0x0, 0x0⟩,
   ⟨0x106074, 0x0, 1, 0x80003200, 0x0, 0x0, 0x0, 0x0⟩,
   ⟨0x106078, 0x0, 1, 0x14001418, 0x0, 0x0, 0x0, 0x0⟩,
   ⟨0x106080, 0x4, 5, 0x64320, 0x0, 0x0, 0x0, 0x0⟩,
   ⟨0x1060A0, 0x4, 5, 0x0, 0x0, 0x0, 0x0, 0x0⟩,
   ⟨0x1060C0, 0x0, 1, 0x0, 0x0, 0x0, 0x0, 0x0⟩,
   ⟨0x1060C4, 0x0, 1, 0x0, 0x0, 0x0, 0x0, 0x0⟩,
   ⟨0x1060C8, 0x0, 1, 0x0, 0x0, 0x0, 0x0, 0x0⟩,
   ⟨0x1060CC, 0x0, 1, 0x0, 0x0, 0x0, 0x0, 0x0⟩,
   ⟨0x1060D0, 0x0, 1, 0x0, 0x0, 0x0, 0x0, 0x0⟩,
   ⟨0x1060D4, 0x0, 1, 0x0, 0x0, 0x0, 0x0, 0x0⟩,
   ⟨0x1060D8, 0x0, 1, 0x800000FF, 0x0, 0x0, 0x0, 0x0⟩,
   ⟨0x1060E0, 0x0, 1, 0x0, 0x0, 0x0, 0x0, 0x0⟩,
   ⟨0x1060E4, 0x0, 1, 0x0, 0x0, 0x0, 0x0, 0x0⟩,
   ⟨0x1060E8, 0x0, 1, 0x0, 0x0, 0x0, 0x0, 0x0⟩,
   ⟨0x1060EC, 0x0, 1, 0x0, 0x0, 0x0, 0x0, 0x0⟩,
   ⟨0x1060F0, 0x0, 1, 0x0, 0x0, 0x0, 0x0, 0x0⟩,
   ⟨0x1060F4, 0x0, 1, 0x0, 0x0, 0x0, 0x0, 0x0⟩,
   ⟨0x1060F8, 0x0, 1, 0x0, 0x0, 0x0, 0xFFFFFFFF, 0x0⟩]

/-- The register map of page 0x00107 (slice subpage 0x07). -/
def regsOf00107 : List RegDef :=
  [⟨0x107040, 0x0, 1, 0x0, 0x0, 0x0, 0x0, 0x0⟩,
   ⟨0x107044, 0x0, 1, 0x321E1, 0x0, 0x0, 0x0, 0x0⟩,
   ⟨0x107048, 0x0, 1, 0x0, 0x0, 0x0, 0x0, 0x0⟩,
   ⟨0x10704C, 0x0, 1, 0x3C040A00, 0x0, 0x0, 0x0, 0x0⟩,
   ⟨0x107050, 0x0, 1, 0x0, 0x0, 0x0, 0x0, 0x0⟩,
   ⟨0x107054, 0x0, 1, 0x80008000, 0x0, 0x0, 0x0, 0x0⟩,
   ⟨0x107058, 0x0, 1, 0x0, 0x0, 0x0, 0x0, 0x0⟩,
   ⟨0x10705C, 0x0, 1, 0x0, 0x0, 0x0, 0x0, 0x0⟩,
   ⟨0x107060, 0x0, 1, 0xFFFFFFFF, 0x0, 0x0, 0x0, 0x0⟩,
   ⟨0x107064, 0x0, 1, 0xFFFFFFFF, 0x0, 0x0, 0x0, 0x0⟩,
   ⟨0x107068, 0x0, 1, 0x0, 0x0, 0x0, 0x0, 0x0⟩,
   ⟨0x10706C, 0x0, 1, 0x0, 0x0, 0x0, 0x0, 0x0⟩,
   ⟨0x107070, 0x0, 1, 0x0, 0x0, 0x0, 0xFFFFFFFF, 0x0⟩,
   ⟨0x107100, 0x4, 96, 0xFFFFF000, 0x0, 0x0, 0x0, 0x0⟩,
   ⟨0x107300, 0x4, 168, 0x0, 0x0, 0x0, 0x0, 0x0⟩]

/-- The register map of page 0x00108 (slice subpage 0x08). -/
def regsOf00108 : List RegDef :=
  [⟨0x108040, 0x0, 1, 0x0, 0x0, 0x0, 0x0, 0x0⟩,
   ⟨0x108044, 0x0, 1, 0x0, 0x0, 0x0, 0x0, 0x0⟩,
   ⟨0x108048, 0x0, 1, 0x0, 0x0, 0x0, 0x0, 0x0⟩,
   ⟨0x10804C, 0x0, 1, 0x0, 0x0, 0x0, 0x0, 0x0⟩,
   ⟨0x108050, 0x0, 1, 0x86800, 0x0, 0x0, 0x0, 0x0⟩,
   ⟨0x108054, 0x0, 1, 0x0, 0x0, 0x0, 0x0, 0x0⟩,
   ⟨0x108058, 0x0, 1, 0x0, 0x0, 0x0, 0x0, 0x0⟩,
   ⟨0x10805C, 0x0, 1, 0x0, 0x0, 0x0, 0x0, 0x0⟩,
   ⟨0x108060, 0x0, 1, 0x0, 0x0, 0x0, 0x0, 0x0⟩,
   ⟨0x108064, 0x0, 1, 0x0, 0x0, 0x0, 0xFFFFFFFF, 0x0⟩,
   ⟨0x108100, 0x4, 32, 0x0, 0x0, 0x0, 0x0, 0x0⟩,
   ⟨0x108200, 0x4, 64, 0x0, 0x0, 0x0, 0x0, 0x0⟩]

/-- The register map of page 0x00109 (slice subpage 0x09). -/
def regsOf00109 : List RegDef :=
  [⟨0x109040, 0x0, 1, 0x20000000, 0x0, 0x0, 0x0, 0x0⟩,
   ⟨0x109044, 0x0, 1, 0x0, 0x0, 0x0, 0x0, 0x0⟩,
   ⟨0x109048, 0x0, 1, 0x0, 0x0, 0x0, 0x0, 0x0⟩,
   ⟨0x10904C, 0x0, 1, 0x0, 0x0, 0x0, 0x0, 0x0⟩,
   ⟨0x109100, 0x10, 48, 0x0, 0x0, 0x0, 0x0, 0x0⟩,
   ⟨0x109104, 0x10, 48, 0x0, 0x0, 0x0, 0x0, 0x0⟩,
   ⟨0x109108, 0x10, 48, 0x0, 0x0, 0x0, 0x0, 0x0⟩]

/-- The register map of page 0x0010A (slice subpage 0x0A). -/
def regsOf0010A : List RegDef :=
  [⟨0x10A040, 0x0, 1, 0x64400000, 0x0, 0x0, 0x0, 0x0⟩,
   ⟨0x10A044, 0x0, 1, 0x0, 0x0, 0x0, 0x0, 0xFFFFFFFF⟩,
   ⟨0x10A048, 0x0, 1, 0x0, 0x0, 0x0, 0x0, 0x0⟩,
   ⟨0x10A04C, 0x0, 1, 0x43140A00, 0x0, 0x0, 0x0, 0x0⟩,
   ⟨0x10A050, 0x0, 1, 0x0, 0x0, 0x0, 0x0, 0x0⟩,
   ⟨0x10A054, 0x0, 1, 0x0, 0x0, 0x0, 0x0, 0x0⟩,
   ⟨0x10A058, 0x0, 1, 0x0, 0x0, 0x0, 0xFFFFFFFF, 0x0⟩,
   ⟨0x10A060, 0x4, 5, 0x2, 0x0, 0x0, 0x0, 0x0⟩,
   ⟨0x10A080, 0x4, 5, 0x0, 0x0, 0x0, 0x0, 0x0⟩,
   ⟨0x10A0A0, 0x4, 5, 0x0, 0x0, 0x0, 0x0, 0x0⟩]

/-- The register map of page 0x0010B (slice subpage 0x0B). -/
def regsOf0010B : List RegDef :=
  [⟨0x10B040, 0x0, 1, 0x0, 0x0, 0x0, 0x0, 0x0⟩,
   ⟨0x10B044, 0x0, 1, 0x28790000, 0x0, 0x0, 0x0, 0x0⟩,
   ⟨0x10B048, 0x0, 1, 0x0, 0x0, 0x0, 0x0, 0x0⟩,
   ⟨0x10B04C, 0x0, 1, 0x0, 0x0, 0x0, 0x0, 0x0⟩,
   ⟨0x10B050, 0x0, 1, 0x1452000, 0x0, 0x0, 0x0, 0x0⟩,
   ⟨0x10B054, 0x0, 1, 0x0, 0x0, 0x0, 0x0, 0x0⟩,
   ⟨0x10B058, 0x0, 1, 0x0, 0x0, 0x0, 0x0, 0x0⟩,
   ⟨0x10B05C, 0x0, 1, 0x3, 0x0, 0x0, 0x0, 0x0⟩,
   ⟨0x10B060, 0x0, 1, 0x0, 0x0, 0x0, 0x0, 0x0⟩,
   ⟨0x10B064, 0x0, 1, 0x0, 0x0, 0x0, 0x0, 0x0⟩,
   ⟨0x10B068, 0x0, 1, 0x0, 0x0, 0x0, 0xFFFFFFFF, 0x0⟩]

/-- The register map of page 0x0010C (slice subpage 0x0C). -/
def regsOf0010C : List RegDef :=
  [⟨0x10C040, 0x0, 1, 0xFFFF00, 0x0, 0x0, 0x0, 0x0⟩,
   ⟨0x10C044, 0x0, 1, 0x0, 0x0, 0x0, 0x0, 0x0⟩,
   ⟨0x10C048, 0x0, 1, 0x0, 0x0, 0x0, 0x0, 0x0⟩,
   ⟨0x10C04C, 0x0, 1, 0x10000000, 0x0, 0x0, 0x0, 0x0⟩,
   ⟨0x10C050, 0x0, 1, 0x0, 0x0, 0x0, 0x0, 0x0⟩,
   ⟨0x10C054, 0x0, 1, 0x0, 0x0, 0x0, 0x0, 0x0⟩,
   ⟨0x10C060, 0x4, 5, 0xFFFF0000, 0x0, 0x0, 0x0, 0x0⟩,
   ⟨0x10C080, 0x0, 1, 0x0, 0x0, 0x0, 0x0, 0x0⟩,
   ⟨0x10C084, 0x0, 1, 0x0, 0x0, 0x0, 0x0, 0x0⟩]

/-- The register map of page 0x0010D (slice subpage 0x0D). -/
def regsOf0010D : List RegDef :=
  [⟨0x10D040, 0x0, 1, 0x0, 0x0, 0x0, 0x0, 0x0⟩,
   ⟨0x10D044, 0x0, 1, 0x0, 0x0, 0x0, 0x0, 0x0⟩,
   ⟨0x10D048, 0x0, 1, 0x0, 0x0, 0x0, 0x0, 0x0⟩,
   ⟨0x10D04C, 0x0, 1, 0x0, 0x0, 0x0, 0x0, 0x0⟩,
   ⟨0x10D050, 0x0, 1, 0x0, 0x0, 0x0, 0x0, 0x0⟩,
   ⟨0x10D054, 0x0, 1, 0x0, 0x0, 0x0, 0xFFFFFFFF, 0x0⟩]

/-- The register map of a page; pages 0x0000D and 0x0000E share one layout (R448 to R456). -/
def regsOfPage (page : Nat) : List RegDef :=
  match page with
  | 0x00000 => regsOf00000
  | 0x00001 => regsOf00001
  | 0x00002 => regsOf00002
  | 0x00003 => regsOf00003
  | 0x00004 => regsOf00004
  | 0x00008 => regsOf00008
  | 0x00009 => regsOf00009
  | 0x0000A => regsOf0000A
  | 0x0000B => regsOf0000B
  | 0x0000C => regsOf0000C
  | 0x0000D => regsOf0000D
  | 0x0000F => regsOf0000F
  | 0x00010 => regsOf00010
  | 0x00040 => regsOf00040
  | 0x00041 => regsOf00041
  | 0x00042 => regsOf00042
  | 0x00043 => regsOf00043
  | 0x00050 => regsOf00050
  | 0x00051 => regsOf00051
  | 0x00100 => regsOf00100
  | 0x00101 => regsOf00101
  | 0x00102 => regsOf00102
  | 0x00103 => regsOf00103
  | 0x00104 => regsOf00104
  | 0x00105 => regsOf00105
  | 0x00106 => regsOf00106
  | 0x00107 => regsOf00107
  | 0x00108 => regsOf00108
  | 0x00109 => regsOf00109
  | 0x0010A => regsOf0010A
  | 0x0010B => regsOf0010B
  | 0x0010C => regsOf0010C
  | 0x0010D => regsOf0010D
  | 0x0000E => regsOf0000D.map (fun r => { r with key := r.key + (if r.count = 8 then 0x1000 else 0) })
  | _ => []

/-- Whether an address is an instance of a register. -/
def RegDef.covers (r : RegDef) (a : Nat) : Bool :=
  if r.stride = 0 then a == r.key
  else decide (r.key ≤ a) && (a - r.key) % r.stride == 0 && decide ((a - r.key) / r.stride < r.count)

/-- The register at an address of the maps, none where no register stands (R52). -/
def regAt (a : Nat) : Option RegDef := (regsOfPage (a / 4096)).find? (fun r => r.covers a)

/-! ### PG_ISR.EVT bits (R61 and the event table of each chapter): the bit of PG_ISR -/
namespace EVT
def MOD_STATE : Nat := 16
def MOD_DRAUGHT : Nat := 17
def MOD_BIT : Nat := 18
def EC_SUM : Nat := 16
def DSP_BUSY : Nat := 16
def DSP_SLOTS : Nat := 17
def DSP_REUSE : Nat := 18
def DSP_REPLAYED : Nat := 19
def LD_CKREQ : Nat := 16
def LD_WARN : Nat := 17
def LD_BANK : Nat := 18
def RS_NEW : Nat := 16
def RS_WARN : Nat := 17
def RS_WIN_READY : Nat := 18
def TS_STEP : Nat := 16
def TS_SLEW : Nat := 17
def TS_TRUST : Nat := 18
def TS_SOURCE : Nat := 19
def PWR_STATE : Nat := 16
def PWR_HOLD : Nat := 17
def PWR_ABORT : Nat := 18
def PWR_CENSUS : Nat := 19
def TH_WARN : Nat := 16
def TH_THROTTLE : Nat := 17
def TH_SHUT : Nat := 18
def TH_SENSOR : Nat := 19
def HL_CRC : Nat := 16
def HL_STATE : Nat := 17
def HL_WIDTH : Nat := 18
def HL_LANE : Nat := 19
def SPI_LATE : Nat := 16
def SPI_LATE_OVF : Nat := 17
def FB_DOMTO : Nat := 16
def FB_MASTER : Nat := 17
def FB_STATE : Nat := 18
def FB_ALONE : Nat := 19
def FB_LOCK : Nat := 20
def FB_TX : Nat := 21
def FB_RX : Nat := 22
def MR_REMAP : Nat := 16
def MR_SCRUB : Nat := 17
def RM_STATE : Nat := 16
def RM_WORN : Nat := 17
def RM_CELL : Nat := 18
def CAL_LOAD : Nat := 16
def CAL_CALINV : Nat := 17
def TRUST_LOSS : Nat := 16
def TRUST_TRUST : Nat := 17
def SUP_CELL : Nat := 16
def SUP_LOCKED : Nat := 17
def WAKE_WAKE : Nat := 16
def WAKE_DROP : Nat := 17
def HWY_MAP : Nat := 16
def HCAL_CAL : Nat := 16
def HCAL_UNUSABLE : Nat := 17
def ZWS_TEST : Nat := 16
def ZWS_STATE : Nat := 17
def ZI_T_BRK : Nat := 16
def ZI_PRES : Nat := 21
def ZI_STUCK : Nat := 22
def ZI_CHATTER : Nat := 23
def ZI_HUM_BRK : Nat := 24
def ZI_NOISE : Nat := 25
def ZI_BAND : Nat := 26
def ZC_DONE : Nat := 16
def ZC_URG_DONE : Nat := 20
def ZC_DROP : Nat := 21
def ZC_CAL : Nat := 22
def ZE_DMD_MAX : Nat := 16
def ZE_DIR : Nat := 17
def ZE_CLIP : Nat := 18
def ZE_LOCK : Nat := 19
def ZE_HARM : Nat := 20
def ZE_CAP_TRIG : Nat := 21
def ZE_CAP_DONE : Nat := 22
def ZH_CFG : Nat := 16
def ZH_HDIR : Nat := 17
def ZH_HFAULT : Nat := 18
def ZH_DT_RANGE : Nat := 19
def ZH_FLOW : Nat := 20
def ZH_LEAK : Nat := 21
def ZL_MODE : Nat := 16
def ZL_SIDE : Nat := 17
def ZL_SP : Nat := 18
def ZL_LOSS : Nat := 19
def ZL_PROT : Nat := 20
def ZL_TRANSIT : Nat := 21
def ZL_MODEL : Nat := 22
def ZL_TUNE : Nat := 23
def ZP_PLAN : Nat := 16
def ZP_PRE : Nat := 17
def ZP_TRUST : Nat := 18
def SCH_STATE : Nat := 16
def SCH_DAY : Nat := 17
def SCH_DST : Nat := 18
def SCH_LATE : Nat := 19
def ZT_BAND : Nat := 16
def ZT_TRUST : Nat := 17
def ZO_HOLD : Nat := 16
def ZO_GOV : Nat := 17
def ZO_ILIM : Nat := 18
def ZO_FAULT : Nat := 19
def ZO_STALL : Nat := 20
def ZO_TACH_CHAT : Nat := 21
def ZK_KEY : Nat := 16
def ZK_GHOST : Nat := 17
def ZK_STUCK : Nat := 18
def ZK_CHAT : Nat := 19
def ZK_ENC : Nat := 20
def ZK_QOVF : Nat := 21
def ZW_EOL : Nat := 16
def ZW_WORN : Nat := 17
def ZX_LOCK : Nat := 16
def ZX_STEP : Nat := 17

end EVT

/-- The block-specific bits of PG_ISR that a page defines; every other EVT bit is reserved. -/
def evtMask (page : Nat) : Nat :=
  match page with
  | 0x00000 => 0x00070000
  | 0x00001 => 0x00010000
  | 0x00002 => 0x000F0000
  | 0x00003 => 0x00070000
  | 0x00004 => 0x00070000
  | 0x00008 => 0x000F0000
  | 0x00009 => 0x000F0000
  | 0x0000A => 0x000F0000
  | 0x0000B => 0x000F0000
  | 0x0000C => 0x00030000
  | 0x0000D => 0x007F0000
  | 0x0000F => 0x00030000
  | 0x00010 => 0x00070000
  | 0x00040 => 0x00030000
  | 0x00041 => 0x00030000
  | 0x00042 => 0x00030000
  | 0x00043 => 0x00030000
  | 0x00050 => 0x00010000
  | 0x00051 => 0x00030000
  | 0x00100 => 0x00030000
  | 0x00101 => 0x07EF0000
  | 0x00102 => 0x007F0000
  | 0x00104 => 0x007F0000
  | 0x00105 => 0x003F0000
  | 0x00106 => 0x00FF0000
  | 0x00107 => 0x00070000
  | 0x00108 => 0x000F0000
  | 0x00109 => 0x00030000
  | 0x0010A => 0x003F0000
  | 0x0010B => 0x003F0000
  | 0x0010C => 0x00030000
  | 0x0010D => 0x00030000
  | 0x0000E => 0x007F0000
  | _ => 0

/-- The instance number of an address among a register's instances. -/
def Reg.index (r : Reg) (a : Nat) : Nat := (a - r.key) / r.stride

/-- The writable mask of a register at an address: only SQ3 and the entries 24 to 31 are run-time controls (R121). -/
def rwMaskAt (r : RegDef) (a : Nat) : Nat :=
  if r.key = R.ZC_SEQ_q.key then (if R.ZC_SEQ_q.index a = 3 then r.rw else 0)
  else if r.key = R.ZC_SEQ_PER_q.key then (if R.ZC_SEQ_PER_q.index a = 3 then r.rw else 0)
  else if r.key = R.ZC_SEQ_PH_q.key then (if R.ZC_SEQ_PH_q.index a = 3 then r.rw else 0)
  else if r.key = R.ZC_ENT_CFG_k.key then (if 24 ≤ R.ZC_ENT_CFG_k.index a then r.rw else 0)
  else r.rw

/-- The reset value of ZC_SEQ_q and its period by R129 (SQ0 to SQ2 as the firmware builds them) and R152 (SQ3). -/
def seqReset (q : Nat) : Nat × Nat :=
  match q with
  | 0 => (2 ^ 31 + 2 ^ 27 + 0 * 2 ^ 20 + 0 * 2 ^ 15, 128)
  | 1 => (2 ^ 31 + 2 ^ 27 + 8 * 2 ^ 20 + 19 * 2 ^ 15, 64000)
  | 2 => (2 ^ 31 + 2 ^ 27 + 20 * 2 ^ 20 + 23 * 2 ^ 15, 640000)
  | _ => (24 * 2 ^ 20 + 24 * 2 ^ 15, 64)

/-- A sequence entry of a mode and its channels (R152), with the DEC given and the ACQ that the firmware chooses. -/
def entryWord (mode cha chb dec k : Nat) : Nat :=
  mode * 2 ^ 29 + cha * 2 ^ 23 + chb * 2 ^ 17 + min dec 8 * 2 ^ 13
    + fieldOf (Config.defaultEntry k) 12 3 * 2 ^ 3

/-- DEC as the firmware leaves it in entry k. -/
def entryDec (k : Nat) : Nat := fieldOf (Config.defaultEntry k) 16 13

/-- The reset value of the entry k (R129): entry 0 is SQ0's SWAP pair of channels 0x00 and 0x01; SQ1 has the pairs of sensor
and reference of T1 … T4, humidity and PRA in 8 … 13; SQ2 has its eight channels as four pairs; ACQ, DEC and the entries
14 … 19 are the firmware's (notes/assumptions/4, 143); the others reset to 0. -/
def entryReset (k : Nat) : Nat :=
  if k = 0 then 3 * 2 ^ 29 + 0 * 2 ^ 23 + 1 * 2 ^ 17
  else if 8 ≤ k ∧ k ≤ 11 then entryWord 2 (k - 6) (k - 2) (Config.filtDec 2) k
  else if k = 12 then entryWord 0 0x0A 0 (entryDec k) k
  else if k = 13 then entryWord 0 0x0B 0 (entryDec k) k
  else if 14 ≤ k ∧ k ≤ 19 then (Config.defaultEntry k).toNat / 8 * 8
  else if k = 20 then entryWord 2 0x0C 0x0D (entryDec k) k
  else if k = 21 then entryWord 2 0x0E 0x0F (entryDec k) k
  else if k = 22 then entryWord 2 0x10 0x11 (entryDec k) k
  else if k = 23 then entryWord 2 0x20 0x21 (entryDec k) k
  else 0

/-- The reset value of ZO_CFG_j by output: HI 100 for AO and PWM, 0 for DO; ILIM 24, 30, 30; SLEW 2 (R317). -/
def outCfgReset (j : Nat) : Nat :=
  (if j < 3 then 100 * 2 ^ 16 else 0) + (if j < 2 then 24 else 30) * 2 ^ 2 + 2

/-- The reset value of ZL_ACT_j: END 100, RATE_MINT 50 for AO and PWM and 12 for DO (R250). -/
def actReset (j : Nat) : Nat := 100 * 2 ^ 12 + (if j < 3 then 50 else 12) * 2 ^ 4

/-- The reset value of the register at an address of the maps: the Reset columns, with the per-instance values. -/
def regReset (a : Nat) : Word :=
  match regAt a with
  | none => 0
  | some r =>
    if r.key = R.ZC_SEQ_q.key then BitVec.ofNat 32 (seqReset (R.ZC_SEQ_q.index a)).1
    else if r.key = R.ZC_SEQ_PER_q.key then BitVec.ofNat 32 (seqReset (R.ZC_SEQ_PER_q.index a)).2
    else if r.key = R.ZC_ENT_CFG_k.key then BitVec.ofNat 32 (entryReset (R.ZC_ENT_CFG_k.index a))
    else if r.key = R.ZO_CFG_j.key then BitVec.ofNat 32 (outCfgReset (R.ZO_CFG_j.index a))
    else if r.key = R.ZL_ACT_j.key then BitVec.ofNat 32 (actReset (R.ZL_ACT_j.index a))
    else BitVec.ofNat 32 r.reset

/-! ### Register files -/

/-- A register file: the registers whose value is not their reset value, by address, in canonical form. -/
abbrev RegFile := SMap Word

/-- The word of a register. -/
def rfGet (f : RegFile) (a : Nat) : Word :=
  match smFind f a with
  | some w => w
  | none => regReset a

/-- The register file with a word written: a word equal to its reset value is not listed. -/
def rfPut (f : RegFile) (a : Nat) (w : Word) : RegFile :=
  if w = regReset a then smErase f a else smPut f a w

/-- The canonical form of a register file: rising addresses and no word at its reset value. -/
def rfWf (f : RegFile) : Bool := smWf f && f.all (fun c => c.2 != regReset c.1)

/-- A field of a register file, as a natural. -/
def RegFile.nat (f : RegFile) (x : Fld) (i : Nat := 0) : Nat := fieldOf (rfGet f (x.at i)) x.hi x.lo

/-- A field of a register file, as a signed number. -/
def RegFile.int (f : RegFile) (x : Fld) (i : Nat := 0) : Int := signedOf (x.hi + 1 - x.lo) (f.nat x i)

/-- A one-bit field. -/
def RegFile.bit (f : RegFile) (x : Fld) (i : Nat := 0) : Bool := f.nat x i == 1

/-- A register file with a field replaced. -/
def RegFile.putNat (f : RegFile) (x : Fld) (v : Nat) (i : Nat := 0) : RegFile :=
  rfPut f (x.at i) (putField (rfGet f (x.at i)) x.hi x.lo v)

/-- A register file with a signed field replaced. -/
def RegFile.putInt (f : RegFile) (x : Fld) (v : Int) (i : Nat := 0) : RegFile :=
  f.putNat x (imageOf (x.hi + 1 - x.lo) v) i

/-- A register file with a one-bit field replaced. -/
def RegFile.putBit (f : RegFile) (x : Fld) (b : Bool) (i : Nat := 0) : RegFile := f.putNat x (bit1 b) i

/-- A register file with a saturating counter field increased. -/
def RegFile.bump (f : RegFile) (x : Fld) (i : Nat := 0) (by_ : Nat := 1) : RegFile :=
  f.putNat x (satTo (x.hi + 1 - x.lo) (f.nat x i + by_)) i

/-- The word of register `r`, instance `i`. -/
def RegFile.word (f : RegFile) (r : Reg) (i : Nat := 0) : Word := rfGet f (r.at i)

/-- A register file with register `r`, instance `i`, replaced. -/
def RegFile.putWord (f : RegFile) (r : Reg) (w : Word) (i : Nat := 0) : RegFile := rfPut f (r.at i) w

/-- A 64-bit pair of registers (R14), low register `lo`, high register `hi`. -/
def RegFile.put64 (f : RegFile) (lo hi : Reg) (v : Nat) (i : Nat := 0) : RegFile :=
  (f.putWord lo (BitVec.ofNat 32 v) i).putWord hi (BitVec.ofNat 32 (v / 2 ^ 32)) i

end Sys2Proof.Machine
end

