-- ==== Sys2Proof/Machine/State.lean ====
section
/-! DEFINITION. The state of the block as plain data, the reasons to stop, and the state after reset. Every structure
names the rules whose state it holds; registers that are only read and written stand in register files. -/
namespace Sys2Proof.Machine

/-! ### Reasons to stop -/

/-- Faults of the block. The manual gives every command an effect, so no meaning raises one: the type is empty. -/
inductive Fault where
  deriving DecidableEq, Repr

/-- Why a command has no meaning. -/
inductive Refusal where
  /-- Raised by an arm of `exec` whose command has no meaning yet (safe: the model stops by name). -/
  | notModelled (mnemonic : String)
  deriving DecidableEq, Repr

/-! ### What the module sends out -/

/-- The completion statuses of a register access, by code (R51). -/
inductive Status where
  | ok | dark | locked | unmapped | moving | access | mismatch | align
  deriving DecidableEq, Repr

/-- The symbols of the host link (R388): the control symbols and the data bytes. -/
inductive Sym where
  | com | stp | end_ | abt | pad
  | data (byte : Byte)
  deriving DecidableEq, Repr

/-- A packet of the host link from the module without its header's credits (R394, R395): type, tag, payload. -/
structure OutPacket where
  type : BitVec 8
  tag  : BitVec 8
  body : List Byte
  deriving DecidableEq, Repr

/-- One output of the block, in the order in which the outputs leave it (notes/assumptions/12). -/
inductive Emit where
  /-- A register access performed by an access row: its status and read value (R51). -/
  | access (st : Status) (value : Word)
  /-- A packet on the host link: the symbols that each of the four lanes carries (R389). -/
  | packet (lanes : List (List Sym))
  /-- A response of the SPI fallback on MISO, 0xA5 first (R406, R407). -/
  | spi (bytes : List Byte)
  /-- A frame as a bus port drove it: SOF through EOF, stuff bits included; dominant is false (R417, R418). -/
  | frame (port : Port) (levels : List Bool)
  /-- The ACK slot of another node's frame driven dominant (R420). -/
  | ack (port : Port)
  /-- An error flag: six dominant bits when `active`, else six recessive ones (R428). -/
  | errorFlag (port : Port) (active : Bool)
  /-- The knock pattern on a bus port (R447). -/
  | knock (port : Port)
  /-- The release of an asserted alert line for at least 1 µs (R62): ALERT_0 or ALERT_1. -/
  | alertPulse (line : Fin 2)
  /-- A bit vector shifted out of the test access port (R7). -/
  | tdo (bits : Word)
  deriving DecidableEq, Repr

/-! ### Page headers (R56 to R77) -/

/-- One entry of a page's error queue: CTX and CODE (R73) and its place in the order of arrival (R75). -/
structure ErrEntry where
  word : Word
  nth  : Nat
  deriving DecidableEq, Repr

/-- The porch shadow of a page header. `errNth` and `arrivals` keep the order in which entries came (R75). -/
structure Hdr where
  ctrl       : Word := 0x18
  isr        : Word := 0
  ier        : Word := 0x1C
  err        : Word := 0
  errNth     : Nat := 0
  queue      : List ErrEntry := []
  arrivals   : Nat := 0
  ovf        : Nat := 0
  rep        : Nat := 0
  lock       : Bool := false
  sealOn     : Bool := false
  draughtUnl : Bool := false
  badKey     : Nat := 0
  refusals   : Nat := 0
  delays     : Nat := 0
  target     : Nat := 0
  vote       : Nat := 0
  veto       : Bool := false
  draught    : Word := 0
  draughtP   : Word := 0
  ts         : Nat := 0
  tsSnap     : Option Word := none
  deriving DecidableEq, Repr

/-! ### The error collector (R513, R514) -/

/-- One log entry of the collector, without its CRC (R513). -/
structure LogEntry where
  eseq  : Nat
  entry : Word
  page  : Nat
  time  : Nat
  deriving DecidableEq, Repr

/-- The error collector: entries in MRAM (oldest first), the porch buffer (oldest first) and the arrivals lost to a
full buffer. -/
structure Collector where
  log  : List LogEntry := []
  buf  : List LogEntry := []
  next : Nat := 1
  lost : Nat := 0
  deriving DecidableEq, Repr

/-! ### Time service and cellar (chapter 14) -/

/-- A step announced for its edge E (R474): its offset [10⁻⁸ µs], whether it is a step for alarms (R263), whether the
clock becomes trusted at E, the command it completes (none for the module's own), whether the slew goes on, and the
direction of an hour shift (true forward). -/
structure PendStep where
  offset   : Int
  alarm    : Bool
  trust    : Bool := false
  lseq     : Option Nat := none
  keepSlew : Bool := false
  hour     : Option Bool := none
  deriving DecidableEq, Repr

/-- The porch time service. House time is `us` µs and `frac` in 10⁻⁸ µs (0 … 99,999,999); the slew still to make in
10⁻⁸ µs; the rate correction in 0.01 ppm; the announced steps in their order; the last offsets of 1 s or more from the
bus [10⁻⁸ µs] (R473); whether the bus held LOCK throughout the present trim window; whether E-4408 stands. -/
structure TimeSvc where
  us       : Nat := 0
  frac     : Nat := 0
  rate     : Int := 0
  slew     : Int := 0
  aligned  : Bool := false
  pend     : List PendStep := []
  thetas   : List Int := []
  lockAll  : Bool := false
  untrTold : Bool := false
  /-- TRIM of 0x0405 as MRAM holds it (R460). -/
  trim     : Int := 0
  deriving DecidableEq, Repr

/-- A wake event as the cellar latches it (R493, R511). -/
structure WakeRec where
  src   : Nat
  state : Nat
  count : Nat := 0
  time  : Nat
  deriving DecidableEq, Repr

/-- The cellar: oscillator, calendar, trim, supply, trust, wake latch; errors owed until the porch next runs (R457,
R465, R466). -/
structure Cellar where
  stopped   : Bool := false
  year      : Nat := 0
  month     : Nat := 1
  day       : Nat := 1
  hour      : Nat := 0
  min       : Nat := 0
  sec       : Nat := 0
  sub       : Nat := 0
  subAcc    : Nat := 0
  trim      : Int := 0
  trimNext  : Int := 0
  band      : Nat := 2
  bandNext  : Nat := 2
  trusted   : Bool := false
  cause     : Nat := 1
  retLost   : Bool := true
  oscStop   : Bool := false
  onCell    : Bool := false
  locked    : Bool := false
  below31   : Bool := false
  cellMv    : Nat := 0
  queue     : List WakeRec := []
  wlog      : List WakeRec := []
  timer     : Nat := 0
  oweOsc    : Bool := false
  oweRet    : Bool := false
  oweCause  : Option Nat := none
  /-- The slew kept through NAP and HIBERNATE (R488), 10⁻⁸ µs. -/
  slewKept  : Int := 0
  deriving DecidableEq, Repr

/-! ### Landing, supply, thermal governor (chapters 15, 17) -/

/-- A block the landing asks (R487). -/
inductive Block where
  | slice (p : Phys) | hallway | port (x : Port) | spi | link | time | mram | porch
  deriving DecidableEq, Repr

/-- The SRAM assists of R497: periphery off, none, negative bit line on write, word-line underdrive on read. -/
inductive Assist where
  | off | none | negBitLine | underdrive
  deriving DecidableEq, Repr

/-- Body bias [mV], none while unpowered; SRAM supply [mV], 0 while unpowered; SRAM assists (R497). -/
structure Supplies where
  bias   : Option Int := none
  sram   : Nat := 0
  assist : Assist := .off
  deriving DecidableEq, Repr

/-- One step of a supply or clock change (R498): body bias [mV], SRAM supply [mV], clock [MHz]. -/
inductive SupplyStep where
  | bias (mv : Option Int) | sram (mv : Nat) | clock (mhz : Nat)
  deriving DecidableEq, Repr

/-- A power-state entry under way: the blocks still to ask, the one asked first; those stopped in their order; DELAY
answers of the block asked and whether it waits to be asked again; whether the first ask waits for a boundary; boundary
aborts so far. -/
structure PwrEntry where
  target    : Nat
  wakeAfter : Nat
  lseq      : Nat
  asking    : List Block
  stopped   : List Block := []
  delays    : Nat := 0
  waiting   : Bool := false
  deferred  : Bool := false
  aborts    : Nat := 0
  deriving DecidableEq, Repr

/-- One entry of the landing's abort log (R492, R509). -/
structure AbortRec where
  page    : Nat
  cause   : Nat
  reason  : Nat
  stopped : Nat
  target  : Nat
  time    : Nat
  deriving DecidableEq, Repr

/-- The landing: module state by PSTATE code, entry, abort log (newest first); the blocks of porch and hallway that are clamped
(R30, R500); the bias and SRAM settings of the porch, and the bias of its standby engine (R497). -/
structure Landing where
  state   : Nat := 0
  clamped : List Block := []
  sup     : Supplies := { bias := some 0, sram := 800, assist := .none }
  standby : Option Int := some 0
  entry   : Option PwrEntry := none
  log     : List AbortRec := []
  deriving DecidableEq, Repr

/-- A TICK form of 0x0102 between acceptance and its census (R501 to R503). -/
structure Census where
  lseq    : Nat
  zmask   : Nat
  allNone : Bool
  tick    : Nat
  applied : Nat := 0
  late    : Nat := 0
  missed  : Nat := 0
  taken   : Bool := false
  retries : Nat := 0
  deriving DecidableEq, Repr

/-- The supply, presence contacts (true: open) and hold-up (chapter 17). `started` says that the start-up of R557 has
run since power came; `charging` that the hold-up is not charged yet. -/
structure Supply where
  powered   : Bool := true
  started   : Bool := false
  vin       : Nat := 24000
  range     : Bool := false
  pdet1     : Bool := false
  pdet2     : Bool := false
  holdupMv  : Nat := 0
  capUf     : Nat := 0
  low       : Bool := false
  charging  : Bool := false
  cause     : Nat := 0
  durMs     : Nat := 0
  inputOff  : Bool := false
  railOn    : Bool := false
  precharged : Bool := false
  deriving DecidableEq, Repr

/-- One die sensor: its reading [0.01 °C], its broken flag and the time of disagreement [ms] (R504). -/
structure DieSensor where
  temp   : Int := -32768
  broken : Bool := false
  disMs  : Nat := 0
  deriving DecidableEq, Repr

/-- The thermal governor (R504 to R507). -/
structure Thermal where
  sens     : Vector DieSensor 3 := Vector.replicate 3 {}
  tv       : Int := -32768
  disagree : Bool := false
  warn     : Bool := false
  throttle : Bool := false
  shut     : Bool := false
  fact     : Nat := 100
  /-- The factor in 0.01 % units within its rise of 10 points a second. -/
  factAcc  : Nat := 10000
  band     : Nat := 2
  thrMs    : Nat := 0
  deriving DecidableEq, Repr

/-! ### Larder, guestbook, dispatcher (chapter 10) -/

/-- One larder item by kind (R337). -/
inductive LdKind where
  | head (ncont : Nat) (seq : BitVec 32) (opcode : BitVec 16) (path : Nat) (len : Nat) (zmask : BitVec 64)
      (crc : BitVec 32) (payload : List Byte)
  | cont (index : Nat) (bytes : List Byte)
  | mark (seq : BitVec 32) (opcode : BitVec 16) (head : Nat) (zone : Nat) (porch : Bool) (final : Bool)
      (result : Nat) (reason : Nat) (value : Word)
  deriving DecidableEq, Repr

/-- One entry of the larder ring. -/
structure LdItem where
  source : BitVec 16
  kind   : LdKind
  deriving DecidableEq, Repr

/-- A source slot of the guestbook (R333). -/
structure Slot where
  source : BitVec 16
  hwm    : Nat
  deriving DecidableEq, Repr

/-- A guestbook entry (R334): slot, SEQ, envelope CRC, head LSEQ, stored result, the house time from which it is
evictable, and the path while its completion answer is owed, with its bus node (R327, R438). -/
structure GbEntry where
  slot    : Nat
  seq     : Nat
  crc     : BitVec 32
  lseq    : Nat
  result  : Nat := 0
  reason  : Nat := 0
  value   : Word := 0
  fmask   : Nat := 0
  final   : Bool := false
  evictAt : Nat := 0
  path    : Option Path := none
  dest    : Nat := 0
  deriving DecidableEq, Repr

/-- A command that runs: accepted and without a final result. -/
structure Running where
  x        : Exec
  internal : Bool := false
  path     : Option Path := none
  deriving DecidableEq, Repr

/-- A command not yet placed in every inbox (R344): the zones still to be served. -/
structure Handing where
  x    : Exec
  left : BitVec 64
  deriving DecidableEq, Repr

/-- The journal: the next LSEQ and the larder entries by LSEQ (R337), source slots (R333), guestbook entries in acceptance order
(R334), accepted commands without a final result and porch commands waiting for execution (R343), the dispatcher's flags (R354,
R355), how long a take-over by the standby engine still runs [µs] (R24), and how long the banks are still busy with acceptance
commits [µs], the commit queue (R331). -/
structure Journal where
  next     : Nat := 1
  larder   : SMap LdItem := []
  slots    : SMap Slot := []
  book     : List GbEntry := []
  running  : List Running := []
  porchQ   : List Exec := []
  handover : List Handing := []
  replay   : Bool := true
  takeLeft : Nat := 0
  opened   : Bool := false
  warn     : Bool := false
  ckreq    : Bool := false
  ahead    : Nat := 0
  deriving DecidableEq, Repr

/-! ### Record store (chapter 06) -/

/-- One 32-byte record as eight words (R201); the CRC word is computed when the record is read. -/
structure Rec where
  seq   : Nat
  words : Vector Word 6
  deriving DecidableEq, Repr

/-! ### Repair, hallway, MRAM (chapter 16) -/

/-- The states of a slice (R518). -/
inductive SliceState where
  | serving | spare | testing | moving | failed | retired | factoryOut
  deriving DecidableEq, Repr

/-- The calibration record of one spare path (R527, R528). -/
structure PathCal where
  r25      : Vector Nat 18 := Vector.replicate 18 0
  alpha    : Nat := 0
  time     : Nat := 0
  done     : Bool := false
  unusable : Bool := false
  aged     : Bool := false
  deriving DecidableEq, Repr

/-- A repair or migration under way (R521 to R526). -/
structure Repair where
  lseq     : Nat
  opcode   : BitVec 16
  zone     : Zone
  old      : Phys
  target   : Phys
  planned  : Bool
  second   : Bool := false
  held     : Bool := false
  mapOut   : Bool := false
  deriving DecidableEq, Repr

/-- One MRAM bank: in service, spare rows left, corrected words by row within 30 days, remapped rows; and the durable items of which
this bank's copy is missing or fails its CRC (R25). A good copy holds what was last written to the item, so that the content itself
stands once, with the item. -/
structure Bank where
  ok       : Bool := true
  spares   : Nat := 64
  corr     : SMap (List Nat) := []
  remapped : List Nat := []
  bad      : List DurItem := []
  deriving DecidableEq, Repr

/-- A stored value of a gauge (R534): its house time [µs], the stress then [h], the value in register units. -/
structure GaugePt where
  t : Nat
  s : Rat
  v : Rat
  deriving DecidableEq, Repr

/-- The stored values of a gauge: daily values and weekly means before them, oldest first. -/
structure GaugeHist where
  daily  : List GaugePt := []
  weekly : List GaugePt := []
  deriving DecidableEq, Repr

/-- The hidden state of repair and upkeep. -/
structure Upkeep where
  repair  : Option Repair := none
  banks   : Vector Bank 2 := Vector.replicate 2 {}
  paths   : SMap PathCal := []
  declined : List Zone := []
  engines : Nat := 5
  hist    : SMap GaugeHist := []
  deriving DecidableEq, Repr

/-! ### Module state (chapter 18), test access port -/

/-- Module identity page state. -/
structure ModuleSt where
  state   : Nat := 0
  prev    : Nat := 0
  resumed : Bool := false
  changes : Nat := 0
  time    : Nat := 0
  bitPass : Bool := false
  bitTest : Nat := 0
  bitRes  : Word := 0
  deriving DecidableEq, Repr

/-- The instructions of the test access port (R7). -/
inductive TapInstr where
  | bypass | idcode | samplePreload | extest
  deriving DecidableEq, Repr

/-- The test access port: the instruction loaded, the boundary register, and the pins EXTEST drives (R7). -/
structure Tap where
  instr    : TapInstr := .idcode
  boundary : Word := 0
  driven   : Option Word := none
  deriving DecidableEq, Repr

/-! ### Zone inputs (chapter 03) -/

/-- The hidden state of one temperature input: good and bad runs, the declaration (R98), the NTC range (R80), the readings
still to settle (R85), the off segment, windows and discards of R96, ρ_off, the noise windows in a row over and under each
threshold (R97). -/
structure TempIn where
  badRun   : Nat := 0
  goodRun  : Nat := 0
  broken   : Bool := false
  range    : Nat := 0
  settleN  : Nat := 0
  off      : Bool := false
  windows  : Nat := 0
  spoiled  : Bool := false
  rhoOff   : Nat := 0
  onRun    : Nat := 0
  onClear  : Nat := 0
  pickRun  : Nat := 0
  pickClear : Nat := 0
  noisyOn  : Bool := false
  noisyPick : Bool := false
  deriving DecidableEq, Repr

/-- The hidden state of an input under the chatter rule (R94): the house times of its rejections and transitions
within the window, and the declaration. -/
structure Chat where
  rejects : List Nat := []
  trans   : List Nat := []
  on      : Bool := false
  deriving DecidableEq, Repr

/-- The hidden state of the zone inputs: beside the declarations, the level PRD's filter passes, which goes on through
CHATTER (R95); the instants in the slice's time base from which the stuck timers run (R93); whether PRA's band-passed signal
is beyond ±PRA_THR, for how long [ms], and the milliseconds left of the 100 that PRA_MOTION shows (R91, R110). -/
structure Inputs where
  t        : Vector TempIn 4 := Vector.replicate 4 {}
  humBad   : Nat := 0
  humGood  : Nat := 0
  humBroken : Bool := false
  humFault : Nat := 0
  prdChat  : Chat := {}
  praChat  : Chat := {}
  prdPend  : Bool := false
  prdFilt  : Bool := false
  prdStuck : Bool := false
  praStuck : Bool := false
  praBroken : Bool := false
  prdSince : Option Int := none
  praSince : Option Int := none
  praHigh  : Bool := false
  praOver  : Nat := 0
  praShow  : Nat := 0
  deriving DecidableEq, Repr

/-! ### Converters (chapter 04) -/

/-- The corrected codes of an entry kept for its average (R125), by result register, with their flags, the time stamps of the
first hold edge on each channel and the converters of the first conversion. -/
structure Part where
  codesA  : List Int := []
  codesB  : List Int := []
  satA    : Bool := false
  satB    : Bool := false
  restart : Bool := false
  late    : Bool := false
  ts      : BitVec 24 := 0
  tsB     : BitVec 24 := 0
  convA   : Nat := 0
  convB   : Nat := 1
  deriving DecidableEq, Repr

/-- One entry of a pass under way: its index, its latched configuration, its conversions so far and whether its first
conversion has begun (R125). -/
structure EntRun where
  k     : Nat
  cfg   : Word
  part  : Part := {}
  begun : Bool := false
  deriving DecidableEq, Repr

/-- One sequence: ACTIVE, pending latch, the entries of the pass still to finish, the band of the pass, its latched PERIOD,
the scheduled instant of its first hold edge (R123), the next tick of its timer (R122), whether its first conversion has been
made, whether it ends after the conversions in progress, and the timeout flag of R126. Instants are in the slice's time
base. -/
structure SeqSt where
  act     : Bool := false
  pend    : Bool := false
  live    : List EntRun := []
  band    : Nat := 2
  period  : Nat := 64
  edge    : Option Nat := none
  tick    : Option Nat := none
  made    : Bool := false
  ending  : Bool := false
  timedOut : Bool := false
  late    : Bool := false
  runs    : Nat := 0
  deriving DecidableEq, Repr

/-- Who holds a converter: a sequence for one of its entries, an urgent conversion, nobody. -/
inductive Owner where
  | seq (q : Fin 4) (k : Nat) | urgent | none
  deriving DecidableEq, Repr

/-- One converter (R118, R119, R133): its holder; the start of acquisition, the hold edge and the end of the conversion under
way; the latest hold edge; the dither charges applied so far and the index of the one in this conversion. -/
structure Adc where
  own    : Owner := .none
  start  : Nat := 0
  hold   : Nat := 0
  finish : Nat := 0
  last   : Option Nat := none
  dith   : Nat := 0
  now    : Nat := 0
  deriving DecidableEq, Repr

/-- One urgent conversion (R130): of the host or of the firmware, with the ZC_URG_CFG image it uses. -/
structure Urgent where
  host : Bool
  cfg  : Word
  deriving DecidableEq, Repr

/-- The trims of one band (R135, R138): offset [1/256 LSB16], gain [0.1 ppm], skew [0.5 ps]; updates in a row within the
limits of R136; whether the last update found the gain beyond its limit (R137). -/
structure Trims where
  ofs  : Int := 0
  gain : Int := 0
  skew : Int := 0
  ofsOk  : Nat := 0
  gainOk : Nat := 0
  skewOk : Nat := 0
  gainLim : Bool := false
  deriving DecidableEq, Repr

/-- The hidden state of the converters: the four sequences, the two converters, the instant up to which the engine has
worked, urgent conversions, the band in use and the one that waits, and the conversions counted for the next trim updates
(R135). -/
structure Conv where
  seqs   : Vector SeqSt 4 := Vector.replicate 4 {}
  a      : Adc := {}
  b      : Adc := {}
  clock  : Nat := 0
  /-- The converter an urgent conversion does not use is held idle (R131). -/
  urgHold : Bool := false
  /-- Bit k: entry k's next SWAP conversion exchanges the converters (R116). -/
  swaps  : Nat := 0
  urg    : Option Urgent := none
  urgPend : Option Urgent := none
  band   : Nat := 2
  bandNext : Nat := 2
  conv   : Bool := false
  skewAct : Bool := false
  ofConv1 : Nat := 0
  ofPairs : Nat := 0
  deriving DecidableEq, Repr

/-! ### Electrical meter (chapter 05) -/

/-- One energy accumulator (R163): the 64-bit count and the remainder below one unit. -/
structure Acc where
  count : Nat := 0
  rem   : Rat := 0
  deriving DecidableEq, Repr

/-- The quantities of a cycle (R161), primary units: volts, amperes, watts; its beginning and whether it is a fundamental cycle of
the locked tracker (R160). -/
structure Cyc where
  vrms : Rat := 0
  irms : Rat := 0
  p    : Rat := 0
  q    : Rat := 0
  s    : Rat := 0
  pf   : Rat := 0
  dpf  : Rat := 0
  freq : Nat := 0
  dur  : Rat := 0
  start : Nat := 0
  tracked : Bool := false
  deriving DecidableEq, Repr

/-- The capture engine of R176 to R181: its state code, its latched ZE_CAP_CFG, the words held, whether FAST is in
effect and its marker stored, the samples of the average under way, the last half-cycle rms values [primary], the FAST
time of the open interval [ms] and the relay driver that waits for FAST (R178). -/
structure Capture where
  state  : Nat := 0
  cfg    : Word := 0
  words  : List Word := []
  trigAt : Nat := 0
  fast   : Bool := false
  marked : Bool := false
  accV   : List Int := []
  accI   : List Int := []
  satV   : Bool := false
  satI   : Bool := false
  half   : Option (Rat × Rat) := none
  fastMs : Rat := 0
  drvWait : Option Out := none
  down   : Bool := false
  abort  : Bool := false
  deriving DecidableEq, Repr

/-- The share of the cycle in progress that lies in one interval (R38, R163): its pair time [1/64 µs], the active energy of its
pairs by sign [mWh], the energy of gaps filled in it by accumulator, and their duration [ms]. -/
structure Share where
  t     : Rat := 0
  imp   : Rat := 0
  exp   : Rat := 0
  gap   : Vector Rat 7 := Vector.replicate 7 0
  synth : Rat := 0
  deriving DecidableEq, Repr

/-- A time to be filled up to the slice's first pair (R166): the house time of its beginning and the mean powers. -/
structure Fill where
  time : Nat
  p    : Rat
  q    : Rat
  s    : Rat
  deriving DecidableEq, Repr

/-- The electrical meter: accumulators (R163); filter states and the filtered current with its hold edges, newest first
(R157); the pair before, with its hold edge (R158), and the instant of an interval boundary that has passed since it with the share that
the pair belongs to (R38);
a time still to fill (R166); the sums of the cycle and of the half cycle (R161, R176), the transform sums of its fundamental,
its beginning; the cycle's shares by interval, the earlier ones first, and what the accumulators held at the end of each
earlier share of a finished cycle, with the time filled in it; the last complete cycle; the cycles and the samples of the
window (R162, R169); the tracker (R159), and the open interval's notes (R167). -/
structure Meter where
  acc      : Vector Acc 7 := Vector.replicate 7 {}
  hpV      : Rat := 0
  hpI      : Rat := 0
  inV      : Rat := 0
  inI      : Rat := 0
  curs     : List (Nat × Rat) := []
  prevP    : Rat := 0
  prevV    : Rat := 0
  prevI    : Rat := 0
  haveP    : Bool := false
  prevAt   : Nat := 0
  cutAt    : Option (Nat × Nat) := none
  fill     : Option Fill := none
  sumV2    : Rat := 0
  sumI2    : Rat := 0
  sumP     : Rat := 0
  sumT     : Rat := 0
  halfV2   : Rat := 0
  halfI2   : Rat := 0
  halfT    : Rat := 0
  phV      : Rat × Rat := (0, 0)
  phI      : Rat × Rat := (0, 0)
  startAt  : Nat := 0
  share    : Share := {}
  shares   : List Share := []
  cuts     : List (Vector Acc 7 × Rat) := []
  last     : Cyc := {}
  win      : List Cyc := []
  samples  : List (Nat × Rat × Rat) := []
  lock     : Bool := false
  freq     : Nat := 0
  lockRef  : Nat := 0
  lockRun  : Nat := 0
  lowRun   : Nat := 0
  markV    : Bool := false
  markI    : Bool := false
  signP    : Bool := false
  pairs    : Nat := 0
  synth    : Rat := 0
  /-- The tracker was unlocked or QEN was 0 for a part of the open interval (R164, R202). -/
  qinc     : Bool := false
  clipped  : Bool := false
  secP     : Rat := 0
  secQ     : Rat := 0
  secS     : Rat := 0
  secT     : Rat := 0
  cap      : Capture := {}
  deriving DecidableEq, Repr

/-- What a meter posts every second (R166): house time, accumulators, mean powers of the last second. -/
structure Posting where
  time  : Nat
  acc   : Vector Acc 7
  p     : Rat
  q     : Rat
  s     : Rat
  deriving DecidableEq, Repr

/-! ### Heat and water (chapter 06) -/

/-- One flow input (R190, R191). -/
structure FlowIn where
  chat    : Chat := {}
  ovr     : Bool := false
  period  : Nat := 0
  pulses  : Nat := 0
  deriving DecidableEq, Repr

/-- The heat and water meter: heat, cooling, VOL_H, VOL_W; flow inputs; the leak check; the latest reading of a METER input with
the pass of SQ1 that gave it, and the supply and return temperatures [°C] of the latest pass that gave both (R195). -/
structure Heat where
  acc      : Vector Acc 4 := Vector.replicate 4 {}
  fl       : Vector FlowIn 2 := Vector.replicate 2 {}
  water    : Bool := false
  leakRun  : Nat := 0
  leak     : Bool := false
  half     : Option (Fin 4 × Nat × Rat) := none
  pair     : Option (Rat × Rat) := none
  deriving DecidableEq, Repr

/-- The open interval of a zone (R199 to R203): its START [min] and next boundary, its FLAGS, the accumulator values at
its opening, the carries of R203 (EP_IMP, EP_EXP, EQ_IND, EQ_CAP, HEAT, COOL, VOL), its units, whether it is merged, and its
number among the zone's intervals. -/
structure Interval where
  opened : Bool := false
  no     : Nat := 0
  start  : Nat := 0
  bound  : Nat := 0
  flags  : BitVec 16 := 0
  base   : Vector Nat 11 := Vector.replicate 11 0
  carry  : Vector Nat 7 := Vector.replicate 7 0
  eunit  : Nat := 0
  vunit  : Nat := 0
  merged : Bool := false
  deriving DecidableEq, Repr

/-- An interval that has closed and whose record is not yet written (R38, R39, R163): its zone, the interval as it closed and the
one that opened with it, LEN, what the accumulators held at the boundary (the electrical ones once the cycle that straddles it has
ended), the notes of R167 and the sums of R276 and R278. -/
structure Closing where
  zone  : Zone
  iv    : Interval
  nxt   : Interval
  len   : Nat
  time  : Nat
  heat  : Vector Acc 4
  elec  : Option (Vector Acc 7) := none
  synth : Rat := 0
  pairs : Nat := 0
  qinc  : Bool := false
  clipped : Bool := false
  sumUh : Rat := 0
  sumUc : Rat := 0
  sumN  : Nat := 0
  priceBad : Bool := false
  deriving DecidableEq, Repr

/-- What a zone's latest record leaves behind (R39, R203): the interval that follows it, the accumulators at its boundary and the
house time of its closing. -/
structure AfterRec where
  iv   : Interval
  acc  : Vector Acc 7
  heat : Vector Acc 4
  time : Nat
  deriving DecidableEq, Repr

/-- The record store: records not yet acknowledged (oldest first), the last SEQ given, ACKED, the fetch window; intervals closed
and not yet written, in the order of R204; what each zone's latest record leaves behind; the hour from which ILEN_NEXT counts
[min] (R199). -/
structure RecStore where
  recs     : List Rec := []
  lastSeq  : Nat := 0
  acked    : Nat := 0
  merged   : BitVec 64 := 0
  winBusy  : Bool := false
  winValid : Bool := false
  winFirst : Nat := 0
  win      : List Rec := []
  winReq   : Nat := 0
  winTail  : Nat := 0
  warned   : Bool := false
  wait     : List Closing := []
  after    : SMap AfterRec := []
  ilenAt   : Nat := 0
  deriving DecidableEq, Repr

/-! ### Loops (chapter 07) -/

/-- A transit of one side (R234): the demand to hold, the new setpoint, and the operating point of its start: demand, T_C,
outdoor temperature, presence. -/
structure Transit where
  uHold : Rat
  sp    : Rat
  u0    : Rat := 0
  y0    : Rat := 0
  tOut  : Rat := 0
  pres  : Bool := false
  deriving DecidableEq, Repr

/-- The settling measurement of a transit (R235): ticks since the move, the tick of the present entry into the band,
the optimal time, the setpoint, τ, the outdoor temperature at the start and whether the conditions of E-4C04 held. -/
structure Settle where
  ticks : Nat := 0
  entry : Option Nat := none
  tOpt  : Rat
  sp    : Rat
  tau   : Nat
  tOut  : Int
  pres  : Bool
  ok    : Bool
  deriving DecidableEq, Repr

/-- One side's recursive model (R236, R237): the coefficients a, b, c_o, c_p, c_0 and the covariance. -/
structure Rls where
  w : Vector Rat 5 := Vector.replicate 5 0
  p : Vector (Vector Rat 5) 5 := Vector.replicate 5 (Vector.replicate 5 0)
  deriving DecidableEq, Repr

/-- One side of the loop (heating or cooling). `hist` is the demand of the last 30 min, `uMeans`, `yMeans` and `errSq` hold one
entry a model step, newest first; a step without T_C has no mean, one that did not update no prediction error. -/
structure Side where
  integ   : Rat := 0
  demand  : Rat := 0
  hist    : List Rat := []
  lastSp  : Option Int := none
  transit : Option Transit := none
  settle  : Option Settle := none
  rls     : Rls := {}
  uMeans  : List Rat := []
  yMeans  : List (Option Rat) := []
  errSq   : List (Option Rat) := []
  tuneK   : Rat := 0
  tuneTau : Rat := 0
  k       : Rat := 0
  tau     : Rat := 0
  kO      : Rat := 0
  kP      : Rat := 0
  eventK  : Rat := 0
  eventTau : Rat := 0
  rejRun  : Nat := 0
  deriving DecidableEq, Repr

/-- One relay cycle of a tune (R242): its duration [s], extremes and sums. -/
structure RelayCycle where
  ticks : Nat := 0
  hi    : Rat := 0
  lo    : Rat := 0
  sumU  : Rat := 0
  sumT  : Rat := 0
  deriving DecidableEq, Repr

/-- A running autotune (R241, R242). -/
structure Tune where
  lseq   : Nat
  seq    : BitVec 32
  cool   : Bool
  h      : Rat
  eps    : Rat
  rho    : Rat
  verify : Rat
  step   : Nat := 1
  ticks  : Nat := 0
  total  : Nat := 0
  u0     : Rat := 0
  y0     : Rat := 0
  temps  : List Rat := []
  hHi    : Rat := 0
  hLo    : Rat := 0
  high   : Bool := true
  switched : Bool := false
  cur    : RelayCycle := {}
  cycles : List RelayCycle := []
  fitK   : Rat := 0
  fitTau : Rat := 0
  fitTheta : Rat := 0
  fitKc  : Rat := 0
  fitTi  : Rat := 0
  moved  : Bool := false
  began  : Bool := false
  target : Rat := 0
  rooms  : Nat := 0
  deriving DecidableEq, Repr

/-- A request of the panel, applied in step 1 of the next loop tick (R219, R309). -/
inductive PanelReq where
  | boost | step (up : Bool) | zero
  deriving DecidableEq, Repr

/-- What a TICK form under ALL_OR_NONE keeps until its census (R503): the former CMD_MODE, prior value and remaining
time, and the house time of TICK. -/
structure ModeKeep where
  lseq   : Nat
  cmd    : Nat
  prior  : Nat
  remain : Nat
  tick   : Nat
  rollback : Bool := false
  deriving DecidableEq, Repr

/-- The loops of a zone. `stepTo` and `stepP` are the outdoor temperature and presence of the latest model step, `implied`
whether the integrators still have to take the demand that the outputs held at the sill imply (R245). -/
structure Loop where
  cmd     : Nat := 0
  prior   : Nat := 0
  remain  : Nat := 0
  pboost  : Nat := 0
  offset  : Int := 0
  mode    : Nat := 0
  spH     : Option Int := none
  spC     : Option Int := none
  src     : Nat := 0
  tC      : Option Rat := none
  sideH   : Side := {}
  sideC   : Side := {}
  supInt  : Rat := 0
  req     : Vector Rat 5 := Vector.replicate 5 0
  outHist : Vector (List Rat) 5 := Vector.replicate 5 []
  lossT   : Option Nat := none
  lossLevels : Bool := false
  lossHold : Vector Rat 5 := Vector.replicate 5 0
  minT    : Vector Nat 5 := Vector.replicate 5 0
  secT    : List Rat := []
  secUh   : List Rat := []
  secUc   : List Rat := []
  stepBad : Bool := true
  stepTo  : Rat := 0
  stepP   : Bool := false
  implied : Bool := false
  tune    : Option Tune := none
  reqs    : List PanelReq := []
  keep    : List ModeKeep := []
  manual  : Vector Nat 5 := Vector.replicate 5 0
  oldSec  : Nat := 15300
  stale   : Bool := false
  limTold : Bool := false
  dewTold : Bool := false
  deriving DecidableEq, Repr

/-! ### Schedule, learner, planner (chapter 08) -/

/-- One closed interval as a contribution to P100 (R276): house time, mean demand [%], mean carrier power [W]. -/
structure P100Pt where
  time : Nat
  u    : Rat
  e    : Rat
  deriving DecidableEq, Repr

/-- The predicted zone of a plan step. -/
structure PlanStep where
  spH  : Option Nat := none
  spC  : Option Nat := none
  occ  : Bool := false
  band : Nat := 0
  deriving DecidableEq, Repr

/-- A plan of R270 to R274 as it takes effect: its start, steps, costs, whether comfort is short. -/
structure Plan where
  ts       : Nat := 0
  steps    : List PlanStep := []
  cost     : Option Nat := none
  costMode : Option Nat := none
  short    : Bool := false
  toAt     : Option Int := none
  modes    : List Nat := []
  deriving DecidableEq, Repr

/-- An alarm fired and not yet applied (R259). -/
structure Due where
  kind  : Nat
  index : Nat
  at_   : Nat
  deriving DecidableEq, Repr

/-- Schedule, occupancy learner, tariff state and planner of a zone: the high-water mark of R261, alarms fired and not
yet applied, whether the schedule is suspended, the seconds of OCC_HOLD left, the plan
in force, the completed one that takes effect at the next tick and the one being computed, whether one further plan
follows, the learned contributions, the demand sums of the open interval [%·s], and what has been told. -/
structure Sched where
  mark     : Nat := 0
  due      : List Due := []
  susp     : Bool := false
  occLeft  : Nat := 0
  plan     : Option Plan := none
  planNext : Option Plan := none
  making   : Option Plan := none
  again    : Bool := false
  ptsH     : List P100Pt := []
  ptsC     : List P100Pt := []
  sumUh    : Rat := 0
  sumUc    : Rat := 0
  sumN     : Nat := 0
  learnBad : Bool := false
  learned  : Bool := false
  tariffTold : Nat := 0
  fbTold   : Nat := 0
  meterTold : Nat := 0
  costRem  : Rat := 0
  priceBad : Bool := false
  deriving DecidableEq, Repr

/-! ### Outputs and panel (chapter 09) -/

/-- A relay pulse under way (R371). -/
structure Pulse where
  lseq : Nat
  dur  : Nat
  waiting : Bool := false
  deriving DecidableEq, Repr

/-- One output driver. Requests and applied values in 0.01 %; `slewRow` is the band whose table gave the strength of its latest edge
(R299). -/
structure OutSt where
  req     : Rat := 0
  applied : Rat := 0
  pin     : Nat := 0
  held    : Bool := false
  match_  : Bool := false
  heldVal : Rat := 0
  safe    : Bool := true
  drvOn   : Bool := false
  slewRow : Nat := 2
  gov     : Bool := false
  govOff  : Bool := false
  ilim    : Bool := false
  ovcRun  : Nat := 0
  ovcOff  : Bool := false
  latched : Bool := false
  lastMa  : Nat := 0
  open_   : Bool := false
  rbk     : Bool := false
  waitCap : Bool := false
  pulse   : Option Pulse := none
  deriving DecidableEq, Repr

/-- The outputs of a zone with its fan tachometer. -/
structure Outs where
  o       : Vector OutSt 5 := Vector.replicate 5 {}
  periods : List Nat := []
  pulses  : Nat := 0
  stall   : Bool := false
  tach    : Chat := {}
  band    : Nat := 2
  fact    : Nat := 100
  deriving DecidableEq, Repr

/-- A queued panel event (R313): type, key, house time. -/
structure PanelEvt where
  type : Nat
  key  : Nat
  time : Nat
  deriving DecidableEq, Repr

/-- One key: consecutive scans of a new raw state, chatter, press instant, stuck, the scans it must read released. -/
structure KeySt where
  cnt     : Nat := 0
  chat    : Chat := {}
  stuck   : Bool := false
  guard   : Bool := false
  long    : Bool := false
  deriving DecidableEq, Repr

/-- The panel of a zone; `frozen` are the corners of complete rectangles in its latest scan (R306). -/
structure Panel where
  keys   : Vector KeySt 16 := Vector.replicate 16 {}
  raw    : BitVec 16 := 0
  acc    : BitVec 16 := 0
  ghost  : Bool := false
  encA   : Bool := true
  encB   : Bool := true
  net    : Int := 0
  dets   : List Nat := []
  encChat : Chat := {}
  evts   : List PanelEvt := []
  scan   : Bool := true
  fresh  : Bool := false
  ghostKey : Nat := 0
  frozen : BitVec 16 := 0
  lastDrop : Nat := 0
  deriving DecidableEq, Repr

/-! ### Slice time (chapter 14) -/

/-- The sample time base of a slice and the house time it had at base 0, both in 10⁻⁸ µs, its discipline, and the steps of
house time (old, new) made while the slice was dark or moving (R478). -/
structure SliceTime where
  base    : Nat := 0
  epoch   : Int := 0
  aligned : Bool := false
  lock    : Bool := false
  run     : Nat := 0
  rate    : Int := 0
  missed  : List (Nat × Nat × Bool) := []
  deriving DecidableEq, Repr

/-! ### A slice -/

/-- The state of a zone in the slice that serves it: what a checkpoint holds (R35, R100, R245, R279). -/
structure ZoneState where
  regs  : RegFile := []
  latch : RegFile := []
  inp   : Inputs := {}
  conv  : Conv := {}
  meter : Meter := {}
  heat  : Heat := {}
  ival  : Interval := {}
  loop  : Loop := {}
  sched : Sched := {}
  outs  : Outs := {}
  panel : Panel := {}
  taken : Nat := 0
  deriving DecidableEq, Repr

/-- A checkpoint as MRAM holds it: the house time of its writing, the slice's time base then, and the zone's state. -/
structure Ckpt where
  time : Nat
  base : Nat := 0
  zone : ZoneState
  deriving DecidableEq, Repr

/-- Whether a slice is unpowered, clock-stopped with its SRAM retained, or powered and clocked (R59, R484, R500). -/
inductive SlicePower where
  | off | retained | on
  deriving DecidableEq, Repr

/-- A physical slice. Beside its state under R518: whether its firmware runs, its power, whether its edges are clamped (R30,
R500), its bias and SRAM settings and the steps of their latest change (R497, R498). -/
structure Slice where
  life     : SliceState := .spare
  cause    : Nat := 0
  running  : Bool := false
  power    : SlicePower := .off
  clamped  : Bool := true
  sup      : Supplies := {}
  steps    : List SupplyStep := []
  z        : ZoneState := {}
  time     : SliceTime := {}
  inbox    : List Exec := []
  ckpt     : Option Ckpt := none
  ckptOld  : Option Ckpt := none
  ckptDue  : Bool := false
  /-- The background trims by band, and as the last checkpoint holds them (R138). -/
  trims    : Vector Trims 6 := Vector.replicate 6 {}
  trimsCk  : Vector Trims 6 := Vector.replicate 6 {}
  posting  : Option Posting := none
  postingOld : Option Posting := none
  misses   : List Nat := []
  uncorr   : List Nat := []
  corr     : List Nat := []
  sclkMhz  : Nat := 100
  stress   : Rat := 0
  badCols  : Nat := 0
  deriving DecidableEq, Repr

/-! ### Host link and SPI fallback (chapter 12) -/

/-- A response kept for its tag (R399), or an open tag. -/
inductive TagSt where
  | idle | opened | kept (p : OutPacket)
  deriving DecidableEq, Repr

/-- The host link (R385 to R404): its state by STATE code, width and active lanes; the lanes the module offers and those
excluded; the lanes locked and those with 8 TS2 in this training and the host's MASK; whether this training is a retrain;
tags; credits freed and not yet returned, CRTOT; responses that wait for UP. -/
structure Link where
  state    : Nat := 0
  width    : Nat := 0
  active   : BitVec 4 := 0#4
  offered  : BitVec 4 := 0xF#4
  excluded : BitVec 4 := 0#4
  locked   : BitVec 4 := 0#4
  ts2      : BitVec 4 := 0#4
  mask     : BitVec 4 := 0xF#4
  retrain  : Bool := false
  tags     : SMap TagSt := []
  owed     : Nat := 0
  crtot    : Nat := 0
  wait     : List OutPacket := []
  deriving DecidableEq, Repr

/-- The SPI fallback: completion answers queued, oldest first (R408). -/
structure Spi where
  late  : List (List Byte) := []
  deriving DecidableEq, Repr

/-! ### Building bus (chapter 13) -/

/-- A frame pending for transmission (R432 to R435): failed attempts, attempts, whether every failed attempt was an ACK
error, whether a good frame was received since the first attempt, and whether a cancel reached it after the decision
instant of its current attempt. -/
structure TxFrame where
  f       : BusFrame
  fails   : Nat := 0
  tries   : Nat := 0
  allAck  : Bool := true
  good    : Bool := false
  cancel  : Bool := false
  deriving DecidableEq, Repr

/-- A transfer under reassembly (R437): its sender, XFER, the next index and the bytes so far. -/
structure Xfer where
  node  : BitVec 8
  xfer  : BitVec 8
  next  : Nat
  data  : List Byte
  deriving DecidableEq, Repr

/-- A master heard on a port (R441, R444): its node, the house time of its latest SYNC [µs] and the last observed SYNC
interval [µs]. -/
structure Master where
  node  : Nat
  last  : Nat
  gap   : Nat := 0
  deriving DecidableEq, Repr

/-- The slave side of the time protocol on a port (R441 to R444): the SYNC that waits for its FOLLOW_UP (SEQ, t2), the
latest pair (SEQ, t1, t2), SYNCs since the last DELAY_REQ, whether one is due, the one under way (SEQ, t3), the accepted
delays (oldest first), the run of offsets within ±1 µs. Times in µs. -/
structure TimeSlave where
  masters : List Master := []
  sync    : Option (Nat × Rat) := none
  pair    : Option (Nat × Rat × Rat) := none
  count   : Nat := 0
  reqDue  : Bool := false
  req     : Option (Nat × Rat) := none
  delays  : List Rat := []
  run     : Nat := 0
  deriving DecidableEq, Repr

/-- One bus port: state by STATE code (R450), ALONE, TEC, REC, DOMTO; the transmit queue, the host slot, the time
frames, the queued PROBE; the host receive FIFO (frame, SOF [µs]); transfers, oldest last segment first; the master's
SYNC counter and YIELD; the slave; a configuration that waits for its answer to leave: its word, its
head and the first bytes of the answer (R381). `wait` is what remains of the error delimiter, the intermission and the
further wait of an ERROR_PASSIVE transmitter [ns] (R426, R428). -/
structure PortSt where
  state   : Nat := 0
  alone   : Bool := false
  tec     : Nat := 0
  rec_    : Nat := 0
  domto   : Bool := false
  txq     : List TxFrame := []
  host    : Option TxFrame := none
  timeTx  : List TxFrame := []
  probe   : Option TxFrame := none
  rx      : List (BusFrame × Nat) := []
  xfers   : List Xfer := []
  seq     : Nat := 0
  yield   : Option Nat := none
  slave   : TimeSlave := {}
  cfgNext : Option (Word × Nat × List Byte) := none
  wait    : Nat := 0
  deriving DecidableEq, Repr

/-! ### The whole block -/

/-- The state of the block: everything the manual gives the module, and the queue of commands that wait. -/
structure State where
  /-- Commands waiting, first in, first out. -/
  pending  : List Instr := []
  time     : TimeSvc := {}
  cellar   : Cellar := {}
  landing  : Landing := {}
  census   : List Census := []
  supply   : Supply := {}
  thermal  : Thermal := {}
  journal  : Journal := {}
  store    : RecStore := {}
  upkeep   : Upkeep := {}
  modst    : ModuleSt := {}
  coll     : Collector := {}
  link     : Link := {}
  spi      : Spi := {}
  ports    : Vector PortSt 2 := Vector.replicate 2 {}
  tap      : Tap := {}
  /-- The zone-to-slice map (R22, R518, R540). -/
  map      : Vector Phys 64
  /-- The master copy of each zone's configuration (R332): registers by their slice address. -/
  zones    : Vector RegFile 64 := Vector.replicate 64 []
  slices   : Vector Slice 68
  /-- The header shadows by physical page number. -/
  hdrs     : SMap Hdr := []
  /-- Porch, cellar and hallway registers, and their latched copies. -/
  regs     : RegFile := []
  latch    : RegFile := []
  /-- Everything the block has sent out, oldest first (notes/assumptions/12). -/
  emitted  : List Emit := []
  /-- The free values taken so far (notes/assumptions/5). -/
  free     : Nat := 0
  deriving DecidableEq, Repr

/-- The spares that the factory repair map leaves, lowest first (R22). -/
def sparesLeft (out : List Phys) : List Phys :=
  ([64, 65, 66, 67] : List Phys).filter (fun k => !out.contains k)

/-- The slice that serves a zone at delivery (R22): its home slice, or, where the factory repair map marks that one as mapped out, the
lowest spare that no lower zone has taken. -/
def deliveredSlice (out : List Phys) (z : Fin 64) : Phys :=
  let home : Phys := ⟨z.val, Nat.lt_of_lt_of_le z.isLt (by decide)⟩
  if out.contains home then
    (sparesLeft out).getD ((List.finRange 68).filter (fun p => p < home && out.contains p)).length home
  else home

/-- Slice p at delivery (R22, R518): mapped out at the factory, serving its zone or one that lost its home slice, or spare; none runs
before start-up. -/
def Slice.delivered (out : List Phys) (p : Phys) : Slice :=
  if out.contains p then { life := .factoryOut, cause := 10 }
  else if (List.finRange 64).any (fun z => deliveredSlice out z == p) then { life := .serving }
  else { life := .spare }

/-- The block as delivered with a factory repair map (R22): in FACTORY, every register at its reset value, the porch engines started and
replay not yet run, no slice running (notes/assumptions/11). -/
def State.delivered (out : List Phys) : State where
  map := Vector.ofFn (deliveredSlice out)
  slices := Vector.ofFn (Slice.delivered out)

/-- The block right after reset: delivered with no slice mapped out. -/
def State.reset : State := State.delivered []

end Sys2Proof.Machine
end

