-- ==== Sys2Proof/Machine/Ops.lean ====
section
/-! DEFINITION. The named operations over the block's state: slices and their registers, the porch registers, page
headers, alerts, errors and the collector (chapters 02 and 16). Every meaning works through them. -/
namespace Sys2Proof.Machine

/-! ### Slices -/

/-- The physical slice `p`. -/
def State.sl (s : State) (p : Phys) : Slice := s.slices[p]

/-- The state with slice `p` replaced. -/
def State.setSl (s : State) (p : Phys) (x : Slice) : State := { s with slices := s.slices.set p.val x p.isLt }

/-- The state with slice `p` changed. -/
def State.onSl (s : State) (p : Phys) (f : Slice → Slice) : State := s.setSl p (f (s.sl p))

/-- The zone state held by slice `p`. -/
def State.z (s : State) (p : Phys) : ZoneState := (s.sl p).z

/-- The state with the zone state of slice `p` changed. -/
def State.onZ (s : State) (p : Phys) (f : ZoneState → ZoneState) : State :=
  s.onSl p (fun x => { x with z := f x.z })

/-- A field of slice `p`, as a natural. -/
def State.g (s : State) (p : Phys) (x : Fld) (i : Nat := 0) : Nat := (s.z p).regs.nat x i

/-- A field of slice `p`, as a signed number. -/
def State.gi (s : State) (p : Phys) (x : Fld) (i : Nat := 0) : Int := (s.z p).regs.int x i

/-- A one-bit field of slice `p`. -/
def State.gb (s : State) (p : Phys) (x : Fld) (i : Nat := 0) : Bool := (s.z p).regs.bit x i

/-- The registers of slice `p` changed. -/
def State.onR (s : State) (p : Phys) (f : RegFile → RegFile) : State :=
  s.onZ p (fun z => { z with regs := f z.regs })

/-- A field of slice `p` written. -/
def State.w (s : State) (p : Phys) (x : Fld) (v : Nat) (i : Nat := 0) : State := s.onR p (fun r => r.putNat x v i)

/-- A signed field of slice `p` written. -/
def State.wi (s : State) (p : Phys) (x : Fld) (v : Int) (i : Nat := 0) : State := s.onR p (fun r => r.putInt x v i)

/-- A one-bit field of slice `p` written. -/
def State.wb (s : State) (p : Phys) (x : Fld) (b : Bool) (i : Nat := 0) : State := s.onR p (fun r => r.putBit x b i)

/-- A saturating counter of slice `p` increased. -/
def State.bump (s : State) (p : Phys) (x : Fld) (by_ : Nat := 1) (i : Nat := 0) : State :=
  s.onR p (fun r => r.bump x i by_)

/-- A whole register of slice `p` written. -/
def State.wWord (s : State) (p : Phys) (r : Reg) (v : Word) (i : Nat := 0) : State :=
  s.onR p (fun f => f.putWord r v i)

/-- The zone that the map gives slice `p` (R518, R540); none for a spare or a replaced slice. -/
def State.zoneOf (s : State) (p : Phys) : Option Zone := (List.finRange 64).find? (fun z => s.map[z] == p)

/-- The slice the map names for a zone (R48). -/
def State.sliceOf (s : State) (z : Zone) : Phys := s.map[z]

/-- Whether the clock or power of slice `p` is off (R59, R70); a slice that its migration or test has powered is not dark before
it runs (R523). -/
def State.dark (s : State) (p : Phys) : Bool := !(s.sl p).running && (s.sl p).power != .on

/-- Whether a zone has a working slice (R361). -/
def State.working (s : State) (z : Zone) : Bool := (s.sl (s.sliceOf z)).running

/-- Whether a zone is in a migration window (R49). -/
def State.movingZone (s : State) (z : Zone) : Bool :=
  match s.upkeep.repair with
  | some r => r.zone == z && r.held
  | none => false

/-! ### Porch registers -/

/-- A field of a porch, cellar or hallway register, as a natural. -/
def State.pg (s : State) (x : Fld) (i : Nat := 0) : Nat := s.regs.nat x i

/-- A one-bit field of a porch register. -/
def State.pb (s : State) (x : Fld) (i : Nat := 0) : Bool := s.regs.bit x i

/-- A field of a porch register written. -/
def State.pw (s : State) (x : Fld) (v : Nat) (i : Nat := 0) : State := { s with regs := s.regs.putNat x v i }

/-- A signed field of a porch register written. -/
def State.pwi (s : State) (x : Fld) (v : Int) (i : Nat := 0) : State := { s with regs := s.regs.putInt x v i }

/-- A one-bit field of a porch register written. -/
def State.pwb (s : State) (x : Fld) (b : Bool) (i : Nat := 0) : State := { s with regs := s.regs.putBit x b i }

/-- A saturating counter of a porch register increased. -/
def State.pbump (s : State) (x : Fld) (by_ : Nat := 1) (i : Nat := 0) : State :=
  { s with regs := s.regs.bump x i by_ }

/-- A whole porch register written. -/
def State.pwWord (s : State) (r : Reg) (v : Word) (i : Nat := 0) : State :=
  { s with regs := s.regs.putWord r v i }

/-- One output of the block. -/
def State.emit (s : State) (e : Emit) : State := { s with emitted := s.emitted ++ [e] }

/-- A free word and the state with the count of free values advanced (notes/assumptions/5). -/
def State.fresh (s : State) : Word × State := (Config.freeWord s.free, { s with free := s.free + 1 })

/-- A free natural and the state with the count of free values advanced. -/
def State.freshNat (s : State) : Nat × State := (Config.freeNat s.free, { s with free := s.free + 1 })

/-- House time [µs] (R16, R471). -/
def State.now (s : State) : Nat := s.time.us

/-- One microsecond in units of 10⁻⁸ µs, in which the clocks count. -/
def usFine : Int := 100000000

/-- A slice's own house time [µs] from its time base (R143, R477). -/
def sliceHouse (t : SliceTime) : Nat := (((t.epoch + (t.base : Int)) / usFine) % (2 ^ 64 : Nat)).toNat

/-- House time as slice `p` has it: its own once its time is aligned (R477), the porch's until then. -/
def State.slNow (s : State) (p : Phys) : Nat :=
  if (s.sl p).time.aligned then sliceHouse (s.sl p).time else s.now

/-- The sample time base of slice `p` [10⁻⁸ µs] (R143). -/
def State.base (s : State) (p : Phys) : Nat := (s.sl p).time.base

/-- The sample time base of slice `p` in whole microseconds: the clock of its sliding windows (R94). -/
def State.slUs (s : State) (p : Phys) : Nat := s.base p / 100000000

/-- An instant of a time base as a time stamp TS (R143): 1/64 µs, 24 bits. -/
def ticksOf (base : Nat) : Nat := base * 64 / 100000000 % 2 ^ 24

/-- TS of a slice now (R143). -/
def sliceTicks (t : SliceTime) : Nat := ticksOf t.base

/-! ### Page numbers (R45 to R47) -/

/-- The physical page of subpage `sub` of slice `p` (R45). -/
def slicePage (p : Phys) (sub : Nat) : Nat := 0x100 + p.val * 0x20 + sub

/-- What a page number names (R45 to R47). -/
inductive PageKind where
  | porch | cellar | hallway
  | slice (p : Phys) (sub : Nat)
  | zone (z : Zone) (sub : Nat)
  | unmapped
  deriving DecidableEq, Repr

/-- The kind of a page (R45 to R47). -/
def pageKind (page : Nat) : PageKind :=
  if page ≤ 0x10 then .porch
  else if 0x40 ≤ page ∧ page ≤ 0x43 then .cellar
  else if page = 0x50 ∨ page = 0x51 then .hallway
  else if h : 0x100 ≤ page ∧ page < 0x100 + 68 * 0x20 then
    if (page - 0x100) % 0x20 ≤ 0x0D then
      .slice ⟨(page - 0x100) / 0x20, by omega⟩ ((page - 0x100) % 0x20)
    else .unmapped
  else if h : 0x1000 ≤ page ∧ page < 0x1000 + 64 * 0x20 then
    if (page - 0x1000) % 0x20 ≤ 0x0D then
      .zone ⟨(page - 0x1000) / 0x20, by omega⟩ ((page - 0x1000) % 0x20)
    else .unmapped
  else .unmapped

/-- The physical page that holds a page's header: an alias shows its serving slice (R48). -/
def State.physPage (s : State) (page : Nat) : Nat :=
  match pageKind page with
  | .zone z sub => slicePage (s.sliceOf z) sub
  | _ => page

/-! ### Headers, alerts (R56 to R65) -/

/-- The header of a physical page. -/
def State.hdr (s : State) (page : Nat) : Hdr := (smFind s.hdrs page).getD {}

/-- The state with the header of a physical page replaced. -/
def State.setHdr (s : State) (page : Nat) (h : Hdr) : State := { s with hdrs := smPut s.hdrs page h }

/-- The state with the header of a physical page changed. -/
def State.onHdr (s : State) (page : Nat) (f : Hdr → Hdr) : State := s.setHdr page (f (s.hdr page))

/-- The house time of a page's last change set to now (R65). -/
def State.touch (s : State) (page : Nat) : State := s.onHdr page (fun h => { h with ts := s.now })

/-- The severity of an entry or error code (R18). -/
def sevOf (e : Word) : Nat := fieldOf e 15 12

/-- Whether a header asks for alert line `l` (R60). -/
def Hdr.drives (h : Hdr) (l : Fin 2) : Bool :=
  ((h.isr &&& h.ier) != 0 && bitOf (fieldOf h.ctrl 5 4) l.val)
    || (l == 1 && fieldOf h.ctrl 3 3 == 1 && sevOf h.err == 0xC)

/-- Whether an alert line is asserted: any page asks for it (R62). -/
def State.alert (s : State) (l : Fin 2) : Bool := s.hdrs.any (fun c => c.2.drives l)

/-- A fresh edge on an alert line that an enabled event finds asserted in the state before it (R62). -/
def repulse (before : State) (h : Hdr) (bits : Nat) (l : Fin 2) (s : State) : State :=
  if (BitVec.ofNat 32 bits &&& h.ier) != 0 && bitOf (fieldOf h.ctrl 5 4) l.val && before.alert l
  then s.emit (.alertPulse l) else s

/-- PG_ISR bits set by the block (R61), with the page's time stamp (R65) and the alert rule of R62; `before` is the state
before the event. -/
def setIsrFrom (before s : State) (page bits : Nat) : State :=
  let h := s.hdr page
  let s1 := s.setHdr page { h with isr := h.isr ||| BitVec.ofNat 32 bits, ts := s.now }
  repulse before h bits 1 (repulse before h bits 0 s1)

/-- PG_ISR bits set by an event that changes nothing else of a header. -/
def State.setIsr (s : State) (page bits : Nat) : State := setIsrFrom s s page bits

/-- The porch, cellar and hallway pages (R46). -/
def porchPages : List Nat := List.range 0x11 ++ [0x40, 0x41, 0x42, 0x43, 0x50, 0x51]

/-- PG_ISR.PWR on a list of pages: their PSTATE or CLKSRC changed (R61). -/
def State.notePwrs (s : State) (l : List Nat) : State := l.foldl (fun (s : State) g => s.setIsr g 1) s

/-- The pages of slice `p` (R47). -/
def slicePages (p : Phys) : List Nat := (List.range 14).map (slicePage p)

/-- The pages of every running slice. -/
def State.runningPages (s : State) : List Nat :=
  (((List.finRange 68).filter (fun p => (s.sl p).running)).map slicePages).flatten

/-- Whether a one-time action of 0x0109, 0x0120 or 0x0304 is running or armed on a slice (R59, R488). -/
def State.busySlice (s : State) (p : Phys) : Bool :=
  (s.z p).loop.tune.isSome || (s.z p).outs.o.any (fun o => o.pulse.isSome)
    || (s.z p).meter.cap.state == 1 || (s.z p).meter.cap.state == 2

/-- PG_TS of a slice's page 0x00 moved when its BUSY has changed (R59, R65). -/
def noteBusy (before : State) (p : Phys) (s : State) : State :=
  if before.busySlice p = s.busySlice p then s else s.touch (slicePage p 0)

/-- Whether the command at the front of the porch queue, the one being executed (R343), has an opcode. -/
def State.porchExec (s : State) (op : BitVec 16) : Bool :=
  match s.journal.porchQ with
  | x :: _ => x.opcode == op
  | [] => false

/-- Whether a porch, cellar or hallway page is executing a command, a calibration or a self-test (R59). -/
def porchBusy (s : State) (page : Nat) : Bool :=
  match page with
  | 0x00 => s.porchExec 0x7F02
  | 0x0F => s.porchExec 0x0606
  | 0x50 => (match s.upkeep.repair with | some r => r.held | none => false) || s.porchExec 0x0603
  | 0x51 => s.porchExec 0x0603
  | _ => false

/-- PG_TS of the porch pages whose BUSY has changed (R59, R65). -/
def notePorchBusy (before s : State) : State :=
  [0x00, 0x0F, 0x50, 0x51].foldl (fun (s : State) g => if porchBusy before g = porchBusy s g then s else s.touch g) s

/-- An event bit of a porch, cellar or hallway page. -/
def State.evtP (s : State) (page bit : Nat) : State := s.setIsr page (2 ^ bit)

/-- An event bit of a slice page. -/
def State.evt (s : State) (p : Phys) (sub bit : Nat) : State := s.setIsr (slicePage p sub) (2 ^ bit)

/-- An event bit set only when a condition holds. -/
def State.evtIf (s : State) (c : Bool) (p : Phys) (sub bit : Nat) : State := if c then s.evt p sub bit else s

/-! ### Errors (R72 to R77, R513, R514) -/

/-- An entry of PG_ERR: CTX in [31:16], CODE in [15:0] (R73). -/
def entryOf (ctx code : Nat) : Word := BitVec.ofNat 32 (ctx % 2 ^ 16 * 2 ^ 16 + code % 2 ^ 16)

/-- The lowest severity among entries. -/
def minSev (q : List ErrEntry) : Nat := q.foldl (fun m e => min m (sevOf e.word)) 15

/-- Whether an entry leaves a full queue (R75, last row): of the lowest severity, and no other of that severity came later. -/
def leaves (q : List ErrEntry) (e : ErrEntry) : Bool :=
  sevOf e.word == minSev q && q.all (fun x => sevOf x.word != minSev q || decide (x.nth ≤ e.nth))

/-- The entries without the latest arrival of the lowest severity (R75, last row). -/
def dropLowest (q : List ErrEntry) : List ErrEntry := q.eraseP (leaves q)

/-- An entry held by a page: displayed or queued. -/
def Hdr.holds (h : Hdr) (e : Word) : Bool := e == h.err || h.queue.any (fun x => x.word == e)

/-- The displayed entry of a page with its place in the order of arrival. -/
def Hdr.shown (h : Hdr) : ErrEntry := { word := h.err, nth := h.errNth }

/-- The arrival of an entry at a page (R75): the new header and the PG_ISR bits it sets. -/
def arrive (h : Hdr) (e : Word) : Hdr × Nat :=
  let n := h.arrivals
  if h.holds e then ({ h with rep := satTo 4 (h.rep + 1) }, 0)
  else if h.err = 0 then ({ h with err := e, errNth := n, arrivals := n + 1 }, 4)
  else
    let h1 : Hdr × Nat :=
      if sevOf e ≤ sevOf h.err then ({ h with queue := h.queue ++ [{ word := e, nth := n }], arrivals := n + 1 }, 2)
      else ({ h with err := e, errNth := n, queue := h.shown :: h.queue, arrivals := n + 1 }, 4)
    if h1.1.queue.length = 5 then
      ({ h1.1 with queue := dropLowest h1.1.queue, ovf := satTo 8 (h1.1.ovf + 1) }, h1.2 + 8)
    else h1

/-- Pages that display an error of a severity, saturating (PCH_EC_SUM, R539). -/
def State.displaying (s : State) (sev : Nat) : Nat :=
  satTo 8 ((s.hdrs.filter (fun c => c.2.err != 0 && sevOf c.2.err == sev)).length)

/-- PCH_EC_SUM (R539). -/
def State.ecSum (s : State) : Nat × Nat × Nat × Nat :=
  (s.displaying 0xC, s.displaying 8, s.displaying 4, s.displaying 1)

/-- EVT.SUM of page 0x00001 when PCH_EC_SUM changed (R542). -/
def noteSum (before s : State) : State :=
  if before.ecSum = s.ecSum then s else s.evtP 0x1 EVT.EC_SUM

/-- An arrival logged by the collector (R77, R513, R514): the buffer holds 64, further arrivals are counted. -/
def State.log (s : State) (page : Nat) (e : Word) : State :=
  if s.coll.buf.length < Config.collectorBuffer then
    { s with coll := { s.coll with
        buf := s.coll.buf ++ [{ eseq := s.coll.next, entry := e, page := page, time := s.now }],
        next := s.coll.next + 1 } }
  else { s with coll := { s.coll with lost := s.coll.lost + 1 } }

/-- An error entry posted to a physical page (R75, R77); its alert finds the lines as they were before it arrived (R62). -/
def State.post (s : State) (page : Nat) (e : Word) : State :=
  let a := arrive (s.hdr page) e
  let s1 := s.setHdr page a.1
  let s2 := if a.2 = 0 then s1 else setIsrFrom s s1 page a.2
  (noteSum s s2).log page e

/-- An error raised on a porch, cellar or hallway page. -/
def State.errP (s : State) (page ctx code : Nat) : State := s.post page (entryOf ctx code)

/-- An error raised on subpage `sub` of slice `p`. -/
def State.err (s : State) (p : Phys) (sub ctx code : Nat) : State := s.post (slicePage p sub) (entryOf ctx code)

/-- The acknowledgement of the displayed error (R76): the queue head moves into PG_ERR. -/
def State.ackErr (s : State) (page : Nat) : State :=
  let h := s.hdr page
  match h.queue with
  | [] => noteSum s ((s.setHdr page { h with err := 0 }).touch page)
  | e :: q => noteSum s (setIsrFrom s (s.setHdr page { h with err := e.word, errNth := e.nth, queue := q }) page 4)

/-- A header after its display and queue are cleared (R579); PG_STAT.ERR falling is a change of the page (R65). -/
def Hdr.cleared (h : Hdr) (now : Nat) : Hdr :=
  { h with err := 0, errNth := 0, queue := [], arrivals := 0, ovf := 0, rep := 0, ts := if h.err = 0 then h.ts else now }

/-- The displays and queues of every page cleared (R579). -/
def State.clearErrors (s : State) : State :=
  noteSum s { s with hdrs := s.hdrs.map (fun c => (c.1, c.2.cleared s.now)) }

/-! ### Draught (R69, R572 to R574) -/

/-- Whether a page's draught settings are in force (R572). -/
def Hdr.draughtOn (h : Hdr) : Bool := fieldOf h.draught 0 0 == 1

/-- Pages whose draught settings are in force (PCH_DRAUGHT_N, R576). -/
def State.draughtPages (s : State) : Nat := (s.hdrs.filter (fun c => c.2.draughtOn)).length

/-- EVT.DRAUGHT of page 0x00000 when PCH_STATE.DRAUGHT changed (R574, R577). -/
def noteDraught (before s : State) : State :=
  if (before.draughtPages == 0) == (s.draughtPages == 0) then s else s.evtP 0x0 EVT.MOD_DRAUGHT

/-- Every draught register and unlock cleared (R69). -/
def State.clearDraught (s : State) : State :=
  noteDraught s { s with hdrs := s.hdrs.map (fun c =>
    (c.1, { c.2 with draught := 0, draughtP := 0, draughtUnl := false })) }

/-! ### Latches (R183) -/

/-- Words put into the latches of slice `p`. -/
def State.latchZW (s : State) (p : Phys) (l : List (Nat × Word)) : State :=
  s.onZ p (fun z => { z with latch := l.foldl (fun f a => rfPut f a.1 a.2) z.latch })

/-- Words put into the porch latches. -/
def State.latchPW (s : State) (l : List (Nat × Word)) : State :=
  { s with latch := l.foldl (fun f a => rfPut f a.1 a.2) s.latch }

/-- The addresses of all instances of a register. -/
def Reg.all (r : Reg) (n : Nat) : List Nat := (List.range n).map r.at

/-- A field written with an event when its value changes. -/
def State.wbEvt (s : State) (p : Phys) (x : Fld) (b : Bool) (sub bit : Nat) (i : Nat := 0) : State :=
  if s.gb p x i = b then s else (s.wb p x b i).evt p sub bit

/-- The outcome of a meaning that goes on. -/
def go (s : State) : Host.Outcome State Fault Refusal := .next s

end Sys2Proof.Machine
end

