-- ==== Sys2Proof/Machine/Flags.lean ====
section
/-! DEFINITION. Flag computations that several blocks share: the chatter rule (R94), declarations after runs of good and
bad readings (R98), hysteresis, and counting windows of one second. -/
namespace Sys2Proof.Machine

/-- The instants of a list that lie within the second before `now` (a sliding window of 1 s, R94). -/
def within1s (now : Nat) (l : List Nat) : List Nat := l.filter (fun t => now < t + 1000000)

/-- A filter rejection noted at `now`: the new counts, and whether more than `n` now lie in the window (R94). -/
def Chat.reject (c : Chat) (now n : Nat) : Chat × Bool :=
  let l := within1s now c.rejects ++ [now]
  ({ c with rejects := l, on := c.on || decide (n < l.length) }, !c.on && decide (n < l.length))

/-- An accepted transition noted at `now`, with the limit `n` of its window (R94). -/
def Chat.trans1 (c : Chat) (now n : Nat) : Chat × Bool :=
  let l := within1s now c.trans ++ [now]
  ({ c with trans := l, on := c.on || decide (n < l.length) }, !c.on && decide (n < l.length))

/-- The chatter declaration cleared after 10 quiet seconds (R94). -/
def Chat.cleared (c : Chat) : Chat := { c with rejects := [], trans := [], on := false }

/-- The band of a die temperature [0.01 °C] by the hysteresis of R101. -/
def bandStep (b : Nat) (t : Int) : Nat :=
  let up : List Int := [-1900, 1100, 4100, 7100, 9600]
  let down : List Int := [-2100, 900, 3900, 6900, 9400]
  let rise := (up.filter (fun x => x ≤ t)).length
  let fall := (down.filter (fun x => x < t)).length
  if b < rise then rise else if fall < b then fall else b

/-- Bit `i` of a multi-bit field of slice `p` written. -/
def State.wBitOf (s : State) (p : Phys) (x : Fld) (i : Nat) (b : Bool) (n : Nat := 0) : State :=
  let v := s.g p x n
  let off := if bitOf v i then v - 2 ^ i else v
  s.w p x (if b then off + 2 ^ i else off) n

end Sys2Proof.Machine
end

