-- ==== Sys2Proof/Machine/Operands.lean ====
section
/-! DEFINITION. Operand forms: the payload fields and register images of a command (R357, R358), house time in minutes
and days, physical conversions of channels and hallway paths (R154, R527, R529). -/
namespace Sys2Proof
open Machine

/-! ### Payloads (R357) -/

/-- Byte `o` of a command's payload. -/
def Exec.byte (x : Exec) (o : Nat) : Nat := leAt x.payload o 1

/-- The 16-bit field at byte `o`. -/
def Exec.u16 (x : Exec) (o : Nat) : Nat := leAt x.payload o 2

/-- The signed 16-bit field at byte `o`. -/
def Exec.i16 (x : Exec) (o : Nat) : Int := signedOf 16 (x.u16 o)

/-- The 32-bit field at byte `o`. -/
def Exec.u32 (x : Exec) (o : Nat) : Nat := leAt x.payload o 4

/-- The signed 32-bit field at byte `o`. -/
def Exec.i32 (x : Exec) (o : Nat) : Int := signedOf 32 (x.u32 o)

/-- The 64-bit field at byte `o`. -/
def Exec.u64 (x : Exec) (o : Nat) : Nat := leAt x.payload o 8

/-- The register image at byte `o` (R358). -/
def Exec.image (x : Exec) (o : Nat) : Word := wordAt x.payload o

/-- The payload length L (R322). -/
def Exec.len (x : Exec) : Nat := x.payload.length

/-- Whether the command names a zone (R322). -/
def Exec.names (x : Exec) (z : Zone) : Bool := x.zmask.getLsbD z.val

/-- The zones a command names, ascending. -/
def Exec.zones (x : Exec) : List Zone := (List.finRange 64).filter x.names

end Sys2Proof

namespace Sys2Proof.Machine

/-- The addresses of the images of a payload, in order. -/
def imageList (base : Nat) (addrs : List Nat) : List (Nat × Nat) := addrs.zipIdx.map (fun c => (base + 4 * c.2, c.1))

/-- The register images of a configuration command by opcode: (byte offset, register address) (R367, R372, R374). -/
def imagesOf (opcode : Nat) (x : Exec) : List (Nat × Nat) :=
  match opcode with
  | 0x0101 =>
    ((List.range 4).map (fun n => imageList (16 * n)
      [R.ZI_TCFG_n.at n, R.ZI_TPAR_A_n.at n, R.ZI_TPAR_B_n.at n, R.ZI_TPAR_C_n.at n])).flatten
      ++ imageList 64 [R.ZI_DIAG_CFG.at 0, R.ZI_HUM_CFG_1.at 0, R.ZI_HUM_CFG_2.at 0, R.ZI_PRES_CFG.at 0]
  | 0x0104 => imageList 0 [R.ZL_PI_H.at 0, R.ZL_PI_C.at 0, R.ZL_PI_S.at 0, R.ZL_CASC.at 0, R.ZL_LIMIT.at 0,
      R.ZL_RET.at 0, R.ZL_LOSS.at 0]
  | 0x0105 => imageList 0 (R.ZL_ACT_j.all 5)
  | 0x0107 => imageList 0 (R.ZO_CFG_j.all 5 ++ [R.ZO_GCFG.at 0, R.ZO_TACH_CFG.at 0])
  | 0x0108 => imageList 0 [R.ZK_CFG.at 0, R.ZK_KEYFN_1.at 0, R.ZK_KEYFN_2.at 0, R.ZK_ENC_CFG.at 0]
  | 0x0110 => imageList 0 [R.ZE_SCALE_V.at 0, R.ZE_SCALE_I.at 0, R.ZE_CFG.at 0]
  | 0x0111 => imageList 12 (R.ZE_CT_j.all 8)
  | 0x0112 => imageList 0 [R.ZH_CFG.at 0, R.ZH_FL_CFG_n.at 0, R.ZH_FL_CFG_n.at 1, R.ZH_FL_VPP_n.at 0,
      R.ZH_FL_VPP_n.at 1, R.ZH_DT_OFS.at 0, R.ZH_WCFG.at 0]
  | 0x0201 => imageList 0 [R.SCH_TZ_1.at 0, R.SCH_TZ_2.at 0, R.SCH_TZ_3.at 0]
  | 0x0202 => imageList 0 (R.SCH_EVT_k.all 32)
  | 0x0203 => imageList 4 ((List.range (x.byte 1)).map (fun i => R.SCH_EXC_m.at (x.byte 0 + i)))
  | 0x0210 => imageList 0 (R.ZT_VALID.at 0 :: ((List.range 48).map (fun k =>
      [R.ZT_BAND_k_A.at k, R.ZT_BAND_k_B.at k, R.ZT_BAND_k_C.at k])).flatten)
  | 0x0211 => imageList 0 [R.ZP_CFG_1.at 0, R.ZP_CFG_2.at 0, R.ZP_CFG_3.at 0]
  | 0x0304 => imageList 0 [R.ZE_CAP_CFG.at 0]
  | _ => []

/-- The images of a command as (address, word). -/
def imageWords (opcode : Nat) (x : Exec) : List (Nat × Word) :=
  (imagesOf opcode x).map (fun c => (c.2, x.image c.1))

/-- Words written into a register file. -/
def putWords (f : RegFile) (l : List (Nat × Word)) : RegFile := l.foldl (fun f a => rfPut f a.1 a.2) f

/-- The words that 0x0111 sets beside its CT images: VGAIN, IGAIN and PHASE (R372). -/
def calWords (x : Exec) : List (Nat × Word) :=
  [(R.ZE_CAL_VGAIN.at 0, BitVec.ofNat 32 (imageOf 24 (x.i32 0))),
   (R.ZE_CAL_IGAIN.at 0, BitVec.ofNat 32 (imageOf 24 (x.i32 4))),
   (R.ZE_CAL_PHASE.at 0, BitVec.ofNat 32 (imageOf 16 (x.i16 8)))]

/-- The value a setpoint field of 0x0103 gives, or the present one where the payload keeps it (R369). -/
def keepOr (keep v now : Nat) : Nat := if v = keep then now else v

/-- The setpoint registers after 0x0103 over a register file (R369). -/
def setpointWords (f : RegFile) (x : Exec) : List (Nat × Word) :=
  let t := fun o (fd : Fld) => keepOr 0x8000 (x.u16 o) (f.nat fd)
  let b := fun o k (fd : Fld) => keepOr k (x.byte o) (f.nat fd)
  [(R.ZL_SP_COMF.at 0, BitVec.ofNat 32 (t 0 F.ZL_SP_COMF_HEAT * 2 ^ 16 + t 2 F.ZL_SP_COMF_COOL)),
   (R.ZL_SP_ECO.at 0, BitVec.ofNat 32 (t 4 F.ZL_SP_ECO_HEAT * 2 ^ 16 + t 6 F.ZL_SP_ECO_COOL)),
   (R.ZL_SP_MISC.at 0, BitVec.ofNat 32 (t 8 F.ZL_SP_MISC_FROST * 2 ^ 16
      + b 10 0xFF F.ZL_SP_MISC_BOOST * 2 ^ 8 + b 11 0xFF F.ZL_SP_MISC_PANEL_LIM)),
   (R.ZL_TIMERS.at 0, BitVec.ofNat 32 (b 12 0 F.ZL_TIMERS_BOOST_T * 2 ^ 24
      + b 13 0 F.ZL_TIMERS_FLUSH_T * 2 ^ 16 + f.nat F.ZL_TIMERS_REMAIN))]

/-! ### House time -/

/-- Microseconds per minute. -/
def minuteUs : Nat := 60000000

/-! ### Hallway paths (R527, R529) -/

/-- The path index of zone `z` over spare slice `p` (S64 … S67): zone × 4 + (spare − 64). -/
def pathIndex (z : Zone) (p : Phys) : Nat := z.val * 4 + (p.val - 64)

/-- The calibration record of a path. -/
def State.path (s : State) (i : Nat) : PathCal := (smFind s.upkeep.paths i).getD {}

/-- The present resistance of switch `i` of a path [Ω]: R25 × (1 + α × (T_v − 25 °C)) (R527). -/
def pathOhm (s : State) (c : PathCal) (i : Nat) : Rat :=
  let r25 : Rat := ((c.r25.toList.getD i 0 : Nat) : Rat) / 1000
  r25 * (1 + (c.alpha : Rat) / 1000000 * ((s.thermal.tv : Rat) / 100 - 25))

/-- The resistance that two switches of the path in use add for the zone of slice `p` [Ω]; 0 on a home path (R529). -/
def switchOhm (s : State) (p : Phys) (i j : Nat) : Rat :=
  if p.val < 64 then 0
  else match s.zoneOf p with
    | none => 0
    | some z => let c := s.path (pathIndex z p); pathOhm s c i + pathOhm s c j

/-- Converter volts of a code (R139): 5 V / 2^24 per code. -/
def codeVolts (c : Int) : Rat := (c : Rat) * 5 / (2 ^ 24 : Nat)

/-- The gain G of ZE_CFG.GSEL: 2^GSEL, 7 taken as 6 (R184). -/
def gainOf (gsel : Nat) : Nat := 2 ^ min gsel 6

/-- A temperature of a register [0.01 °C], none where it reads 0x8000 (R16). -/
def tempOf (n : Nat) : Option Int := if n = 0x8000 then none else some (signedOf 16 n)

end Sys2Proof.Machine
end

