-- ==== Sys2Proof/Machine/Inputs.lean ====
section
/-! DEFINITION. Zone inputs: temperature readings, humidity, presence, the noise-floor diagnostic and broken sensors
(chapter 03). -/
namespace Sys2Proof.Machine

/-! ### Temperature readings (R78 to R85, R98) -/

/-- The state of temperature input `n`. -/
def State.tIn (s : State) (p : Phys) (n : Fin 4) : TempIn := (s.z p).inp.t[n]

/-- The inputs of slice `p` changed. -/
def State.onInp (s : State) (p : Phys) (f : Inputs → Inputs) : State := s.onZ p (fun z => { z with inp := f z.inp })

/-- Temperature input `n` changed. -/
def State.onT (s : State) (p : Phys) (n : Fin 4) (f : TempIn → TempIn) : State :=
  s.onInp p (fun i => { i with t := i.t.set n.val (f i.t[n]) n.isLt })

/-- What a sample gives: the cause of FAULT (0 good, 1 open, 2 short, 3 range, 4 series resistance), the temperature [°C] and
the value of ZI_TRES_n of a good one, the resistance R [Ω] that chooses an NTC's current (R80), and the series resistance of
a diode [Ω] (R83). -/
structure Reading where
  cause : Nat
  t     : Rat := 0
  res   : Rat := 0
  ohm   : Option Rat := none
  rs    : Option Rat := none
  deriving DecidableEq, Repr

/-- Steinhart–Hart (R81): °C from ohms and the coefficients. -/
def ntcTemp (a b c r : Rat) : Rat :=
  let l := Config.ln r
  1 / (a + b * l + c * (l * l * l)) - 27315 / 100

/-- One Newton step on the full Callendar–Van Dusen characteristic (R82). -/
def cvdNewton (r0 r t : Rat) : Rat :=
  let a : Rat := 39083 / 10000000
  let b : Rat := -5775 / 10000000000
  let c : Rat := -4183 / 1000000000000000
  let f := r0 * (1 + a * t + b * t * t + c * (t - 100) * t * t * t) - r
  let f' := r0 * (a + 2 * b * t + c * (4 * t * t * t - 300 * t * t))
  t - f / f'

/-- Callendar–Van Dusen (R82): °C from ohms and R0. -/
def ptTemp (r0 r : Rat) : Rat :=
  let a : Rat := 39083 / 10000000
  let b : Rat := -5775 / 10000000000
  let t0 := (-a + Config.sqrt (a * a - 4 * b * (1 - r / r0))) / (2 * b)
  if r < r0 then cvdNewton r0 r (cvdNewton r0 r t0) else t0

/-- The resistance of a ratiometric sample [Ω] (R79, R529): corrected by the reference of the calibration set of `band`, less
the configured lead and the switches of a hallway path. -/
def sampleOhm (s : State) (p : Phys) (n : Fin 4) (band : Nat) (vs vref : Rat) : Rat :=
  Config.refOhm band / 1000 * vs / vref
    - ((s.g p F.ZI_TCFG_n_LEAD n : Rat) / 100 + switchOhm s p (2 * n.val) (2 * n.val + 1))

/-- The cause and temperature of an NTC resistance (R81, R98). -/
def ntcReading (s : State) (p : Phys) (n : Fin 4) (vs r : Rat) : Reading :=
  let a := (s.z p).regs.word R.ZI_TPAR_A_n n
  let b := (s.z p).regs.word R.ZI_TPAR_B_n n
  let c := (s.z p).regs.word R.ZI_TPAR_C_n n
  let t := ntcTemp (f32Value a) (f32Value b) (f32Value c) r
  let cause :=
    if 5000000 < r ∨ 24 / 10 < vs then 1
    else if r < 20 then 2
    else if a = 0 ∧ b = 0 ∧ c = 0 then 3
    else if t < -40 ∨ 125 < t then 3 else 0
  { cause := cause, t := t, res := r * 1000, ohm := some r }

/-- The configured offset of a Pt1000 or diode input [K] (R113). -/
def offsetK (s : State) (p : Phys) (n : Fin 4) : Rat := (((s.z p).regs.word R.ZI_TPAR_B_n n).toInt : Rat) / 10000

/-- The cause and temperature of a Pt1000 resistance (R82, R98). -/
def ptReading (s : State) (p : Phys) (n : Fin 4) (r : Rat) : Reading :=
  let r0 : Rat := (((s.z p).regs.word R.ZI_TPAR_A_n n).toNat : Rat) / 1000
  let t := ptTemp r0 r + offsetK s p n
  let cause := if 2500 < r then 1 else if r < 600 then 2 else if t < -50 ∨ 250 < t then 3 else 0
  { cause := cause, t := t, res := r * 1000 }

/-- The cause and temperature of a diode's three voltages (R83, R98); the switches of a hallway path are taken out at each
difference of currents. -/
def diodeReading (s : State) (p : Phys) (n : Fin 4) (v10 v40 v160 : Rat) : Reading :=
  let sw := switchOhm s p (2 * n.val) (2 * n.val + 1)
  let d1 := (v40 - v10) - sw * 30 / 1000000
  let d2 := (v160 - v40) - sw * 120 / 1000000
  let dv := d1 - (d2 - d1) / 3
  let rs := (d2 - d1) / (90 / 1000000)
  let eta := f32Value ((s.z p).regs.word R.ZI_TPAR_A_n n)
  let t := 83709 / 10 * dv / eta - 27315 / 100 + offsetK s p n
  let cause :=
    if 12 / 10 < v160 then 1
    else if v160 < 1 / 10 then 2
    else if 200 < rs then 4
    else if t < -40 ∨ 150 < t then 3 else 0
  { cause := cause, t := t, res := dv * 1000000000, rs := some rs }

/-- The reading of a sample on input `n` under the calibration set of `band` (R79, R81 to R83, R98, R102). -/
def formReading (s : State) (p : Phys) (n : Fin 4) (band : Nat) (x : InputSample) : Option Reading :=
  match s.g p F.ZI_TCFG_n_TYPE n, x with
  | 1, .resistive vs vref => some (ntcReading s p n vs (sampleOhm s p n band vs vref))
  | 2, .resistive vs vref => some (ptReading s p n (sampleOhm s p n band vs vref))
  | 3, .diode v10 v40 v160 => some (diodeReading s p n v10 v40 v160)
  | _, _ => none

/-- The excitation range of an NTC input after a reading of R [Ω] (R80): 1 1 µA, 2 10 µA, 3 100 µA. -/
def ntcRange (now : Nat) (r : Rat) : Nat :=
  if now = 3 then (if 1100 < r then (if 110000 < r then 1 else 2) else 3)
  else if now = 1 then (if r < 90000 then (if r < 900 then 3 else 2) else 1)
  else if now = 2 then (if r < 900 then 3 else if 110000 < r then 1 else 2)
  else if r < 1000 then 3 else if r ≤ 100000 then 2 else 1

/-- The current of IEXC_ACT for an input: a fixed IEXC, the automatic range, 100 µA for Pt1000, off for a diode. -/
def excitation (type iexc range : Nat) : Nat :=
  if type = 1 then (if iexc = 0 then range else iexc) else if type = 2 then 3 else 0

/-- The error code of a cause (R103). -/
def tempError (cause : Nat) : Nat := 0x8910 + cause

/-- ZI_STAT's bits of input `n` brought into line with ZI_T_n (R107). -/
def State.syncT (s : State) (p : Phys) (n : Fin 4) : State :=
  ((s.wBitOf p F.ZI_STAT_TVALID n.val (s.gb p F.ZI_T_n_VALID n)).wBitOf p F.ZI_STAT_TSETTLE n.val
    (s.gb p F.ZI_T_n_SETTLING n)).wBitOf p F.ZI_STAT_TNOISY n.val (s.gb p F.ZI_T_n_NOISY n)

/-- IEXC_ACT brought to the current in use (R112): off in an off segment of R96, else the range in force. -/
def showExc (s : State) (p : Phys) (n : Fin 4) : State :=
  let i := s.tIn p n
  s.w p F.ZI_T_n_IEXC_ACT
    (if i.off then 0 else excitation (s.g p F.ZI_TCFG_n_TYPE n) (s.g p F.ZI_TCFG_n_IEXC n) i.range) n

/-- Readings of a filter start that are flagged SETTLING: the settling time of R85 holds ten readings at every FILT
(notes/assumptions/46). -/
def settleReadings : Nat := 9

/-- Whether an input has ROLE LIMIT (R112). -/
def State.isLimit (s : State) (p : Phys) (n : Fin 4) : Bool := s.g p F.ZI_TCFG_n_ROLE n == 4

/-- The dew point invalid because input `n`, which is its TREF, is broken or gone (R89, R99). -/
def dropDew (s : State) (p : Phys) (n : Fin 4) : State :=
  if s.g p F.ZI_HUM_CFG_2_TREF = n.val then (s.w p F.ZI_HUM_DEW 0x8000).wb p F.ZI_STAT_DVALID false else s

/-- An input declared broken (R98): VALID and HELD 0, FAULT its cause, TEMP 0x8000; the window is discarded (R96); a dew point
that uses it is invalid. R98 gives VALID, FAULT and TEMP; HELD 0 is the model's choice (notes/assumptions/137). -/
def declareBroken (s : State) (p : Phys) (n : Fin 4) (cause : Nat) : State :=
  let s1 := s.onT p n (fun i => { i with broken := true, spoiled := true })
  let s2 := (((s1.wb p F.ZI_T_n_VALID false n).wb p F.ZI_T_n_HELD false n).w p F.ZI_T_n_FAULT cause n).w p
    F.ZI_T_n_TEMP 0x8000 n
  let s3 := ((s2.wb p F.ZI_T_n_SETTLING false n).wWord p R.ZI_THR_n 0x80000000#32 n).syncT p n
  ((dropDew s3 p n).evt p 1 (EVT.ZI_T_BRK + n.val)).err p 1 n.val (tempError cause)

/-- A bad reading (R98): withheld until the run is long enough, then declared with its error; a new cause of a standing
declaration is shown and raised. -/
def badReading (s : State) (p : Phys) (n : Fin 4) (cause : Nat) : State :=
  let i := s.tIn p n
  let s1 := s.onT p n (fun i => { i with badRun := i.badRun + 1, goodRun := 0 })
  if i.broken then
    let s2 := s1.w p F.ZI_T_n_FAULT cause n
    if s.g p F.ZI_T_n_FAULT n = cause then s2 else s2.err p 1 n.val (tempError cause)
  else if (if s.isLimit p n then 1 else 3) ≤ i.badRun + 1 then declareBroken s1 p n cause
  else if s1.gb p F.ZI_T_n_VALID n then s1.wb p F.ZI_T_n_HELD true n
  else s1

/-- A good reading published in ZI_T_n, ZI_THR_n and ZI_TRES_n (R86, R112, R113). -/
def publishReading (s : State) (p : Phys) (n : Fin 4) (t res : Rat) (settling : Bool) : State :=
  let s1 := s.onR p (fun r =>
    (((((r.putBit F.ZI_T_n_VALID true n).putBit F.ZI_T_n_SETTLING settling n).putBit F.ZI_T_n_HELD false n).putNat
      F.ZI_T_n_FAULT 0 n).putInt F.ZI_T_n_TEMP (Config.toUnits (t * 100)) n))
  let s2 := s1.onR p (fun r =>
    (r.putWord R.ZI_THR_n (BitVec.ofInt 32 (Config.toUnits (t * 10000))) n).putWord R.ZI_TRES_n
      (BitVec.ofInt 32 (Config.toUnits res)) n)
  s2.syncT p n

/-- A good reading (R98): a declaration clears after 50 in a row, without one it is published. -/
def goodReading (s : State) (p : Phys) (n : Fin 4) (t res : Rat) (settling : Bool) : State :=
  let i := s.tIn p n
  let s1 := s.onT p n (fun i => { i with goodRun := i.goodRun + 1, badRun := 0 })
  if i.broken then
    if 50 ≤ i.goodRun + 1 then
      let s2 := s1.onT p n (fun i => { i with broken := false })
      (publishReading s2 p n t res settling).evt p 1 (EVT.ZI_T_BRK + n.val)
    else s1
  else publishReading s1 p n t res settling

/-- The NTC current that the reading of R chooses with IEXC automatic (R80); a move starts the filter again (R85) and
discards the window (R96). The first reading after reset chooses a range and moves none. -/
def moveRange (s : State) (p : Phys) (n : Fin 4) (ohm : Option Rat) : State :=
  match ohm with
  | some r =>
    if s.g p F.ZI_TCFG_n_IEXC n = 0 then
      let i := s.tIn p n
      let range := ntcRange i.range r
      let moved := i.range != 0 && range != i.range
      s.onT p n (fun i => { i with range := range, spoiled := i.spoiled || moved,
                                   settleN := if moved then settleReadings else i.settleN })
    else s
  | none => s

/-- The series resistance of a diode in ZI_TNOISE_n [0.1 Ω] (R83, R113). -/
def showSeries (s : State) (p : Phys) (n : Fin 4) (rs : Option Rat) : State :=
  match rs with
  | some r => s.wWord p R.ZI_TNOISE_n (BitVec.ofNat 32 (satTo 16 (Config.toUnits (r * 10)).toNat)) n
  | none => s

/-- The flag SETTLING of a held reading ends with the settling time (R85). -/
def endSettling (s : State) (p : Phys) (n : Fin 4) : State :=
  if (s.tIn p n).settleN = 0 && s.gb p F.ZI_T_n_SETTLING n then (s.wb p F.ZI_T_n_SETTLING false n).syncT p n else s

/-- A reading that was formed, good or bad (R80, R83, R85, R98). -/
def takeReading (s : State) (p : Phys) (n : Fin 4) (settling : Bool) (x : Reading) : State :=
  let s1 := showSeries (moveRange s p n x.ohm) p n x.rs
  if x.cause = 0 then goodReading s1 p n x.t x.res settling else endSettling (badReading s1 p n x.cause) p n

/-- One filtered reading of input `n` (INPUT_READING, R85), taken in a pass with the calibration set of `band`. Each counts
towards the settling time; none is used during an off segment (R96, R98). -/
def inputReading (s : State) (p : Phys) (n : Fin 4) (band : Nat) (x : InputSample) : State :=
  match formReading s p n band x with
  | none => s
  | some r =>
    let settling := decide (0 < (s.tIn p n).settleN)
    let s1 := s.onT p n (fun i => { i with settleN := i.settleN - 1 })
    if (s.tIn p n).off then endSettling s1 p n else showExc (takeReading s1 p n settling r) p n

/-- The filters of every input started again (R85): at reset, after 0x0101, which may change each input's range, and after a
migration (notes/assumptions/46). -/
def restartFilters (s : State) (p : Phys) : State :=
  s.onInp p (fun i => { i with t := i.t.map (fun t => { t with settleN := settleReadings }) })

/-- Every window under way is discarded (R96): at a change of band and at a migration. -/
def spoilWindows (s : State) (p : Phys) : State :=
  s.onInp p (fun i => { i with t := i.t.map (fun t => { t with spoiled := true }) })

/-- Readings held: the last values stay, flagged HELD (R100, R180). -/
def holdReadings (s : State) (p : Phys) : State :=
  (List.finRange 4).foldl (fun (s : State) (n : Fin 4) => if s.gb p F.ZI_T_n_VALID n then s.wb p F.ZI_T_n_HELD true n else s) s

/-! ### Noise-floor diagnostic (R96, R97) -/

/-- Whether input `n` takes the diagnostic: enabled, NTC or Pt1000 (R96). -/
def State.diagnosed (s : State) (p : Phys) (n : Fin 4) : Bool :=
  s.gb p F.ZI_DIAG_CFG_EN && (s.g p F.ZI_TCFG_n_TYPE n == 1 || s.g p F.ZI_TCFG_n_TYPE n == 2)

/-- A noise ratio in units of 1/256: the measured noise over the Johnson floor at mean R [Ω] and mean T [K], in 10 Hz
(R96, k of R40). -/
def noiseRatio (noise r t : Rat) : Nat :=
  let k : Rat := 1380649 / (10 ^ 29 : Nat)
  satTo 16 (Config.toUnits (noise / Config.sqrt (4 * k * t * r * 10) * 256)).toNat

/-- One condition of R97: the run over its threshold, the run below 0.9 times it, and whether it is declared. -/
def noiseJudge (run clear : Nat) (was above below : Bool) : Nat × Nat × Bool :=
  let run' := if above then run + 1 else 0
  let clear' := if below then clear + 1 else 0
  (run', clear', if was then !(decide (3 ≤ clear')) else decide (3 ≤ run'))

/-- A new window of an input, with an off segment or without; the segment stands at the window's start
(notes/assumptions/138). While it lasts the last reading is held (R96). -/
def startWindow (s : State) (p : Phys) (n : Fin 4) (off : Bool) : State :=
  let s1 := s.onT p n (fun i => { i with off := off, spoiled := false })
  showExc (if off && s.gb p F.ZI_T_n_VALID n then s1.wb p F.ZI_T_n_HELD true n else s1) p n

/-- Whether the window after `done` completed ones includes an off segment (R96): every OFF_EVERY windows, none for ROLE
LIMIT. -/
def offDue (s : State) (p : Phys) (n : Fin 4) (done : Nat) : Bool :=
  !s.isLimit p n && (done + 1) % max 1 (s.g p F.ZI_DIAG_CFG_OFF_EVERY) == 0

/-- DIAG_WINDOW_END: ρ_on is stored and both conditions are judged (R96, R97); a discarded window stores and judges nothing.
With the diagnostic disabled no window runs, and what it has declared stands (notes/assumptions/139). -/
def diagWindow (s : State) (p : Phys) (n : Fin 4) (noise meanR meanT : Rat) : State :=
  if !s.diagnosed p n then s
  else
    let i := s.tIn p n
    let next := i.windows + 1
    let s0 := s.onT p n (fun i => { i with windows := next })
    if i.spoiled || i.broken then startWindow s0 p n (offDue s p n next)
    else
      let on := noiseRatio noise meanR meanT
      let ton := s.g p F.ZI_DIAG_CFG_THR_ON * 256
      let toff := s.g p F.ZI_DIAG_CFG_THR_OFF * 256
      let a := noiseJudge i.onRun i.onClear i.noisyOn (decide (ton < on * 10 ∧ i.rhoOff * 10 ≤ toff))
        (decide (on * 100 < 9 * ton))
      let b := noiseJudge i.pickRun i.pickClear i.noisyPick (decide (toff < i.rhoOff * 10))
        (decide (i.rhoOff * 100 < 9 * toff))
      let s1 := s0.onT p n (fun i => { i with
        onRun := a.1, onClear := a.2.1, noisyOn := a.2.2, pickRun := b.1, pickClear := b.2.1, noisyPick := b.2.2 })
      let s2 := s1.wWord p R.ZI_TNOISE_n (BitVec.ofNat 32 (on * 2 ^ 16 + i.rhoOff)) n
      let s3 := (s2.wb p F.ZI_T_n_NOISY (a.2.2 || b.2.2) n).syncT p n
      let s4 := if a.2.2 && !i.noisyOn then s3.err p 1 n.val 0x4920 else s3
      let s5 := if b.2.2 && !i.noisyPick then s4.err p 1 n.val 0x4921 else s4
      let s6 := s5.evtIf (a.2.2 != i.noisyOn || b.2.2 != i.noisyPick) p 1 EVT.ZI_NOISE
      startWindow s6 p n (offDue s p n next)

/-- The excitation returns after an off segment (R96): the reading is held on only while bad ones are withheld. -/
def endOff (s : State) (p : Phys) (n : Fin 4) : State :=
  showExc ((s.onT p n (fun i => { i with off := false })).wb p F.ZI_T_n_HELD
    (s.gb p F.ZI_T_n_VALID n && decide (0 < (s.tIn p n).badRun)) n) p n

/-- DIAG_OFF_SEGMENT_END: the excitation returns and ρ_off is stored, not in a discarded window (R96). -/
def diagOff (s : State) (p : Phys) (n : Fin 4) (noise meanR meanT : Rat) : State :=
  let i := s.tIn p n
  if !i.off then s
  else if i.spoiled || i.broken then endOff s p n
  else
    let off := noiseRatio noise meanR meanT
    let on := fieldOf ((s.z p).regs.word R.ZI_TNOISE_n n) 31 16
    let s1 := s.onT p n (fun i => { i with rhoOff := off })
    endOff (s1.wWord p R.ZI_TNOISE_n (BitVec.ofNat 32 (on * 2 ^ 16 + off)) n) p n

/-- DIAG_NOW: every diagnosed input starts a new window that includes an off segment (R111). -/
def diagNowEffect (s : State) (p : Phys) : State :=
  (List.finRange 4).foldl (fun (s : State) (n : Fin 4) =>
    if s.diagnosed p n then startWindow s p n (!s.isLimit p n) else s) s

/-! ### Humidity (R88, R89, R98) -/

/-- The dew point of R89 [°C] from relative humidity [%] and temperature [°C]. -/
def dewPoint (rh t : Rat) : Rat :=
  let a : Rat := 1762 / 100
  let b : Rat := 24312 / 100
  let g := Config.ln (rh / 100) + a * t / (b + t)
  b * g / (a - g)

/-- The temperature of the TREF input, none while it is not valid (R89). -/
def State.tref (s : State) (p : Phys) : Option Rat :=
  let n := s.g p F.ZI_HUM_CFG_2_TREF
  if s.gb p F.ZI_T_n_VALID n then (tempOf (s.g p F.ZI_T_n_TEMP n)).map (fun (t : Int) => (t : Rat) / 100) else none

/-- RH of R89 in %, from C [0.01 pF]; a compensated reading without a valid TREF is a free value. -/
def humidityOf (s : State) (p : Phys) (cap : Nat) : Rat :=
  let c0 : Rat := (s.g p F.ZI_HUM_CFG_1_C0 : Rat)
  let sens : Rat := (s.g p F.ZI_HUM_CFG_1_S : Rat)
  let base := ((cap : Rat) - c0) * 100 / sens
  if s.gb p F.ZI_HUM_CFG_2_TCOMP then
    match s.tref p with
    | some t => base + (s.gi p F.ZI_HUM_CFG_2_KT : Rat) / 1000 * (t - 25)
    | none => base + (Config.freeNat s.free : Rat)
  else base

/-- The cause of a bad humidity reading, 0 for a good one (R98, R103). -/
def humidityCause (cap leak : Nat) (rh : Rat) : Nat :=
  if cap < 2000 then 1 else if 10000 < leak then 2 else if rh < -5 ∨ 105 < rh then 3 else 0

/-- A good humidity reading published (R89, R109). -/
def publishHumidity (s : State) (p : Phys) (rh : Rat) : State :=
  let r := clampRat 0 100 rh
  let s1 := (s.w p F.ZI_HUM_RH (Config.toUnits (r * 100)).toNat).wb p F.ZI_STAT_HVALID true
  match s.tref p with
  | some t =>
    if r < 1 then (s1.w p F.ZI_HUM_DEW 0x8000).wb p F.ZI_STAT_DVALID false
    else (s1.wi p F.ZI_HUM_DEW (Config.toUnits (dewPoint r t * 100))).wb p F.ZI_STAT_DVALID true
  | none => (s1.w p F.ZI_HUM_DEW 0x8000).wb p F.ZI_STAT_DVALID false

/-- HUMIDITY_UPDATE: one measurement of capacitance [0.01 pF] and leakage [nS] (R88, R89, R98). R109 calls LEAK saturating;
CAP saturates too, by the model's choice (notes/assumptions/140). -/
def humidityMeasure (s : State) (p : Phys) (cap leak : Nat) : State :=
  if s.g p F.ZI_HUM_CFG_1_S = 0 then s
  else
    let s0 := (s.w p F.ZI_HUM_CAP_LEAK (satTo 16 leak)).w p F.ZI_HUM_CAP_CAP (satTo 16 cap)
    let i := (s.z p).inp
    let rh := humidityOf s p cap
    let s1 : State := if s.gb p F.ZI_HUM_CFG_2_TCOMP && (s.tref p).isNone then { s0 with free := s0.free + 1 } else s0
    let cause := humidityCause cap leak rh
    if cause = 0 then
      let s2 := s1.onInp p (fun i => { i with humBad := 0, humGood := i.humGood + 1 })
      if i.humBroken then
        if 50 ≤ i.humGood + 1 then
          (publishHumidity (s2.onInp p (fun i => { i with humBroken := false, humFault := 0 })) p rh).evt p 1
            EVT.ZI_HUM_BRK
        else s2
      else publishHumidity s2 p rh
    else
      let s2 := s1.onInp p (fun i => { i with humBad := i.humBad + 1, humGood := 0 })
      if i.humBroken then
        if i.humFault = cause then s2
        else (s2.onInp p (fun i => { i with humFault := cause })).err p 1 0 (0x892F + cause)
      else if 3 ≤ i.humBad + 1 then
        let s3 := s2.onInp p (fun i => { i with humBroken := true, humFault := cause })
        let s4 := (((s3.w p F.ZI_HUM_RH 0xFFFF).w p F.ZI_HUM_DEW 0x8000).wb p F.ZI_STAT_HVALID false).wb p
          F.ZI_STAT_DVALID false
        (s4.evt p 1 EVT.ZI_HUM_BRK).err p 1 0 (0x892F + cause)
      else s2

/-- The humidity input while S is 0 (R109): disabled, so nothing is valid and no declaration stands. -/
def disableHumidity (s : State) (p : Phys) : State :=
  if s.g p F.ZI_HUM_CFG_1_S = 0 then
    let s1 := (((s.w p F.ZI_HUM_RH 0xFFFF).w p F.ZI_HUM_DEW 0x8000).wb p F.ZI_STAT_HVALID false).wb p
      F.ZI_STAT_DVALID false
    let s2 := s1.onInp p (fun i => { i with humBroken := false, humFault := 0, humBad := 0, humGood := 0 })
    s2.evtIf (s.z p).inp.humBroken p 1 EVT.ZI_HUM_BRK
  else s

/-! ### A new configuration (R367) -/

/-- An input whose TYPE changed begins anew: no reading, no declaration; what it had declared ends with its event (R106,
R113). -/
def retypeInput (s : State) (p : Phys) (n : Fin 4) : State :=
  let i := s.tIn p n
  let s1 := (s.onT p n (fun _ => {})).onR p (fun r =>
    (((r.putWord R.ZI_T_n (regReset (R.ZI_T_n.at n)) n).putWord R.ZI_THR_n 0x80000000#32 n).putWord
      R.ZI_TRES_n 0 n).putWord R.ZI_TNOISE_n 0 n)
  let s2 := dropDew (s1.syncT p n) p n
  (s2.evtIf i.broken p 1 (EVT.ZI_T_BRK + n.val)).evtIf (i.noisyOn || i.noisyPick) p 1 EVT.ZI_NOISE

/-- Input `n` under a new configuration; `was` is the state before it: a changed current discards the window (R96), a
diagnostic disabled ends its off segment, one enabled starts a window. -/
def newInput (was s : State) (p : Phys) (n : Fin 4) : State :=
  let s1 := if was.g p F.ZI_TCFG_n_TYPE n = s.g p F.ZI_TCFG_n_TYPE n then s else retypeInput s p n
  let s2 := if was.g p F.ZI_TCFG_n_IEXC n = s.g p F.ZI_TCFG_n_IEXC n then s1
    else s1.onT p n (fun i => { i with spoiled := true })
  let s3 := if s.diagnosed p n then
      (if was.diagnosed p n then s2 else startWindow s2 p n (offDue s2 p n (s2.tIn p n).windows))
    else if (s2.tIn p n).off then endOff s2 p n else s2
  showExc s3 p n

/-! ### Presence (R90 to R95) -/

/-- Whether PRD takes part in the combination (R92, R95). -/
def Inputs.prdIn (i : Inputs) : Bool := !(i.prdStuck || i.prdChat.on)

/-- Whether PRA takes part in the combination (R92, R95). -/
def Inputs.praIn (i : Inputs) : Bool := !(i.praStuck || i.praChat.on || i.praBroken)

/-- Zone presence and its fallback by MODE (R92). -/
def presenceOf (mode : Nat) (prdIn praIn prd pra : Bool) : Bool × Bool :=
  match mode with
  | 0 => (prdIn && prd, !prdIn)
  | 1 => (praIn && pra, !praIn)
  | 2 => ((prdIn && prd) || (praIn && pra), !prdIn && !praIn)
  | _ => (false, false)

/-- Zone presence formed anew, with EVT.PRES, and the hold of R258 begun when presence ends. -/
def formPresence (s : State) (p : Phys) : State :=
  let i := (s.z p).inp
  let r := presenceOf (s.g p F.ZI_PRES_CFG_MODE) i.prdIn i.praIn (s.gb p F.ZI_PRES_PRD_ACC) (s.gb p F.ZI_PRES_PRA_ACT)
  let was := s.gb p F.ZI_STAT_PRES
  let s1 := (s.wb p F.ZI_STAT_PRES r.1).wb p F.ZI_STAT_PRES_FALLBACK r.2
  let s2 := if was && !r.1 then
      s1.onZ p (fun z => { z with sched := { z.sched with
        occLeft := s.g p F.ZP_CFG_1_OCC_HOLD * 60 } })
    else s1
  s2.evtIf (was != r.1) p 1 EVT.ZI_PRES

/-- The CHATTER declaration of PRD (CTX 0) or PRA (CTX 1) (R94). -/
def declareChatter (s : State) (p : Phys) (pra : Bool) : State :=
  let s1 := if pra then s.wb p F.ZI_STAT_CHAT_PRA true else s.wb p F.ZI_STAT_CHAT_PRD true
  formPresence (((s1.bump p F.ZI_PRES_CNT_CHAT_CNT).evt p 1 EVT.ZI_CHATTER).err p 1 (bit1 pra) 0x1906) p

/-- PRD's filter passes a level (R90, R93, R95), in CHATTER too: an active level starts the stuck timer, a break ends it and
clears STUCK. -/
def passPrd (s : State) (p : Phys) (level : Bool) : State :=
  let s1 := s.onInp p (fun i => { i with
    prdPend := false, prdFilt := level, prdSince := if level then some (s.base p : Int) else none })
  if !level && (s.z p).inp.prdStuck then
    ((s1.onInp p (fun i => { i with prdStuck := false })).wb p F.ZI_STAT_STUCK_PRD false).evt p 1 EVT.ZI_STUCK
  else s1

/-- The accepted state of PRD changes (R90, R94): one transition, an activation counted. -/
def acceptPrd (s : State) (p : Phys) (level : Bool) : State :=
  let s1 := s.wb p F.ZI_PRES_PRD_ACC level
  let c := ((s.z p).inp.prdChat).trans1 (s.slUs p) 4
  let s2 := s1.onInp p (fun i => { i with prdChat := c.1 })
  let s3 := if level then s2.bump p F.ZI_PRES_CNT_ACT_CNT else s2
  let s4 := if c.2 then declareChatter s3 p false else s3
  formPresence s4 p

/-- PRD_RAW_EDGE: the level after the Schmitt stage; a reversal before the filter time is one rejection (R90, R94). -/
def prdRaw (s : State) (p : Phys) (level : Bool) : State :=
  let act := level != s.gb p F.ZI_PRES_CFG_PRD_POL
  let s1 := s.wb p F.ZI_PRES_PRD_RAW act
  if act != (s.z p).inp.prdFilt then s1.onInp p (fun i => { i with prdPend := true })
  else if (s.z p).inp.prdPend then
    let c := ((s.z p).inp.prdChat).reject (s.slUs p) 8
    let s2 := s1.onInp p (fun i => { i with prdPend := false, prdChat := c.1 })
    if c.2 then declareChatter s2 p false else s2
  else s1

/-- A new polarity of PRD (R90): the present level reads inverted, and its filter time starts where it differs from what
the filter passed; no pulse is counted. -/
def turnPrd (s : State) (p : Phys) : State :=
  let act := !s.gb p F.ZI_PRES_PRD_RAW
  (s.wb p F.ZI_PRES_PRD_RAW act).onInp p (fun i => { i with prdPend := act != i.prdFilt })

/-- PRD_EDGE_ACCEPTED: the level has held for PRD_FILT (R90); an input in CHATTER keeps its last accepted state, and only its
stuck timer follows (R94, R95). -/
def prdAccept (s : State) (p : Phys) : State :=
  let i := (s.z p).inp
  let level := s.gb p F.ZI_PRES_PRD_RAW
  if i.prdPend then
    let s1 := passPrd s p level
    if i.prdChat.on then formPresence s1 p else acceptPrd s1 p level
  else s

/-- A motion event of PRA (R91): PRA is active from it, PRA_MOTION shows it for 100 ms, it counts as one transition. -/
def praMotion (s : State) (p : Phys) : State :=
  let c := ((s.z p).inp.praChat).trans1 (s.slUs p) 4
  let s1 := s.onInp p (fun i => { i with
    praChat := c.1, praShow := 100, praSince := match i.praSince with | some t => some t | none => some (s.base p : Int) })
  let s2 := ((s1.wb p F.ZI_PRES_PRA_ACT true).wb p F.ZI_PRES_PRA_MOTION true).bump p F.ZI_PRES_CNT_ACT_CNT
  let s3 := if c.2 then declareChatter s2 p true else s2
  formPresence s3 p

/-- PRA_THR of a slice [mV] (R91, R110). -/
def State.praThr (s : State) (p : Phys) : Nat := 5 * s.g p F.ZI_PRES_CFG_PRA_THR

/-- The DC level of PRA [mV] shown; inside 0.2 … 4.8 V it ends the broken declaration at once, which R91 leaves open
(notes/assumptions/141). -/
def praDc (s : State) (p : Phys) (dc : Nat) : State :=
  let s1 := s.w p F.ZI_PRES_PRA_DC (satTo 16 dc)
  if (s.z p).inp.praBroken && decide (200 ≤ dc ∧ dc ≤ 4800) then
    formPresence (s1.onInp p (fun i => { i with praBroken := false })) p
  else s1

/-- The comparison of PRA's band-passed signal with ±PRA_THR (R91, R94): each change is one crossing, and the time beyond the
threshold runs while it stays there. -/
def praCompare (s : State) (p : Phys) (high : Bool) (ms : Nat) : State :=
  let i := (s.z p).inp
  let s1 := s.onInp p (fun i => { i with
    praHigh := high, praOver := if high && i.praHigh then i.praOver + ms else 0, praShow := i.praShow - ms })
  let s2 := s1.wb p F.ZI_PRES_PRA_MOTION (decide (0 < (s1.z p).inp.praShow))
  if high != i.praHigh then
    let c := i.praChat.reject (s.slUs p) 8
    let s3 := s2.onInp p (fun i => { i with praChat := c.1 })
    if c.2 then declareChatter s3 p true else s3
  else s2

/-- PRA_SAMPLE: the DC level [mV], the band-passed signal [mV] and the time since the sample before [ms], 10 at 100 S/s (R91).
An excursion beyond ±PRA_THR gives one motion event, when it has lasted 100 ms (notes/assumptions/142). -/
def praTake (s : State) (p : Phys) (dc : Nat) (band : Int) (ms : Nat) : State :=
  let s1 := praCompare (praDc s p dc) p (decide (s.praThr p < band.natAbs)) ms
  let was := (s.z p).inp.praOver
  let now := (s1.z p).inp.praOver
  if was < 100 && decide (100 ≤ now) && !(s1.z p).inp.praChat.on then praMotion s1 p else s1

/-- PRA_INACTIVE: 120 s have passed since the last motion event (R91, R93): PRA's stuck declaration clears and its timer
ends; in CHATTER the input keeps its last accepted state (R94). -/
def praIdle (s : State) (p : Phys) : State :=
  let s1 := if (s.z p).inp.praChat.on then s else s.wb p F.ZI_PRES_PRA_ACT false
  let s2 := s1.onInp p (fun i => { i with praSince := none })
  let s3 := if (s.z p).inp.praStuck then
      ((s2.onInp p (fun i => { i with praStuck := false })).wb p F.ZI_STAT_STUCK_PRA false).evt p 1 EVT.ZI_STUCK
    else s2
  formPresence s3 p

/-- Whether a DC level of PRA [mV] lies outside 0.2 … 4.8 V (R91). -/
def praOut (dc : Nat) : Bool := decide (dc < 200) || decide (4800 < dc)

/-- PRA_LEVEL_FAULT: the DC level has been outside 0.2 … 4.8 V for more than 60 s (R91). -/
def praLevel (s : State) (p : Phys) : State :=
  if (s.z p).inp.praBroken || !praOut (s.g p F.ZI_PRES_PRA_DC) then s
  else formPresence ((s.onInp p (fun i => { i with praBroken := true })).err p 1 1 0x8907) p

/-- The stuck time of R93 in units of the time base. -/
def State.stuckTime (s : State) (p : Phys) : Int := (600 * s.g p F.ZI_PRES_CFG_STUCK_T : Nat) * (1000000 * usFine)

/-- Whether a presence input has been active without a break for the stuck time (R93). -/
def stuckDue (s : State) (p : Phys) (pra : Bool) : Bool :=
  match (if pra then (s.z p).inp.praSince else (s.z p).inp.prdSince) with
  | some t => decide (s.stuckTime p ≤ (s.base p : Int) - t)
  | none => false

/-- PRESENCE_STUCK: an input active without a break for the stuck time is declared stuck (R93). -/
def stuckPresence (s : State) (p : Phys) (pra : Bool) : State :=
  let i := (s.z p).inp
  let already := if pra then i.praStuck else i.prdStuck
  if stuckDue s p pra && !already then
    let s1 := if pra then (s.onInp p (fun i => { i with praStuck := true })).wb p F.ZI_STAT_STUCK_PRA true
      else (s.onInp p (fun i => { i with prdStuck := true })).wb p F.ZI_STAT_STUCK_PRD true
    formPresence (((s1.bump p F.ZI_PRES_CNT_STUCK_CNT).evt p 1 EVT.ZI_STUCK).err p 1 (bit1 pra) 0x4905) p
  else s

/-- CHATTER of PRD cleared: its accepted state becomes its raw state, a difference counts as a transition (R94, R95). -/
def clearPrdChatter (s : State) (p : Phys) (raw : Bool) : State :=
  if (s.z p).inp.prdChat.on then
    let act := raw != s.gb p F.ZI_PRES_CFG_PRD_POL
    let s1 := (s.onInp p (fun i => { i with prdChat := i.prdChat.cleared, prdPend := false })).wb p
      F.ZI_PRES_PRD_RAW act
    let s2 := (s1.wb p F.ZI_STAT_CHAT_PRD false).evt p 1 EVT.ZI_CHATTER
    let s3 := if act = (s.z p).inp.prdFilt then s2 else passPrd s2 p act
    if act = s.gb p F.ZI_PRES_PRD_ACC then formPresence s3 p else acceptPrd s3 p act
  else s

/-- CHATTER of PRA cleared: PRA active is judged afresh from the motion events that follow (R94). -/
def clearPraChatter (s : State) (p : Phys) : State :=
  if (s.z p).inp.praChat.on then
    let s1 := (s.onInp p (fun i => { i with praChat := i.praChat.cleared, praSince := none })).wb p
      F.ZI_STAT_CHAT_PRA false
    formPresence ((s1.wb p F.ZI_PRES_PRA_ACT false).evt p 1 EVT.ZI_CHATTER) p
  else s

/-- The presence inputs of a zone that another slice or a restart takes up (R100): each running stuck timer moved to the new
time base by `d`, the chatter windows empty, the filters started again. -/
def Inputs.moved (i : Inputs) (d : Int) : Inputs :=
  { i with prdSince := i.prdSince.map (· + d), praSince := i.praSince.map (· + d), prdPend := false,
           praHigh := false, praOver := 0, praShow := 0,
           prdChat := { i.prdChat with rejects := [], trans := [] },
           praChat := { i.praChat with rejects := [], trans := [] },
           t := i.t.map (fun t => { t with badRun := 0, goodRun := 0, off := false, spoiled := true }) }

/-! ### The commands -/

/-- An effect on a slice that runs; a stopped slice takes none (R70, R499). -/
def onRunning (s : State) (p : Phys) (f : State → State) : Host.Outcome State Fault Refusal :=
  go (if (s.sl p).running then f s else s)

/-- HUMIDITY_UPDATE (R88). -/
def execHumidityUpdate (p : Phys) (cap leak : Nat) (s : State) : Host.Outcome State Fault Refusal :=
  onRunning s p (fun s => humidityMeasure s p cap leak)

/-- PRD_RAW_EDGE (R90). -/
def execPrdRawEdge (p : Phys) (level : Bool) (s : State) : Host.Outcome State Fault Refusal :=
  onRunning s p (fun s => prdRaw s p level)

/-- PRD_EDGE_ACCEPTED (R90). -/
def execPrdEdgeAccepted (p : Phys) (s : State) : Host.Outcome State Fault Refusal :=
  onRunning s p (fun s => prdAccept s p)

/-- PRA_SAMPLE (R91). -/
def execPraSample (p : Phys) (dc : Nat) (band : Int) (ms : Nat) (s : State) : Host.Outcome State Fault Refusal :=
  onRunning s p (fun s => praTake s p dc band ms)

/-- PRA_INACTIVE (R91). -/
def execPraInactive (p : Phys) (s : State) : Host.Outcome State Fault Refusal :=
  onRunning s p (fun s => praIdle s p)

/-- PRA_LEVEL_FAULT (R91). -/
def execPraLevelFault (p : Phys) (s : State) : Host.Outcome State Fault Refusal :=
  onRunning s p (fun s => praLevel s p)

/-- PRESENCE_STUCK (R93). -/
def execPresenceStuck (p : Phys) (pra : Bool) (s : State) : Host.Outcome State Fault Refusal :=
  onRunning s p (fun s => stuckPresence s p pra)

/-- DIAG_WINDOW_END (R96). -/
def execDiagWindowEnd (p : Phys) (n : Fin 4) (noise meanR meanT : Rat) (s : State) :
    Host.Outcome State Fault Refusal :=
  onRunning s p (fun s => diagWindow s p n noise meanR meanT)

/-- DIAG_OFF_SEGMENT_END (R96). -/
def execDiagOffSegmentEnd (p : Phys) (n : Fin 4) (noise meanR meanT : Rat) (s : State) :
    Host.Outcome State Fault Refusal :=
  onRunning s p (fun s => diagOff s p n noise meanR meanT)

end Sys2Proof.Machine
end

