-- ==== Sys2Proof/Machine/Mram.lean ====
section
/-! DEFINITION. The durable items of the porch in the two mirrored MRAM banks: writes to bank A and then bank B, copies that fail
their CRC, and the generations of checkpoints and postings (R25, R35, R166, R342, R348, R531). -/
namespace Sys2Proof.Machine

/-- The upkeep state changed. -/
def State.onUp (s : State) (f : Upkeep → Upkeep) : State := { s with upkeep := f s.upkeep }

/-- A bank changed. -/
def State.onBank (s : State) (b : Fin 2) (f : Bank → Bank) : State :=
  s.onUp (fun u => { u with banks := u.banks.set b.val (f u.banks[b]) b.isLt })

/-- A bank. -/
def State.bank (s : State) (b : Fin 2) : Bank := s.upkeep.banks[b]

/-- The other bank. -/
def otherBank (b : Fin 2) : Fin 2 := if b = 0 then 1 else 0

/-- An item written to a bank and read back good (R25). A bank out of service holds nothing until it returns, when every live item is
copied into it (R342). -/
def Bank.write (b : Bank) (d : DurItem) : Bank := { b with bad := b.bad.filter (fun x => x != d) }

/-- An item whose copy in a bank has gone bad. -/
def Bank.spoil (b : Bank) (d : DurItem) : Bank := if b.bad.contains d then b else { b with bad := b.bad ++ [d] }

/-- Whether a bank in service holds a good copy of an item. -/
def Bank.holds (b : Bank) (d : DurItem) : Bool := b.ok && !b.bad.contains d

/-- An item written to bank A and then to bank B (R25). -/
def State.wrote (s : State) (d : DurItem) : State := (s.onBank 0 (fun b => b.write d)).onBank 1 (fun b => b.write d)

/-- Whether an item can be read: either bank alone holds the durable state (R25). -/
def State.readable (s : State) (d : DurItem) : Bool := (s.bank 0).holds d || (s.bank 1).holds d

/-- Whether a bank in service has a bad copy of an item that the other holds (R205, R346). -/
def State.oneBad (s : State) (d : DurItem) : Bool :=
  s.readable d && (((s.bank 0).ok && (s.bank 0).bad.contains d) || ((s.bank 1).ok && (s.bank 1).bad.contains d))

/-- Bad copies noted: of one bank in service, the first of them, or of both. -/
def State.spoil (s : State) (x : BadItem) : State :=
  if x.both then (s.onBank 0 (fun b => b.spoil x.item)).onBank 1 (fun b => b.spoil x.item)
  else s.onBank (if (s.bank 0).ok then 0 else 1) (fun b => b.spoil x.item)

/-- The newer copy of a two-generation item becomes the older one in a bank (R35). -/
def Bank.age (b : Bank) (newer older : DurItem) : Bank :=
  if b.bad.contains newer then (b.write newer).spoil older else b.write older

/-- A two-generation item written (R25, R35): what was the newer copy is kept as the older one, unless neither bank can read it;
then the older one stays. -/
def State.wroteGen (s : State) (newer older : DurItem) : State :=
  if s.readable newer then (s.onBank 0 (fun b => b.age newer older)).onBank 1 (fun b => b.age newer older)
  else s.wrote newer

/-- The last valid checkpoint of a slice (R35): the newer one, or the one before where its CRC fails in both banks. -/
def State.ckptOf (s : State) (p : Phys) : Option Ckpt :=
  if (s.sl p).ckpt.isSome && s.readable (.ckpt p false) then (s.sl p).ckpt
  else if s.readable (.ckpt p true) then (s.sl p).ckptOld else none

/-- The last valid meter posting of a slice (R166). -/
def State.postingOf (s : State) (p : Phys) : Option Posting :=
  if (s.sl p).posting.isSome && s.readable (.posting p false) then (s.sl p).posting
  else if s.readable (.posting p true) then (s.sl p).postingOld else none

/-- The checkpoint of a slice rewritten in place by the porch. -/
def State.onCkpt (s : State) (p : Phys) (f : Ckpt → Ckpt) : State :=
  s.onSl p (fun x => { x with ckpt := x.ckpt.map f, ckptOld := x.ckptOld.map f })

/-- The MRAM write pulse of a band [ns] (R530). -/
def writePulse (band : Nat) : Nat := [70, 50, 45, 45, 50, 70].getD band 45

/-! ### Rows and banks that fail (R342, R531) -/

/-- A bank that failed its scrub taken out of service (R342, R531). -/
def bankOut (s : State) (b : Fin 2) : State :=
  if (s.bank b).ok then
    let s1 := s.onBank b (fun k => { k with ok := false })
    (((s1.errP 0xF b.val 0x8E06).errP 3 b.val 0x8311).evtP 3 EVT.LD_BANK)
  else s

/-- A row remapped to a spare row (R531); with none left the bank fails. -/
def remapRow (s : State) (b : Fin 2) (row : Fin 8192) : State :=
  if (s.bank b).spares = 0 then bankOut s b
  else
    let s1 := s.onBank b (fun k => { k with
      spares := k.spares - 1, remapped := if k.remapped.contains row.val then k.remapped else k.remapped ++ [row.val],
      corr := smErase k.corr row.val })
    let s2 := (s1.pw F.PCH_MR_BANK_b_SPARES (s1.bank b).spares b.val).pbump F.PCH_MR_CNT_REMAPPED
    (s2.evtP 0xF EVT.MR_REMAP).errP 0xF (b.val * 2 ^ 15 + row.val) 0x4E05

/-! ### The collector's log (R513, R514) -/

/-- A list kept to its last `n` items. -/
def keepLast {α : Type} (n : Nat) (l : List α) : List α := l.drop (l.length - n)

/-- The log with entries appended: beyond 4,096 the oldest go. -/
def appendLog (l add : List LogEntry) : List LogEntry := keepLast Config.collectorSize (l ++ add)

/-- COLLECTOR_FLUSH (R514): the buffer is written; entries lost to a full one are then logged as one burst. -/
def flushCollector (s : State) : State :=
  let c := s.coll
  let lostN := c.log.length + c.buf.length - Config.collectorSize
  let s1 := ({ s with coll := { c with log := appendLog c.log c.buf, buf := [], lost := 0 } }).pbump
    F.PCH_EC_CNT_OVERWRITTEN lostN
  if c.lost = 0 then s1 else (s1.pbump F.PCH_EC_CNT_BURST).errP 1 (satTo 16 c.lost) 0x4E09

end Sys2Proof.Machine
end

