-- ==== Sys2Proof/Machine/Journal.lean ====
section
/-! DEFINITION. The work journal: larder entries, markers, results, release, inboxes and checkpoints (chapter 10). -/
namespace Sys2Proof.Machine

/-- RESULT of a command completed in every zone or by the porch (R326). -/
def resDone : Nat := 0x01
/-- RESULT of a command completed with a fault (R326). -/
def resFault : Nat := 0x30

/-! ### Entries (R337, R338) -/

/-- The journal changed. -/
def State.onJ (s : State) (f : Journal → Journal) : State := { s with journal := f s.journal }

/-- Whether a take-over of a porch engine's role runs (R24). -/
def Journal.takeover (j : Journal) : Bool := decide (0 < j.takeLeft)

/-- The larder entries held (R341). -/
def State.fill (s : State) : Nat := s.journal.larder.length

/-- The accepted command with a head LSEQ that has no final result yet. -/
def State.runningOf (s : State) (lseq : Nat) : Option Running := s.journal.running.find? (fun r => r.x.lseq == lseq)

/-- One entry appended to the larder with the next LSEQ (R337), in bank A and then bank B (R330). -/
def addEntry (s : State) (i : LdItem) : State :=
  (s.onJ (fun j => { j with larder := smPut j.larder j.next i, next := (j.next + 1) % 2 ^ 32 })).wrote (.larder s.journal.next)

/-- The markers of a head in the larder: (zone, porch, result, reason, value). -/
def markersOf (s : State) (lseq : Nat) : List (Nat × Bool × Nat × Nat × Word) :=
  s.journal.larder.filterMap (fun c =>
    match c.2.kind with
    | .mark _ _ h z po _ r re v => if h = lseq then some (z, po, r, re, v) else none
    | _ => none)

/-- Whether a zone's marker for a head stands in the larder. -/
def marked (s : State) (lseq z : Nat) : Bool := (markersOf s lseq).any (fun m => m.1 == z && !m.2.1)

/-- The NCONT of a payload length (R337). -/
def contCount (l : Nat) : Nat := if l ≤ 32 then 0 else (l - 32 + 51) / 52

/-! ### Release (R340, R341) -/

/-- Whether a zone's part of a head is covered (R340): its marker stands, or its slice's checkpoint records TAKEN at or
above the head. -/
def zoneCovered (s : State) (lseq : Nat) (z : Zone) : Bool :=
  marked s lseq z.val
    || (match s.ckptOf (s.sliceOf z) with
        | some c => decide (lseq ≤ c.zone.taken)
        | none => false)

/-- Whether a larder entry may be released (R340). -/
def releasable (s : State) (lseq : Nat) (i : LdItem) : Bool :=
  match i.kind with
  | .head _ _ _ _ _ zm _ _ =>
    if zm = 0 then !(markersOf s lseq).isEmpty
    else (List.finRange 64).all (fun z => !zm.getLsbD z.val || zoneCovered s lseq z)
  | .cont _ _ => true
  | .mark _ _ h _ _ _ _ _ _ => (s.runningOf h).isNone

/-- The larder without the entries that may be released, strictly in LSEQ order from the oldest (R340). -/
def releaseItems (s : State) : SMap LdItem → SMap LdItem
  | [] => []
  | (k, i) :: m => if releasable s k i then releaseItems s m else (k, i) :: m

/-- The slices whose TAKEN holds back the release asked to checkpoint at once (R341). -/
def askCheckpoints (s : State) : State :=
  match s.journal.larder.head? with
  | some (k, i) =>
    match i.kind with
    | .head _ _ _ _ _ zm _ _ =>
      (List.finRange 64).foldl (fun (s : State) (z : Zone) =>
        if zm.getLsbD z.val && !zoneCovered s k z then
          s.onSl (s.sliceOf z) (fun x => { x with ckptDue := true })
        else s) s
    | _ => s
  | none => s

/-- The fill rules of R341: early checkpoints while half full, WARN at 90 %, cleared at 85 %. -/
def fillRules (s : State) : State :=
  let n := s.fill
  let j := s.journal
  let ck := decide (4096 ≤ n)
  let s1 := if ck then
      let s0 := askCheckpoints s
      if j.ckreq then s0
      else ((s0.onJ (fun j => { j with ckreq := true })).pbump F.PCH_LD_CNT_CKREQ).evtP 0x3 EVT.LD_CKREQ
    else if j.ckreq then (s.onJ (fun j => { j with ckreq := false })).evtP 0x3 EVT.LD_CKREQ
    else s
  if !j.warn && decide (7373 ≤ n) then
    ((s1.onJ (fun j => { j with warn := true })).evtP 0x3 EVT.LD_WARN).errP 0x3 0 0x4310
  else if j.warn && decide (n ≤ 6963) then (s1.onJ (fun j => { j with warn := false })).evtP 0x3 EVT.LD_WARN
  else s1

/-- Release and the fill rules. -/
def releaseLarder (s : State) : State :=
  fillRules (s.onJ (fun j => { j with larder := releaseItems s j.larder }))

/-! ### Markers (R338) -/

/-- Whether the marker of `z` completes a command: every other named zone has its marker. -/
def completes (s : State) (x : Exec) (z : Nat) : Bool :=
  x.zones.all (fun y => y.val == z || marked s x.lseq y.val)

/-- An internal command (R520) that has its FINAL marker runs no longer; it has no guestbook entry. -/
def endInternal (s : State) (r : Running) (final : Bool) : State :=
  if r.internal && final then
    releaseLarder (s.onJ (fun j => { j with running := j.running.filter (fun y => y.x.lseq != r.x.lseq) }))
  else s

/-- A marker written for a zone (R338): FINAL when it completes the command; a second marker of a zone is not
written. -/
def markZone (s : State) (lseq : Nat) (z : Zone) (result reason : Nat) (value : Word) : State :=
  match s.runningOf lseq with
  | none => s
  | some r =>
    if marked s lseq z.val then s
    else
      let final := completes s r.x z.val
      let s1 := fillRules (addEntry s {
        source := r.x.source,
        kind := .mark r.x.seq r.x.opcode lseq z.val false final result reason value })
      endInternal s1 r final

/-- The marker of a command that names no zone (R338). -/
def markPorch (s : State) (lseq : Nat) (result reason : Nat) (value : Word) : State :=
  match s.runningOf lseq with
  | none => s
  | some r =>
    if (markersOf s lseq).isEmpty then
      let s1 := fillRules (addEntry s {
        source := r.x.source,
        kind := .mark r.x.seq r.x.opcode lseq 0 true true result reason value })
      endInternal s1 r true
    else s

/-- The porch queue changed, with the pages whose BUSY changes (R59, R65, R343). -/
def State.onQueue (s : State) (f : List Exec → List Exec) : State :=
  notePorchBusy s (s.onJ (fun j => { j with porchQ := f j.porchQ }))

/-- The no-operation commands at the head of the porch queue executed (R343, R382): VALUE the head's LSEQ. -/
def drainNops (s : State) : State :=
  let nop := fun (y : Exec) => y.opcode == 0x7F00
  (s.journal.porchQ.takeWhile nop).foldl (fun (s : State) y => markPorch s y.lseq resDone 0 (BitVec.ofNat 32 y.lseq))
    (s.onQueue (fun l => l.dropWhile nop))

/-- The porch queue without a command. -/
def dequeue (s : State) (lseq : Nat) : State := s.onQueue (fun l => l.filter (fun y => y.lseq != lseq))

/-- A command taken out of the porch queue: it is being executed and completes later. -/
def unqueue (s : State) (lseq : Nat) : State := drainNops (dequeue s lseq)

/-- A porch command executed: its marker is written and it leaves the porch queue. -/
def porchDone (s : State) (x : Exec) (result reason : Nat) (value : Word) : State :=
  drainNops (markPorch (dequeue s x.lseq) x.lseq result reason value)

/-- Whether a command is the next one the porch executes (R343, R364). -/
def State.porchNext (s : State) (x : Exec) : Bool := s.journal.porchQ.head? == some x

/-! ### Final results (R329, R338) -/

/-- Whether the FINAL marker of a head stands in the larder. -/
def hasFinal (s : State) (lseq : Nat) : Bool :=
  s.journal.larder.any (fun c => match c.2.kind with
    | .mark _ _ h _ _ f _ _ _ => h == lseq && f
    | _ => false)

/-- RESULT, REASON, VALUE and FMASK of a command from its markers (R329): those of the lowest faulted zone, else of the
lowest zone. -/
def finalOf (l : List (Nat × Bool × Nat × Nat × Word)) : Nat × Nat × Word × Nat :=
  let low := fun (m : List (Nat × Bool × Nat × Nat × Word)) =>
    m.foldl (fun (b : Option (Nat × Bool × Nat × Nat × Word)) c =>
      match b with
      | some d => if c.1 < d.1 then some c else some d
      | none => some c) none
  let bad := l.filter (fun m => m.2.2.1 == resFault)
  let mask := bad.foldl (fun n m => if m.2.1 then n else n ||| 2 ^ m.1) 0
  match low bad, low l with
  | some b, _ => (resFault, b.2.2.2.1, b.2.2.2.2, mask)
  | none, some g => (resDone, g.2.2.2.1, g.2.2.2.2, mask)
  | none, none => (resDone, 0, 0, 0)

/-- GB_RETAIN in µs (R336). -/
def State.retainUs (s : State) : Nat := s.pg F.PCH_DSP_CFG_GB_RETAIN * 1000000

/-- The final result written into the guestbook entry of a command whose FINAL marker is durable (R336, R338); the
command runs no longer and its entries may be released (R340). -/
def storeFinal (s : State) (lseq : Nat) : State :=
  if hasFinal s lseq && (s.runningOf lseq).isSome then
    let f := finalOf (markersOf s lseq)
    releaseLarder ((s.wrote (.guest lseq)).onJ (fun j => { j with
      running := j.running.filter (fun r => r.x.lseq != lseq)
      book := j.book.map (fun e => if e.lseq = lseq then
        { e with result := f.1, reason := f.2.1, value := f.2.2.1, fmask := f.2.2.2, final := true,
                 evictAt := s.now + s.retainUs } else e) }))
  else s

/-! ### Answers (R325) -/

/-- The bytes of an answer (R325). -/
def answerBytes (source : BitVec 16) (seq : BitVec 32) (result orig reason : Nat) (value : Word) (fmask : Nat) :
    List Byte :=
  let b := leBytes 2 source.toNat ++ leBytes 4 seq.toNat ++ leBytes 1 result ++ leBytes 1 orig ++ leBytes 2 reason
    ++ leBytes 4 value.toNat ++ leBytes 8 fmask
  b ++ leBytes 4 (crc32 b).toNat

/-! ### Inboxes (R344) -/

/-- The zones of a handing placed in their inboxes, ascending, while a slice serves the zone, is in no migration window
and has room, and no earlier command still waits for it (R344). -/
def placeZones (s : State) (h : Handing) (blocked : BitVec 64) : State × BitVec 64 :=
  (List.finRange 64).foldl (fun (c : State × BitVec 64) (z : Zone) =>
    let p := c.1.sliceOf z
    let y := c.1.sl p
    if c.2.getLsbD z.val && !blocked.getLsbD z.val && y.running && !c.1.movingZone z
        && decide (y.inbox.length < Config.inboxSize) then
      (c.1.onSl p (fun y => { y with inbox := y.inbox ++ [h.x] }), c.2 &&& ~~~ (BitVec.ofNat 64 (2 ^ z.val)))
    else c) (s, h.left)

/-- Every waiting command placed in the inboxes, in acceptance order. -/
def deliverList (s : State) (blocked : BitVec 64) : List Handing → State × List Handing
  | [] => (s, [])
  | h :: l =>
    let r := placeZones s h blocked
    let rest := deliverList r.1 (blocked ||| r.2) l
    (rest.1, if r.2 = 0 then rest.2 else { h with left := r.2 } :: rest.2)

/-- The commands the porch holds for the slices delivered as far as there is room (R344). -/
def deliver (s : State) : State :=
  let r := deliverList s 0 s.journal.handover
  r.1.onJ (fun j => { j with handover := r.2 })

/-- INBOX_HANDOVER (R344): the command and those before it are placed. -/
def handUpTo (s : State) (lseq : Nat) : State :=
  let now := s.journal.handover.filter (fun h => decide (h.x.lseq ≤ lseq))
  let later := s.journal.handover.filter (fun h => decide (lseq < h.x.lseq))
  let r := deliverList s 0 now
  r.1.onJ (fun j => { j with handover := r.2 ++ later })

/-! ### The commands -/

/-- INBOX_HANDOVER (R344). -/
def execInboxHandover (lseq : Nat) (s : State) : Host.Outcome State Fault Refusal := go (handUpTo s lseq)

end Sys2Proof.Machine
end

