-- ==== Sys2Proof/Machine/Supply.lean ====
section
/-! DEFINITION. Body bias, SRAM supply and assists by power state, clock and band, the order in which they and the clock change,
and the values that clamped signals take (R30, R497 to R500). -/
namespace Sys2Proof.Machine

/-! ### Bias and memory assist (R497) -/

/-- The slice logic body bias [mV] at a clock in RUN and DOZE. -/
def runBias (mhz : Nat) : Int := if mhz ≤ 125 then 0 else if mhz ≤ 200 then 100 else 200

/-- The SRAM assists of a band in RUN and DOZE. -/
def assistOf (band : Nat) : Assist := if band ≤ 1 then .negBitLine else if 4 ≤ band then .underdrive else .none

/-- The SRAM retention supply of a band [mV]. -/
def retention (band : Nat) : Nat := if 4 ≤ band then 600 else 550

/-- The settings of a slice by its power, clock [MHz] and band. -/
def sliceSupplies (pw : SlicePower) (mhz band : Nat) : Supplies :=
  match pw with
  | .on => { bias := some (runBias mhz), sram := 800, assist := assistOf band }
  | .retained => { bias := some (-400), sram := retention band, assist := .off }
  | .off => {}

/-- The settings of the porch by the module's power state and band. -/
def porchSupplies (state band : Nat) : Supplies :=
  if state ≤ 1 then { bias := some 0, sram := 800, assist := assistOf band }
  else if state = 2 then { bias := some (-400), sram := retention band, assist := .off }
  else {}

/-- The bias of the clock-stopped standby engine of the porch: it runs in RUN. -/
def standbyBias (state : Nat) : Option Int :=
  if state = 0 then some 0 else if state = 1 then some (-200) else if state = 2 then some (-400) else none

/-! ### The order of a change (R498) -/

/-- The steps of a change: to speed up, supply and bias before the clock; to slow down, the clock before them. -/
def supplySteps (old new : Supplies) (f0 f1 : Nat) : List SupplyStep :=
  let v := (if old.sram = new.sram then [] else [SupplyStep.sram new.sram])
    ++ (if old.bias = new.bias then [] else [SupplyStep.bias new.bias])
  let c := if f0 = f1 then [] else [SupplyStep.clock f1]
  if f0 < f1 then v ++ c else c ++ v

/-- One step made by a slice. Between two commands every handshake across its edges is idle, so each may be made (R498). -/
def supplyStep (x : Slice) : SupplyStep → Slice
  | .bias v => { x with sup := { x.sup with bias := v } }
  | .sram v => { x with sup := { x.sup with sram := v } }
  | .clock f => { x with sclkMhz := f }

/-- A slice brought to a power and a clock in a band (R497, R498). -/
def changeSupply (x : Slice) (pw : SlicePower) (mhz band : Nat) : Slice :=
  let n := sliceSupplies pw mhz band
  let l := supplySteps x.sup n x.sclkMhz mhz
  let y := l.foldl supplyStep x
  { y with power := pw, sup := { y.sup with assist := n.assist }, steps := l }

/-! ### Clamps (R30, R499) -/

/-- The classes of signals that cross a domain's edge (R499). -/
inductive SignalClass where
  | handshake | data | reset | enable | pad | hallway | wake
  deriving DecidableEq, Repr

/-- What a clamped signal reads in the powered domain (R499). -/
inductive ClampValue where
  | idle | zero | asserted | off | latchedAtPad | latchedAtSwitch | passed
  deriving DecidableEq, Repr

/-- The clamped value of each class (R499). -/
def clampValue : SignalClass → ClampValue
  | .handshake => .idle
  | .data => .zero
  | .reset => .asserted
  | .enable => .off
  | .pad => .latchedAtPad
  | .hallway => .latchedAtSwitch
  | .wake => .passed

/-- Whether a block's edges are clamped: of a slice by the slice's own clamp, of the others by the landing. -/
def State.clampedBlock (s : State) : Block → Bool
  | .slice p => (s.sl p).clamped
  | b => s.landing.clamped.contains b

/-- What a signal that leaves a block takes at the edge; none while it crosses as it is driven. -/
def State.edge (s : State) (b : Block) (c : SignalClass) : Option ClampValue :=
  if s.clampedBlock b then some (clampValue c) else none

/-- Blocks clamped by the landing (R30). -/
def State.clampBlocks (s : State) (l : List Block) : State :=
  { s with landing := { s.landing with clamped := s.landing.clamped ++ l.filter (fun b => !s.landing.clamped.contains b) } }

/-- Blocks unclamped (R30). -/
def State.unclampBlocks (s : State) (l : List Block) : State :=
  { s with landing := { s.landing with clamped := s.landing.clamped.filter (fun b => !l.contains b) } }

end Sys2Proof.Machine
end

