-- ==== Sys2Proof/Machine/Life.lean ====
section
/-! DEFINITION. Output drivers as the sill holds them (R301, R302, R500), the states of a slice (R518) and slice failure
(R515). -/
namespace Sys2Proof.Machine

/-! ### Output drivers and their registers (R316, R317) -/

/-- The state of output `j` of slice `p`. -/
def State.out (s : State) (p : Phys) (j : Out) : OutSt := (s.z p).outs.o[j]

/-- The outputs of slice `p` changed. -/
def State.onOuts (s : State) (p : Phys) (f : Outs → Outs) : State := s.onZ p (fun z => { z with outs := f z.outs })

/-- Whether a DO reads over-current: switched off by its limit or latched off (R294). -/
def OutSt.ovc (o : OutSt) : Bool := o.ovcOff || o.latched

/-- ZO_OUT_j of an output (R317). -/
def OutSt.word (o : OutSt) : Word :=
  BitVec.ofNat 32 (bit1 o.held * 2 ^ 31 + bit1 o.gov * 2 ^ 30 + bit1 o.ilim * 2 ^ 29 + bit1 o.ovc * 2 ^ 28
    + bit1 o.open_ * 2 ^ 27 + bit1 o.rbk * 2 ^ 26 + bit1 o.safe * 2 ^ 25
    + (clampInt 0 65535 (Config.toUnits o.applied)).toNat)

/-- HELD or MATCH of all outputs as a five-bit field. -/
def outBits (v : Vector OutSt 5) (f : OutSt → Bool) : Nat :=
  (List.finRange 5).foldl (fun n (j : Fin 5) => n + bit1 (f v[j]) * 2 ^ j.val) 0

/-- ZO_HOLD and HOSTWAIT brought into line with the outputs (R303, R317). -/
def syncHold (s : State) (p : Phys) : State :=
  let v := (s.z p).outs.o
  let s1 := (s.w p F.ZO_HOLD_HELD (outBits v (fun o => o.held))).w p F.ZO_HOLD_MATCH (outBits v (fun o => o.match_))
  s1.wb p F.ZO_STAT_HOSTWAIT (s.gb p F.ZO_GCFG_HOSTREL && v.any (fun o => o.held && o.match_))

/-- Whether slice `p` has held outputs (PWR_HELD, R509). -/
def heldAny (s : State) (p : Phys) : Bool := (s.z p).outs.o.any (fun o => o.held)

/-- Output `j` changed, its registers with it, and the events of R318 and R512. -/
def State.onOut (s : State) (p : Phys) (j : Out) (f : OutSt → OutSt) : State :=
  let o := s.out p j
  let o' := f o
  let s1 := s.onOuts p (fun x => { x with o := x.o.set j.val o' j.isLt })
  let s2 := syncHold (s1.wWord p R.ZO_OUT_j o'.word j) p
  let s3 := s2.evtIf (o.held != o'.held || o.match_ != o'.match_) p 0xA EVT.ZO_HOLD
  let s4 := s3.evtIf (o.gov != o'.gov) p 0xA EVT.ZO_GOV
  let s5 := s4.evtIf (o.ilim != o'.ilim) p 0xA EVT.ZO_ILIM
  let s6 := if heldAny s p = heldAny s1 p then s5 else s5.evtP 9 EVT.PWR_HOLD
  s6.evtIf (o.ovc != o'.ovc || o.open_ != o'.open_ || o.rbk != o'.rbk) p 0xA EVT.ZO_FAULT

/-- A relay pulse ended (R371): its zone's marker is written; MIN_T counts from here. -/
def endPulse (s : State) (p : Phys) (j : Out) (result reason : Nat) : State :=
  match (s.out p j).pulse with
  | some u =>
    let s0 := (s.onOut p j (fun o => { o with pulse := none })).onZ p (fun z => { z with
      loop := { z.loop with minT := z.loop.minT.set j.val 0 j.isLt } })
    let s1 := noteBusy s p s0
    match s.zoneOf p with
    | some z => markZone s1 u.lseq z result reason 0
    | none => s1
  | none => s

/-- Every output held at the sill with its present value latched (R301, R500); a pulse on it ends with FAULT
0x0001 (R384). -/
def holdOutputs (s : State) (p : Phys) : State :=
  (List.finRange 5).foldl (fun (s : State) (j : Fin 5) =>
    (endPulse s p j resFault 1).onOut p j (fun o => if o.held then { o with match_ := false }
      else { o with held := true, match_ := false, heldVal := o.applied })) s

/-- The held values taken up as pinned requests by a slice that starts (R302). -/
def takeHeld (s : State) (p : Phys) : State :=
  (List.finRange 5).foldl (fun (s : State) (j : Fin 5) =>
    s.onOut p j (fun o => if o.held then { o with match_ := true, req := o.heldVal, applied := o.heldVal } else o)) s

/-! ### Slices (R500, R515, R518) -/

/-- The code of a slice state (R518). -/
def SliceState.code : SliceState → Nat
  | .serving => 0 | .spare => 1 | .testing => 2 | .moving => 3 | .failed => 4 | .retired => 5 | .factoryOut => 6

/-- A slice brought to a state with its cause (R518), with the events of R542. -/
def setLife (s : State) (p : Phys) (st : SliceState) (cause : Nat) : State :=
  let x := s.sl p
  let s1 := s.setSl p { x with life := st, cause := cause }
  if x.life = st then s1
  else (s1.evtP 0x10 EVT.RM_STATE).evt p 0 EVT.ZWS_STATE

/-- A slice stops (R500): its outputs latched at the pads, then its edges clamped, then its clock stopped, and its power brought to
what the state requires; one that is only prepared loses its power. -/
def stopSliceTo (s : State) (p : Phys) (pw : SlicePower) : State :=
  if (s.sl p).running then
    ((holdOutputs s p).onSl p (fun x =>
      changeSupply { x with clamped := true, running := false } pw 0 s.thermal.band)).notePwrs (slicePages p)
  else if (s.sl p).power = .on then (s.onSl p (fun x => changeSupply x .off 0 s.thermal.band)).notePwrs (slicePages p)
  else s

/-- A slice stops and its power is dropped (R500). -/
def stopSlice (s : State) (p : Phys) : State := stopSliceTo s p .off

/-- A slice declared FAILED (R515): it stops, its state and cause are set and the error is raised with CTX the slice. -/
def failSlice (s : State) (p : Phys) (code cause : Nat) : State :=
  let s1 := (setLife (stopSlice s p) p .failed cause)
  if code = 0 then s1 else s1.err p 0 p.val code

end Sys2Proof.Machine
end

