-- ==== Sys2Proof/Machine/Converters.lean ====
section
/-! DEFINITION. The converter engine: sequences, triggers, arbitration, urgent conversions, dither, trims and results
(chapter 04). Every conversion has its start of acquisition, hold edge and end in the slice's time base from the moment its
converter is given to it; CONVERSION_COMPLETE ends it (notes/assumptions/20). -/
namespace Sys2Proof.Machine

/-! ### Access -/

/-- The converters of slice `p`. -/
def State.cv (s : State) (p : Phys) : Conv := (s.z p).conv

/-- The converters of slice `p` changed. -/
def State.onCv (s : State) (p : Phys) (f : Conv → Conv) : State := s.onZ p (fun z => { z with conv := f z.conv })

/-- Sequence `q` changed. -/
def State.onSeq (s : State) (p : Phys) (q : Fin 4) (f : SeqSt → SeqSt) : State :=
  s.onCv p (fun c => { c with seqs := c.seqs.set q.val (f c.seqs[q]) q.isLt })

/-- Sequence `q` of slice `p`. -/
def State.seq (s : State) (p : Phys) (q : Fin 4) : SeqSt := (s.cv p).seqs[q]

/-! ### Configuration words (R116, R125, R152) -/

/-- The mode of an entry (R116): 5 … 7 are taken as A. -/
def entMode (w : Word) : Nat := let m := fieldOf w 31 29; if 4 < m then 0 else m

/-- The exponent of an entry's average (R125): 9 … 15 are taken as 8. -/
def entDec (w : Word) : Nat := min (fieldOf w 16 13) 8

/-- Whether an entry occupies both converters (R116). -/
def entBoth (w : Word) : Bool := decide (2 ≤ entMode w)

/-- The channel codes of an entry; a reserved code converts as 0x20 (R115). -/
def chanCode (c : Nat) : Nat := if c ≤ 0x11 ∨ (0x20 ≤ c ∧ c ≤ 0x23) then c else 0x20

/-- An entry as it converts: reserved channel codes are 0x20 (R115). -/
def cleanEntry (w : Word) : Word :=
  putField (putField w 28 23 (chanCode (fieldOf w 28 23))) 22 17 (chanCode (fieldOf w 22 17))

/-- CHA of an entry. -/
def entA (w : Word) : Nat := chanCode (fieldOf w 28 23)

/-- CHB of an entry; an ILV entry converts CHA on both. -/
def entB (w : Word) : Nat := if entMode w = 4 then entA w else chanCode (fieldOf w 22 17)

/-- Whether SQ3's range is invalid (R121). -/
def badRange (s : State) (p : Phys) (q : Fin 4) : Bool :=
  let f := s.g p F.ZC_SEQ_q_FIRST q
  let l := s.g p F.ZC_SEQ_q_LAST q
  q == 3 && (decide (f < 24) || decide (l < 24) || decide (l < f))

/-- The trigger code of a source (R122). -/
def trigCode : TrigSource → Nat
  | .timer => 1 | .zeroCross => 2 | .chain _ => 3 | .firmware => 4 | .host => 5 | .fl1 => 6 | .fl2 => 7 | .tch => 8
  | .capture => 9

/-- Whether a source may trigger sequence `q` (R122). -/
def trigAllowed (x : TrigSource) (q : Fin 4) : Bool :=
  match x with
  | .firmware => q != 3
  | .host => q == 3
  | .capture => q == 0
  | _ => true

/-- Whether a source is the one that sequence `q` takes its trigger from. -/
def takesTrigger (s : State) (p : Phys) (q : Fin 4) (x : TrigSource) : Bool :=
  s.gb p F.ZC_SEQ_q_EN q && s.g p F.ZC_SEQ_q_TRIG q == trigCode x && trigAllowed x q
    && (match x with
        | .chain c => s.g p F.ZC_SEQ_q_CHAIN q == c.val
        | .zeroCross => s.gb p F.ZE_STAT_LOCK
        | _ => true)

/-! ### The sample timer (R118, R119, R143) -/

/-- One unit of PERIOD, PHASE and TS, 1/64 µs, in units of the time base. -/
def tsUnit : Nat := 1562500

/-- PERIOD as the timer takes it: at least 64 (R122). -/
def State.seqPeriod (s : State) (p : Phys) (q : Fin 4) : Nat := max 64 (s.g p F.ZC_SEQ_PER_q_PERIOD q)

/-- `n` cycles of a slice clock of `f` MHz (R118), in units of the time base. -/
def cycles (f n : Nat) : Nat := (n * 100000000 + max f 1 - 1) / max f 1

/-- The acquisition stretch of the draught registers [cycles] (R118, R148). -/
def State.stretch (s : State) (p : Phys) : Nat :=
  let h := s.hdr (slicePage p 2)
  if h.draughtOn then fieldOf h.draught 15 8 else 0

/-- ACQMIN: ⌈0.2 µs · f_S⌉ cycles (R118, R148). -/
def acqBase (f : Nat) : Nat := (2 * f + 9) / 10

/-- ACQ_MIN of a conversion with an ACQ field (R118). -/
def State.acqMin (s : State) (p : Phys) (acq : Nat) : Nat := acqBase (s.sl p).sclkMhz + acq + s.stretch p

/-- The instant at which the engine works: the time base, or the end of the conversion that has just ended. -/
def State.cvNow (s : State) (p : Phys) : Nat := max (s.base p) (s.cv p).clock

/-- The earliest hold edge that spacing allows on a converter after its latest one: 1 µs or (ACQ_MIN + 40) / f_S (R119). -/
def spacedFrom (f acq : Nat) (last : Option Nat) : Nat :=
  match last with
  | some h => h + max 100000000 (cycles f (acq + 40))
  | none => 0

/-- The hold edge of an acquisition that begins at `t0` (R118, R119): a scheduled instant where acquisition and spacing allow
it, else the earliest cycle that they allow. -/
def holdEdge (f t0 acq bound : Nat) (sched : Option Nat) : Nat :=
  let n := if bound ≤ t0 then acq else max acq (((bound - t0) * max f 1 + 99999999) / 100000000)
  let h := t0 + cycles f n
  match sched with
  | some e => if max (t0 + cycles f acq) bound ≤ e then e else h
  | none => h

/-! ### Registers brought into line (R148, R152) -/

/-- The owner code of ZC_STAT (R148). -/
def Owner.code : Owner → Nat
  | .seq q _ => q.val | .urgent => 8 | .none => 0xF

/-- The phase code of a converter at an instant (R118, R132, R148): idle, reset before an urgent acquisition, ACQ, CONV, XFER
until its conversion completes. -/
def Adc.phase (x : Adc) (f t : Nat) : Nat :=
  match x.own with
  | .none => 0
  | _ => if t < x.start then 4 else if t < x.hold then 1 else if t < x.hold + cycles f 36 then 2 else 3

/-- A flag of the four sequences as a four-bit field. -/
def seqBits (v : Vector SeqSt 4) (f : SeqSt → Bool) : Nat :=
  (List.finRange 4).foldl (fun n (q : Fin 4) => n + bit1 (f v[q]) * 2 ^ q.val) 0

/-- The next entry to start (R152): the first entry of the pass not yet begun; FIRST while none waits, which R152 leaves open
(notes/assumptions/144). -/
def nextEntry (first : Nat) (x : SeqSt) : Nat :=
  match x.live.find? (fun e => !e.begun) with
  | some e => e.k
  | none => first

/-- ZC_STAT and ZC_SEQ_STAT_q brought into line with the engine; the phases are read from the clock (R148). -/
def syncConv (s : State) (p : Phys) : State :=
  let c := s.cv p
  let urg := if c.urg.isSome then (if c.urgPend.isSome then 2 else 1) else 0
  let s1 := s.onR p (fun r =>
    ((((r.putNat F.ZC_STAT_ACT (seqBits c.seqs (fun x => x.act))).putNat F.ZC_STAT_PEND
      (seqBits c.seqs (fun x => x.pend))).putNat F.ZC_STAT_URG urg).putNat F.ZC_STAT_OWN_A c.a.own.code).putNat
      F.ZC_STAT_OWN_B c.b.own.code)
  (List.finRange 4).foldl (fun (s : State) (q : Fin 4) =>
    let x := c.seqs[q]
    s.onR p (fun r => (((((r.putNat F.ZC_SEQ_STAT_q_RUNS x.runs q).putNat F.ZC_SEQ_STAT_q_NEXT
      (nextEntry (r.nat F.ZC_SEQ_q_FIRST q) x) q).putBit F.ZC_SEQ_STAT_q_BADCFG (badRange s p q) q).putBit
      F.ZC_SEQ_STAT_q_LATE x.late q).putBit F.ZC_SEQ_STAT_q_PEND x.pend q).putBit F.ZC_SEQ_STAT_q_ACT x.act q)) s1

/-! ### Passes (R117, R123, R124) -/

/-- An entry as it converts (R115, R117): an ILV entry that breaks the rule converts as SIM with CHB equal to CHA. -/
def effectiveEntry (s : State) (p : Phys) (q : Fin 4) (sole : Bool) (w : Word) : Word :=
  let per := s.g p F.ZC_SEQ_PER_q_PERIOD q
  cleanEntry (if entMode w = 4 ∧ ¬ (sole ∧ s.g p F.ZC_SEQ_q_TRIG q = 1 ∧ per % 2 = 0 ∧ 64 ≤ per) then
    putField (putField w 31 29 2) 22 17 (fieldOf w 28 23)
  else w)

/-- The entries of a pass as they are latched when it starts (R124). -/
def passEntries (s : State) (p : Phys) (q : Fin 4) : List EntRun :=
  let f := s.g p F.ZC_SEQ_q_FIRST q
  let l := s.g p F.ZC_SEQ_q_LAST q
  (List.range (l + 1 - f)).map (fun i =>
    { k := f + i, cfg := effectiveEntry s p q (f == l) ((s.z p).regs.word R.ZC_ENT_CFG_k (f + i)) })

/-- Background calibration started again (R136): at a reset, a band change, or the zone coming to the slice. -/
def restartCal (s : State) (p : Phys) : State :=
  let s1 := (s.onCv p (fun c => { c with conv := false })).onSl p (fun x => { x with
    trims := x.trims.map (fun t => { t with ofsOk := 0, gainOk := 0, skewOk := 0 }) })
  s1.wbEvt p F.ZC_CAL_STAT_CONV false 2 EVT.ZC_CAL

/-- The trims of a band of slice `p` (R138). -/
def State.trimsOf (s : State) (p : Phys) (band : Nat) : Trims := (s.sl p).trims.toList.getD band {}

/-- The trims of the band in use. -/
def State.trim (s : State) (p : Phys) : Trims := s.trimsOf p (s.cv p).band

/-- Whether the skew trim stands at an end of its range (R137). -/
def Trims.skewLim (t : Trims) : Bool := t.skew == -256 || t.skew == 255

/-- The trim registers show the set of the band in use (R151), its limits with it: they show the set as it stands, so a later
update or another band's set clears them, which R137 leaves open (notes/assumptions/145). -/
def syncTrims (s : State) (p : Phys) : State :=
  let c := s.cv p
  let t := s.trim p
  let s1 := ((((s.w p F.ZC_CAL_STAT_BAND c.band).wi p F.ZC_CAL_OFS_OFS t.ofs).wi p F.ZC_CAL_GAIN_GAIN t.gain).wi p
    F.ZC_CAL_SKEW_SKEW t.skew)
  (s1.wbEvt p F.ZC_CAL_STAT_GAIN_LIM t.gainLim 2 EVT.ZC_CAL).wbEvt p F.ZC_CAL_STAT_SKEW_LIM t.skewLim 2 EVT.ZC_CAL

/-- A band that waits taken into use at the start of a pass (R102, R138); diagnostic windows under way are discarded (R96). -/
def takeBand (s : State) (p : Phys) : State :=
  let c := s.cv p
  if c.bandNext = c.band then s
  else
    let s1 := spoilWindows (s.onCv p (fun c => { c with band := c.bandNext })) p
    syncTrims (restartCal ((s1.w p F.ZI_STAT_BAND c.bandNext).evt p 1 EVT.ZI_BAND) p) p

/-- A pass of sequence `q` starts, with the scheduled instant of its first hold edge where it has one (R102, R123, R124). -/
def startPass (s : State) (p : Phys) (q : Fin 4) (edge : Option Nat) : State :=
  let s1 := takeBand s p
  let l := passEntries s1 p q
  s1.onSeq p q (fun x => { x with
    act := true, live := l, made := false, timedOut := false, band := (s1.cv p).band, edge := edge,
    period := s1.seqPeriod p q })

/-! ### Arbitration (R127) -/

/-- Whether a converter is free. -/
def Adc.isFree (x : Adc) : Bool := x.own == .none

/-- What arbitration reads besides the engine: the instant, the slice clock, ACQ_MIN by ACQ field, the skew trim by band
[units of the time base], the instants that higher sequences protect, and whether SQ3 may convert (R180). -/
structure ArbEnv where
  now   : Nat
  f     : Nat
  acq   : Nat → Nat
  skew  : Nat → Int
  guard : Fin 4 → Option (Nat × Word)
  sq3   : Bool

/-- Whether a conversion of sequence `q` that would hold at `h` on a converter must not start (R127, rule 2): a higher
sequence's next scheduled hold edge on that converter would be missed. `one` names ADC1. -/
def guarded (env : ArbEnv) (q : Fin 4) (one : Bool) (h : Nat) : Bool :=
  (List.finRange 4).any (fun r =>
    decide (r < q) && (match env.guard r with
      | some (e, w) =>
        (entBoth w || (entMode w == 1) == one)
          && (decide (e < h + cycles env.f 40 + cycles env.f (env.acq (fieldOf w 12 3))) || decide (e < h + 100000000))
      | none => false))

/-- A converter given to an entry (R118): acquisition from now, its hold edge, its dither (R133). -/
def Adc.grant (x : Adc) (o : Owner) (f t0 h : Nat) : Adc :=
  { x with own := o, start := t0, hold := h, finish := h + cycles f 40, now := x.dith, dith := x.dith + 1 }

/-- An instant moved by a signed amount. -/
def shifted (h : Nat) (d : Int) : Nat := ((h : Int) + d).toNat

/-- Entry `k` of sequence `q` marked as begun. -/
def markBegun (c : Conv) (q : Fin 4) (k : Nat) : Conv :=
  let x := c.seqs[q]
  let x' : SeqSt := { x with live := x.live.map (fun y => if y.k = k then { y with begun := true } else y) }
  { c with seqs := c.seqs.set q.val x' q.isLt }

/-- The hold edges of an entry's next conversion on ADC0 and ADC1 were it to start now (R116, R119, R135): the first conversion
of a pass takes the scheduled instant; ILV holds ADC1 half a period later; the skew trim moves ADC1. -/
def entryHolds (env : ArbEnv) (c : Conv) (x : SeqSt) (w : Word) : Nat × Nat :=
  let acq := env.acq (fieldOf w 12 3)
  let sched := if x.made then none else x.edge
  let sp := fun (a : Adc) => spacedFrom env.f acq a.last
  let bound := if entBoth w then max (sp c.a) (sp c.b) else if entMode w = 1 then sp c.b else sp c.a
  let h := holdEdge env.f env.now acq bound sched
  (h, shifted (if entMode w = 4 then h + x.period * tsUnit / 2 else h) (env.skew x.band))

/-- One attempt to start an entry over the free converters `a`, `b`: whether it starts, the engine, the converters left. An
entry that needs both holds the free one idle (rule 1). -/
def grantEntry (env : ArbEnv) (q : Fin 4) (c : Conv) (e : EntRun) (a b : Bool) : Bool × Conv × Bool × Bool :=
  let h := entryHolds env c c.seqs[q] e.cfg
  let o := Owner.seq q e.k
  if entBoth e.cfg then
    if a && b then
      if guarded env q false h.1 || guarded env q true h.2 then (false, c, a, b)
      else (true, { c with a := c.a.grant o env.f env.now h.1, b := c.b.grant o env.f env.now h.2 }, false, false)
    else (false, c, false, false)
  else if entMode e.cfg = 1 then
    if b && !guarded env q true h.2 then (true, { c with b := c.b.grant o env.f env.now h.2 }, a, false)
    else (false, c, a, b)
  else if a && !guarded env q false h.1 then (true, { c with a := c.a.grant o env.f env.now h.1 }, false, b)
  else (false, c, a, b)

/-- Starts for the entries of one sequence in their order: an entry starts no earlier than the first conversion of the one
before it, and may run beside it (R125, R127). -/
def grantSeq (env : ArbEnv) (q : Fin 4) : List EntRun → Conv → Bool → Bool → Conv × Bool × Bool
  | [], c, a, b => (c, a, b)
  | e :: es, c, a, b =>
    if c.a.own == .seq q e.k || c.b.own == .seq q e.k then grantSeq env q es c a b
    else
      let g := grantEntry env q c e a b
      if g.1 then grantSeq env q es (markBegun g.2.1 q e.k) g.2.2.1 g.2.2.2
      else if e.begun then grantSeq env q es g.2.1 g.2.2.1 g.2.2.2
      else (g.2.1, g.2.2.1, g.2.2.2)

/-- The converter an urgent conversion uses. -/
def Urgent.conv (u : Urgent) : Nat := fieldOf u.cfg 25 25

/-- An urgent conversion given its converter at `t0` (R131, R132): its hold edge at least 1 µs after the latest one there. -/
def grantUrgent (env : ArbEnv) (c : Conv) (u : Urgent) (t0 : Nat) : Conv :=
  let x := if u.conv = 0 then c.a else c.b
  let acq := env.acq (fieldOf u.cfg 24 15)
  let bound := match x.last with | some h => h + 100000000 | none => 0
  let x' := x.grant .urgent env.f t0 (holdEdge env.f t0 acq bound none)
  if u.conv = 0 then { c with a := x' } else { c with b := x' }

/-- A running urgent conversion that waits for its converter takes it first (R131). -/
def urgentFirst (env : ArbEnv) (c : Conv) : Conv :=
  match c.urg with
  | some u =>
    if c.a.own == .urgent || c.b.own == .urgent then c
    else if (if u.conv = 0 then c.a else c.b).isFree then grantUrgent env c u env.now else c
  | none => c

/-- Arbitration: each free converter goes to the highest-priority ACTIVE sequence that can use it (R127). -/
def arbitrate (env : ArbEnv) (c0 : Conv) : Conv :=
  let c := urgentFirst env c0
  ((List.finRange 4).foldl (fun (x : Conv × Bool × Bool) (q : Fin 4) =>
    let sq := x.1.seqs[q]
    if sq.act && !sq.ending && (q != 3 || env.sq3) then grantSeq env q sq.live x.1 x.2.1 x.2.2 else x)
    (c, c.a.isFree && !c.urgHold, c.b.isFree && !c.urgHold)).1

/-- The timer's next tick at or after an instant on its grid (R122). -/
def gridFrom (tick step now : Nat) : Nat := if now ≤ tick then tick else tick + (now - tick + step - 1) / step * step

/-- The next scheduled hold edge of sequence `q` with its first entry (R127, rule 2): that of the pass that waits for its first
conversion, or the next tick of its timer. -/
def nextEdge (s : State) (p : Phys) (q : Fin 4) : Option (Nat × Word) :=
  let x := s.seq p q
  let first := (s.z p).regs.word R.ZC_ENT_CFG_k (s.g p F.ZC_SEQ_q_FIRST q)
  match (if x.act && !x.made then x.edge else none), x.live with
  | some e, r :: _ => some (e, r.cfg)
  | _, _ =>
    match x.tick with
    | some t =>
      if s.gb p F.ZC_SEQ_q_EN q && s.g p F.ZC_SEQ_q_TRIG q == 1 then
        some (gridFrom t (s.seqPeriod p q * tsUnit) (s.cvNow p), effectiveEntry s p q
          (s.g p F.ZC_SEQ_q_FIRST q == s.g p F.ZC_SEQ_q_LAST q) first)
      else none
    | none => none

/-- What arbitration reads of slice `p`. -/
def arbEnv (s : State) (p : Phys) : ArbEnv :=
  { now := s.cvNow p, f := (s.sl p).sclkMhz, acq := s.acqMin p, skew := fun b => (s.trimsOf p b).skew * 50,
    guard := nextEdge s p, sq3 := !(s.z p).meter.cap.fast }

/-- Arbitration and the registers that show it. -/
def settle (s : State) (p : Phys) : State := syncConv (s.onCv p (arbitrate (arbEnv s p))) p

/-! ### Triggers (R122, R123) -/

/-- A dropped trigger (R121, R123): counted, with its event and error. -/
def dropTrigger (s : State) (p : Phys) (q : Fin 4) : State :=
  let x : Fld := match q with
    | 0 => F.ZC_DROP_DROP_0 | 1 => F.ZC_DROP_DROP_1 | 2 => F.ZC_DROP_DROP_2 | 3 => F.ZC_DROP_DROP_3
  ((s.bump p x).evt p 2 EVT.ZC_DROP).err p 2 q.val 0x4A10

/-- A trigger of sequence `q` with the scheduled instant of its hold edge, where it has one (R123). -/
def acceptTrigger (s : State) (p : Phys) (q : Fin 4) (edge : Option Nat) : State :=
  if badRange s p q then dropTrigger s p q
  else
    let x := s.seq p q
    if x.act then
      if x.pend then dropTrigger s p q else s.onSeq p q (fun x => { x with pend := true })
    else startPass s p q edge

/-- The first tick of a sequence's timer, PHASE after it is enabled (R122). -/
def startTimer (s : State) (p : Phys) (q : Fin 4) : State :=
  s.onSeq p q (fun x => { x with tick := some (s.cvNow p + s.g p F.ZC_SEQ_PH_q_PHASE q * tsUnit) })

/-- The scheduled instant that a trigger gives (R122): the timer's tick, or the zero crossing delayed by PHASE; the timer goes
on by one PERIOD. -/
def triggerEdge (s : State) (p : Phys) (q : Fin 4) (x : TrigSource) : Option Nat × State :=
  match x with
  | .timer =>
    let step := s.seqPeriod p q * tsUnit
    let e := gridFrom ((s.seq p q).tick.getD (s.cvNow p)) step (s.cvNow p)
    (some e, s.onSeq p q (fun x => { x with tick := some (e + step) }))
  | .zeroCross => (some (s.cvNow p + s.g p F.ZC_SEQ_PH_q_PHASE q * tsUnit), s)
  | _ => (none, s)

/-- A trigger from a source. -/
def seqTrigger (s : State) (p : Phys) (q : Fin 4) (x : TrigSource) : State :=
  if takesTrigger s p q x then
    let e := triggerEdge s p q x
    settle (acceptTrigger e.2 p q e.1) p
  else s

/-- Whether a converter works for sequence `q`. -/
def Owner.ofSeq (o : Owner) (q : Fin 4) : Bool := match o with | .seq r _ => r == q | _ => false

/-- Whether any converter works for sequence `q`. -/
def Conv.busyFor (c : Conv) (q : Fin 4) : Bool := c.a.own.ofSeq q || c.b.own.ofSeq q

/-- A sequence that ends has no conversion left (R124): its part averages go; the pass neither counts in RUNS nor sets DONE,
which R124 leaves open (notes/assumptions/146). A trigger accepted since it was enabled again starts the next pass. -/
def finishEnding (s : State) (p : Phys) (q : Fin 4) : State :=
  let x := s.seq p q
  if x.ending && !(s.cv p).busyFor q then
    let s1 := s.onSeq p q (fun x => { x with act := false, live := [], ending := false, pend := false })
    if x.pend then acceptTrigger s1 p q none else s1
  else s

/-- A sequence ended by EN = 0 (R124): after the conversions in progress, its pending latch gone. -/
def seqDisabled (s : State) (p : Phys) (q : Fin 4) : State :=
  let s1 := s.onSeq p q (fun x => if x.act then { x with pend := false, ending := true } else { x with pend := false })
  settle (finishEnding s1 p q) p

/-- SQ1 and SQ2 stopped for a FAST capture (R177), or started again from their first entries. -/
def firmwareSeqs (s : State) (p : Phys) (on : Bool) : State :=
  ([1, 2] : List (Fin 4)).foldl (fun (s : State) (q : Fin 4) =>
    let s1 := s.wb p F.ZC_SEQ_q_EN on q
    if on then startTimer s1 p q else seqDisabled s1 p q) s

/-- A write of ZC_SEQ_3, its entries or its timer; `was` is the state before it (R121, R122, R124): EN 1 to 0 ends it, a
timer that begins to run starts with PHASE, and BADCFG follows the range. -/
def seq3Written (was s : State) (p : Phys) : State :=
  let on := fun (s : State) => s.gb p F.ZC_SEQ_q_EN 3 && s.g p F.ZC_SEQ_q_TRIG 3 == 1
  let s1 := if on s && !on was then startTimer s p 3 else s
  if was.gb p F.ZC_SEQ_q_EN 3 && !s.gb p F.ZC_SEQ_q_EN 3 then seqDisabled s1 p 3 else settle s1 p

/-! ### Urgent conversions (R130 to R132) -/

/-- The conversion in progress of an owner aborted (R131) on every converter it holds: its entry starts again later; the
other converter of a pair is held idle. -/
def abortOn (s : State) (p : Phys) (o : Owner) : State :=
  match o with
  | .seq q k =>
    let s1 := (s.bump p F.ZC_ABORT_ABORTS).onSeq p q (fun x => { x with
      live := x.live.map (fun e => if e.k = k then { e with part := { e.part with restart := true } } else e) })
    let drop := fun (x : Adc) => if x.own == .seq q k then
        { x with own := .none, last := if x.hold ≤ s.cvNow p then some x.hold else x.last } else x
    finishEnding (s1.onCv p (fun c => { c with
      urgHold := c.a.own == .seq q k && c.b.own == .seq q k, a := drop c.a, b := drop c.b })) p q
  | _ => s

/-- An urgent conversion takes its converter ahead of every sequence (R131, R132): at once where it is idle, after the result
is written where it is in XFER, else after aborting its conversion and resetting the array, four cycles later. -/
def startUrgent (s : State) (p : Phys) (u : Urgent) : State :=
  let c := s.cv p
  let x := if u.conv = 0 then c.a else c.b
  let t := s.cvNow p
  let env := arbEnv s p
  let s1 := s.onCv p (fun c => { c with urg := some u })
  match x.own with
  | .seq _ _ =>
    if x.phase env.f t = 3 then s1
    else (abortOn s1 p x.own).onCv p (fun c => grantUrgent env c u (t + cycles env.f 4))
  | _ => s1

/-- URGENT_REQUEST (R130): one runs, one may wait, a further one is dropped. -/
def urgentAsk (s : State) (p : Phys) (u : Urgent) : State :=
  let c := s.cv p
  if c.urg.isNone then settle (startUrgent s p u) p
  else if c.urgPend.isNone then settle (s.onCv p (fun c => { c with urgPend := some u })) p
  else ((s.bump p F.ZC_ABORT_URG_DROP).evt p 2 EVT.ZC_DROP).err p 2 0 0x1A20

/-! ### Results (R139 to R142) -/

/-- A converter's gain against ADC0 as the trim estimates it (R133, R134): 1 for ADC0. -/
def gainEst (t : Trims) (one : Bool) : Rat := if one then 1 / (1 + (t.gain : Rat) / 10000000) else 1

/-- The dither charge in a conversion [LSB16], −256 … +255 (R133). -/
def ditherOf (p : Phys) (one : Bool) (n : Nat) : Int := clampInt (-256) 255 (Config.dither p.val (bit1 one) n)

/-- A conversion's decisions [LSB16] corrected in XFER (R118, R133, R135): the dither of its converter, scaled by the gain
estimate, taken out; the band calibration; the offset and gain trims of ADC1. In codes of R139. -/
def corrected (p : Phys) (one : Bool) (band : Nat) (t : Trims) (n : Nat) (raw : Int) : Int :=
  let x : Rat := (raw : Rat) * 256 - (ditherOf p one n : Rat) * 256 * gainEst t one
  let y := Config.bandCal p.val (bit1 one) band x
  Config.toUnits (if one then y * (1 + (t.gain : Rat) / 10000000) + (t.ofs : Rat) else y)

/-- A corrected value as a code and its SAT flag (R139). -/
def clipCode (c : Int) : Int × Bool :=
  (clampInt (-8388608) 8388607 c, decide (c < -8388608 ∨ 8388607 < c))

/-- The mean of an entry's codes, ties away from zero (R125). -/
def meanCode (l : List Int) : Int := roundAway (meanOf (l.map (fun (i : Int) => (i : Rat))))

/-- A result written into a register pair (R140): NEW set, OVR when the former result was NEW. -/
def writeResult (s : State) (p : Phys) (lo hi : Reg) (i : Nat) (dec : Nat) (code : Int) (flags : Nat) (ts : BitVec 24) :
    State :=
  s.onR p (fun r =>
    let old := r.word lo i
    let ovr := fieldOf old 31 31 = 1 ∨ fieldOf old 30 30 = 1
    (r.putWord lo (BitVec.ofNat 32 (2 ^ 31 + (if ovr then 2 ^ 30 else 0) + dec * 2 ^ 24 + imageOf 24 code)) i).putWord hi
      (BitVec.ofNat 32 (flags * 2 ^ 24 + ts.toNat)) i)

/-- Bits [31:24] of a _HI register: RESTART, LATE, SAT, CALSET, CONV, BAND (R140). -/
def resultFlags (restart late sat calset : Bool) (conv band : Nat) : Nat :=
  bit1 restart * 128 + bit1 late * 64 + bit1 sat * 32 + bit1 calset * 16 + conv * 8 + band

/-- The results of a finished entry written (R116, R125, R140). -/
def writeEntry (s : State) (p : Phys) (band : Nat) (e : EntRun) : State :=
  let x := e.part
  let calset := !(s.cv p).conv
  let s1 := writeResult s p R.ZC_ENT_k_LO R.ZC_ENT_k_HI e.k (entDec e.cfg) (meanCode x.codesA)
    (resultFlags x.restart x.late x.satA calset x.convA band) x.ts
  if entBoth e.cfg then
    writeResult s1 p R.ZC_ENTB_k_LO R.ZC_ENTB_k_HI e.k (entDec e.cfg) (meanCode x.codesB)
      (resultFlags x.restart x.late x.satB calset x.convB band) x.tsB
  else s1

/-! ### Completion (R118, R123) -/

/-- What a finished conversion was: its sequence, the number of the pass and the entry configuration, its band, the codes of CHA and CHB with SAT and
their hold edges, and the mean codes of an entry it finished. -/
structure ConvDone where
  q    : Fin 4
  run  : Nat
  cfg  : Word
  band : Nat
  a    : Int
  b    : Int
  satA : Bool
  satB : Bool
  atA  : Nat
  atB  : Nat
  mean : Option (Int × Int) := none
  deriving DecidableEq, Repr

/-- An instant of the time base as a time stamp (R143). -/
def tsOf (t : Nat) : BitVec 24 := BitVec.ofNat 24 (ticksOf t)

/-- The codes of CHA and CHB of a finished conversion with SAT, their hold edges, and the converter of CHA (R116). -/
def channelCodes (s : State) (p : Phys) (band : Nat) (w : Word) (swapped : Bool) (d : ConvData) :
    (Int × Bool × Nat) × (Int × Bool × Nat) × Nat :=
  let c := s.cv p
  let t := s.trimsOf p band
  let x0 := clipCode (corrected p false band t c.a.now d.rawA)
  let x1 := clipCode (corrected p true band t c.b.now d.rawB)
  let r0 := (x0.1, x0.2, c.a.hold)
  let r1 := (x1.1, x1.2, c.b.hold)
  if entBoth w then (if swapped then (r1, r0, 1) else (r0, r1, 0))
  else if entMode w = 1 then (r1, r1, 1) else (r0, r0, 0)

/-- An entry with one more conversion. -/
def addConversion (e : EntRun) (a b : Int × Bool × Nat) (convA : Nat) (late : Bool) : EntRun :=
  let x := e.part
  let first := x.codesA.isEmpty
  { e with part := { x with
      codesA := x.codesA ++ [a.1], codesB := x.codesB ++ [b.1], satA := x.satA || a.2.1,
      satB := x.satB || (entBoth e.cfg && b.2.1), late := if first then late else x.late,
      ts := if first then tsOf a.2.2 else x.ts, tsB := if first then tsOf b.2.2 else x.tsB,
      convA := if first then convA else x.convA, convB := if first then 1 - convA else x.convB } }

/-- The triggers that the end of a pass of `q` gives to chained sequences (R122); a sequence chained to itself is
started by `endPass`. -/
def chainTriggers (s : State) (p : Phys) (q : Fin 4) : State :=
  (List.finRange 4).foldl (fun (s : State) (r : Fin 4) =>
    if r != q && takesTrigger s p r (.chain q) then acceptTrigger s p r none else s) s

/-- The end of a pass (R123): RUNS, DONE, the next pass from the latch or from its own chain, without a scheduled instant and
not on a bad range (R121), and chained sequences. -/
def endPass (s : State) (p : Phys) (q : Fin 4) : State :=
  let x := s.seq p q
  let s1 := (s.onSeq p q (fun x => { x with act := false, live := [], pend := false, runs := (x.runs + 1) % 65536 })).evt p
    2 (EVT.ZC_DONE + q.val)
  let s2 := if x.pend || takesTrigger s1 p q (.chain q) then acceptTrigger s1 p q none else s1
  chainTriggers s2 p q

/-- A converter freed by the end of its conversion. -/
def Adc.done (x : Adc) (o : Owner) : Adc := if x.own == o then { x with own := .none, last := some x.hold } else x

/-- Whether a hold edge with a scheduled instant fell more than 1 ns after it (R128). -/
def lateBy (hold : Nat) (edge : Option Nat) : Bool := match edge with | some e => decide (e + 100000 < hold) | none => false

/-- The engine after a conversion of an owner has ended (R118, R135): its converters free, its end as the engine's instant,
ADC1's conversions and the SWAP and ILV pairs counted, the next SWAP exchanged. -/
def freeOwner (c : Conv) (o : Owner) (k : Nat) (mode : Nat) (swapped : Bool) : Conv :=
  let one := c.b.own == o
  let fin := max (if c.a.own == o then c.a.finish else 0) (if one then c.b.finish else 0)
  { c with
    a := c.a.done o, b := c.b.done o, clock := max c.clock fin,
    ofConv1 := c.ofConv1 + bit1 one, ofPairs := c.ofPairs + bit1 (mode == 3 || mode == 4),
    swaps := if mode = 3 then (if swapped then c.swaps - 2 ^ k else c.swaps + 2 ^ k) else c.swaps }

/-- A conversion of sequence `q` completes for entry `e`. -/
def seqComplete (s : State) (p : Phys) (q : Fin 4) (e : EntRun) (d : ConvData) : State × ConvDone :=
  let c := s.cv p
  let x := c.seqs[q]
  let k := e.k
  let swapped := entMode e.cfg == 3 && bitOf c.swaps k
  let ch := channelCodes s p x.band e.cfg swapped d
  let late := !x.made && lateBy (if entMode e.cfg = 1 then c.b.hold else c.a.hold) x.edge
  let e' := addConversion e ch.1 ch.2.1 ch.2.2 late
  let full := decide (2 ^ entDec e.cfg ≤ e'.part.codesA.length)
  let done : ConvDone := {
    q := q, run := x.runs, cfg := e.cfg, band := x.band, a := ch.1.1, b := ch.2.1.1, satA := ch.1.2.1, satB := ch.2.1.2.1,
    atA := ch.1.2.2, atB := ch.2.1.2.2,
    mean := if full then some (meanCode e'.part.codesA, meanCode e'.part.codesB) else none }
  let s1 := s.onCv p (fun c => freeOwner c (.seq q k) k (entMode e.cfg) swapped)
  let s2 := if late then s1.bump p F.ZC_ABORT_LATE else s1
  let s3 := s2.onSeq p q (fun x => { x with
    made := true, late := if x.made then x.late else late,
    live := if full then x.live.filter (fun y => y.k != k)
      else x.live.map (fun y => if y.k = k then e' else y) })
  let s4 := if full then writeEntry s3 p x.band e' else s3
  let s5 := if x.ending then finishEnding s4 p q
    else if (s4.seq p q).live.isEmpty then endPass s4 p q else s4
  (settle s5 p, done)

/-- An urgent conversion completes (R130, R132): a host result goes to ZC_URG_LO and ZC_URG_HI; the pending one starts. -/
def urgentComplete (s : State) (p : Phys) (d : ConvData) : State :=
  let c := s.cv p
  match c.urg with
  | none => s
  | some u =>
    let one := u.conv == 1
    let x := if one then c.b else c.a
    let code := clipCode (corrected p one c.band (s.trim p) x.now (if one then d.rawB else d.rawA))
    let s1 := s.onCv p (fun c => { freeOwner c .urgent 0 0 false with urg := none, urgHold := false })
    let s2 := if u.host then
        (writeResult s1 p R.ZC_URG_LO R.ZC_URG_HI 0 0 code.1
          (resultFlags false false code.2 (!c.conv) u.conv c.band) (tsOf x.hold)).evt p 2 EVT.ZC_URG_DONE
      else s1
    let s3 := match c.urgPend with
      | some v => startUrgent (s2.onCv p (fun c => { c with urgPend := none })) p v
      | none => s2
    settle s3 p

/-- A conversion on converter `adc` completes (R118): the new state and, for a sequence, what it was. -/
def convComplete (s : State) (p : Phys) (adc : Fin 2) (d : ConvData) : State × Option ConvDone :=
  let c := s.cv p
  match (if adc = 0 then c.a.own else c.b.own) with
  | .none => (s, none)
  | .urgent => (urgentComplete s p d, none)
  | .seq q k =>
    match (c.seqs[q]).live.find? (fun e => e.k == k) with
    | none => (s, none)
    | some e => let r := seqComplete s p q e d; (r.1, some r.2)

/-! ### Starting (R129, R144) -/

/-- Every sequence restarted from its first entry with nothing in progress (R144): at a start and after a migration; the timers
of the enabled ones start anew. -/
def restartSequences (s : State) (p : Phys) : State :=
  let s1 := s.onCv p (fun c => { c with
    seqs := Vector.replicate 4 {}, a := { dith := c.a.dith }, b := { dith := c.b.dith }, clock := s.base p,
    urgHold := false, swaps := 0, urg := none, urgPend := none, skewAct := false, ofConv1 := 0, ofPairs := 0 })
  let s2 := (List.finRange 4).foldl (fun (s : State) (q : Fin 4) =>
    if s.gb p F.ZC_SEQ_q_EN q && s.g p F.ZC_SEQ_q_TRIG q == 1 then startTimer s p q else s) s1
  syncConv (syncTrims (restartCal s2 p) p) p

/-- SQ1's entries of the temperature inputs as the firmware builds them from the configuration (R129, R195): sensor and
reference as a pair, SWAP for a METER input, DEC by FILT. -/
def buildEntries (s : State) (p : Phys) : State :=
  (List.finRange 4).foldl (fun (s : State) (n : Fin 4) =>
    s.wWord p R.ZC_ENT_CFG_k (BitVec.ofNat 32 (entryWord (if s.gb p F.ZI_TCFG_n_METER n then 3 else 2) (2 + n.val)
      (6 + n.val) (Config.filtDec (s.g p F.ZI_TCFG_n_FILT n)) (8 + n.val))) (8 + n.val)) s

/-- The set frequency of a slice clock [MHz] (R485): 100 in RUN (notes/assumptions/155); in DOZE the least that meets the hearth's
deadlines, 50 or more, which is free. -/
def setMhz (s : State) (p : Phys) : Nat :=
  if s.landing.state = 1 then max 50 (min 250 (Config.dozeMhz p.val)) else 100

/-- The clock of a slice under the throttle factor [MHz] (R506): f times its set frequency, at least 32. -/
def sliceMhz (s : State) (p : Phys) : Nat := max 32 (setMhz s p * s.thermal.fact / 100)

/-- The slice clock of a powered slice set [MHz], with its bias before or after it (R119, R148, R498): ZC_TIMING, RATE_LIM and its
error. -/
def setSliceClock (s : State) (p : Phys) (mhz : Nat) : State :=
  let s1 := s.onSl p (fun x => changeSupply x .on mhz s.thermal.band)
  let s2 := (s1.w p F.ZC_TIMING_FS_MHZ (min mhz 255)).w p F.ZC_TIMING_ACQMIN (acqBase mhz)
  let low := decide (mhz < 50)
  let s3 := s2.wb p F.ZC_STAT_RATE_LIM low
  if low && !s.gb p F.ZC_STAT_RATE_LIM then s3.err p 2 0 0x4A22 else s3

/-! ### Background calibration (R134 to R138) -/

/-- The trims of the band in use changed. -/
def onTrims (s : State) (p : Phys) (f : Trims → Trims) : State :=
  let b := (s.cv p).band
  s.onSl p (fun x => if h : b < 6 then { x with trims := x.trims.set b (f x.trims[b]) h } else x)

/-- CONV set once the estimated mismatches have stayed within the limits over four updates (R136). -/
def judgeConv (s : State) (p : Phys) : State :=
  let t := s.trim p
  let c := s.cv p
  if !c.conv && decide (4 ≤ t.ofsOk) && decide (4 ≤ t.gainOk) && (!c.skewAct || decide (4 ≤ t.skewOk)) then
    (s.onCv p (fun c => { c with conv := true })).wbEvt p F.ZC_CAL_STAT_CONV true 2 EVT.ZC_CAL
  else s

/-- A trim found at its limit (R137, R153, R515): the error, and the slice has failed. -/
def trimFail (s : State) (p : Phys) : State := failSlice (s.err p 2 0 0x8A12) p 0 6

/-- TRIM_UPDATE after 2^16 conversions of ADC1: offset and gain move by 1/16 of the estimated error (R135); the gain stays
within ±0.5 % (R137). -/
def trimStep (s : State) (p : Phys) (ofsErr gainErr : Int) : State :=
  if (s.cv p).ofConv1 < 2 ^ 16 then s
  else
    let t := s.trim p
    let ofs := clampInt (-32768) 32767 (t.ofs + Config.toUnits ((ofsErr : Rat) / 16))
    let g := t.gain + Config.toUnits ((gainErr : Rat) / 16)
    let limit := decide (g < -50000 ∨ 50000 < g)
    let s0 := s.onCv p (fun c => { c with ofConv1 := c.ofConv1 - 2 ^ 16 })
    let s1 := onTrims s0 p (fun t => { t with
      ofs := ofs, gain := clampInt (-50000) 50000 g, gainLim := limit,
      ofsOk := if -64 ≤ ofsErr ∧ ofsErr ≤ 64 then t.ofsOk + 1 else 0,
      gainOk := if -100 ≤ gainErr ∧ gainErr ≤ 100 then t.gainOk + 1 else 0 })
    let s2 := judgeConv (syncTrims s1 p) p
    if limit && !t.gainLim then trimFail s2 p else s2

/-- SKEW_UPDATE after 2^20 SWAP or ILV pairs: the skew trim moves by at most one step (R135); at an end of its range the slice
fails (R137). SKEW_ACT shows whether the slope lets it be estimated (R134). -/
def skewStep (s : State) (p : Phys) (err : Int) (slopeOk : Bool) : State :=
  if (s.cv p).ofPairs < 2 ^ 20 then s
  else
    let s0 := (s.onCv p (fun c => { c with skewAct := slopeOk, ofPairs := c.ofPairs - 2 ^ 20 })).wb p
      F.ZC_CAL_STAT_SKEW_ACT slopeOk
    if !slopeOk then judgeConv s0 p
    else
      let t := s.trim p
      let k := clampInt (-256) 255 (t.skew + clampInt (-1) 1 err)
      let s1 := onTrims s0 p (fun t => { t with
        skew := k, skewOk := if -2 ≤ err ∧ err ≤ 2 then t.skewOk + 1 else 0 })
      let s2 := judgeConv (syncTrims s1 p) p
      if (k = -256 ∨ k = 255) ∧ !t.skewLim then trimFail s2 p else s2

/-! ### The commands -/

/-- SEQUENCE_TRIGGER (R123). -/
def execSequenceTrigger (p : Phys) (q : Fin 4) (src : TrigSource) (s : State) : Host.Outcome State Fault Refusal :=
  onRunning s p (fun s => seqTrigger s p q src)

/-- SEQUENCE_ACTIVE_TIMEOUT (R126): once per pass. -/
def execSequenceActiveTimeout (p : Phys) (q : Fin 4) (s : State) : Host.Outcome State Fault Refusal :=
  onRunning s p (fun s =>
    let x := s.seq p q
    if x.act && !x.timedOut then (s.onSeq p q (fun x => { x with timedOut := true })).err p 2 q.val 0x4A21 else s)

/-- TRIM_UPDATE (R135). -/
def execTrimUpdate (p : Phys) (ofsErr gainErr : Int) (s : State) : Host.Outcome State Fault Refusal :=
  onRunning s p (fun s => trimStep s p ofsErr gainErr)

/-- SKEW_UPDATE (R135). -/
def execSkewUpdate (p : Phys) (skewErr : Int) (slopeOk : Bool) (s : State) : Host.Outcome State Fault Refusal :=
  onRunning s p (fun s => skewStep s p skewErr slopeOk)

/-- CAL_CONVERGE_TIMEOUT (R136). -/
def execCalConvergeTimeout (p : Phys) (s : State) : Host.Outcome State Fault Refusal :=
  onRunning s p (fun s => if (s.cv p).conv then s else s.err p 2 0 0x4A11)

end Sys2Proof.Machine
end

