-- ==== Sys2Proof/Machine/Drive.lean ====
section
/-! DEFINITION. What an output's pad is given for a request (chapter 09, R287 to R289): the mapping, the pins, and an output
driven anew. -/
namespace Sys2Proof.Machine

/-! ### Configuration (R287 to R289, R317) -/

/-- Whether an output is a DO. -/
def isDo (j : Out) : Bool := decide (3 ≤ j.val)

/-- Whether an output is an AO. -/
def isAo (j : Out) : Bool := decide (j.val ≤ 1)

/-- ILIM of a driver in 0.1 mA (R317). -/
def ilimOf (s : State) (p : Phys) (j : Out) : Nat :=
  s.g p F.ZO_CFG_j_ILIM j * (if isAo j then 5 else if isDo j then 50 else 10)

/-- The pin voltage of an AO at a request [mV] (R288). -/
def aoPin (s : State) (p : Phys) (j : Out) (x : Rat) : Rat :=
  let lo : Rat := (s.g p F.ZO_CFG_j_LO j : Rat) * 100
  let hi : Rat := (s.g p F.ZO_CFG_j_HI j : Rat) * 100
  lo + x / 10000 * (hi - lo)

/-- The request whose pin voltage is `v` mV (R288, R293). -/
def aoBack (s : State) (p : Phys) (j : Out) (v : Rat) : Rat :=
  let lo : Rat := (s.g p F.ZO_CFG_j_LO j : Rat) * 100
  let hi : Rat := (s.g p F.ZO_CFG_j_HI j : Rat) * 100
  clampRat 0 10000 ((v - lo) / (hi - lo) * 10000)

/-- The PWM period [µs] of PWM_FREQ (R289). -/
def pwmPeriod (f : Nat) : Rat := match f with | 0 => 40 | 1 => 100 | 2 => 1000 | _ => 10000

/-- The nominal PWM edge time [µs] of SLEW (R298). -/
def pwmEdge (slew : Nat) : Rat := match slew with | 0 => 1 / 10 | 1 => 1 / 2 | 2 => 1 | _ => 2

/-- The duty of PWM at a request [%] (R289): a pulse or gap shorter than twice the edge time is not produced. -/
def pwmDuty (s : State) (p : Phys) (x : Rat) : Rat :=
  let lo : Rat := s.g p F.ZO_CFG_j_LO 2
  let hi : Rat := s.g p F.ZO_CFG_j_HI 2
  let d := lo + x / 10000 * (hi - lo)
  let per := pwmPeriod (s.g p F.ZO_GCFG_PWM_FREQ)
  let least := 2 * pwmEdge (s.g p F.ZO_CFG_j_SLEW 2)
  let on := d / 100 * per
  if (0 < on ∧ on < least) ∨ (on < per ∧ per - on < least) then (if d < 50 then 0 else 100) else d

/-! ### Driving -/

/-- What the pad of an output is given: AO pin [mV], PWM the fraction of the period in which the pin is released [0.1 %] (R289),
DO 1 or 0. -/
def padOf (s : State) (p : Phys) (j : Out) (x : Rat) : Nat :=
  if isAo j then (Config.toUnits (aoPin s p j x)).toNat
  else if isDo j then (if 0 < x then 1 else 0)
  else
    let d := (Config.toUnits (pwmDuty s p x * 10)).toNat
    if s.gb p F.ZO_GCFG_PWM_INV then 1000 - d else d

/-- Whether an output is switched off: an AO that is driven at a SAFE value of 0xFF (R288). -/
def switchedOff (s : State) (p : Phys) (j : Out) : Bool := (s.out p j).safe && isAo j && s.g p F.ZO_CFG_j_SAFE j == 0xFF

/-- The value an output applies for its request (R293, R294, R371): a pulse makes a DO conduct; over-current, the
governor and a capture that waits keep it off; an AO in its limit applies what its pin measures. -/
def appliedOf (j : Out) (o : OutSt) : Rat :=
  if isDo j then
    let want := o.pulse.isSome || decide (0 < o.req)
    if want && !o.ovc && !o.govOff && !o.waitCap then 10000 else 0
  else if isAo j && o.ilim then o.applied
  else o.req

/-- An output driven anew from its request and flags: an edge is made with the driver strength of the band published (R299), an AO
that is switched off has its pin at 0 V (R288), a DO that switches off is counted (R541). -/
def refreshOut (s : State) (p : Phys) (j : Out) : State :=
  let o := s.out p j
  if o.held then s
  else
    let a := appliedOf j o
    let on := !switchedOff s p j
    let pin := if on then padOf s p j a else 0
    let s1 := s.onOut p j (fun o => { o with
      applied := a, pin := pin, drvOn := on, slewRow := if pin = o.pin then o.slewRow else (s.z p).outs.band })
    if isDo j && decide (0 < o.applied) && decide (a = 0) then
      (if j.val = 3 then s1.bump p F.ZW_DO_SW_1_COUNT else s1.bump p F.ZW_DO_SW_2_COUNT)
    else s1

end Sys2Proof.Machine
end

