-- ==== Sys2Proof/Machine/Meter.lean ====
section
/-! DEFINITION. The electrical meter and waveform capture (chapter 05). -/
namespace Sys2Proof.Machine

/-! ### Access -/

/-- The meter of slice `p`. -/
def State.mt (s : State) (p : Phys) : Meter := (s.z p).meter

/-- The meter of slice `p` changed. -/
def State.onMt (s : State) (p : Phys) (f : Meter → Meter) : State := s.onZ p (fun z => { z with meter := f z.meter })

/-- The capture engine of slice `p` changed. -/
def State.onCap (s : State) (p : Phys) (f : Capture → Capture) : State :=
  s.onMt p (fun m => { m with cap := f m.cap })

/-- The signed value of the low `n` bits of a register of slice `p`. -/
def State.kv (s : State) (p : Phys) : Rat := f32Value ((s.z p).regs.word R.ZE_SCALE_V)

/-- KI of slice `p`. -/
def State.ki (s : State) (p : Phys) : Rat := f32Value ((s.z p).regs.word R.ZE_SCALE_I)

/-- The gain G of the current channel (R154, R184). -/
def State.gain (s : State) (p : Phys) : Rat := (gainOf (s.g p F.ZE_CFG_GSEL) : Rat)

/-- I_R in contact volts (R154). -/
def State.ratedI (s : State) (p : Phys) : Rat := 2 / 10 / s.gain p

/-- The rated power P_R = KV × V_R × KI × I_R (R165). -/
def State.ratedP (s : State) (p : Phys) : Rat := s.kv p * (s.ki p * s.ratedI p)

/-! ### Accumulators (R163) -/

/-- An accumulator advanced by an amount in its unit; remainders carry over (R163). -/
def Acc.add (a : Acc) (q : Rat) : Acc :=
  let t := a.rem + q
  { count := (a.count + t.floor.toNat) % 2 ^ 64, rem := t - (t.floor : Rat) }

/-- Energy in mWh of a power [W] over a duration [1/64 µs]. -/
def mWh (p dt : Rat) : Rat := p * dt / (64 * 3600 * 1000)

/-- The seven accumulators advanced by their amounts. -/
def addEnergy (m : Meter) (e : Vector Rat 7) : Meter :=
  { m with acc := Vector.ofFn (fun (i : Fin 7) => m.acc[i].add e[i]) }

/-- The energies of a time of measured or filled powers, by accumulator (R163 to R165): `imp` and `exp` in mWh, `qw` and `sw` in
var and VA over `dt`; `creep` stops the active accumulators and `react` lets the reactive one of quadrant `quad` advance. -/
def energies (creep react : Bool) (quad : Nat) (imp exp qw sw dt : Rat) : Vector Rat 7 :=
  Vector.ofFn (fun (i : Fin 7) =>
    if i.val = 0 then (if creep then 0 else imp)
    else if i.val = 1 then (if creep then 0 else exp)
    else if i.val = 6 then mWh sw dt
    else if react && i.val == quad + 2 then mWh (absRat qw) dt else 0)

/-- The quadrant of P and Q as 0 … 3 (R161). -/
def quadrant (pw qw : Rat) : Nat :=
  if 0 ≤ pw then (if 0 ≤ qw then 0 else 3) else (if 0 ≤ qw then 1 else 2)

/-- Whether a mean active power is below the creep threshold (R165). -/
def creeps (s : State) (p : Phys) (pw : Rat) : Bool :=
  decide (absRat pw < (s.g p F.ZE_CFG_CREEP : Rat) / 100000 * s.ratedP p)

/-- Whether the reactive accumulators advance (R164). -/
def reactive (s : State) (p : Phys) : Bool := s.gb p F.ZE_CFG_QEN && (s.mt p).lock

/-! ### Corrections (R157) -/

/-- The used points of the CT table in index order: (I_PT, ratio, phase) in register units (R157, R172). -/
def ctPoints (s : State) (p : Phys) : List (Nat × Int × Int) :=
  ((List.range 8).map (fun j =>
    (s.g p F.ZE_CT_j_I_PT j, s.gi p F.ZE_CT_j_RATIO j, s.gi p F.ZE_CT_j_PHASE j))).filter (fun c => c.1 != 0)

/-- Linear interpolation over used points at `x`, with the end points held beyond them (R157). -/
def interpolate (x : Rat) : List (Nat × Rat) → Rat
  | [] => 0
  | [(_, y)] => y
  | (a, ya) :: (b, yb) :: l =>
    if x ≤ a then ya
    else if x < b then ya + (yb - ya) * (x - a) / ((b : Rat) - a)
    else interpolate x ((b, yb) :: l)

/-- The present current in units of I_PT (0.2 % of I_R), from the rms of the preceding cycle (R157). -/
def ctCurrent (s : State) (p : Phys) : Rat := (s.mt p).last.irms / (s.ki p * s.ratedI p) * 500

/-- The CT ratio correction at the present current. -/
def ctRatio (s : State) (p : Phys) : Rat :=
  interpolate (ctCurrent s p) ((ctPoints s p).map (fun c => (c.1, (c.2.1 : Rat)))) * 20 / 1000000

/-- The phase by which the current is delayed [degrees]: ZE_CAL_PHASE and the CT phase correction (R157 step 4). -/
def phaseTrim (s : State) (p : Phys) : Rat :=
  (s.gi p F.ZE_CAL_PHASE_PHASE : Rat) / 1000
    + interpolate (ctCurrent s p) ((ctPoints s p).map (fun c => (c.1, (c.2.2 : Rat)))) * 2 / 1000

/-- The nominal frequency of the unlocked meter [mHz] (R160). -/
def fnom (s : State) (p : Phys) : Nat := if s.gb p F.ZE_CFG_FNOM then 60000 else 50000

/-- The frequency that converts phase into time [mHz]: the tracked one, or FNOM while unlocked (R157). -/
def meterFreq (s : State) (p : Phys) : Nat :=
  let m := s.mt p
  if m.lock && m.freq != 0 then m.freq else fnom s p

/-- The divider of a spare path (R529): switches `i`, `j` in series with the input impedance `zin` [Ω]. -/
def pathGain (s : State) (p : Phys) (i j : Nat) (zin : Rat) : Rat := (zin + switchOhm s p i j) / zin

/-- Contact volts of a voltage code (R157 steps 1, 2, with R529). -/
def contactV (s : State) (p : Phys) (c : Int) : Rat := codeVolts c * pathGain s p 10 11 1000000

/-- Contact volts of a current code (R157 steps 1, 2, with R529). -/
def contactI (s : State) (p : Phys) (c : Int) : Rat := codeVolts c / s.gain p * pathGain s p 12 13 100000

/-- The primary voltage of filtered contact volts (R157 step 5). -/
def primaryV (s : State) (p : Phys) (x : Rat) : Rat :=
  x * s.kv p * (1 + (s.gi p F.ZE_CAL_VGAIN_VGAIN : Rat) / 10000000)

/-- The primary current of delayed contact volts (R157 step 5). -/
def primaryI (s : State) (p : Phys) (x : Rat) : Rat :=
  x * s.ki p * (1 + (s.gi p F.ZE_CAL_IGAIN_IGAIN : Rat) / 10000000) * (1 + ctRatio s p)

/-! ### Time between hold edges (R158) -/

/-- The time from one hold edge to a later one [1/64 µs], as their timestamps measure it, with the slew removed (R158). -/
def pairSpacing (s : State) (p : Phys) (a b : Nat) : Rat :=
  ((b * 64 / 100000000 : Nat) - (a * 64 / 100000000 : Nat) : Rat) * 100000000
    / (100000000 + ((s.sl p).time.rate : Rat))

/-- An angle of the tracked fundamental after a time of the time base (R161, R179). -/
def angleOf (freq dt : Nat) : Rat := 2 * Config.pi * (freq : Rat) * (dt : Rat) / 100000000000000000

/-- A time filled with mean powers (R158, R166), in an earlier share of the cycle or in the newest: its energies and its
synthesised time. While no share waits for the end of its cycle, the accumulators take it at once. -/
def fillShare (s : State) (p : Phys) (older : Option Nat) (dt pw qw sw : Rat) : State :=
  let e := energies (creeps s p pw) (reactive s p) (quadrant pw qw) (mWh (if 0 < pw then pw else 0) dt)
    (mWh (if pw < 0 then -pw else 0) dt) qw sw dt
  let into := fun (h : Share) => { h with gap := Vector.ofFn (fun (i : Fin 7) => h.gap[i] + e[i]) }
  s.onMt p (fun m =>
    match older with
    | some k => { m with shares := m.shares.modify k (fun h => { into h with synth := h.synth + dt / 64000 }) }
    | none =>
      if m.shares.isEmpty then { addEnergy m e with synth := m.synth + dt / 64000 }
      else { m with share := into m.share, synth := m.synth + dt / 64000 })

/-- ZE_SYNTH.OPEN brought into line (R185). -/
def showSynth (s : State) (p : Phys) : State := s.w p F.ZE_SYNTH_OPEN (satTo 16 (s.mt p).synth.floor.toNat)

/-- E-1B07 with the filled duration (R188). -/
def noteFill (s : State) (p : Phys) (dt : Rat) : State :=
  (showSynth s p).err p 4 (satTo 16 (dt / 64000).floor.toNat) 0x1B07

/-- A gap longer than 100 µs up to a hold edge (R158), filled with the mean powers of the last complete cycle; an interval
boundary within it divides it. -/
def fillGap (s : State) (p : Phys) (at_ : Nat) (dt : Rat) : State :=
  let m := s.mt p
  let x := m.last
  let s1 := match m.cutAt with
    | some (c, k) =>
      let d0 := pairSpacing s p m.prevAt c
      fillShare (fillShare s p (some k) d0 x.p x.q x.s) p none (pairSpacing s p c at_) x.p x.q x.s
    | none => fillShare s p none dt x.p x.q x.s
  noteFill s1 p dt

/-- The house time of an instant of a slice's time base [10⁻⁸ µs]. -/
def houseAt (s : State) (p : Phys) (at_ : Nat) : Int := (s.sl p).time.epoch + (at_ : Int)

/-- The time still to fill filled up to an instant (R166). -/
def fillUpTo (s : State) (p : Phys) (at_ : Nat) : State :=
  match (s.mt p).fill with
  | none => s
  | some f =>
    let d := houseAt s p at_ - (f.time : Int) * usFine
    let dt : Rat := (d.toNat : Rat) * 64 / 100000000
    noteFill ((fillShare s p none dt f.p f.q f.s).onMt p (fun m => { m with
      fill := some { f with time := max f.time (houseAt s p at_ / usFine).toNat } })) p dt

/-! ### Pairs (R157, R158) -/

/-- The sums of the cycle advanced by the pair before over its time `dt` (R158, R161, R163): the energy goes to the share in
which the pair was taken. -/
def addPair (m : Meter) (dt : Rat) (c sn : Rat) : Meter :=
  let e := mWh m.prevP dt
  let into := fun (h : Share) => { h with
    t := h.t + dt, imp := h.imp + (if 0 < e then e else 0), exp := h.exp + (if e < 0 then -e else 0) }
  let m1 := match m.cutAt with
    | some (_, k) => { m with shares := m.shares.modify k into }
    | none => { m with share := into m.share }
  let v2 := m.prevV * m.prevV * dt
  let i2 := m.prevI * m.prevI * dt
  { m1 with
    sumV2 := m.sumV2 + v2, sumI2 := m.sumI2 + i2, sumP := m.sumP + m.prevP * dt, sumT := m.sumT + dt,
    halfV2 := m.halfV2 + v2, halfI2 := m.halfI2 + i2, halfT := m.halfT + dt,
    phV := (m.phV.1 + m.prevV * c * dt, m.phV.2 + m.prevV * sn * dt),
    phI := (m.phI.1 + m.prevI * c * dt, m.phI.2 + m.prevI * sn * dt) }

/-- The time since the pair before, up to an instant (R158, R166): weighted with that pair, or filled. -/
def integrate (s : State) (p : Phys) (at_ : Nat) : State :=
  let m := s.mt p
  let s1 := if m.fill.isSome then (fillUpTo s p at_).onMt p (fun m => { m with fill := none }) else s
  if !m.haveP then s1
  else
    let dt := pairSpacing s p m.prevAt at_
    let s2 := if 6400 < dt then fillGap s1 p at_ dt
      else
        let a := angleOf (meterFreq s p) (m.prevAt - m.startAt)
        s1.onMt p (fun m => addPair m dt (if m.lock then Config.cos a else 0) (if m.lock then Config.sin a else 0))
    s2.onMt p (fun m => { m with cutAt := none, prevAt := at_ })

/-- A voltage through steps 3 and 5 of R157. -/
def passV (s : State) (p : Phys) (v : Rat) (dt : Nat) : State × Rat :=
  let m := s.mt p
  let h := Config.highPass m.hpV m.inV v dt
  (s.onMt p (fun m => { m with hpV := h, inV := v }), primaryV s p h)

/-- A current through steps 3 to 5 of R157. -/
def passI (s : State) (p : Phys) (i : Rat) (dt at_ : Nat) : State × Rat :=
  let m := s.mt p
  let h := Config.highPass m.hpI m.inI i dt
  let l := ((at_, h) :: m.curs).take 2048
  let delay := phaseTrim s p / 360 * 64 * 1000000000 / (meterFreq s p : Rat)
  (s.onMt p (fun m => { m with hpI := h, inI := i, curs := l }), primaryI s p (Config.delayCurrent l delay))

/-- A pair of primary values as the pair before the next one (R157 step 6). -/
def holdPair (s : State) (p : Phys) (at_ : Nat) (pv pi : Rat) (satV satI : Bool) : State :=
  s.onMt p (fun m => { m with
    prevV := pv, prevI := pi, prevP := pv * pi, prevAt := at_, haveP := true, pairs := m.pairs + 1,
    startAt := if m.sumT = 0 then at_ else m.startAt,
    samples := if m.lock then m.samples ++ [(at_, pv, pi)] else m.samples,
    markV := m.markV || satV, markI := m.markI || satI, clipped := m.clipped || satV || satI })

/-- The time stamps between two hold edges (R143). -/
def stampsBetween (a b : Nat) : Nat := b * 64 / 100000000 - a * 64 / 100000000

/-- One SQ0 pair taken in the order of R157: `v` and `i` are contact volts. -/
def takePair (s : State) (p : Phys) (v i : Rat) (at_ : Nat) (satV satI : Bool) : State :=
  let dt := stampsBetween (s.mt p).prevAt at_
  let s1 := integrate s p at_
  let a := passV s1 p v dt
  let b := passI a.1 p i dt at_
  holdPair b.1 p at_ a.2 b.2 satV satI

/-! ### Cycles (R159 to R165) -/

/-- The tables and the fundamental without lock (R161, R170): a window already computed is stale; V1 and I1 read 0. -/
def showUnlocked (s : State) (p : Phys) : State :=
  ((s.wb p F.ZE_HARM_STAT_STALE true).wWord p R.ZE_V1 0).wWord p R.ZE_I1 0

/-- The tracker at a zero crossing (R159): lock after five cycles within ±10 mHz of the first of the run, the reference that
R159 leaves open (notes/assumptions/150); loss after three weak cycles or outside 44.5 … 65.5 Hz. While unlocked, V1 and I1
read 0 (R161). -/
def track (s : State) (p : Phys) (c : CycleData) : State :=
  let m := s.mt p
  let near := decide (c.freq ≤ m.lockRef + 10 ∧ m.lockRef ≤ c.freq + 10)
  let strong := decide (s.kv p ≤ c.v1 * 10)
  let weak := decide (c.v1 * 20 < s.kv p)
  let run := if strong ∧ 45000 ≤ c.freq ∧ c.freq ≤ 65000 then (if near then m.lockRun + 1 else 1) else 0
  let low := if weak then m.lowRun + 1 else 0
  let lock := if m.lock then !(decide (3 ≤ low) || decide (c.freq < 44500) || decide (65500 < c.freq))
    else decide (5 ≤ run)
  let s1 := s.onMt p (fun m => { m with
    lock := lock, freq := c.freq, lockRef := if near then m.lockRef else c.freq, lockRun := run, lowRun := low,
    qinc := m.qinc || !lock })
  let s2 := s1.wbEvt p F.ZE_STAT_LOCK lock 4 EVT.ZE_LOCK
  if m.lock && !lock then (showUnlocked s2 p).err p 4 0 0x4B01 else s2

/-- A quotient; what the firmware shows over a divisor of 0 is free. -/
def quot (a b : Rat) : Rat := if b = 0 then Config.overZero 0 else a / b

/-- The quantities of the cycle whose sums the meter holds (R161). Without a tracked fundamental, Q and DPF read 0. DPF has the
magnitude of cos φ1 and the sign of P (notes/assumptions/152). -/
def cycleOf (m : Meter) (tracked : Bool) (f : Nat) : Cyc :=
  let t := m.sumT
  let v := Config.sqrt (m.sumV2 / t)
  let i := Config.sqrt (m.sumI2 / t)
  let pw := m.sumP / t
  let sw := v * i
  let dot := m.phV.1 * m.phI.1 + m.phV.2 * m.phI.2
  let mag2 := (m.phV.1 * m.phV.1 + m.phV.2 * m.phV.2) * (m.phI.1 * m.phI.1 + m.phI.2 * m.phI.2)
  let c := absRat (quot dot (if mag2 = 0 then 0 else Config.sqrt mag2))
  { vrms := v, irms := i, p := pw, s := sw, pf := if sw = 0 then 0 else pw / sw, freq := f, dur := t,
    start := m.startAt, tracked := tracked,
    q := if tracked then 2 * (m.phV.1 * m.phI.2 - m.phV.2 * m.phI.1) / (t * t) else 0,
    dpf := if tracked then (if pw < 0 then -c else c) else 0 }

/-- One share of a finished cycle booked (R163 to R165): the gaps filled in it, its active energy unless the cycle creeps, and the
cycle's reactive and apparent energy in proportion to its pair time. -/
def bookShare (creep react : Bool) (quad : Nat) (x : Cyc) (m : Meter) (h : Share) : Meter :=
  addEnergy (addEnergy m h.gap) (energies creep react quad h.imp h.exp x.q x.s h.t)

/-- The shares of a finished cycle booked in their order (R38, R163); after each earlier one, what the accumulators hold is the
end of its interval. -/
def bookCycle (creep react : Bool) (quad : Nat) (x : Cyc) (m : Meter) : Meter :=
  let m1 := m.shares.foldl (fun (m : Meter) h =>
    let n := bookShare creep react quad x m h
    { n with cuts := n.cuts ++ [(n.acc, h.synth)] }) m
  { bookShare creep react quad x m1 m.share with shares := [], share := {} }

/-- The end of a cycle with the tracker as it was in it (R161, R163 to R165). -/
def endCycle (s : State) (p : Phys) (f : Nat) : State :=
  let m := s.mt p
  if m.sumT ≤ 0 then (if m.shares.isEmpty then s else s.onMt p (fun m => bookCycle false false 0 {} m))
  else
    let x := cycleOf m m.lock f
    let quad := if m.lock then quadrant x.p x.q else (if 0 ≤ x.p then 0 else 1)
    let creep := creeps s p x.p
    let react := reactive s p
    let s1 := s.onMt p (fun m =>
      { bookCycle creep react quad x m with
        sumV2 := 0, sumI2 := 0, sumP := 0, sumT := 0, phV := (0, 0), phI := (0, 0), startAt := m.prevAt, last := x,
        win := keepLast 10 (m.win ++ [x]),
        samples := match keepLast 10 (m.win ++ [x]) with
          | c :: _ => m.samples.filter (fun y => decide (c.start ≤ y.1))
          | [] => [],
        qinc := m.qinc || !react,
        secP := m.secP + x.p * x.dur, secQ := m.secQ + x.q * x.dur, secS := m.secS + x.s * x.dur,
        secT := m.secT + x.dur })
    (s1.w p F.ZE_STAT_QUAD quad).wb p F.ZE_STAT_CREEP creep

/-- The length of an unlocked cycle [1/64 µs]: 20.000 ms or 16.667 ms (R160). -/
def fixedCycle (s : State) (p : Phys) : Rat := if s.gb p F.ZE_CFG_FNOM then 16667 * 64 else 20000 * 64

/-- What a zero crossing ends and begins (R160): a locked cycle ends at each; the crossing that acquires lock ends the fixed cycle
under way and begins the first fundamental cycle. While unlocked, the fixed time ends a cycle. -/
def cycleEnd (s : State) (p : Phys) (c : Option CycleData) : State :=
  let m := s.mt p
  match c with
  | some d =>
    if m.lock then track (endCycle s p d.freq) p d
    else
      let s1 := track s p d
      if (s1.mt p).lock then track (endCycle s p (fnom s p)) p d else s1
  | none => if !m.lock && decide (fixedCycle s p ≤ m.sumT) then endCycle s p (fnom s p) else s

/-- The meter brought to an end at an instant: the pair before weighted up to it, the cycle under way booked (R166). -/
def finishMeter (s : State) (p : Phys) : State :=
  endCycle (integrate s p (s.base p)) p (meterFreq s p)

/-- An interval boundary passes at an instant (R38): the time still to fill ends at it and goes on, the pair before belongs to the
interval that closes, and with it the cycle's share so far. True while that share waits for the end of its cycle. -/
def cutMeter (s : State) (p : Phys) (at_ : Nat) : State × Bool :=
  let s1 := fillUpTo s p at_
  let m := s1.mt p
  if !m.haveP && decide (m.sumT = 0) && m.shares.isEmpty then (s1, false)
  else
    (s1.onMt p (fun m => { m with
      shares := m.shares ++ [m.share], share := {},
      cutAt := match m.cutAt with
        | some c => some c
        | none => if m.haveP then some (at_, m.shares.length) else none }), true)

/-! ### Capture (R176 to R181) -/

/-- Mode, trigger source and averaging of a capture (R177, R186). -/
def capMode (w : Word) : Nat := let m := fieldOf w 31 30; if m = 3 then 0 else m
/-- The trigger source; 5 … 7 are taken as 0. -/
def capSrc (w : Word) : Nat := let m := fieldOf w 29 27; if 4 < m then 0 else m
/-- The averaging exponent, at most 8; in FAST at most 4 (R177). -/
def capDec (w : Word) (fast : Bool) : Nat := min (fieldOf w 26 23) (if fast then 4 else 8)

/-- A capture word (R181). -/
def capWord (tag : Nat) (sat : Bool) (code : Nat) : Word := BitVec.ofNat 32 (tag * 2 ^ 30 + bit1 sat * 2 ^ 29 + code)

/-- The capture registers brought into line with the engine (R186). -/
def syncCap (s : State) (p : Phys) : State :=
  let c := (s.mt p).cap
  s.onR p (fun r =>
    ((((r.putNat F.ZE_CAP_STAT_STATE c.state).putBit F.ZE_CAP_STAT_DOWNGRADED c.down).putBit F.ZE_CAP_STAT_ABORTED
      c.abort).putNat F.ZE_CAP_STAT_TRIG_IDX c.trigAt).putNat F.ZE_CAP_PTR_COUNT (c.words.length % 65536))

/-- ARM (R176): ignored and counted while a capture is armed or running. -/
def capArm (s : State) (p : Phys) : State :=
  let c := (s.mt p).cap
  if c.state = 1 ∨ c.state = 2 then s.bump p F.ZE_CAP_STAT_CAP_DROP
  else
    let s1 := s.onCap p (fun c => { c with
      state := 1, cfg := (s.z p).regs.word R.ZE_CAP_CFG, words := [], trigAt := 0, fast := false, marked := false,
      accV := [], accI := [], satV := false, satI := false, half := none, down := false, abort := false })
    noteBusy s p (syncCap s1 p)

/-- SQ0 as the default sequences have it (R129), or as one ILV entry for FAST (R177). -/
def setSq0 (s : State) (p : Phys) (fast : Option Nat) : State :=
  match fast with
  | some ch => ((s.wWord p R.ZC_ENT_CFG_k (BitVec.ofNat 32 (4 * 2 ^ 29 + ch * 2 ^ 23)) 0).w p F.ZC_SEQ_PER_q_PERIOD 64
      0)
  | none => (s.wWord p R.ZC_ENT_CFG_k (regReset (R.ZC_ENT_CFG_k.at 0)) 0).wWord p R.ZC_SEQ_PER_q
      (regReset (R.ZC_SEQ_PER_q.at 0)) 0

/-- The relay driver that waits for the ILV entry switches now (R178). -/
def endWait (s : State) (p : Phys) : State :=
  match (s.mt p).cap.drvWait with
  | some j =>
    refreshOut ((s.onCap p (fun c => { c with drvWait := none })).onOut p j (fun o => { o with waitCap := false })) p j
  | none => s

/-- The capture ends with the words taken so far (R176, R177); a driver that still waits switches. -/
def capDone (s : State) (p : Phys) : State :=
  let c := (s.mt p).cap
  let s1 := ((endWait s p).onCap p (fun c => { c with state := 3, fast := false })).evt p 4 EVT.ZE_CAP_DONE
  let s2 := if c.fast then (firmwareSeqs (setSq0 s1 p none) p true).wb p F.ZE_STAT_FAST false else s1
  noteBusy s p (syncCap s2 p)

/-- The longest post-trigger time of FAST with `held` words kept [ms] (R179). -/
def fastTime (cfg : Word) (held : Nat) : Rat := ((Config.captureSize - held : Nat) : Rat) / 2000 * (2 ^ capDec cfg true : Nat)

/-- Whether FAST may run (R179). -/
def fastAllowed (s : State) (p : Phys) : Bool :=
  let m := s.mt p
  m.lock && s.gb p F.ZE_HARM_STAT_VALID && !s.gb p F.ZE_HARM_STAT_STALE
    && decide (m.cap.fastMs + fastTime m.cap.cfg m.cap.words.length ≤ 1000)

/-- The trigger of an armed capture (R177, R179, R181). Pairs between a FAST trigger and the first FAST sample are not stored, which
R177 leaves open (notes/assumptions/149). -/
def capTrigger (s : State) (p : Phys) : State :=
  let c := (s.mt p).cap
  if c.state ≠ 1 then s
  else
    let fast := capMode c.cfg != 0
    let ok := fast && fastAllowed s p
    let s1 := (s.onCap p (fun c => { c with
      state := 2, trigAt := c.words.length, fast := ok, down := fast && !ok, accV := [], accI := [], satV := false,
      satI := false })).evt p 4 EVT.ZE_CAP_TRIG
    let s2 := s1.onR p (fun r => r.put64 R.ZE_CAP_TS_LO R.ZE_CAP_TS_HI (s.slNow p))
    let s3 := if fast && !ok then s2.err p 4 0 0x1B04 else s2
    let s4 := if ok then
        (setSq0 (holdReadings (firmwareSeqs s3 p false) p) p (some (capMode c.cfg - 1))).wb p F.ZE_STAT_FAST true
      else s3
    syncCap s4 p

/-- A relay driver that is switched on (R176, R178): the trigger, and whether the driver waits for FAST. -/
def capRelay (s : State) (p : Phys) (j : Out) : State × Bool :=
  let c := (s.mt p).cap
  if c.state = 1 ∧ capSrc c.cfg = j.val ∧ 3 ≤ j.val then
    let s1 := capTrigger s p
    if (s1.mt p).cap.fast then (s1.onCap p (fun c => { c with drvWait := some j }), true) else (s1, false)
  else (s, false)

/-- STOP ends a capture at once (R176). -/
def capStop (s : State) (p : Phys) : State :=
  let c := (s.mt p).cap
  if c.state = 1 ∨ c.state = 2 then capDone s p else s

/-- A capture aborted by a migration, a module state change or a reset (R180): the buffer is discarded. -/
def capAbort (s : State) (p : Phys) : State :=
  let c := (s.mt p).cap
  if c.state = 1 ∨ c.state = 2 then
    let s1 := (endWait s p).onCap p (fun c => { c with state := 0, words := [], abort := true, fast := false })
    let s2 := if c.fast then (firmwareSeqs (setSq0 s1 p none) p true).wb p F.ZE_STAT_FAST false else s1
    noteBusy s p ((syncCap s2 p).err p 4 0 0x1B05)
  else s

/-- Words stored (R177): before the trigger the ring keeps PRE × 256 words; a full buffer ends the capture. -/
def capStore (s : State) (p : Phys) (l : List Word) : State :=
  let c := (s.mt p).cap
  if c.state = 1 then
    syncCap (s.onCap p (fun c => { c with words := keepLast (fieldOf c.cfg 15 8 * 256) (c.words ++ l) })) p
  else if c.state = 2 then
    let w := (c.words ++ l).take Config.captureSize
    let s1 := s.onCap p (fun c => { c with words := w })
    if Config.captureSize ≤ w.length then capDone s1 p else syncCap s1 p
  else s

/-- A pair of SQ0 offered to the capture ring (R177): the pair or the mean of 2^DEC pairs, voltage first. -/
def capPair (s : State) (p : Phys) (v i : Int) (satV satI : Bool) : State :=
  let c := (s.mt p).cap
  if c.state = 0 ∨ c.state = 3 ∨ c.fast then s
  else
    let av := c.accV ++ [v]
    let ai := c.accI ++ [i]
    let sv := c.satV || satV
    let si := c.satI || satI
    if 2 ^ capDec c.cfg false ≤ av.length then
      capStore (s.onCap p (fun c => { c with accV := [], accI := [], satV := false, satI := false })) p
        [capWord 0 sv (imageOf 24 (meanCode av)), capWord 1 si (imageOf 24 (meanCode ai))]
    else s.onCap p (fun c => { c with accV := av, accI := ai, satV := sv, satI := si })

/-- One sample of FAST (R177): the marker stands before the first, and a waiting relay driver switches (R178). -/
def capFast (s : State) (p : Phys) (code : Int) (sat : Bool) (at_ : Nat) : State :=
  let c := (s.mt p).cap
  if c.state ≠ 2 ∨ !c.fast then s
  else
    let s1 := if c.marked then s
      else capStore (s.onCap p (fun c => { c with marked := true })) p [capWord 3 false (ticksOf at_)]
    let s2 := endWait s1 p
    let c2 := (s2.mt p).cap
    let av := c2.accV ++ [code]
    let sv := c2.satV || sat
    if 2 ^ capDec c2.cfg true ≤ av.length then
      capStore (s2.onCap p (fun c => { c with accV := [], satV := false })) p
        [capWord (capMode c2.cfg - 1) sv (imageOf 24 (meanCode av))]
    else s2.onCap p (fun c => { c with accV := av, satV := sv })

/-- The end of a half cycle (R176): its rms values, IRISE and VDIP judged as they pass through THR % of their rated value. -/
def capHalf (s0 : State) (p : Phys) : State :=
  let m := s0.mt p
  let v := Config.sqrt (m.halfV2 / m.halfT)
  let i := Config.sqrt (m.halfI2 / m.halfT)
  let s := s0.onMt p (fun m => { m with halfV2 := 0, halfI2 := 0, halfT := 0 })
  let c := m.cap
  let thr : Rat := (fieldOf c.cfg 7 0 : Rat) / 100
  let tv := thr * s.kv p
  let ti := thr * (s.ki p * s.ratedI p)
  let s1 := s.onCap p (fun c => { c with half := some (v, i) })
  match c.half with
  | none => s1
  | some (v0, i0) =>
    if c.state = 1 ∧ ((capSrc c.cfg = 1 ∧ i0 < ti ∧ ti ≤ i) ∨ (capSrc c.cfg = 2 ∧ tv ≤ v0 ∧ v < tv)) then
      capTrigger s1 p
    else s1

/-! ### A finished SQ0 conversion -/

/-- A channel of FAST synthesised from the last harmonic window at a hold edge (R179): the sum of its harmonics at the tracker's
phase, from its fundamental [mV, mA] and its table. -/
def synthesise (s : State) (p : Phys) (fund tab : Reg) (at_ : Nat) : Rat :=
  let m := s.mt p
  let th := angleOf m.freq (at_ - m.startAt)
  let sum : Rat := (List.range 50).foldl (fun (x : Rat) h =>
    let w := (s.z p).regs.word tab h
    x + (fieldOf w 31 16 : Rat) / 10000
      * Config.sin (((h + 1 : Nat) : Rat) * th + (signedOf 16 (fieldOf w 15 0) : Rat) / 18000 * Config.pi)) 0
  Config.sqrt 2 * ((((s.z p).regs.word fund).toNat : Nat) : Rat) / 1000 * sum

/-- One sample of FAST metered with its synthesised other channel (R179); the time since the sample before is synthesised time. -/
def takeFast (s : State) (p : Phys) (isV : Bool) (code : Int) (sat : Bool) (at_ : Nat) : State :=
  let m := s.mt p
  let ms := if m.haveP then pairSpacing s p m.prevAt at_ / 64000 else 0
  let dt := stampsBetween m.prevAt at_
  let s1 := integrate s p at_
  let s2 := if isV then
      let a := passV s1 p (contactV s p code) dt
      holdPair a.1 p at_ a.2 (synthesise s1 p R.ZE_I1 R.ZE_HI_h at_) sat false
    else
      let b := passI s1 p (contactI s p code) dt at_
      holdPair b.1 p at_ (synthesise s1 p R.ZE_V1 R.ZE_HV_h at_) b.2 false sat
  let s3 := s2.onMt p (fun m => { m with synth := m.synth + ms, cap := { m.cap with fastMs := m.cap.fastMs + ms } })
  capFast (showSynth s3 p) p code sat at_

/-- The meter's share of a finished SQ0 conversion (R157, R177, R179): a pair of VS and IS, or the two samples of an ILV
conversion of FAST in the order of their hold edges. -/
def meterTake (s : State) (p : Phys) (x : ConvDone) : State :=
  if entMode x.cfg = 4 then
    let isV := entA x.cfg == 0
    takeFast (takeFast s p isV x.a x.satA x.atA) p isV x.b x.satB x.atB
  else if entA x.cfg = 0 ∧ entB x.cfg = 1 ∧ entBoth x.cfg then
    capPair (takePair s p (contactV s p x.a) (contactI s p x.b) x.atA x.satA x.satB) p x.a x.b x.satA x.satB
  else s

/-- Whether a half cycle ends (R176): as the tracker finds it, or after half the fixed cycle while unlocked. -/
def halfEnds (s : State) (p : Phys) (half : Bool) : Bool :=
  let m := s.mt p
  if m.lock then half else decide (fixedCycle s p ≤ 2 * m.halfT)

/-- The meter after a finished SQ0 conversion: the pair, the half cycle and the cycle that end with it. -/
def meterConversion (s : State) (p : Phys) (x : ConvDone) (d : ConvData) : State :=
  if x.q ≠ 0 then s
  else
    let s1 := meterTake s p x
    let s2 := if halfEnds s1 p d.half && decide (0 < (s1.mt p).halfT) then capHalf s1 p else s1
    cycleEnd s2 p d.cycle

/-! ### Published values (R156, R162, R169) -/

/-- A non-negative value in register units, saturating at 32 bits. -/
def regUnits (q : Rat) : Nat := satTo 32 (Config.toUnits q).toNat

/-- A clip flag published for a window (R156). -/
def publishClip (s : State) (p : Phys) (x : Fld) (mark : Bool) (code : Nat) : State :=
  if mark && !s.gb p x then ((s.wb p x true).evt p 4 EVT.ZE_CLIP).err p 4 0 code else s.wb p x mark

/-- Bin `h` of the transform of 256 points per cycle (R169): cosine and sine sums. -/
def binOf (h : Nat) (l : List Rat) : Rat × Rat :=
  l.zipIdx.foldl (fun (x : Rat × Rat) c =>
    let a := 2 * Config.pi * ((h * c.2 % 256 : Nat) : Rat) / 256
    (x.1 + c.1 * Config.cos a, x.2 - c.1 * Config.sin a)) (0, 0)

/-- The magnitude of a bin. -/
def magOf (x : Rat × Rat) : Rat := Config.sqrt (x.1 * x.1 + x.2 * x.2)

/-- The angle of a bin in units of 0.01° (R185). -/
def argOf (x : Rat × Rat) : Rat :=
  let a : Rat := if 0 < x.1 then Config.atan (x.2 / x.1)
    else if x.1 < 0 then Config.atan (x.2 / x.1) + (if 0 ≤ x.2 then Config.pi else -Config.pi)
    else if 0 < x.2 then Config.pi / 2 else if x.2 < 0 then -Config.pi / 2 else Config.overZero 1
  a * 18000 / Config.pi

/-- A phase in 0.01° brought to −180.00 … +179.99 (R185). -/
def wrapPhase (n : Int) : Int := (n + 18000) % 36000 - 18000

/-- One entry of a harmonic table (R169, R185): the magnitude over the channel's fundamental and the phase relative to the voltage
fundamental. -/
def harmWord (fund : Rat) (ref : Rat) (x : Rat × Rat) : Word :=
  BitVec.ofNat 32 (satTo 16 (Config.toUnits (quot (magOf x) fund * 10000)).toNat * 2 ^ 16
    + imageOf 16 (wrapPhase (Config.toUnits (argOf x - ref))))

/-- THD of the bins 1 … 50 in 0.01 % (R169). -/
def thdOf (l : List (Rat × Rat)) : Nat :=
  match l with
  | [] => 0
  | f :: hs =>
    let sum : Rat := hs.foldl (fun (x : Rat) y => x + (y.1 * y.1 + y.2 * y.2)) 0
    satTo 16 (Config.toUnits (quot (Config.sqrt sum) (magOf f) * 10000)).toNat

/-- The harmonic window (R169, R170): both channels resampled at the instants `grid` after the window's beginning, where the
tracker's phase passes multiples of 1/256 of a cycle; harmonics 1 … 50, THD, V1 and I1. -/
def publishHarm (s : State) (p : Phys) (start : Nat) (grid : List Rat) : State :=
  let m := s.mt p
  let chan := fun (f : Nat × Rat × Rat → Rat) =>
    let l := m.samples.map (fun y => (y.1, f y))
    grid.map (fun g => Config.resample l ((start : Rat) + g * 1562500))
  let bins := fun (l : List Rat) => (List.range 50).map (fun h => binOf (h + 1) l)
  let bv := bins (chan (fun y => y.2.1))
  let bi := bins (chan (fun y => y.2.2))
  let fund := fun (l : List (Rat × Rat)) => match l with | x :: _ => magOf x | [] => 0
  let ref := match bv with | x :: _ => argOf x | [] => 0
  let rms := fun (x : Rat) => Config.toUnits (x * Config.sqrt 2 * 1000 / 2560)
  let tab := fun (r : RegFile) (reg : Reg) (l : List (Rat × Rat)) =>
    l.zipIdx.foldl (fun r c => r.putWord reg (harmWord (fund l) ref c.1) c.2) r
  let s1 := s.onR p (fun r =>
    let r1 := tab (tab r R.ZE_HV_h bv) R.ZE_HI_h bi
    let r2 := (r1.putWord R.ZE_HV_h (BitVec.ofNat 32 (10000 * 2 ^ 16)) 0).putNat F.ZE_THD_THD_V (thdOf bv)
    let r3 := ((r2.putNat F.ZE_THD_THD_I (thdOf bi)).putWord R.ZE_V1
      (BitVec.ofNat 32 (satTo 32 (rms (fund bv)).toNat))).putWord R.ZE_I1
      (BitVec.ofNat 32 (satTo 32 (rms (fund bi)).toNat))
    ((r3.putBit F.ZE_HARM_STAT_VALID true).putBit F.ZE_HARM_STAT_STALE false).putNat F.ZE_HARM_STAT_WIN
      (r3.nat F.ZE_HARM_STAT_WIN + 1))
  s1.evt p 4 EVT.ZE_HARM

/-- WINDOW_PUBLISH: the means of ten cycles and, over ten cycles of the locked tracker, the harmonic window (R162, R169). F shows
the mean of the cycles' frequencies while VALID is 0 too, which R185 leaves open (notes/assumptions/148). -/
def publishWindow (s : State) (p : Phys) (grid : List Rat) : State :=
  let m := s.mt p
  if m.win.length < 10 then s
  else
    let mean := fun (f : Cyc → Rat) => meanOf (m.win.map f)
    let pw := mean (fun c => c.p)
    let s1 := s.onR p (fun r =>
      let r1 := (r.putBit F.ZE_FREQ_VALID m.lock).putNat F.ZE_FREQ_F (regUnits (mean (fun c => (c.freq : Rat))))
      let r2 := (r1.putWord R.ZE_VRMS (BitVec.ofNat 32 (regUnits (mean (fun c => c.vrms) * 1000)))).putWord R.ZE_IRMS
        (BitVec.ofNat 32 (regUnits (mean (fun c => c.irms) * 1000)))
      let r3 := ((r2.putWord R.ZE_P (BitVec.ofInt 32 (Config.toUnits (pw * 1000)))).putWord R.ZE_Q
        (BitVec.ofInt 32 (Config.toUnits (mean (fun c => c.q) * 1000)))).putWord R.ZE_S
        (BitVec.ofNat 32 (regUnits (mean (fun c => c.s) * 1000)))
      (r3.putInt F.ZE_PF_PF (Config.toUnits (mean (fun c => c.pf) * 10000))).putInt F.ZE_PF_DPF
        (Config.toUnits (mean (fun c => c.dpf) * 10000)))
    let s2 := publishClip (publishClip s1 p F.ZE_STAT_VCLIP m.markV 0x4B02) p F.ZE_STAT_ICLIP m.markI 0x4B03
    let neg := decide (pw < 0)
    let s3 := (s2.onMt p (fun m => { m with win := [], markV := false, markI := false, signP := neg })).evtIf
      (neg != m.signP) p 4 EVT.ZE_DIR
    match m.win with
    | c :: _ => if m.lock && m.win.all (fun x => x.tracked) then publishHarm s3 p c.start grid else s3
    | [] => s3

/-! ### Postings and resumption (R166) -/

/-- METER_POSTING: accumulators and remainders with the cycle under way booked, and the mean powers of the last second (R166). -/
def postMeter (s : State) (p : Phys) : State :=
  let m := s.mt p
  let div := fun (e l : Rat) => if m.secT = 0 then l else e / m.secT
  let post : Posting := {
    time := s.slNow p, acc := ((finishMeter s p).mt p).acc, p := div m.secP m.last.p, q := div m.secQ m.last.q,
    s := div m.secS m.last.s }
  ((s.onSl p (fun x => { x with posting := some post, postingOld := s.postingOf p })).wroteGen (.posting p false)
    (.posting p true)).onMt p (fun m => { m with
    secP := 0, secQ := 0, secS := 0, secT := 0 })

/-- A restored meter (R159, R166): the cycle that the checkpoint held under way booked; nothing under way, the tracker unlocked. -/
def restartMeter (s0 : State) (p : Phys) : State :=
  let s := if (s0.mt p).lock then showUnlocked s0 p else s0
  ((endCycle s p (meterFreq s p)).onMt p (fun m => { m with
    haveP := false, cutAt := none, fill := none, halfV2 := 0, halfI2 := 0, halfT := 0, curs := [], win := [], samples := [],
    lock := false, lockRef := 0, lockRun := 0, lowRun := 0, qinc := true })).wbEvt p F.ZE_STAT_LOCK false 4 EVT.ZE_LOCK

/-- The meter taken up on slice `p` from the later of the checkpoint's accumulators (already loaded, of house time `ck`) and a
posting; with `fills`, the time from there to the first pair is filled with the posting's mean powers (R166). -/
def resumeMeter (s : State) (p : Phys) (ck : Nat) (post : Option Posting) (fills : Bool) : State :=
  let s0 := restartMeter s p
  match post with
  | none => s0
  | some x => s0.onMt p (fun m => { m with
      acc := if ck ≤ x.time then x.acc else m.acc,
      fill := if fills then some { time := max ck x.time, p := x.p, q := x.q, s := x.s } else none })

/-! ### The checkpoint (R35, R39) -/

/-- A checkpoint written to both banks (R35): the zone's state with the cycle under way booked, the slice's time base and trims; the
one before is kept. -/
def writeCheckpoint (s : State) (p : Phys) : State :=
  let z := (finishMeter s p).z p
  releaseLarder ((s.onSl p (fun x => { x with
    ckptOld := s.ckptOf p, ckpt := some { time := s.slNow p, base := x.time.base, zone := z }, trimsCk := x.trims,
    ckptDue := false })).wroteGen (.ckpt p false) (.ckpt p true))

/-! ### The commands -/

/-- CHECKPOINT (R35). -/
def execCheckpoint (p : Phys) (s : State) : Host.Outcome State Fault Refusal :=
  onRunning s p (fun s => writeCheckpoint s p)

/-- WINDOW_PUBLISH (R162). -/
def execWindowPublish (p : Phys) (grid : List Rat) (s : State) : Host.Outcome State Fault Refusal :=
  onRunning s p (fun s => publishWindow s p grid)

/-- METER_POSTING (R166). -/
def execMeterPosting (p : Phys) (s : State) : Host.Outcome State Fault Refusal :=
  onRunning s p (fun s => postMeter s p)

/-- FAST_DRIVER_SWITCH (R178): the ILV entry is in effect and the waiting relay driver switches. -/
def execFastDriverSwitch (p : Phys) (s : State) : Host.Outcome State Fault Refusal :=
  onRunning s p (fun s => endWait s p)

end Sys2Proof.Machine
end

