-- ==== Sys2Proof/Machine/Outputs.lean ====
section
/-! DEFINITION. The field outputs: mapping, current limits and the governor, over-current, read-back, tachometer, SAFE,
hold and release (chapter 09). Requests and applied values are in 0.01 %. -/
namespace Sys2Proof.Machine

/-! ### Driving -/

/-- The SAFE value of an output as a request (R288, R300); 0xFF switches an AO driver off. -/
def safeValue (s : State) (p : Phys) (j : Out) : Rat :=
  let v := s.g p F.ZO_CFG_j_SAFE j
  if isAo j && v == 0xFF then 0 else (v : Rat) * 100

/-- The SAFE value driven (R300). -/
def driveSafe (s : State) (p : Phys) (j : Out) : State :=
  refreshOut (s.onOut p j (fun o => if o.held then o else { o with safe := true, req := safeValue s p j })) p j

/-- A request for an output (R302): pinned while held; a relay driver switched on may trigger a capture (R176). -/
def request (s : State) (p : Phys) (j : Out) (x : Rat) : State :=
  let o := s.out p j
  if o.held then s
  else
    let on := isDo j && decide (0 < x) && decide (o.req ≤ 0) && o.pulse.isNone
    let c := if on then capRelay s p j else (s, false)
    refreshOut (c.1.onOut p j (fun o => { o with req := x, safe := false, waitCap := o.waitCap || c.2 })) p j

/-! ### Limits (R292 to R295) -/

/-- The value measured on a driver with whether it is in its limit (R292 to R294): AO pin [mV], PWM sink current
[0.01 mA], DO current [0.1 mA]. -/
def measureOut (s : State) (p : Phys) (j : Out) (v : Nat) (lim : Bool) : State :=
  let s0 := s.w p F.ZO_MEAS_j_VAL (satTo 16 v) j
  let o := s.out p j
  let low := decide ((s.z p).outs.fact < 100)
  if o.held then s0
  else if isAo j then
    let gov := lim && low
    let s1 := s0.onOut p j (fun o => { o with ilim := lim, gov := gov })
    let s2 := if gov && !o.gov then s1.err p 0xA j.val 0x4D07 else s1
    if lim then s2.onOut p j (fun o => { o with applied := aoBack s p j v, pin := v }) else refreshOut s2 p j
  else if isDo j then
    let on := decide (0 < o.applied)
    let gov := on && lim && low
    let s1 := s0.onOut p j (fun o => { o with
      ilim := lim, gov := o.gov || gov, govOff := o.govOff || gov, lastMa := if on then v else o.lastMa,
      ovcRun := if on && !lim then 0 else o.ovcRun, open_ := o.open_ && !(on && decide (20 < v)) })
    if gov && !o.gov then
      let s2 := refreshOut (s1.err p 0xA j.val 0x4D07) p j
      refreshOut (endPulse s2 p j resFault 3) p j
    else s1
  else s0.onOut p j (fun o => { o with ilim := lim })

/-- The governor's DO switched on again once ILIM × f exceeds the last on-current by 10 % (R294), or once f is 100 %, where GOV
cannot hold (R292; notes/assumptions/153). -/
def govRetry (s : State) (p : Phys) (j : Out) : State :=
  let o := s.out p j
  if o.govOff && (decide (100 ≤ (s.z p).outs.fact)
      || decide (o.lastMa * 1100 < ilimOf s p j * (s.z p).outs.fact * 10)) then
    refreshOut (s.onOut p j (fun o => { o with govOff := false, gov := false })) p j
  else s

/-- The throttle factor f published to a slice (R292, R506): ZO_STAT.FACT, governor states judged anew. -/
def setFactor (s : State) (p : Phys) (f : Nat) : State :=
  let s1 := (s.onOuts p (fun x => { x with fact := f })).w p F.ZO_STAT_FACT f
  let s2 := govRetry (govRetry s1 p 3) p 4
  if 100 ≤ f then
    ([0, 1] : List Out).foldl (fun (s : State) (j : Out) => s.onOut p j (fun o => { o with gov := false })) s2
  else s2

/-- AO_LIMIT_TIMEOUT: an AO in its limit for more than 10 s (R293). -/
def aoLimit (s : State) (p : Phys) (j : Out) : State :=
  let o := s.out p j
  if isAo j && o.ilim && !o.held then s.err p 0xA j.val 0x8D01 else s

/-- DO_OVERCURRENT_TRIP: a DO in its full limit for 5 ms (R294): switched off; the third time in a row it stays off. A limit below
ILIM is the governor's (R292). -/
def doTrip (s : State) (p : Phys) (j : Out) : State :=
  let o := s.out p j
  if isDo j && !o.held && decide (0 < o.applied) && decide (100 ≤ (s.z p).outs.fact) then
    let n := o.ovcRun + 1
    let last := decide (3 ≤ n)
    let s1 := s.onOut p j (fun o => { o with ilim := true, ovcOff := !last, ovcRun := n, latched := last })
    let s2 := refreshOut (s1.bump p F.ZO_CNT_OVC) p j
    if last then refreshOut (endPulse (s2.err p 0xA j.val 0x8D03) p j resFault 2) p j else s2
  else s

/-- DO_RETRY: 10 s after a trip the DO is switched on again if its request is still on (R294). -/
def doRetry (s : State) (p : Phys) (j : Out) : State :=
  let o := s.out p j
  if o.ovcOff && !o.held then
    refreshOut (s.onOut p j (fun o => { o with ovcOff := false, ilim := false })) p j
  else s

/-- A latched over-current cleared by ZO_CTRL.CLR_j or a module reset (R294). -/
def clearOvc (s : State) (p : Phys) (j : Out) : State :=
  if isDo j then
    refreshOut (s.onOut p j (fun o => { o with latched := false, ovcOff := false, ovcRun := 0 })) p j
  else s

/-- DO_OPEN_LOAD: a DO that is on carries less than 2 mA for 1 s (R294). -/
def doOpen (s : State) (p : Phys) (j : Out) : State :=
  let o := s.out p j
  if isDo j && !o.held && decide (0 < o.applied) && !o.open_ then
    (s.onOut p j (fun o => { o with open_ := true })).err p 0xA j.val 0x4D04
  else s

/-- AO_READBACK_MISMATCH: the pin outside its tolerance for 1 s, or within it for 1 s (R295). -/
def aoReadback (s : State) (p : Phys) (j : Out) (off : Bool) : State :=
  let o := s.out p j
  if !isAo j || o.ilim then s
  else if off && !o.rbk then (s.onOut p j (fun o => { o with rbk := true })).err p 0xA j.val 0x4D02
  else if !off && o.rbk then s.onOut p j (fun o => { o with rbk := false })
  else s

/-! ### Release (R303) -/

/-- A release write for output `j` (R303): the pinned request is freed; rejected while HELD or MATCH is 0. -/
def releaseOut (s : State) (p : Phys) (j : Out) : State :=
  let o := s.out p j
  if o.held && o.match_ then s.onOut p j (fun o => { o with held := false, match_ := false, safe := false })
  else (s.bump p F.ZO_CNT_REL_REJ).err p 0xA j.val 0x1D08

/-- The releases the firmware makes at a loop tick (R303): every matched output unless HOSTREL is 1. -/
def firmwareRelease (s : State) (p : Phys) : State :=
  if s.gb p F.ZO_GCFG_HOSTREL then s
  else (List.finRange 5).foldl (fun (s : State) (j : Fin 5) =>
    let o := s.out p j
    if o.held && o.match_ then releaseOut s p j else s) s

/-! ### What SQ2 measures (R115, R292 to R295) -/

/-- The output that a channel measures, with its value: AO pin [mV], PWM sink current [0.01 mA], DO current [0.1 mA], from the
converter input and the scales of R115. -/
def measuredBy (ch : Nat) (code : Int) : Option (Out × Nat) :=
  let v := codeVolts code
  let val := fun (k : Rat) => (Config.toUnits (v * k)).toNat
  match ch with
  | 0x0C => some (0, val 4000)
  | 0x0D => some (1, val 4000)
  | 0x11 => some (2, val 10000)
  | 0x0F => some (3, val 1000)
  | 0x10 => some (4, val 1000)
  | _ => none

/-- The outputs that a finished SQ2 entry has measured. -/
def outConversion (s : State) (p : Phys) (x : ConvDone) (d : ConvData) : State :=
  let one := fun (s : State) (ch : Nat) (code : Int) (lim : Bool) =>
    match measuredBy ch code with
    | some (j, v) => measureOut s p j v lim
    | none => s
  match x.mean with
  | some (a, b) =>
    if x.q = 2 then
      let s1 := one s (entA x.cfg) a d.limA
      if entBoth x.cfg then one s1 (entB x.cfg) b d.limB else s1
    else s
  | none => s

/-! ### Tachometer (R296, R297) -/

/-- The speed in rpm from the periods [µs] of the last PPR pulses (R296). -/
def tachSpeed (ppr : Nat) (l : List Nat) : Nat :=
  let last := keepLast ppr l
  let sum : Nat := last.foldl (· + ·) 0
  if last.length < ppr ∨ sum = 0 then 0 else satTo 16 (Config.toUnits ((60000000 : Rat) / (sum : Rat))).toNat

/-- TACH_PULSE: an accepted pulse after `period` µs (R296, R297). -/
def tachPulse (s : State) (p : Phys) (period : Nat) : State :=
  let x := (s.z p).outs
  if x.tach.on then s
  else
    let ppr := s.g p F.ZO_TACH_CFG_PPR + 1
    let l := keepLast 4 (x.periods ++ [period])
    let ends := x.stall && decide (2 ≤ x.pulses + 1)
    let s1 := s.onOuts p (fun x => { x with periods := l, pulses := x.pulses + 1, stall := x.stall && !ends })
    let s2 := (s1.w p F.ZO_TACH_RPM (tachSpeed ppr l)).wb p F.ZO_TACH_VALID (decide (ppr ≤ l.length))
    s2.wbEvt p F.ZO_TACH_STALL (x.stall && !ends) 0xA EVT.ZO_STALL

/-- FAN_STALL: no pulse for STALL_T (R296, R297): speed 0, and STALL while the duty is at least STALL_MIN. -/
def fanStalled (s : State) (p : Phys) : State :=
  let x := (s.z p).outs
  let s1 := (s.onOuts p (fun x => { x with periods := [], pulses := 0 })).w p F.ZO_TACH_RPM 0
  let o := s.out p 2
  if !x.tach.on && !x.stall && decide ((s.g p F.ZO_TACH_CFG_STALL_MIN : Rat) * 100 ≤ o.applied) then
    let s2 := ((s1.onOuts p (fun x => { x with stall := true })).wbEvt p F.ZO_TACH_STALL true 0xA EVT.ZO_STALL)
    (s2.bump p F.ZO_CNT_STALLS).err p 0xA 0 0x8D05
  else s1

/-- A pulse on TCH rejected by its filter (R297): more than 64 in a second declare CHATTER. -/
def tachReject (s : State) (p : Phys) : State :=
  let c := ((s.z p).outs.tach).reject (s.slUs p) 64
  let s1 := s.onOuts p (fun x => { x with tach := c.1 })
  if c.2 then
    let s2 := ((s1.wb p F.ZO_TACH_CHAT true).w p F.ZO_TACH_RPM 0).evt p 0xA EVT.ZO_TACH_CHAT
    (s2.bump p F.ZO_CNT_TACH_CHAT).err p 0xA 0 0x4D06
  else s1

/-- CHATTER of TCH cleared after 10 s without a rejection (R297). -/
def clearTachChatter (s : State) (p : Phys) : State :=
  let x := (s.z p).outs
  if x.tach.on then
    ((s.onOuts p (fun x => { x with tach := x.tach.cleared, periods := [], pulses := 0 })).wb p F.ZO_TACH_CHAT
      false).evt p 0xA EVT.ZO_TACH_CHAT
  else s

/-! ### Relay pulses (R371) -/

/-- A relay pulse starts, or ends at once with FAULT on a held or latched output (R371, R384). -/
def startPulse (s : State) (p : Phys) (z : Zone) (j : Out) (lseq dur : Nat) : State :=
  let o := s.out p j
  if o.held then markZone s lseq z resFault 1 0
  else if o.latched then markZone s lseq z resFault 2 0
  else
    let c := capRelay s p j
    let s1 := c.1.onOut p j (fun o => { o with pulse := some { lseq := lseq, dur := dur }, waitCap := o.waitCap || c.2 })
    noteBusy s p (refreshOut s1 p j)

/-- PULSE_END (R371, R384): the pulse ends and the output returns to its request. -/
def pulseOver (s : State) (p : Phys) (j : Out) (how : PulseEnd) : State :=
  if (s.out p j).pulse.isNone then s
  else
    let r : Nat × Nat := match how with
      | .expired => (resDone, 0) | .ceiling => (resFault, 3) | .governor => (resFault, 3) | .overCurrent => (resFault, 2)
    refreshOut (endPulse s p j r.1 r.2) p j

/-! ### The commands -/

/-- AO_LIMIT_TIMEOUT (R293). -/
def execAoLimitTimeout (p : Phys) (j : Out) (s : State) : Host.Outcome State Fault Refusal :=
  onRunning s p (fun s => aoLimit s p j)

/-- DO_OVERCURRENT_TRIP (R294). -/
def execDoOvercurrentTrip (p : Phys) (j : Out) (s : State) : Host.Outcome State Fault Refusal :=
  onRunning s p (fun s => doTrip s p j)

/-- DO_RETRY (R294). -/
def execDoRetry (p : Phys) (j : Out) (s : State) : Host.Outcome State Fault Refusal :=
  onRunning s p (fun s => doRetry s p j)

/-- DO_OPEN_LOAD (R294). -/
def execDoOpenLoad (p : Phys) (j : Out) (s : State) : Host.Outcome State Fault Refusal :=
  onRunning s p (fun s => doOpen s p j)

/-- AO_READBACK_MISMATCH (R295). -/
def execAoReadbackMismatch (p : Phys) (j : Out) (off : Bool) (s : State) : Host.Outcome State Fault Refusal :=
  onRunning s p (fun s => aoReadback s p j off)

/-- TACH_PULSE (R296). -/
def execTachPulse (p : Phys) (period : Nat) (s : State) : Host.Outcome State Fault Refusal :=
  onRunning s p (fun s => tachPulse s p period)

/-- FAN_STALL (R297). -/
def execFanStall (p : Phys) (s : State) : Host.Outcome State Fault Refusal :=
  onRunning s p (fun s => fanStalled s p)

/-- PULSE_END (R371). -/
def execPulseEnd (p : Phys) (j : Out) (how : PulseEnd) (s : State) : Host.Outcome State Fault Refusal :=
  onRunning s p (fun s => pulseOver s p j how)

end Sys2Proof.Machine
end

