-- ==== Sys2Proof/Machine/Water.lean ====
section
/-! DEFINITION. Density and specific enthalpy of water from IAPWS-IF97 region 1, the formulation that R194 names: its closed form
with the published coefficients, exact on the rationals (notes/assumptions/154). -/
namespace Sys2Proof.Machine

/-- The coefficients of region 1: I, J, and n as a whole number over a power of ten. -/
def if97 : List (Nat × Int × Int × Nat) :=
  [(0, -2, 14632971213167, 14), (0, -1, -84548187169114, 14), (0, 0, -3756360367204, 12), (0, 1, 33855169168385, 13),
   (0, 2, -95791963387872, 14), (0, 3, 15772038513228, 14), (0, 4, -16616417199501, 15), (0, 5, 81214629983568, 17),
   (1, -9, 28319080123804, 17), (1, -7, -60706301565874, 17), (1, -1, -18990068218419, 15),
   (1, 0, -32529748770505, 15), (1, 1, -21841717175414, 15), (1, 3, -5283835796993, 17),
   (2, -3, -47184321073267, 17), (2, 0, -30001780793026, 17), (2, 1, 47661393906987, 18)] ++
  [(2, 3, -44141845330846, 19), (2, 17, -72694996297594, 29), (3, -4, -31679644845054, 18),
   (3, 0, -28270797985312, 19), (3, 6, -85205128120103, 23), (4, -5, -22425281908, 16), (4, -2, -65171222895601, 20),
   (4, 10, -14341729937924, 26), (5, -8, -40516996860117, 20), (8, -11, -12734301741641, 22),
   (8, -6, -17424871230634, 23), (21, -29, -68762131295531, 32), (23, -31, 14478307828521, 33),
   (29, -38, 26335781662795, 36), (30, -39, -11947622640071, 36), (31, -40, 18228094581404, 37),
   (32, -41, -93537087292458, 39)]

/-- A coefficient's value. -/
def if97N (c : Nat × Int × Int × Nat) : Rat := (c.2.2.1 : Rat) / (10 ^ c.2.2.2 : Nat)

/-- A power with a whole exponent of either sign. -/
def powInt (x : Rat) (j : Int) : Rat := if 0 ≤ j then x ^ j.toNat else 1 / x ^ (-j).toNat

/-- Reduced pressure of a pressure [bar]: over 16.53 MPa. -/
def if97Pi (bar : Rat) : Rat := bar / 10 / (1653 / 100)

/-- Inverse reduced temperature of a temperature [°C]: 1386 K over it. -/
def if97Tau (t : Rat) : Rat := 1386 / (t + 27315 / 100)

/-- The derivative of the reduced Gibbs energy by the reduced pressure. -/
def if97GPi (pi tau : Rat) : Rat :=
  if97.foldl (fun (x : Rat) c =>
    if c.1 = 0 then x
    else x - if97N c * (c.1 : Rat) * (71 / 10 - pi) ^ (c.1 - 1) * powInt (tau - 1222 / 1000) c.2.1) 0

/-- The derivative of the reduced Gibbs energy by the inverse reduced temperature. -/
def if97GTau (pi tau : Rat) : Rat :=
  if97.foldl (fun (x : Rat) c =>
    if c.2.1 = 0 then x
    else x + if97N c * (71 / 10 - pi) ^ c.1 * (c.2.1 : Rat) * powInt (tau - 1222 / 1000) (c.2.1 - 1)) 0

/-- The gas constant of water [kJ/(kg K)]. -/
def gasWater : Rat := 461526 / 1000000

/-- Density at (temperature [°C], pressure [bar]), kg/m³ (R194). -/
def rhoWater (t bar : Rat) : Rat :=
  (bar / 10) * 1000 / (if97Pi bar * if97GPi (if97Pi bar) (if97Tau t) * gasWater * (t + 27315 / 100))

/-- Specific enthalpy at (temperature [°C], pressure [bar]), kJ/kg (R194). -/
def enthalpyWater (t bar : Rat) : Rat := 1386 * gasWater * if97GTau (if97Pi bar) (if97Tau t)

end Sys2Proof.Machine
end

