-- ==== Sys2Proof/Machine/Heat.lean ====
section
/-! DEFINITION. Flow inputs, the heat and cooling calculator and the leak check (chapter 06). -/
namespace Sys2Proof.Machine

/-! ### Access -/

/-- The heat meter of slice `p`. -/
def State.ht (s : State) (p : Phys) : Heat := (s.z p).heat

/-- The heat meter of slice `p` changed. -/
def State.onHt (s : State) (p : Phys) (f : Heat → Heat) : State := s.onZ p (fun z => { z with heat := f z.heat })

/-- Flow input `n` changed. -/
def State.onFl (s : State) (p : Phys) (n : Fin 2) (f : FlowIn → FlowIn) : State :=
  s.onHt p (fun h => { h with fl := h.fl.set n.val (f h.fl[n]) n.isLt })

/-- The open interval of slice `p` marked with FLAGS bits (R202). -/
def flagInterval (s : State) (p : Phys) (bit : Nat) : State :=
  s.onZ p (fun z => { z with ival := { z.ival with flags := z.ival.flags ||| BitVec.ofNat 16 (2 ^ bit) } })

/-- The FLAGS bits of R202 that the model sets. -/
def flTuntr : Nat := 0
/-- TSTEP. -/
def flTstep : Nat := 1
/-- OUTAGE. -/
def flOutage : Nat := 2
/-- SHORT. -/
def flShort : Nat := 3
/-- MERGED. -/
def flMerged : Nat := 4
/-- LENSAT. -/
def flLensat : Nat := 5
/-- CONT. -/
def flCont : Nat := 6
/-- MOVED. -/
def flMoved : Nat := 7
/-- QINC. -/
def flQinc : Nat := 8
/-- CLIP. -/
def flClip : Nat := 9
/-- CALCHG. -/
def flCalchg : Nat := 10
/-- HFAULT. -/
def flHfault : Nat := 11
/-- FLOWFLT. -/
def flFlowflt : Nat := 12
/-- SYNSAT. -/
def flSynsat : Nat := 13

/-- The ROLE of a flow input; 3 is taken as 0 (R212). -/
def flowRole (s : State) (p : Phys) (n : Fin 2) : Nat :=
  let r := s.g p F.ZH_FL_CFG_n_ROLE n
  if r = 3 then 0 else r

/-! ### The calculator (R193 to R197) -/

/-- The METER inputs of a role (2 SUPPLY, 3 RETURN) on Pt1000. -/
def meterInputs (s : State) (p : Phys) (role : Nat) : List (Fin 4) :=
  (List.finRange 4).filter (fun (n : Fin 4) =>
    s.g p F.ZI_TCFG_n_TYPE n == 2 && s.gb p F.ZI_TCFG_n_METER n && s.g p F.ZI_TCFG_n_ROLE n == role)

/-- The supply and return inputs and the flow input of a calculator that runs (R193). -/
def calculator (s : State) (p : Phys) : Option (Fin 4 × Fin 4 × Fin 2) :=
  if s.g p F.ZH_CFG_HMODE = 0 then none
  else match meterInputs s p 2, meterInputs s p 3, (List.finRange 2).find? (fun n => flowRole s p n == 1) with
    | [a], [b], some n => some (a, b, n)
    | _, _, _ => none

/-- A high-resolution temperature [°C], none while it is not valid (R113). -/
def fineTemp (s : State) (p : Phys) (n : Fin 4) : Option Rat :=
  if s.gb p F.ZI_T_n_VALID n then some (((s.z p).regs.word R.ZI_THR_n n).toInt / 10000) else none

/-- A new reading of a METER input in a pass of SQ1 (R195): with the other input's reading of the same pass it makes the matched
pair from which Δθ is taken. -/
def matchPair (s : State) (p : Phys) (n : Fin 4) (run : Nat) : State :=
  match calculator s p, fineTemp s p n with
  | some (a, b, _), some t =>
    if n = a ∨ n = b then
      s.onHt p (fun h => match h.half with
        | some (m, r, u) =>
          if r = run ∧ m ≠ n ∧ (m = a ∨ m = b) then
            { h with half := none, pair := some (if n = a then (t, u) else (u, t)) }
          else { h with half := some (n, run, t) }
        | none => { h with half := some (n, run, t) })
    else s
  | _, _ => s

/-- The index of the broken METER input or the chattering flow input (4 FL1, 5 FL2) that stops the calculator (R197). -/
def heatFault (s : State) (p : Phys) : Option Nat :=
  match calculator s p with
  | none => none
  | some (a, b, n) =>
    if (s.tIn p a).broken then some a.val
    else if (s.tIn p b).broken then some b.val
    else if ((s.ht p).fl[n]).chat.on then some (4 + n.val)
    else none

/-- DT_LOW and DT_HIGH of Δθ by HMODE (R196). -/
def dtRange (hmode : Nat) (d : Rat) : Bool × Bool :=
  let heat := (decide (d < 3), decide (120 < d))
  let cool := (decide (-d < 1), decide (40 < -d))
  match hmode with
  | 1 => heat
  | 2 => cool
  | _ => if 0 ≤ d then heat else cool

/-- DT_LOW and DT_HIGH shown with their event. -/
def showRange (s : State) (p : Phys) (r : Bool × Bool) : State :=
  let same := s.gb p F.ZH_STAT_DT_LOW == r.1 && s.gb p F.ZH_STAT_DT_HIGH == r.2
  ((s.wb p F.ZH_STAT_DT_LOW r.1).wb p F.ZH_STAT_DT_HIGH r.2).evtIf (!same) p 5 EVT.ZH_DT_RANGE

/-- HDIR shown with its event. -/
def showDir (s : State) (p : Phys) (d : Nat) : State :=
  (s.w p F.ZH_STAT_HDIR d).evtIf (s.g p F.ZH_STAT_HDIR != d) p 5 EVT.ZH_HDIR

/-- Accumulator `i` of the heat meter advanced: 0 heat, 1 cooling, 2 VOL_H, 3 VOL_W. -/
def addHeat (s : State) (p : Phys) (i : Nat) (q : Rat) : State :=
  if h : i < 4 then s.onHt p (fun x => { x with acc := x.acc.set i (x.acc[i].add q) h }) else s

/-- The heat or cooling energy of a pulse of `dv` litres over `period` µs (R194, R195), from the latest matched pair: energy by its
direction, the temperatures, Δθ and the power. -/
def heatPulse (s : State) (p : Phys) (dv : Rat) (period : Nat) : State :=
  match calculator s p with
  | none => s
  | some (a, b, _) =>
    if (heatFault s p).isSome || (fineTemp s p a).isNone || (fineTemp s p b).isNone then s
    else match (s.ht p).pair with
      | some (ta, tr) =>
        let ts := ta + (s.gi p F.ZH_DT_OFS_DTOFS : Rat) / 1000
        let bar : Rat := (s.g p F.ZH_CFG_PNOM : Rat) / 10
        let tv := if s.gb p F.ZH_CFG_FLOWPOS then ts else tr
        let dh := enthalpyWater ts bar - enthalpyWater tr bar
        let kj := dv / 1000 * rhoWater tv bar * dh
        let d := ts - tr
        let hm := s.g p F.ZH_CFG_HMODE
        let heat := decide ((s.g p F.ZH_CFG_HCUT : Rat) / 100 ≤ d) && (hm == 1 || hm == 3)
        let cool := decide (d ≤ -((s.g p F.ZH_CFG_CCUT : Rat) / 100)) && (hm == 2 || hm == 3)
        let s1 := if heat then addHeat s p 0 (kj * 10000 / 36)
          else if cool then addHeat s p 1 (-kj * 10000 / 36) else s
        let pw : Rat := if heat || cool then kj * 1000000000000 / (period : Rat) else 0
        let s2 := ((s1.wi p F.ZH_TEMP_TS (Config.toUnits (ts * 100))).wi p F.ZH_TEMP_TR
          (Config.toUnits (tr * 100))).wWord p R.ZH_DT (BitVec.ofInt 32 (Config.toUnits (d * 1000)))
        let s3 := s2.wWord p R.ZH_POWER (BitVec.ofInt 32 (Config.toUnits pw))
        showRange (showDir s3 p (if heat then 1 else if cool then 2 else 0)) p (dtRange hm d)
      | none => s

/-- The fault time of one second (R197): counted while a METER input is broken or the flow input chatters. -/
def heatTick (s : State) (p : Phys) : State :=
  match heatFault s p with
  | none => s.wbEvt p F.ZH_STAT_HFAULT false 5 EVT.ZH_HFAULT
  | some i =>
    let s1 := flagInterval (s.bump p F.ZH_FAULT_T_T) p flHfault
    if s.gb p F.ZH_STAT_HFAULT then s1
    else (s1.wbEvt p F.ZH_STAT_HFAULT true 5 EVT.ZH_HFAULT).err p 5 i 0x8B21

/-! ### Flow inputs (R189 to R192) -/

/-- The rate of a flow input shown [mL/h] (R190): VPP over the time between the last two pulses. -/
def showFlow (s : State) (p : Phys) (n : Fin 2) (vpp period : Nat) : State :=
  s.wWord p R.ZH_FLOW_n (BitVec.ofNat 32 (if period = 0 then 0 else regUnits ((vpp : Rat) * 3600000 / (period : Rat)))) n

/-- FLOW_PULSE: an accepted pulse, `period` µs after the one before (R190, R191, R194). -/
def flowPulse (s : State) (p : Phys) (n : Fin 2) (period : Nat) : State :=
  let x := (s.ht p).fl[n]
  if x.chat.on then s
  else
    let vpp := ((s.z p).regs.word R.ZH_FL_VPP_n n).toNat
    let s1 := showFlow (s.onFl p n (fun x => { x with period := period })) p n vpp period
    match flowRole s p n with
    | 1 => heatPulse (addHeat s1 p 2 ((vpp : Rat) / 1000)) p ((vpp : Rat) / 1000000) period
    | 2 => addHeat (s1.onHt p (fun h => { h with water := true })) p 3 ((vpp : Rat) / 1000)
    | _ => s1

/-- FLOW_RATE_TIMEOUT: the rate falls to 0 (R190); with it the power and the range flags of a heat flow. -/
def flowIdle (s : State) (p : Phys) (n : Fin 2) : State :=
  let s1 := s.wWord p R.ZH_FLOW_n 0 n
  if flowRole s p n = 1 then showRange (s1.wWord p R.ZH_POWER 0) p (false, false) else s1

/-- CHAT or OVR of flow input `n` shown (R212). -/
def showFlowFlag (s : State) (p : Phys) (x : Fld) (n : Fin 2) (b : Bool) : State :=
  (s.wBitOf p x n.val b).evt p 5 EVT.ZH_FLOW

/-- CHATTER of a flow input declared (R191); a WATER input marks the open record. -/
def flowChatter (s : State) (p : Phys) (n : Fin 2) : State :=
  let s1 := showFlowFlag (s.onFl p n (fun x => { x with chat := { x.chat with on := true } })) p F.ZH_STAT_CHAT n true
  let s2 := s1.bump p (if n = 0 then F.ZH_FL_CNT_CHAT_1 else F.ZH_FL_CNT_CHAT_2)
  let s3 := if flowRole s p n = 2 then flagInterval s2 p flFlowflt else s2
  s3.err p 5 n.val 0x4B22

/-- FLOW_OVR: the accepted rate has stood at `rate` Hz for 1 s (R191). -/
def flowRateJudge (s : State) (p : Phys) (n : Fin 2) (rate : Nat) : State :=
  let x := (s.ht p).fl[n]
  let fmax := s.g p F.ZH_FL_CFG_n_FMAX n
  if 3 * fmax < 2 * rate then (if x.chat.on then s else flowChatter s p n)
  else if fmax < rate then
    if x.ovr then s
    else
      let s1 := showFlowFlag (s.onFl p n (fun x => { x with ovr := true })) p F.ZH_STAT_OVR n true
      (s1.bump p (if n = 0 then F.ZH_FL_CNT_OVR_1 else F.ZH_FL_CNT_OVR_2)).err p 5 n.val 0x4B23
  else if x.ovr then showFlowFlag (s.onFl p n (fun x => { x with ovr := false })) p F.ZH_STAT_OVR n false
  else s

/-- A pulse rejected by the filter of a flow input (R191): more than 64 in a second declare CHATTER. -/
def flowReject (s : State) (p : Phys) (n : Fin 2) : State :=
  let x := (s.ht p).fl[n]
  let c := x.chat.reject (s.slUs p) 64
  if c.2 then flowChatter (s.onFl p n (fun x => { x with chat := c.1 })) p n
  else s.onFl p n (fun x => { x with chat := c.1 })

/-- CHATTER of a flow input cleared after 10 quiet seconds (R191). -/
def clearFlowChatter (s : State) (p : Phys) (n : Fin 2) : State :=
  if ((s.ht p).fl[n]).chat.on then
    showFlowFlag (s.onFl p n (fun x => { x with chat := x.chat.cleared })) p F.ZH_STAT_CHAT n false
  else s

/-- LEAK_HOUR_CHECK: the end of a clock hour (R192). -/
def leakHour (s : State) (p : Phys) : State :=
  let h := s.ht p
  let n := s.g p F.ZH_WCFG_LEAKH
  let run := if h.water then h.leakRun + 1 else 0
  let s1 := s.onHt p (fun h => { h with water := false, leakRun := run })
  if !h.water || n == 0 then
    (s1.onHt p (fun h => { h with leak := false })).wbEvt p F.ZH_STAT_LEAK false 5 EVT.ZH_LEAK
  else if !h.leak && decide (n ≤ run) then
    ((s1.onHt p (fun h => { h with leak := true })).wbEvt p F.ZH_STAT_LEAK true 5 EVT.ZH_LEAK).err p 5 0 0x4B25
  else s1

/-! ### The commands -/

/-- FLOW_PULSE (R190). -/
def execFlowPulse (p : Phys) (n : Fin 2) (period : Nat) (s : State) : Host.Outcome State Fault Refusal :=
  onRunning s p (fun s => flowPulse s p n period)

/-- FLOW_RATE_TIMEOUT (R190). -/
def execFlowRateTimeout (p : Phys) (n : Fin 2) (s : State) : Host.Outcome State Fault Refusal :=
  onRunning s p (fun s => flowIdle s p n)

/-- FLOW_OVR (R191). -/
def execFlowOvr (p : Phys) (n : Fin 2) (rate : Nat) (s : State) : Host.Outcome State Fault Refusal :=
  onRunning s p (fun s => flowRateJudge s p n rate)

/-- LEAK_HOUR_CHECK (R192). -/
def execLeakHourCheck (p : Phys) (s : State) : Host.Outcome State Fault Refusal :=
  onRunning s p (fun s => leakHour s p)

end Sys2Proof.Machine
end

