-- ==== Sys2Proof/Machine/Panel.lean ====
section
/-! DEFINITION. The room panel: key matrix, ghost rule, key functions, rotary knob and events (chapter 09). -/
namespace Sys2Proof.Machine

/-! ### Access -/

/-- The panel of slice `p`. -/
def State.pn (s : State) (p : Phys) : Panel := (s.z p).panel

/-- The panel of slice `p` changed. -/
def State.onPn (s : State) (p : Phys) (f : Panel → Panel) : State := s.onZ p (fun z => { z with panel := f z.panel })

/-- Key `k` changed. -/
def State.onKey (s : State) (p : Phys) (k : Fin 16) (f : KeySt → KeySt) : State :=
  s.onPn p (fun x => { x with keys := x.keys.set k.val (f x.keys[k]) k.isLt })

/-- Key `k` of slice `p`. -/
def State.key (s : State) (p : Phys) (k : Fin 16) : KeySt := (s.pn p).keys[k]

/-- A panel request for step 1 of the next loop tick (R219, R309). -/
def panelReq (s : State) (p : Phys) (r : PanelReq) : State :=
  s.onZ p (fun z => { z with loop := { z.loop with reqs := z.loop.reqs ++ [r] } })

/-- A panel event queued (R313): discarded and counted when 16 wait. -/
def panelEvent (s : State) (p : Phys) (type key : Nat) : State :=
  let x := s.pn p
  if x.evts.length < Config.panelQueue then
    (s.onPn p (fun x => { x with evts := x.evts ++ [{ type := type, key := key, time := s.slNow p / 1000 }] })).evt p 0xB
      EVT.ZK_KEY
  else ((s.bump p F.ZK_CNT_QOVF).evt p 0xB EVT.ZK_QOVF).err p 0xB 0 0x1D15

/-- ZK_KEYS brought into line with the raw and accepted states. -/
def syncKeys (s : State) (p : Phys) : State :=
  let x := s.pn p
  (s.w p F.ZK_KEYS_RAW x.raw.toNat).w p F.ZK_KEYS_ACC x.acc.toNat

/-! ### Functions (R309) -/

/-- The function of key `k`: its KEYFN nibble, 5 … 15 taken as 0. -/
def keyFn (s : State) (p : Phys) (k : Fin 16) : Nat :=
  let w := (s.z p).regs.word (if k.val < 8 then R.ZK_KEYFN_1 else R.ZK_KEYFN_2)
  let n := fieldOf w (4 * (k.val % 8) + 3) (4 * (k.val % 8))
  if 4 < n then 0 else n

/-- The effect of an accepted press (R309). -/
def pressKey (s : State) (p : Phys) (k : Fin 16) : State :=
  match keyFn s p k with
  | 1 => panelReq s p .boost
  | 2 => panelReq s p (.step true)
  | 3 => panelReq s p (.step false)
  | 4 => panelReq s p .zero
  | _ => s

/-! ### Chatter, acceptance (R305, R307, R308) -/

/-- A key declared CHATTER (R308). -/
def keyChatter (s : State) (p : Phys) (k : Fin 16) : State :=
  ((s.wBitOf p F.ZK_FLAGS_CHAT k.val true).evt p 0xB EVT.ZK_CHAT).err p 0xB k.val 0x4D12

/-- An accepted change of key `k` (R305): its event, its function, the end of a stuck declaration, the chatter rule. -/
def acceptKey (s : State) (p : Phys) (k : Fin 16) (pressed : Bool) : State :=
  let x := s.key p k
  let c := x.chat.trans1 (s.slUs p) 20
  let bit : BitVec 16 := BitVec.ofNat 16 (2 ^ k.val)
  let s1 := (s.onPn p (fun y => { y with acc := if pressed then y.acc ||| bit else y.acc &&& ~~~bit })).onKey p k
    (fun y => { y with cnt := 0, chat := c.1, long := false, stuck := false })
  let s2 := if x.stuck then (s1.wBitOf p F.ZK_FLAGS_STUCK k.val false).evt p 0xB EVT.ZK_STUCK else s1
  let s3 := panelEvent s2 p (if pressed then 0 else 1) k.val
  let s4 := if pressed then pressKey s3 p k else s3
  if c.2 then keyChatter s4 p k else s4

/-- One key of one scan (R305): DEB consecutive scans of the new raw state, or a rejection when it reverts. -/
def debounce (s : State) (p : Phys) (k : Fin 16) (raw : Bool) : State :=
  let x := s.key p k
  let deb := s.g p F.ZK_CFG_DEB
  let acc := (s.pn p).acc.getLsbD k.val
  if x.chat.on then s
  else if x.guard then
    s.onKey p k (fun y =>
      if raw then { y with cnt := 0 }
      else if deb ≤ y.cnt + 1 then { y with guard := false, cnt := 0 } else { y with cnt := y.cnt + 1 })
  else if raw != acc then
    if deb ≤ x.cnt + 1 then acceptKey s p k raw else s.onKey p k (fun y => { y with cnt := y.cnt + 1 })
  else if 0 < x.cnt then
    let c := x.chat.reject (s.slUs p) 16
    let s1 := s.onKey p k (fun y => { y with cnt := 0, chat := c.1 })
    if c.2 then keyChatter s1 p k else s1
  else s

/-! ### The ghost rule (R306) -/

/-- The key at a crossing (R304). -/
def keyAt (row col : Nat) : Nat := 4 * row + col

/-- The pairs a < b below 4. -/
def pairs4 : List (Nat × Nat) := [(0, 1), (0, 2), (0, 3), (1, 2), (1, 3), (2, 3)]

/-- The keys that are corners of a complete rectangle. -/
def ghostKeys (raw : BitVec 16) : BitVec 16 :=
  (pairs4.flatMap (fun r => pairs4.map (fun c => (r, c)))).foldl (fun (m : BitVec 16) rc =>
    let ks := [keyAt rc.1.1 rc.2.1, keyAt rc.1.1 rc.2.2, keyAt rc.1.2 rc.2.1, keyAt rc.1.2 rc.2.2]
    if ks.all (fun k => raw.getLsbD k) then ks.foldl (fun m k => m ||| BitVec.ofNat 16 (2 ^ k)) m else m) 0

/-- The rows of a set of keys as a four-bit field. -/
def rowsOf (m : BitVec 16) : Nat :=
  (List.range 4).foldl (fun n r => n + bit1 ((List.range 4).any (fun c => m.getLsbD (keyAt r c))) * 2 ^ r) 0

/-- The columns of a set of keys as a four-bit field. -/
def colsOf (m : BitVec 16) : Nat :=
  (List.range 4).foldl (fun n c => n + bit1 ((List.range 4).any (fun r => m.getLsbD (keyAt r c))) * 2 ^ c) 0

/-- The lowest key of a set. -/
def lowKey (m : BitVec 16) : Nat := ((List.range 16).find? (fun k => m.getLsbD k)).getD 0

/-- GHOST at a scan (R306 rules 4, 5). -/
def ghostStep (s : State) (p : Phys) (m : BitVec 16) : State :=
  let x := s.pn p
  let amb := m != 0
  let s1 := (s.w p F.ZK_STAT_GROWS (rowsOf m)).w p F.ZK_STAT_GCOLS (colsOf m)
  if amb && !x.ghost then
    let k := lowKey m
    let s2 := (s1.onPn p (fun x => { x with ghost := true, ghostKey := k })).wbEvt p F.ZK_STAT_GHOST true 0xB
      EVT.ZK_GHOST
    (panelEvent (s2.bump p F.ZK_CNT_GHOSTS) p 6 k).err p 0xB k 0x1D11
  else if !amb && x.ghost then
    let s2 := (s1.onPn p (fun x => { x with ghost := false })).wbEvt p F.ZK_STAT_GHOST false 0xB EVT.ZK_GHOST
    panelEvent s2 p 7 x.ghostKey
  else s1

/-- The keys that the first unambiguous scan frees: their debounce counts the scans after it (R306 rule 5). -/
def thawed (x : Panel) (m : BitVec 16) : BitVec 16 := if x.ghost && m == 0 then x.frozen else 0

/-- KEY_SCAN (R304 to R306): the raw matrix of one scan. -/
def keyScan (s : State) (p : Phys) (raw : BitVec 16) : State :=
  let x := s.pn p
  if !x.scan then s
  else
    let m := if s.gb p F.ZK_CFG_DIODES then 0 else ghostKeys raw
    let wait := m ||| thawed x m
    let s0 := s.onPn p (fun x => { x with
      raw := raw, fresh := false, frozen := m,
      keys := if x.fresh then Vector.ofFn (fun (k : Fin 16) =>
        { x.keys[k] with guard := raw.getLsbD k.val && !x.acc.getLsbD k.val }) else x.keys })
    let s1 := ghostStep s0 p m
    let s2 := (List.finRange 16).foldl (fun (s : State) (k : Fin 16) =>
      if wait.getLsbD k.val then s.onKey p k (fun y => { y with cnt := 0 }) else debounce s p k (raw.getLsbD k.val)) s1
    syncKeys s2 p

/-- Whether key `k` is held, not stuck and not chattering. -/
def keyHeld (s : State) (p : Phys) (k : Fin 16) : Bool :=
  (s.pn p).acc.getLsbD k.val && !(s.key p k).stuck && !(s.key p k).chat.on

/-- KEY_LONG: a key held for LONG_T (R307). -/
def keyLong (s : State) (p : Phys) (k : Fin 16) : State :=
  if keyHeld s p k && !(s.key p k).long then
    panelEvent (s.onKey p k (fun y => { y with long := true })) p 2 k.val
  else s

/-- KEY_STUCK: a key held for STUCK_T (R307). -/
def keyStuck (s : State) (p : Phys) (k : Fin 16) : State :=
  if keyHeld s p k then
    let s1 := (s.onKey p k (fun y => { y with stuck := true })).wBitOf p F.ZK_FLAGS_STUCK k.val true
    (panelEvent (s1.evt p 0xB EVT.ZK_STUCK) p 3 k.val).err p 0xB k.val 0x4D10
  else s

/-- KEY_REPEAT: every 0.5 s after LONG while an UP or DOWN key is held (R309). -/
def keyRepeat (s : State) (p : Phys) (k : Fin 16) : State :=
  if keyHeld s p k && (s.key p k).long && (keyFn s p k == 2 || keyFn s p k == 3) then pressKey s p k else s

/-- CHATTER of a key cleared (R308, R94): its accepted state becomes its raw state. -/
def clearKeyChatter (s : State) (p : Phys) (k : Fin 16) (raw : Bool) : State :=
  let x := s.key p k
  if x.chat.on then
    let s1 := (s.onKey p k (fun y => { y with chat := y.chat.cleared, cnt := 0 })).wBitOf p F.ZK_FLAGS_CHAT k.val false
    let s2 := s1.evt p 0xB EVT.ZK_CHAT
    if raw = (s.pn p).acc.getLsbD k.val then s2 else syncKeys (acceptKey s2 p k raw) p
  else s

/-! ### The knob (R310 to R312) -/

/-- The state that follows a quadrature state clockwise, with A as the low bit (R310). -/
def quadNext (q : Nat) : Nat := match q with | 3 => 1 | 1 => 0 | 0 => 2 | _ => 3

/-- The steps of a detent and whether a state is a rest state (R311); DETENT 3 is taken as 0. -/
def detentOf (d q : Nat) : Int × Bool :=
  match d with
  | 1 => (2, q == 3 || q == 0)
  | 2 => (1, true)
  | _ => (4, q == 3)

/-- The encoder declared CHATTER (R312). -/
def encoderChatter (s : State) (p : Phys) : State :=
  ((s.wb p F.ZK_STAT_ENC_CHAT true).evt p 0xB EVT.ZK_CHAT).err p 0xB 0 0x4D13

/-- A rejection or an invalid transition of the encoder (R312). -/
def encoderReject (s : State) (p : Phys) : State :=
  let c := (s.pn p).encChat.reject (s.slUs p) 16
  let s1 := s.onPn p (fun x => { x with encChat := c.1 })
  if c.2 then encoderChatter s1 p else s1

/-- A detent that counts (R311, R312): dropped when ENC_MAX have been counted in the last second. -/
def detent (s : State) (p : Phys) (cw : Bool) : State :=
  let x := s.pn p
  let l := within1s (s.slUs p) x.dets
  if s.g p F.ZK_ENC_CFG_ENC_MAX ≤ l.length then
    let s1 := (s.bump p F.ZK_CNT_ENC_DROP).onPn p (fun x => { x with dets := l, lastDrop := s.slUs p })
    if s.gb p F.ZK_STAT_ENC_OVS then s1
    else (s1.wb p F.ZK_STAT_ENC_OVS true).err p 0xB (s1.g p F.ZK_CNT_ENC_DROP) 0x1D14
  else
    let s1 := s.onPn p (fun x => { x with dets := l ++ [s.slUs p] })
    let s2 := (s1.wi p F.ZK_ENC_POS (s.gi p F.ZK_ENC_POS + (if cw then 1 else -1))).evt p 0xB EVT.ZK_ENC
    let s3 := panelEvent s2 p (if cw then 4 else 5) 0
    if s.gb p F.ZK_ENC_CFG_ENC_FN then panelReq s3 p (.step (cw != s.gb p F.ZK_ENC_CFG_DIR)) else s3

/-- ENC_OVS cleared once no detent has been dropped for a second (R312). -/
def overspeedTick (s : State) (p : Phys) : State :=
  if s.gb p F.ZK_STAT_ENC_OVS && decide ((s.pn p).lastDrop + 1000000 ≤ s.slUs p) then s.wb p F.ZK_STAT_ENC_OVS false
  else s

/-- ENCODER_EDGE: the accepted levels of both channels (R310, R311). -/
def encoderEdge (s : State) (p : Phys) (a b : Bool) : State :=
  let x := s.pn p
  if !x.scan then s
  else
    let q := bit1 x.encB * 2 + bit1 x.encA
    let q' := bit1 b * 2 + bit1 a
    let s1 := ((s.onPn p (fun x => { x with encA := a, encB := b })).wb p F.ZK_ENC_A a).wb p F.ZK_ENC_B b
    let d := detentOf (s.g p F.ZK_ENC_CFG_DETENT) q'
    if q' = q then s
    else if q' = 3 - q then encoderReject (s1.onPn p (fun x => { x with net := if d.2 then 0 else x.net })) p
    else
      let net := x.net + (if quadNext q = q' then 1 else -1)
      let s2 := s1.onPn p (fun x => { x with net := if d.2 then 0 else net })
      if d.2 && !x.encChat.on && (net == d.1 || net == -d.1) then detent s2 p (decide (0 < net)) else s2

/-- CHATTER of the encoder cleared after 10 s without an edge (R312). -/
def clearEncoderChatter (s : State) (p : Phys) : State :=
  if (s.pn p).encChat.on then
    ((s.onPn p (fun x => { x with encChat := x.encChat.cleared })).wb p F.ZK_STAT_ENC_CHAT false).evt p 0xB
      EVT.ZK_CHAT
  else s

/-! ### Reading events, migration (R313, R314) -/

/-- The effect of reading ZK_EVT_LO: the oldest event removed and its time latched (R313): its word and the state. -/
def takePanelEvent (s : State) (p : Phys) : Word × State :=
  match (s.pn p).evts with
  | [] => (0, s)
  | e :: l =>
    (BitVec.ofNat 32 (2 ^ 31 + e.type * 2 ^ 28 + e.key * 2 ^ 24 + l.length * 2 ^ 16),
      (s.onPn p (fun x => { x with evts := l })).latchZW p [(R.ZK_EVT_HI.at 0, BitVec.ofNat 32 e.time)])

/-- The panel as a new slice takes it (R314): accepted states, stuck and chatter stay, the event queue starts empty, and
a key first read closed must be read released first. -/
def takePanel (x : Panel) : Panel :=
  { x with
    evts := [], scan := true, fresh := true, ghost := false, frozen := 0, net := 0, dets := [],
    keys := x.keys.map (fun k => { k with cnt := 0 }) }

/-- The keys of a panel with a property, as bits. -/
def keyBits (x : Panel) (f : KeySt → Bool) : Nat :=
  (List.finRange 16).foldl (fun n (k : Fin 16) => n + bit1 (f x.keys[k]) * 2 ^ k.val) 0

/-- The panel of the new slice after a migration (R314), its registers in line with the carried states. -/
def adoptPanel (s : State) (p : Phys) (x : Panel) : State :=
  let s1 := s.onPn p (fun _ => takePanel x)
  let s2 := ((s1.wb p F.ZK_STAT_GHOST false).w p F.ZK_STAT_GROWS 0).w p F.ZK_STAT_GCOLS 0
  let s3 := (s2.w p F.ZK_FLAGS_STUCK (keyBits x (fun k => k.stuck))).w p F.ZK_FLAGS_CHAT (keyBits x (fun k => k.chat.on))
  syncKeys (s3.wb p F.ZK_STAT_ENC_CHAT x.encChat.on) p

/-! ### The commands -/

/-- KEY_SCAN (R304). -/
def execKeyScan (p : Phys) (raw : BitVec 16) (s : State) : Host.Outcome State Fault Refusal :=
  onRunning s p (fun s => keyScan s p raw)

/-- KEY_LONG (R307). -/
def execKeyLong (p : Phys) (k : Fin 16) (s : State) : Host.Outcome State Fault Refusal :=
  onRunning s p (fun s => keyLong s p k)

/-- KEY_STUCK (R307). -/
def execKeyStuck (p : Phys) (k : Fin 16) (s : State) : Host.Outcome State Fault Refusal :=
  onRunning s p (fun s => keyStuck s p k)

/-- KEY_REPEAT (R309). -/
def execKeyRepeat (p : Phys) (k : Fin 16) (s : State) : Host.Outcome State Fault Refusal :=
  onRunning s p (fun s => keyRepeat s p k)

/-- ENCODER_EDGE (R310). -/
def execEncoderEdge (p : Phys) (a b : Bool) (s : State) : Host.Outcome State Fault Refusal :=
  onRunning s p (fun s => encoderEdge s p a b)

end Sys2Proof.Machine
end

