-- ==== Sys2Proof/Machine/Chatter.lean ====
section
/-! DEFINITION. The commands that reach inputs of several families: the chatter rule's end and filter rejections
(R94, R191, R297, R308, R312). -/
namespace Sys2Proof.Machine

/-- CHATTER_CLEAR (R94): the input has been quiet for 10 s; `raw` is the level it then shows. -/
def execChatterClear (p : Phys) (input : ChatInput) (raw : Bool) (s : State) : Host.Outcome State Fault Refusal :=
  onRunning s p (fun s =>
    match input with
    | .prd => clearPrdChatter s p raw
    | .pra => clearPraChatter s p
    | .fl n => clearFlowChatter s p n
    | .tach => clearTachChatter s p
    | .key k => clearKeyChatter s p k raw
    | .encoder => clearEncoderChatter s p)

/-- INPUT_PULSE_REJECTED (R191, R297, R312): a pulse that the input's filter rejects. -/
def execInputPulseRejected (p : Phys) (input : PulseInput) (s : State) : Host.Outcome State Fault Refusal :=
  onRunning s p (fun s =>
    match input with
    | .fl n => flowReject s p n
    | .tach => tachReject s p
    | .encoder => encoderReject s p)

end Sys2Proof.Machine
end

