-- ==== Sys2Proof/Machine/Wire.lean ====
section
/-! DEFINITION. A bus frame on the wire (R417 to R421): its fields in wire order, the stuff bits and the CRC. A level is a
Bool: dominant (logic 0) is false, recessive (logic 1) is true. -/
namespace Sys2Proof.Machine

/-- The lowest `n` bits of a number as levels, the highest first. -/
def levels : Nat → Nat → List Bool
  | 0, _ => []
  | n + 1, v => bitOf v n :: levels n v

/-- The number that levels spell, the highest bit first. -/
def ofLevels (l : List Bool) : Nat := l.foldl (fun v b => 2 * v + bit1 b) 0

/-- Bytes on the wire: ascending, each bit 7 first (R417). -/
def byteLevels (bs : List Byte) : List Bool := (bs.map (fun b => levels 8 b.toNat)).flatten

/-- The bytes that levels spell, eight levels each (R417). -/
def bytesOf : Nat → List Bool → List Byte
  | 0, _ => []
  | n + 1, l => BitVec.ofNat 8 (ofLevels (l.take 8)) :: bytesOf n (l.drop 8)

/-- The identifier of a frame (R422). -/
def frameId (f : BusFrame) : Nat := f.pri.toNat * 2 ^ 24 + f.kind.toNat * 2 ^ 16 + f.src.toNat * 2 ^ 8 + f.dst.toNat

/-- The byte image that the CRC of a frame covers (R419): a little-endian word of ID and FAST, LEN, DATA. -/
def frameImage (f : BusFrame) : List Byte :=
  leBytes 4 (frameId f + bit1 f.fast * 2 ^ 28) ++ leBytes 1 f.data.length ++ f.data

/-- The CRC field of a frame: the CRC-32 of its image, least significant byte first, each bit 7 first (R419). -/
def frameCrc (f : BusFrame) : List Bool := byteLevels (leBytes 4 (crc32 (frameImage f)).toNat)

/-- A frame from SOF through the last CRC bit, without stuff bits (R417). -/
def frameLevels (f : BusFrame) : List Bool :=
  false :: (levels 28 (frameId f) ++ f.fast :: (levels 6 f.data.length ++ (byteLevels f.data ++ frameCrc f)))

/-- Levels with the stuff bits inserted (R418); `run` levels of value `level` stand before them. A stuff bit counts towards
the next run. -/
def stuffFrom (level : Bool) (run : Nat) : List Bool → List Bool
  | [] => []
  | b :: l =>
    let r := if b = level then run + 1 else 1
    if r = 5 then b :: (!b) :: stuffFrom (!b) 1 l else b :: stuffFrom b r l

/-- Stuffed levels with the stuff bits removed, up to the sixth equal level in a row, and whether there is one (R418,
R427). -/
def unstuffFrom (level : Bool) (run : Nat) : List Bool → List Bool × Bool
  | [] => ([], false)
  | b :: l =>
    if run = 5 then
      if b = level then ([], true) else unstuffFrom b 1 l
    else
      let r := unstuffFrom b (if b = level then run + 1 else 1) l
      (b :: r.1, r.2)

/-- Stuffed levels of a frame's stuffed part. -/
def stuff (l : List Bool) : List Bool := stuffFrom true 0 l

/-- The levels of a stuffed part without its stuff bits. -/
def unstuff (l : List Bool) : List Bool × Bool := unstuffFrom true 0 l

/-- The stuffed part of a frame as it stands on the wire, SOF through the last CRC bit (R417, R418). -/
def stuffed (f : BusFrame) : List Bool := stuff (frameLevels f)

/-- A whole frame as its sender drives it (R417): the stuffed part, the CRC delimiter, the ACK slot, the ACK delimiter and
the EOF, all recessive. -/
def wireFrame (f : BusFrame) : List Bool := stuffed f ++ List.replicate 10 true

/-- What a receiver finds in the stuffed part of a frame: a good frame, or the error it detects first (R420, R427). -/
inductive Heard where
  | good (f : BusFrame)
  | bad (e : RxError)
  deriving DecidableEq, Repr

/-- The frame that the levels of a stuffed part without stuff bits spell; its CRC is not looked at. -/
def frameOf (l : List Bool) : BusFrame :=
  let id := ofLevels ((l.drop 1).take 28)
  { pri := BitVec.ofNat 4 (id / 2 ^ 24), kind := BitVec.ofNat 8 (id / 2 ^ 16), src := BitVec.ofNat 8 (id / 2 ^ 8),
    dst := BitVec.ofNat 8 id, fast := l.getD 29 false, data := bytesOf (ofLevels ((l.drop 30).take 6)) (l.drop 36) }

/-- The stuffed part of a received frame judged in the order of its bits (R419, R421, R427): FAST on a port without a data
rate and LEN above 32 are form errors, six equal levels a stuff error, then the CRC; a part that does not begin with a
dominant SOF or ends elsewhere than its LEN says leaves a fixed level wrong. -/
def readFrame (fastOk : Bool) (l : List Bool) : Heard :=
  let u := unstuff l
  let f := frameOf u.1
  if l.head? = some true ∨ (30 ≤ u.1.length ∧ f.fast = true ∧ fastOk = false) ∨ (36 ≤ u.1.length ∧ 32 < f.data.length) then
    .bad .form
  else if u.2 then .bad .stuff
  else if u.1.length ≠ 68 + 8 * f.data.length then .bad .form
  else if u.1.drop (36 + 8 * f.data.length) = frameCrc f then .good f
  else .bad .crc

end Sys2Proof.Machine
end

