-- ==== Sys2Proof/Machine/Lanes.lean ====
section
/-! DEFINITION. What the lanes of the host link carry: the symbols of a packet striped over the active lanes, the 8b/10b code groups
with running disparity and the training ordered sets (R385, R388 to R390). A level is a Bool, true for 1. -/
namespace Sys2Proof.Machine

/-! ### Packets on the active lanes (R389) -/

/-- Whether lane `n` is in a set of lane pairs. -/
def onLane (m : BitVec 4) (n : Nat) : Bool := m.getLsbD n

/-- The width of a set of lanes. -/
def laneWidth (m : BitVec 4) : Nat := ((List.range 4).filter (onLane m)).length

/-- The place of a lane among the active ones, in ascending lane number. -/
def laneRank (m : BitVec 4) (n : Nat) : Nat := ((List.range n).filter (onLane m)).length

/-- The symbols of a packet: STP, its bytes, END, and PAD up to the end of that symbol time at width `w` (R388, R389). -/
def packetSyms (w : Nat) (b : List Byte) : List Sym :=
  .stp :: (b.map Sym.data ++ .end_ :: List.replicate ((w - (b.length + 2) % w) % w) .pad)

/-- What a lane carries of a stream: position k goes to the (k mod W)-th active lane (R389). -/
def laneShare (w rank : Nat) (l : List Sym) : List Sym :=
  (List.range (l.length / w)).map (fun i => l.getD (i * w + rank) .pad)

/-- A packet on the four lanes: what each active lane carries, nothing on the others (R389). -/
def onLanes (m : BitVec 4) (b : List Byte) : List (List Sym) :=
  (List.range 4).map (fun n =>
    if onLane m n then laneShare (laneWidth m) (laneRank m n) (packetSyms (laneWidth m) b) else [])

/-! ### Code groups (R385, R388) -/

/-- The six bits abcdei of D.x at negative running disparity. The manual names the 8b/10b code; its tables are the code's own
(PRESUMED, notes/assumptions/168). -/
def sixOf (x : Nat) : Nat :=
  [0b100111, 0b011101, 0b101101, 0b110001, 0b110101, 0b101001, 0b011001, 0b111000,
   0b111001, 0b100101, 0b010101, 0b110100, 0b001101, 0b101100, 0b011100, 0b010111,
   0b011011, 0b100011, 0b010011, 0b110010, 0b001011, 0b101010, 0b011010, 0b111010,
   0b110011, 0b100110, 0b010110, 0b110110, 0b001110, 0b101110, 0b011110, 0b101011].getD x 0

/-- The four bits fghj of y at negative running disparity; `alt` takes the alternate group of y = 7. -/
def fourOf (y : Nat) (alt : Bool) : Nat :=
  if alt then 0b0111 else [0b1011, 0b1001, 0b0101, 0b1100, 0b1101, 0b1010, 0b0110, 0b1110].getD y 0

/-- The ones among levels. -/
def onesOf (l : List Bool) : Nat := (l.filter id).length

/-- A group of bits at a running disparity: complemented at positive disparity where it is not balanced or where `flip` says so. -/
def groupAt (plus flip : Bool) (l : List Bool) : List Bool :=
  if plus && (flip || 2 * onesOf l != l.length) then l.map (fun b => !b) else l

/-- The running disparity after a group. -/
def nextDisparity (plus : Bool) (l : List Bool) : Bool :=
  if 2 * onesOf l = l.length then plus else decide (l.length < 2 * onesOf l)

/-- The ten bits of a data byte, bit a first, at a running disparity. -/
def dataCode (plus : Bool) (v : Nat) : List Bool :=
  let x := v % 32
  let y := v / 32
  let six := groupAt plus (x == 7) (levels 6 (sixOf x))
  let mid := nextDisparity plus six
  let alt := y == 7 && (if mid then x == 11 || x == 13 || x == 14 else x == 17 || x == 18 || x == 20)
  six ++ groupAt mid (y == 3) (levels 4 (fourOf y alt))

/-- The ten bits of a control symbol at negative running disparity (R388): K28.5, K27.7, K29.7, K30.7, K23.7. -/
def controlCode : Sym → Nat
  | .com => 0b0011111010
  | .stp => 0b1101101000
  | .end_ => 0b1011101000
  | .abt => 0b0111101000
  | .pad => 0b1110101000
  | .data _ => 0

/-- The code group of a symbol, bit a first, at a running disparity (R388). -/
def Sym.code (plus : Bool) : Sym → List Bool
  | .data b => dataCode plus b.toNat
  | c => groupAt plus true (levels 10 (controlCode c))

/-- The levels of a lane that carries symbols from a running disparity on (R385, R389). -/
def lineLevels : Bool → List Sym → List Bool
  | _, [] => []
  | plus, c :: l => c.code plus ++ lineLevels (nextDisparity plus (c.code plus)) l

/-! ### Training (R390) -/

/-- A training ordered set on lane `n` (R390). -/
def orderedSet (set : TrainSet) (n : Nat) (mask : BitVec 4) (cred rxeq txde : Nat) : List Sym :=
  .com :: ([match set with | .ts1 => 0x4A | .ts2 => 0x45, n, mask.toNat, cred, rxeq % 8 + txde % 4 * 8, 0, 0].map
    (fun v => Sym.data (BitVec.ofNat 8 v)))

end Sys2Proof.Machine
end

