-- ==== Sys2Proof/Machine/Calendar.lean ====
section
/-! DEFINITION. The Gregorian calendar over day numbers since 2000-01-01 (R10, R253, R467), with times before 2000 and
after 2399 carried through whole cycles of 400 years. -/
namespace Sys2Proof.Machine

/-- A calendar date. -/
structure Date where
  year  : Int
  month : Nat
  day   : Nat
  deriving DecidableEq, Repr

/-- Days from 0000-03-01 of the calendar cycle to 2000-01-01. -/
def cycleDays : Int := 730425

/-- The date of a day number since 2000-01-01. -/
def dateOf (n : Int) : Date :=
  let z := n + cycleDays
  let era := z / 146097
  let doe := (z % 146097).toNat
  let yoe := (doe - doe / 1460 + doe / 36524 - doe / 146096) / 365
  let doy := doe - (365 * yoe + yoe / 4 - yoe / 100)
  let mp := (5 * doy + 2) / 153
  let m := if mp < 10 then mp + 3 else mp - 9
  { year := era * 400 + (yoe : Int) + (if m ≤ 2 then 1 else 0), month := m, day := doy - (153 * mp + 2) / 5 + 1 }

/-- The day number since 2000-01-01 of a date. -/
def dayOf (x : Date) : Int :=
  let y := if x.month ≤ 2 then x.year - 1 else x.year
  let yoe := (y % 400).toNat
  let mp := if 2 < x.month then x.month - 3 else x.month + 9
  let doy := (153 * mp + 2) / 5 + x.day - 1
  (y / 400) * 146097 + ((yoe * 365 + yoe / 4 - yoe / 100 + doy : Nat) : Int) - cycleDays

/-- The weekday of a day number, 0 Monday … 6 Sunday; 2000-01-01 was a Saturday. -/
def weekdayOf (n : Int) : Nat := ((n + 5) % 7).toNat

/-- Whether a year is a leap year (R467). -/
def isLeap (y : Nat) : Bool := y % 4 == 0 && (y % 100 != 0 || y % 400 == 0)

/-- The length of a month; months outside 1 … 12 have 31 days (R469, R470). -/
def monthDays (y m : Nat) : Nat :=
  if m = 2 then (if isLeap y then 29 else 28) else if m = 4 ∨ m = 6 ∨ m = 9 ∨ m = 11 then 30 else 31

/-- The day of a year's month that is the given weekday of the given week, 5 the last (R253). -/
def ruleDay (year : Int) (month week wday : Nat) : Int :=
  let first := dayOf { year := year, month := month, day := 1 }
  let d0 := first + (((wday : Int) - weekdayOf first) % 7)
  let d := d0 + 7 * ((min week 5 - 1 : Nat) : Int)
  if week < 5 then d
  else if (dateOf d).month = month then d else d - 7

end Sys2Proof.Machine
end

