-- ==== Sys2Proof/Machine/Schedule.lean ====
section
/-! DEFINITION. Local time, the weekly schedule, alarms, the occupancy learner and the tariff (chapter 08). -/
namespace Sys2Proof.Machine

/-- The schedule state of slice `p`. -/
def State.sc (s : State) (p : Phys) : Sched := (s.z p).sched

/-- The schedule state of slice `p` changed. -/
def State.onSc (s : State) (p : Phys) (f : Sched → Sched) : State := s.onZ p (fun z => { z with sched := f z.sched })

/-- The clock-trust flag (R466). -/
def State.trusted (s : State) : Bool := s.cellar.trusted

/-! ### Local time (R253, R254). Minutes of house time are integers since 2000-01-01T00:00. -/

/-- House time in whole minutes, as slice `p` keeps it (R33). -/
def State.minute (s : State) (p : Phys) : Int := (s.slNow p / minuteUs : Nat)

/-- STD_OFS. -/
def stdOfs (s : State) (p : Phys) : Int := s.gi p F.SCH_TZ_1_STD_OFS

/-- DST_OFS. -/
def dstOfs (s : State) (p : Phys) : Int := s.g p F.SCH_TZ_1_DST_OFS

/-- The house minute at which daylight time starts in a year: the rule's minute is standard time. -/
def dstStart (s : State) (p : Phys) (y : Int) : Int :=
  ruleDay y (s.g p F.SCH_TZ_2_MONTH) (s.g p F.SCH_TZ_2_WEEK) (s.g p F.SCH_TZ_2_WDAY) * 1440
    + s.g p F.SCH_TZ_2_MIN - stdOfs s p

/-- The house minute at which daylight time ends in a year: the rule's minute is daylight time. -/
def dstEnd (s : State) (p : Phys) (y : Int) : Int :=
  ruleDay y (s.g p F.SCH_TZ_3_MONTH) (s.g p F.SCH_TZ_3_WEEK) (s.g p F.SCH_TZ_3_WDAY) * 1440
    + s.g p F.SCH_TZ_3_MIN - stdOfs s p - dstOfs s p

/-- The local standard year of a house minute. -/
def stdYear (s : State) (p : Phys) (m : Int) : Int := (dateOf ((m + stdOfs s p) / 1440)).year

/-- Whether daylight time is in force at a house minute (R253). -/
def dstAt (s : State) (p : Phys) (m : Int) : Bool :=
  if s.gb p F.SCH_TZ_1_DST_EN then
    let y := stdYear s p m
    let a := dstStart s p y
    let b := dstEnd s p y
    if s.g p F.SCH_TZ_3_MONTH < s.g p F.SCH_TZ_2_MONTH then decide (a ≤ m) || decide (m < b)
    else decide (a ≤ m) && decide (m < b)
  else false

/-- The local wall-clock minute of a house minute. -/
def localMin (s : State) (p : Phys) (m : Int) : Int := m + stdOfs s p + (if dstAt s p m then dstOfs s p else 0)

/-- The house minute of a local wall-clock minute (R254): the first occurrence of a repeated minute, the instant of the
change for a skipped one. -/
def houseMin (s : State) (p : Phys) (l : Int) : Int :=
  let h1 := l - stdOfs s p
  let h2 := h1 - dstOfs s p
  if dstAt s p h2 then h2
  else if !dstAt s p h1 then h1
  else dstStart s p (stdYear s p h1)

/-- The local day number now. -/
def localDay (s : State) (p : Phys) : Int := localMin s p (s.minute p) / 1440

/-! ### Day types (R256) -/

/-- Whether exception entry `m` matches a local day; `annual` selects entries for every year. -/
def excMatches (s : State) (p : Phys) (d : Int) (annual : Bool) (m : Nat) : Bool :=
  let x := dateOf d
  let y := s.g p F.SCH_EXC_m_YEAR m
  s.gb p F.SCH_EXC_m_EN m && s.g p F.SCH_EXC_m_MONTH m == x.month && s.g p F.SCH_EXC_m_DAY m == x.day
    && (if annual then y == 0x1FF else decide (y < 0x1FF) && decide ((y : Int) + 2000 = x.year))

/-- The exception entry in force on a local day (R256). -/
def excOf (s : State) (p : Phys) (d : Int) : Option Nat :=
  match (List.range 64).find? (excMatches s p d false) with
  | some m => some m
  | none => (List.range 64).find? (excMatches s p d true)

/-- The day type of a local day, 0 … 7. -/
def dayType (s : State) (p : Phys) (d : Int) : Nat :=
  match excOf s p d with
  | some m => s.g p F.SCH_EXC_m_DAYTYPE m
  | none => weekdayOf d

/-- The day type that selects the tariff bands of a local day (R256, R267). -/
def tariffDay (s : State) (p : Phys) (d : Int) : Nat :=
  match excOf s p d with
  | some m => if s.gb p F.SCH_EXC_m_TARIFF m then min (s.g p F.SCH_EXC_m_DAYTYPE m) 6 else weekdayOf d
  | none => weekdayOf d

/-! ### Schedule state and band in force (R255, R257, R267) -/

/-- Whether weekly event `k` is enabled on a weekday. -/
def evtOn (s : State) (p : Phys) (wd k : Nat) : Bool :=
  s.gb p F.SCH_EVT_k_EN k && bitOf (s.g p F.SCH_EVT_k_DAYS k) wd

/-- Whether tariff band `k` is enabled on a weekday. -/
def bandOn (s : State) (p : Phys) (wd k : Nat) : Bool :=
  s.gb p F.ZT_BAND_k_A_EN k && bitOf (s.g p F.ZT_BAND_k_A_DAYS k) wd

/-- The item with the greatest minute of a list, the later index on equal minutes. -/
def latest (minute : Nat → Nat) (l : List Nat) : Option Nat :=
  l.foldl (fun (b : Option Nat) k =>
    match b with
    | some j => if minute j ≤ minute k then some k else some j
    | none => some k) none

/-- The items of a day at or before a house minute (all of them with none). -/
def upTo (s : State) (p : Phys) (d : Int) (m : Option Int) (minute : Nat → Nat) (l : List Nat) : List Nat :=
  match m with
  | some t => l.filter (fun k => houseMin s p (d * 1440 + minute k) ≤ t)
  | none => l

/-- The state that a local day sets by a house minute (R257): its latest event, or CLOSED throughout under DAYTYPE 7. -/
def dayState (s : State) (p : Phys) (d : Int) (m : Option Int) : Option Nat :=
  let ty := dayType s p d
  if ty = 7 then some 2
  else
    let min := fun k => s.g p F.SCH_EVT_k_MIN k
    (latest min (upTo s p d m min ((List.range 32).filter (evtOn s p ty)))).map (fun k => s.g p F.SCH_EVT_k_ACTION k)

/-- The schedule state at a house minute (R257): carried from at most seven days back, else UNOCC. -/
def schedAt (s : State) (p : Phys) (m : Int) : Nat :=
  let d := localMin s p m / 1440
  match dayState s p d (some m) with
  | some x => x
  | none => ((List.range 7).findSome? (fun i => dayState s p (d - 1 - (i : Int)) none)).getD 0

/-- The band that a local day sets by a house minute. -/
def dayBand (s : State) (p : Phys) (d : Int) (m : Option Int) : Option Nat :=
  let min := fun k => s.g p F.ZT_BAND_k_A_MIN k
  latest min (upTo s p d m min ((List.range 48).filter (bandOn s p (tariffDay s p d))))

/-- The tariff band in force at a house minute (R267). -/
def bandAt (s : State) (p : Phys) (m : Int) : Option Nat :=
  let d := localMin s p m / 1440
  match dayBand s p d (some m) with
  | some x => some x
  | none => (List.range 7).findSome? (fun i => dayBand s p (d - 1 - (i : Int)) none)

/-- The schedule state of the weekdays alone at a minute of the week (R265). -/
def weeklyAt (s : State) (p : Phys) (wd minute : Nat) : Nat :=
  let min := fun k => s.g p F.SCH_EVT_k_MIN k
  let on := fun w => (List.range 32).filter (evtOn s p w)
  match latest min ((on wd).filter (fun k => min k ≤ minute)) with
  | some k => s.g p F.SCH_EVT_k_ACTION k
  | none =>
    match (List.range 7).findSome? (fun i => latest min (on ((wd + 13 - i) % 7))) with
    | some k => s.g p F.SCH_EVT_k_ACTION k
    | none => 0

/-! ### Evaluation at the present instant (R259) -/

/-- The schedule state written, with its event. -/
def setSchedState (s : State) (p : Phys) (v : Nat) : State :=
  if s.g p F.SCH_STAT_STATE = v then s else (s.w p F.SCH_STAT_STATE v).evt p 8 EVT.SCH_STATE

/-- The band in force written with its prices (R267); none while the clock is untrusted (R263). -/
def setBand (s : State) (p : Phys) (b : Option Nat) : State :=
  let k := b.getD 0
  let elec := if b.isSome then s.g p F.ZT_BAND_k_B_ELEC k else 0
  let heat := if b.isSome then s.g p F.ZT_BAND_k_B_HEAT k else 0
  let cool := if b.isSome then s.g p F.ZT_BAND_k_C_COOL k else 0
  let s1 := (((s.w p F.ZT_STAT_BAND k).w p F.ZT_PRICE_1_ELEC elec).w p F.ZT_PRICE_1_HEAT heat).w p
    F.ZT_PRICE_2_COOL cool
  s1.evtIf (s.g p F.ZT_STAT_BAND != k) p 9 EVT.ZT_BAND

/-- The day type and exception in force (R256). -/
def setDay (s : State) (p : Phys) : State :=
  let d := localDay s p
  let e := excOf s p d
  let ty := dayType s p d
  let hol := match e with | some m => s.gb p F.SCH_EXC_m_TARIFF m | none => false
  let s1 := ((((s.w p F.SCH_STAT_DAYTYPE ty).wb p F.SCH_STAT_EXC e.isSome).w p F.SCH_STAT_EXC_IDX (e.getD 0))).wb p
    F.ZT_STAT_HOLIDAY hol
  s1.evtIf (s.g p F.SCH_STAT_DAYTYPE != ty) p 8 EVT.SCH_DAY

/-- Schedule state, tariff band and daylight state evaluated at the present instant (R257, R259, R263). -/
def reevaluate (s : State) (p : Phys) : State :=
  if s.trusted then
    let s1 := s.wbEvt p F.SCH_STAT_DST (dstAt s p (s.minute p)) 8 EVT.SCH_DST
    let s2 := setDay s1 p
    setBand (setSchedState s2 p (schedAt s2 p (s2.minute p))) p (bandAt s2 p (s2.minute p))
  else setBand (setSchedState s p 0) p none

/-! ### Tariff trust (R268) -/

/-- EMPTY, EXPIRED and VALID judged at the present instant, with E-4C13 for each that begins. -/
def judgeTariff (s : State) (p : Phys) : State :=
  let empty := (List.range 48).all (fun k => !s.gb p F.ZT_BAND_k_A_EN k)
  let u := s.g p F.ZT_VALID_UNTIL
  let expired := decide (u ≠ 0) && decide ((u : Int) ≤ s.minute p)
  let told := (s.sc p).tariffTold
  let now := bit1 empty + 2 * bit1 expired
  let s1 := (s.wb p F.ZT_STAT_EMPTY empty).wb p F.ZT_STAT_EXPIRED expired
  let s2 := s1.wbEvt p F.ZT_STAT_VALID (!empty && !expired) 9 EVT.ZT_TRUST
  let s3 := s2.wbEvt p F.ZP_STAT_UNTR_TARIFF (empty || expired) 7 EVT.ZP_TRUST
  let s4 := s3.onSc p (fun x => { x with tariffTold := now, priceBad := x.priceBad || empty || expired })
  let s5 := if empty && !bitOf told 0 then s4.err p 9 0 0x4C13 else s4
  if expired && !bitOf told 1 then s5.err p 9 1 0x4C13 else s5

/-! ### The occupancy learner (R264 to R266) -/

/-- Bin `b` of the learner. -/
def binAt (s : State) (p : Phys) (b : Nat) : Nat :=
  let w := (s.z p).regs.word R.ZP_OCC_w (b / 4)
  fieldOf w (8 * (b % 4) + 7) (8 * (b % 4))

/-- Bin `b` written. -/
def setBin (s : State) (p : Phys) (b v : Nat) : State :=
  let w := (s.z p).regs.word R.ZP_OCC_w (b / 4)
  s.wWord p R.ZP_OCC_w (putField w (8 * (b % 4) + 7) (8 * (b % 4)) v) (b / 4)

/-- Every bin set from the weekly schedule (R265). -/
def resetBins (s : State) (p : Phys) : State :=
  (List.range 672).foldl (fun (s : State) (b : Nat) =>
    setBin s p b (if weeklyAt s p (b / 96) (b % 96 * 15) = 1 then 255 else 0)) s

/-- Whether updates are withheld for a presence fallback or presence MODE 3 (R264). -/
def occFrozen (s : State) (p : Phys) : Bool :=
  s.gb p F.ZI_STAT_PRES_FALLBACK || s.g p F.ZI_PRES_CFG_MODE == 3

/-- OCC_FROZEN with E-4C18 when it begins (R264). -/
def judgeFrozen (s : State) (p : Phys) : State :=
  let b := occFrozen s p
  let was := s.gb p F.ZP_STAT_OCC_FROZEN
  let s1 := s.wb p F.ZP_STAT_OCC_FROZEN b
  if b && !was then s1.err p 7 0 0x4C18 else s1

/-- The last local minute of the local quarter-hour that ended last. -/
def lastStep (s : State) (p : Phys) : Int :=
  let m := s.minute p
  localMin s p (m - localMin s p m % 15 - 1)

/-- The bin of the local quarter-hour that ended last. -/
def binEnded (s : State) (p : Phys) : Nat :=
  let l := lastStep s p
  (weekdayOf (l / 1440) * 96 + (l % 1440).toNat / 15) % 672

/-- LEARNER_UPDATE (R264): presence was active for `active` of `total` in the step that ended. -/
def learnStep (s : State) (p : Phys) (bin active total : Nat) : State :=
  let day := lastStep s p / 1440
  let ok := !(s.sc p).learnBad && !occFrozen s p && s.trusted && (excOf s p day).isNone && decide (bin = binEnded s p)
  let s1 := s.onSc p (fun x => { x with learnBad := false })
  if ok then
    let f : Rat := if total = 0 then 0 else min 1 ((active : Rat) / (total : Rat))
    let q : Rat := (binAt s p bin : Rat)
    let v := q + (f * 255 - q) / (s.g p F.ZP_CFG_3_LEARN_W : Rat)
    setBin s1 p bin (clampInt 0 255 (Config.nearest v)).toNat
  else s1

/-- Whether a plan step that starts at a house minute is forecast occupied (R266). -/
def forecastAt (s : State) (p : Phys) (m : Int) : Bool :=
  let st := schedAt s p m
  let l := localMin s p m
  let ty := dayType s p (l / 1440)
  if ty = 7 then false
  else if st = 1 then true
  else if st = 0 ∧ occFrozen s p = false then
    decide (s.g p F.ZP_CFG_1_OCC_THR * 255 ≤ binAt s p (ty * 96 + (l % 1440).toNat / 15) * 100)
  else false

/-! ### Alarms (R259 to R263) -/

/-- An alarm kind as (KIND, INDEX). -/
def alarmKey : AlarmKind → Nat × Nat
  | .daylight => (1, 0) | .dayStart => (2, 0) | .band k => (3, k.val) | .event k => (4, k.val) | .planStep => (5, 0)

/-- Whether an alarm is set for a house minute by the tables as they stand (R259). -/
def alarmSet (s : State) (p : Phys) (key : Nat × Nat) (m : Int) : Bool :=
  let onDay := fun (f : Int → Option Int) =>
    let d := localMin s p m / 1440
    [d - 1, d, d + 1].any (fun d => f d == some m)
  match key.1 with
  | 1 => s.gb p F.SCH_TZ_1_DST_EN && (let y := stdYear s p m
      [y - 1, y, y + 1].any (fun y => dstStart s p y == m || dstEnd s p y == m))
  | 2 => onDay (fun d => some (houseMin s p (d * 1440)))
  | 3 => onDay (fun d => if bandOn s p (tariffDay s p d) key.2 then
      some (houseMin s p (d * 1440 + s.g p F.ZT_BAND_k_A_MIN key.2)) else none)
  | 4 => onDay (fun d => if dayType s p d < 7 ∧ evtOn s p (dayType s p d) key.2 then
      some (houseMin s p (d * 1440 + s.g p F.SCH_EVT_k_MIN key.2)) else none)
  | 5 => m % 15 == 0
  | _ => false

/-- Every alarm key in the order of R259. -/
def alarmKeys : List (Nat × Nat) :=
  [(1, 0), (2, 0)] ++ (List.range 48).map (fun k => (3, k)) ++ (List.range 32).map (fun k => (4, k)) ++ [(5, 0)]

/-- The alarms of one house minute in the order of R259; kinds 1 … 4 only while the clock is trusted (R263). -/
def alarmsAt (s : State) (p : Phys) (m : Int) : List (Nat × Nat) :=
  alarmKeys.filter (fun k => (s.trusted || k.1 == 5) && alarmSet s p k m)

/-- The alarms with instants in the minutes a + 1 … a + n, in chronological order. -/
def alarmsIn (s : State) (p : Phys) (a : Int) : Nat → List (Int × Nat × Nat)
  | 0 => []
  | n + 1 => alarmsIn s p a n ++ (alarmsAt s p (a + n + 1)).map (fun k => (a + n + 1, k))

/-- Whether an alarm comes after the last one fired (R259, R261). -/
def afterMark (s : State) (p : Phys) (key : Nat × Nat) (at_ : Nat) : Bool :=
  let mark := (s.sc p).mark
  let last := s.g p F.SCH_ALM_TS_LO_TS + s.g p F.SCH_ALM_TS_HI_TS * 2 ^ 32
  decide (mark < at_)
    || (decide (mark = at_) && decide (last = at_)
      && (decide (s.g p F.SCH_ALM_KIND < key.1)
        || (decide (s.g p F.SCH_ALM_KIND = key.1) && decide (s.g p F.SCH_ALM_INDEX < key.2))))

/-- An alarm fired (R259): SCH_ALM, the high-water mark, its effect due at the next loop tick; LATE is counted. -/
def fireAlarm (s : State) (p : Phys) (key : Nat × Nat) (at_ : Nat) (late : Bool) : State :=
  let s1 := ((s.w p F.SCH_ALM_KIND key.1).w p F.SCH_ALM_INDEX key.2).wb p F.SCH_ALM_LATE late
  let s2 := s1.onR p (fun r => r.put64 R.SCH_ALM_TS_LO R.SCH_ALM_TS_HI at_)
  let s3 := s2.onSc p (fun x => { x with mark := at_, due := x.due ++ [{ kind := key.1, index := key.2, at_ := at_ }] })
  if late then (s3.bump p F.SCH_ALM_CNT_LATE).evt p 8 EVT.SCH_LATE else s3

/-- The effect of the due alarms in step 1 of a loop tick (R259): the present state of schedule, band and daylight; a
day start clears the cost day (R278). -/
def applyDue (s : State) (p : Phys) : State :=
  let due := (s.sc p).due
  let s0 := s.onSc p (fun x => { x with due := [] })
  if due.isEmpty then s0
  else
    let s1 := if due.any (fun d => d.kind == 2) then
        ((s0.w p F.ZP_COST_DAY_COST 0).w p F.ZP_UNPRICED_MIN 0).onSc p (fun x => { x with costRem := 0 })
      else s0
    if due.any (fun d => d.kind != 5) then reevaluate s1 p else s1

/-- The local date and time shown (R282). -/
def showLocal (s : State) (p : Phys) : Word :=
  let l := localMin s p (s.minute p)
  let d := l / 1440
  let x := dateOf d
  BitVec.ofNat 32 (imageOf 9 (x.year - 2000) * 2 ^ 23 + x.month * 2 ^ 19 + x.day * 2 ^ 14 + weekdayOf d * 2 ^ 11
    + (l % 1440).toNat)

/-- The next alarm and the seconds until it (R282): every quarter-hour has one. -/
def nextAlarm (s : State) (p : Phys) : Word :=
  match (alarmsIn s p (s.minute p) 15).head? with
  | some (m, k, i) => BitVec.ofNat 32 (k * 2 ^ 28 + i * 2 ^ 20
      + satTo 20 (((m.toNat * minuteUs - s.slNow p) + 999999) / 1000000))
  | none => 0

end Sys2Proof.Machine
end

