-- ==== Sys2Proof/Machine/Planner.lean ====
section
/-! DEFINITION. The cost-aware planner: the sides it runs for, the predicted zone, costs, the choice of a plan, its
triggers, learned power and trust (R269 to R278). -/
namespace Sys2Proof.Machine

/-- The loops of slice `p`. -/
def State.lp (s : State) (p : Phys) : Loop := (s.z p).loop

/-- The loops of slice `p` changed. -/
def State.onLp (s : State) (p : Phys) (f : Loop → Loop) : State := s.onZ p (fun z => { z with loop := f z.loop })

/-! ### Sides: `false` heating, `true` cooling -/

/-- Whether an output function belongs to a side (R229). -/
def funcOfSide (cool : Bool) (f : Nat) : Bool := if cool then f == 2 || f == 5 else f == 1 || f == 4

/-- Whether a side has an output of its function. -/
def sideHasOut (s : State) (p : Phys) (cool : Bool) : Bool :=
  (List.range 5).any (fun j => funcOfSide cool (s.g p F.ZL_ACT_j_FUNC j))

/-- CONF of a side [%]. -/
def confOf (s : State) (p : Phys) (cool : Bool) : Nat :=
  if cool then s.g p F.ZL_MODEL_C_2_CONF else s.g p F.ZL_MODEL_H_2_CONF

/-- K of a side [K/%]. -/
def gainK (s : State) (p : Phys) (cool : Bool) : Rat :=
  (if cool then (s.g p F.ZL_MODEL_C_1_K : Rat) else (s.g p F.ZL_MODEL_H_1_K : Rat)) / 10000

/-- θ of a side [s]. -/
def thetaOf (s : State) (p : Phys) (cool : Bool) : Nat :=
  if cool then s.g p F.ZL_MODEL_C_1_THETA else s.g p F.ZL_MODEL_H_1_THETA

/-- τ of a side [s]. -/
def tauOf (s : State) (p : Phys) (cool : Bool) : Nat :=
  if cool then s.g p F.ZL_MODEL_C_2_TAU else s.g p F.ZL_MODEL_H_2_TAU

/-- One side of the loops. -/
def Loop.side (l : Loop) (cool : Bool) : Side := if cool then l.sideC else l.sideH

/-- One side of the loops changed. -/
def Loop.onSide (l : Loop) (cool : Bool) (f : Side → Side) : Loop :=
  if cool then { l with sideC := f l.sideC } else { l with sideH := f l.sideH }

/-- KC [%/K] and TI [s] of a side. -/
def piOf (s : State) (p : Phys) (cool : Bool) : Rat × Rat :=
  if cool then ((s.g p F.ZL_PI_C_KC : Rat) / 100, (s.g p F.ZL_PI_C_TI : Rat))
  else ((s.g p F.ZL_PI_H_KC : Rat) / 100, (s.g p F.ZL_PI_H_TI : Rat))

/-- The principal output of a side (R231): its lowest-numbered HEAT or COOL output. -/
def principal (s : State) (p : Phys) (cool : Bool) : Option Out :=
  (List.finRange 5).find? (fun j => s.g p F.ZL_ACT_j_FUNC j == (if cool then 2 else 1))

/-- The rate limit of a side's principal output as a change of the demand [%/s] (R229, R230); none is unlimited. -/
def rateOf (s : State) (p : Phys) (cool : Bool) : Option Rat :=
  match principal s p cool with
  | some j =>
    let r := s.g p F.ZL_ACT_j_RATE_MINT j
    let span : Rat := (s.g p F.ZL_ACT_j_END j : Rat) - (s.g p F.ZL_ACT_j_START j : Rat)
    if r = 0 then none else some ((r : Rat) / 10 * span / 100)
  | none => none

/-- CMD_MODE AUTO (R218). -/
def autoMode : Nat := 7

/-- Whether the planner runs for a side (R269). -/
def plansSide (s : State) (p : Phys) (cool : Bool) : Bool :=
  (s.lp p).cmd == autoMode && s.gb p F.ZP_CFG_1_PLAN_EN && sideHasOut s p cool && decide (50 ≤ confOf s p cool)
    && s.trusted

/-- The cause for which a side falls back (R269): 1 time, 2 model; none while it plans or is not wanted. -/
def fallsBack (s : State) (p : Phys) (cool : Bool) : Option Nat :=
  if (s.lp p).cmd == autoMode && s.gb p F.ZP_CFG_1_PLAN_EN && sideHasOut s p cool then
    if !s.trusted then some 1 else if confOf s p cool < 50 then some 2 else none
  else none

/-! ### Setpoints [0.01 °C] (R217, R221) -/

/-- COMF_H + OFFSET or COMF_C + OFFSET; OFFSET is held in 0.1 K. -/
def comfSp (s : State) (p : Phys) (cool : Bool) : Int :=
  (if cool then s.gi p F.ZL_SP_COMF_COOL else s.gi p F.ZL_SP_COMF_HEAT) + 10 * (s.lp p).offset

/-- ECO_H or ECO_C. -/
def ecoSp (s : State) (p : Phys) (cool : Bool) : Int :=
  if cool then s.gi p F.ZL_SP_ECO_COOL else s.gi p F.ZL_SP_ECO_HEAT

/-- A replaced setpoint limited to the range of R221. -/
def clampPlan (s : State) (p : Phys) (cool : Bool) (v : Int) : Int :=
  if cool then clampInt (comfSp s p true) (ecoSp s p true) v else clampInt (ecoSp s p false) (comfSp s p false) v

/-! ### Plan steps -/

/-- The house minute of the quarter-hour at or before now. -/
def quarterNow (s : State) (p : Phys) : Int := s.minute p / 15 * 15

/-- The forecast of the 96 steps from a quarter-hour (R266, R267): occupied, band in force. -/
def forecast (s : State) (p : Phys) (q : Int) : List (Bool × Nat) :=
  (List.range 96).map (fun k => (forecastAt s p (q + 15 * (k : Int)), (bandAt s p (q + 15 * (k : Int))).getD 0))

/-- Whether a minute stands within PRE_T minutes before, or in, a forecast occupied step (R269). -/
def preTime (s : State) (p : Phys) (m : Int) : Bool :=
  let q := m / 15 * 15
  let n := s.g p F.ZP_CFG_3_PRE_T
  (List.range (n / 15 + 2)).any (fun i =>
    let t := q + 15 * (i : Int)
    (decide (t ≤ m + n)) && forecastAt s p t)

/-- The mode setpoint of a side in a step with the PRE_T rule [0.01 °C]. -/
def modeStep (s : State) (p : Phys) (cool : Bool) (m : Int) : Int :=
  if forecastAt s p m || preTime s p m then comfSp s p cool else ecoSp s p cool

/-! ### The predicted zone (R270) -/

/-- One side of a prediction: its integrator, its demand by minute (newest first), the transit's u_hold, its last
setpoint. -/
structure SimSide where
  integ : Rat := 0
  us    : List Rat := []
  hold  : Option Rat := none
  last  : Option Rat := none
  deriving DecidableEq, Repr

/-- A prediction: T_C and both sides. -/
structure Sim where
  y : Rat
  h : SimSide := {}
  c : SimSide := {}
  deriving DecidableEq, Repr

/-- The discrete coefficients of a side's published model (R236): a, b, c_o, c_p, and c_0 of its recursive estimate. -/
def coefOf (s : State) (p : Phys) (cool : Bool) : Rat × Rat × Rat × Rat × Rat :=
  let tau := tauOf s p cool
  let a := if tau = 0 then 0 else Config.exp (-60 / (tau : Rat))
  let k := gainK s p cool
  let ko : Rat := (if cool then (s.gi p F.ZL_DIST_C_K_O : Rat) else (s.gi p F.ZL_DIST_H_K_O : Rat)) / 10000
  let kp : Rat := (if cool then (s.gi p F.ZL_DIST_C_K_P : Rat) else (s.gi p F.ZL_DIST_H_K_P : Rat)) / 1000
  (a, (if cool then -k else k) * (1 - a), ko * (1 - a), kp * (1 - a), ((s.lp p).side cool).rls.w[4])

/-- The steps of dead time d = round(θ / Ts) (R236). -/
def deadSteps (s : State) (p : Phys) (cool : Bool) : Nat := (Config.nearest ((thetaOf s p cool : Rat) / 60)).toNat

/-- The outdoor temperature in use [°C]; 0 K of effect where none is known. -/
def outdoorT (s : State) (p : Phys) : Rat :=
  match tempOf (s.g p F.ZL_OUTDOOR_T_O) with
  | some t => (t : Rat) / 100
  | none => 0

/-- One step of a side's model. -/
def modelNext (k : Rat × Rat × Rat × Rat × Rat) (y u tOut : Rat) (occ : Bool) : Rat :=
  k.1 * y + k.2.1 * u + k.2.2.1 * tOut + k.2.2.2.1 * (if occ then 1 else 0) + k.2.2.2.2

/-- T_C after `n` steps when the demand switches to `u` now: past demands still in the dead time act first. -/
def rollOut (k : Rat × Rat × Rat × Rat × Rat) (d : Nat) (tOut : Rat) (occ : Bool) (u : Rat) :
    Nat → List Rat → Rat → Rat
  | 0, _, y => y
  | n + 1, us, y => rollOut k d tOut occ u n (u :: us) (modelNext k y (us.getD d u) tOut occ)

/-- A change limited to a rate. -/
def limitRate (r : Option Rat) (dt was want : Rat) : Rat :=
  match r with
  | some r => clampRat (was - r * dt) (was + r * dt) want
  | none => want

/-- One minute of a side's demand (R225, R234): its new integrator, demand and transit. -/
def simSide (s : State) (p : Phys) (cool : Bool) (sp : Option Rat) (y tOut : Rat) (occ : Bool) (x : SimSide) :
    SimSide :=
  match sp with
  | none => { x with us := 0 :: x.us, hold := none, last := none }
  | some v =>
    let g := piOf s p cool
    let sign : Rat := if cool then -1 else 1
    let e := sign * (v - y)
    let k := gainK s p cool
    let u0 := meanOf (x.us.take 15)
    let moved := match x.last with | some l => decide (1 / 2 ≤ sign * (v - l)) | none => false
    let hold := if moved && decide (k ≠ 0) then some (clampRat 0 100 (u0 + e / k)) else
      (if x.last = some v then x.hold else none)
    let d := deadSteps s p cool
    let was := x.us.headD 0
    match hold with
    | some h =>
      let far := rollOut (coefOf s p cool) d tOut occ h d x.us y
      if 1 / 5 < sign * (v - far) then
        { x with us := limitRate (rateOf s p cool) 60 was 100 :: x.us, hold := some h, last := some v }
      else
        { integ := max 0 (h / g.1 - e), us := limitRate (rateOf s p cool) 60 was h :: x.us, hold := none,
          last := some v }
    | none =>
      let i := max 0 (x.integ + e * 60 / g.2)
      { integ := i, us := limitRate (rateOf s p cool) 60 was (clampRat 0 100 (g.1 * (e + i))) :: x.us, hold := none,
        last := some v }

/-- One minute of a prediction. -/
def simMinute (s : State) (p : Phys) (spH spC : Option Rat) (occ : Bool) (m : Sim) : Sim :=
  let t := outdoorT s p
  let h := simSide s p false spH m.y t occ m.h
  let c := simSide s p true spC m.y t occ m.c
  let cool := decide (0 < c.us.headD 0) || decide (gainK s p false = 0)
  let us := if cool then c.us else h.us
  { y := modelNext (coefOf s p cool) m.y (us.getD (deadSteps s p cool) 0) t occ, h := h, c := c }

/-- `n` minutes of a prediction. -/
def simRun (s : State) (p : Phys) (spH spC : Option Rat) (occ : Bool) : Nat → Sim → Sim
  | 0, m => m
  | n + 1, m => simRun s p spH spC occ n (simMinute s p spH spC occ m)

/-- A prediction over plan steps of (SP_H, SP_C, occupied): by step T_C at its start and the mean demands. -/
def simPlan (s : State) (p : Phys) : List (Option Rat × Option Rat × Bool) → Sim → List (Rat × Rat × Rat)
  | [], _ => []
  | (h, c, o) :: l, m =>
    let m' := simRun s p h c o 15 m
    (m.y, meanOf (m'.h.us.take 15), meanOf (m'.c.us.take 15)) :: simPlan s p l m'

/-- The present zone as the start of a prediction. -/
def simNow (s : State) (p : Phys) : Sim :=
  let l := s.lp p
  let sideNow := fun (cool : Bool) =>
    ({ integ := (l.side cool).integ, us := (l.side cool).demand :: (l.side cool).uMeans, hold := none,
       last := (if cool then l.spC else l.spH).map (fun (t : Int) => (t : Rat) / 100) } : SimSide)
  { y := l.tC.getD 0, h := sideNow false, c := sideNow true }

/-! ### Learned power (R276) -/

/-- The carrier of a side: 0 electricity, 1 heat or cooling. -/
def carrier (s : State) (p : Phys) (cool : Bool) : Nat :=
  if cool then s.g p F.ZP_CFG_1_CAR_C else s.g p F.ZP_CFG_1_CAR_H

/-- P_NOM of a side [W]. -/
def pNom (s : State) (p : Phys) (cool : Bool) : Rat :=
  10 * (if cool then (s.g p F.ZP_CFG_2_P_NOM_C : Rat) else (s.g p F.ZP_CFG_2_P_NOM_H : Rat))

/-- The contributions of the last seven days. -/
def p100Pts (s : State) (p : Phys) (cool : Bool) : List P100Pt :=
  (if cool then (s.sc p).ptsC else (s.sc p).ptsH).filter (fun x => s.slNow p < x.time + 7 * 86400000000)

/-- The slope of carrier power over mean demand × 100 % [W], none where the estimate is untrusted (R276). -/
def p100Slope (s : State) (p : Phys) (cool : Bool) : Option Rat :=
  let l := p100Pts s p cool
  let n : Rat := l.length
  let su := (l.map (fun x => x.u)).foldl (· + ·) 0
  let se := (l.map (fun x => x.e)).foldl (· + ·) 0
  let suu := (l.map (fun x => x.u * x.u)).foldl (· + ·) 0
  let sue := (l.map (fun x => x.u * x.e)).foldl (· + ·) 0
  if l.length < 16 then none
  else
    let var := suu / n - su / n * (su / n)
    if var < 25 then none
    else
      let k := (sue / n - su / n * (se / n)) / var * 100
      let nom := pNom s p cool
      if nom ≠ 0 ∧ (k < nom / 4 ∨ 4 * nom < k) then none else some k

/-- P100 in use [W]. -/
def p100 (s : State) (p : Phys) (cool : Bool) : Rat := (p100Slope s p cool).getD (pNom s p cool)

/-! ### Cost (R271, R277) -/

/-- Energy of a step for a mean demand [kWh]; in demand-hours where no P100 is known. -/
def stepEnergy (s : State) (p : Phys) (cool : Bool) (u : Rat) : Rat :=
  let k := p100 s p cool
  u / 100 * (if k = 0 then 1 else k / 1000) / 4

/-- The price of a side's carrier in a band [0.0001 per kWh]; 1 while the tariff is untrusted. -/
def priceOf (s : State) (p : Phys) (cool : Bool) (band : Nat) : Rat :=
  if s.gb p F.ZT_STAT_VALID then
    if carrier s p cool = 0 then (s.g p F.ZT_BAND_k_B_ELEC band : Rat)
    else if cool then (s.g p F.ZT_BAND_k_C_COOL band : Rat) else (s.g p F.ZT_BAND_k_B_HEAT band : Rat)
  else 1

/-- Whether a cost can be known (R277). -/
def costKnown (s : State) (p : Phys) : Bool :=
  s.gb p F.ZT_STAT_VALID && [false, true].all (fun c => !sideHasOut s p c || decide (p100 s p c ≠ 0))

/-- Cost and energy of predicted steps. -/
def costOf (s : State) (p : Phys) (f : List (Bool × Nat)) (r : List (Rat × Rat × Rat)) : Rat × Rat :=
  (f.zip r).foldl (fun (c : Rat × Rat) x =>
    let eh := stepEnergy s p false x.2.2.1
    let ec := stepEnergy s p true x.2.2.2
    (c.1 + eh * priceOf s p false x.1.2 + ec * priceOf s p true x.1.2, c.2 + eh + ec)) (0, 0)

/-! ### The choice of a plan (R272 to R274) -/

/-- One candidate step: planned setpoints in 0.05 °C. -/
abbrev Choice := Option Nat × Option Nat

/-- L_H or L_C [0.01 °C] (R272). -/
def comfortEdge (s : State) (p : Phys) (cool : Bool) : Int :=
  if cool then comfSp s p true + s.g p F.ZP_CFG_1_COMF_TOL else comfSp s p false - s.g p F.ZP_CFG_1_COMF_TOL

/-- The grid values of a side for a step (R272 conditions 1, 2, R273); none for a side that is not planned. -/
def gridOf (s : State) (p : Phys) (cool occ : Bool) : List (Option Nat) :=
  if plansSide s p cool then
    let lo := if cool then comfSp s p true else if occ then max (ecoSp s p false) (comfortEdge s p false)
      else ecoSp s p false
    let hi := if cool then (if occ then min (ecoSp s p true) (comfortEdge s p true) else ecoSp s p true)
      else comfSp s p false
    let l : List (Option Nat) := ((List.range 1023).filter (fun (v : Nat) =>
      decide (lo ≤ 5 * (v : Int)) && decide (5 * (v : Int) ≤ hi))).map some
    if l.isEmpty then [none] else l
  else [none]

/-- The candidates of a step. -/
def choicesOf (s : State) (p : Phys) (occ : Bool) : List Choice :=
  (gridOf s p false occ).flatMap (fun h => (gridOf s p true occ).map (fun c => (h, c)))

/-- Every plan over the candidates of its steps. -/
def allPlans (s : State) (p : Phys) : List (Bool × Nat) → List (List Choice)
  | [] => [[]]
  | (o, _) :: l => (choicesOf s p o).flatMap (fun c => (allPlans s p l).map (fun r => c :: r))

/-- The setpoint [°C] a choice gives a side in a step: the mode setpoint with the PRE_T rule where none is planned. -/
def choiceSp (s : State) (p : Phys) (cool : Bool) (m : Int) (c : Option Nat) : Option Rat :=
  if sideHasOut s p cool then
    some (match c with
      | some v => (v : Rat) / 20
      | none => ((modeStep s p cool m : Int) : Rat) / 100)
  else none

/-- The prediction of a plan from a quarter-hour. -/
def predict (s : State) (p : Phys) (q : Int) (f : List (Bool × Nat)) (plan : List Choice) : List (Rat × Rat × Rat) :=
  simPlan s p ((plan.zip f).zipIdx.map (fun x =>
    let m := q + 15 * (x.2 : Int)
    (choiceSp s p false m x.1.1.1, choiceSp s p true m x.1.1.2, x.1.2.1))) (simNow s p)

/-- Whether a predicted start temperature stands inside the band of R272 condition 3. -/
def insideBand (s : State) (p : Phys) (y : Rat) : Bool :=
  (!plansSide s p false || decide ((comfortEdge s p false : Rat) / 100 - 1 / 5 ≤ y))
    && (!plansSide s p true || decide (y ≤ (comfortEdge s p true : Rat) / 100 + 1 / 5))

/-- Condition 3 of R272. -/
def comfortable (s : State) (p : Phys) (f : List (Bool × Nat)) (r : List (Rat × Rat × Rat)) : Bool :=
  (f.zip r).all (fun x => !x.1.1 || insideBand s p x.2.1)

/-- The first step whose start is inside the band (R274). -/
def soonest (s : State) (p : Phys) (r : List (Rat × Rat × Rat)) : Nat :=
  (r.findIdx? (fun x => insideBand s p x.1)).getD r.length

/-- The first step that departs from the mode setpoints (R273). -/
def departure (s : State) (p : Phys) (q : Int) (plan : List Choice) : Nat :=
  let same := fun (cool : Bool) (m : Int) (c : Option Nat) =>
    match c with
    | some v => decide (5 * (v : Int) = modeStep s p cool m)
    | none => true
  (plan.zipIdx.findIdx? (fun x =>
    let m := q + 15 * (x.2 : Int)
    !(same false m x.1.1 && same true m x.1.2))).getD plan.length

/-- The figures by which plans are compared: cost, energy, departure. -/
structure Score where
  plan  : List Choice
  cost  : Rat
  energy : Rat
  dep   : Nat
  ok    : Bool
  soon  : Nat
  deriving DecidableEq, Repr

/-- Whether a plan is better than another (R273). -/
def Score.better (a b : Score) : Bool :=
  decide (a.cost < b.cost) || (decide (a.cost = b.cost) && (decide (a.energy < b.energy)
    || (decide (a.energy = b.energy) && decide (b.dep < a.dep))))

/-- The first best item of a list. -/
def bestBy {α : Type} (better : α → α → Bool) : List α → Option α
  | [] => none
  | a :: l => some (l.foldl (fun b c => if better c b then c else b) a)

/-- The least-cost comfortable plan, or else the one that reaches the band soonest (R273, R274). -/
def choosePlan (s : State) (p : Phys) (q : Int) (f : List (Bool × Nat)) : Option Score :=
  let l := (allPlans s p f).map (fun x =>
    let r := predict s p q f x
    let c := costOf s p f r
    ({ plan := x, cost := c.1, energy := c.2, dep := departure s p q x, ok := comfortable s p f r,
       soon := soonest s p r } : Score))
  match bestBy Score.better (l.filter (fun x => x.ok)) with
  | some b => some b
  | none => bestBy (fun a b => decide (a.soon < b.soon) || (decide (a.soon = b.soon) && a.better b)) l

/-- The cost of the mode setpoints with the PRE_T rule. -/
def modeCost (s : State) (p : Phys) (q : Int) (f : List (Bool × Nat)) : Rat :=
  (costOf s p f (predict s p q f (f.map (fun _ => (none, none))))).1

/-- The plan made from the present state. -/
def makePlan (s : State) (p : Phys) : Plan :=
  let q := quarterNow s p
  let f := forecast s p q
  let steps := fun (l : List Choice) => (l.zip f).map (fun x =>
    ({ spH := x.1.1, spC := x.1.2, occ := x.2.1, band := x.2.2 } : PlanStep))
  let base : Plan := {
    ts := q.toNat * minuteUs, toAt := tempOf (s.g p F.ZL_OUTDOOR_T_O), modes := f.map (fun x => if x.1 then 3 else 2) }
  match choosePlan s p q f with
  | some b =>
    let known := costKnown s p
    { base with
      steps := steps b.plan, short := !b.ok,
      cost := if known then some (Config.toUnits b.cost).toNat else none,
      costMode := if known then some (Config.toUnits (modeCost s p q f)).toNat else none }
  | none => { base with steps := steps (f.map (fun _ => (none, none))) }

/-! ### Triggers (R275) -/

/-- A plan started; no side planned makes none. -/
def startPlan (s : State) (p : Phys) : State := s.onSc p (fun x => { x with making := some (makePlan s p) })

/-- A trigger of R275: it starts a plan, or exactly one further plan when one is running. -/
def planTrigger (s : State) (p : Phys) : State :=
  if plansSide s p false || plansSide s p true then
    if (s.sc p).making.isSome then (s.onSc p (fun x => { x with again := true })).bump p F.ZP_CNT_COALESCED
    else startPlan s p
  else s

/-- PLAN_COMPLETE (R275): the plan takes effect at the next loop tick; a coalesced trigger starts one further plan. -/
def planDone (s : State) (p : Phys) : State :=
  match (s.sc p).making with
  | none => s
  | some pl =>
    let was := s.gb p F.ZP_STAT_SHORT
    let s1 := (s.onSc p (fun x => { x with making := none, planNext := some pl, again := false })).bump p F.ZP_CNT_PLANS
    let s2 := ((s1.w p F.ZP_STAT_AGE 0).wb p F.ZP_STAT_SHORT pl.short).evt p 7 EVT.ZP_PLAN
    let s3 := if pl.short && !was then s2.err p 7 0 0x4C16 else s2
    if (s.sc p).again then planTrigger s3 p else s3

/-- PLAN_OVERRUN (R275). -/
def planLate (s : State) (p : Phys) : State :=
  if (s.sc p).making.isSome then (s.bump p F.ZP_CNT_OVERRUN).err p 7 0 0x4C17 else s

/-- A cost as its register shows it (R285). -/
def costWord (c : Option Nat) : Nat := match c with | some v => min v 0xFFFFFFFE | none => 0xFFFFFFFF

/-- A setpoint as ZP_STEP_k shows it. -/
def stepField (c : Option Nat) : Nat := c.getD 0x3FF

/-- A completed plan taken into force at a loop tick (R275): its registers show it. -/
def adoptPlan (s : State) (p : Phys) : State :=
  match (s.sc p).planNext with
  | none => s
  | some pl =>
    let s1 := s.onSc p (fun x => { x with plan := some pl, planNext := none })
    let s2 := s1.onR p (fun r =>
      let r1 := r.put64 R.ZP_PLAN_TS_LO R.ZP_PLAN_TS_HI pl.ts
      let r2 := (r1.putNat F.ZP_COST_PLAN_COST (costWord pl.cost)).putNat F.ZP_COST_MODE_COST (costWord pl.costMode)
      pl.steps.zipIdx.foldl (fun (f : RegFile) (x : PlanStep × Nat) =>
        f.putWord R.ZP_STEP_k (BitVec.ofNat 32 (stepField x.1.spH * 2 ^ 22 + stepField x.1.spC * 2 ^ 12
          + bit1 x.1.occ * 2 ^ 11 + x.1.band * 2 ^ 4)) x.2) r2)
    s2

/-- Whether a register shows the plan in force (R284): ZP_PLAN_TS, the costs and ZP_STEP_k. -/
def isPlanReg (a : Nat) : Bool :=
  (decide (0x107058 ≤ a) && decide (a ≤ 0x107064)) || (decide (0x107100 ≤ a) && decide (a < 0x107280))

/-- A slice that takes over a zone holds no plan (R279): none is in force, waiting or in the making, and none is shown. -/
def dropPlan (s : State) (p : Phys) : State :=
  let s1 := s.onSc p (fun x => { x with plan := none, planNext := none, making := none, again := false })
  (s1.onR p (fun f => f.filter (fun c => !isPlanReg c.1))).wb p F.ZP_STAT_SHORT false

/-- The step of the plan in force at the present instant. -/
def planStepNow (s : State) (p : Phys) : Option PlanStep :=
  match (s.sc p).plan with
  | some pl => if pl.ts ≤ s.slNow p then pl.steps[(s.slNow p - pl.ts) / 900000000]? else none
  | none => none

/-! ### Trust and state of the planner (R269, R276, R277) -/

/-- A flag of ZP_STAT with EVT.TRUST, and a new plan when `trig` and the flag changed (R275). -/
def trustFlag (s : State) (p : Phys) (x : Fld) (b trig : Bool) : State :=
  let s1 := s.wbEvt p x b 7 EVT.ZP_TRUST
  if trig && s.gb p x != b then planTrigger s1 p else s1

/-- ZP_COEF and the trust of both P100 (R276) with E-4C14 when one becomes untrusted. -/
def judgeMeters (s : State) (p : Phys) : State :=
  [false, true].foldl (fun (s : State) (c : Bool) =>
    let bad := (p100Slope s p c).isNone
    let told := bitOf (s.sc p).meterTold (bit1 c)
    let w := satTo 16 (Config.toUnits (p100 s p c / 10)).toNat
    let s1 := s.w p (if c then F.ZP_COEF_P100_C else F.ZP_COEF_P100_H) w
    let s2 := trustFlag s1 p (if c then F.ZP_STAT_UNTR_METER_C else F.ZP_STAT_UNTR_METER_H) bad true
    let s3 := s2.onSc p (fun x => { x with meterTold :=
      (x.meterTold - (if told then 2 ^ bit1 c else 0)) + (if bad then 2 ^ bit1 c else 0) })
    if bad && !told then s3.err p 7 (bit1 c) 0x4C14 else s3) s

/-- PSTATE, UNTR_TIME and UNTR_MODEL with E-4C15 when a fallback begins or changes (R269). -/
def judgePlanner (s : State) (p : Phys) : State :=
  let fb := match fallsBack s p false, fallsBack s p true with
    | some a, some b => min a b
    | some a, none => a
    | none, some b => b
    | none, none => 0
  let model := [false, true].any (fun c => sideHasOut s p c && decide (confOf s p c < 50))
  let st := if fb ≠ 0 then 3 else if plansSide s p false || plansSide s p true then
      (if (s.sc p).plan.isSome then 2 else 1) else 0
  let s1 := trustFlag (trustFlag s p F.ZP_STAT_UNTR_TIME (!s.trusted) true) p F.ZP_STAT_UNTR_MODEL model false
  let s2 := s1.w p F.ZP_STAT_PSTATE st
  let s3 := s2.onSc p (fun x => { x with fbTold := fb })
  if fb ≠ 0 ∧ (s.sc p).fbTold ≠ fb then s3.err p 7 fb 0x4C15 else s3

/-- The tariff judged at the present instant (R268); a change of its trust is a trigger (R275). -/
def followTariff (s : State) (p : Phys) : State :=
  let s1 := judgeTariff s p
  if s1.gb p F.ZT_STAT_VALID = s.gb p F.ZT_STAT_VALID then s1 else planTrigger s1 p

/-! ### The clock-trust flag as a zone sees it (R263) -/

/-- The clock became untrusted or trusted for a zone: the schedule is suspended with E-4C12 and no cost is known (R277), or
evaluated at the present time with the high-water mark set to it. -/
def applyTrust (s : State) (p : Phys) : State :=
  if s.trusted then
    if (s.sc p).susp then
      let s1 := (s.onSc p (fun x => { x with susp := false, mark := s.slNow p })).wb p F.SCH_STAT_SUSP false
      planTrigger (reevaluate (s1.wbEvt p F.ZP_STAT_UNTR_TIME false 7 EVT.ZP_TRUST) p) p
    else s
  else if (s.sc p).susp then s
  else
    let s1 := (s.onSc p (fun x => { x with susp := true, due := x.due.filter (fun d => d.kind == 5) })).wb p
      F.SCH_STAT_SUSP true
    let s2 := (s1.w p F.ZP_COST_PLAN_COST 0xFFFFFFFF).w p F.ZP_COST_MODE_COST 0xFFFFFFFF
    (reevaluate (trustFlag s2 p F.ZP_STAT_UNTR_TIME true true) p).err p 8 0 0x4C12

/-! ### Steps of house time (R260, R261) -/

/-- A forward step: every alarm after the old time and at or before the new one fires at once, flagged LATE; beyond
seven days the older ones are superseded. Each plan-step alarm is a trigger (R275). -/
def alarmsForward (s : State) (p : Phys) (old new : Nat) : State :=
  let a : Int := (old / minuteUs : Nat)
  let n := (new / minuteUs) - (old / minuteUs)
  let cut := new - 7 * 86400000000
  let l := (alarmsIn s p a n).map (fun x => (x.1.toNat * minuteUs, x.2))
  let due := l.filter (fun x => decide (old < x.1) && afterMark s p x.2 x.1)
  let late := due.filter (fun x => decide (cut < x.1))
  let gone := (due.filter (fun x => decide (x.1 ≤ cut))).length
  let s1 := late.foldl (fun (s : State) x => fireAlarm s p x.2 x.1 true) s
  let s2 := if late.isEmpty then s1 else s1.err p 8 (satTo 16 late.length) 0x1C10
  let s3 := if gone = 0 then s2 else (s2.bump p F.SCH_ALM_CNT_SUPERSEDED gone).err p 8 (satTo 16 gone) 0x1C11
  late.foldl (fun (s : State) x => if x.2.1 = 5 then planTrigger s p else s) s3

/-- A step of house time for a zone, by 1 s or more (R260, R261). -/
def alarmsStep (s : State) (p : Phys) (old new : Nat) : State :=
  if old + 1000000 ≤ new then alarmsForward s p old new
  else if new + 1000000 ≤ old then planTrigger (reevaluate s p) p
  else s

/-! ### The commands -/

/-- ALARM_FIRE (R259): an alarm that the tables set for the instant, reached and after the mark, fires. -/
def execAlarmFire (p : Phys) (kind : AlarmKind) (instant : Nat) (s : State) : Host.Outcome State Fault Refusal :=
  onRunning s p (fun s =>
    let key := alarmKey kind
    if instant % minuteUs = 0 ∧ instant ≤ s.slNow p ∧ afterMark s p key instant
        ∧ key ∈ alarmsAt s p ((instant / minuteUs : Nat) : Int) then
      let s1 := fireAlarm s p key instant false
      if key.1 = 5 then planTrigger s1 p else s1
    else s)

/-- OCC_HOLD_EXPIRY (R258). -/
def execOccHoldExpiry (p : Phys) (s : State) : Host.Outcome State Fault Refusal :=
  onRunning s p (fun s => s.onSc p (fun x => { x with occLeft := 0 }))

/-- LEARNER_UPDATE (R264). -/
def execLearnerUpdate (p : Phys) (bin : Fin 672) (active total : Nat) (s : State) : Host.Outcome State Fault Refusal :=
  onRunning s p (fun s => learnStep s p bin.val active total)

/-- TARIFF_EXPIRY (R268, R275). -/
def execTariffExpiry (p : Phys) (s : State) : Host.Outcome State Fault Refusal :=
  onRunning s p (fun s => followTariff s p)

/-- PLAN_START (R275): a trigger of the table. -/
def execPlanStart (p : Phys) (s : State) : Host.Outcome State Fault Refusal :=
  onRunning s p (fun s => planTrigger s p)

/-- PLAN_COMPLETE (R275). -/
def execPlanComplete (p : Phys) (s : State) : Host.Outcome State Fault Refusal :=
  onRunning s p (fun s => planDone s p)

/-- PLAN_OVERRUN (R275). -/
def execPlanOverrun (p : Phys) (s : State) : Host.Outcome State Fault Refusal :=
  onRunning s p (fun s => planLate s p)

end Sys2Proof.Machine
end

