-- ==== Sys2Proof/Machine/Modes.lean ====
section
/-! DEFINITION. Zone modes, setpoints and panel requests (R216 to R223), and the start and end of an autotune (R241,
R242, R244). -/
namespace Sys2Proof.Machine

/-! ### Autotune: start, failure (R241, R244) -/

/-- The valid ROOM inputs of slice `p`. -/
def roomInputs (s : State) (p : Phys) : List (Fin 4) :=
  (List.finRange 4).filter (fun n => s.g p F.ZI_TCFG_n_ROLE n == 1 && s.gb p F.ZI_T_n_VALID n)

/-- The mean demand of a side over the preceding 15 min (R234, R242). -/
def meanDemand (s : State) (p : Phys) (cool : Bool) : Rat := meanOf (((s.lp p).side cool).hist.take 900)

/-- A tune that fails with a reason (R242): FAULT, E-4C02, the former model and gains in force. -/
def tuneFault (s : State) (p : Phys) (lseq reason : Nat) : State :=
  let s1 := (((s.w p F.ZL_TUNE_STAT_RESULT 3).w p F.ZL_TUNE_STAT_STEP 0).w p F.ZL_TUNE_STAT_REASON reason).wb p
    F.ZL_STAT_TUNING false
  let s2 := noteBusy s p (((s1.onLp p (fun l => { l with tune := none })).evt p 6 EVT.ZL_TUNE).err p 6 reason 0x4C02)
  match s.zoneOf p with
  | some z => markZone s2 lseq z resFault reason 0
  | none => s2

/-- A running tune ended with a reason; nothing when none runs. -/
def failTune (s : State) (p : Phys) (reason : Nat) : State :=
  match (s.lp p).tune with
  | some t => tuneFault s p t.lseq reason
  | none => s

/-- 0x0120 taken by a zone (R241, R373): a zone in MANUAL, OFF or FLUSH or without a valid ROOM input fails at once. -/
def startTune (s : State) (p : Phys) (x : Exec) : State :=
  let cool := decide (x.byte 0 = 1)
  let side := bit1 cool
  let m := (s.lp p).mode
  if m = 0 ∨ m = 5 ∨ m = 6 ∨ (roomInputs s p).isEmpty then
    tuneFault ((s.w p F.ZL_TUNE_STAT_SIDE side).w p F.ZL_TUNE_STAT_CYCLES 0) p x.lseq 7
  else
    let dflt := fun (v d : Nat) => if v = 0 then d else v
    let t : Tune := {
      lseq := x.lseq, seq := x.seq, cool := cool,
      h := (dflt (x.byte 1) 20 : Nat), eps := (dflt (x.byte 2) 5 : Nat) / 100, rho := (dflt (x.byte 3) 30 : Nat) / 100,
      verify := (x.u16 4 : Rat) / 100, u0 := meanDemand s p cool, rooms := (roomInputs s p).length }
    let s1 := s.onLp p (fun l => { l with tune := some t })
    let s2 := (((s1.w p F.ZL_TUNE_STAT_STEP 1).w p F.ZL_TUNE_STAT_RESULT 1).w p F.ZL_TUNE_STAT_CYCLES 0).w p
      F.ZL_TUNE_STAT_REASON 0
    noteBusy s p ((s2.w p F.ZL_TUNE_STAT_SIDE side).wb p F.ZL_STAT_TUNING true)

/-! ### Modes (R216, R218) -/

/-- Whether a command mode is timed: BOOST or FLUSH. -/
def isTimed (m : Nat) : Bool := m == 4 || m == 6

/-- The command mode, the remaining time and the panel boost shown (R249, R250). -/
def showMode (s : State) (p : Phys) : State :=
  let l := s.lp p
  ((s.w p F.ZL_STAT_CMD_MODE l.cmd).w p F.ZL_TIMERS_REMAIN (satTo 16 (if isTimed l.cmd then l.remain else l.pboost))).wb p
    F.ZL_STAT_PBOOST (decide (0 < l.pboost))

/-- The duration of a timed mode [s]. -/
def timedSeconds (s : State) (p : Phys) (m : Nat) : Nat :=
  60 * (if m = 4 then s.g p F.ZL_TIMERS_BOOST_T else s.g p F.ZL_TIMERS_FLUSH_T)

/-- CMD_MODE set (R218): a timed mode keeps the last untimed value. That a panel boost ends here is the
model's choice (DESIGN CHOICE, notes/assumptions/27). -/
def setCommand (s : State) (p : Phys) (m : Nat) : State :=
  showMode (s.onLp p (fun l => { l with
    cmd := m, pboost := 0,
    prior := if isTimed m && !isTimed l.cmd then l.cmd else l.prior,
    remain := if isTimed m then timedSeconds s p m else 0 })) p

/-- A zone-mode command applied (R244, R275). -/
def applyMode (s : State) (p : Phys) (m : Nat) : State := planTrigger (failTune (setCommand s p m) p 6) p

/-- A timed mode ended (R218): CMD_MODE returns, or the panel boost ends. -/
def endTimed (s : State) (p : Phys) : State :=
  let l := s.lp p
  if isTimed l.cmd then showMode (s.onLp p (fun l => { l with cmd := l.prior, remain := 0 })) p
  else if 0 < l.pboost then showMode (s.onLp p (fun l => { l with pboost := 0 })) p
  else s

/-- The decision of AUTO (R258): COMFORT or ECO. -/
def autoChoice (s : State) (p : Phys) : Nat :=
  let st := s.g p F.SCH_STAT_STATE
  if st = 1 then 3
  else if st = 0 ∧ (s.gb p F.ZI_STAT_PRES = true ∨ 0 < (s.sc p).occLeft) then 3
  else 2

/-- The effective mode (R218). -/
def effMode (s : State) (p : Phys) : Nat :=
  let l := s.lp p
  let base := if l.cmd = autoMode then autoChoice s p else l.cmd
  if (base = 2 ∨ base = 3) ∧ 0 < l.pboost then 4 else base

/-! ### Panel requests (R219, R220, R309) -/

/-- OFFSET changed (R220): a new plan (R275). -/
def setOffset (s : State) (p : Phys) (v : Int) : State :=
  if (s.lp p).offset = v then s else planTrigger (s.onLp p (fun l => { l with offset := v })) p

/-- One panel request in step 1 of a loop tick (R220). -/
def applyReq (s : State) (p : Phys) (r : PanelReq) : State :=
  let m := effMode s p
  if m = 0 ∨ m = 1 ∨ m = 5 ∨ m = 6 then s.bump p F.ZK_CNT_REFUSED
  else
    let l := s.lp p
    let lim : Int := s.g p F.ZL_SP_MISC_PANEL_LIM
    match r with
    | .boost =>
      if m = 2 ∨ m = 3 then showMode (s.onLp p (fun l => { l with pboost := timedSeconds s p 4 })) p
      else if 0 < l.pboost then showMode (s.onLp p (fun l => { l with pboost := 0 })) p
      else s
    | .step up => setOffset s p (clampInt (-lim) lim (l.offset + (if up then 1 else -1)))
    | .zero => setOffset s p 0

/-- Every waiting panel request. -/
def applyReqs (s : State) (p : Phys) : State :=
  (s.lp p).reqs.foldl (fun (s : State) r => applyReq s p r) (s.onLp p (fun l => { l with reqs := [] }))

/-- The effects of due alarms after the panel's requests (R219): a change of the schedule state under AUTO ends a panel boost that
began in this tick, of which `was` is the state before the requests. -/
def applySchedule (was s : State) (p : Phys) : State :=
  let s1 := applyDue s p
  if (s.lp p).cmd = autoMode ∧ (was.lp p).pboost = 0 ∧ s1.g p F.SCH_STAT_STATE ≠ s.g p F.SCH_STAT_STATE then
    showMode (s1.onLp p (fun l => { l with pboost := 0 })) p
  else s1

/-- The effective mode formed in step 1 (R216, R220): OFFSET
returns to 0 when the mode leaves COMFORT and BOOST; a tune is aborted (R244); a change the plan did not predict starts
a plan (R275). -/
def formMode (s : State) (p : Phys) : State :=
  let l0 := s.lp p
  let m := effMode s p
  if m = l0.mode then s
  else
    let warm := fun (k : Nat) => k == 3 || k == 4
    let s2 := ((s.onLp p (fun l => { l with mode := m })).w p F.ZL_STAT_MODE m).evt p 6 EVT.ZL_MODE
    let s3 := if warm l0.mode && !warm m then setOffset s2 p 0 else s2
    let s4 := failTune s3 p 6
    let predicted := match (s.sc p).plan with
      | some pl => if pl.ts ≤ s.slNow p then pl.modes[(s.slNow p - pl.ts) / 900000000]? else none
      | none => none
    if predicted = some m then s4 else planTrigger s4 p

/-! ### Setpoints (R216, R217, R221, R223) -/

/-- The setpoints of a mode [0.01 °C] (R216). -/
def modeSp (s : State) (p : Phys) (m : Nat) : Option Int × Option Int :=
  let frost := s.gi p F.ZL_SP_MISC_FROST
  let boost : Int := 10 * s.g p F.ZL_SP_MISC_BOOST
  match m with
  | 1 => (some frost, none)
  | 2 => (some (ecoSp s p false), some (ecoSp s p true))
  | 3 => (some (comfSp s p false), some (comfSp s p true))
  | 4 => (some (comfSp s p false + boost), some (comfSp s p true - boost))
  | _ => (none, none)

/-- The setpoint that the policy block puts in place of a mode's (R221, R269). -/
def policySp (s : State) (p : Phys) (cool : Bool) : Option Int :=
  if plansSide s p cool then
    match planStepNow s p with
    | some st => (if cool then st.spC else st.spH).map (fun v => clampPlan s p cool (5 * (v : Int)))
    | none => none
  else if fallsBack s p cool = some 2 ∧ preTime s p (s.minute p) = true then some (comfSp s p cool)
  else none

/-- The setpoints in use and their source (R221, R223, R249). -/
def setpoints (s : State) (p : Phys) : Option Int × Option Int × Nat :=
  let l := s.lp p
  let m := l.mode
  let b := modeSp s p m
  let pol := fun (cool : Bool) => if l.cmd = autoMode ∧ (m = 2 ∨ m = 3) then policySp s p cool else none
  let h := (pol false).or b.1
  let c := (pol true).or b.2
  let frost := s.gi p F.ZL_SP_MISC_FROST
  let guard := m != 5 && (match h with | some v => decide (v < frost) | none => true)
  let h' := if guard then some frost else h
  let tuned := fun (cool : Bool) (v : Option Int) =>
    match l.tune with
    | some t => if t.moved && t.cool == cool then some (Config.toUnits (t.target * 100)) else v
    | none => v
  let src := if l.tune.isSome then 5
    else if l.lossT.isSome then 4
    else if guard then 3
    else if (pol false).isSome || (pol true).isSome then 2
    else if (m == 3 || m == 4) && (decide (0 < l.pboost) || decide (l.offset ≠ 0)) then 1
    else 0
  (tuned false h', tuned true c, src)

/-- A setpoint or temperature as its register shows it. -/
def spField (v : Option Int) : Nat := match v with | some t => imageOf 16 t | none => 0x8000

/-- The setpoints formed in step 1 with their registers and EVT.SP. -/
def formSetpoints (s : State) (p : Phys) : State :=
  let r := setpoints s p
  let l := s.lp p
  let s1 := s.onLp p (fun l => { l with spH := r.1, spC := r.2.1, src := r.2.2 })
  let s2 := ((s1.w p F.ZL_SP_EFF_SP_H (spField r.1)).w p F.ZL_SP_EFF_SP_C (spField r.2.1)).w p F.ZL_STAT_SRC r.2.2
  let base := modeSp s p l.mode
  let now := fun (cool : Bool) => if l.cmd = autoMode ∧ (l.mode = 2 ∨ l.mode = 3) then policySp s p cool else none
  let differs := fun (cool : Bool) (b : Option Int) => match now cool with | some v => b != some v | none => false
  let s3 := ((s2.w p F.ZP_NOW_SP_H (spField (now false))).w p F.ZP_NOW_SP_C (spField (now true))).wbEvt p F.ZP_STAT_PRE
    (differs false base.1 || differs true base.2) 7 EVT.ZP_PRE
  s3.evtIf (l.spH != r.1 || l.spC != r.2.1) p 6 EVT.ZL_SP

/-! ### Commands -/

/-- TIMED_MODE_EXPIRY (R218, R220). -/
def execTimedModeExpiry (p : Phys) (s : State) : Host.Outcome State Fault Refusal :=
  onRunning s p (fun s => endTimed s p)

end Sys2Proof.Machine
end

