-- ==== Sys2Proof/Machine/Loops.lean ====
section
/-! DEFINITION. The zone loops: control temperature, PI and transit, cascade, ceilings, actuator sequence, limits,
anti-windup, sensor loss, the zone model and autotune (chapter 07). Demands are in %, requests in 0.01 %. -/
namespace Sys2Proof.Machine

/-! ### Inputs by role (R99, R226, R227) -/

/-- The reading of an input [°C], none where it is not valid. -/
def inputT (s : State) (p : Phys) (n : Fin 4) : Option Rat :=
  if s.gb p F.ZI_T_n_VALID n then (tempOf (s.g p F.ZI_T_n_TEMP n)).map (fun (t : Int) => (t : Rat) / 100) else none

/-- The inputs of a role. -/
def roleInputs (s : State) (p : Phys) (r : Nat) : List (Fin 4) :=
  (List.finRange 4).filter (fun n => s.g p F.ZI_TCFG_n_ROLE n == r && s.g p F.ZI_TCFG_n_TYPE n != 0)

/-- The reading of the lowest-numbered input of a role. -/
def roleT (s : State) (p : Phys) (r : Nat) : Option Rat := (roleInputs s p r).head?.bind (inputT s p)

/-- T_C (R99, R224): the mean of the valid ROOM inputs. -/
def controlT (s : State) (p : Phys) : Option Rat :=
  match (roleInputs s p 1).filterMap (inputT s p) with
  | [] => none
  | l => some (meanOf l)

/-- Whether a cascade is configured (R226). -/
def cascadeOn (s : State) (p : Phys) : Bool := s.gb p F.ZL_RET_CASC && !(roleInputs s p 2).isEmpty

/-- Whether the cascade is bypassed: its SUPPLY input gives no valid reading (R99, R226). -/
def cascadeBypassed (s : State) (p : Phys) : Bool := cascadeOn s p && (roleT s p 2).isNone

/-! ### Ceilings (R227) -/

/-- C_L: the highest LIMIT reading; a broken LIMIT input counts as LIM_SP plus the span (R99). -/
def ceilL (s : State) (p : Phys) : Rat :=
  let sp : Rat := (s.gi p F.ZL_LIMIT_LIM_SP : Rat) / 100
  let span : Rat := (s.g p F.ZL_LIMIT_LIM_SPAN : Rat) / 10
  let l := (roleInputs s p 4).filterMap (fun n => if (s.tIn p n).broken then some (sp + span) else inputT s p n)
  match l with
  | [] => 1
  | t :: ts => clampRat 0 1 (1 - (ts.foldl max t - sp) / span)

/-- C_R: 1 while RET_MAX disables it or no valid RETURN reading exists. -/
def ceilR (s : State) (p : Phys) : Rat :=
  match tempOf (s.g p F.ZL_RET_RET_MAX), roleT s p 3 with
  | some m, some t => clampRat 0 1 (1 - (t - (m : Rat) / 100) / ((s.g p F.ZL_RET_RET_SPAN : Rat) / 10))
  | _, _ => 1

/-- C_D, and whether it took a free value: with neither dew point nor T_C the guard's margin is not stated. -/
def ceilD (s : State) (p : Phys) (tc : Option Rat) : Rat × Bool :=
  let margin : Rat := (s.g p F.ZL_LIMIT_DEW_MARGIN : Rat) / 10
  let dew := if s.gb p F.ZI_STAT_DVALID then
      (tempOf (s.g p F.ZI_HUM_DEW)).map (fun (t : Int) => (t : Rat) / 100) else none
  let tg := (roleT s p 2).or tc
  match tg, dew, tc with
  | some g, some d, _ => (clampRat 0 1 (g - d - margin), false)
  | some g, none, some c => (clampRat 0 1 (g - (c - 3) - margin), false)
  | _, _, _ => (clampRat 0 1 (Config.freeFrac s.free), true)

/-! ### Room stage (R225, R234, R235) -/

/-- K, KC, TI, θ, τ in use for a side: a tune that verifies uses its own (R242). -/
def sideModel (s : State) (p : Phys) (cool : Bool) : Rat × Rat × Rat × Rat × Rat :=
  let g := piOf s p cool
  let reg := (gainK s p cool, g.1, g.2, (thetaOf s p cool : Rat), (tauOf s p cool : Rat))
  match (s.lp p).tune with
  | some t => if t.step = 4 ∧ t.cool = cool then (t.fitK, t.fitKc, t.fitTi, t.fitTheta, t.fitTau) else reg
  | none => reg

/-- A side changed. -/
def State.onSide (s : State) (p : Phys) (cool : Bool) (f : Side → Side) : State :=
  s.onLp p (fun l => l.onSide cool f)

/-- The integrator that gives a demand at an error (R231, R232, R234, R245). -/
def integFor (kc demand e : Rat) : Rat := max 0 (demand / kc - e)

/-- The rate limit in force on a side's demand [%/s]: half of it, or 2.5 %/s of the output, under the bypass (R99, R230). -/
def sideRate (s : State) (p : Phys) (cool : Bool) : Option Rat :=
  if cascadeBypassed s p then
    match rateOf s p cool, principal s p cool with
    | some r, _ => some (r / 2)
    | none, some j => some (5 / 2 * ((s.g p F.ZL_ACT_j_END j : Rat) - (s.g p F.ZL_ACT_j_START j : Rat)) / 100)
    | none, none => none
  else rateOf s p cool

/-- The time a first-order zone of gain `k` and time constant `tau` takes to move by `d` when its demand goes from u0 to
100 %: at once, or in a ramp of `rate` %/s (R40, R235). -/
def riseTime (k tau u0 d : Rat) (rate : Option Rat) : Rat :=
  let top := k * (100 - u0)
  match rate with
  | none => tau * Config.ln (top / (top - d))
  | some r =>
    let ramp := (100 - u0) / r
    if k * r * (ramp - tau * (1 - Config.exp (-ramp / tau))) ≤ d then
      tau * Config.ln (k * r * tau * (Config.exp (ramp / tau) - 1) / (top - d))
    else Config.rampCross tau (d / (k * r))

/-- T_OPT (R40, R235): the time-optimal settling of a move of `delta` with 100 % from u0, into the band of ±0.2 K. -/
def optimalTime (s : State) (p : Phys) (cool : Bool) (u0 delta : Rat) : Rat :=
  let m := sideModel s p cool
  m.2.2.2.1 + riseTime m.1 m.2.2.2.2 u0 (delta - 1 / 5) (sideRate s p cool)

/-- Demands, oldest first, as the rate limit lets them act (R230). -/
def ramped (r : Option Rat) : Rat → List Rat → List Rat
  | _, [] => []
  | was, u :: l => limitRate r 1 was u :: ramped r (limitRate r 1 was u) l

/-- T_C at the end of the dead time (R234): the model of R236 run from now over the demands of the last θ seconds, the only
ones that act until then, about the transit's start (notes/assumptions/157). -/
def transitAhead (s : State) (p : Phys) (cool : Bool) (t : Transit) (tc : Rat) : Rat :=
  let m := sideModel s p cool
  let x := (s.lp p).side cool
  let k := if cool then -m.1 else m.1
  let n := (Config.toUnits m.2.2.2.1).toNat
  let us := (x.hist.take n).reverse
  let all := List.replicate (n - us.length) t.u0 ++ us
  let pr : Rat := (if s.gb p F.ZI_STAT_PRES then 1 else 0) - (if t.pres then 1 else 0)
  let base := t.y0 + x.kO * (outdoorT s p - t.tOut) + x.kP * pr
  let a := Config.exp (-1 / m.2.2.2.2)
  (ramped (sideRate s p cool) (all.headD t.u0) all).foldl (fun y u => a * y + (1 - a) * (base + k * (u - t.u0))) tc

/-- A transit begun (R234, R235). -/
def beginTransit (s : State) (p : Phys) (cool : Bool) (sp tc : Rat) : State :=
  let m := sideModel s p cool
  let u0 := meanDemand s p cool
  let move := if cool then tc - sp else sp - tc
  let hold := clampRat 0 100 (u0 + move / m.1)
  s.onSide p cool (fun x => { x with
    transit := some {
      uHold := hold, sp := sp, u0 := u0, y0 := tc, tOut := outdoorT s p, pres := s.gb p F.ZI_STAT_PRES },
    settle := some {
      tOpt := optimalTime s p cool u0 move, sp := sp, tau := (Config.toUnits m.2.2.2.2).toNat,
      tOut := s.gi p F.ZL_OUTDOOR_T_O, pres := s.gb p F.ZI_STAT_PRES, ok := decide (80 ≤ confOf s p cool) } })

/-- A transit ended, handing over with the integrator rule of R234. -/
def endTransit (s : State) (p : Phys) (cool : Bool) (e : Rat) : State :=
  match ((s.lp p).side cool).transit with
  | some t =>
    let kc := (sideModel s p cool).2.1
    (s.onSide p cool (fun x => { x with transit := none, integ := integFor kc t.uHold e })).evt p 6 EVT.ZL_TRANSIT
  | none => s

/-- The PI law of one tick (R225); in a tick that has set the integrator it does not integrate (`fresh`). -/
def piStep (s : State) (p : Phys) (cool : Bool) (e : Rat) (other fresh : Bool) : State :=
  let m := sideModel s p cool
  let x := (s.lp p).side cool
  let i := if other then 0 else if fresh then x.integ else max 0 (x.integ + e / m.2.2.1)
  s.onSide p cool (fun x => { x with integ := i, demand := clampRat 0 100 (m.2.1 * (e + i)) })

/-- One side of the room stage in one tick; `other`: the other side's error is positive; `fresh`: the integrator was set in
this tick. The move of a verification starts a transit whatever its size and CONF (R242; notes/assumptions/157). -/
def roomSide (s : State) (p : Phys) (cool : Bool) (sp : Option Int) (tc : Rat) (other fresh : Bool) : State :=
  let x := (s.lp p).side cool
  match sp with
  | none => s.onSide p cool (fun x => { x with
      demand := 0, transit := none, lastSp := none, integ := if other then 0 else x.integ })
  | some v =>
    let q : Rat := (v : Rat) / 100
    let sign : Rat := if cool then -1 else 1
    let e := sign * (q - tc)
    let changed := match x.lastSp with | some l => l != v | none => false
    let far := match x.lastSp with | some l => decide (50 ≤ (if cool then l - v else v - l)) | none => false
    let verify := match (s.lp p).tune with | some t => t.moved && t.cool == cool | none => false
    let s1 := if changed then endTransit s p cool e else s
    let s2 := if ((changed && verify) || (far && decide (50 ≤ confOf s p cool))) && !other then beginTransit s1 p cool q tc
      else s1
    let s3 := (if other then endTransit s2 p cool e else s2).onSide p cool (fun x => { x with lastSp := some v })
    match ((s3.lp p).side cool).transit with
    | some t =>
      if sign * (q - transitAhead s3 p cool t tc) ≤ 1 / 5 then piStep (endTransit s3 p cool e) p cool e other true
      else s3.onSide p cool (fun x => { x with demand := 100 })
    | none => piStep s3 p cool e other (fresh || x.transit.isSome)

/-- The measurement of R235 after a tick: T_MEAS and T_OPT when it ends, E-4C04. The tick of the move is second 0; in a tick
without T_C the time runs and the entry stands. -/
def settleTick (s : State) (p : Phys) (cool : Bool) (tc : Option Rat) (ceiling : Bool) : State :=
  match ((s.lp p).side cool).settle with
  | none => s
  | some x =>
    let n := x.ticks
    let entry := match tc with
      | some t => if absRat (t - x.sp) ≤ 1 / 5 then some (x.entry.getD n) else none
      | none => x.entry
    let ok := x.ok && !ceiling && decide (80 ≤ confOf s p cool) && (s.gb p F.ZI_STAT_PRES == x.pres)
      && decide (-100 < s.gi p F.ZL_OUTDOOR_T_O - x.tOut ∧ s.gi p F.ZL_OUTDOOR_T_O - x.tOut < 100)
    let done : Option Nat := match entry with
      | some k => if x.tau ≤ n - k ∧ (k : Rat) ≤ 4 * x.tOpt then some (satTo 16 k)
                  else if 4 * x.tOpt < (k : Rat) then some 0xFFFF else none
      | none => if 4 * x.tOpt ≤ (n : Rat) then some 0xFFFF else none
    match done with
    | none => s.onSide p cool (fun y => { y with settle := some { x with ticks := n + 1, entry := entry, ok := ok } })
    | some m =>
      let opt := satTo 16 (Config.toUnits x.tOpt).toNat
      let s1 := s.onSide p cool (fun y => { y with settle := none })
      let s2 := if cool then (s1.w p F.ZL_TRANSIT_C_T_MEAS m).w p F.ZL_TRANSIT_C_T_OPT opt
        else (s1.w p F.ZL_TRANSIT_H_T_MEAS m).w p F.ZL_TRANSIT_H_T_OPT opt
      if ok && decide (5 / 4 * x.tOpt < (m : Rat)) then s2.err p 6 (bit1 cool) 0x4C04 else s2

/-! ### Autotune (R242, R243) -/

/-- The tune in progress changed. -/
def State.onTune (s : State) (p : Phys) (f : Tune → Tune) : State :=
  s.onLp p (fun l => { l with tune := l.tune.map f })

/-- A tune moved to a step of R242. -/
def tuneStep (s : State) (p : Phys) (n : Nat) (f : Tune → Tune) : State :=
  (s.onTune p (fun t => { f t with step := n, ticks := 0, temps := [] })).w p F.ZL_TUNE_STAT_STEP n

/-- The recursive model after COMMIT (R242): a and b of the fitted model, the published disturbances kept, and c_0 such that
the demand u0 holds y0 (notes/assumptions/158). -/
def rlsOf (s : State) (p : Phys) (t : Tune) : Rls :=
  let a := Config.exp (-60 / t.fitTau)
  let k := if t.cool then -t.fitK else t.fitK
  let x := (s.lp p).side t.cool
  let pr : Rat := if s.gb p F.ZI_STAT_PRES then 1 else 0
  let rest := t.y0 - k * t.u0 - x.kO * outdoorT s p - x.kP * pr
  { w := #v[a, k * (1 - a), x.kO * (1 - a), x.kP * (1 - a), rest * (1 - a)],
    p := Vector.ofFn (fun (i : Fin 5) => Vector.ofFn (fun (j : Fin 5) => if i = j then Config.rlsStart else 0)) }

/-- COMMIT (R242): model, gains and measurements written; the recursive model reset; CONF 100 %; DONE with E-1C01. -/
def tuneCommit (s : State) (p : Phys) (t : Tune) : State :=
  let c := t.cool
  let k := satTo 16 (Config.toUnits (t.fitK * 10000)).toNat
  let th := satTo 16 (Config.toUnits t.fitTheta).toNat
  let tau := satTo 16 (Config.toUnits t.fitTau).toNat
  let kc := satTo 16 (Config.toUnits (t.fitKc * 100)).toNat
  let ti := satTo 16 (Config.toUnits t.fitTi).toNat
  let m1 : Word := BitVec.ofNat 32 (k * 2 ^ 16 + th)
  let m2 : Word := BitVec.ofNat 32 (tau * 2 ^ 16 + 100 * 2 ^ 8)
  let pi : Word := BitVec.ofNat 32 (kc * 2 ^ 16 + ti)
  let r1 := if c then R.ZL_MODEL_C_1 else R.ZL_MODEL_H_1
  let r2 := if c then R.ZL_MODEL_C_2 else R.ZL_MODEL_H_2
  let rp := if c then R.ZL_PI_C else R.ZL_PI_H
  let old := (s.lp p).side c
  let far := fun (now was : Rat) => decide (1 / 20 * absRat was < absRat (now - was))
  let s1 := ((s.wWord p r1 m1).wWord p r2 m2).wWord p rp pi
  let s2 := s1.onSide p c (fun x => { x with
    rls := rlsOf s p t, errSq := [], tuneK := t.fitK, tuneTau := t.fitTau, k := t.fitK, tau := t.fitTau,
    rejRun := 0 })
  let s3 := if far t.fitK old.eventK || far t.fitTau old.eventTau then
      planTrigger ((s2.onSide p c (fun x => { x with eventK := t.fitK, eventTau := t.fitTau })).evt p 6 EVT.ZL_MODEL) p
    else s2
  let s4 := ((s3.w p F.ZL_TUNE_STAT_STEP 0).w p F.ZL_TUNE_STAT_RESULT 2).wb p F.ZL_STAT_TUNING false
  let s5 := ((s4.onLp p (fun l => { l with tune := none })).evt p 6 EVT.ZL_TUNE).err p 6 (t.seq.toNat % 2 ^ 16) 0x1C01
  let s6 := noteBusy s p (s5.onSl p (fun x => { x with ckptDue := true }))
  match s6.zoneOf p with
  | some z =>
    let own := s6.z p
    let f := putWords s6.zones[z] ([(rp.at 0, pi), (r1.at 0, m1), (r2.at 0, m2)]
      ++ [R.ZL_TUNE_MEAS_1, R.ZL_TUNE_MEAS_2, R.ZL_TUNE_MEAS_3].map (fun r => (r.at 0, own.regs.word r 0)))
    markZone { s6 with zones := s6.zones.set z.val f z.isLt } t.lseq z resDone 0 m1
  | none => s6

/-- FIT (R243) from cycles 2 … 4. -/
def tuneFit (s : State) (p : Phys) (t : Tune) : State :=
  let l := t.cycles.drop 1
  let n : Rat := l.length
  let ticks : Rat := (l.map (fun c => (c.ticks : Rat))).foldl (· + ·) 0
  let a := (l.map (fun c => c.hi - c.lo)).foldl (· + ·) 0 / n / 2
  let pu := ticks / n
  let um := (l.map (fun c => c.sumU)).foldl (· + ·) 0 / ticks
  let ym := (l.map (fun c => c.sumT)).foldl (· + ·) 0 / ticks
  let s0 := ((((s.w p F.ZL_TUNE_MEAS_1_A (satTo 16 (Config.toUnits (a * 10000)).toNat)).w p F.ZL_TUNE_MEAS_1_PU
    (satTo 16 (Config.toUnits (pu * 10)).toNat)).w p F.ZL_TUNE_MEAS_2_U0 (satTo 16 (Config.toUnits (t.u0 * 100)).toNat)).w
    p F.ZL_TUNE_MEAS_2_UMEAN (satTo 16 (Config.toUnits (um * 100)).toNat)).wi p F.ZL_TUNE_MEAS_3_YSHIFT
    (clampInt (-32768) 32767 (Config.toUnits ((ym - t.y0) * 10000)))
  if l.any (fun c => decide (pu / 5 < absRat ((c.ticks : Rat) - pu))) then failTune s0 p 4
  else if um = t.u0 ∨ a ≤ 0 then failTune s0 p 5
  else
    let k := (if t.cool then t.y0 - ym else ym - t.y0) / (um - t.u0)
    let h := (t.hHi + t.hLo) / 2
    let g := Config.pi * a / (4 * h)
    let w := 2 * Config.pi / pu
    let r := k / g * (k / g) - 1
    if k < 1 / 1000 ∨ 2 < k ∨ r < 0 then failTune s0 p 5
    else
      let tau := Config.sqrt r / w
      let th := (Config.pi - Config.asin (t.eps / a) - Config.atan (w * tau)) / w
      if tau < 300 ∨ 36000 < tau ∨ th < 0 ∨ 1800 < th then failTune s0 p 5
      else
        let tc := max th 60
        let put := fun (t : Tune) => { t with
          fitK := k, fitTau := tau, fitTheta := th, fitKc := tau / (k * (tc + th)), fitTi := min tau (4 * (tc + th)) }
        if t.verify = 0 then tuneCommit s0 p (put t) else tuneStep s0 p 4 put

/-- The settled condition of R242: T_C has moved by less than 0.2 K/h over the last 10 min; its mean. -/
def settledMean (t : Tune) : Option Rat :=
  if t.temps.length = 601 ∧ absRat (t.temps.headD 0 - t.temps.getLastD 0) * 6 < 1 / 5 then
    some (meanOf (t.temps.take 600))
  else none

/-- RELAY (R242): the switch of this tick, the cycle's sums, the end after four full cycles. -/
def tuneRelay (s : State) (p : Phys) (t : Tune) (tc : Rat) : State :=
  let r := if t.cool then t.y0 - t.rho else t.y0 + t.rho
  let beyond := if t.cool then decide (tc < r - t.eps) else decide (r + t.eps < tc)
  let below := if t.cool then decide (r + t.eps < tc) else decide (tc < r - t.eps)
  let high := if t.high then !beyond else below
  let first := t.high && !high
  let c := t.cur
  let ends := first && t.switched
  let cycles := if ends then t.cycles ++ [c] else t.cycles
  let u := if high then t.u0 + t.hHi else t.u0 - t.hLo
  let base : RelayCycle := if first then { ticks := 0, hi := tc, lo := tc } else c
  let cur : RelayCycle := {
    ticks := base.ticks + 1, hi := max base.hi tc, lo := min base.lo tc, sumU := base.sumU + u, sumT := base.sumT + tc }
  let t' : Tune := { t with high := high, switched := t.switched || first, cycles := cycles, cur := cur }
  let s1 := (s.onTune p (fun _ => t')).w p F.ZL_TUNE_STAT_CYCLES cycles.length
  if t'.switched && decide (2 < cur.hi - cur.lo) then failTune s1 p 2
  else if 4 ≤ cycles.length then tuneFit ((s1.onTune p (fun t => { t with step := 3 })).w p F.ZL_TUNE_STAT_STEP 3) p t'
  else s1

/-- One tick of a tune (R242, R244). -/
def tuneTick (s : State) (p : Phys) (tc : Option Rat) : State :=
  match (s.lp p).tune with
  | none => s
  | some t =>
    let s1 := s.onTune p (fun t => { t with ticks := t.ticks + 1, total := t.total + 1 })
    if (roomInputs s p).length < t.rooms then failTune s1 p 7
    else match tc with
    | none => failTune s1 p 7
    | some v =>
      let temps := (v :: t.temps).take 601
      let s2 := s1.onTune p (fun t => { t with temps := temps })
      match t.step with
      | 1 =>
        match settledMean { t with temps := temps } with
        | some y0 =>
          let hi := min t.h (100 - t.u0)
          let lo := min t.h t.u0
          if hi < 5 ∨ lo < 5 then failTune s2 p 9
          else tuneStep s2 p 2 (fun t => { t with y0 := y0, hHi := hi, hLo := lo, high := true, switched := false })
        | none => s2
      | 2 => tuneRelay s2 p t v
      | 4 =>
        if t.moved then
          match ((s2.lp p).side t.cool).settle, t.began with
          | some _, _ => s2.onTune p (fun t => { t with began := true })
          | none, false => s2
          | none, true =>
            let m := if t.cool then s2.g p F.ZL_TRANSIT_C_T_MEAS else s2.g p F.ZL_TRANSIT_H_T_MEAS
            let o := if t.cool then s2.g p F.ZL_TRANSIT_C_T_OPT else s2.g p F.ZL_TRANSIT_H_T_OPT
            if 5 * o < 4 * m then failTune s2 p 10 else tuneCommit s2 p t
        else match settledMean { t with temps := temps } with
          | some y =>
            let s3 := s2.onTune p (fun t => { t with
              moved := true, target := if t.cool then y - t.verify else y + t.verify })
            s3.onSide p t.cool (fun x => { x with lastSp := some (Config.toUnits (y * 100)) })
          | none => s2
      | _ => s2

/-- The demand a tune forces on a side (R241, R242): none while it verifies by setpoint. -/
def tuneDemand (t : Tune) (cool : Bool) : Option Rat :=
  if t.cool = cool then
    if t.step = 2 then some (if t.high then t.u0 + t.hHi else t.u0 - t.hLo)
    else if t.moved then none else some t.u0
  else some 0

/-! ### Sequence (R229, R230, R233) -/

/-- START and END of an output [%]. -/
def spanOf (s : State) (p : Phys) (j : Out) : Rat × Rat := (s.g p F.ZL_ACT_j_START j, s.g p F.ZL_ACT_j_END j)

/-- The HEAT mapping of R229 [0.01 %]. -/
def mapHeat (x : Rat × Rat) (d : Rat) : Rat := 10000 * clampRat 0 1 ((d - x.1) / (x.2 - x.1))

/-- The hysteresis of a stage (R229). -/
def stageOn (x : Rat × Rat) (was : Bool) (d : Rat) : Bool := if x.1 ≤ d then true else if d ≤ x.2 then false else was

/-- Whether the occupied minimum applies (R216). -/
def occMin (m : Nat) : Bool := m == 3 || m == 4

/-- What an output's function asks for demands dH, dC (R229), before AIR_ENABLE. -/
def wantAuto (s : State) (p : Phys) (dH dC : Rat) (j : Out) : Rat :=
  let l := s.lp p
  let was := decide (0 < l.req[j])
  let x := spanOf s p j
  match s.g p F.ZL_ACT_j_FUNC j with
  | 1 => mapHeat x dH
  | 2 => mapHeat x dC
  | 3 =>
    let d := max dH dC
    let f : Rat := s.g p F.ZL_LOSS_FAN_MIN
    if l.mode = 6 then 10000
    else if l.mode = 0 then (if 0 < dH ∧ l.lossT = none then d * 100 else 0)
    else if occMin l.mode then (f + (100 - f) * d / 100) * 100 else d * 100
  | 4 => if stageOn x was dH then 10000 else 0
  | 5 => if stageOn x was dC then 10000 else 0
  | _ => 0

/-- What an output asks for in MANUAL under the ceilings (R233). -/
def wantManual (s : State) (p : Phys) (cH cC : Rat) (j : Out) : Rat :=
  let l := s.lp p
  let v : Rat := l.manual[j]
  let was := decide (0 < l.req[j])
  let x := spanOf s p j
  match s.g p F.ZL_ACT_j_FUNC j with
  | 1 => min v (mapHeat x (100 * cH))
  | 2 => min v (mapHeat x (100 * cC))
  | 4 => if 0 < v ∧ (if cH < 1 then stageOn x was (100 * cH) else true) = true then 10000 else 0
  | 5 => if 0 < v ∧ (if cC < 1 then stageOn x was (100 * cC) else true) = true then 10000 else 0
  | _ => v

/-- Rate limits and relay timing (R230): the request of this tick and whether MIN_T held a stage back; `minT` is the time
since the stage last changed, this tick not counted. -/
def limitReq (s : State) (p : Phys) (j : Out) (byp forced : Bool) (want : Rat) : Rat × Bool :=
  let l := s.lp p
  let was := l.req[j]
  let r := s.g p F.ZL_ACT_j_RATE_MINT j
  if isDo j then
    if (0 < want) = (0 < was) then (want, false)
    else if forced ∧ want ≤ 0 then (want, false)
    else if l.minT[j] + 1 < 10 * r then (was, true) else (want, false)
  else
    let step : Option Rat := if byp then some (if r = 0 then 250 else (r : Rat) * 5)
      else if r = 0 then none else some ((r : Rat) * 10)
    match step with
    | some d => (clampRat (was - d) (was + d) want, false)
    | none => (want, false)

/-- The requests put to the outputs, their applied values read back and recorded (R224 step 8). An output without a function
is driven at SAFE (R300); a held one sees its held value as the applied value (R302). -/
def putRequest (s : State) (p : Phys) (j : Out) (x : Rat) : State :=
  let was := (s.lp p).req[j]
  let s0 := s.onLp p (fun l => { l with
    req := l.req.set j.val x j.isLt,
    minT := l.minT.set j.val (if isDo j ∧ (0 < was) ≠ (0 < x) then 0 else min 65535 (l.minT[j] + 1)) j.isLt })
  let s1 := if s.g p F.ZL_ACT_j_FUNC j = 0 then driveSafe s0 p j else request s0 p j x
  let a := if (s1.out p j).held then (s1.out p j).heldVal else (s1.out p j).applied
  let s2 := s1.onLp p (fun l => { l with outHist := l.outHist.set j.val ((a :: l.outHist[j]).take 900) j.isLt })
  (s2.w p F.ZL_OUT_j_REQ (Config.toUnits x).toNat j).w p F.ZL_OUT_j_APPLIED (Config.toUnits a).toNat j

/-- The demand that an applied value [0.01 %] of a side's principal output implies (R231). -/
def impliedDemand (s : State) (p : Phys) (j : Out) (a : Rat) : Rat :=
  let x := spanOf s p j
  x.1 + a / 10000 * (x.2 - x.1)

/-- Anti-windup (R224 step 9, R231): a principal output applied below its request shows GOV_ACT and, where the PI runs (`e`),
sets the integrator; a stage held by a ceiling or MIN_T keeps it. `held` and the integrator before the tick are given. -/
def antiWindup (s : State) (p : Phys) (cool held : Bool) (before : Rat) (e : Option Rat) : State × Bool :=
  let s1 := if held then s.onSide p cool (fun x => { x with integ := before }) else s
  match principal s p cool with
  | some j =>
    let o := s.out p j
    if !o.held && decide (o.applied < (s.lp p).req[j]) then
      match e with
      | some e => (s1.onSide p cool (fun x => { x with
          integ := integFor (sideModel s p cool).2.1 (impliedDemand s p j o.applied) e }), true)
      | none => (s1, true)
    else (s1, false)
  | none => (s1, false)

/-! ### Sensor loss (R232) -/

/-- A level of 0 or 100 % for a DO at a mean; a mean between them is free (R232 states none). -/
def holdLevel (j : Out) (m : Rat) : Rat :=
  if isDo j then (if 1 ≤ Config.toUnits (m / 10000) then 10000 else 0) else m

/-- No ROOM input is valid: the outputs' means are taken for the hold, and its time runs; a transit ends. -/
def lossTick (s : State) (p : Phys) : State :=
  let went := (s.lp p).sideH.transit.isSome || (s.lp p).sideC.transit.isSome
  (s.onLp p (fun l => match l.lossT with
    | some t => { l with lossT := some (t + 1) }
    | none => { l with
        lossT := some 0, lossLevels := false,
        sideH := { l.sideH with transit := none }, sideC := { l.sideC with transit := none },
        lossHold := Vector.ofFn (fun (j : Fin 5) => holdLevel j (meanOf l.outHist[j])) })).evtIf went p 6 EVT.ZL_TRANSIT

/-- A ROOM input is valid again: each side's integrator gives the demand in use (R232). -/
def lossOver (s : State) (p : Phys) (eH eC : Option Rat) : State :=
  let l := s.lp p
  match l.lossT with
  | none => s
  | some _ =>
    let back := fun (s : State) (cool : Bool) (e : Option Rat) =>
      match e with
      | none => s
      | some e =>
        let kc := (sideModel s p cool).2.1
        if l.lossLevels then
          let d : Rat := if cool then s.g p F.ZL_LOSS_LOSS_C else s.g p F.ZL_LOSS_LOSS_H
          s.onSide p cool (fun x => { x with integ := integFor kc d e })
        else match principal s p cool with
          | some j => s.onSide p cool (fun x => { x with integ := integFor kc (impliedDemand s p j l.lossHold[j]) e })
          | none => s
    let s1 := back (back s false eH) true eC
    (s1.onLp p (fun l => { l with lossT := none, lossLevels := false, implied := false })).wbEvt p F.ZL_STAT_LOSS false 6 EVT.ZL_LOSS

/-! ### A tick (R224) -/

/-- The supply PI of the cascade (R226): its output in place of the active side's demand, and SUP_SP. -/
def cascade (s : State) (p : Phys) (tc dH dC : Rat) : State × Rat × Rat × Option Rat :=
  match roleT s p 2 with
  | none => (s, dH, dC, none)
  | some ts =>
    let run := fun (cool : Bool) (sp : Rat) =>
      let e := if cool then ts - sp else sp - ts
      let kc : Rat := (s.g p F.ZL_PI_S_KC : Rat) / 100
      let i := max 0 ((s.lp p).supInt + e / (s.g p F.ZL_PI_S_TI : Rat))
      (s.onLp p (fun l => { l with supInt := i }), clampRat 0 100 (kc * (e + i)))
    if 0 < dH then
      let sp := tc + dH / 100 * ((s.gi p F.ZL_CASC_SUP_HMAX : Rat) / 100 - tc)
      let r := run false sp
      (r.1, r.2, 0, some sp)
    else if 0 < dC then
      let sp := tc - dC / 100 * (tc - (s.gi p F.ZL_CASC_SUP_CMIN : Rat) / 100)
      let r := run true sp
      (r.1, 0, r.2, some sp)
    else (s.onLp p (fun l => { l with supInt := 0 }), 0, 0, none)

/-- The integrators set once so that each side's demand is the one that its held or driven output implies (R245). -/
def takeImplied (s : State) (p : Phys) (eH eC : Option Rat) : State :=
  let side := fun (s : State) (cool : Bool) (e : Option Rat) =>
    match principal s p cool, e with
    | some j, some e =>
      let o := s.out p j
      let a := if o.held then o.heldVal else o.applied
      s.onSide p cool (fun x => { x with integ := integFor (sideModel s p cool).2.1 (impliedDemand s p j a) e })
    | _, _ => s
  (side (side s false eH) true eC).onLp p (fun l => { l with implied := false })

/-- Steps 2 and 3 and what overrides them: the demands of both sides and the errors. In MANUAL the times of a sensor loss run
and nothing of it acts (notes/assumptions/157). -/
def demands (s : State) (p : Phys) (tc : Option Rat) : State × Rat × Rat × Option Rat × Option Rat :=
  let l := s.lp p
  let err := fun (cool : Bool) (sp : Option Int) =>
    match tc, sp with
    | some t, some v => some (if cool then t - (v : Rat) / 100 else (v : Rat) / 100 - t)
    | _, _ => none
  let eH := err false l.spH
  let eC := err true l.spC
  if l.mode = 5 then
    let s0 := if tc.isNone then lossTick s p else lossOver s p none none
    (s0.onLp p (fun l => { l with
      sideH := { l.sideH with transit := none, demand := 0, lastSp := none },
      sideC := { l.sideC with transit := none, demand := 0, lastSp := none }, stepBad := true }), 0, 0, none, none)
  else match tc with
  | none =>
    let s1 := lossTick s p
    if (s1.lp p).lossLevels then (s1, s.g p F.ZL_LOSS_LOSS_H, s.g p F.ZL_LOSS_LOSS_C, none, none)
    else (s1, 0, 0, none, none)
  | some t =>
    let s0 := lossOver s p eH eC
    let s1 := if l.implied && l.lossT.isNone then takeImplied s0 p eH eC else s0
    let fresh := l.implied || l.lossT.isSome
    let pos := fun (e : Option Rat) => match e with | some x => decide (0 < x) | none => false
    let s2 := roomSide (roomSide s1 p false l.spH t (pos eC) fresh) p true l.spC t (pos eH) fresh
    let force := fun (cool : Bool) (d : Rat) =>
      match (s2.lp p).tune with
      | some u => (tuneDemand u cool).getD d
      | none => d
    (s2, force false (s2.lp p).sideH.demand, force true (s2.lp p).sideC.demand, eH, eC)

/-- A protection flag of ZL_STAT with EVT.PROT. -/
def protFlag (s : State) (p : Phys) (x : Fld) (b : Bool) : State := s.wbEvt p x b 6 EVT.ZL_PROT

/-- Step 5 (R227, R228): the ceilings on both demands, their flags and errors; the demands after it. -/
def ceilings (s : State) (p : Phys) (tc : Option Rat) (dH dC : Rat) : State × Rat × Rat × (Rat × Rat) :=
  let cL := ceilL s p
  let cR := ceilR s p
  let cD := ceilD s p tc
  let s0 := if cD.2 then { s with free := s.free + 1 } else s
  let cH := min cL cR
  let h := min dH (100 * cH)
  let c := min dC (100 * cD.1)
  let lim := decide (cL ≤ 0) && decide (0 < dH)
  let dew := decide (c < dC)
  let l := s.lp p
  let s1 := protFlag (protFlag (protFlag s0 p F.ZL_STAT_LIMIT_ACT (decide (cL < 1))) p F.ZL_STAT_RET_ACT (decide (cR < 1)))
    p F.ZL_STAT_DEW_ACT (decide (cD.1 < 1))
  let s2 := if lim && !l.limTold then s1.err p 6 0 0x8C05 else s1
  let s3 := if dew && !l.dewTold then s2.err p 6 0 0x4C07 else s2
  let s4 := s3.onLp p (fun l => { l with limTold := lim, dewTold := dew })
  let early := fun (s : State) (cool : Bool) (sp : Option Int) (cut : Bool) =>
    match tc, sp with
    | some t, some v => if cut then endTransit s p cool (if cool then t - (v : Rat) / 100 else (v : Rat) / 100 - t) else s
    | _, _ => s
  let s5 := early (early s4 false l.spH (decide (h < dH))) true l.spC (decide (c < dC))
  let cutTuned := match l.tune with
    | some t => if t.cool then decide (c < dC) else decide (h < dH)
    | none => false
  (if cutTuned then failTune s5 p 7 else s5, h, c, (cH, cD.1))

/-- A pulse on a stage output ends at once under a ceiling below 1 (R371). -/
def ceilingPulses (s : State) (p : Phys) (cH cC : Rat) : State :=
  ([3, 4] : List Out).foldl (fun (s : State) (j : Out) =>
    let f := s.g p F.ZL_ACT_j_FUNC j
    if (f = 4 ∧ cH < 1) ∨ (f = 5 ∧ cC < 1) then
      if (s.out p j).pulse.isSome then refreshOut (endPulse s p j resFault 3) p j else s
    else s) s

/-- The largest request that the ceilings leave an output (R227, R228, R233): a HEAT or COOL output that of the demand
100 % · C; an AIR output what its cut demands ask for, where they ask for less than the uncut ones. -/
def ceilingReq (s : State) (p : Phys) (dH dC : Rat) (raw ceil : Rat × Rat) (j : Out) : Rat :=
  match s.g p F.ZL_ACT_j_FUNC j with
  | 1 => mapHeat (spanOf s p j) (100 * ceil.1)
  | 2 => mapHeat (spanOf s p j) (100 * ceil.2)
  | 3 =>
    let cut := wantAuto s p dH dC j
    if (s.lp p).mode ≠ 5 ∧ cut < wantAuto s p raw.1 raw.2 j then cut else 10000
  | _ => 10000

/-- Whether a ceiling forces a stage off: the demand 100 % · C lies at END or below (R228, R233). -/
def ceilingOff (s : State) (p : Phys) (ceil : Rat × Rat) (j : Out) : Bool :=
  let low := fun (c : Rat) => decide (c < 1) && decide (100 * c ≤ (spanOf s p j).2)
  match s.g p F.ZL_ACT_j_FUNC j with
  | 4 => low ceil.1
  | 5 => low ceil.2
  | _ => false

/-- The request of an output in this tick and whether MIN_T held it (R228 to R233): a held output stays pinned (R302), one
without a function asks for SAFE (R300), the rest move under R230 and stay within the ceilings, which nothing delays. -/
def nextReq (s : State) (p : Phys) (dH dC : Rat) (raw ceil : Rat × Rat) (holding : Bool) (j : Out) : Rat × Bool :=
  let l := s.lp p
  let o := s.out p j
  if o.held then (o.heldVal, false)
  else if s.g p F.ZL_ACT_j_FUNC j = 0 then (safeValue s p j, false)
  else
    let want := if l.mode = 5 then wantManual s p ceil.1 ceil.2 j
      else if holding then l.lossHold[j]
      else if isDo j then wantAuto s p dH dC j else wantAuto s p raw.1 raw.2 j
    let r := limitReq s p j (cascadeBypassed s p) (ceilingOff s p ceil j && !holding) want
    (if holding || isDo j then r.1 else min r.1 (ceilingReq s p dH dC raw ceil j), r.2)

/-- Steps 6 to 8 (R229, R230): every output's request; for each side whether a stage was held by a ceiling or MIN_T. -/
def sequence (s : State) (p : Phys) (dH dC : Rat) (raw : Rat × Rat) (ceil : Rat × Rat) : State × Bool × Bool :=
  let l := s.lp p
  let byp := cascadeBypassed s p
  let holding := l.lossT.isSome && !l.lossLevels && l.mode != 5
  let cutH := if l.mode = 5 then decide (ceil.1 < 1) else decide (dH < raw.1)
  let cutC := if l.mode = 5 then decide (ceil.2 < 1) else decide (dC < raw.2)
  let first := (List.finRange 5).map (fun j =>
    let r := nextReq s p dH dC raw ceil holding j
    (j, r.1, r.2))
  let air := first.any (fun x => s.g p F.ZL_ACT_j_FUNC x.1 == 3 && decide (0 < x.2.1))
  let reqs := first.map (fun x =>
    if s.g p F.ZL_ACT_j_FUNC x.1 = 6 ∧ holding = false ∧ l.mode ≠ 5 ∧ (s.out p x.1).held = false then
      let r := limitReq s p x.1 byp false (if air then 10000 else 0)
      (x.1, r.1, r.2)
    else x)
  let s1 := reqs.foldl (fun (s : State) x => putRequest s p x.1 x.2.1) s
  let held := fun (f : Nat) (cut : Bool) =>
    reqs.any (fun x => s.g p F.ZL_ACT_j_FUNC x.1 == f && (x.2.2 || cut))
  (s1, held 4 cutH, held 5 cutC)

/-- A temperature [°C] as its register shows it. -/
def tField (v : Option Rat) : Nat := spField (v.map (fun (t : Rat) => clampInt (-32767) 32767 (Config.toUnits (t * 100))))

/-- The history and sums that the model, the learner of P100 and the tune use. -/
def recordTick (s : State) (p : Phys) (tc : Option Rat) (dH dC : Rat) : State :=
  let s1 := s.onLp p (fun l => { l with
    tC := tc,
    sideH := { l.sideH with demand := dH, hist := (dH :: l.sideH.hist).take 1800 },
    sideC := { l.sideC with demand := dC, hist := (dC :: l.sideC.hist).take 1800 },
    secT := match tc with | some t => t :: l.secT | none => l.secT,
    secUh := dH :: l.secUh, secUc := dC :: l.secUc,
    stepBad := l.stepBad || tc.isNone || l.sideH.transit.isSome || l.sideC.transit.isSome,
    remain := l.remain - 1, pboost := if 1 < l.pboost then l.pboost - 1 else l.pboost,
    oldSec := min 15300 (l.oldSec + 1) })
  let s2 := s1.onSc p (fun x => { x with
    sumUh := x.sumUh + dH, sumUc := x.sumUc + dC, sumN := x.sumN + 1, occLeft := x.occLeft - 1,
    learnBad := x.learnBad || occFrozen s p || !s.trusted })
  let age := if (s2.sc p).plan.isSome || (s2.sc p).planNext.isSome then s2.g p F.ZP_STAT_AGE + 1 else 0
  showMode ((s2.w p F.ZL_OUTDOOR_AGE ((s2.lp p).oldSec / 60)).w p F.ZP_STAT_AGE (satTo 16 age)) p

/-- Steps 2 to 9 of a loop tick (R224), after step 1 has formed mode and setpoints. -/
def controlTick (s : State) (p : Phys) : State :=
  let tc := controlT s p
  let iH := (s.lp p).sideH.integ
  let iC := (s.lp p).sideC.integ
  let d := demands s p tc
  let byp := cascadeBypassed s p
  let s1 := if byp && !s.gb p F.ZL_STAT_CASC_BYP then d.1.err p 6 0 0x4C0A else d.1
  let s2 := protFlag s1 p F.ZL_STAT_CASC_BYP byp
  let k := match tc with
    | some t => if cascadeOn s p ∧ (s.lp p).mode ≠ 5 then cascade s2 p t d.2.1 d.2.2.1 else (s2, d.2.1, d.2.2.1, none)
    | none => (s2, d.2.1, d.2.2.1, none)
  let c := ceilings k.1 p tc k.2.1 k.2.2.1
  let dH := c.2.1
  let dC := c.2.2.1
  let s3 := ceilingPulses c.1 p c.2.2.2.1 c.2.2.2.2
  let mode := (s.lp p).mode
  let frost := (mode == 0 || mode == 6) && tc.isSome && decide (0 < dH)
  let s4 := if frost && !s.gb p F.ZL_STAT_FROST_ACT then s3.err p 6 0 0x4C06 else s3
  let s5 := protFlag s4 p F.ZL_STAT_FROST_ACT frost
  let q := sequence s5 p dH dC (k.2.1, k.2.2.1) c.2.2.2
  let wH := antiWindup q.1 p false (q.2.1 && mode != 5) iH d.2.2.2.1
  let wC := antiWindup wH.1 p true (q.2.2 && mode != 5) iC d.2.2.2.2
  let s6 := protFlag wC.1 p F.ZL_STAT_GOV_ACT (wH.2 || wC.2)
  let l := s6.lp p
  let s7 := s6.wb p F.ZL_STAT_TRANSIT (l.sideH.transit.isSome || l.sideC.transit.isSome)
  let side := if 0 < dH then 1 else if 0 < dC then 2 else 0
  let s8 := (s7.w p F.ZL_STAT_SIDE side).evtIf (s7.g p F.ZL_STAT_SIDE != side) p 6 EVT.ZL_SIDE
  let s9 := ((s8.w p F.ZL_TCTL_T_C (tField tc)).w p F.ZL_TCTL_SUP_SP (tField k.2.2.2)).w p F.ZL_DEMAND_D_H
    (Config.toUnits (dH * 100)).toNat
  let s10 := s9.w p F.ZL_DEMAND_D_C (Config.toUnits (dC * 100)).toNat
  let ceil := decide (c.2.2.2.1 < 1) || decide (c.2.2.2.2 < 1)
  let s11 := settleTick (settleTick s10 p false tc ceil) p true tc ceil
  tuneTick (recordTick s11 p tc dH dC) p tc

/-! ### The zone model (R236 to R239) -/

/-- The variance of a list. -/
def variance (l : List Rat) : Rat :=
  let m := meanOf l
  meanOf (l.map (fun x => (x - m) * (x - m)))

/-- A product of a matrix row with a vector. -/
def dot (a b : Vector Rat 5) : Rat := (List.finRange 5).foldl (fun t i => t + a[i] * b[i]) 0

/-- One step of recursive least squares with forgetting λ: the new estimate and the prediction error (R237). A held
coefficient keeps its value, its term leaves the output and its row and column of the covariance stand (R240). -/
def rlsStep (r : Rls) (lam : Rat) (phi : Vector Rat 5) (held : Vector Bool 5) (y : Rat) : Rls × Rat :=
  let free : Vector Rat 5 := Vector.ofFn (fun (i : Fin 5) => if held[i] then 0 else phi[i])
  let pp : Vector Rat 5 := Vector.ofFn (fun (i : Fin 5) => if held[i] then 0 else dot r.p[i] free)
  let den := lam + dot free pp
  let k : Vector Rat 5 := pp.map (fun x => x / den)
  let e := y - dot r.w phi
  ({ w := Vector.ofFn (fun (i : Fin 5) => r.w[i] + k[i] * e),
     p := Vector.ofFn (fun (i : Fin 5) => Vector.ofFn (fun (j : Fin 5) =>
       if held[i] || held[j] then r.p[i][j] else (r.p[i][j] - k[i] * pp[j]) / lam)) }, e)

/-- Whether an estimate is accepted (R238). -/
def acceptEstimate (x : Side) (cool : Bool) : Option (Rat × Rat) :=
  let a := x.rls.w[0]
  if a ≤ 0 ∨ 1 ≤ a ∨ x.tuneK = 0 then none
  else
    let k := (if cool then -x.rls.w[1] else x.rls.w[1]) / (1 - a)
    let tau := -60 / Config.ln a
    let within := fun (v t : Rat) => decide (t / 2 ≤ v) && decide (v ≤ 2 * t)
    if within k x.tuneK && within tau x.tuneTau && decide (4 ≤ variance (x.uMeans.take 360))
        && decide (1 / 400 ≤ variance ((x.yMeans.take 360).filterMap id)) then some (k, tau) else none

/-- CONF of the last 24 h (R239). -/
def confidence (l : List Rat) : Nat :=
  (Config.toUnits (100 * clampRat 0 1 (1 - Config.sqrt (meanOf l) * 10))).toNat

/-- The published model of a side shown (R251). -/
def showModel (s : State) (p : Phys) (cool : Bool) : State :=
  let x := (s.lp p).side cool
  let u := fun (q : Rat) => satTo 16 (Config.toUnits q).toNat
  let i := fun (q : Rat) => clampInt (-32768) 32767 (Config.toUnits q)
  if cool then
    (((s.w p F.ZL_MODEL_C_1_K (u (x.k * 10000))).w p F.ZL_MODEL_C_2_TAU (u x.tau)).wi p F.ZL_DIST_C_K_O
      (i (x.kO * 10000))).wi p F.ZL_DIST_C_K_P (i (x.kP * 1000))
  else
    (((s.w p F.ZL_MODEL_H_1_K (u (x.k * 10000))).w p F.ZL_MODEL_H_2_TAU (u x.tau)).wi p F.ZL_DIST_H_K_O
      (i (x.kO * 10000))).wi p F.ZL_DIST_H_K_P (i (x.kP * 1000))

/-- The estimate judged and the published model moved toward it (R238). -/
def publishModel (s : State) (p : Phys) (cool : Bool) : State :=
  let x := (s.lp p).side cool
  match acceptEstimate x cool with
  | some (k, tau) =>
    let a := x.rls.w[0]
    let to60 := fun (was now : Rat) => was + (now - was) / 60
    let s1 := (s.onSide p cool (fun x => { x with
      k := to60 x.k k, tau := to60 x.tau tau, kO := to60 x.kO (x.rls.w[2] / (1 - a)),
      kP := to60 x.kP (x.rls.w[3] / (1 - a)), rejRun := 0 })).bump p F.ZL_UPD_CNT_ACC
    let s2 := showModel s1 p cool
    let y := (s2.lp p).side cool
    let far := fun (now was : Rat) => decide (1 / 20 * absRat was < absRat (now - was))
    if far y.k y.eventK || far y.tau y.eventTau then
      planTrigger ((s2.onSide p cool (fun x => { x with eventK := x.k, eventTau := x.tau })).evt p 6 EVT.ZL_MODEL) p
    else s2
  | none =>
    let n := min 1440 (x.rejRun + 1)
    let s1 := (s.onSide p cool (fun x => { x with rejRun := n })).bump p F.ZL_UPD_CNT_REJ
    if n = 1440 ∧ x.rejRun < 1440 then s1.err p 6 (bit1 cool) 0x4C03 else s1

/-- One side of MODEL_STEP: the update of R237 with the held disturbances removed (R240). The means of the step stand at the
head of both sides' lists; T_o[n] and p[n] are those of the step before (R236). -/
def modelSide (s : State) (p : Phys) (cool : Bool) (tOut : Rat) (pres bad : Bool) : State :=
  let x := (s.lp p).side cool
  let o := (s.lp p).side (!cool)
  let d := deadSteps s p cool
  let still := (o.uMeans.take (d + 1)).all (fun v => decide (v = 0))
  let push := fun (s : State) (e : Option Rat) => s.onSide p cool (fun x => { x with errSq := (e :: x.errSq).take 1440 })
  match x.yMeans, bad || !still with
  | some y :: some y0 :: _, false =>
    let noTo := (s.lp p).stale || (tempOf (s.g p F.ZL_OUTDOOR_T_O)).isNone
    let fb := s.gb p F.ZI_STAT_PRES_FALLBACK
    let phi : Vector Rat 5 := #v[y0, x.uMeans.getD (d + 1) 0, tOut, if pres then 1 else 0, 1]
    let lam := 1 - 60 / ((s.g p F.ZL_LOSS_MEM : Rat) * 3600)
    let r := rlsStep x.rls lam phi #v[false, false, noTo, fb, false] y
    let s1 := push (s.onSide p cool (fun x => { x with rls := r.1 })) (some (r.2 * r.2))
    let errs := ((s1.lp p).side cool).errSq.filterMap id
    publishModel (s1.w p (if cool then F.ZL_MODEL_C_2_CONF else F.ZL_MODEL_H_2_CONF) (confidence errs)) p cool
  | _, _ => push s none

/-- The means of a step noted on a side. -/
def Side.noteStep (x : Side) (u : Rat) (y : Option Rat) : Side :=
  { x with uMeans := (u :: x.uMeans).take 362, yMeans := (y :: x.yMeans).take 360 }

/-- MODEL_STEP (R237): the 60 s that end now. -/
def modelStep (s : State) (p : Phys) : State :=
  let l := s.lp p
  let y : Option Rat := if l.secT.isEmpty then none else some (meanOf l.secT)
  let s1 := s.onLp p (fun l => { l with
    secT := [], secUh := [], secUc := [], stepBad := false,
    sideH := l.sideH.noteStep (meanOf l.secUh) y, sideC := l.sideC.noteStep (meanOf l.secUc) y,
    stepTo := outdoorT s p, stepP := s.gb p F.ZI_STAT_PRES })
  modelSide (modelSide s1 p false l.stepTo l.stepP l.stepBad) p true l.stepTo l.stepP l.stepBad

/-! ### Migration and restart (R245) -/

/-- The loops resumed on a slice with the outputs as they are held: integrators, transit, timers and timed modes; the
house time elapsed since the checkpoint is given where it is known (R222). The integrators follow at the first tick that has
T_C. -/
def resumeLoops (s : State) (p : Phys) (elapsed : Option Nat) : State :=
  let sec := elapsed.getD 0 / 1000000
  let s1 := s.onLp p (fun l => { l with
    sideH := { l.sideH with transit := none, settle := none },
    sideC := { l.sideC with transit := none, settle := none },
    minT := l.minT.map (fun t => min 65535 (t + sec)), lossT := l.lossT.map (fun t => t + sec),
    remain := l.remain - sec, pboost := if sec < l.pboost then l.pboost - sec else 0, stepBad := true, implied := true,
    secT := [], secUh := [], secUc := [] })
  let s2 := dropPlan (s1.onSc p (fun x => { x with learnBad := true })) p
  if elapsed.isNone ∨ (isTimed (s2.lp p).cmd = true ∧ (s2.lp p).remain = 0) then endTimed s2 p else showMode s2 p

/-! ### Commands -/

/-- SENSOR_LOSS_TIMEOUT (R232): the loss levels take over. -/
def execSensorLossTimeout (p : Phys) (s : State) : Host.Outcome State Fault Refusal :=
  onRunning s p (fun s =>
    let l := s.lp p
    if l.lossT.isSome && !l.lossLevels then
      ((s.onLp p (fun l => { l with lossLevels := true })).wbEvt p F.ZL_STAT_LOSS true 6 EVT.ZL_LOSS).err p 6 0 0x8C08
    else s)

/-- MODEL_STEP (R237). -/
def execModelStep (p : Phys) (s : State) : Host.Outcome State Fault Refusal :=
  onRunning s p (fun s => modelStep s p)

/-- OUTDOOR_STALE (R240): every running zone that had not gone stale. -/
def execOutdoorStale (s : State) : Host.Outcome State Fault Refusal :=
  go ((List.finRange 68).foldl (fun (s : State) (p : Phys) =>
    if (s.sl p).running && !(s.lp p).stale then
      ((s.onLp p (fun l => { l with stale := true })).wb p F.ZP_STAT_OUTDOOR_STALE true).err p 6 0 0x4C09
    else s) s)

/-- AUTOTUNE_STEP_TIMEOUT (R242): the step's own limit, or the 6 h in all, whose reason the manual leaves open. -/
def execAutotuneStepTimeout (p : Phys) (s : State) : Host.Outcome State Fault Refusal :=
  onRunning s p (fun s =>
    match (s.lp p).tune with
    | none => s
    | some t =>
      if (t.step = 1 ∨ (t.step = 4 ∧ t.moved = false)) ∧ 3600 ≤ t.ticks then failTune s p 1
      else if t.step = 2 ∧ 14400 ≤ t.ticks then failTune s p 3
      else if 21600 ≤ t.total then
        let f := s.freshNat
        failTune f.2 p (1 + f.1 % 11)
      else s)

end Sys2Proof.Machine
end

