-- ==== Sys2Proof/Machine/ZoneCmds.lean ====
section
/-! DEFINITION. The zone opcodes of groups 0x01, 0x02 and 0x03 at their points of effect, the TICK form of 0x0102 with
its census, and the loop tick (R224, R343, R344, R347, R364 to R375, R501 to R503). -/
namespace Sys2Proof.Machine

/-! ### Markers of a zone (R338, R347) -/

/-- RESULT of the marker that zone `z` has for a head in the larder. -/
def markResult (s : State) (lseq : Nat) (z : Zone) : Option Nat :=
  ((markersOf s lseq).find? (fun m => m.1 == z.val && !m.2.1)).map (fun m => m.2.2.1)

/-- A command that completed for a zone: its DONE marker. -/
def doneZone (s : State) (x : Exec) (z : Zone) (value : Word) : State := markZone s x.lseq z resDone 0 value

/-- An accepted configuration change: the zone's checkpoint is due (R35). -/
def ckptSoon (s : State) (p : Phys) : State := s.onSl p (fun y => { y with ckptDue := true })

/-! ### Configuration (R358, R367, R372, R374) -/

/-- The images of a command written into the registers of slice `p`. -/
def takeImages (s : State) (p : Phys) (x : Exec) : State :=
  s.onR p (fun f => putWords f (imageWords x.opcode.toNat x))

/-- A new electrical configuration or calibration (R173): CAL_NEW, CALCHG and E-1B06; QEN 0 leaves the reactive energy of the open
interval incomplete (R202). -/
def noteCal (s : State) (p : Phys) (x : Exec) : State :=
  ((flagInterval ((s.wb p F.ZE_STAT_CAL_NEW true).onMt p (fun m => { m with qinc := m.qinc || !reactive s p })) p
    flCalchg)).err p 4 (x.seq.toNat % 2 ^ 16) 0x1B06

/-- A new heat configuration (R198): CALCHG and E-1B26; FLOWFLT where an input in CHATTER takes the WATER role (R191). -/
def noteHeatCfg (s0 : State) (p : Phys) (x : Exec) : State :=
  let chat := (List.finRange 2).any (fun (n : Fin 2) => flowRole s0 p n == 2 && ((s0.ht p).fl[n]).chat.on)
  let s := if chat then flagInterval s0 p flFlowflt else s0
  ((flagInterval s p flCalchg).evt p 5 EVT.ZH_CFG).err p 5 (x.seq.toNat % 2 ^ 16) 0x1B26

/-- New zone inputs (R367): every input under its new configuration, the filters started again, a new polarity of PRD, a
humidity input that is disabled; presence is formed, SQ1's entries built (R129). -/
def newInputs (s : State) (p : Phys) (x : Exec) : State :=
  let s1 := takeImages s p x
  let s2 := restartFilters ((List.finRange 4).foldl (fun (t : State) (n : Fin 4) => newInput s t p n) s1) p
  let s3 := if s.gb p F.ZI_PRES_CFG_PRD_POL = s1.gb p F.ZI_PRES_CFG_PRD_POL then s2 else turnPrd s2 p
  buildEntries (formPresence (disableHumidity s3 p) p) p

/-- Every output driven anew by its configuration (R299, R300), and who releases the held ones (R303). -/
def redriveOutputs (s : State) (p : Phys) : State :=
  syncHold ((List.finRange 5).foldl (fun (s : State) (j : Out) =>
    if (s.out p j).safe then driveSafe s p j else refreshOut s p j) s) p

/-- The configuration effect of an opcode on the zone of slice `p`, beside its marker; none for other opcodes. -/
def configEffect (s : State) (p : Phys) (x : Exec) : Option State :=
  match x.opcode.toNat with
  | 0x0101 => some (newInputs s p x)
  | 0x0103 => some (planTrigger (failTune (s.onR p (fun f => putWords f (setpointWords f x))) p 6) p)
  | 0x0104 => some (takeImages s p x)
  | 0x0105 => some (takeImages s p x)
  | 0x0106 => some (s.onLp p (fun l => { l with manual := Vector.ofFn (fun (j : Fin 5) => x.u16 (2 * j.val)) }))
  | 0x0107 => some (redriveOutputs (takeImages s p x) p)
  | 0x0108 => some (takeImages s p x)
  | 0x0110 => some (noteCal (takeImages s p x) p x)
  | 0x0111 => some (noteCal (takeImages (s.onR p (fun f => putWords f (calWords x))) p x) p x)
  | 0x0112 => some (noteHeatCfg (takeImages s p x) p x)
  | 0x0201 => some (planTrigger (reevaluate (takeImages s p x) p) p)
  | 0x0202 =>
    let s1 := takeImages s p x
    let s2 := if (s.sc p).learned then s1 else resetBins (s1.onSc p (fun y => { y with learned := true })) p
    some (planTrigger (reevaluate s2 p) p)
  | 0x0203 => some (planTrigger (reevaluate (takeImages s p x) p) p)
  | 0x0210 => some (planTrigger (reevaluate (judgeTariff (takeImages s p x) p) p) p)
  | 0x0211 => some (planTrigger (judgeMeters (takeImages s p x) p) p)
  | 0x0212 => some (planTrigger (resetBins s p) p)
  | _ => none

/-! ### One-time and other actions -/

/-- 0x0109 (R371): the pulse is recorded as running before it starts (R383); a ceiling below 1 ends it at once. -/
def takePulse (s : State) (p : Phys) (z : Zone) (x : Exec) : State :=
  let j : Out := if x.byte 0 = 3 then 3 else 4
  let s1 := startPulse s p z j x.lseq (x.u16 2)
  let s2 := if (s1.out p j).pulse.isSome then writeCheckpoint s1 p else s1
  ceilingPulses s2 p (min (ceilL s p) (ceilR s p)) (ceilD s p (s.lp p).tC).1

/-- 0x0120 (R241, R383). -/
def takeTune (s : State) (p : Phys) (x : Exec) : State :=
  let s1 := startTune s p x
  if (s1.lp p).tune.isSome then writeCheckpoint s1 p else s1

/-- 0x0121 (R373): a running tune ends with reason 11; the command completes. -/
def takeAbort (s : State) (p : Phys) (z : Zone) (x : Exec) : State := doneZone (failTune s p 11) x z 0

/-- 0x0303 (R168, R375): the demand maximum and its time cleared; VALUE the former maximum. -/
def takeDemandReset (s : State) (p : Phys) (z : Zone) (x : Exec) : State :=
  let was := (s.z p).regs.word R.ZE_DMD_MAX
  let s1 := ((s.wWord p R.ZE_DMD_MAX 0).wWord p R.ZE_DMD_MAX_TS_LO 0).wWord p R.ZE_DMD_MAX_TS_HI 0
  doneZone s1 x z was

/-- The effect of 0x0303 without its marker. -/
def clearDemand (s : State) (p : Phys) : State :=
  ((s.wWord p R.ZE_DMD_MAX 0).wWord p R.ZE_DMD_MAX_TS_LO 0).wWord p R.ZE_DMD_MAX_TS_HI 0

/-- 0x0304 (R375, R383): arms the capture, held as running in the checkpoint, or FAULT 0x0001 where one is armed or running. -/
def takeCapture (s : State) (p : Phys) (z : Zone) (x : Exec) : State :=
  let c := (s.mt p).cap
  if c.state = 1 ∨ c.state = 2 then markZone s x.lseq z resFault 1 0
  else doneZone (writeCheckpoint (capArm (takeImages s p x) p) p) x z 0

/-! ### The TICK form (R368, R501 to R503) -/

/-- Whether an execution is a TICK form of 0x0102. -/
def isTickForm (x : Exec) : Bool := x.opcode == 0x0102 && x.len == 12 && x.u64 4 != 0

/-- The census record of a TICK form. -/
def State.censusOf (s : State) (lseq : Nat) : Option Census := s.census.find? (fun c => c.lseq == lseq)

/-- A census record changed. -/
def State.onCensus (s : State) (lseq : Nat) (f : Census → Census) : State :=
  { s with census := s.census.map (fun c => if c.lseq = lseq then f c else c) }

/-- Bit z of a zone mask kept as a natural. -/
def zbit (z : Zone) : Nat := 2 ^ z.val

/-- A zone's bit set in a mask. -/
def addZone (m : Nat) (z : Zone) : Nat := if bitOf m z.val then m else m + zbit z

/-- A zone's bit cleared in a mask. -/
def dropZone (m : Nat) (z : Zone) : Nat := if bitOf m z.val then m - zbit z else m

/-- A slice applies a TICK form (R368, R502, R503): it reports to the porch; under LEAVE_MIXED it writes its marker and a
straggler's bit moves from MISSED to LATE; under ALL_OR_NONE it keeps the former mode until the census. -/
def takeTick (s : State) (p : Phys) (z : Zone) (x : Exec) : State :=
  let allNone := x.byte 1 == 1
  let s1 := if allNone then s.onLp p (fun l => { l with keep := l.keep ++ [{
      lseq := x.lseq, cmd := l.cmd, prior := l.prior, remain := l.remain, tick := x.u64 4 }] }) else s
  let s2 := applyMode s1 p (x.byte 0)
  let taken := match s.censusOf x.lseq with | some c => c.taken | none => false
  let s3 := s2.onCensus x.lseq (fun c =>
    if c.taken then { c with late := addZone c.late z, missed := dropZone c.missed z }
    else { c with applied := addZone c.applied z })
  let s4 := if taken && s.pg F.PWR_CEN_LSEQ_LSEQ == x.lseq then
      match s3.censusOf x.lseq with
      | some c => (((s3.pw F.PWR_CEN_MISSED_LO_ZONES (c.missed % 2 ^ 32)).pw F.PWR_CEN_MISSED_HI_ZONES
          (c.missed / 2 ^ 32)).pw F.PWR_CEN_LATE_LO_ZONES (c.late % 2 ^ 32)).pw F.PWR_CEN_LATE_HI_ZONES (c.late / 2 ^ 32)
      | none => s3
    else s3
  if allNone then s4 else doneZone s4 x z 0

/-! ### Taking commands (R343, R344, R347) -/

/-- The effect of a zone command on slice `p` serving zone `z`, as new. -/
def takeNew (s : State) (p : Phys) (z : Zone) (x : Exec) : State :=
  match configEffect s p x with
  | some s1 => doneZone (ckptSoon s1 p) x z 0
  | none =>
    match x.opcode.toNat with
    | 0x0102 => if isTickForm x then takeTick s p z x else doneZone (ckptSoon (applyMode s p (x.byte 0)) p) x z 0
    | 0x0109 => takePulse s p z x
    | 0x0120 => takeTune s p x
    | 0x0121 => takeAbort s p z x
    | 0x0303 => takeDemandReset s p z x
    | 0x0304 => takeCapture s p z x
    | _ => s

/-- The effect of a zone command whose DONE marker stands (R347): effects on zone state alone, no one-time action. -/
def takeAgain (s : State) (p : Phys) (x : Exec) : State :=
  match configEffect s p x with
  | some s1 => s1
  | none =>
    match x.opcode.toNat with
    | 0x0102 => applyMode s p (x.byte 0)
    | 0x0303 => clearDemand s p
    | 0x0304 => takeImages s p x
    | _ => s

/-- TAKEN raised to a head (R345). -/
def raiseTaken (s : State) (p : Phys) (lseq : Nat) : State := s.onZ p (fun y => { y with taken := max y.taken lseq })

/-- One command taken from the inbox of slice `p` that serves zone `z` (R347). -/
def takeOne (s : State) (p : Phys) (z : Zone) (x : Exec) : State :=
  let s1 := raiseTaken (s.onSl p (fun y => { y with inbox := y.inbox.filter (fun i => i.lseq != x.lseq) })) p x.lseq
  match markResult s x.lseq z with
  | some r => if r = resDone then takeAgain s1 p x else s1
  | none => takeNew s1 p z x

/-- Whether a command in an inbox may be taken at a slice's house time: a TICK form waits for its instant (R368). -/
def ripe (t : Nat) (x : Exec) : Bool := !isTickForm x || decide (x.u64 4 ≤ t)

/-- The commands of a list taken in order, up to a head; a TICK form not yet due keeps back those behind it. -/
def takeList (s : State) (p : Phys) (z : Zone) (upTo : Option Nat) : List Exec → State
  | [] => s
  | x :: l =>
    let due := match upTo with | some n => decide (x.lseq ≤ n) | none => true
    if due && ripe (s.slNow p) x then takeList (takeOne s p z x) p z upTo l else s

/-- The inbox of slice `p` taken in LSEQ order up to a head (none: as far as it goes), and room given to those the
porch holds. -/
def takeInbox (s : State) (p : Phys) (upTo : Option Nat) : State :=
  match s.zoneOf p with
  | none => s
  | some z => deliver (takeList s p z upTo (s.sl p).inbox)

/-- A zone opcode at its point of effect: each named zone whose serving slice has the command in its inbox takes it with
those before it (R343, R344). -/
def zoneCommand (s : State) (x : Exec) : State :=
  x.zones.foldl (fun (s : State) (z : Zone) =>
    let p := s.sliceOf z
    if (s.sl p).running && (s.sl p).inbox.any (fun y => y == x) then takeInbox s p (some x.lseq) else s) s

/-- A former mode restored after a rolled-back TICK form (R503). -/
def restoreMode (s : State) (p : Phys) (k : ModeKeep) : State :=
  let gone := (s.slNow p - k.tick) / 1000000
  let s1 := showMode (s.onLp p (fun l => { l with
    cmd := if isTimed k.cmd && decide (k.remain ≤ gone) then k.prior else k.cmd,
    prior := k.prior, remain := k.remain - gone })) p
  planTrigger (failTune s1 p 6) p

/-- The rolled-back modes restored in step 1 of a loop tick, the oldest kept mode last. -/
def restoreModes (s : State) (p : Phys) : State :=
  let back := (s.lp p).keep.filter (fun k => k.rollback)
  let s1 := s.onLp p (fun l => { l with keep := l.keep.filter (fun k => !k.rollback) })
  back.reverse.foldl (fun (s : State) k => restoreMode s p k) s1

/-! ### The loop tick (R219, R224) -/

/-- Step 1: commands in larder order, panel requests, schedule and planner; then mode and setpoints. -/
def stepOne (s : State) (p : Phys) : State :=
  let s1 := restoreModes (takeInbox s p none) p
  let s2 := applyReqs s1 p
  let s3 := adoptPlan (judgeFrozen (followTariff (applySchedule s1 s2 p) p) p) p
  formSetpoints (formMode (judgePlanner s3 p) p) p

/-- LOOP_TICK (R224): the tick's nine steps, the fault time of the heat meter (R197), encoder speed (R308), releases of
matched outputs (R303) and a checkpoint that has become due (R35). -/
def loopTick (s : State) (p : Phys) : State :=
  let s1 := controlTick (stepOne s p) p
  let s2 := firmwareRelease (overspeedTick (heatTick s1 p) p) p
  if (s2.sl p).ckptDue then writeCheckpoint s2 p else s2

/-- LOOP_TICK (R224). -/
def execLoopTick (p : Phys) (s : State) : Host.Outcome State Fault Refusal :=
  onRunning s p (fun s => loopTick s p)

/-! ### The opcodes -/

/-- 0x0101 (R367). -/
def execZoneInputsConfiguration (x : Exec) (s : State) : Host.Outcome State Fault Refusal := go (zoneCommand s x)
/-- 0x0102 (R368): its plain form, or its TICK form at TICK. -/
def execZoneMode (x : Exec) (s : State) : Host.Outcome State Fault Refusal := go (zoneCommand s x)
/-- 0x0103 (R369). -/
def execZoneSetpoints (x : Exec) (s : State) : Host.Outcome State Fault Refusal := go (zoneCommand s x)
/-- 0x0104 (R367). -/
def execLoopConfiguration (x : Exec) (s : State) : Host.Outcome State Fault Refusal := go (zoneCommand s x)
/-- 0x0105 (R367). -/
def execActuatorMap (x : Exec) (s : State) : Host.Outcome State Fault Refusal := go (zoneCommand s x)
/-- 0x0106 (R370). -/
def execManualOutputLevels (x : Exec) (s : State) : Host.Outcome State Fault Refusal := go (zoneCommand s x)
/-- 0x0107 (R367). -/
def execOutputConfiguration (x : Exec) (s : State) : Host.Outcome State Fault Refusal := go (zoneCommand s x)
/-- 0x0108 (R367). -/
def execPanelConfiguration (x : Exec) (s : State) : Host.Outcome State Fault Refusal := go (zoneCommand s x)
/-- 0x0109 (R371). -/
def execRelayPulse (x : Exec) (s : State) : Host.Outcome State Fault Refusal := go (zoneCommand s x)
/-- 0x0110 (R372). -/
def execElectricalConfiguration (x : Exec) (s : State) : Host.Outcome State Fault Refusal := go (zoneCommand s x)
/-- 0x0111 (R372). -/
def execElectricalCalibration (x : Exec) (s : State) : Host.Outcome State Fault Refusal := go (zoneCommand s x)
/-- 0x0112 (R367). -/
def execHeatAndFlowConfiguration (x : Exec) (s : State) : Host.Outcome State Fault Refusal := go (zoneCommand s x)
/-- 0x0120 (R373). -/
def execAutotuneStart (x : Exec) (s : State) : Host.Outcome State Fault Refusal := go (zoneCommand s x)
/-- 0x0121 (R373). -/
def execAutotuneAbort (x : Exec) (s : State) : Host.Outcome State Fault Refusal := go (zoneCommand s x)
/-- 0x0201 (R374). -/
def execTimeZoneRule (x : Exec) (s : State) : Host.Outcome State Fault Refusal := go (zoneCommand s x)
/-- 0x0202 (R374). -/
def execWeeklyEvents (x : Exec) (s : State) : Host.Outcome State Fault Refusal := go (zoneCommand s x)
/-- 0x0203 (R374). -/
def execExceptionDates (x : Exec) (s : State) : Host.Outcome State Fault Refusal := go (zoneCommand s x)
/-- 0x0210 (R374). -/
def execTariffBands (x : Exec) (s : State) : Host.Outcome State Fault Refusal := go (zoneCommand s x)
/-- 0x0211 (R374). -/
def execPolicyConfiguration (x : Exec) (s : State) : Host.Outcome State Fault Refusal := go (zoneCommand s x)
/-- 0x0212 (R374). -/
def execOccupancyLearnerReset (x : Exec) (s : State) : Host.Outcome State Fault Refusal := go (zoneCommand s x)
/-- 0x0303 (R375). -/
def execDemandReset (x : Exec) (s : State) : Host.Outcome State Fault Refusal := go (zoneCommand s x)
/-- 0x0304 (R375). -/
def execWaveformCapture (x : Exec) (s : State) : Host.Outcome State Fault Refusal := go (zoneCommand s x)

/-! ### TICK_APPLY and the census (R368, R501 to R503) -/

/-- TICK_APPLY (R368): at TICK or later the zone's slice takes the command and those before it. -/
def execTickApply (z : Zone) (lseq : Nat) (s : State) : Host.Outcome State Fault Refusal :=
  let p := s.sliceOf z
  onRunning s p (fun s =>
    if (s.sl p).inbox.any (fun x => x.lseq == lseq && isTickForm x && ripe (s.slNow p) x) then takeInbox s p (some lseq) else s)

/-- The census registers of the TICK form whose census was taken last (R501). -/
def showCensus (s : State) (c : Census) (mixed rollback : Bool) : State :=
  let s1 := (((s.pwb F.PWR_CEN_STAT_VALID true).pwb F.PWR_CEN_STAT_MIXED mixed).pwb F.PWR_CEN_STAT_ROLLBACK rollback).pwb
    F.PWR_CEN_STAT_POLICY c.allNone
  let s2 := ((s1.pw F.PWR_CEN_STAT_RETRIES c.retries).pw F.PWR_CEN_LSEQ_LSEQ c.lseq).pw F.PWR_CEN_MISSED_LO_ZONES
    (c.missed % 2 ^ 32)
  ((s2.pw F.PWR_CEN_MISSED_HI_ZONES (c.missed / 2 ^ 32)).pw F.PWR_CEN_LATE_LO_ZONES (c.late % 2 ^ 32)).pw
    F.PWR_CEN_LATE_HI_ZONES (c.late / 2 ^ 32)

/-- The zones of a mask, ascending. -/
def zonesOf (m : Nat) : List Zone := (List.finRange 64).filter (fun z => bitOf m z.val)

/-- A command withdrawn from every inbox and from the porch's hands (R503). -/
def withdraw (s : State) (lseq : Nat) : State :=
  let s1 := s.onJ (fun j => { j with handover := j.handover.filter (fun h => h.x.lseq != lseq) })
  { s1 with slices := s1.slices.map (fun y => { y with inbox := y.inbox.filter (fun x => x.lseq != lseq) }) }

/-- The modes kept for a TICK form after its census: to be restored, or dropped (R503). -/
def keptModes (lseq : Nat) (rollback : Bool) (l : List ModeKeep) : List ModeKeep :=
  if rollback then l.map (fun k => if k.lseq = lseq then { k with rollback := true } else k)
  else l.filter (fun k => k.lseq != lseq)

/-- The outcome of a census told to every named zone's serving slice (R503). -/
def tellModes (s : State) (c : Census) (rollback : Bool) : State :=
  (zonesOf c.zmask).foldl (fun (s : State) (z : Zone) =>
    s.onLp (s.sliceOf z) (fun l => { l with keep := keptModes c.lseq rollback l.keep })) s

/-- A record that needs no further retries is dropped; the registers keep what they show. -/
def endCensus (s : State) (lseq : Nat) : State := { s with census := s.census.filter (fun c => c.lseq != lseq) }

/-- CENSUS (R501 to R503): taken at TICK + 100 ms. -/
def takeCensus (s : State) (lseq : Nat) : State :=
  match s.censusOf lseq with
  | none => s
  | some c =>
    if c.taken then s
    else
      let missed := (zonesOf c.zmask).foldl (fun m z => if bitOf c.applied z.val then m else addZone m z) 0
      let n := (zonesOf missed).length
      let d : Census := { c with taken := true, missed := missed }
      let s1 := s.onCensus lseq (fun _ => d)
      if c.allNone then
        let back := decide (0 < n)
        let s2 := (showCensus s1 d false back).evtP 9 EVT.PWR_CENSUS
        let s3 := tellModes (if back then withdraw (s2.errP 9 n 0x4506) lseq else s2) c back
        let s4 := (zonesOf c.zmask).foldl (fun (s : State) z =>
          markZone s lseq z (if back then resFault else resDone) (if back then 2 else 0) 0) s3
        endCensus s4 lseq
      else
        let s2 := (showCensus s1 d (decide (0 < n)) false).evtP 9 EVT.PWR_CENSUS
        if n = 0 then endCensus s2 lseq else s2.errP 9 n 0x4505

/-- CENSUS_RETRY (R502): the command is handed again to each straggler's serving slice, which applies it at once. -/
def retryCensus (s : State) (lseq : Nat) : State :=
  match s.censusOf lseq, s.runningOf lseq with
  | some c, some r =>
    if c.taken && !c.allNone && decide (c.retries < 3) then
      let s1 := s.onCensus lseq (fun c => { c with retries := c.retries + 1 })
      let s2 := if s.pg F.PWR_CEN_LSEQ_LSEQ = lseq then s1.pw F.PWR_CEN_STAT_RETRIES (c.retries + 1) else s1
      (zonesOf c.missed).foldl (fun (s : State) z =>
        let p := s.sliceOf z
        if (s.sl p).running && !s.movingZone z then
          let s3 := if (s.sl p).inbox.any (fun x => x.lseq == lseq) then s
            else s.onSl p (fun y => { y with inbox := y.inbox ++ [r.x] })
          takeInbox s3 p (some lseq)
        else s) s2
    else s
  | _, _ => s

/-- CENSUS_FINAL (R502): each zone still missing completes with FAULT 0x0001. -/
def finalCensus (s : State) (lseq : Nat) : State :=
  match s.censusOf lseq with
  | some c =>
    if c.taken && !c.allNone then
      endCensus ((zonesOf c.missed).foldl (fun (s : State) z => markZone s lseq z resFault 1 0) s) lseq
    else s
  | none => s

/-- CENSUS (R501). -/
def execCensus (lseq : Nat) (s : State) : Host.Outcome State Fault Refusal := go (takeCensus s lseq)
/-- CENSUS_RETRY (R502). -/
def execCensusRetry (lseq : Nat) (s : State) : Host.Outcome State Fault Refusal := go (retryCensus s lseq)
/-- CENSUS_FINAL (R502). -/
def execCensusFinal (lseq : Nat) (s : State) : Host.Outcome State Fault Refusal := go (finalCensus s lseq)

end Sys2Proof.Machine
end

