-- ==== Sys2Proof/Machine/Intervals.lean ====
section
/-! DEFINITION. Intervals and the record store: closing with chains, merging, cost of the day, the fetch window, the
acknowledgement (R38, R167, R168, R199 to R210, R276, R278, R571). -/
namespace Sys2Proof.Machine

/-! ### The store -/

/-- The record store changed. -/
def State.onRs (s : State) (f : RecStore → RecStore) : State := { s with store := f s.store }

/-- FILL: records written and not acknowledged (R206). -/
def RecStore.fill (x : RecStore) : Nat := x.lastSeq - x.acked

/-- Whether the store writes records: not in FACTORY (R571). -/
def State.storeOn (s : State) : Bool := s.modst.state != 0

/-- WARN at 90 % and its end at 85 % (R206). -/
def storeWarn (s : State) : State :=
  let n := s.store.fill
  if !s.store.warned && decide (88474 ≤ n) then
    ((s.onRs (fun x => { x with warned := true })).evtP 4 EVT.RS_WARN).errP 4 0 0x4301
  else if s.store.warned && decide (n ≤ 83558) then (s.onRs (fun x => { x with warned := false })).evtP 4 EVT.RS_WARN
  else s

/-! ### Values of a record (R201, R203) -/

/-- The accumulator counts of an interval's end or beginning: the seven electrical and four heat accumulators. -/
def countsOf (e : Vector Acc 7) (h : Vector Acc 4) : Vector Nat 11 :=
  Vector.ofFn (fun (i : Fin 11) =>
    if hi : i.val < 7 then (e[i.val]).count else (h[i.val - 7]'(by omega)).count)

/-- The increase of accumulator `i` since the opening. -/
def riseOf (iv : Interval) (b : Vector Nat 11) (i : Fin 11) : Nat := (b[i] + 2 ^ 64 - iv.base[i]) % 2 ^ 64

/-- The increases of the seven record fields: EP_IMP, EP_EXP, EQ_IND, EQ_CAP, HEAT, COOL, VOL. -/
def fieldRises (iv : Interval) (b : Vector Nat 11) : Vector Nat 7 :=
  #v[riseOf iv b 0, riseOf iv b 1, riseOf iv b 2 + riseOf iv b 4, riseOf iv b 3 + riseOf iv b 5, riseOf iv b 7,
    riseOf iv b 8, riseOf iv b 10]

/-- The unit of field `i`: energy in mWh or mvarh, volume in mL. -/
def unitOf (iv : Interval) (i : Fin 7) : Nat := 1000 * 10 ^ (if i.val = 6 then iv.vunit else iv.eunit)

/-- The quotients of the fields in whole units (R203). -/
def quotients (iv : Interval) (b : Vector Nat 11) : Vector Nat 7 :=
  Vector.ofFn (fun (i : Fin 7) => ((fieldRises iv b)[i] + iv.carry[i]) / unitOf iv i)

/-- The remainders carried into the next interval (R203). -/
def carries (iv : Interval) (b : Vector Nat 11) : Vector Nat 7 :=
  Vector.ofFn (fun (i : Fin 7) => ((fieldRises iv b)[i] + iv.carry[i]) % unitOf iv i)

/-- The number of records of a chain (R203). -/
def chainLength (q : Vector Nat 7) : Nat := q.toList.foldl (fun n v => max n ((v + 65534) / 65535)) 1

/-- The part of a quotient that record `k` of a chain holds. -/
def partOf (v k : Nat) : Nat := min 65535 (v - 65535 * k)

/-- Words W1 … W6 of record `k` of a chain (R201, R203). -/
def recWords (z : Zone) (iv : Interval) (len flags synth : Nat) (q : Vector Nat 7) (k : Nat) : Vector Word 6 :=
  let v := fun (i : Fin 7) => partOf q[i] k
  let first := decide (k = 0)
  let fl := if first then flags
    else ((BitVec.ofNat 16 flags ||| BitVec.ofNat 16 (2 ^ flCont))
      &&& ~~~(BitVec.ofNat 16 (2 ^ flLensat + 2 ^ flSynsat))).toNat
  #v[BitVec.ofNat 32 (iv.eunit * 2 ^ 30 + iv.vunit * 2 ^ 28 + iv.start % 2 ^ 28),
     BitVec.ofNat 32 ((if first then len else 0) * 2 ^ 16 + fl),
     BitVec.ofNat 32 (z.val * 2 ^ 26 + (if first then synth else 0) * 2 ^ 16 + v 0),
     BitVec.ofNat 32 (v 2 * 2 ^ 16 + v 1),
     BitVec.ofNat 32 (v 4 * 2 ^ 16 + v 3),
     BitVec.ofNat 32 (v 6 * 2 ^ 16 + v 5)]

/-- A chain written with the next sequence numbers (R204). -/
def writeChain (s : State) (z : Zone) (iv : Interval) (len flags synth : Nat) (q : Vector Nat 7) : State :=
  let n := chainLength q
  let s1 := s.onRs (fun x => { x with
    recs := x.recs ++ (List.range n).map (fun k =>
      { seq := x.lastSeq + 1 + k, words := recWords z iv len flags synth q k }),
    lastSeq := x.lastSeq + n })
  let s1 := (List.range n).foldl (fun (s : State) k => s.wrote (.record (s1.store.lastSeq - n + 1 + k))) s1
  let s2 := if 1 < n then s1.pbump F.PCH_RS_CNT_CHAINS else s1
  storeWarn (s2.evtP 4 EVT.RS_NEW)

/-! ### Intervals -/

/-- The interval length at a house minute: a new one counts from the full hour after its command (R199). -/
def lenAt (s : State) (b : Nat) : Nat :=
  if s.store.ilenAt ≤ b then s.pg F.PCH_RS_CFG_ILEN_NEXT else s.pg F.PCH_RS_CFG_ILEN

/-- The latest boundary at or before a house time. -/
def boundAt (s : State) (t : Nat) : Nat :=
  let m := t / minuteUs
  let n := lenAt s m
  if n = 0 then m else m / n * n

/-- Flag bits as a FLAGS word. -/
def flagBits (l : List Nat) : BitVec 16 := l.foldl (fun w i => w ||| BitVec.ofNat 16 (2 ^ i)) 0

/-- Whether a WATER input is in CHATTER (R191). -/
def waterChatter (s : State) (p : Phys) : Bool :=
  (List.finRange 2).any (fun (n : Fin 2) => flowRole s p n == 2 && ((s.ht p).fl[n]).chat.on)

/-- The interval that opens at a boundary with flags, the carries and the accumulators as they stand. -/
def newInterval (s : State) (p : Phys) (b : Nat) (flags : List Nat) (carry : Vector Nat 7) : Interval :=
  let z := s.z p
  { opened := true, no := z.ival.no + 1, start := b, bound := b + lenAt s b,
    flags := flagBits (flags ++ (if s.trusted then [] else [flTuntr]) ++ (if waterChatter s p then [flFlowflt] else [])),
    base := countsOf z.meter.acc z.heat.acc, carry := carry, eunit := z.regs.nat F.ZH_CFG_EUNIT,
    vunit := z.regs.nat F.ZH_CFG_VUNIT }

/-- The notes of R167 and the sums of R276 and R278 begun anew for the interval that opens. -/
def freshNotes (s : State) (p : Phys) : State :=
  let q := !reactive s p
  ((s.onMt p (fun m => { m with
      pairs := 0, synth := 0, clipped := false, qinc := q, cap := { m.cap with fastMs := 0 } })).onSc p (fun x => { x with
    sumUh := 0, sumUc := 0, sumN := 0, priceBad := !s.gb p F.ZT_STAT_VALID })).wb p F.ZE_STAT_CAL_NEW false

/-- The first interval of slice `p` (R571), or one in which a slice begins to serve a zone. -/
def openInterval (s : State) (p : Phys) (flags : List Nat) (carry : Vector Nat 7) : State :=
  freshNotes (s.onZ p (fun z => { z with ival := newInterval s p (boundAt s (s.slNow p)) flags carry })) p

/-- SYNTH of a record [10 ms], saturating. -/
def synthUnits (ms : Rat) : Nat := min 1023 (ms / 10).floor.toNat

/-- A record's FLAGS: those of the interval and what its meter notes (R167, R202). -/
def closeFlags (c : Closing) : BitVec 16 :=
  c.iv.flags ||| flagBits (
    (if c.qinc then [flQinc] else []) ++ (if c.clipped then [flClip] else []) ++ (if 65535 < c.len then [flLensat] else [])
      ++ (if 1023 < (c.synth / 10).floor.toNat then [flSynsat] else []) ++ (if c.iv.merged then [flMerged] else []))

/-- The accumulators at the boundary of a closed interval; as the interval opened while its cycle has not ended. -/
def Closing.ends (c : Closing) : Vector Nat 11 :=
  match c.elec with
  | some e => countsOf e c.heat
  | none => c.iv.base

/-- Whether a chain fits the store. -/
def fits (s : State) (q : Vector Nat 7) : Bool := decide (s.store.fill + chainLength q ≤ Config.storeSize)

/-- The interval's demand figures on the meter page (R167, R168). The first closed interval after a reset of the maximum sets it
whatever its sign, told by the zero time stamp, which R168 leaves open (notes/assumptions/147). -/
def showDemand (s : State) (p : Phys) (c : Closing) (imp exp : Nat) : State :=
  let dmd : Int := if c.len = 0 then 0 else Config.toUnits (((imp : Rat) - (exp : Rat)) * 60 / (c.len : Rat))
  let w : Word := BitVec.ofInt 32 dmd
  let ts := c.iv.start * minuteUs
  let was := signedOf 32 ((s.z p).regs.word R.ZE_DMD_MAX).toNat
  let none_ := (s.z p).regs.word R.ZE_DMD_MAX_TS_LO == 0 && (s.z p).regs.word R.ZE_DMD_MAX_TS_HI == 0
  let s1 := showSynth (((s.wWord p R.ZE_DMD w).w p F.ZE_NPAIRS_N (c.pairs % 2 ^ 32)).w p F.ZE_SYNTH_LAST
    (satTo 16 c.synth.floor.toNat)) p
  if none_ ∨ was < dmd then
    ((s1.wWord p R.ZE_DMD_MAX w).onR p (fun r => r.put64 R.ZE_DMD_MAX_TS_LO R.ZE_DMD_MAX_TS_HI ts)).evt p 4 EVT.ZE_DMD_MAX
  else s1

/-- The mean price of a carrier over the minutes of an interval [0.0001 per kWh] (R278). -/
def meanPrice (s : State) (p : Phys) (iv : Interval) (len : Nat) (price : Fld) : Rat :=
  meanOf ((List.range len).map (fun i =>
    match bandAt s p ((iv.start + i : Nat) : Int) with
    | some k => (s.g p price k : Rat)
    | none => 0))

/-- ZP_COST_DAY and ZP_UNPRICED after an interval (R278). -/
def priceInterval (s : State) (p : Phys) (c : Closing) (flags : BitVec 16) (v : Vector Nat 7) : State :=
  let has := fun (b : Nat) => flags.getLsbD b
  if has flTuntr || has flOutage || has flMerged || c.priceBad then s.bump p F.ZP_UNPRICED_MIN c.len
  else
    let k := fun (e : Nat) (x : Fld) => (e : Rat) / 1000000 * meanPrice s p c.iv c.len x
    let part := k v[0] F.ZT_BAND_k_B_ELEC
      + (if has flHfault then (0 : Rat) else k v[4] F.ZT_BAND_k_B_HEAT + k v[5] F.ZT_BAND_k_C_COOL)
    let t := (s.sc p).costRem + part
    let s1 := (s.bump p F.ZP_COST_DAY_COST t.floor.toNat).onSc p (fun x => { x with costRem := t - (t.floor : Rat) })
    if has flHfault then s1.bump p F.ZP_UNPRICED_MIN c.len else s1

/-- The contribution of a closed interval to both P100 estimates (R276). -/
def learnPower (s : State) (p : Phys) (c : Closing) (flags : BitVec 16) (v : Vector Nat 7) : State :=
  let bad := [flTuntr, flOutage, flMoved, flMerged, flClip, flHfault, flFlowflt].any (fun b => flags.getLsbD b)
  if bad ∨ c.len = 0 ∨ c.sumN = 0 then s
  else
    let watt := fun (e : Nat) => (e : Rat) / 1000 * 60 / (c.len : Rat)
    let keep := fun (l : List P100Pt) => l.filter (fun x => c.time < x.time + 7 * 86400000000)
    let pt := fun (sum : Rat) (e : Nat) => ({ time := c.time, u := sum / (c.sumN : Rat), e := watt e } : P100Pt)
    let s1 := s.onSc p (fun x => { x with
      ptsH := keep x.ptsH ++ [pt c.sumUh (if carrier s p false = 0 then v[0] else v[4])],
      ptsC := keep x.ptsC ++ [pt c.sumUc (if carrier s p true = 0 then v[0] else v[5])] })
    judgeMeters s1 p

/-! ### Closing (R38, R39, R163, R204) -/

/-- The sample time base of slice `p` at the boundary of its open interval, at the latest now. -/
def boundBase (s : State) (p : Phys) : Nat :=
  min (s.base p) (max 0 ((s.z p).ival.bound * minuteUs * 100000000 - (s.sl p).time.epoch : Int).toNat)

/-- The meter of slice `p` cut at its boundary (R38); whether a cycle straddles it. -/
def cutAtBound (s : State) (p : Phys) : State × Bool := cutMeter s p (boundBase s p)

/-- What slice `p` passes to the store when its interval closes, with the interval that opens at `next` (R38, R200). -/
def closingOf (s : State) (p : Phys) (z : Zone) (len next : Nat) (flags : List Nat) : Closing :=
  let r := cutAtBound s p
  let zs := r.1.z p
  { zone := z, iv := zs.ival, nxt := newInterval r.1 p next flags (Vector.replicate 7 0), len := len, time := s.slNow p,
    heat := zs.heat.acc, elec := if r.2 then none else some zs.meter.acc, synth := zs.meter.synth, pairs := zs.meter.pairs,
    qinc := zs.meter.qinc || !reactive r.1 p, clipped := zs.meter.clipped, sumUh := zs.sched.sumUh, sumUc := zs.sched.sumUc,
    sumN := zs.sched.sumN, priceBad := zs.sched.priceBad }

/-- An interval of slice `p` closes at its boundary and the next one opens at a boundary with flags (R38, R200): the slice passes
what it holds to the store, where it waits for its turn and for the cycle that straddles the boundary. -/
def closeIval (s : State) (p : Phys) (z : Zone) (len next : Nat) (flags : List Nat) : State :=
  let c := closingOf s p z len next flags
  (freshNotes ((cutAtBound s p).1.onZ p (fun x => { x with ival := c.nxt })) p).onRs (fun r => { r with wait := r.wait ++ [c] })

/-- Intervals of a zone changed that come after one of its closings: the next waiting one, else the open one of its slice where it
is the one that `f` knows. -/
def onNextWait (z : Zone) (f : Closing → Closing) : List Closing → Option (List Closing)
  | [] => none
  | c :: l => if c.zone = z then some (f c :: l) else (onNextWait z f l).map (fun l' => c :: l')

/-- The open interval of a zone changed, where it still is the one that followed interval number `no`. -/
def onOpen (s : State) (z : Zone) (no : Nat) (f : Interval → Interval) : State :=
  s.onZ (s.sliceOf z) (fun x => if x.ival.no = no + 1 then { x with ival := f x.ival } else x)

/-- The accumulators at a closing's boundary given to it and to the interval that follows (R38, R163): the first closing of the
zone that still waits for them. -/
def giveCut (z : Zone) (e : Vector Acc 7) (synth : Rat) : List Closing → Option (List Closing × Option Closing)
  | [] => none
  | c :: l =>
    if c.zone = z ∧ c.elec.isNone then
      let b := countsOf e c.heat
      let c' : Closing := { c with elec := some e, synth := c.synth + synth, nxt := { c.nxt with base := b } }
      match onNextWait z (fun d => { d with iv := { d.iv with base := b } }) l with
      | some l' => some (c' :: l', none)
      | none => some (c' :: l, some c')
    else (giveCut z e synth l).map (fun r => (c :: r.1, r.2))

/-- One boundary's accumulators delivered to the store and to the interval that follows. -/
def takeCut (s : State) (z : Zone) (e : Vector Acc 7) (synth : Rat) : State :=
  match giveCut z e synth s.store.wait with
  | none => s
  | some (l, d) =>
    let s1 := s.onRs (fun r => { r with wait := l })
    match d with
    | some c => onOpen s1 z c.iv.no (fun i => { i with base := c.nxt.base })
    | none => s1

/-- A closed interval that does not fit the store (R206): it goes on past its boundary, merged into the one that followed; E-8302
once per episode. -/
def mergeBack (s : State) (c : Closing) (l : List Closing) : State × List Closing :=
  let join := fun (n : Interval) => { c.iv with
    no := n.no, merged := true, bound := n.bound, flags := c.iv.flags ||| n.flags }
  let s1 := s.onRs (fun r => { r with merged := r.merged ||| BitVec.ofNat 64 (2 ^ c.zone.val) })
  let s2 := if s.store.merged = 0 then s1.errP 4 0 0x8302 else s1
  match onNextWait c.zone (fun d => { d with
      iv := join d.iv, len := d.len + c.len, synth := d.synth + c.synth, pairs := d.pairs + c.pairs, qinc := d.qinc || c.qinc,
      clipped := d.clipped || c.clipped, sumUh := d.sumUh + c.sumUh, sumUc := d.sumUc + c.sumUc, sumN := d.sumN + c.sumN,
      priceBad := d.priceBad || c.priceBad }) l with
  | some l' => (s2, l')
  | none =>
    let p := s.sliceOf c.zone
    let s3 := onOpen s2 c.zone c.iv.no join
    if (s.z p).ival.no = c.iv.no + 1 then
      ((s3.onMt p (fun m => { m with
          synth := m.synth + c.synth, pairs := m.pairs + c.pairs, qinc := m.qinc || c.qinc,
          clipped := m.clipped || c.clipped })).onSc p (fun x => { x with
        sumUh := x.sumUh + c.sumUh, sumUc := x.sumUc + c.sumUc, sumN := x.sumN + c.sumN,
        priceBad := x.priceBad || c.priceBad }), l)
    else (s3, l)

/-- A closed interval written as a record or chain (R204), its carries and what it leaves behind (R203), the demand, the learned
power and the cost (R168, R276, R278); or merged where it does not fit (R206). -/
def writeClosing (s : State) (c : Closing) (l : List Closing) : State × List Closing :=
  let b := c.ends
  let q := quotients c.iv b
  if fits s q then
    let p := s.sliceOf c.zone
    let v := fieldRises c.iv b
    let fl := closeFlags c
    let k := carries c.iv b
    let s1 := writeChain s c.zone c.iv (min c.len 65535) fl.toNat (synthUnits c.synth) q
    let s2 := priceInterval (learnPower (showDemand s1 p c v[0] v[1]) p c fl v) p c fl v
    let s3 := s2.onRs (fun r => { r with
      merged := r.merged &&& ~~~(BitVec.ofNat 64 (2 ^ c.zone.val)),
      after := smPut r.after c.zone.val { iv := { c.nxt with carry := k }, acc := c.elec.getD (s.mt p).acc, heat := c.heat,
                                          time := c.time } })
    match onNextWait c.zone (fun d => { d with iv := { d.iv with carry := k } }) l with
    | some l' => (s3, l')
    | none => (onOpen s3 c.zone c.iv.no (fun i => { i with carry := k }), l)
  else mergeBack s c l

/-- A closing that waits for the end of a cycle of a slice that no longer runs: its checkpoint holds the boundary's accumulators where
it was written after the boundary; otherwise the checkpoint holds the interval itself, open, and it closes from there (R39). -/
def orphaned (s : State) (c : Closing) : Option Closing :=
  match s.ckptOf (s.sliceOf c.zone) with
  | some k =>
    if c.iv.no < k.zone.ival.no then
      some { c with elec := some (match k.zone.meter.cuts with | x :: _ => x.1 | [] => k.zone.meter.acc) }
    else none
  | none => none

/-- The closed intervals written in their order as far as they are ready (R204); those of a slice that stopped before its cycle ended
are settled from its checkpoint (R39). -/
def writeReady (s : State) : Nat → List Closing → State
  | 0, l => s.onRs (fun r => { r with wait := l })
  | _, [] => s.onRs (fun r => { r with wait := [] })
  | n + 1, c :: l =>
    if c.elec.isSome then let r := writeClosing s c l; writeReady r.1 n r.2
    else if (s.sl (s.sliceOf c.zone)).running then s.onRs (fun r => { r with wait := c :: l })
    else match orphaned s c with
      | some d => let r := writeClosing s d l; writeReady r.1 n r.2
      | none => writeReady s n l

/-- What waits written as far as it is ready. -/
def writeWaiting (s : State) : State := writeReady s s.store.wait.length s.store.wait

/-- The closings of a zone written at once, ahead of those that still wait (R39): its slice stops or starts. -/
def writeZone (s : State) (z : Zone) : State :=
  let mine := s.store.wait.filter (fun c => c.zone == z)
  let rest := s.store.wait.filter (fun c => c.zone != z)
  let s1 := writeReady s mine.length mine
  writeWaiting (s1.onRs (fun r => { r with wait := r.wait ++ rest }))

/-- The boundaries that ended with the meter's last cycle delivered, and what is ready written. -/
def settleClosings (s : State) (p : Phys) : State :=
  let s1 := match s.zoneOf p with
    | some z => ((s.mt p).cuts.foldl (fun (s : State) c => takeCut s z c.1 c.2) s).onMt p (fun m => { m with cuts := [] })
    | none => s
  writeWaiting s1

/-- Closings of a slice that can no longer wait for the end of their cycle (R39): the cycle is ended as far as it has come. -/
def forceClosings (s : State) (p : Phys) : State :=
  match s.zoneOf p with
  | none => s
  | some z =>
    if s.store.wait.any (fun c => c.zone == z && c.elec.isNone) then
      let s1 := settleClosings (finishMeter s p) p
      let s2 := s1.onRs (fun r => { r with wait := r.wait.map (fun c =>
        if c.zone = z ∧ c.elec.isNone then { c with elec := some (s1.mt p).acc } else c) })
      writeZone s2 z
    else writeZone s z

/-- The interval of a running slice closed where its boundary is reached by its own house time (R38). -/
def closeDue (s : State) (p : Phys) (z : Zone) (t : Nat) : State :=
  let iv := (s.z p).ival
  if !iv.opened || decide (t < iv.bound * minuteUs) then s
  else
    let b := max iv.bound (boundAt s t)
    closeIval s p z (if iv.merged then b - iv.start else iv.bound - iv.start) b []

/-- The checkpoint of a zone without a working slice with what its latest record leaves behind (R39, R203). -/
def afterRecord (s : State) (z : Zone) (c : Ckpt) : Ckpt :=
  match smFind s.store.after z.val with
  | some a =>
    if c.zone.ival.no < a.iv.no then
      { c with time := max c.time a.time, zone := { c.zone with
          ival := a.iv, meter := { c.zone.meter with acc := a.acc, cuts := [] }, heat := { c.zone.heat with acc := a.heat } } }
    else c
  | none => c

/-- The porch closes the interval of a zone without a working slice from its last checkpoint or posting (R200); no other
interval opens until a slice serves the zone. Where the chain does not fit it is merged (R206). -/
def closeDark (s : State) (z : Zone) : State :=
  let p := s.sliceOf z
  match (s.ckptOf p).map (afterRecord s z) with
  | none => s
  | some c =>
    let iv := c.zone.ival
    if !iv.opened || decide (s.now < iv.bound * minuteUs) then s
    else
      let m : Meter := match s.postingOf p with
        | some x => if c.time ≤ x.time then { c.zone.meter with acc := x.acc } else c.zone.meter
        | none => c.zone.meter
      let h := c.zone.heat.acc
      let iv1 := { iv with flags := iv.flags ||| flagBits [flOutage] }
      let keep := fun (i : Interval) (s : State) => (s.onSl p (fun x => { x with
        z := { x.z with ival := i }, ckpt := some { c with zone := { c.zone with ival := i, meter := m } } })).wrote (.ckpt p false)
      let len := if iv.merged then boundAt s s.now - iv.start else iv.bound - iv.start
      let d : Closing := {
        zone := z, iv := iv1, nxt := iv1, len := len, time := s.now, heat := h, elec := some m.acc, synth := m.synth,
        pairs := m.pairs, qinc := m.qinc, clipped := m.clipped }
      let b := countsOf m.acc h
      if fits s (quotients iv b) then
        let s1 := writeChain s z iv1 (min len 65535) (closeFlags d).toNat (synthUnits m.synth) (quotients iv b)
        let s2 := s1.onRs (fun r => { r with merged := r.merged &&& ~~~(BitVec.ofNat 64 (2 ^ z.val)) })
        keep { iv with opened := false, no := iv.no + 1, base := b, carry := carries iv b, flags := 0, merged := false } s2
      else
        let s1 := s.onRs (fun r => { r with merged := r.merged ||| BitVec.ofNat 64 (2 ^ z.val) })
        let s2 := if s.store.merged = 0 then s1.errP 4 0 0x8302 else s1
        keep { iv1 with merged := true, bound := iv.bound + lenAt s iv.bound } s2

/-- The interval of a zone closed where its boundary is reached at a house time: by its running slice, else by the porch. -/
def closeZone (s : State) (z : Zone) (t : Nat) : State :=
  let p := s.sliceOf z
  if (s.sl p).running then closeDue s p z t else closeDark s z

/-- An item put behind those of a sorted list whose key is not greater. -/
def insertBy {α : Type} (key : α → Nat) (a : α) : List α → List α
  | [] => [a]
  | b :: l => if key a < key b then a :: b :: l else b :: insertBy key a l

/-- START of a zone's open interval, as its slice or its checkpoint holds it. -/
def startOf (s : State) (z : Zone) : Nat :=
  let x := s.sl (s.sliceOf z)
  if x.running then x.z.ival.start else match s.ckptOf (s.sliceOf z) with | some c => c.zone.ival.start | none => 0

/-- The zones with a merged interval, oldest START first, ties in ascending order (R206). -/
def mergedZones (s : State) : List Zone :=
  let l := (List.finRange 64).filter (fun z => s.store.merged.getLsbD z.val)
  l.foldl (fun (o : List Zone) z => insertBy (startOf s) z o) []

/-- A record of which one bank's copy fails its CRC when it is read: rewritten from the other bank, E-4303 (R205). -/
def repairRecord (s : State) (n : Nat) : State :=
  if s.oneBad (.record n) then ((s.wrote (.record n)).pbump F.PCH_RS_CNT_REPAIRED).errP 4 (n % 2 ^ 16) 0x4303 else s

/-- The records held of a range read and repaired (R205). -/
def repairRecords (s : State) (first last : Nat) : State :=
  s.store.recs.foldl (fun (s : State) r => if first ≤ r.seq ∧ r.seq ≤ last then repairRecord s r.seq else s) s

/-- INTERVAL_CLOSE (R38, R204, R206; which records it reads back: notes/assumptions/156): at its slice's first tick at or after the boundary. Merged intervals close first, then the
zones up to this one in ascending order. -/
def intervalClose (s : State) (z : Zone) : State :=
  let p := s.sliceOf z
  let t := if (s.sl p).running then s.slNow p else s.now
  let due := if (s.sl p).running then (s.z p).ival.opened && decide ((s.z p).ival.bound * minuteUs ≤ t) else true
  if !s.storeOn || !due then s
  else
    let s1 := (mergedZones s).foldl (fun (s : State) y => closeZone s y t) s
    let s2 := (List.finRange 64).foldl (fun (s : State) (y : Zone) => if y ≤ z then closeZone s y t else s) s1
    let s3 := writeWaiting s2
    repairRecords s3 (s3.store.acked + 1) s3.store.lastSeq

/-! ### Steps of house time and interruptions (R200) -/

/-- A step of house time for the open interval of a running slice. -/
def ivalStep (s : State) (p : Phys) (old new : Nat) : State :=
  match s.zoneOf p with
  | none => s
  | some z =>
    let iv := (s.z p).ival
    let big := decide (old + 1000000 ≤ new) || decide (new + 1000000 ≤ old)
    if !iv.opened || !s.storeOn || !big then s
    else
      let s1 := flagInterval s p flTstep
      let ends := (decide (old ≤ new) && decide (iv.bound * minuteUs ≤ new))
        || (decide (new < old) && decide (new < iv.start * minuteUs))
      if ends then settleClosings (closeIval s1 p z (iv.bound - iv.start) (boundAt s1 new) [flShort, flTstep]) p else s1

/-- The open interval when power returns or a slice serves the zone again (R200): it goes on marked, or closes at once
and the next is SHORT. A zone whose interval the porch has closed opens the present one SHORT and OUTAGE; MOVED with it where the
zone has come to another slice. -/
def ivalResume (s : State) (p : Phys) (moved : Bool) : State :=
  match s.zoneOf p with
  | none => s
  | some z =>
    let iv := (s.z p).ival
    if !s.storeOn then s
    else if !iv.opened then openInterval s p ([flShort, flOutage] ++ (if moved then [flMoved] else [])) iv.carry
    else
      let s1 := flagInterval s p (if moved then flMoved else flOutage)
      if s.slNow p < iv.bound * minuteUs then s1
      else settleClosings (closeIval s1 p z (iv.bound - iv.start) (boundAt s1 (s.slNow p))
        ([flShort] ++ (if moved then [flMoved] else []))) p

/-! ### The window (R205, R207) -/

/-- Copies of records not acknowledged that go bad in one bank. -/
def spoilRecords (s : State) (bad : List Nat) : State :=
  bad.foldl (fun (s : State) n =>
    if s.store.acked < n ∧ n ≤ s.store.lastSeq then s.spoil { item := .record n, both := false } else s) s

/-- A write of PCH_RS_WIN_SEQ (R207): a copy starts, abandoning one that runs; what it reads is repaired. `bad` are copies gone bad
since they were last read. -/
def loadWindow (s : State) (n : Nat) (bad : List Nat) : State :=
  let s1 := (s.pw F.PCH_RS_WIN_SEQ_SEQ n).onRs (fun r => { r with
    winBusy := true, winValid := false, winReq := n, winTail := r.lastSeq })
  let first := max n (s.store.acked + 1)
  repairRecords (spoilRecords s1 bad) first (min s.store.lastSeq (first + Config.windowSize - 1))

/-- The copy done (R207): the records not acknowledged from the request up to the TAIL of the write, at most 378. -/
def windowDone (s : State) : State :=
  let r := s.store
  if !r.winBusy then s
  else
    let first := max r.winReq (r.acked + 1)
    let l := (r.recs.filter (fun x => decide (first ≤ x.seq) && decide (x.seq ≤ r.winTail))).take Config.windowSize
    (s.onRs (fun r => { r with winBusy := false, winValid := true, win := l, winFirst := first })).evtP 4
      EVT.RS_WIN_READY

/-- Record words as bytes W0 … W6 (R201). -/
def recBytes (r : Rec) : List Byte :=
  leBytes 4 r.seq ++ (r.words.toList.map (fun w => leBytes 4 w.toNat)).flatten

/-- Word `i` of a record; W7 is its CRC (R201). -/
def recWord (r : Rec) (i : Nat) : Word :=
  if i = 0 then BitVec.ofNat 32 r.seq
  else if h : i - 1 < 6 ∧ i < 7 then r.words[i - 1]'h.1
  else crc32 (recBytes r)

/-- Word `i` of window record `j` (R207, R208): 0 while a copy runs or past COUNT. -/
def windowWord (s : State) (j i : Nat) : Word :=
  if s.store.winValid then
    match s.store.win[j]? with
    | some r => if s.readable (.record r.seq) then recWord r i else Config.lostWord r.seq i
    | none => 0
  else 0

/-! ### The acknowledgement (R210) -/

/-- Whether the record after `a` continues a chain (R203, R210). -/
def cutsChain (s : State) (a : Nat) : Bool :=
  s.store.recs.any (fun r => r.seq == a + 1 && ((r.words[1]).getLsbD flCont))

/-- Records up to `a` freed. -/
def acknowledge (s : State) (a : Nat) : State :=
  if s.store.acked < a ∧ a ≤ s.store.lastSeq then
    storeWarn (s.onRs (fun r => { r with acked := a, recs := r.recs.filter (fun x => decide (a < x.seq)) }))
  else s

/-! ### The commands -/

/-- INTERVAL_CLOSE (R38). -/
def execIntervalClose (z : Zone) (s : State) : Host.Outcome State Fault Refusal := go (intervalClose s z)

/-- ILEN_TAKE_EFFECT (R199). -/
def execIlenTakeEffect (s : State) : Host.Outcome State Fault Refusal :=
  go (s.pw F.PCH_RS_CFG_ILEN (s.pg F.PCH_RS_CFG_ILEN_NEXT))

/-- WINDOW_COPY_DONE (R207). -/
def execWindowCopyDone (s : State) : Host.Outcome State Fault Refusal := go (windowDone s)

/-- 0x0301 (R199, R375): ILEN_NEXT set; it counts from the next full hour. -/
def execIntervalLength (x : Exec) (s : State) : Host.Outcome State Fault Refusal :=
  go (if s.porchNext x then
    let s1 := (s.pw F.PCH_RS_CFG_ILEN (lenAt s (s.now / minuteUs))).pw F.PCH_RS_CFG_ILEN_NEXT (x.byte 0)
    porchDone (s1.onRs (fun r => { r with ilenAt := (s.now / minuteUs / 60 + 1) * 60 })) x resDone 0 0
  else s)

/-- 0x0302 (R210, R375): VALUE ACKED after execution. -/
def execRecordAcknowledge (x : Exec) (s : State) : Host.Outcome State Fault Refusal :=
  go (if s.porchNext x then
    let s1 := acknowledge s (x.u32 0)
    porchDone s1 x resDone 0 (BitVec.ofNat 32 s1.store.acked)
  else s)

end Sys2Proof.Machine
end

