-- ==== Sys2Proof/Machine/Time.lean ====
section
/-! DEFINITION. The cellar, the calendar, the clock-trust flag, house time with its steps and slews, and the discipline of
the slices (chapter 14). -/
namespace Sys2Proof.Machine

/-- The time service changed. -/
def State.onTs (s : State) (f : TimeSvc → TimeSvc) : State := { s with time := f s.time }

/-- The cellar changed. -/
def State.onCl (s : State) (f : Cellar → Cellar) : State := { s with cellar := f s.cellar }

/-- A change for every slice, in ascending order. -/
def eachSlice (s : State) (f : State → Phys → State) : State := (List.finRange 68).foldl f s

/-- Whether the porch runs: powered, in RUN or DOZE (R484, R491). -/
def State.porchRuns (s : State) : Bool := s.supply.powered && decide (s.landing.state ≤ 1)

/-- The landing changed. -/
def State.onLd (s : State) (f : Landing → Landing) : State := { s with landing := f s.landing }

/-- The settings of the porch for its state and band (R497). -/
def porchSettings (s : State) : State :=
  s.onLd (fun l => { l with sup := porchSupplies l.state s.thermal.band, standby := standbyBias l.state })

/-- The clocks of the running slices at what the state and the throttle ask for (R485, R506). -/
def setClocks (s : State) : State :=
  eachSlice s (fun s p => if (s.sl p).running then setSliceClock s p (sliceMhz s p) else s)

/-- The module brought to a power state (R484, R497), with EVT.STATE; between RUN and DOZE the slice clocks change (R485). -/
def setPower (s : State) (st : Nat) : State :=
  if s.landing.state = st then s
  else
    let s1 := porchSettings (s.onLd (fun l => { l with state := st }))
    let s2 := if s.landing.state ≤ 1 ∧ st ≤ 1 then setClocks s1 else s1
    (s2.notePwrs (porchPages ++ s2.runningPages)).evtP 9 EVT.PWR_STATE

/-- DOZE ends (R485): the module is in RUN; a timed wake counted in DOZE is over with it. -/
def endDoze (s : State) : State :=
  if s.landing.state = 1 then (setPower s 0).onCl (fun c => { c with timer := 0 }) else s

/-- One second in 10⁻⁸ µs. -/
def secFine : Int := 100000000000000

/-- House time in 10⁻⁸ µs. -/
def State.fine (s : State) : Int := (s.time.us : Int) * usFine + (s.time.frac : Int)

/-- House time set; it is an unsigned 64-bit count of µs (R16, R471). -/
def State.putFine (s : State) (v : Int) : State :=
  s.onTs (fun t => { t with us := ((v / usFine) % (2 ^ 64 : Nat)).toNat, frac := (v % usFine).toNat })

/-- A signed number limited to a signed field of `n` bits. -/
def satSigned (n : Nat) (i : Int) : Int := clampInt (-(2 ^ (n - 1) : Nat)) ((2 ^ (n - 1) : Nat) - 1) i

/-! ### The clock-trust flag (R466) -/

/-- The interval of a zone on slice `p` and of its checkpoint marked TUNTR (R200). -/
def markUntrusted (s : State) (p : Phys) : State :=
  let s1 := if (s.z p).ival.opened then flagInterval s p flTuntr else s
  s1.onCkpt p (fun c =>
    if c.zone.ival.opened then
      { c with zone := { c.zone with ival := { c.zone.ival with flags := c.zone.ival.flags ||| flagBits [flTuntr] } } }
    else c)

/-- What a change of the flag does in the zones (R200, R263, R277). -/
def spreadTrust (s : State) : State :=
  eachSlice s (fun s p =>
    let s1 := if s.trusted then s else markUntrusted s p
    if (s1.sl p).running && (s1.zoneOf p).isSome then applyTrust s1 p else s1)

/-- E-4403 now, or when the porch next runs. -/
def tellUntrusted (s : State) (cause : Nat) : State :=
  if s.porchRuns then s.errP 0x41 cause 0x4403 else s.onCl (fun c => { c with oweCause := some cause })

/-- The flag without the zones: CAUSE names the latest row of R466 that makes it untrusted, whatever it was before (R481); the events
and E-4403 come only with a change of the flag. -/
def flipTrust (s : State) (b : Bool) (cause : Nat) : State :=
  let s1 := s.onCl (fun c => { c with trusted := b, cause := if b then c.cause else cause })
  if s.cellar.trusted = b then s1
  else
    let s2 := (s1.evtP 8 EVT.TS_TRUST).evtP 0x41 EVT.TRUST_TRUST
    if b then s2 else tellUntrusted s2 cause

/-- The clock-trust flag set (R466). -/
def setTrust (s : State) (b : Bool) (cause : Nat) : State :=
  let s1 := flipTrust s b cause
  if s.cellar.trusted = b then s1 else spreadTrust s1

/-! ### The calendar (R467 to R470) -/

/-- OFFSET of a band (R459). -/
def bandOffset (b : Nat) : Nat := [3565, 1283, 128, 1283, 3950, 8499].getD b 128

/-- Days before the month in a year, counting each month above 12 as 31 days (R470). -/
def daysBefore (y m : Nat) : Nat := (List.range (m - 1)).foldl (fun n i => n + monthDays y (i + 1)) 0

/-- Seconds since 2000-01-01 of calendar fields by plain arithmetic (R470). -/
def calSeconds (c : Cellar) : Int :=
  let days := dayOf { year := 2000 + (c.year : Int), month := 1, day := 1 } + (daysBefore (2000 + c.year) c.month : Int)
    + (c.day : Int) - 1
  days * 86400 + (c.hour : Int) * 3600 + (c.min : Int) * 60 + (c.sec : Int)

/-- The calendar reading converted to house time, in 10⁻⁸ µs. -/
def calFine (c : Cellar) : Int := calSeconds c * secFine + (c.sub : Int) * secFine / 32768

/-- Whether a field of the calendar is outside its normal range (R469). -/
def Cellar.invalid (c : Cellar) : Bool :=
  decide (59 < c.sec) || decide (59 < c.min) || decide (23 < c.hour) || c.day == 0 || c.month == 0
    || decide (12 < c.month) || decide (monthDays (2000 + c.year) c.month < c.day) || decide (399 < c.year)

/-- EVT.CALINV when CALINV changed. -/
def noteCalinv (before s : State) : State :=
  if before.cellar.invalid = s.cellar.invalid then s else s.evtP 0x40 EVT.CAL_CALINV

/-- The next year: 399 and above begin again at 0 (R469). -/
def nextYear (c : Cellar) : Cellar := { c with year := if 399 ≤ c.year then 0 else c.year + 1 }

/-- The next month (R469). -/
def nextMonth (c : Cellar) : Cellar :=
  if c.month = 0 then { c with month := 1, day := 1 }
  else if c.month < 12 then { c with month := c.month + 1, day := 1 }
  else { nextYear c with month := 1, day := 1 }

/-- The next day (R469). -/
def nextDay (c : Cellar) : Cellar :=
  if c.day = 0 then { c with day := 1 }
  else if monthDays (2000 + c.year) c.month ≤ c.day then nextMonth c
  else { c with day := c.day + 1 }

/-- The next second (R467, R469); the wake timer stays at 1 until its expiry is latched (R493). -/
def nextSecond (c : Cellar) : Cellar :=
  let c0 : Cellar := { c with sub := 0, subAcc := 0, timer := if c.timer ≤ 1 then c.timer else c.timer - 1 }
  if c.sec < 59 then { c0 with sec := c.sec + 1 }
  else if c.min < 59 then { c0 with sec := 0, min := c.min + 1 }
  else if c.hour < 23 then { c0 with sec := 0, min := 0, hour := c.hour + 1 }
  else nextDay { c0 with sec := 0, min := 0, hour := 0 }

/-- Whether a second ends a year from 2399 on (R469). -/
def rollsOver (c d : Cellar) : Bool := decide (399 ≤ c.year) && decide (d.year = 0)

/-- The calendar set from a house time in 10⁻⁸ µs (R475). -/
def writeCalendar (s : State) (v : Int) : State :=
  let sec := v / secFine
  let d := dateOf (sec / 86400)
  let t := (sec % 86400).toNat
  noteCalinv s (s.onCl (fun c => { c with
    year := ((d.year - 2000) % 512).toNat, month := d.month, day := d.day, hour := t / 3600, min := t / 60 % 60,
    sec := t % 60, sub := (v % secFine * 32768 / secFine).toNat, subAcc := 0 }))

/-- ALIGN_PEND when calendar and house time differ by more than 100 µs (R475). -/
def checkAlign (s : State) : State :=
  let d := calFine s.cellar - s.fine
  if 100 * usFine < d ∨ d < -(100 * usFine) then s.pwb F.PCH_TS_STAT_ALIGN_PEND true else s

/-! ### Steps and slews (R473, R474) -/

/-- The slew still to make, with EVT.SLEW when SLEW changes. -/
def setSlew (s : State) (v : Int) : State :=
  let s1 := s.onTs (fun t => { t with slew := v })
  if (s.time.slew == 0) == (v == 0) then s1 else s1.evtP 8 EVT.TS_SLEW

/-- The offsets of the steps announced and not yet applied. -/
def pendSum (s : State) : Int := s.time.pend.foldl (fun n p => n + p.offset) 0

/-- A step announced for its edge E. -/
def announce (s : State) (p : PendStep) : State := s.onTs (fun t => { t with pend := t.pend ++ [p] })

/-- House time to be set outright to a value as of now: the slew ends (R473). -/
def announceSet (s : State) (v : Int) (alarm trust : Bool) (lseq : Option Nat) : State :=
  announce (setSlew s 0) { offset := v - s.fine - pendSum s, alarm := alarm, trust := trust, lseq := lseq }

/-- An offset from 0x0402 or from a bus θ (R473): slewed with the part not yet slewed, or the whole sum stepped. Answers
whether it became a step. -/
def addOffset (s : State) (o : Int) (lseq : Option Nat) : State × Bool :=
  let sum := s.time.slew + o
  if -secFine < sum ∧ sum < secFine then (setSlew s sum, false)
  else (announce (setSlew s 0) { offset := sum, alarm := true, lseq := lseq }, true)

/-- A slice at an edge E (R474, R478): it changes its epoch, or notes the step for its start alignment. -/
def sliceStep (old new : Nat) (off : Int) (alarm : Bool) (s : State) (p : Phys) : State :=
  if (s.sl p).running then
    let s1 := s.onSl p (fun x => { x with time := { x.time with epoch := x.time.epoch + off } })
    let s2 := ivalStep ((s1.bump p F.ZX_CNT_STEPS).evt p 0xD EVT.ZX_STEP) p old new
    if alarm && s2.trusted then alarmsStep s2 p old new else s2
  else s.onSl p (fun x => { x with time := { x.time with missed := x.time.missed ++ [(old, new, alarm)] } })

/-- CTX of a step: its magnitude in seconds, saturating. -/
def stepCtx (off : Int) : Nat := satTo 16 (off.natAbs / secFine.natAbs)

/-- An announced step applied at its edge E (R474). -/
def applyStep (s : State) (q : PendStep) : State :=
  let old := s.now
  let s1 := (if q.keepSlew then s else setSlew s 0).putFine (s.fine + q.offset)
  let s2 := if q.trust then flipTrust s1 true 0 else s1
  let s3 := eachSlice s2 (sliceStep old s1.now q.offset q.alarm)
  let s4 := if s2.trusted = s1.trusted then s3 else spreadTrust s3
  let s5 := (((s4.pwi F.PCH_TS_STEP_STEP (satSigned 32 (Int.tdiv q.offset (secFine / 1000)))).pw F.PCH_TS_STEP_TS_LO_TS
    (s1.now % 2 ^ 32)).pw F.PCH_TS_STEP_TS_HI_TS (s1.now / 2 ^ 32)).pbump F.PCH_TS_CNT_STEPS
  let s6 := (s5.evtP 8 EVT.TS_STEP).errP 8 (stepCtx q.offset) (if 0 ≤ q.offset then 0x1404 else 0x1405)
  let s7 := match q.hour with
    | some f => s6.errP 8 (if f then 1 else 0xFFFF) 0x140A
    | none => s6
  let s8 := match q.lseq with
    | some n => markPorch s7 n resDone 0 0
    | none => s7
  checkAlign s8

/-- STEP_EDGE (R474): the oldest announced step. -/
def stepEdge (s : State) : State :=
  match s.time.pend with
  | [] => s
  | q :: l => applyStep (s.onTs (fun t => { t with pend := l })) q

/-! ### The time source (R472) -/

/-- The port that SRC names. -/
def State.srcPort (s : State) : Option (Fin 2) :=
  match s.pg F.PCH_TS_STAT_SRC with
  | 1 => some 0
  | 2 => some 1
  | _ => none

/-- LOCK in PCH_TS_STAT (R472): of the cellar once aligned at start, of a bus the port's LOCK. -/
def sourceLock (s : State) : Bool :=
  match s.srcPort with
  | none => s.time.aligned
  | some i => s.pb F.FB_TSYNC_STAT_LOCK i.val

/-- LOCK and HOLD written, with EVT.SOURCE when one changed. -/
def setSource (s : State) (lock hold : Bool) : State :=
  let s1 := (s.pwb F.PCH_TS_STAT_LOCK lock).pwb F.PCH_TS_STAT_HOLD hold
  if s.pb F.PCH_TS_STAT_LOCK = lock ∧ s.pb F.PCH_TS_STAT_HOLD = hold then s1 else s1.evtP 8 EVT.TS_SOURCE

/-- The service begins to hold: HOLDS and E-4407. -/
def beginHold (s : State) (i : Fin 2) : State :=
  let held := s.pb F.PCH_TS_STAT_HOLD
  let s1 := setSource s (sourceLock s) true
  if held then s1 else (s1.pbump F.PCH_TS_CNT_HOLDS).errP 8 (i.val + 1) 0x4407

/-- The crystal correction of the source cellar (R472): the factory curve at the voted die temperature less the OFFSET in
use [0.01 ppm]. -/
def cellarRate (s : State) : Int :=
  Config.crystalCurve ((s.thermal.tv : Rat) / 100)
    - Config.toUnits ((bandOffset s.cellar.band : Rat) * 100000000 / (2 ^ 25 : Nat))

/-- The rate of the source cellar brought up to date. -/
def refreshRate (s : State) : State :=
  if s.srcPort.isNone then s.onTs (fun t => { t with rate := cellarRate s }) else s

/-- The median of three offsets. -/
def median3 (a b c : Int) : Int := max (min a b) (min (max a b) c)

/-- θ of a pair handed to the time service by the source port (R472, R473), in 10⁻⁸ µs. -/
def takeTheta (s : State) (i : Fin 2) (theta : Int) (trusted : Bool) (node : Nat) : State :=
  if s.srcPort ≠ some i then s
  else if !trusted then
    let s1 := if s.time.untrTold then s else s.errP 8 node 0x4408
    beginHold (s1.onTs (fun t => { t with untrTold := true, thetas := [] })) i
  else
    let lock := s.pb F.FB_TSYNC_STAT_LOCK i.val
    let s0 := s.onTs (fun t => { t with untrTold := false })
    let s1 := setSource s0 lock (s0.pb F.PCH_TS_STAT_HOLD && !lock)
    let s2 := if lock then
        let r := s1.freshNat
        r.2.onTs (fun t => { t with rate := clampInt (-10000) 10000 (signedOf 32 r.1) })
      else s1
    if -secFine < theta ∧ theta < secFine then
      (addOffset (s2.onTs (fun t => { t with thetas := [] })) (-theta) none).1
    else
      match s2.time.thetas with
      | [a, b] => announce (setSlew (s2.onTs (fun t => { t with thetas := [] })) 0)
          { offset := -(median3 a b theta), alarm := true }
      | l => s2.onTs (fun t => { t with thetas := l ++ [theta] })

/-! ### The commands of group 0x04 (R376) -/

/-- 0x0401 (R376, R473, R474). -/
def setHouseTime (s : State) (x : Exec) (elapsed : Nat) : State :=
  if s.srcPort.isSome then porchDone s x resFault 1 0
  else
    let v : Int := ((x.u64 0 + elapsed : Nat) : Int) * usFine
    let d := v - s.fine
    if s.trusted && decide (-secFine < d) && decide (d < secFine) then porchDone (setSlew s d) x resDone 0 0
    else unqueue (announceSet s v s.trusted true (some x.lseq)) x.lseq

/-- 0x0402 (R376, R473). -/
def adjustTime (s : State) (x : Exec) : State :=
  if s.srcPort.isSome then porchDone s x resFault 1 0
  else
    let r := addOffset s (x.i32 0 * usFine) (some x.lseq)
    if r.2 then unqueue r.1 x.lseq else porchDone r.1 x resDone 0 0

/-- 0x0403 (R376, R476). -/
def shiftHour (s : State) (x : Exec) : State :=
  if s.srcPort.isSome then porchDone s x resFault 1 0
  else
    let f := x.byte 0 == 1
    let off := if f then 3600 * secFine else -3600 * secFine
    let q : PendStep := {
      offset := off, alarm := true, lseq := some x.lseq, keepSlew := true, hour := some f }
    unqueue (announce s q) x.lseq

/-- The slave side of both ports begun anew when the source changes (R441 to R444). -/
def restartSlaves (s : State) : State :=
  (List.finRange 2).foldl (fun (s : State) (i : Fin 2) =>
    let src := s.srcPort == some i
    let was := s.pb F.FB_TSYNC_STAT_LOCK i.val
    if src then s
    else
      let s1 := { s with ports := s.ports.set i.val { s.ports[i] with slave := {} } i.isLt }
      let s2 := (s1.pwWord R.FB_TSYNC_STAT 0x00FF0000#32 i.val).pwWord R.FB_TDLY 0 i.val
      if was then s2.evtP (0xD + i.val) EVT.FB_LOCK else s2) s

/-- 0x0404 (R376, R472): it moves no time. -/
def setSourceCmd (s : State) (x : Exec) : State :=
  let was := s.pg F.PCH_TS_STAT_SRC
  let s1 := (s.pw F.PCH_TS_STAT_SRC (x.byte 0)).pw F.PCH_TS_STAT_MASTER (x.byte 1)
  let s2 := if was = x.byte 0 then s1 else restartSlaves (s1.onTs (fun t => { t with thetas := [], untrTold := false }))
  let s3 := setSource s2 (sourceLock s2) (s2.pb F.PCH_TS_STAT_HOLD && decide (was = x.byte 0))
  porchDone (refreshRate s3) x resDone 0 0

/-- 0x0405 (R376, R460): TRIM to MRAM and, where the interface is open, to the cellar. -/
def setTrim (s : State) (x : Exec) : State :=
  let s1 := s.onTs (fun t => { t with trim := x.i16 0 })
  porchDone (if s.cellar.locked then s1 else s1.onCl (fun c => { c with trimNext := x.i16 0 })) x resDone 0 0

/-! ### The porch's start (R471) -/

/-- The errors of the cellar owed to the porch (R457, R465, R466). -/
def payOwed (s : State) : State :=
  let c := s.cellar
  let s1 := if c.oweOsc then s.errP 0x41 0 0x8401 else s
  let s2 := if c.oweRet then s1.errP 0x41 0 0x8402 else s1
  let s3 := match c.oweCause with
    | some n => s2.errP 0x41 n 0x4403
    | none => s2
  s3.onCl (fun c => { c with oweOsc := false, oweRet := false, oweCause := none })

/-- House time taken from the calendar to within ±31 µs (R471), TRIM copied into the cellar (R460), the slew kept in the
cellar gone on with (R488). -/
def timeStart (s : State) : State :=
  let r := s.freshNat
  let err : Int := (r.1 % 63 : Nat) - 31
  let s1 := r.2.putFine (calFine s.cellar + err * usFine)
  let s2 := s1.onTs (fun t => { t with
    pend := [], thetas := [], aligned := true, untrTold := false, lockAll := false })
  let s3 := setSlew (s2.onCl (fun c => { c with trimNext := s.time.trim, slewKept := 0 })) s.cellar.slewKept
  payOwed (refreshRate (setSource s3 (sourceLock s3) false))

/-- House time written into the cellar before the porch stops, where the two differ by more than 100 µs (R463, R488). -/
def timeSave (s : State) : State :=
  let d := calFine s.cellar - s.fine
  let s1 := if (100 * usFine < d ∨ d < -(100 * usFine)) ∧ !s.cellar.locked then writeCalendar s s.fine else s
  s1.onCl (fun c => { c with slewKept := s.time.slew })

/-! ### Cellar events (R457 to R465, R469) -/

/-- OSCILLATOR_STOP (R457). -/
def oscStopped (s : State) : State :=
  let s1 := (s.onCl (fun c => { c with stopped := true, oscStop := true })).evtP 0x41 EVT.TRUST_LOSS
  let s2 := if s.porchRuns then s1.errP 0x41 0 0x8401 else s1.onCl (fun c => { c with oweOsc := true })
  setTrust s2 false 3

/-- RETENTION_RECOVERY (R465). -/
def retentionLost (s : State) : State :=
  let s1 := noteCalinv s (s.onCl (fun c => { c with
    year := 0, month := 1, day := 1, hour := 0, min := 0, sec := 0, sub := 0, subAcc := 0, retLost := true,
    queue := [], wlog := [], trim := 0, trimNext := 0, band := 2, bandNext := 2, slewKept := 0 }))
  let s2 := s1.evtP 0x41 EVT.TRUST_LOSS
  let s3 := if s.porchRuns then s2.errP 0x41 0 0x8402 else s2.onCl (fun c => { c with oweRet := true })
  setTrust s3 false 2

/-- TRIM_WINDOW (R458, R475, R480): the new TRIM and band take effect; CELL_ERR of the window; ALIGN_PEND is checked. -/
def trimWindow (s : State) : State :=
  let s1 := s.onCl (fun c => { c with trim := c.trimNext, band := c.bandNext })
  let bus := s.srcPort.isSome && s.pb F.PCH_TS_STAT_LOCK
  let s2 := if s.time.lockAll && bus then
      let r := s1.freshNat
      r.2.pwi F.PCH_TS_RATE_CELL_ERR (clampInt (-32767) 32767 (signedOf 16 r.1))
    else s1.pw F.PCH_TS_RATE_CELL_ERR 0x8000
  let s3 := refreshRate (s2.onTs (fun t => { t with lockAll := bus }))
  if s3.porchRuns then checkAlign s3 else s3

/-- PG_TS of the cellar pages, whose DARK changes with the lock (R65, R462). -/
def touchCellar (s : State) : State := [0x40, 0x41, 0x42, 0x43].foldl (fun (s : State) g => s.touch g) s

/-- RAIL_LOCKOUT (R461). -/
def lockOut (s : State) : State :=
  let s1 := s.onCl (fun c => { c with locked := true, below31 := true })
  if s.cellar.locked then s1 else (touchCellar (s1.pbump F.CLR_SW_CNT_LOCKOUTS)).evtP 0x42 EVT.SUP_LOCKED

/-- RAIL_SWITCHOVER (R461): a rail at 2.7 V has passed 2.9 V. -/
def switchOver (s : State) : State :=
  let s1 := (lockOut s).onCl (fun c => { c with onCell := true })
  if s.cellar.onCell then s1 else (s1.pbump F.CLR_SW_CNT_SWITCHES).evtP 0x42 EVT.SUP_CELL

/-- RAIL_RECONNECT (R461): 5 ms above 3.1 V throughout. -/
def railBack (s : State) : State :=
  if s.cellar.below31 ∨ !s.cellar.locked then s
  else
    let s1 := (touchCellar (s.onCl (fun c => { c with locked := false, onCell := false }))).evtP 0x42 EVT.SUP_LOCKED
    if s.cellar.onCell then s1.evtP 0x42 EVT.SUP_CELL else s1

/-- CALENDAR_TICK (R467, R469, R470): the next second, and the step that a rollover makes. -/
def calendarTick (s : State) : State :=
  let c := { s.cellar with stopped := false }
  let d := nextSecond c
  let s1 := noteCalinv s (s.onCl (fun _ => d))
  let s2 := if rollsOver c d then setTrust s1 false 4 else s1
  let jump := calSeconds d - (calSeconds c + 1)
  if jump ≠ 0 ∧ s2.porchRuns then announceSet s2 (calFine d) true false none else s2

/-- CALENDAR_LOAD (R468): the effect of CLR_CTRL.LOAD by the module state. -/
def loadCalendar (s : State) : State :=
  let e := s.evtP 0x40 EVT.CAL_LOAD
  if s.modst.state = 1 ∨ s.modst.state = 3 ∨ s.modst.state = 4 then
    let s1 := noteCalinv e (e.onCl (fun c => { c with
      year := s.pg F.CLR_LD_DATE_YEAR, month := s.pg F.CLR_LD_DATE_MONTH, day := s.pg F.CLR_LD_DATE_DAY,
      hour := s.pg F.CLR_LD_TIME_HOUR, min := s.pg F.CLR_LD_TIME_MIN, sec := s.pg F.CLR_LD_TIME_SEC, sub := 0,
      subAcc := 0 }))
    let s2 := setTrust s1 false 5
    announceSet s2 (calFine s2.cellar) false false none
  else (e.pbump F.CLR_CAL_STAT_LD_REJ).errP 0x40 0 0x1406

/-- CALENDAR_REWRITE (R475). -/
def rewriteCalendar (s : State) : State :=
  if s.pb F.PCH_TS_STAT_ALIGN_PEND && !s.cellar.locked then
    (writeCalendar s s.fine).pwb F.PCH_TS_STAT_ALIGN_PEND false
  else s

/-! ### Slice discipline (R477, R478) -/

/-- The steps that a slice missed counted at its start alignment (R478); the alarms of the missed time were taken when
the slice took up its zone. -/
def takeMissed (s : State) (p : Phys) : State :=
  let l := (s.sl p).time.missed
  let s1 := s.onSl p (fun x => { x with time := { x.time with missed := [] } })
  if l.isEmpty then s1 else (s1.bump p F.ZX_CNT_STEPS l.length).evt p 0xD EVT.ZX_STEP

/-- What the oscillator of a slice has gained on the reference since the last message, in its time base [ns] (R33). -/
def driftBase (s : State) (p : Phys) (gain : Int) : State :=
  s.onSl p (fun x => { x with time := { x.time with base := ((x.time.base : Int) + gain * 100000).toNat } })

/-- The difference of a slice's own house time from house time [ns] (R477). -/
def sliceDiff (s : State) (p : Phys) : Int := ((s.sl p).time.epoch + (s.base p : Int) - s.fine) / 100000

/-- DISCIPLINE_MESSAGE (R477): the first one aligns the slice; later ones steer it by its difference from house time. `gain` is what
its oscillator has gained on the reference since the last one [ns]. -/
def discipline (s0 : State) (p : Phys) (gain : Int) : State :=
  let s := driftBase s0 p gain
  let t := (s.sl p).time
  let diff := sliceDiff s p
  if !s.time.aligned then s
  else if !t.aligned then
    takeMissed (s.onSl p (fun x => { x with time := { x.time with aligned := true, epoch := s.fine - (x.time.base : Int) } })) p
  else
    let r := s.freshNat
    let s1 := r.2.wi p F.ZX_ERR_ERR (satSigned 32 diff)
    let near := decide (-50 ≤ diff) && decide (diff ≤ 50)
    let far := decide (diff < -1000) || decide (1000 < diff)
    let run := if near then t.run + 1 else 0
    let lock := !far && (t.lock || decide (16 ≤ run))
    let s2 := s1.onSl p (fun x => { x with time := { x.time with
      rate := clampInt (-150000) 150000 (signedOf 32 r.1), run := run, lock := lock } })
    let s3 := s2.evtIf (t.lock != lock) p 0xD EVT.ZX_LOCK
    let s4 := if t.lock && !lock then s3.bump p F.ZX_CNT_UNLOCKS else s3
    if far then (s4.err p 0xD p.val 0x440B).pbump F.PCH_TS_CNT_DISC else s4

/-! ### The commands -/

/-- 0x0401 (R376). -/
def execSetHouseTime (x : Exec) (elapsed : Nat) (s : State) : Host.Outcome State Fault Refusal :=
  go (if s.porchNext x then setHouseTime s x elapsed else s)
/-- 0x0402 (R376). -/
def execAdjustHouseTime (x : Exec) (s : State) : Host.Outcome State Fault Refusal :=
  go (if s.porchNext x then adjustTime s x else s)
/-- 0x0403 (R376). -/
def execHourShift (x : Exec) (s : State) : Host.Outcome State Fault Refusal :=
  go (if s.porchNext x then shiftHour s x else s)
/-- 0x0404 (R376). -/
def execTimeSource (x : Exec) (s : State) : Host.Outcome State Fault Refusal :=
  go (if s.porchNext x then setSourceCmd s x else s)
/-- 0x0405 (R376). -/
def execRateTrim (x : Exec) (s : State) : Host.Outcome State Fault Refusal :=
  go (if s.porchNext x then setTrim s x else s)
/-- OSCILLATOR_STOP (R457). -/
def execOscillatorStop (s : State) : Host.Outcome State Fault Refusal := go (oscStopped s)
/-- TRIM_WINDOW (R458). -/
def execTrimWindow (s : State) : Host.Outcome State Fault Refusal := go (trimWindow s)
/-- RAIL_LOCKOUT (R461). -/
def execRailLockout (s : State) : Host.Outcome State Fault Refusal := go (lockOut s)
/-- RAIL_SWITCHOVER (R461). -/
def execRailSwitchover (s : State) : Host.Outcome State Fault Refusal := go (switchOver s)
/-- RAIL_RECOVER (R461): the rail rises above 3.1 V and the 5 ms timer starts. -/
def execRailRecover (s : State) : Host.Outcome State Fault Refusal := go (s.onCl (fun c => { c with below31 := false }))
/-- RAIL_RECONNECT (R461). -/
def execRailReconnect (s : State) : Host.Outcome State Fault Refusal := go (railBack s)
/-- CELL_MEASURE (R464): taken every 60 s while the porch runs. -/
def execCellMeasure (mv : Nat) (s : State) : Host.Outcome State Fault Refusal :=
  go (if s.porchRuns then
    let s1 := s.onCl (fun c => { c with cellMv := min mv 4095 })
    if mv < 2500 then s1.errP 0x42 mv 0x4409 else s1
  else s)
/-- RETENTION_RECOVERY (R465). -/
def execRetentionRecovery (s : State) : Host.Outcome State Fault Refusal := go (retentionLost s)
/-- CALENDAR_TICK (R467). -/
def execCalendarTick (s : State) : Host.Outcome State Fault Refusal := go (calendarTick s)
/-- STEP_EDGE (R474). -/
def execStepEdge (s : State) : Host.Outcome State Fault Refusal := go (stepEdge s)
/-- CALENDAR_REWRITE (R475). -/
def execCalendarRewrite (s : State) : Host.Outcome State Fault Refusal :=
  go (if s.porchRuns then rewriteCalendar s else s)
/-- DISCIPLINE_MESSAGE (R477): sent to each running slice. -/
def execDisciplineMessage (p : Phys) (gain : Int) (s : State) : Host.Outcome State Fault Refusal :=
  onRunning s p (fun s => if s.porchRuns then discipline s p gain else s)
/-- SLEW_COMPLETE (R473): the offset is removed. -/
def execSlewComplete (s : State) : Host.Outcome State Fault Refusal :=
  go (if s.time.slew = 0 then s else setSlew (s.putFine (s.fine + s.time.slew)) 0)

end Sys2Proof.Machine
end

