-- ==== Sys2Proof/Machine/Ports.lean ====
section
/-! DEFINITION. The building-bus ports: states and error counts, queues, retries, ALONE, host slot and FIFO, outdoor
temperature and the time protocol (chapter 13). -/
namespace Sys2Proof.Machine

/-- The number of a port: 0 A, 1 B. -/
def Port.index : Sys2Proof.Port → Fin 2
  | .a => 0
  | .b => 1

/-- The port of a number. -/
def portOf (i : Fin 2) : Sys2Proof.Port := if i = 0 then .a else .b

/-- The page of a port (R413). -/
def portPage (i : Fin 2) : Nat := 0xD + i.val

/-- The state of a port. -/
def State.port (s : State) (i : Fin 2) : PortSt := s.ports[i]

/-- A port changed. -/
def State.onPort (s : State) (i : Fin 2) (f : PortSt → PortSt) : State :=
  { s with ports := s.ports.set i.val (f s.ports[i]) i.isLt }

/-- An event of a port page. -/
def State.evtB (s : State) (i : Fin 2) (bit : Nat) : State := s.evtP (portPage i) bit

/-- NODE of a port (R416). -/
def nodeOf (s : State) (i : Fin 2) : Nat := s.pg F.FB_CFG_NODE i.val

/-- Whether a port sends and acknowledges (R430). -/
def portActive (s : State) (i : Fin 2) : Bool :=
  s.porchRuns && ((s.port i).state == 2 || (s.port i).state == 3)

/-! ### Node states (R429, R430, R434) -/

/-- ALONE entered or left, with EVT.ALONE. -/
def setAlone (s : State) (i : Fin 2) (b : Bool) : State :=
  let s1 := s.onPort i (fun x => { x with alone := b })
  if (s.port i).alone = b then s1 else s1.evtB i EVT.FB_ALONE

/-- A port brought to a state, with EVT.STATE and the errors of R430. -/
def setPortState (s : State) (i : Fin 2) (st : Nat) : State :=
  let was := (s.port i).state
  let s1 := s.onPort i (fun x => { x with state := st })
  if was = st then s1
  else
    let s2 := s1.evtB i EVT.FB_STATE
    if st = 4 then ((setAlone s2 i false).pbump F.FB_CNT_1_BUSOFF 1 i.val).errP (portPage i) 0 0x8202
    else if st = 3 then s2.errP (portPage i) 0 0x4201
    else s2

/-- The state of an active port judged from its error counts. -/
def judgePort (s : State) (i : Fin 2) : State :=
  let x := s.port i
  if x.state = 2 ∨ x.state = 3 then
    if 255 < x.tec then setPortState s i 4
    else if 128 ≤ x.tec ∨ 128 ≤ x.rec_ then setPortState s i 3
    else setPortState s i 2
  else s

/-- Error counts changed, TEC kept to 256 and REC to 255, and the state judged. -/
def setCounts (s : State) (i : Fin 2) (tec rec_ : Nat) : State :=
  judgePort (s.onPort i (fun x => { x with tec := min tec 256, rec_ := min rec_ 255 })) i

/-- ALONE ends (R434): E-120A; a queued PROBE is cancelled. -/
def endAlone (s : State) (i : Fin 2) : State :=
  if (s.port i).alone then
    ((setAlone s i false).onPort i (fun x => { x with probe := none })).errP (portPage i) 0 0x120A
  else s

/-- DOMTO, with EVT.DOMTO. -/
def setDomto (s : State) (i : Fin 2) (b : Bool) : State :=
  let s1 := s.onPort i (fun x => { x with domto := b })
  if (s.port i).domto = b then s1 else s1.evtB i EVT.FB_DOMTO

/-! ### The wire (R426, R428) -/

/-- One bit at the arbitration rate of a port [ns] (R424). -/
def bitNs (s : State) (i : Fin 2) : Nat := 8000 / 2 ^ s.pg F.FB_CFG_RATE i.val

/-- The recessive bits that a port waits for before its next own frame; after a frame of its own an ERROR_PASSIVE port waits
eight more (R426, R428). -/
def holdOff (s : State) (i : Fin 2) (own : Bool) (bits : Nat) : State :=
  s.onPort i (fun x => { x with wait := (bits + (if own && x.state == 3 then 8 else 0)) * bitNs s i })

/-- An error flag, then its six bits, the error delimiter and the intermission (R428). -/
def sendFlag (s : State) (i : Fin 2) (own : Bool) : State :=
  holdOff (s.emit (.errorFlag (portOf i) ((s.port i).state == 2))) i own 17

/-! ### Queues (R432) -/

/-- A frame of the module: SRC is NODE, FAST as the port's data rate allows (R421, R422). -/
def ownFrame (s : State) (i : Fin 2) (pri kind dst : Nat) (data : List Byte) : BusFrame :=
  { pri := BitVec.ofNat 4 pri, kind := BitVec.ofNat 8 kind, src := BitVec.ofNat 8 (nodeOf s i),
    dst := BitVec.ofNat 8 dst, fast := s.pg F.FB_CFG_DRATE i.val != 0, data := data }

/-- A frame put into the transmit queue, or discarded with E-420B when it is full (R432). -/
def queueFrame (s : State) (i : Fin 2) (f : BusFrame) : State :=
  if (s.port i).txq.length < Config.busQueue then s.onPort i (fun x => { x with txq := x.txq ++ [{ f := f }] })
  else (s.pbump F.FB_CNT_1_DROPPED 1 i.val).errP (portPage i) f.kind.toNat 0x420B

/-- A time frame in its own place: one per kind and addressee. -/
def queueTime (s : State) (i : Fin 2) (f : BusFrame) : State :=
  s.onPort i (fun x => { x with
    timeTx := x.timeTx.filter (fun t => !(t.f.kind == f.kind && t.f.dst == f.dst)) ++ [{ f := f }] })

/-- An answer over a port to a node (R438). -/
def busAnswer (s : State) (i : Fin 2) (node : Nat) (late : Bool) (bytes : List Byte) : State :=
  queueFrame s i (ownFrame s i 4 (if late then 3 else 2) node bytes)

/-- Where a pending frame stands. -/
inductive TxPlace where
  | queue (n : Nat) | host | time (n : Nat) | probe
  deriving DecidableEq, Repr

/-- The frames a port may offer (R432, R434): while ALONE only the PROBE. -/
def offered (x : PortSt) : List (TxPlace × TxFrame) :=
  let p := x.probe.toList.map (fun t => (TxPlace.probe, t))
  if x.alone then p
  else x.txq.zipIdx.map (fun c => (TxPlace.queue c.2, c.1)) ++ x.host.toList.map (fun t => (TxPlace.host, t))
    ++ x.timeTx.zipIdx.map (fun c => (TxPlace.time c.2, c.1)) ++ p

/-- The frame of the present attempt: one a cancel has caught after its decision instant, else the pending frame with the
lowest identifier, the earlier one of equals (R432, R435). -/
def currentTx (x : PortSt) : Option (TxPlace × TxFrame) :=
  let l := offered x
  match l.find? (fun c => c.2.cancel) with
  | some c => some c
  | none => l.foldl (fun (b : Option (TxPlace × TxFrame)) c =>
      match b with
      | some d => if frameId c.2.f < frameId d.2.f then some c else some d
      | none => some c) none

/-- A list with item `n` replaced, or removed with none. -/
def listPut {α : Type} (l : List α) (n : Nat) (a : Option α) : List α :=
  match a with
  | some b => l.set n b
  | none => l.eraseIdx n

/-- A pending frame replaced, or removed with none. -/
def putTx (s : State) (i : Fin 2) (pl : TxPlace) (t : Option TxFrame) : State :=
  s.onPort i (fun x => match pl with
    | .queue n => { x with txq := listPut x.txq n t }
    | .host => { x with host := t }
    | .time n => { x with timeTx := listPut x.timeTx n t }
    | .probe => { x with probe := t })

/-- RESULT of the host slot after its frame ended, with EVT.TX. -/
def hostResult (s : State) (i : Fin 2) (pl : TxPlace) (result : Nat) : State :=
  if pl = .host then
    (s.pw F.FB_TX_STAT_RESULT result i.val).evtB i EVT.FB_TX
  else s

/-! ### The end of an attempt (R426, R429, R433 to R435) -/

/-- A house time in 1/80 µs as the eight bytes of µs and the two of FRAC (R440). -/
def stampBytes (sof : Nat) : List Byte := leBytes 8 (sof / 80) ++ leBytes 2 (sof % 80 * 65536 / 80)

/-- ATTEMPTS of the host slot after an attempt of its frame (R453). -/
def noteAttempt (s : State) (i : Fin 2) (pl : TxPlace) (t : TxFrame) : State :=
  if pl = .host then s.pw F.FB_TX_STAT_ATTEMPTS (satTo 8 t.tries) i.val else s

/-- A time frame was sent and acknowledged: a SYNC is followed up, a DELAY_REQ has its t3 (R440, R442). -/
def timeSent (s : State) (i : Fin 2) (f : BusFrame) (sof : Nat) : State :=
  if f.kind = 0x10 then
    queueTime s i (ownFrame s i 1 0x11 0xFF
      (leBytes 2 (leAt f.data 0 2) ++ leBytes 1 (bit1 s.trusted) ++ leBytes 1 0 ++ stampBytes sof ++ leBytes 2 0))
  else if f.kind = 0x12 then
    s.onPort i (fun x => { x with slave := { x.slave with req := some (leAt f.data 0 2, (sof : Rat) / 80) } })
  else s

/-- A frame sent and acknowledged (R429, R434, R435). -/
def txAcked (s : State) (i : Fin 2) (pl : TxPlace) (t : TxFrame) (sof : Nat) : State :=
  let s1 := (s.pw F.FB_FRAMES_TX ((s.pg F.FB_FRAMES_TX i.val + 1) % 65536) i.val).emit
    (.frame (portOf i) (wireFrame t.f))
  let s2 := holdOff (setCounts (putTx s1 i pl none) i ((s.port i).tec - 1) (s.port i).rec_) i true 3
  let s3 := hostResult s2 i pl (if t.cancel then 3 else 2)
  match pl with
  | .probe => endAlone s3 i
  | .time _ => timeSent s3 i t.f sof
  | _ => s3

/-- A frame abandoned after its attempts (R433, R434). -/
def txAbandon (s : State) (i : Fin 2) (pl : TxPlace) (t : TxFrame) : State :=
  let s1 := hostResult (putTx s i pl none) i pl (if t.allAck then 5 else 6)
  if t.allAck then
    let s2 := s1.pbump F.FB_CNT_1_NOACK 1 i.val
    if t.good || (s.port i).alone || !portActive s2 i then s2
    else (setAlone s2 i true).errP (portPage i) 0 0x4203
  else (s1.pbump F.FB_CNT_1_FAILED 1 i.val).errP (portPage i) t.f.kind.toNat 0x4204

/-- The counters of a failed attempt (R429), after its error flag (R428). -/
def txError (s0 : State) (i : Fin 2) (o : TxOutcome) : State :=
  let x := s0.port i
  let s := match o with
    | .acked | .arbLost => s0
    | _ => sendFlag s0 i true
  match o with
  | .ackError => setCounts (s.pbump F.FB_CNT_3_ACK 1 i.val) i (if x.tec < 128 then x.tec + 8 else x.tec) x.rec_
  | .bitError => setCounts (s.pbump F.FB_CNT_2_BIT 1 i.val) i (x.tec + 8) x.rec_
  | .stuffError => setCounts (s.pbump F.FB_CNT_2_STUFF 1 i.val) i (x.tec + 8) x.rec_
  | .formError => setCounts (s.pbump F.FB_CNT_2_FORM 1 i.val) i (x.tec + 8) x.rec_
  | .acked | .arbLost => s

/-- FRAME_TX_END (R433): the present attempt ended; while the port still waits no attempt has begun (R426, R428). -/
def txEnd (s0 : State) (i : Fin 2) (o : TxOutcome) (sof : Nat) : State :=
  if !portActive s0 i || (s0.port i).wait != 0 then s0
  else
    match currentTx (s0.port i) with
    | none => s0
    | some (pl, t0) =>
      let t := { t0 with tries := t0.tries + 1 }
      let s := noteAttempt s0 i pl t
      match o with
      | .acked => txAcked s i pl t sof
      | .arbLost =>
        let s1 := s.pbump F.FB_CNT_3_ARB_LOST 1 i.val
        if t.cancel then hostResult (putTx s1 i pl none) i pl 4 else putTx s1 i pl (some t)
      | e =>
        let u := { t with fails := t.fails + 1, allAck := t.allAck && e == .ackError }
        let s1 := txError s i e
        if t.cancel then hostResult (putTx s1 i pl none) i pl 4
        else if pl = .probe then putTx s1 i pl none
        else if 1 + s.pg F.FB_CFG_RETRY i.val ≤ u.fails then txAbandon s1 i pl u
        else putTx s1 i pl (some u)

/-! ### Receiving (R420 to R423, R427, R429) -/

/-- An error a receiver detects (R429), after its error flag (R428). -/
def rxFail (s : State) (i : Fin 2) (e : RxError) (dom : Bool) : State :=
  if !portActive s i then s
  else
    let x := s.port i
    let s0 := sendFlag s i false
    let s1 := match e with
      | .stuff => s0.pbump F.FB_CNT_2_STUFF 1 i.val
      | .crc => s0.pbump F.FB_CNT_2_CRC 1 i.val
      | .form => s0.pbump F.FB_CNT_2_FORM 1 i.val
    setCounts s1 i x.tec (x.rec_ + 1 + (if dom && x.state == 2 then 8 else 0))

/-- A pending frame after a good frame was received: it counts for those already attempted (R434). -/
def TxFrame.heard (t : TxFrame) : TxFrame := if 0 < t.tries then { t with good := true } else t

/-- A frame received good: its ACK slot is driven dominant (R420, R429, R434). -/
def rxGood (s : State) (i : Fin 2) : State :=
  let x := s.port i
  let s1 := (holdOff (s.emit (.ack (portOf i))) i false 3).pw F.FB_FRAMES_RX ((s.pg F.FB_FRAMES_RX i.val + 1) % 65536) i.val
  let s2 := s1.onPort i (fun x => { x with txq := x.txq.map TxFrame.heard, host := x.host.map TxFrame.heard,
                                            timeTx := x.timeTx.map TxFrame.heard })
  endAlone (setCounts s2 i x.tec (if 127 < x.rec_ then 119 else x.rec_ - 1)) i

/-- Whether a frame is for the port's own use (R422). -/
def forUs (s : State) (i : Fin 2) (f : BusFrame) : Bool := f.dst.toNat == nodeOf s i || f.dst == 0xFF

/-- What a port reads from the stuffed part of a frame (R419, R421, R427). -/
def hearing (s : State) (i : Fin 2) (bits : List Bool) : Heard := readFrame (s.pg F.FB_CFG_DRATE i.val != 0) bits

/-- The stuffed part of another node's frame on the wire: an error, or a good frame; `use` is what the port does with one
addressed to it. A good frame of a kind the command is not for is another command's. -/
def heard (s : State) (i : Fin 2) (k : BitVec 8 → Bool) (bits : List Bool) (use : BusFrame → State → State) : State :=
  if !portActive s i then s
  else match hearing s i bits with
    | .bad e => rxFail s i e false
    | .good f =>
      if !k f.kind then s
      else if forUs s i f then use f (rxGood s i) else rxGood s i

/-- A frame of a kind for the module's own use; one addressed to it ends DOZE (R485). -/
def receive (s : State) (i : Fin 2) (k : BitVec 8 → Bool) (bits : List Bool) (use : BusFrame → State → State) : State :=
  heard s i k bits (fun f s => use f (endDoze s))

/-! ### Outdoor temperature (R439) -/

/-- Whether T_o differs from that of the latest plan by TO_DT or more, or the plan had none (R275). -/
def outdoorMoved (s : State) (p : Phys) (t : Nat) : Bool :=
  let c := s.sc p
  let last := match c.making with
    | some pl => some pl
    | none => match c.planNext with | some pl => some pl | none => c.plan
  match last, tempOf t with
  | some pl, some v =>
    (match pl.toAt with
      | some u => decide (s.g p F.ZP_CFG_3_TO_DT * 10 ≤ (v - u).natAbs)
      | none => true)
  | _, _ => false

/-- T_o of every running zone set and its age restarted (R439, R240), with the plan it triggers (R275). -/
def setOutdoor (s : State) (t : Nat) : State :=
  eachSlice s (fun s p =>
    if (s.sl p).running then
      let s1 := (((s.w p F.ZL_OUTDOOR_T_O t).w p F.ZL_OUTDOOR_AGE 0).onLp p (fun l => { l with
        oldSec := 0, stale := false })).wb p F.ZP_STAT_OUTDOOR_STALE false
      if outdoorMoved s p t then planTrigger s1 p else s1
    else s)

/-- What an OUTDOOR frame does. -/
def takeOutdoor (f : BusFrame) (s : State) : State :=
  let t := leAt f.data 0 2
  if f.data.length = 4 ∧ bitOf (leAt f.data 2 1) 0 ∧ t ≠ 0x8000 then setOutdoor s t else s

/-! ### The host slot and FIFO (R454, R455) -/

/-- The words of a port's data registers: instance k of port `i`. -/
def fbData (i : Fin 2) (k : Nat) : Nat := i.val * 1024 + k

/-- The bytes of the host slot. -/
def slotBytes (s : State) (i : Fin 2) (len : Nat) : List Byte :=
  (((List.range 8).map (fun k => leBytes 4 (s.pg F.FB_TX_DATA_k_DATA (fbData i k)))).flatten).take len

/-- TX_SEND (R454). -/
def sendSlot (s : State) (i : Fin 2) : State :=
  let x := s.port i
  if x.host.isSome then s
  else
    let len := s.pg F.FB_TX_LEN_LEN i.val
    let kind := s.pg F.FB_TX_ID_KIND i.val
    let s1 := s.pw F.FB_TX_STAT_ATTEMPTS 0 i.val
    if kind < 0x80 ∨ 32 < len ∨ x.state = 0 ∨ x.state = 1 ∨ x.state = 4 then s1.pw F.FB_TX_STAT_RESULT 7 i.val
    else
      let f := ownFrame s i (s.pg F.FB_TX_ID_PRI i.val) kind (s.pg F.FB_TX_ID_DST i.val) (slotBytes s i len)
      (s1.pw F.FB_TX_STAT_RESULT 1 i.val).onPort i (fun x => { x with host := some { f := f } })

/-- Whether an attempt of the host slot's frame may be under way: the port is active and waits for nothing, and it offers this frame
before every other (R426, R428, R432). -/
def hostOffered (s : State) (i : Fin 2) : Bool :=
  portActive s i && (s.port i).wait == 0 && (currentTx (s.port i)).any (fun c => c.1 == .host)

/-- TX_CANCEL (R435): before the decision instant the frame is removed; later it is caught at the attempt's end. -/
def cancelSlot (s : State) (i : Fin 2) (started : Bool) : State :=
  match (s.port i).host with
  | none => s
  | some t =>
    if started && hostOffered s i then s.onPort i (fun x => { x with host := some { t with cancel := true } })
    else hostResult (putTx s i .host none) i .host 4

/-- A frame for the host FIFO (R455). -/
def takeHostFrame (i : Fin 2) (f : BusFrame) (sof : Nat) (s : State) : State :=
  if (s.port i).rx.length < Config.busQueue then
    (s.onPort i (fun x => { x with rx := x.rx ++ [(f, sof / 80)] })).evtB i EVT.FB_RX
  else (s.pbump F.FB_CNT_1_DROPPED 1 i.val).errP (portPage i) 0 0x4205

/-- FB_RX_HDR of a frame. -/
def rxHdrWord (f : BusFrame) : Word :=
  BitVec.ofNat 32 (2 ^ 31 + bit1 f.fast * 2 ^ 30 + f.data.length % 64 * 2 ^ 24 + f.kind.toNat * 2 ^ 16 + f.src.toNat * 2 ^ 8
    + f.dst.toNat)

/-- A read of FB_RX_HDR (R455): the oldest frame removed, its companions latched. -/
def readRxHdr (s : State) (i : Fin 2) : Word × State :=
  let put := fun (s : State) (info lo hi : Nat) (data : List Byte) => s.latchPW (
    [(R.FB_RX_INFO.at i.val, BitVec.ofNat 32 info), (R.FB_RX_TS_LO.at i.val, BitVec.ofNat 32 lo),
     (R.FB_RX_TS_HI.at i.val, BitVec.ofNat 32 hi)]
    ++ (List.range 8).map (fun k => (R.FB_RX_DATA_k.at (fbData i k), wordAt data (4 * k))))
  match (s.port i).rx with
  | [] => (0, put s 0 0 0 [])
  | (f, ts) :: l =>
    (rxHdrWord f, put (s.onPort i (fun x => { x with rx := l })) (f.pri.toNat * 2 ^ 28 + l.length * 2 ^ 16)
      (ts % 2 ^ 32) (ts / 2 ^ 32) f.data)

/-! ### Transfers (R436, R437) -/

/-- A transfer discarded with E-4206. -/
def dropXfer (s : State) (i : Fin 2) (node : BitVec 8) : State :=
  ((s.onPort i (fun x => { x with xfers := x.xfers.filter (fun t => t.node != node) })).pbump F.FB_CNT_3_XFER_ABANDONED 1
    i.val).errP (portPage i) node.toNat 0x4206

/-- A transfer opened or continued by a segment's bytes: complete with LAST, else kept as the newest. -/
def keepXfer (s : State) (i : Fin 2) (t : Xfer) (last : Bool) : State × Option (List Byte) :=
  let s1 := s.onPort i (fun x => { x with xfers := x.xfers.filter (fun u => u.node != t.node) })
  if last then (s1, some t.data)
  else (s1.onPort i (fun x => { x with xfers := x.xfers.drop (x.xfers.length - 7) ++ [t] }), none)

/-- A COMMAND segment (R436, R437): the complete envelope with LAST. -/
def takeSegment (s : State) (i : Fin 2) (f : BusFrame) : State × Option (List Byte) :=
  if f.data.length < 3 then (s, none)
  else
    let xfer := BitVec.ofNat 8 (leAt f.data 0 1)
    let seg := leAt f.data 1 1
    let last := bitOf seg 7
    let index := seg % 64
    let bytes := f.data.drop 2
    match (s.port i).xfers.find? (fun t => t.node == f.src) with
    | some t =>
      if index = 0 then keepXfer (dropXfer s i f.src) i { node := f.src, xfer := xfer, next := 1, data := bytes } last
      else if t.xfer = xfer ∧ index = t.next then
        keepXfer s i { t with next := t.next + 1, data := t.data ++ bytes } last
      else (dropXfer s i f.src, none)
    | none =>
      if index = 0 then keepXfer s i { node := f.src, xfer := xfer, next := 1, data := bytes } last else (s, none)

/-! ### The time protocol (R440 to R444) -/

/-- Whether a port is a master port (R472). -/
def isMaster (s : State) (i : Fin 2) : Bool := bitOf (s.pg F.PCH_TS_STAT_MASTER) i.val

/-- Whether a port sends SYNC now (R434, R440, R444). -/
def sendsSync (s : State) (i : Fin 2) : Bool :=
  isMaster s i && portActive s i && !(s.port i).alone && (s.port i).yield.isNone

/-- The window of a master (R441, R444): the longer of 4 s and three observed SYNC intervals. -/
def Master.window (m : Master) : Nat := max 4000000 (3 * m.gap)

/-- A SYNC noted for its sender. -/
def noteMaster (s : State) (i : Fin 2) (node : Nat) : State :=
  s.onPort i (fun x => { x with slave := { x.slave with
    masters := match x.slave.masters.find? (fun m => m.node == node) with
      | some m => x.slave.masters.map (fun n => if n.node = node then { n with last := s.now, gap := s.now - m.last } else n)
      | none => x.slave.masters ++ [{ node := node, last := s.now }] } })

/-- The master followed (R441): the lowest node whose latest SYNC arrived within its window. -/
def chooseMaster (s : State) (i : Fin 2) : Option Nat :=
  (s.port i).slave.masters.foldl (fun (b : Option Nat) m =>
    if s.now ≤ m.last + m.window then
      match b with
      | some n => some (min n m.node)
      | none => some m.node
    else b) none

/-- The slave of a port changed. -/
def State.onSlave (s : State) (i : Fin 2) (f : TimeSlave → TimeSlave) : State :=
  s.onPort i (fun x => { x with slave := f x.slave })

/-- A SYNC heard by a master port (R444). -/
def rivalSync (s : State) (i : Fin 2) (node : Nat) : State :=
  if isMaster s i then
    let s1 := (s.evtB i EVT.FB_MASTER).errP (portPage i) node 0x4208
    if node < nodeOf s i then s1.onPort i (fun x => { x with yield := some node }) else s1
  else s

/-- A SYNC at the source port (R441, R442). -/
def slaveSync (s : State) (i : Fin 2) (node seq : Nat) (t2 : Rat) : State :=
  if s.srcPort = some i then
    match chooseMaster s i with
    | some m =>
      let s1 := s.pw F.FB_TSYNC_STAT_MASTER m i.val
      if m = node then
        s1.onSlave i (fun x => { x with
          sync := some (seq, t2), count := (x.count + 1) % 16, reqDue := x.reqDue || x.count == 15 })
      else s1
    | none => s
  else s

/-- What a SYNC does. -/
def takeSync (i : Fin 2) (f : BusFrame) (sof : Nat) (s : State) : State :=
  if f.data.length = 2 then
    slaveSync (rivalSync (noteMaster s i f.src.toNat) i f.src.toNat) i f.src.toNat (leAt f.data 0 2) ((sof : Rat) / 80)
  else s

/-- The values of a list in rising order. -/
def sortRat (l : List Rat) : List Rat :=
  l.foldl (fun (o : List Rat) x => o.filter (fun y => decide (y ≤ x)) ++ [x] ++ o.filter (fun y => decide (x < y))) []

/-- The median; of an even number of values the mean of the middle two. -/
def medianRat (l : List Rat) : Rat :=
  let o := sortRat l
  let n := o.length
  if n = 0 then 0
  else if n % 2 = 1 then o.getD (n / 2) 0 else (o.getD (n / 2 - 1) 0 + o.getD (n / 2) 0) / 2

/-- A time of a FOLLOW_UP or DELAY_RESP [µs]: bytes 4 … 11 and FRAC. -/
def stampOf (f : BusFrame) : Rat := (leAt f.data 4 8 : Rat) + (leAt f.data 12 2 : Rat) / 65536

/-- A complete pair (R441, R443): θ, LOCK, and θ to the time service. -/
def syncPair (s : State) (i : Fin 2) (seq node : Nat) (t1 t2 : Rat) (trusted : Bool) : State :=
  let d := medianRat (s.port i).slave.delays
  let th := t2 - t1 - d
  let run := if -1 ≤ th ∧ th ≤ 1 then (s.port i).slave.run + 1 else 0
  let was := s.pb F.FB_TSYNC_STAT_LOCK i.val
  let lock := was || (s.pb F.FB_TSYNC_STAT_DVALID i.val && decide (8 ≤ run))
  let s1 := s.onSlave i (fun x => { x with sync := none, pair := some (seq, t1, t2), run := run })
  let s2 := (s1.pw F.FB_TSYNC_STAT_SEQ seq i.val).pwb F.FB_TSYNC_STAT_TRUSTED trusted i.val
  let s3 := (s2.pwi F.FB_TOFS_OFS (satSigned 32 (Config.toUnits (th * 1000))) i.val).pwb F.FB_TSYNC_STAT_LOCK lock i.val
  let s4 := if was = lock then s3 else
    let s5 := s3.evtB i EVT.FB_LOCK
    if trusted then setTrust s5 true 0 else s5
  takeTheta s4 i (Config.toUnits (th * 100000000)) trusted node

/-- What a FOLLOW_UP does: it completes the pair of equal SEQ from the master followed (R441). -/
def takeFollowUp (i : Fin 2) (f : BusFrame) (s : State) : State :=
  if s.srcPort = some i ∧ f.data.length = 16 ∧ s.pg F.FB_TSYNC_STAT_MASTER i.val = f.src.toNat then
    match (s.port i).slave.sync with
    | some (seq, t2) =>
      if seq = leAt f.data 0 2 then
        syncPair s i seq f.src.toNat (stampOf f) t2 (bitOf (leAt f.data 2 1) 0)
      else s
    | none => s
  else s

/-- What a DELAY_REQ does at a master port (R440). -/
def takeDelayReq (i : Fin 2) (f : BusFrame) (sof : Nat) (s : State) : State :=
  if isMaster s i ∧ f.data.length = 4 ∧ f.dst.toNat = nodeOf s i then
    queueTime s i (ownFrame s i 2 0x13 f.src.toNat
      (leBytes 2 (leAt f.data 0 2) ++ leBytes 1 f.src.toNat ++ leBytes 1 0 ++ stampBytes sof ++ leBytes 2 0))
  else s

/-- A delay measurement (R442): kept within 0 … 5 µs; d is the median of the last five. -/
def takeDelay (s : State) (i : Fin 2) (d : Rat) : State :=
  if 0 ≤ d ∧ d ≤ 5 then
    let l := keepLast 5 ((s.port i).slave.delays ++ [d])
    ((s.onSlave i (fun x => { x with delays := l })).pwb F.FB_TSYNC_STAT_DVALID true i.val).pw F.FB_TDLY_DLY
      (satTo 16 (Config.toUnits (medianRat l * 1000)).toNat) i.val
  else s

/-- What a DELAY_RESP does at the source port (R442). -/
def takeDelayResp (i : Fin 2) (f : BusFrame) (s : State) : State :=
  if s.srcPort = some i ∧ f.data.length = 16 ∧ leAt f.data 2 1 = nodeOf s i
      ∧ s.pg F.FB_TSYNC_STAT_MASTER i.val = f.src.toNat then
    match (s.port i).slave.req, (s.port i).slave.pair with
    | some (seq, t3), some (_, t1, t2) =>
      if seq = leAt f.data 0 2 then
        takeDelay (s.onSlave i (fun x => { x with req := none })) i (((t2 - t1) + (stampOf f - t3)) / 2)
      else s
    | _, _ => s
  else s

/-- SYNC_LOST (R444, R472). -/
def loseSync (s : State) (i : Fin 2) : State :=
  if s.srcPort = some i then
    let was := s.pb F.FB_TSYNC_STAT_LOCK i.val
    let s1 := ((s.pwb F.FB_TSYNC_STAT_LOCK false i.val).pw F.FB_TSYNC_STAT_MASTER 0xFF i.val).onSlave i (fun x => { x with
      sync := none, run := 0 })
    let s2 := (if was then s1.evtB i EVT.FB_LOCK else s1).errP (portPage i) 0 0x4209
    if was then beginHold s2 i else s2
  else s

/-! ### Configuration (R414, R381) -/

/-- A frame of the host slot as a port with a new configuration sends it (R421, R422). -/
def readdress (s : State) (i : Fin 2) (t : TxFrame) : TxFrame :=
  { t with f := ownFrame s i t.f.pri.toNat t.f.kind.toNat t.f.dst.toNat t.f.data }

/-- A port's configuration takes effect (R414, R415). -/
def reconfigure (s : State) (i : Fin 2) (w : Word) : State :=
  let x := s.port i
  let s1 := (s.pwWord R.FB_CFG w i.val).pbump F.FB_CNT_1_DROPPED (x.txq.length + x.rx.length) i.val
  let s2 := setDomto (setAlone (s1.onPort i (fun x => { x with
    txq := [], rx := [], timeTx := [], probe := none, host := x.host.map (readdress s1 i), tec := 0, rec_ := 0,
    cfgNext := none })) i false) i false
  setPortState s2 i (if fieldOf w 31 31 = 1 then 1 else 0)

/-- The FB_CFG word that a 0x0704 payload gives: byte 1 NODE, 2 RATE, 3 DRATE, 4 RETRY, 5 EN. -/
def portWord (en rate drate node retry : Nat) : Word :=
  BitVec.ofNat 32 (en % 2 * 2 ^ 31 + rate % 4 * 2 ^ 29 + drate % 4 * 2 ^ 27 + node % 256 * 2 ^ 16 + retry % 256 * 2 ^ 8)

/-- Whether the answer of a configuration command still waits in the queue. -/
def answerWaits (x : PortSt) (head : List Byte) : Bool := x.txq.any (fun t => t.f.kind == 3 && t.f.data.take 6 == head)

/-- BUS_PORT_RECONFIGURE (R381): the DONE answer has left the port that carried the command. -/
def applyWaiting (s : State) (i : Fin 2) : State :=
  match (s.port i).cfgNext with
  | some (w, n, head) => if (s.runningOf n).isNone && !answerWaits (s.port i) head then reconfigure s i w else s
  | none => s

/-- A port that begins anew on its bus: INTEGRATING, or OFF; it is no longer ALONE (R430, R446). -/
def integrateAgain (s : State) (i : Fin 2) : State :=
  setPortState (setDomto (setAlone (s.onPort i (fun x => { x with probe := none, wait := 0 })) i false) i false) i
    (bit1 (s.pb F.FB_CFG_EN i.val))

/-- Both ports after a wake (R446): what they hold was kept. -/
def wakePorts (s : State) : State := (List.finRange 2).foldl integrateAgain s

/-- Both ports after a porch restart (R430): INTEGRATING, or OFF; nothing queued. -/
def restartPorts (s : State) : State :=
  (List.finRange 2).foldl (fun (s : State) (i : Fin 2) =>
    { s with ports := s.ports.set i.val { ({} : PortSt) with state := bit1 (s.pb F.FB_CFG_EN i.val) } i.isLt }) s

/-! ### The commands -/

/-- FRAME_TX_END (R433). -/
def execFrameTxEnd (port : Sys2Proof.Port) (o : TxOutcome) (sof : Nat) (s : State) : Host.Outcome State Fault Refusal :=
  go (txEnd s (Port.index port) o sof)
/-- PROBE_SEND (R434): one PROBE a second while ALONE. -/
def execProbeSend (port : Sys2Proof.Port) (s : State) : Host.Outcome State Fault Refusal :=
  let i := Port.index port
  go (if (s.port i).alone && portActive s i then
    s.onPort i (fun x => { x with probe := some { f := ownFrame s i 0xF 0x30 0xFF [] } })
  else s)
/-- INTEGRATION_COMPLETE (R430): 11 recessive bits. -/
def execIntegrationComplete (port : Sys2Proof.Port) (s : State) : Host.Outcome State Fault Refusal :=
  let i := Port.index port
  go (if s.porchRuns && (s.port i).state == 1 then judgePort (setPortState (setDomto s i false) i 2) i else s)
/-- BUS_OFF_RECOVERY (R430): 128 sequences of 11 recessive bits. -/
def execBusOffRecovery (port : Sys2Proof.Port) (s : State) : Host.Outcome State Fault Refusal :=
  let i := Port.index port
  go (if s.porchRuns && (s.port i).state == 4 then
    setPortState ((setDomto s i false).onPort i (fun x => { x with tec := 0, rec_ := 0 })) i 2
  else s)
/-- DOMINANT_TIMEOUT (R431): driven by the port, or seen on the bus. -/
def execDominantTimeout (port : Sys2Proof.Port) (own : Bool) (s : State) : Host.Outcome State Fault Refusal :=
  let i := Port.index port
  go (if own then
    if portActive s i then
      setPortState ((setDomto (s.onPort i (fun x => { x with tec := 256 })) i true).errP (portPage i) 0 0x8207) i 4
    else s
  else if s.porchRuns && (s.port i).state != 0 then
    let s1 := (setDomto s i true).errP (portPage i) 1 0x8207
    if (s.port i).state = 4 then s1 else setAlone (setPortState s1 i 1) i false
  else s)
/-- HOST_FRAME (R455). -/
def execHostFrame (port : Sys2Proof.Port) (bits : List Bool) (sof : Nat) (s : State) : Host.Outcome State Fault Refusal :=
  let i := Port.index port
  go (receive s i (fun k => decide (0x80 ≤ k.toNat)) bits (fun f => takeHostFrame i f sof))
/-- The knock (R447): ignored but in ERROR_ACTIVE and ERROR_PASSIVE. -/
def sendKnock (s : State) (port : Sys2Proof.Port) : State :=
  if portActive s (Port.index port) then s.emit (.knock port) else s
/-- OUTDOOR (R439). -/
def execOutdoor (port : Sys2Proof.Port) (bits : List Bool) (s : State) : Host.Outcome State Fault Refusal :=
  go (receive s (Port.index port) (fun k => k == 0x20) bits takeOutdoor)
/-- SYNC_SEND (R440): at a multiple of PERIOD. -/
def execSyncSend (port : Sys2Proof.Port) (s : State) : Host.Outcome State Fault Refusal :=
  let i := Port.index port
  go (if sendsSync s i then
    let n := ((s.port i).seq + 1) % 65536
    queueTime (s.onPort i (fun x => { x with seq := n })) i (ownFrame s i 1 0x10 0xFF (leBytes 2 n))
  else s)
/-- SYNC (R441, R444). -/
def execSync (port : Sys2Proof.Port) (bits : List Bool) (sof : Nat) (s : State) : Host.Outcome State Fault Refusal :=
  let i := Port.index port
  go (receive s i (fun k => k == 0x10) bits (fun f => takeSync i f sof))
/-- FOLLOW_UP (R441, R443). -/
def execFollowUp (port : Sys2Proof.Port) (bits : List Bool) (s : State) : Host.Outcome State Fault Refusal :=
  let i := Port.index port
  go (receive s i (fun k => k == 0x11) bits (takeFollowUp i))
/-- FOLLOW_UP_TIMEOUT (R441): the SYNC is discarded. -/
def execFollowUpTimeout (port : Sys2Proof.Port) (s : State) : Host.Outcome State Fault Refusal :=
  go (s.onSlave (Port.index port) (fun x => { x with sync := none }))
/-- DELAY_REQ_SEND (R442). -/
def execDelayReqSend (port : Sys2Proof.Port) (s : State) : Host.Outcome State Fault Refusal :=
  let i := Port.index port
  let x := (s.port i).slave
  let seq := match x.sync, x.pair with
    | some y, _ => y.1
    | none, some y => y.1
    | none, none => 0
  go (if x.reqDue && s.srcPort == some i && portActive s i then
    queueTime (s.onSlave i (fun x => { x with reqDue := false })) i
      (ownFrame s i 2 0x12 (s.pg F.FB_TSYNC_STAT_MASTER i.val) (leBytes 2 seq ++ leBytes 2 0))
  else s)
/-- DELAY_REQ (R440). -/
def execDelayReq (port : Sys2Proof.Port) (bits : List Bool) (sof : Nat) (s : State) : Host.Outcome State Fault Refusal :=
  let i := Port.index port
  go (receive s i (fun k => k == 0x12) bits (fun f => takeDelayReq i f sof))
/-- DELAY_RESP (R442). -/
def execDelayResp (port : Sys2Proof.Port) (bits : List Bool) (s : State) : Host.Outcome State Fault Refusal :=
  let i := Port.index port
  go (receive s i (fun k => k == 0x13) bits (takeDelayResp i))
/-- SYNC_LOST (R444). -/
def execSyncLost (port : Sys2Proof.Port) (s : State) : Host.Outcome State Fault Refusal :=
  go (if s.porchRuns then loseSync s (Port.index port) else s)
/-- YIELD_END (R444). -/
def execYieldEnd (port : Sys2Proof.Port) (s : State) : Host.Outcome State Fault Refusal :=
  go (s.onPort (Port.index port) (fun x => { x with yield := none }))
/-- BUS_PORT_RECONFIGURE (R381, R414). -/
def execBusPortReconfigure (port : Sys2Proof.Port) (s : State) : Host.Outcome State Fault Refusal :=
  go (applyWaiting s (Port.index port))
/-- FRAME_RECEIVE_ERROR (R427, R429). -/
def execFrameReceiveError (port : Sys2Proof.Port) (e : RxError) (dominantAfterFlag : Bool) (s : State) :
    Host.Outcome State Fault Refusal := go (rxFail s (Port.index port) e dominantAfterFlag)
/-- OTHER_FRAME_RECEIVED (R423): acknowledged, otherwise ignored. -/
def execOtherFrameReceived (port : Sys2Proof.Port) (bits : List Bool) (s : State) : Host.Outcome State Fault Refusal :=
  go (heard s (Port.index port) (fun _ => true) bits (fun _ s => s))
/-- XFER_TIMEOUT (R437): 50 ms between two segments. -/
def execXferTimeout (port : Sys2Proof.Port) (node : BitVec 8) (s : State) : Host.Outcome State Fault Refusal :=
  let i := Port.index port
  go (if (s.port i).xfers.any (fun t => t.node == node) then dropXfer s i node else s)

end Sys2Proof.Machine
end

