-- ==== Sys2Proof/Machine/Link.lean ====
section
/-! DEFINITION. The host link and the SPI fallback below the dispatcher: training, lanes, packets, credits, tags, and the
answers over every path (chapter 12, R327). -/
namespace Sys2Proof.Machine

/-- The host link changed. -/
def State.onLk (s : State) (f : Link → Link) : State := { s with link := f s.link }

/-! ### Lanes and states (R391, R392) -/

/-- Lane pairs not excluded. -/
def Link.healthy (k : Link) : BitVec 4 := ~~~ k.excluded

/-- The lane pairs that take part: offered by both ends and healthy. -/
def Link.usable (k : Link) : BitVec 4 := k.offered &&& k.mask &&& k.healthy

/-- The lanes of the width chosen among those that remain (R391). -/
def lanesFor (m : BitVec 4) : BitVec 4 :=
  if m = 0xF#4 then 0xF#4
  else if m &&& 0x3#4 = 0x3#4 then 0x3#4
  else if m &&& 0xC#4 = 0xC#4 then 0xC#4
  else if m.getLsbD 0 then 1#4 else if m.getLsbD 1 then 2#4 else if m.getLsbD 2 then 4#4 else if m.getLsbD 3 then 8#4
  else 0#4

/-- The link brought to a state with a width, with EVT.STATE and EVT.WIDTH. -/
def setLink (s : State) (st : Nat) (lanes : BitVec 4) : State :=
  let k := s.link
  let s1 := s.onLk (fun k => { k with state := st, active := lanes, width := laneWidth lanes })
  let s2 := if k.state = st then s1 else s1.evtP 0xB EVT.HL_STATE
  if k.width = laneWidth lanes then s2 else s2.evtP 0xB EVT.HL_WIDTH

/-- Training begins from DOWN. -/
def linkDown (s : State) : State := (setLink s 0 0#4).onLk (fun k => { k with locked := 0#4, ts2 := 0#4 })

/-- A retrain begins (R393): tags are kept. -/
def retrainLink (s : State) : State :=
  (linkDown (s.pbump F.HL_CNT_2_RETRAINS)).onLk (fun k => { k with retrain := true })

/-- A lane pair excluded (R392). -/
def excludeLane (s : State) (n : Fin 4) : State :=
  if s.link.excluded.getLsbD n.val then s
  else
    let s1 := s.onLk (fun k => { k with excluded := k.excluded ||| BitVec.ofNat 4 (2 ^ n.val) })
    ((s1.pwb F.HL_LANE_n_EXCL true n.val).evtP 0xB EVT.HL_LANE).errP 0xB n.val 0x8104

/-! ### Packets and credits (R394, R400) -/

/-- The bytes of a packet with the credits it returns. -/
def packetBytes (p : OutPacket) (credits crtot : Nat) : List Byte :=
  let b := leBytes 1 (p.type.toNat * 16) ++ leBytes 1 p.tag.toNat ++ leBytes 2 p.body.length ++ leBytes 2 credits
    ++ leBytes 2 crtot ++ p.body
  b ++ leBytes 4 (crc32 b).toNat

/-- A packet sent, returning the credits owed; while the link is not UP it waits (R393). -/
def sendPacket (s : State) (p : OutPacket) : State :=
  if s.link.state = 4 then
    let c := min s.link.owed 64
    (s.onLk (fun k => { k with owed := k.owed - c })).emit (.packet (onLanes s.link.active (packetBytes p c s.link.crtot)))
  else s.onLk (fun k => { k with wait := k.wait ++ [p] })

/-- The buffer of a received packet freed (R400). -/
def freeBuffer (s : State) : State := s.onLk (fun k => { k with owed := k.owed + 1, crtot := (k.crtot + 1) % 65536 })

/-- UP is reached (R391, R393, R400): the credits of TS2 stand, the waiting packets are sent. -/
def linkUp (s : State) : State :=
  let k := s.link
  let s1 := (setLink s 4 k.active).onLk (fun k => { k with owed := 0, crtot := 0, retrain := false, wait := [] })
  let s2 := if k.retrain then s1.errP 0xB k.width 0x4105 else s1
  k.wait.foldl sendPacket s2

/-- DETECT ends: the width is chosen among the locked lanes (R391). -/
def linkConfig (s : State) : State := setLink s 2 (lanesFor (s.link.usable &&& s.link.locked))

/-- LINK_TRAINING_SET (R391): a lane has received eight valid ordered sets with the host's MASK; `complete` says that the
lanes are aligned and 16 TS2 have been sent. TS1 at an UP link is the host's retrain. -/
def trainingSet (s : State) (set : TrainSet) (lane : Fin 4) (mask : BitVec 4) (complete : Bool) : State :=
  let bit := BitVec.ofNat 4 (2 ^ lane.val)
  if !s.porchRuns || !(s.link.offered &&& s.link.healthy).getLsbD lane.val then s
  else
    let sr := if s.link.state = 4 ∧ set = .ts1 then retrainLink s else s
    let s0 := sr.onLk (fun k => { k with mask := mask, locked := if k.state ≤ 1 then k.locked ||| bit else k.locked })
    let s1 := if s0.link.state = 0 then setLink s0 1 0#4 else s0
    let s2 := if s1.link.state = 1 ∧ s1.link.usable ≠ 0#4 ∧ s1.link.usable &&& s1.link.locked = s1.link.usable then
        linkConfig s1
      else s1
    let s3 := if set = .ts2 then s2.onLk (fun k => { k with ts2 := k.ts2 ||| bit }) else s2
    let s4 := if s3.link.state = 2 ∧ s3.link.active ≠ 0#4 ∧ s3.link.active &&& s3.link.ts2 = s3.link.active then
        setLink s3 3 s3.link.active
      else s3
    if s4.link.state = 3 ∧ complete then linkUp s4 else s4

/-- DETECT_TIMEOUT (R391, R392): 1 ms after the first lock; lanes that failed to lock are faulty. -/
def detectEnd (s : State) : State :=
  if s.link.state = 1 ∧ s.link.locked ≠ 0#4 then
    linkConfig ((List.finRange 4).foldl (fun (s : State) (n : Fin 4) =>
      if s.link.usable.getLsbD n.val && !s.link.locked.getLsbD n.val then excludeLane s n else s) s)
  else s

/-- LANE_SYMBOL_ERROR (R392). -/
def symbolError (s : State) (lane : Fin 4) (consecutive inWindow : Nat) : State :=
  let s1 := s.pbump F.HL_LANE_n_SYM_ERR 1 lane.val
  if s.link.state = 4 ∧ s.link.active.getLsbD lane.val ∧ (8 < inWindow ∨ 3 ≤ consecutive) then
    retrainLink (excludeLane s1 lane)
  else s1

/-- A write of HL_CTRL.RETRAIN (R392, R410). -/
def hostRetrain (s : State) (lanes : BitVec 4) : State :=
  let s1 := (List.finRange 4).foldl (fun (s : State) (n : Fin 4) => s.pwb F.HL_LANE_n_EXCL false n.val) s
  retrainLink (s1.onLk (fun k => { k with excluded := 0#4, offered := if lanes = 0#4 then 0xF#4 else lanes }))

/-! ### Tags (R398, R399) -/

/-- The state of a tag. -/
def State.tag (s : State) (t : BitVec 8) : TagSt := (smFind s.link.tags t.toNat).getD .idle

/-- A tag set; an idle tag is not listed. -/
def State.setTag (s : State) (t : BitVec 8) (x : TagSt) : State :=
  s.onLk (fun k => { k with tags := if x = .idle then smErase k.tags t.toNat else smPut k.tags t.toNat x })

/-- A LINK_ERR packet (R395). -/
def linkError (s : State) (tag : BitVec 8) (code : Nat) : State :=
  sendPacket s { type := 0xE, tag := tag, body := leBytes 1 code ++ leBytes 3 0 }

/-- A response that ends its tag and is kept for it (R398, R399). -/
def respond (s : State) (type tag : BitVec 8) (body : List Byte) : State :=
  let p : OutPacket := { type := type, tag := tag, body := body }
  sendPacket (s.setTag tag (.kept p)) p

/-- A request on the host link (R398, R399): repeated, refused, or handled by `f` as new. -/
def linkRequest (s : State) (tag : BitVec 8) (rtx : Bool) (f : State → State) : State :=
  if !s.porchRuns || s.link.state != 4 then s
  else
    let s0 := freeBuffer (endDoze s)
    match rtx, s0.tag tag with
    | true, .kept p => sendPacket (s0.pbump F.HL_CNT_2_RESENT) p
    | true, .opened => s0
    | false, .opened => ((linkError s0 tag 1).pbump F.HL_CNT_1_TAGBUSY).errP 0xB tag.toNat 0x4103
    | _, _ => f (s0.setTag tag .idle)

/-! ### The SPI fallback (R406 to R408) -/

/-- A response on MISO: 0xA5, then OP, LEN, payload, CRC (R406). -/
def spiRespond (s : State) (op : Nat) (body : List Byte) : State :=
  let b := leBytes 1 op ++ leBytes 2 body.length ++ body
  s.emit (.spi (0xA5#8 :: b ++ leBytes 4 (crc32 b).toNat))

/-- A completion answer queued for FETCH_LATE (R408). -/
def queueLate (s : State) (bytes : List Byte) : State :=
  let full := decide (Config.spiLateQueue ≤ s.spi.late.length)
  let s1 := { s with spi := { late := (if full then s.spi.late.drop 1 else s.spi.late) ++ [bytes] } }
  let s2 := s1.evtP 0xC EVT.SPI_LATE
  if full then ((s2.pbump F.HL_SPI_CNT_LATE_DROP).evtP 0xC EVT.SPI_LATE_OVF).errP 0xC 0 0x4108 else s2

/-! ### Answers over every path (R327, R397, R406, R438) -/

/-- An answer sent over the path of its envelope; `dest` is the tag or the bus node. -/
def sendAnswer (s : State) (path : Path) (dest : Nat) (late : Bool) (bytes : List Byte) : State :=
  match path with
  | .hostLink =>
    if late then sendPacket s { type := 0xB, tag := 0, body := bytes }
    else respond s 0xA (BitVec.ofNat 8 dest) bytes
  | .spi => if late then queueLate s bytes else spiRespond s 3 bytes
  | .busA => busAnswer s 0 dest late bytes
  | .busB => busAnswer s 1 dest late bytes

/-! ### The commands -/

/-- LINK_TRAINING_SET (R391). -/
def execLinkTrainingSet (set : TrainSet) (lane : Fin 4) (mask : BitVec 4) (complete : Bool) (s : State) :
    Host.Outcome State Fault Refusal := go (trainingSet s set lane mask complete)
/-- DETECT_TIMEOUT (R391). -/
def execDetectTimeout (s : State) : Host.Outcome State Fault Refusal := go (detectEnd s)
/-- TRAINING_TIMEOUT (R391): UP is not reached within 10 ms. -/
def execTrainingTimeout (s : State) : Host.Outcome State Fault Refusal :=
  go (if s.link.state = 4 then s else linkDown s)
/-- NO_LANE_TIMEOUT (R391): no lane has been received for 1 s. -/
def execNoLaneTimeout (s : State) : Host.Outcome State Fault Refusal :=
  go (if s.porchRuns && s.link.state == 0 then s.errP 0xB 0 0x8106 else s)
/-- CREDIT_RETURN (R400): 10 µs without another packet. -/
def execCreditReturn (s : State) : Host.Outcome State Fault Refusal :=
  go (if s.link.state = 4 ∧ 0 < s.link.owed then sendPacket s { type := 0xD, tag := 0, body := [] } else s)
/-- PACKET_DISCARDED (R395, R400, R401). -/
def execPacketDiscarded (why : Discard) (s : State) : Host.Outcome State Fault Refusal :=
  let s := if s.link.state = 4 then endDoze s else s
  go (if s.link.state ≠ 4 then s
  else match why with
    | .noBuffer => ((s.pbump F.HL_CNT_1_NOCRED).evtP 0xB EVT.HL_CRC).errP 0xB 0 0x4102
    | .badType tag => linkError (freeBuffer s) tag 2
    | .badLen tag => linkError (freeBuffer s) tag 3
    | .abort => ((((freeBuffer s).pbump F.HL_CNT_2_ABORTS).pbump F.HL_CNT_1_CRC_ERR).evtP 0xB EVT.HL_CRC).errP 0xB 0 0x4101
    | .symbol | .crc => (((freeBuffer s).pbump F.HL_CNT_1_CRC_ERR).evtP 0xB EVT.HL_CRC).errP 0xB 0 0x4101)
/-- LANE_SYMBOL_ERROR (R392). -/
def execLaneSymbolError (lane : Fin 4) (consecutive inWindow : Nat) (s : State) : Host.Outcome State Fault Refusal :=
  go (symbolError s lane consecutive inWindow)
/-- SPI_REQUEST_ERROR (R407). -/
def execSpiRequestError (why : SpiError) (s : State) : Host.Outcome State Fault Refusal :=
  let s := if s.porchRuns then endDoze s else s
  go (if !s.porchRuns then s
  else match why with
    | .crc => spiRespond ((s.pbump F.HL_SPI_CNT_CRC_ERR).errP 0xC 0 0x4107) 0xFF (leBytes 4 1)
    | .badOp => spiRespond s 0xFF (leBytes 4 2)
    | .badLen => spiRespond s 0xFF (leBytes 4 3))
/-- FETCH_LATE (R406, R408): the oldest completion answer, removed once sent. -/
def execFetchLate (s : State) : Host.Outcome State Fault Refusal :=
  go (if s.porchRuns then
    let s := endDoze s
    spiRespond { s with spi := { late := s.spi.late.drop 1 } } 4 (s.spi.late.head?.getD [])
  else s)
/-- SPI_ABANDON (R407): CS_N rises before the request is complete, or after it. -/
def execSpiAbandon (complete : Bool) (s : State) : Host.Outcome State Fault Refusal :=
  let s := if s.porchRuns then endDoze s else s
  go (if complete && s.porchRuns then s.pbump F.HL_SPI_CNT_ABANDONED else s)

end Sys2Proof.Machine
end

