-- ==== Sys2Proof/Machine/Resume.lean ====
section
/-! DEFINITION. A slice taking up its zone again: after an outage, a restart, a migration or an aborted power entry
(R100, R166, R200, R245, R302, R345 to R347, R383, R500). -/
namespace Sys2Proof.Machine

/-- How a slice comes to serve its zone. -/
inductive ResumeKind where
  /-- Power, wake or thermal restart: an outage of the zone (R200, R486). -/
  | outage
  /-- A migration to this slice (R166, R345). -/
  | migration
  /-- A restart of the slice from its checkpoint (R515). -/
  | restart
  deriving DecidableEq, Repr

/-! ### Commands handed again (R345, R346) -/

/-- The payload of a head from its own bytes and those of its continuations. -/
def payloadOf (s : State) (lseq : Nat) (n len : Nat) (first : List Byte) : List Byte :=
  (first ++ ((List.range n).map (fun i =>
    match smFind s.journal.larder (lseq + 1 + i) with
    | some x => (match x.kind with
      | .cont _ b => b
      | _ => [])
    | none => [])).flatten).take len

/-- The command of a larder head. -/
def execOf (s : State) (c : Nat × LdItem) : Option Exec :=
  match c.2.kind with
  | .head n seq opcode _ len zm _ p =>
    some { lseq := c.1, source := c.2.source, seq := seq, opcode := opcode, zmask := zm,
           payload := payloadOf s c.1 n len p }
  | _ => none

/-- The commands in the larder, in LSEQ order. -/
def larderCommands (s : State) : List Exec := s.journal.larder.filterMap (execOf s)

/-- A command put into the porch's hands for a zone, in LSEQ order. -/
def holdFor (x : Exec) (z : Zone) : List Handing → List Handing
  | [] => [{ x := x, left := BitVec.ofNat 64 (zbit z) }]
  | h :: l =>
    if h.x.lseq = x.lseq then { h with left := h.left ||| BitVec.ofNat 64 (zbit z) } :: l
    else if x.lseq < h.x.lseq then { x := x, left := BitVec.ofNat 64 (zbit z) } :: h :: l
    else h :: holdFor x z l

/-- The commands that name a zone above a TAKEN value. -/
def above (s : State) (z : Zone) (taken : Nat) : List Exec :=
  (larderCommands s).filter (fun x => x.names z && decide (taken < x.lseq))

/-- Every command that names the zone above the TAKEN value of the restored checkpoint handed again (R345). -/
def handAgain (s : State) (p : Phys) (z : Zone) : State :=
  let l := above s z (s.z p).taken
  deliver (s.onJ (fun j => { j with handover := l.foldl (fun h x => holdFor x z h) j.handover }))

/-! ### Loading a checkpoint -/

/-- Whether a slice register belongs to the physical slice: subpages 0x00, 0x0C and 0x0D. -/
def isPhysReg (a : Nat) : Bool := a / 0x1000 == 0x100 || a / 0x1000 == 0x10C || a / 0x1000 == 0x10D

/-- Registers of a zone with those of the physical slice it comes to. -/
def mergeRegs (zone phys : RegFile) : RegFile :=
  (phys.filter (fun c => isPhysReg c.1)).foldl (fun f c => smPut f c.1 c.2) (zone.filter (fun c => !isPhysReg c.1))

/-- The outputs of a restored zone with the pads as the sill holds them (R301, R302). -/
def withPads (zone pads : Outs) : Outs :=
  { zone with band := pads.band, fact := pads.fact, o := Vector.ofFn (fun (j : Fin 5) =>
      { zone.o[j] with held := true, match_ := false, pulse := none,
                       slewRow := pads.o[j].slewRow, heldVal := if pads.o[j].held then pads.o[j].heldVal else 0 }) }

/-- A checkpoint loaded into slice `p` with the pads `pads`, `gone` µs after its writing. Converters, time base and trims are the
slice's own (R138, R143), and so are the band it uses (R107) and the latches (R141). -/
def loadZone (s : State) (p : Phys) (k : Ckpt) (gone : Nat) (pads : Outs) : State :=
  let c := k.zone
  let d : Int := (s.base p : Int) - (k.base : Int) - (gone : Int) * usFine
  (s.onZ p (fun old => { c with
    regs := mergeRegs c.regs old.regs, latch := (mergeRegs c.latch old.latch).filter (fun l => l.1 / 0x1000 != 0x103),
    inp := c.inp.moved d, outs := withPads c.outs pads, conv := old.conv })).w p F.ZI_STAT_BAND (s.cv p).band

/-- The one-time actions that a checkpoint holds as running end (R180, R244, R383): the pulse, the tune and the capture of its zone;
of the capture, the one that the slice last held where its memory still shows it. -/
def endOneTime (s : State) (p : Phys) (z : Zone) (c : ZoneState) (live : Capture) : State :=
  let s1 := (List.finRange 5).foldl (fun (s : State) (j : Fin 5) =>
    match c.outs.o[j].pulse with
    | some u => markZone s u.lseq z resFault 4 0
    | none => s) s
  let s2 := if live.state = 1 ∨ live.state = 2 then s1.onMt p (fun m => { m with cap := live }) else s1
  capAbort (failTune s2 p 8) p

/-! ### Schedule, loops, meter -/

/-- Alarms, tariff, planner and trust of a zone that was not served since `t0` (R222, R260, R261, R263, R275, R478). -/
def resumeSched (s : State) (p : Phys) (t0 : Nat) : State :=
  let s1 := if (s.sl p).time.missed.any (fun m => !m.2.2) then s.onSc p (fun x => { x with susp := true }) else s
  let s2 := if s1.trusted && !(s1.sc p).susp then alarmsStep s1 p t0 s1.now else s1
  planTrigger (judgeMeters (judgeTariff (applyTrust s2 p) p) p) p

/-- The house time elapsed since `t0`, where it is known (R222). -/
def elapsedOf (s : State) (k : ResumeKind) (t0 : Nat) : Option Nat :=
  if s.trusted ∨ k = .restart then some (s.now - t0) else none

/-- The temperature inputs of a slice that starts (R96, R100): filters, runs and windows from the beginning, no off segment; the
broken declarations and window counts stay, and readings are held. -/
def restartInputs (s : State) (p : Phys) : State :=
  holdReadings (restartFilters (s.onInp p (fun i => i.moved 0)) p) p

/-- The converters of a slice that starts (R129, R144, R506): its clock, the entries its firmware builds, its sequences. -/
def restartConverters (s : State) (p : Phys) : State :=
  restartSequences (buildEntries (setSliceClock s p (sliceMhz s p)) p) p

/-- A zone resumed on the slice that now runs, from a state of house time `t0` (R100, R166, R200, R245, R302). What was drawn in an
outage is not measured. -/
def resumeZone (s : State) (p : Phys) (k : ResumeKind) (t0 : Nat) (post : Option Posting) : State :=
  let s1 := resumeMeter (takeHeld s p) p t0 post (k != .outage)
  let s3 := restartInputs (restartConverters s1 p) p
  let s4 := resumeSched (resumeLoops s3 p (elapsedOf s3 k t0)) p t0
  match k with
  | .outage => ivalResume s4 p false
  | .migration => ivalResume s4 p true
  | .restart => s4

/-- A slice begins to run (R500): power good, reset released, its edges unclamped; its time base is not yet aligned (R477). -/
def unclamp (s : State) (p : Phys) : State :=
  let s1 := s.onSl p (fun x => { changeSupply x .on (sliceMhz s p) s.thermal.band with
    running := true, clamped := false, time := { x.time with aligned := false, lock := false, run := 0 } })
  if (s.sl p).running then s1 else s1.notePwrs (slicePages p)

/-- A slice starts from a checkpoint of its zone with the pads as they are held; none found is the zone as delivered. Its trims are
those it last stored (R138); `live` is the capture the zone last had. -/
def reloadSlice (s : State) (p : Phys) (z : Zone) (k : ResumeKind) (c : Option Ckpt) (pads : Outs) (live : Capture)
    (post : Option Posting) : State :=
  let ck : Ckpt := c.getD { time := s.now, base := s.base p, zone := {} }
  let s0 := (unclamp s p).onSl p (fun x => { x with trims := x.trimsCk, inbox := [] })
  let s1 := loadZone s0 p ck ((elapsedOf s k ck.time).getD 0) pads
  handAgain (resumeZone (endOneTime s1 p z ck.zone live) p k ck.time post) p z

/-- Where a zone resumes: its slice's last valid checkpoint (R35) with what its latest record left behind (R39). -/
def restorePoint (s : State) (p : Phys) (z : Zone) : Option Ckpt := (s.ckptOf p).map (afterRecord s z)

/-- A serving slice restarts from its own checkpoint and its held outputs. -/
def restartSlice (s0 : State) (p : Phys) (k : ResumeKind) : State :=
  match s0.zoneOf p with
  | some z =>
    let s := writeZone s0 z
    reloadSlice s p z k (restorePoint s p z) (s.z p).outs (s.mt p).cap (s.postingOf p)
  | none => s0

/-- A slice whose SRAM was retained goes on after an outage (R495). -/
def wakeSlice (s : State) (p : Phys) : State :=
  if (s.zoneOf p).isSome then
    let t0 := match (s.sl p).ckpt with | some c => c.time | none => s.now
    deliver (resumeZone (unclamp s p) p .outage t0 none)
  else s

/-- A slice stopped for part of an entry goes on (R489): the time since its checkpoint is filled with the mean powers of its last
cycle. -/
def unstopSlice (s : State) (p : Phys) : State :=
  if (s.zoneOf p).isSome then
    let t0 := match (s.sl p).ckpt with | some c => c.time | none => s.now
    let s1 := (takeHeld (unclamp s p) p).onMt p (fun m => { m with
      haveP := false, cutAt := none, fill := some { time := t0, p := m.last.p, q := m.last.q, s := m.last.s } })
    deliver (restartInputs (restartConverters s1 p) p)
  else s

end Sys2Proof.Machine
end

