-- ==== Sys2Proof/Machine/Replay.lean ====
section
/-! DEFINITION. Final results with their answers (R327, R338), and the replay of the journal (R346 to R348, R383, R503). -/
namespace Sys2Proof.Machine

/-! ### FINAL_RESULT_WRITE (R327, R338, R340) -/

/-- The final result of a command whose FINAL marker is durable: it enters the guestbook and, where its path is kept, the
completion answer goes out. -/
def finalResult (s : State) (lseq : Nat) : State :=
  match s.runningOf lseq with
  | none => s
  | some r =>
    let s1 := storeFinal s lseq
    match s1.journal.book.find? (fun e => e.lseq == lseq && e.final) with
    | none => s1
    | some e =>
      let s2 := s1.onJ (fun j => { j with book := j.book.map (fun e => if e.lseq = lseq then { e with path := none } else e) })
      match e.path with
      | some pa =>
        sendAnswer s2 pa e.dest true (answerBytes r.x.source r.x.seq e.result 0 e.reason e.value e.fmask)
      | none => s2

/-- FINAL_RESULT_WRITE (R338). -/
def execFinalResultWrite (lseq : Nat) (s : State) : Host.Outcome State Fault Refusal := go (finalResult s lseq)

/-! ### Module state and abandoned repairs (R526, R569, R571) -/

/-- The first intervals after FACTORY (R571): SHORT, from the latest boundary, with no carries. -/
def startRecords (s : State) : State :=
  eachSlice s (fun s p =>
    if (s.sl p).running && (s.zoneOf p).isSome then openInterval s p [flShort] (Vector.replicate 7 0) else s)

/-- Every capture under way aborted (R180). -/
def abortCaptures (s : State) : State := eachSlice s (fun s p => if (s.sl p).running then capAbort s p else s)

/-- The module state changed (R569), with E-1004; the draught settings clear (R69) and captures are aborted (R180). The codes are
0 … 4 (R576). -/
def changeState (s : State) (st : Nat) : State :=
  let m := s.modst
  if m.state = st ∨ 4 < st then s
  else
    let s1 := { s with modst := { m with
      state := st, prev := m.state, changes := satTo 16 (m.changes + 1), time := s.now } }
    let s2 := abortCaptures ((s1.clearDraught.evtP 0 EVT.MOD_STATE).errP 0 (m.state * 256 + st) 0x1004)
    if m.state = 0 then startRecords s2 else s2

/-- A repair cut off before its commit point (R526): the stored map still names the old slice. -/
def abandonRepair (s : State) : State :=
  match s.upkeep.repair with
  | none => s
  | some r =>
    let s0 := notePorchBusy s { s with upkeep := { s.upkeep with repair := none } }
    let s1 := (s0.pbump F.PCH_RM_CNT_ABANDONED).errP 0x10 r.zone.val 0x8E0A
    let s2 := if (s1.sl r.target).life = .moving then setLife (stopSlice s1 r.target) r.target .spare 0 else s1
    if (s2.sl r.old).life = .moving then setLife s2 r.old .serving (s2.sl r.old).cause else s2

/-! ### Quick self-tests (R516, R517) -/

/-- The checks of a quick self-test: bits 0 … 4 and 8 … 10 (R516). -/
def quickMask : BitVec 11 := 0b11100011111#11

/-- Failing columns replaced by spare columns while the slice does not run (R515). -/
def mendColumns (s : State) (p : Phys) : State :=
  let n := min (s.sl p).badCols (s.g p F.ZW_G_SRAM_COLS_LEFT)
  (s.w p F.ZW_G_SRAM_COLS_LEFT (s.g p F.ZW_G_SRAM_COLS_LEFT - n)).onSl p (fun x => { x with badCols := 0 })

/-- A self-test recorded in ZW_SLC_TEST (R541), with EVT.TEST. -/
def recordTest (s : State) (p : Phys) (bits : BitVec 11) (full : Bool) : State :=
  let s1 := ((mendColumns s p).wb p F.ZW_SLC_TEST_VALID true).wb p F.ZW_SLC_TEST_FULL full
  let s2 := (s1.w p F.ZW_SLC_TEST_RESULT bits.toNat).w p F.ZW_SLC_TEST_TS_LO_TS (s.now % 2 ^ 32)
  (s2.w p F.ZW_SLC_TEST_TS_HI_TS (s.now / 2 ^ 32)).evt p 0 EVT.ZWS_TEST

/-- A quick self-test before the checkpoint loads (R517, R557): a serving slice or a spare that fails is FAILED. -/
def quickTest (s : State) (p : Phys) (bits : BitVec 11) : State :=
  let b := bits &&& quickMask
  let s1 := recordTest s p b false
  if b = 0 then s1
  else match (s1.sl p).life with
    | .serving | .spare | .moving | .testing => failSlice s1 p 0x8805 7
    | _ => s1

/-- The quick self-tests of every slice, with the results that are not 0. -/
def quickTests (s : State) (found : List (Phys × BitVec 11)) : State :=
  eachSlice s (fun s p =>
    quickTest s p (match found.find? (fun c => c.1 == p) with | some c => c.2 | none => 0))

/-! ### Replay (R346) -/

/-- Whether an item is held: a larder entry, a guestbook entry, a source slot. -/
def heldItem (s : State) : DurItem → Bool
  | .larder n => (smFind s.journal.larder n).isSome
  | .guest n => s.journal.book.any (fun e => e.lseq == n)
  | .slot k => (smFind s.journal.slots k).isSome
  | _ => false

/-- CTX of E-4312 and E-C315: the item's LSEQ; a source slot has none, and its CTX is free. -/
def itemCtx (s : State) (d : DurItem) : Nat × State :=
  match d with
  | .larder n | .guest n => (n % 2 ^ 16, s)
  | _ => let r := s.freshNat; (r.1 % 2 ^ 16, r.2)

/-- An item of the journal that no bank can read (R348): E-C315, and it is lost. -/
def loseItem (s : State) (d : DurItem) : State :=
  let c := itemCtx s d
  ((c.2.errP 3 c.1 0xC315).onJ (fun j => match d with
    | .larder n => { j with larder := smErase j.larder n, running := j.running.filter (fun r => r.x.lseq != n) }
    | .guest n => { j with book := j.book.filter (fun e => e.lseq != n) }
    | .slot k => { j with slots := smErase j.slots k }
    | _ => j)).wrote d

/-- Step 1 for one item: a copy that is bad or missing in one bank is rewritten from the other; an item bad in both is lost (R348). -/
def replayItem (s : State) (d : DurItem) : State :=
  if !heldItem s d then s
  else if s.oneBad d then
    let c := itemCtx s d
    ((c.2.wrote d).pbump F.PCH_LD_CNT_REPAIRED).errP 3 c.1 0x4312
  else if s.readable d then s else loseItem s d

/-- The items of which some bank's copy is bad. -/
def badItems (s : State) : List DurItem :=
  (s.bank 0).bad ++ (s.bank 1).bad.filter (fun d => !(s.bank 0).bad.contains d)

/-- Whether replay finds an item of the journal that no bank can read. -/
def anyLost (s : State) : Bool := (badItems s).any (fun d => heldItem s d && !s.readable d)

/-- Step 1: every larder entry, guestbook entry and slot read in both banks. -/
def replayCopies (s : State) : State := (badItems s).foldl replayItem s

/-- Step 3: final results of commands whose FINAL marker exists; answer paths are not kept (R327). -/
def replayResults (s : State) : State :=
  let s1 := (s.onJ (fun j => { j with
    book := j.book.map (fun e => { e with path := none }), running := j.running.map (fun r => { r with path := none }),
    handover := [] })).onQueue (fun _ => [])
  s1.journal.running.foldl (fun (s : State) r => storeFinal s r.x.lseq) s1

/-- The FAULT reason with which step 6 completes a porch command without effect (R383); none: it executes again. -/
def replayFault (rep : Option Nat) (x : Exec) : Option Nat :=
  match x.opcode.toNat with
  | 0x0401 | 0x0402 | 0x0403 => some 2
  | 0x0501 => some 3
  | 0x7F01 => some 1
  | 0x0601 => some 4
  | 0x0604 => if rep == some x.lseq then some 4 else none
  | _ => none

/-- Whether the porch executes an opcode. -/
def porchRun (x : Exec) : Bool := x.zmask == 0 || x.opcode == 0x0601 || x.opcode == 0x0603

/-- Step 6 for one command: completed with FAULT, or queued to execute again; the second part counts those queued. -/
def replayPorch (rep : Option Nat) (c : State × Nat) (r : Running) : State × Nat :=
  let x := r.x
  if !porchRun x || !(markersOf c.1 x.lseq).isEmpty then c
  else
    match replayFault rep x with
    | some why =>
      if x.zmask = 0 then (markPorch c.1 x.lseq resFault why 0, c.2)
      else (x.zones.foldl (fun (s : State) z => markZone s x.lseq z resFault why 0) c.1, c.2)
    | none => (c.1.onQueue (fun l => l ++ [x]), c.2 + 1)

/-- The census of a TICK form under ALL_OR_NONE that the stop overtook: every named zone missed (R503). -/
def replayCensus (s : State) (c : Census) : State :=
  if c.allNone && !c.taken then
    let d : Census := { c with taken := true, missed := c.zmask }
    let n := (zonesOf c.zmask).length
    let s1 := (((showCensus s d false true).evtP 9 EVT.PWR_CENSUS).errP 9 n 0x4506)
    endCensus ((zonesOf c.zmask).foldl (fun (s : State) z => markZone s c.lseq z resFault 2 0) s1) c.lseq
  else s

/-- The slices that serve a zone, one that moves away included, in ascending order. -/
def servers (s : State) : List Phys :=
  (List.finRange 68).filter (fun p => ((s.sl p).life == .serving || (s.sl p).life == .moving) && (s.zoneOf p).isSome)

/-- Handings that the restart of a slice makes (R346 step 5). -/
def handings (s : State) (p : Phys) : Nat :=
  match s.zoneOf p with
  | some z => (above s z (match s.ckptOf p with | some c => c.zone.taken | none => 0)).length
  | none => 0

/-- Steps 1 to 6 with the restart of every serving slice from its checkpoint, and the count of step 7. -/
def replaySteps (s : State) : State × Nat :=
  let rep := s.upkeep.repair.map (fun r => r.lseq)
  let s1 := replayResults (abandonRepair (replayCopies s))
  let back := s1.census.filter (fun c => c.allNone && !c.taken)
  let s2 := s1.census.foldl replayCensus s1
  let n := (servers s2).foldl (fun k p => k + handings s2 p) 0
  let s3 := (servers s2).foldl (fun (s : State) p => restartSlice s p .outage) s2
  let s4 := back.foldl (fun (s : State) c => tellModes s c true) s3
  let r := s4.journal.running.foldl (replayPorch rep) (s4, 0)
  (r.1, n + r.2)

/-- What the replay leaves in PCH_LD_REPLAY; an item bad in both banks leaves the module in RECOVERY (R348, R558). -/
def noteReplay (s : State) (lost : Bool) (n durMs : Nat) : State :=
  let s1 := (s.pw F.PCH_LD_REPLAY_REHANDED (satTo 16 n)).pw F.PCH_LD_REPLAY_DUR (satTo 16 durMs)
  if lost then changeState s1 4 else s1

/-- Step 7: the replay is complete and acceptance opens. -/
def openAcceptance (s : State) : State :=
  let n := s.pg F.PCH_LD_REPLAY_REHANDED
  drainNops (((s.onJ (fun j => { j with replay := false, opened := true })).evtP 2 EVT.DSP_REPLAYED).errP 2 n 0x1314)

/-- Steps 1 to 6 of the replay; `bad` are the copies gone bad since they were last read. -/
def replayRun (s0 : State) (bad : List BadItem) (durMs : Nat) : State :=
  let s := bad.foldl (fun (s : State) b => s.spoil b) s0
  let r := replaySteps s
  noteReplay r.1 (anyLost s) r.2 durMs

/-- The replay of R346. -/
def replay (s : State) (bad : List BadItem) (durMs : Nat) : State := openAcceptance (replayRun s bad durMs)

end Sys2Proof.Machine
end

