-- ==== Sys2Proof/Machine/Power.lean ====
section
/-! DEFINITION. Power states: the landing's handshake, aborts, wake events and their delivery, and the thermal governor
(chapter 15). -/
namespace Sys2Proof.Machine

/-! ### The blocks (R487) -/

/-- The page named in logs for a block (R487). -/
def blockPage : Block → Nat
  | .slice p => slicePage p 0
  | .hallway => 0x50
  | .port .a => 0xD
  | .port .b => 0xE
  | .spi => 0xC
  | .link => 0xB
  | .time => 0x8
  | .mram => 0xF
  | .porch => 0

/-- The blocks to ask, in the order of R487: no dark slice. -/
def askList (s : State) : List Block :=
  ((List.finRange 68).filter (fun p => (s.sl p).running)).map Block.slice
    ++ [.hallway, .port .a, .port .b, .spi, .link, .time, .mram, .porch]

/-- The pages of a block whose VETO counts (R63, R488): every page of a slice, of the hallway, and of the MRAM controller with larder and
record store. The manual does not say which of several pages counts (notes/assumptions/159). -/
def vetoPages : Block → List Nat
  | .slice p => slicePages p
  | .hallway => [0x50, 0x51]
  | .mram => [0xF, 0x3, 0x4]
  | .porch => []
  | b => [blockPage b]

/-- VETO of a block (R63). -/
def vetoed (s : State) (b : Block) : Bool := (vetoPages b).any (fun g => (s.hdr g).veto)

/-- Whether a one-time action of 0x0109, 0x0120 or 0x0304 is running or armed on a slice (R488). -/
def oneTime (s : State) (p : Phys) : Bool :=
  s.busySlice p

/-- Whether a porch command of group 0x06 is being executed (R488). -/
def group6Runs (s : State) : Bool :=
  s.journal.running.any (fun r => r.x.opcode.toNat / 256 == 6 && !s.journal.porchQ.any (fun y => y.lseq == r.x.lseq))

/-- The REASON with which a block refuses by R488 from the state it is in; none: it does not. -/
def refusal (s : State) (b : Block) : Option Nat :=
  if vetoed s b then some 1
  else match b with
    | .slice p =>
      if oneTime s p then some 2
      else if (s.sl p).inbox.any isTickForm then some 3
      else if (s.sl p).life == .testing || (s.sl p).life == .moving
          || (match s.zoneOf p with | some z => s.movingZone z | none => false) then some 4
      else none
    | .hallway => if s.upkeep.repair.isSome || s.porchExec 0x0603 then some 4 else none
    | .mram => if group6Runs s then some 5 else none
    | _ => none

/-- Whether a block answers DELAY by R488 from the state it is in. -/
def delays (s : State) (b : Block) : Bool :=
  match b with
  | .port p =>
    let x := s.port (Port.index p)
    !x.txq.isEmpty || x.host.isSome || !x.timeTx.isEmpty
  | .link => decide (1 ≤ s.link.state ∧ s.link.state ≤ 3) || s.link.tags.any (fun c => c.2 == .opened)
  | .time => !s.time.pend.isEmpty
  | .slice p => (s.sl p).ckptDue
  | .mram => decide (0 < s.journal.ahead) || !s.store.wait.isEmpty
  | _ => false

/-- A block's answer with its REASON (R488): a refusal stands before a DELAY, and what the state shows before what the
block says; the porch always agrees. -/
def answerOf (s : State) (b : Block) (vote : Vote) (reason : Nat) : Vote × Nat :=
  if b = .porch then (.agree, 0)
  else match refusal s b with
    | some r => (.refuse, r)
    | none => if delays s b then (.delay, 0) else (vote, reason)

/-- The part of a block in the handshake shown by PG_PWR (R63). -/
def notePwr (s : State) (b : Block) (target vote : Nat) : State :=
  s.onHdr (blockPage b) (fun h => { h with
    target := target, vote := vote, delays := if vote = 2 then satTo 8 (h.delays + 1) else h.delays,
    refusals := if vote = 3 ∨ vote = 4 then satTo 8 (h.refusals + 1) else h.refusals })

/-! ### Aborts (R489, R490, R492) -/

/-- An abort put in front of the log, which keeps 16 (R492). -/
def logAbort (s : State) (page cause reason : Nat) (e : PwrEntry) : State :=
  s.onLd (fun l => { l with log := ({ page := page, cause := cause, reason := reason, stopped := e.stopped.length,
                                      target := e.target, time := s.now } :: l.log).take 16 })

/-- The blocks that an entry stopped go on, in the reverse of their stop order (R489). -/
def unstopAll (s : State) (e : PwrEntry) : State :=
  e.stopped.reverse.foldl (fun (s : State) (b : Block) =>
    match b with
    | .slice p => unstopSlice s p
    | b => s.unclampBlocks [b]) s

/-- An entry aborted (R489, R490): counted, logged, E-1501; the stopped blocks go on; the entry is over unless `again`
starts it once more. -/
def abortEntry (s : State) (e : PwrEntry) (page cause reason : Nat) (again : Option PwrEntry) : State :=
  let s1 := (logAbort s page cause reason e).pbump F.PWR_CNT_ABORTS
  let s2 := if 3 ≤ cause ∧ cause ≤ 5 then s1.pbump F.PWR_CNT_REFUSALS else s1
  let s3 := unstopAll ((s2.errP 9 (page % 2 ^ 16) 0x1501).evtP 9 EVT.PWR_ABORT) e
  let s4 := s3.onLd (fun l => { l with entry := again })
  match again with
  | some _ => s4
  | none => markPorch s4 e.lseq resFault 1 (BitVec.ofNat 32 page)

/-! ### Entry (R377, R485, R487, R490) -/

/-- Whether less than 250 ms remain to the next interval boundary (R490). -/
def nearBoundary (s : State) : Bool :=
  decide ((boundAt s s.now + lenAt s (s.now / minuteUs)) * minuteUs < s.now + 250000)

/-- 0x0501 (R377): DOZE at once; NAP, HIBERNATE and SHELF by the handshake. -/
def powerRequest (s : State) (x : Exec) : State :=
  if s.landing.entry.isSome then porchDone s x resFault 2 0
  else if x.byte 0 = 1 then
    let s1 := ((setPower s 1).pbump F.PWR_CNT_ENTRIES).onCl (fun c => { c with timer := x.u32 4 })
    porchDone s1 x resDone 0 0
  else
    let wait := nearBoundary s
    let e : PwrEntry := {
      target := x.byte 0, wakeAfter := x.u32 4, lseq := x.lseq, asking := if wait then [] else askList s,
      deferred := wait }
    unqueue (s.onLd (fun l => { l with entry := some e })) x.lseq

/-- ENTRY_BOUNDARY_DEFER (R490): 100 ms after the boundary the first block is asked. -/
def endDefer (s : State) : State :=
  match s.landing.entry with
  | some e =>
    if e.deferred then
      s.onLd (fun l => { l with entry := some { e with deferred := false, asking := askList s, stopped := [] } })
    else s
  | none => s

/-- ENTRY_BOUNDARY_ABORT (R490): 50 ms before a boundary; a second one completes the command. -/
def boundaryAbort (s : State) : State :=
  match s.landing.entry with
  | some e =>
    if e.deferred then s
    else
      let again : PwrEntry := { e with
        asking := [], stopped := [], delays := 0, waiting := false, deferred := true, aborts := 1 }
      abortEntry s e 9 6 8 (if e.aborts = 0 then some again else none)
  | none => s

/-! ### Wake (R491 to R496) -/

/-- SRC of a wake source (R493). -/
def wakeCode : WakeSrc → Nat
  | .link => 1
  | .busA => 2
  | .busB => 3
  | .knockA => 4
  | .knockB => 5
  | .timer => 6
  | .spi => 7

/-- Whether the detector of a source is active (R445). -/
def wakeEnabled (s : State) : WakeSrc → Bool
  | .busA => s.pb F.FB_CFG_EN 0 && s.pb F.FB_WAKE_ACT_EN 0
  | .busB => s.pb F.FB_CFG_EN 1 && s.pb F.FB_WAKE_ACT_EN 1
  | .knockA => s.pb F.FB_CFG_EN 0
  | .knockB => s.pb F.FB_CFG_EN 1
  | _ => true

/-- The house time of a wake event [µs]: of the time service, or of the calendar while the porch is stopped. -/
def eventUs (s : State) : Nat := if s.porchRuns then s.now else (calFine s.cellar / usFine).toNat

/-- A wake event latched by the cellar (R496): coalesced with the newest entry of its source within 1 ms, queued, or
dropped. -/
def latchWake (s : State) (code : Nat) : State :=
  let q := s.cellar.queue
  let rec_ : WakeRec := { src := code, state := s.landing.state, time := eventUs s }
  match q.getLast? with
  | some r =>
    if r.src = code ∧ eventUs s ≤ r.time + 1000 then
      s.onCl (fun c => { c with queue := q.dropLast ++ [{ r with count := satTo 16 (r.count + 1) }] })
    else if Config.wakeQueue ≤ q.length then
      ((s.pbump F.CLR_WAKE_CNT_DROPPED).evtP 0x43 EVT.WAKE_DROP).errP 0x43 code 0x4504
    else s.onCl (fun c => { c with queue := q ++ [rec_] })
  | none => s.onCl (fun c => { c with queue := [rec_] })

/-- The slices after NAP (R495): from their retained SRAM, or from the checkpoint where the scrub found a bad word. -/
def wakeSlices (s : State) (bad : List Phys) : State :=
  if s.thermal.shut then s
  else (servers s).foldl (fun (s : State) p =>
    if bad.contains p then restartSlice (s.err p 0 p.val 0x8507) p .outage else wakeSlice s p) s

/-- Every running slice stopped. -/
def stopAll (s : State) : State := (List.finRange 68).foldl (fun (s : State) p => stopSlice s p) s

/-- The blocks of the porch's power domain with a page of their own. -/
def porchBlocks : List Block := [.port .a, .port .b, .spi, .link, .time, .mram, .porch]

/-- The quick self-tests at the exit from HIBERNATE (R517): those of `bad` fail; which checks fail is free. -/
def wakeTests (s : State) (bad : List Phys) : State :=
  let r := s.freshNat
  let bits := BitVec.ofNat 11 r.1 &&& quickMask
  quickTests r.2 (bad.map (fun p => (p, if bits = 0 then 1 else bits)))

/-- The module wakes (R491, R495): the porch runs and is unclamped with the hallway, house time is taken from the cellar, the ports
integrate, the link trains; after HIBERNATE the error displays are cleared before anything is posted (R579) and the journal is
replayed; the slices run again unless a thermal shutdown holds them. -/
def wakeUp (s : State) (bad : List Phys) : State :=
  let deep := s.landing.state = 3
  let s0 := setPower (if deep then s.clearErrors else s) 0
  let s1 := ((s0.pbump F.CLR_WAKE_CNT_WAKES).onCl (fun c => { c with timer := 0 })).unclampBlocks (.hallway :: porchBlocks)
  let s2 := linkDown (wakePorts (timeStart s1))
  if deep then
    let r := s2.freshNat
    let s3 := replay (wakeTests r.2 bad) [] r.1
    if s3.thermal.shut then stopAll s3 else s3
  else wakeSlices s2 bad

/-- WAKE_EVENT (R493 to R495): latched and woken from in NAP and HIBERNATE, latched during an entry; it ends DOZE. -/
def wakeEvent (s : State) (src : WakeSrc) (bad : List Phys) : State :=
  if !s.supply.powered || !wakeEnabled s src then s
  else if s.landing.state = 2 ∨ s.landing.state = 3 then wakeUp (latchWake s (wakeCode src)) bad
  else if s.landing.entry.isSome then latchWake (s.pbump F.CLR_WAKE_CNT_DURING) (wakeCode src)
  else endDoze s

/-- A queued wake event delivered to its block (R496). -/
def deliverWake (s : State) (r : WakeRec) : State :=
  let s1 := match r.src with
    | 1 => if s.link.state = 4 then s else linkDown s
    | 2 | 4 => integrateAgain s 0
    | 3 | 5 => integrateAgain s 1
    | _ => s
  let s2 := s1.onCl (fun c => { c with queue := c.queue.drop 1, wlog := c.wlog ++ [r] })
  (s2.evtP 0x43 EVT.WAKE_WAKE).errP 0x43 r.src 0x1503

/-- WAKE_EVENT_DELIVERY (R496): the oldest queued event, once acceptance is open. -/
def nextWake (s : State) : State :=
  match s.cellar.queue with
  | r :: _ => if s.porchRuns && s.journal.opened && !s.journal.replay then deliverWake s r else s
  | [] => s

/-! ### The handshake (R487 to R489) -/

/-- The outputs unpowered and not held, in SHELF (R484). -/
def dropOutputs (s : State) (p : Phys) : State :=
  (List.finRange 5).foldl (fun (s : State) (j : Fin 5) => s.onOut p j (fun o => { o with
    held := false, match_ := false, applied := 0, drvOn := false, pin := 0 })) s

/-- The power of a stopped slice dropped where its SRAM is not retained (R484, R500). -/
def dropSlice (s : State) (p : Phys) : State :=
  s.onSl p (fun x => if x.running then x else changeSupply x .off 0 s.thermal.band)

/-- Step 6 of R487: FINAL marker and DONE, then the porch clamps its edges and powers down to the target; an event latched in the
meantime wakes the module at once (R494). -/
def enterState (s : State) (e : PwrEntry) : State :=
  let s1 := finalResult (markPorch (s.onLd (fun l => { l with entry := none })) e.lseq resDone 0 0) e.lseq
  let s2 := linkDown (s1.pbump F.PWR_CNT_ENTRIES)
  let s3 := if e.target = 2 then s2 else s2.onLk (fun k => { k with tags := [], wait := [] })
  let s4 := (setPower (s3.clampBlocks porchBlocks) e.target).onCl (fun c => { c with timer := e.wakeAfter })
  let s5 := if e.target = 2 then s4 else eachSlice s4 dropSlice
  if e.target = 4 then
    (List.finRange 68).foldl dropOutputs { s5 with supply := { s5.supply with railOn := false } }
  else if s5.cellar.queue.isEmpty then s5
  else wakeUp s5 []

/-- Every commit and write that is due completed (R26): commits and records first, then the log buffer. -/
def completeWrites (s : State) : State := flushCollector (writeWaiting (s.onJ (fun j => { j with ahead := 0 })))

/-- What a block does on AGREE (R487). A slice that has stopped keeps its memory until the porch powers down, so that an abort finds
it (R489). -/
def stopBlock (s : State) (e : PwrEntry) (b : Block) : State :=
  match b with
  | .slice p => stopSliceTo (writeCheckpoint (postMeter (forceClosings s p) p) p) p .retained
  | .hallway => s.clampBlocks [.hallway]
  | .time => timeSave s
  | .mram => completeWrites s
  | .porch => enterState s e
  | _ => s

/-- Whether a block has stopped once it agreed: a slice, the hallway or the MRAM controller. -/
def stopsNow : Block → Bool
  | .slice _ => true
  | .hallway => true
  | .mram => true
  | _ => false

/-- A block agreed: the next one is asked. -/
def agreed (s : State) (e : PwrEntry) (b : Block) (rest : List Block) : State :=
  let e1 : PwrEntry := { e with
    asking := rest, delays := 0, stopped := if stopsNow b then e.stopped ++ [b] else e.stopped }
  stopBlock ((notePwr s b e.target 1).onLd (fun l => { l with entry := some e1 })) e1 b

/-- A block's DELAY (R488): the fourth counts as a REFUSE with REASON 0x06. -/
def delayed (s : State) (e : PwrEntry) (b : Block) : State :=
  let s1 := notePwr s b e.target 2
  if 3 ≤ e.delays then abortEntry (notePwr s1 b e.target 3) e (blockPage b) 5 6 none
  else s1.onLd (fun l => { l with entry := some { e with delays := e.delays + 1, waiting := true } })

/-- HANDSHAKE_ANSWER (R488): the block being asked answers. -/
def handshake (s : State) (vote : Vote) (reason : Nat) : State :=
  match s.landing.entry with
  | some e =>
    if e.deferred || e.waiting then s
    else match e.asking with
      | [] => s
      | b :: rest =>
        match answerOf s b vote reason with
        | (.agree, _) => agreed s e b rest
        | (.delay, _) => delayed s e b
        | (.refuse, r) => abortEntry (notePwr s b e.target 3) e (blockPage b) 3 r none
  | none => s

/-- HANDSHAKE_DELAY_RETRY (R488): the block is asked again. -/
def askAgain (s : State) : State :=
  match s.landing.entry with
  | some e => s.onLd (fun l => { l with entry := some { e with waiting := false } })
  | none => s

/-- HANDSHAKE_TIMEOUT (R488): no answer within 10 ms. -/
def noAnswer (s : State) : State :=
  match s.landing.entry with
  | some e =>
    if e.deferred || e.waiting then s
    else match e.asking with
      | [] => s
      | b :: _ =>
        let s1 := (notePwr s b e.target 4).errP 9 (blockPage b % 2 ^ 16) 0x4502
        abortEntry s1 e (blockPage b) 4 7 none
  | none => s

/-- LANDING_LOG_COPY (R509): log entry SEL into PWR_LOG_1, PWR_LOG_2 and the time stamp pair. -/
def copyAbort (s : State) (sel : Nat) : State :=
  let s1 := s.pw F.PWR_LOG_SEL_SEL sel
  match s.landing.log[sel]? with
  | some a =>
    let s2 := ((s1.pw F.PWR_LOG_1_PAGE a.page).pw F.PWR_LOG_1_CAUSE a.cause).pw F.PWR_LOG_1_REASON a.reason
    let s3 := (s2.pw F.PWR_LOG_2_STOPPED a.stopped).pw F.PWR_LOG_2_TARGET a.target
    (s3.pw F.PWR_LOG_TS_LO_TS (a.time % 2 ^ 32)).pw F.PWR_LOG_TS_HI_TS (a.time / 2 ^ 32)
  | none => (((s1.pwWord R.PWR_LOG_1 0).pwWord R.PWR_LOG_2 0).pwWord R.PWR_LOG_TS_LO 0).pwWord R.PWR_LOG_TS_HI 0

/-! ### The thermal governor (R504 to R507) -/

/-- The governor changed. -/
def State.onTh (s : State) (f : Thermal → Thermal) : State := { s with thermal := f s.thermal }

/-- The time between two samples [ms] (R504). -/
def sampleMs (s : State) : Nat := if 9500 ≤ s.thermal.tv then 1 else 100

/-- Whether a reading differs by more than 10 °C from both others while those agree within 5 °C (R504). -/
def disagrees (t a b : Int) : Bool :=
  decide (1000 < (t - a).natAbs) && decide (1000 < (t - b).natAbs) && decide ((a - b).natAbs ≤ 500)

/-- A sensor after a sample: its reading, the time it has disagreed, and whether it is broken (R504). -/
def sensorStep (x : DieSensor) (t a b : Int) (dt : Nat) : DieSensor :=
  let ms := if disagrees t a b then x.disMs + dt else 0
  { temp := t, disMs := ms, broken := decide (t < -5500) || decide (15000 < t) || decide (1000 ≤ ms) }

/-- The sensors that are not broken. -/
def goodSensors (v : Vector DieSensor 3) : List Int := (v.toList.filter (fun x => !x.broken)).map (fun x => x.temp)

/-- T_v and DISAGREE from the sensors (R504). -/
def voted (v : Vector DieSensor 3) : Int × Bool :=
  match goodSensors v with
  | [a, b, c] => (median3 a b c, false)
  | [a, b] => (max a b, decide (500 < (a - b).natAbs))
  | _ => (12500, false)

/-- Broken sensors of a vector. -/
def brokenCount (v : Vector DieSensor 3) : Nat := 3 - (goodSensors v).length

/-- The CTX of the temperature errors: T_v [°C] (R508). -/
def tvCtx (tv : Int) : Nat := imageOf 16 (Config.toUnits ((tv : Rat) / 100))

/-- Sensors sampled and voted (R504): E-4604 for each that becomes broken, E-8605, E-4606, EVT.SENSOR. -/
def takeSensors (s : State) (t1 t2 t3 : Int) : State :=
  let dt := sampleMs s
  let old := s.thermal
  let v : Vector DieSensor 3 := #v[sensorStep old.sens[0] t1 t2 t3 dt, sensorStep old.sens[1] t2 t1 t3 dt,
    sensorStep old.sens[2] t3 t1 t2 dt]
  let r := voted v
  let s1 := s.onTh (fun th => { th with sens := v, tv := r.1, disagree := r.2 })
  let s2 := (List.finRange 3).foldl (fun (s : State) (n : Fin 3) =>
    if v[n].broken && !old.sens[n].broken then (s.pbump F.TH_CNT_SENS_FAULTS).errP 0xA (n.val + 1) 0x4604 else s) s1
  let s3 := if 2 ≤ brokenCount v ∧ brokenCount old.sens < 2 then s2.errP 0xA 0 0x8605 else s2
  let s4 := if r.2 && !old.disagree then s3.errP 0xA 0 0x4606 else s3
  let s5 := if v.map (fun x => x.broken) = old.sens.map (fun x => x.broken) ∧ r.2 = old.disagree then s4
    else s4.evtP 0xA EVT.TH_SENSOR
  let pk := s5.pg F.TH_PEAK_PEAK
  if pk = 0x8000 ∨ signedOf 16 pk < r.1 then s5.pwi F.TH_PEAK_PEAK r.1 else s5

/-- The supply settings of a slice in the band in use (R497). -/
def bandSupply (s : State) (p : Phys) : State :=
  s.onSl p (fun x => changeSupply x x.power x.sclkMhz s.thermal.band)

/-- The band published to the slices, the outputs and the cellar (R101, R102, R459), and the settings that follow it (R497). -/
def publishBand (s : State) (b : Nat) : State :=
  if s.thermal.band = b then s
  else
    let s1 := porchSettings (eachSlice (s.onTh (fun th => { th with band := b })) (fun s p =>
      bandSupply ((s.onCv p (fun c => { c with bandNext := b })).onOuts p (fun o => { o with band := b })) p))
    refreshRate (if s1.cellar.locked then s1 else s1.onCl (fun c => { c with bandNext := b }))

/-- A flag with two thresholds (R505): set at `hi`, cleared at `lo`. -/
def thFlag (was : Bool) (tv hi lo : Int) : Bool := if hi ≤ tv then true else if tv ≤ lo then false else was

/-- The warning (R505): it ends DOZE. -/
def judgeWarn (s : State) : State :=
  let was := s.thermal.warn
  let now := thFlag was s.thermal.tv 9500 9000
  let s1 := s.onTh (fun th => { th with warn := now })
  if was = now then s1
  else if now then endDoze (((s1.pbump F.TH_CNT_WARNS).evtP 0xA EVT.TH_WARN).errP 0xA (tvCtx s.thermal.tv) 0x4601)
  else s1.evtP 0xA EVT.TH_WARN

/-- The throttle (R505). -/
def judgeThrottle (s : State) : State :=
  let was := s.thermal.throttle
  let now := thFlag was s.thermal.tv 10500 10000
  let s1 := s.onTh (fun th => { th with throttle := now })
  if was = now then s1
  else if now then ((s1.pbump F.TH_CNT_THROTTLES).evtP 0xA EVT.TH_THROTTLE).errP 0xA (tvCtx s.thermal.tv) 0x8602
  else s1.evtP 0xA EVT.TH_THROTTLE

/-- The factor that T_v asks for, in whole per cent (R506). -/
def targetFactor (th : Thermal) : Nat :=
  if th.throttle then (clampInt 0 100 ((11500 - th.tv) / 10)).toNat else 100

/-- The factor after a sample in 0.01 % (R506): it falls at once and rises by at most 10 points a second. -/
def nextFactor (th : Thermal) (dt : Nat) : Nat := min (targetFactor th * 100) (th.factAcc + dt)

/-- The throttle factor of this sample given to every slice and output (R506); THR_S counts. -/
def applyFactor (s : State) (dt : Nat) : State :=
  let acc := nextFactor s.thermal dt
  let f := acc / 100
  let s1 := s.onTh (fun th => { th with
    factAcc := acc, fact := f, thrMs := if th.throttle then th.thrMs + dt else th.thrMs })
  if s.thermal.fact = f then s1
  else setClocks (eachSlice s1 (fun s p => setFactor s p f))

/-- A slice stopped by the shutdown (R507): SAFE driven, whatever was held; final posting; stopped without a handshake. -/
def shutSlice (s : State) (p : Phys) : State :=
  if (s.sl p).running then
    let s1 := (List.finRange 5).foldl (fun (s : State) (j : Fin 5) =>
      driveSafe (s.onOut p j (fun o => { o with held := false, match_ := false })) p j) s
    stopSlice (postMeter (forceClosings s1 p) p) p
  else s

/-- SHUT set (R507). -/
def shutDown (s : State) : State :=
  let s1 := ((s.pbump F.TH_CNT_SHUTDOWNS).evtP 0xA EVT.TH_SHUT).errP 0xA (tvCtx s.thermal.tv) 0xC603
  let s2 := match s1.landing.entry with
    | some e => abortEntry s1 e 0xA 8 9 none
    | none => s1
  eachSlice s2 shutSlice

/-- SHUT cleared (R507): the serving slices restart from their checkpoints. -/
def shutEnds (s : State) : State :=
  (servers s).foldl (fun (s : State) p => if (s.sl p).running then s else restartSlice s p .outage)
    (s.evtP 0xA EVT.TH_SHUT)

/-- The shutdown (R505, R507): with two or more sensors broken it does not clear. -/
def judgeShut (s : State) : State :=
  let was := s.thermal.shut
  let now := thFlag was s.thermal.tv 12500 10500 || (was && decide (2 ≤ brokenCount s.thermal.sens))
  let s1 := s.onTh (fun th => { th with shut := now })
  if was = now then s1 else if now then shutDown s1 else shutEnds s1

/-- DIE_SENSOR_SAMPLE (R504 to R507). -/
def dieSample (s : State) (t1 t2 t3 : Int) : State :=
  if !s.porchRuns then s
  else
    let dt := sampleMs s
    let s1 := takeSensors s t1 t2 t3
    let b := if 2 ≤ brokenCount s1.thermal.sens then 5 else bandStep s1.thermal.band s1.thermal.tv
    judgeShut (applyFactor (judgeThrottle (judgeWarn (refreshRate (publishBand s1 b)))) dt)

/-! ### The commands -/

/-- 0x0501 (R377). -/
def execPowerStateRequest (x : Exec) (s : State) : Host.Outcome State Fault Refusal :=
  go (if s.porchNext x then powerRequest s x else s)
/-- HANDSHAKE_ANSWER (R488). -/
def execHandshakeAnswer (vote : Vote) (reason : BitVec 8) (s : State) : Host.Outcome State Fault Refusal :=
  go (handshake s vote reason.toNat)
/-- HANDSHAKE_DELAY_RETRY (R488). -/
def execHandshakeDelayRetry (s : State) : Host.Outcome State Fault Refusal := go (askAgain s)
/-- HANDSHAKE_TIMEOUT (R488). -/
def execHandshakeTimeout (s : State) : Host.Outcome State Fault Refusal := go (noAnswer s)
/-- ENTRY_BOUNDARY_DEFER (R490). -/
def execEntryBoundaryDefer (s : State) : Host.Outcome State Fault Refusal := go (endDefer s)
/-- ENTRY_BOUNDARY_ABORT (R490). -/
def execEntryBoundaryAbort (s : State) : Host.Outcome State Fault Refusal := go (boundaryAbort s)
/-- WAKE_EVENT (R493). -/
def execWakeEvent (src : WakeSrc) (bad : List Phys) (s : State) : Host.Outcome State Fault Refusal :=
  go (wakeEvent s src bad)
/-- WAKE_TIMER_EXPIRY (R493): WAKE_AFTER seconds after the completion of the entry. -/
def execWakeTimerExpiry (bad : List Phys) (s : State) : Host.Outcome State Fault Refusal :=
  go (if s.cellar.timer = 0 then s else wakeEvent (s.onCl (fun c => { c with timer := 0 })) .timer bad)
/-- WAKE_EVENT_DELIVERY (R496). -/
def execWakeEventDelivery (s : State) : Host.Outcome State Fault Refusal := go (nextWake s)
/-- DIE_SENSOR_SAMPLE (R504). -/
def execDieSensorSample (t1 t2 t3 : Int) (s : State) : Host.Outcome State Fault Refusal := go (dieSample s t1 t2 t3)

end Sys2Proof.Machine
end

