-- ==== Sys2Proof/Machine/Upkeep.lean ====
section
/-! DEFINITION. Faults, repair, migration, hallway calibration, MRAM upkeep, the collector and wear (chapter 16). -/
namespace Sys2Proof.Machine

/-- One day and 30 days in µs. -/
def dayUs : Nat := 86400000000

/-- The instants of a list within `span` µs before now. -/
def recent (now span : Nat) (l : List Nat) : List Nat := l.filter (fun t => now < t + span)

/-! ### Self-tests (R516, R517) -/

/-- A full self-test of a slice that serves no zone (R515, R517): one that fails is declared FAILED. -/
def fullTest (s : State) (p : Phys) (bits : BitVec 11) : State :=
  let s1 := recordTest s p bits true
  if bits = 0 then s1
  else match (s1.sl p).life with
    | .factoryOut | .failed => s1.err p 0 p.val 0x8805
    | _ => failSlice s1 p 0x8805 7

/-! ### Slice faults (R515) -/

/-- Whether a slice is powered: it runs, or a repair prepares it (R523). -/
def powered (s : State) (p : Phys) : Bool := (s.sl p).power == .on

/-- A target powered for its preparation (R523); its edges stay clamped. -/
def powerTarget (s : State) (t : Phys) : State :=
  (s.onSl t (fun x => changeSupply x .on (sliceMhz s t) s.thermal.band)).notePwrs (slicePages t)

/-- A slice reset and restarted from its checkpoint with its held outputs (R515). -/
def resetSlice (s : State) (p : Phys) : State :=
  if (s.sl p).running then
    restartSlice (mendColumns ((stopSlice s p).bump p F.ZW_SLC_STAT_RESTARTS) p) p .restart
  else s

/-- HEARTBEAT_MISS: the second one within an hour fails the slice. -/
def missBeat (s : State) (p : Phys) : State :=
  if !(s.sl p).running then s
  else if (recent s.now 3600000000 (s.sl p).misses).isEmpty then
    resetSlice (s.onSl p (fun x => { x with misses := [s.now] })) p
  else failSlice s p 0x8802 2

/-- SRAM_UNCORRECTABLE: the second one within 24 h fails the slice. -/
def badWord (s : State) (p : Phys) : State :=
  if !(s.sl p).running then s
  else
    let l := recent s.now dayUs (s.sl p).uncorr
    let s1 := (s.onSl p (fun x => { x with uncorr := l ++ [s.now] })).w p F.ZW_G_SRAM_UNCORR (l.length + 1)
    if l.isEmpty then resetSlice s1 p else failSlice s1 p 0x8803 3

/-- SRAM_SCRUB: corrected words counted over 24 h; a failing column with no spare left fails the slice. -/
def scrubSram (s : State) (p : Phys) (n : Nat) (column : Bool) : State :=
  if !(s.sl p).running then s
  else
    let l := recent s.now dayUs (s.sl p).corr ++ List.replicate n s.now
    let u := recent s.now dayUs (s.sl p).uncorr
    let s1 := s.onSl p (fun x => { x with corr := l, uncorr := u })
    let s2 := (s1.w p F.ZW_G_SRAM_CORR (satTo 16 l.length)).w p F.ZW_G_SRAM_UNCORR (satTo 8 u.length)
    if !column then s2
    else if s2.g p F.ZW_G_SRAM_COLS_LEFT ≤ (s2.sl p).badCols then failSlice s2 p 0x8803 4
    else s2.onSl p (fun x => { x with badCols := x.badCols + 1 })

/-! ### Hallway paths (R527, R528, R540) -/

/-- The hallway's path of a zone over a spare slice, as CTX codes it. -/
def pathOf (z : Zone) (k : Fin 4) : Nat := z.val * 4 + k.val

/-- The spare slice S(64 + k). -/
def spareSlice (k : Fin 4) : Phys := ⟨64 + k.val, by omega⟩

/-- Whether every switch of a path lies within 1.0 … 7.0 Ω. -/
def switchesGood (v : Vector Nat 18) : Bool := v.all (fun r => decide (1000 ≤ r) && decide (r ≤ 7000))

/-- Whether a path's coefficient lies within 2,000 … 6,000 ppm/K. -/
def alphaGood (a : Nat) : Bool := decide (2000 ≤ a) && decide (a ≤ 6000)

/-- Whether a path is valid (R528); one in use keeps its validity. -/
def pathValid (s : State) (z : Zone) (k : Fin 4) : Bool :=
  let c := s.path (pathOf z k)
  c.done && !c.unusable && switchesGood c.r25 && alphaGood c.alpha
    && (decide (s.now ≤ c.time + 30 * dayUs) || s.sliceOf z == spareSlice k)

/-- A path marked UNUSABLE with E-8702 (R528). -/
def spoilPath (s : State) (i : Nat) : State :=
  let c := s.path i
  let s1 := (s.onUp (fun u => { u with paths := smPut u.paths i { c with unusable := true } })).errP 0x51 i 0x8702
  if c.unusable then s1 else s1.evtP 0x51 EVT.HCAL_UNUSABLE

/-- A path calibrated (R527, R528). -/
def calPath (s : State) (m : PathMeas) : State :=
  let i := pathOf m.zone m.spare
  let was := (s.path i).unusable
  let c : PathCal := { r25 := m.r25, alpha := m.alpha, time := s.now, done := true, unusable := was }
  let s1 := (s.onUp (fun u => { u with paths := smPut u.paths i c })).evtP 0x51 EVT.HCAL_CAL
  if !switchesGood m.r25 then spoilPath s1 i
  else if alphaGood m.alpha then s1.onUp (fun u => { u with paths := smPut u.paths i { c with unusable := false } })
  else s1

/-- Whether a slice may be calibrated: a free spare (R378, R528). -/
def freeSpare (s : State) (k : Fin 4) : Bool :=
  (s.sl (spareSlice k)).life == .spare || (s.sl (spareSlice k)).life == .testing

/-- PATH_RECALIBRATION (R528): one path of a free spare. -/
def recalibrate (s : State) (m : PathMeas) : State :=
  if s.porchRuns && freeSpare s m.spare then calPath s m else s

/-- PATH_EXPIRY (R528): a path more than 30 days old. -/
def expirePath (s : State) (z : Zone) (k : Fin 4) : State :=
  let i := pathOf z k
  let c := s.path i
  if s.porchRuns && c.done && !c.aged && decide (c.time + 30 * dayUs < s.now) then
    (s.onUp (fun u => { u with paths := smPut u.paths i { c with aged := true } })).errP 0x51 i 0x4701
  else s

/-- PATH_RECORD_COPY (R540). -/
def copyPath (s : State) (z : Zone) (k : Fin 4) : State :=
  let i := pathOf z k
  let c := s.path i
  let s1 := (s.pw F.HWY_CAL_SEL_SPARE k.val).pw F.HWY_CAL_SEL_ZONE z.val
  let s2 := (s1.pwb F.HWY_CAL_PATH_VALID (pathValid s z k)).pwb F.HWY_CAL_PATH_UNUSABLE c.unusable
  let age := if c.done then satTo 14 ((s.now - c.time) / dayUs) else 0
  let s3 := (s2.pw F.HWY_CAL_PATH_AGE age).pw F.HWY_CAL_PATH_ALPHA c.alpha
  (List.finRange 18).foldl (fun (s : State) (j : Fin 18) =>
    (s.pw F.HWY_CAL_RES_i_R25 c.r25[j] j.val).pw F.HWY_CAL_RES_i_RNOW
      (clampInt 0 65535 (Config.toUnits (pathOhm s c j.val * 1000))).toNat j.val) s3

/-- The measurements that 0x0603 uses: those of the spare slices it calibrates and the zones it names. -/
def calMeasures (s : State) (x : Exec) (l : List PathMeas) : List PathMeas :=
  l.filter (fun m => x.names m.zone && (x.byte 0 == 0xFF || x.byte 0 == 64 + m.spare.val) && freeSpare s m.spare)

/-- 0x0603 (R378, R528): the zones' markers; FAULT 0x0001 for a zone with a path outside its limits. -/
def hallwayCal (s : State) (x : Exec) (l : List PathMeas) : State :=
  let free := (List.finRange 4).filter (fun k => (x.byte 0 == 0xFF || x.byte 0 == 64 + k.val) && freeSpare s k)
  let ms := calMeasures s x l
  let bad := fun (z : Zone) => ms.any (fun m => m.zone == z && !(switchesGood m.r25 && alphaGood m.alpha))
  let s1 := ms.foldl calPath (unqueue s x.lseq)
  x.zones.foldl (fun (s : State) z =>
    if free.isEmpty then markZone s x.lseq z resFault 2 0
    else if bad z then markZone s x.lseq z resFault 1 0
    else markZone s x.lseq z resDone 0 0) s1

/-! ### Choosing a target (R521) -/

/-- The target that a repair of zone `z` takes, or the FAULT reason: `named` is none for TARGET 0xFF. -/
def chooseTarget (s : State) (z : Zone) (named : Option Phys) : Phys ⊕ Nat :=
  match named with
  | some t =>
    if (s.sl t).life ≠ .spare then .inr 2
    else if t.val = z.val then .inl t
    else if t.val < 64 then .inr 2
    else match (List.finRange 4).find? (fun k => spareSlice k == t) with
      | some k => if pathValid s z k then .inl t else .inr 3
      | none => .inr 2
  | none =>
    let free := (List.finRange 4).filter (fun k => (s.sl (spareSlice k)).life == .spare)
    match free.find? (fun k => pathValid s z k) with
    | some k => .inl (spareSlice k)
    | none => .inr (if free.isEmpty then 1 else 3)

/-- What the preparation of a target ends in. -/
inductive Prep where
  | ready | failed | badPath
  deriving DecidableEq, Repr

/-- A target prepared (R521, R523): quick self-test, then the path precheck. -/
def tryTarget (s : State) (z : Zone) (t : Phys) (c : TargetCheck) : State × Prep :=
  let bits := c.test &&& quickMask
  let s1 := recordTest s t bits false
  if bits ≠ 0 then (failSlice s1 t 0x8805 7, .failed)
  else if !c.pathOk && decide (64 ≤ t.val) then (spoilPath s1 (pathIndex z t), .badPath)
  else (s1, .ready)

/-- One further target, chosen as TARGET 0xFF would choose it (R521). -/
def nextTarget (s : State) (z : Zone) (c : TargetCheck) (first : Prep) : State × (Phys ⊕ Nat) :=
  match chooseTarget s z none with
  | .inr why => (s, .inr why)
  | .inl t =>
    match tryTarget s z t c with
    | (s1, .ready) => (s1, .inl t)
    | (s1, second) =>
      (s1, .inr (if first = .failed ∧ second = .failed then 6
        else match chooseTarget s1 z none with
          | .inr why => why
          | .inl _ => 1))

/-- The target of a repair after at most two tries (R521), and whether it is the second. -/
def prepare (s : State) (z : Zone) (named : Option Phys) (l : List TargetCheck) : State × (Phys ⊕ Nat) × Bool :=
  match chooseTarget s z named with
  | .inr why => (s, .inr why, false)
  | .inl t =>
    match tryTarget s z t (l.getD 0 {}) with
    | (s1, .ready) => (s1, .inl t, false)
    | (s1, first) =>
      let r := nextTarget s1 z (l.getD 1 {}) first
      (r.1, r.2, true)

/-! ### Starting and declining a repair (R519 to R522, R525) -/

/-- The commands of a zone that no slice takes completed with FAULT 0x00F0 (R345). -/
def faultZone (s : State) (z : Zone) : State :=
  let p := s.sliceOf z
  let t := match s.ckptOf p with | some c => c.zone.taken | none => 0
  let s1 := (above s z t).foldl (fun (s : State) x => markZone s x.lseq z resFault 0xF0 0) s
  let drop := fun (h : Handing) => { h with left := h.left &&& ~~~ (BitVec.ofNat 64 (zbit z)) }
  (s1.onSl p (fun y => { y with inbox := [] })).onJ (fun j => { j with
    handover := (j.handover.map drop).filter (fun h => h.left != 0) })

/-- A repair declined (R522). -/
def decline (s : State) (z : Zone) : State :=
  let s1 := (s.pbump F.PCH_RM_CNT_DECLINED).errP 0x10 z.val 0xCE03
  faultZone (s1.onUp (fun u => { u with declined := if u.declined.contains z then u.declined else u.declined ++ [z] })) z

/-- The marker of a repair command: of its zone for 0x0601, of the porch for 0x0604 (R378). -/
def markRepair (s : State) (opcode : BitVec 16) (lseq : Nat) (z : Zone) (result reason : Nat) (value : Word) : State :=
  if opcode = 0x0601 then markZone s lseq z result reason value else markPorch s lseq result reason value

/-- A repair that ends in FAULT (R521, R522): an unplanned one is declined. -/
def failRepair (s : State) (opcode : BitVec 16) (lseq : Nat) (z : Zone) (why : Nat) (planned : Bool) : State :=
  let s1 := markRepair (unqueue s lseq) opcode lseq z resFault why 0
  if planned then s1 else decline s1 z

/-- The repair under way changed; BUSY of the hallway page follows its window (R59, R65). -/
def State.onRepair (s : State) (f : Option Repair → Option Repair) : State :=
  notePorchBusy s (s.onUp (fun u => { u with repair := f u.repair }))

/-- A repair begun (R521, R523, R525): the target is powered and prepared; an unplanned one opens its MOVING window at once. -/
def startRepair (s : State) (x : Exec) (z : Zone) (named : Option Phys) (mapOut : Bool) (l : List TargetCheck) : State :=
  let old := s.sliceOf z
  let planned := (s.sl old).life == .serving
  if !planned && (s.ckptOf old).isNone then failRepair s x.opcode x.lseq z 5 planned
  else
    let r := prepare s z named l
    match r.2.1 with
    | .inr why => failRepair r.1 x.opcode x.lseq z why planned
    | .inl t =>
      let s1 := setLife (powerTarget (unqueue r.1 x.lseq) t) t .moving 0
      let s2 := if planned then setLife s1 old .moving (s1.sl old).cause
        else (slicePages old).foldl (fun (s : State) g => s.touch g) s1
      let rep : Repair := {
        lseq := x.lseq, opcode := x.opcode, zone := z, old := old, target := t, planned := planned,
        second := r.2.2, held := !planned, mapOut := mapOut }
      (s2.onUp (fun u => { u with declined := u.declined.filter (fun y => y != z) })).onRepair (fun _ => some rep)

/-- 0x0601 (R378). -/
def migrateZone (s : State) (x : Exec) (l : List TargetCheck) : State :=
  if s.upkeep.repair.isSome then s
  else match x.zones.head? with
    | some z =>
      let t := x.byte 0
      startRepair s x z (if h : t < 68 then some ⟨t, h⟩ else none) false l
    | none => s

/-- REPAIR_START (R519, R520): with AUTO 1 the porch writes an internal 0x0601 for a zone whose slice has failed or is
worn. -/
def autoRepair (s : State) (z : Zone) (l : List TargetCheck) : State :=
  let p := s.sliceOf z
  let due := (s.sl p).life == .failed || ((s.sl p).life == .serving && s.gb p F.ZW_STAT_WORN)
  if !s.porchRuns || !s.pb F.PCH_RM_POLICY_AUTO || s.modst.state == 0 || !due || s.upkeep.repair.isSome
      || group6Runs s then s
  else
    let n := s.journal.next
    let x : Exec := {
      lseq := n, source := 0, seq := 0, opcode := 0x0601, zmask := BitVec.ofNat 64 (zbit z), payload := [0xFF, 0, 0, 0] }
    let s1 := fillRules (addEntry s {
      source := 0, kind := .head 0 0 0x0601 0 4 x.zmask 0 x.payload })
    startRepair (s1.onJ (fun j => { j with running := j.running ++ [{ x := x, internal := true }] })) x z none false l

/-! ### The swap (R50, R144, R523, R525) -/

/-- Run-time controls returned to their reset values (R50). -/
def resetControls (f : RegFile) : RegFile :=
  f.foldl (fun g c =>
    match regAt c.1 with
    | some r =>
      let m := BitVec.ofNat 32 (rwMaskAt r c.1)
      if m = 0 then g else rfPut g c.1 ((c.2 &&& ~~~ m) ||| (regReset c.1 &&& m))
    | none => g) f

/-- The conversion results returned to their reset values (R144): page subpage 0x03. -/
def resetResults (f : RegFile) : RegFile := f.filter (fun c => c.1 / 0x1000 != 0x103)

/-- A checkpoint with the run-time controls and the results of a slice that takes its zone up anew (R50, R144). -/
def Ckpt.atMove (c : Ckpt) : Ckpt :=
  { c with zone := { c.zone with regs := resetResults (resetControls c.zone.regs), latch := [] } }

/-- The header registers that survive a migration taken over by the pages of the new slice (R50, R573). -/
def moveHeaders (s : State) (old new : Phys) : State :=
  (List.range 14).foldl (fun (s : State) k =>
    let h := s.hdr (slicePage old k)
    let s1 := s.onHdr (slicePage new k) (fun g => { g with
      ctrl := h.ctrl, ier := h.ier, lock := h.lock, sealOn := h.sealOn, badKey := h.badKey, draughtUnl := h.draughtUnl,
      draught := h.draught, draughtP := h.draughtP })
    s1.onHdr (slicePage old k) (fun g => { g with draught := 0, draughtP := 0, draughtUnl := false })) s

/-- REHOME in every alias page of the zone (R50). -/
def setRehome (s : State) (p : Phys) : State :=
  (List.range 14).foldl (fun (s : State) k => s.evt p k 4) s

/-- What the old slice becomes (R378, R523): its state and cause. -/
def oldLife (s : State) (r : Repair) : SliceState × Nat :=
  let x := s.sl r.old
  if r.mapOut then (.retired, 9)
  else match x.life with
    | .moving | .serving => if s.gb r.old F.ZW_STAT_WORN then (.retired, 8) else (.spare, 0)
    | l => (l, x.cause)

/-- The durable state of a zone given to the slice that takes it up: checkpoints with the run-time controls at reset, and postings,
in both banks. -/
def giveZone (s : State) (old new : Phys) (ck : Option Ckpt) : State :=
  let x := s.sl old
  let s1 := s.onSl new (fun y => { y with
    ckpt := ck, ckptOld := x.ckptOld.map Ckpt.atMove, posting := s.postingOf old, postingOld := x.postingOld,
    z := { y.z with regs := resetResults (resetControls y.z.regs), latch := [] } })
  ((s1.wrote (.ckpt new false)).wrote (.ckpt new true)).wrote (.posting new false)

/-- The commit point and the take-over by the target (R523): map and states, headers, checkpoint, REHOME, first tick with
MATCH and release; after a hold that a thermal shutdown met, the target stops under R507. The target loads the later of the last
checkpoint and the last posting (R525). -/
def takeOver (s0 : State) (r : Repair) : State :=
  let s := writeZone s0 r.zone
  let x := s.sl r.old
  let o := oldLife s r
  let ck := (restorePoint s r.old r.zone).map Ckpt.atMove
  let s1 := { s with map := s.map.set r.zone.val r.target r.zone.isLt }
  let s2 := (setLife s1 r.old o.1 o.2).evtP 0x50 EVT.HWY_MAP
  let s3 := giveZone ((setLife s2 r.target .serving 0).wrote .map) r.old r.target ck
  let s5 := (moveHeaders s3 r.old r.target).onRepair (fun _ => none)
  let s6 := reloadSlice s5 r.target r.zone .migration ck x.z.outs x.z.meter.cap (s5.postingOf r.target)
  let keys := if r.planned then x.z.panel else (s6.z r.target).panel
  let s7 := setRehome (adoptPanel s6 r.target keys) r.target
  let s8 := s7.pbump (if r.planned then F.PCH_RM_CNT_PLANNED else F.PCH_RM_CNT_UNPLANNED)
  let s9 := (stopSlice s8 r.old).onSl r.old (fun y => { y with inbox := [] })
  let s10 := loopTick s9 r.target
  let s11 := markRepair (s10.errP 0x10 (r.zone.val * 256 + r.target.val) 0x1E01) r.opcode r.lseq r.zone resDone 0
    (BitVec.ofNat 32 r.target.val)
  if s11.thermal.shut then shutSlice s11 r.target else s11

/-- Whether the hold of a planned migration may be placed (R524, R526): the old slice runs, no shutdown holds, and no
interval boundary lies within 1 s. -/
def holdAllowed (s : State) (r : Repair) : Bool :=
  let b := boundAt s s.now * minuteUs
  let e := (boundAt s s.now + lenAt s (s.now / minuteUs)) * minuteUs
  (s.sl r.old).running && !s.thermal.shut && decide (b + 1000000 ≤ s.now) && decide (s.now + 1000000 < e)

/-- The hold and the swap of a prepared repair. -/
def holdAndSwap (s : State) (r : Repair) : State :=
  if (s.sl r.old).life = .failed ∨ !r.planned then takeOver s { r with planned := false }
  else if holdAllowed s r then takeOver (stopSlice (writeCheckpoint (postMeter (forceClosings s r.old) r.old) r.old) r.old) r
  else s

/-- MIGRATION_HOLD (R521, R523 to R526): a target that has failed meanwhile gives way to one further target. -/
def migrationHold (s : State) (l : List TargetCheck) : State :=
  match s.upkeep.repair with
  | none => s
  | some r =>
    if !s.porchRuns then s
    else if (s.sl r.target).life = .moving then holdAndSwap s r
    else
      let end_ := fun (s : State) (why : Nat) =>
        let s1 := s.onRepair (fun _ => none)
        let live := (s1.sl r.old).life == .moving
        failRepair (if live then setLife s1 r.old .serving (s1.sl r.old).cause else s1) r.opcode r.lseq r.zone why live
      if r.second then end_ s 6
      else match nextTarget s r.zone (l.getD 0 {}) .failed with
        | (s1, .inr why) => end_ s1 why
        | (s1, .inl t) =>
          let r' := { r with target := t, second := true }
          holdAndSwap ((setLife (powerTarget s1 t) t .moving 0).onRepair (fun _ => some r')) r'

/-! ### Slice commands of group 0x06 (R378, R517) -/

/-- The slice that byte 0 of a payload names. -/
def namedSlice (x : Exec) : Option Phys := if h : x.byte 0 < 68 then some ⟨x.byte 0, h⟩ else none

/-- 0x0602 (R378): a full self-test of a slice that serves no zone. -/
def selfTest (s : State) (x : Exec) (bits : BitVec 11) : State :=
  match namedSlice x with
  | some p =>
    let s1 := if (s.zoneOf p).isNone then fullTest s p bits else s
    let v : Word := bits.setWidth 32
    if bits = 0 then porchDone s1 x resDone 0 v else porchDone s1 x resFault 1 v
  | none => s

/-- 0x0604 (R378, R517): a slice mapped out, its zone migrated first; or tested and returned to the pool. -/
def mapChange (s : State) (x : Exec) (bits : BitVec 11) (l : List TargetCheck) : State :=
  match namedSlice x with
  | none => s
  | some p =>
    if x.byte 1 = 0 then
      match s.zoneOf p with
      | some z => if s.upkeep.repair.isSome then s else startRepair s x z none true l
      | none =>
        porchDone (if (s.sl p).life = .factoryOut then s else setLife s p .retired 9) x resDone 0 0
    else
      let s1 := recordTest s p bits true
      let s2 := if bits = 0 then setLife s1 p .spare 0 else failSlice s1 p 0x8805 7
      porchDone s2 x resDone 0 (bits.setWidth 32)

/-- SPARE_DAILY_SELF_TEST (R517). -/
def dailyTest (s : State) (p : Phys) (bits : BitVec 11) : State :=
  if s.porchRuns && (s.sl p).life == .spare then fullTest s p bits else s

/-- 0x0605 (R519). -/
def setPolicy (s : State) (x : Exec) : State :=
  porchDone ((s.pwb F.PCH_RM_POLICY_AUTO (x.byte 0 == 1)).pw F.PCH_RM_POLICY_MARGIN (x.byte 1)) x resDone 0 0

/-! ### MRAM (R342, R530 to R532) -/

/-- An item that no bank holds (R348, R531): E-C315; an item of the journal is gone, another stays unreadable. -/
def itemGone (s : State) (d : DurItem) : State :=
  if heldItem s d then loseItem s d
  else
    let c := itemCtx s d
    (c.2.errP 3 c.1 0xC315).spoil { item := d, both := true }

/-- Items that no bank holds leave the module in RECOVERY (R348, R531). -/
def itemsGone (s : State) (l : List DurItem) : State :=
  if l.isEmpty then s else changeState (l.foldl itemGone s) 4

/-- MRAM_SCRUB (R530, R531): one row. A row that is rebuilt keeps what the other bank holds. -/
def scrubRow (s : State) (b : Fin 2) (row : Fin 8192) (found : RowFinding) : State :=
  if !s.porchRuns || !(s.bank b).ok then s
  else
    let s0 := if row.val = 8191 then s.evtP 0xF EVT.MR_SCRUB else s
    let other := s.bank (otherBank b)
    match found with
    | .clean => s0
    | .corrected =>
      let l := recent s.now (30 * dayUs) ((smFind (s.bank b).corr row.val).getD []) ++ [s.now]
      let s1 := (s0.pbump F.PCH_MR_CNT_CORRECTED).onBank b (fun k => { k with corr := smPut k.corr row.val l })
      if 3 ≤ l.length then remapRow s1 b row else s1
    | .missed l => s0.onBank b (fun k => l.foldl Bank.spoil k)
    | .uncorrectable l =>
      let s1 := s0.pbump F.PCH_MR_CNT_UNCORR
      itemsGone (if other.ok then remapRow s1 b row else bankOut s1 b) (l.filter (fun d => !other.holds d))
    | .bothBad l => itemsGone (bankOut (s0.pbump F.PCH_MR_CNT_UNCORR) b) l

/-- 0x0606 (R342, R378, R532): a bank tested, its bad rows remapped, every live item of the other bank copied into it, and returned to
service. -/
def returnBank (s : State) (x : Exec) (pass : Bool) (rows : List (Fin 8192)) : State :=
  let b : Fin 2 := if x.byte 0 = 0 then 0 else 1
  if (s.bank b).ok then porchDone s x resDone 0 0
  else
    let s1 := rows.foldl (fun (s : State) r => remapRow s b r) s
    if pass && decide (rows.length ≤ (s.bank b).spares) && decide (8 ≤ (s1.bank b).spares) then
      porchDone ((s1.onBank b (fun k => { k with ok := true, bad := (s1.bank (otherBank b)).bad })).evtP 3 EVT.LD_BANK) x
        resDone 0 0
    else porchDone s1 x resFault 1 0

/-! ### The collector (R513, R514, R539) -/

/-- The five words of a log entry before its CRC (R513). -/
def logWords (e : LogEntry) : List Word :=
  [BitVec.ofNat 32 e.eseq, e.entry, BitVec.ofNat 32 (e.page % 2 ^ 20 * 2 ^ 12 + sevOf e.entry * 2 ^ 8),
   BitVec.ofNat 32 e.time, BitVec.ofNat 32 (e.time / 2 ^ 32)]

/-- The six words of a log entry (R513). -/
def entryWords (e : LogEntry) : List Word :=
  let w := logWords e
  w ++ [crc32 ((w.map (fun v => leBytes 4 v.toNat)).flatten)]

/-- COLLECTOR_ENTRY_COPY (R539): the entry held with that ESEQ, else zeros. -/
def copyEntry (s : State) (n : Word) : State :=
  let s1 := s.pwWord R.PCH_EC_SEL n
  let w := match (s.coll.log ++ s.coll.buf).find? (fun e => e.eseq == n.toNat) with
    | some e => entryWords e
    | none => List.replicate 6 0
  (List.range 6).foldl (fun (s : State) i => s.pwWord R.PCH_EC_ENT_w (w.getD i 0) i) s1

/-! ### Porch engines (R24) -/

/-- ENGINE_TAKEOVER (R24, R526): the standby takes the role and a migration before its commit point is abandoned; with no
standby left the module enters RECOVERY. The manual gives the report no code: only its severity is fixed. -/
def engineLost (s : State) : State :=
  if !s.porchRuns then s
  else
    let r := s.freshNat
    let rep := s.upkeep.repair
    let s1 := abandonRepair (r.2.post 0 (entryOf (r.1 / 0x1000) (0x8000 + r.1 % 0x1000)))
    let s2 := match rep with
      | some q => markRepair s1 q.opcode q.lseq q.zone resFault 4 0
      | none => s1
    let n := s.upkeep.engines
    let s3 := s2.onUp (fun u => { u with engines := n - 1 })
    if n = 5 then
      let d := s3.freshNat
      d.2.onJ (fun j => { j with takeLeft := d.1 % 5001 })
    else changeState s3 4

/-! ### Stress and gauges (R533 to R536) -/

/-- AF of R533 at a die temperature [°C]. -/
def stressFactor (t : Rat) : Rat :=
  Config.exp ((81235 : Rat) / 10 * (1 / ((32815 : Rat) / 100) - 1 / (t + (27315 : Rat) / 100)))

/-- STRESS_ACCUMULATE (R533): one second of a powered slice. -/
def addStress (s : State) (p : Phys) (t : Rat) : State :=
  if powered s p then
    let v := (s.sl p).stress + stressFactor t / 3600
    (s.onSl p (fun x => { x with stress := v })).w p F.ZW_STRESS_S (clampInt 0 (2 ^ 32 - 1) (Config.toUnits v)).toNat
  else s

/-- The mean of the points of a week. -/
def meanPt (l : List GaugePt) : GaugePt :=
  { t := (l.foldl (fun n x => n + x.t) 0) / l.length, s := meanOf (l.map (fun x => x.s)), v := meanOf (l.map (fun x => x.v)) }

/-- A daily value stored (R534): 365 daily values are kept, and weekly means of those before. -/
def GaugeHist.add (h : GaugeHist) (x : GaugePt) : GaugeHist :=
  let d := h.daily ++ [x]
  if d.length < 372 then { h with daily := d }
  else { daily := d.drop 7, weekly := h.weekly ++ [meanPt (d.take 7)] }

/-- A gauge's stored values. -/
def State.gauge (s : State) (key : Nat) : GaugeHist := (smFind s.upkeep.hist key).getD {}

/-- A gauge sampled (R534). -/
def sampleGauge (s : State) (key : Nat) (stress v : Rat) : State :=
  let h := (s.gauge key).add { t := s.now, s := stress, v := v }
  s.onUp (fun u => { u with hist := smPut u.hist key h })

/-- Whether a part holds 30 daily values (R535). -/
def gaugeValid (h : GaugeHist) : Bool := decide (30 ≤ h.daily.length)

/-- Months of 30.44 days, rounded down and saturating at 255 (R535). -/
def monthsOf (m : Rat) : Nat := (clampInt 0 255 m.floor).toNat

/-- The sums of a least-squares line: count, means, Sxx, Sxy, Syy. -/
structure FitSums where
  n   : Nat
  mx  : Rat
  my  : Rat
  sxx : Rat
  sxy : Rat
  syy : Rat
  deriving DecidableEq, Repr

/-- The sums of a list of points. -/
def fitSums (l : List (Rat × Rat)) : FitSums :=
  let mx := meanOf (l.map (fun c => c.1))
  let my := meanOf (l.map (fun c => c.2))
  let sum := fun (f : Rat × Rat → Rat) => (l.map f).foldl (· + ·) 0
  { n := l.length, mx := mx, my := my, sxx := sum (fun c => (c.1 - mx) * (c.1 - mx)),
    sxy := sum (fun c => (c.1 - mx) * (c.2 - my)), syy := sum (fun c => (c.2 - my) * (c.2 - my)) }

/-- The abscissa at which the least-squares line of the points reaches `limit`; none where it never does. -/
def fitReach (l : List (Rat × Rat)) (limit : Rat) : Option Rat :=
  let f := fitSums l
  if f.sxx = 0 ∨ f.sxy = 0 then none else some (f.mx + (limit - f.my) * f.sxx / f.sxy)

/-- The first abscissa from `x0` on at which the one-sided 90 % prediction bound of the line reaches `limit` (R535): where
(limit − fit)² = t²·s²·(1 + 1/n + (x − x̄)²/Sxx), on the side of the line from which the gauge comes. -/
def boundReach (l : List (Rat × Rat)) (limit x0 : Rat) (rising : Bool) : Option Rat :=
  let f := fitSums l
  if f.sxx = 0 ∨ f.n ≤ 2 then none
  else
    let b := f.sxy / f.sxx
    let t := Config.studentT (f.n - 2)
    let k2 := t * t * ((f.syy - b * f.sxy) / ((f.n - 2 : Nat) : Rat))
    let c := 1 + 1 / (f.n : Rat)
    let h := limit - f.my
    let side := fun (u : Rat) => if rising then h - b * u else b * u - h
    let u0 := x0 - f.mx
    if side u0 ≤ 0 ∨ side u0 * side u0 ≤ k2 * (c + u0 * u0 / f.sxx) then some x0
    else
      let a := b * b - k2 / f.sxx
      let e := h * h - k2 * c
      let d := h * b * (h * b) - a * e
      let roots : List Rat :=
        if a = 0 then (if h * b = 0 then [] else [e / (2 * h * b)])
        else if d < 0 then []
        else [(h * b - Config.sqrt d) / a, (h * b + Config.sqrt d) / a]
      let ok := roots.filter (fun u => decide (u0 < u) && decide (0 ≤ side u))
      match ok with
      | [] => none
      | u :: m => some (f.mx + m.foldl min u)

/-- The fourth root, through the square root of Config. -/
def root4 (q : Rat) : Rat := Config.sqrt (Config.sqrt q)

/-- The mean stress rate of the last 30 days [h per month] (R535). -/
def stressRate (h : GaugeHist) (now : Nat) (s : Rat) : Rat :=
  match h.daily.find? (fun x => decide (now ≤ x.t + 30 * dayUs)) with
  | some x => if now ≤ x.t then 0 else (s - x.s) / ((now - x.t : Nat) : Rat) * (3044 * (dayUs : Rat) / 100)
  | none => 0

/-- The kinds of projection (R534). -/
inductive Trend where
  | root | stress | time
  deriving DecidableEq, Repr

/-- The abscissa of a stored value for a kind of trend. -/
def trendX (k : Trend) (x : GaugePt) : Rat :=
  match k with
  | .root => root4 x.s
  | .stress => x.s
  | .time => (x.t : Rat)

/-- The months until an abscissa is reached, from now. -/
def monthsTo (k : Trend) (h : GaugeHist) (now : Nat) (s x : Rat) : Nat :=
  match k with
  | .time => monthsOf ((x - (now : Rat)) / (3044 * (dayUs : Rat) / 100))
  | _ =>
    let goal := if k = .root then x * x * x * x else x
    let r := stressRate h now s
    if goal ≤ s then 0 else if r ≤ 0 then 255 else monthsOf ((goal - s) / r)

/-- EOL_MED and EOL_P10 of a trend gauge (R535): 0 once its value is past the limit. -/
def trendEol (k : Trend) (h : GaugeHist) (now : Nat) (s v limit : Rat) (rising : Bool) : Nat × Nat :=
  let pts := (h.weekly ++ h.daily).map (fun x => (trendX k x, x.v))
  if !gaugeValid h then (255, 255)
  else if (if rising then limit ≤ v else v ≤ limit) then (0, 0)
  else
    let x0 : Rat := match k with | .root => root4 s | .stress => s | .time => (now : Rat)
    let worse := decide (if rising then 0 < (fitSums pts).sxy else (fitSums pts).sxy < 0)
    (match fitReach pts limit with
      | some x => if x0 < x then monthsTo k h now s x else if worse then 0 else 255
      | none => 255,
     match boundReach pts limit x0 rising with
      | some x => monthsTo k h now s x
      | none => 255)

/-- EOL_MED and EOL_P10 of a count gauge with `r` units left (R535). -/
def countEol (h : GaugeHist) (now r : Nat) : Nat × Nat :=
  let before : Rat := match h.daily.find? (fun x => decide (now ≤ x.t + 180 * dayUs)) with | some x => x.v | none => r
  let lam : Rat := (before - (r : Rat)) / 6
  if !gaugeValid h then (255, 255)
  else if r = 0 then (0, 0)
  else if lam ≤ 0 then (255, 255)
  else (monthsOf (Config.chi2 (1 / 2) (2 * r) / (2 * lam)), monthsOf (Config.chi2 (1 / 10) (2 * r) / (2 * lam)))

/-- The key of a slice gauge's stored values. -/
def gaugeKey (p : Phys) (code : Nat) : Nat := p.val * 16 + code

/-- The largest magnitude among the trims of a slice's bands. -/
def maxTrim (s : State) (p : Phys) (f : Trims → Int) : Nat := (s.sl p).trims.toList.foldl (fun n t => max n (f t).natAbs) 0

/-- The gauges of a slice as sampled: code, value. -/
def sliceGauges (s : State) (g : SliceGauges) : List (Nat × Rat) :=
  [(1, (g.shift : Rat)), (2, ((s.g g.p F.ZW_G_SRAM_COLS_LEFT : Nat) : Rat)),
   (3, ((maxTrim s g.p (fun t => t.gain) : Nat) : Rat) / 10), (4, ((g.margin : Nat) : Rat))]
    ++ (List.finRange 5).map (fun (j : Fin 5) => (5 + j.val, ((g.drv[j] : Nat) : Rat)))

/-- EOL of a slice's gauge by its code. -/
def gaugeEol (s : State) (p : Phys) (c : Nat × Rat) : Nat × Nat :=
  let h := s.gauge (gaugeKey p c.1)
  let st := (s.sl p).stress
  match c.1 with
  | 1 => trendEol .root h s.now st c.2 800 true
  | 2 => countEol h s.now c.2.floor.toNat
  | 3 => trendEol .stress h s.now st c.2 4500 true
  | 4 => trendEol .stress h s.now st c.2 50 false
  | n => trendEol .stress h s.now st c.2 (if n ≤ 6 then 40000 else if n = 7 then 1000 else 2000) true

/-- The gauge with the least horizon: code, EOL_MED, EOL_P10 (by EOL_P10, then EOL_MED). -/
def limiting (l : List (Nat × Nat × Nat)) : Nat × Nat × Nat :=
  match l with
  | [] => (0, 255, 255)
  | c :: t => t.foldl (fun b d => if d.2.2 < b.2.2 ∨ (d.2.2 = b.2.2 ∧ d.2.1 < b.2.1) then d else b) c

/-- The drivers' predictions of a slice (R536): a worn driver raises E-4E07. -/
def judgeDrivers (s : State) (p : Phys) (v : Bool) (e : List (Nat × Nat × Nat)) : State :=
  (List.finRange 5).foldl (fun (s : State) (j : Fin 5) =>
    match e.find? (fun c => c.1 == 5 + j.val) with
    | some c =>
      let margin := s.pg F.PCH_RM_POLICY_MARGIN
      let was := decide (s.g p F.ZW_DRV_j_EOL_P10 j.val ≤ margin)
      let s1 := (s.w p F.ZW_DRV_j_EOL_MED c.2.1 j.val).w p F.ZW_DRV_j_EOL_P10 c.2.2 j.val
      match s.zoneOf p with
      | some z => if v && decide (c.2.2 ≤ margin) && !was then s1.errP 0x10 (z.val * 256 + j.val) 0x4E07 else s1
      | none => s1
    | none => s) s

/-- A serving slice judged WORN (R536). -/
def judgeWorn (s : State) (p : Phys) (v : Bool) (p10 : Nat) : State :=
  if (s.zoneOf p).isNone ∨ (s.sl p).life ≠ .serving then s
  else
    let worn := v && decide (p10 ≤ s.pg F.PCH_RM_POLICY_MARGIN)
    if s.gb p F.ZW_STAT_WORN = worn then s
    else
      let s1 := (s.wb p F.ZW_STAT_WORN worn).evt p 0xC EVT.ZW_WORN
      if worn then (s1.evtP 0x10 EVT.RM_WORN).errP 0x10 p.val 0x4E02 else s1

/-- The measured gauges of a slice in its registers (R541). -/
def showGauges (s : State) (g : SliceGauges) : State :=
  let s1 := (s.wi g.p F.ZW_G_RO_SHIFT (satSigned 16 g.shift)).w g.p F.ZW_G_REG_MARGIN (satTo 16 g.margin)
  let s2 := (s1.w g.p F.ZW_G_ADC_GAIN (satTo 16 (maxTrim s g.p (fun t => t.gain) / 10))).w g.p F.ZW_G_ADC_SKEW
    (satTo 16 (maxTrim s g.p (fun t => t.skew)))
  (List.finRange 5).foldl (fun (s : State) (j : Fin 5) => s.w g.p F.ZW_DRV_j_G (satTo 16 g.drv[j]) j.val) s2

/-- A slice evaluated (R535, R536). -/
def evalSlice (s : State) (g : SliceGauges) : State :=
  let p := g.p
  let s1 := (sliceGauges s g).foldl (fun (s : State) c => sampleGauge s (gaugeKey p c.1) (s.sl p).stress c.2) (showGauges s g)
  let v := gaugeValid (s1.gauge (gaugeKey p 1))
  let e := (sliceGauges s1 g).map (fun c => (c.1, gaugeEol s1 p c))
  let m := limiting e
  let s2 := ((s1.wb p F.ZW_STAT_VALID v).w p F.ZW_STAT_LIMITING (if v then m.1 else 0)).w p F.ZW_STAT_EOL_MED m.2.1
  let s3 := (s2.w p F.ZW_STAT_EOL_P10 m.2.2).evtIf (s.g p F.ZW_STAT_EOL_P10 != m.2.2) p 0xC EVT.ZW_EOL
  judgeWorn (judgeDrivers s3 p v e) p v m.2.2

/-- The least of two pairs of horizons, each by itself. -/
def minEol (a b : Nat × Nat) : Nat × Nat := (min a.1 b.1, min a.2 b.2)

/-- The backup cell evaluated (R534 to R536): capacity [0.2 mAh], series resistance [20 Ω]. -/
def evalCell (s : State) (cap esr : Nat) : State :=
  let s1 := sampleGauge (sampleGauge s 2000 0 (cap : Rat)) 2001 0 (esr : Rat)
  let e := minEol (trendEol .time (s1.gauge 2000) s.now 0 cap 25 false) (trendEol .time (s1.gauge 2001) s.now 0 esr 100 true)
  let margin := s.pg F.PCH_RM_POLICY_MARGIN
  let s2 := ((s1.pw F.PCH_CELL_EOL_MED e.1).pw F.PCH_CELL_EOL_P10 e.2).pw F.PCH_CELL_CAP (satTo 8 cap)
  let s3 := s2.pw F.PCH_CELL_ESR (satTo 8 esr)
  let s4 := if s.pg F.PCH_CELL_EOL_MED = e.1 ∧ s.pg F.PCH_CELL_EOL_P10 = e.2 then s3 else s3.evtP 0x10 EVT.RM_CELL
  if gaugeValid (s1.gauge 2000) ∧ e.2 ≤ margin ∧ margin < s.pg F.PCH_CELL_EOL_P10 then s4.errP 0x10 0 0x4E08 else s4

/-- A bank evaluated (R534 to R536). -/
def evalBank (s : State) (b : Fin 2) : State :=
  let r := (s.bank b).spares
  let s1 := sampleGauge s (2010 + b.val) 0 (r : Rat)
  let e := countEol (s1.gauge (2010 + b.val)) s.now r
  let margin := s.pg F.PCH_RM_POLICY_MARGIN
  let s2 := (s1.pw F.PCH_MR_BANK_b_EOL_MED e.1 b.val).pw F.PCH_MR_BANK_b_EOL_P10 e.2 b.val
  if gaugeValid (s1.gauge (2010 + b.val)) ∧ e.2 ≤ margin ∧ margin < s.pg F.PCH_MR_BANK_b_EOL_P10 b.val then
    s2.errP 0xF b.val 0x4E0B
  else s2

/-- WEAR_EVALUATION (R535, R536). -/
def evaluateWear (s : State) (l : List SliceGauges) (cap esr : Nat) : State :=
  if s.porchRuns then evalBank (evalBank (evalCell (l.foldl evalSlice s) cap esr) 0) 1 else s

/-! ### The commands -/

/-- 0x0601 (R378). -/
def execMigrateZone (x : Exec) (checks : List TargetCheck) (s : State) : Host.Outcome State Fault Refusal :=
  go (if s.porchNext x then migrateZone s x checks else s)
/-- 0x0602 (R378). -/
def execSliceSelfTest (x : Exec) (result : BitVec 11) (s : State) : Host.Outcome State Fault Refusal :=
  go (if s.porchNext x then selfTest s x result else s)
/-- 0x0603 (R378). -/
def execHallwayCalibration (x : Exec) (measured : List PathMeas) (s : State) : Host.Outcome State Fault Refusal :=
  go (if s.porchNext x then hallwayCal s x measured else s)
/-- 0x0604 (R378). -/
def execSliceMapChange (x : Exec) (result : BitVec 11) (checks : List TargetCheck) (s : State) :
    Host.Outcome State Fault Refusal := go (if s.porchNext x then mapChange s x result checks else s)
/-- 0x0605 (R378). -/
def execRepairPolicy (x : Exec) (s : State) : Host.Outcome State Fault Refusal :=
  go (if s.porchNext x then setPolicy s x else s)
/-- 0x0606 (R378). -/
def execMramBankReturn (x : Exec) (pass : Bool) (remapped : List (Fin 8192)) (s : State) :
    Host.Outcome State Fault Refusal := go (if s.porchNext x then returnBank s x pass remapped else s)
/-- ENGINE_TAKEOVER (R24): whichever role was lost. -/
def execEngineTakeover (role : Role) (s : State) : Host.Outcome State Fault Refusal :=
  match role with
  | .dispatch | .journal | .bus | .timePower => go (engineLost s)
/-- SLICE_REGULATOR_TRIP (R515). -/
def execSliceRegulatorTrip (p : Phys) (s : State) : Host.Outcome State Fault Refusal :=
  go (if powered s p then failSlice s p 0x8801 1 else s)
/-- HEARTBEAT_MISS (R515). -/
def execHeartbeatMiss (p : Phys) (s : State) : Host.Outcome State Fault Refusal := go (missBeat s p)
/-- SRAM_UNCORRECTABLE (R515). -/
def execSramUncorrectable (p : Phys) (s : State) : Host.Outcome State Fault Refusal := go (badWord s p)
/-- SRAM_SCRUB (R515). -/
def execSramScrub (p : Phys) (corrected : Nat) (column : Bool) (s : State) : Host.Outcome State Fault Refusal :=
  go (scrubSram s p corrected column)
/-- SLICE_CLOCK_CALIBRATION_FAILED (R515). -/
def execSliceClockCalibrationFailed (p : Phys) (s : State) : Host.Outcome State Fault Refusal :=
  go (if powered s p then failSlice s p 0x8804 5 else s)
/-- SPARE_DAILY_SELF_TEST (R517). -/
def execSpareDailySelfTest (p : Phys) (result : BitVec 11) (s : State) : Host.Outcome State Fault Refusal :=
  go (dailyTest s p result)
/-- REPAIR_START (R520). -/
def execRepairStart (z : Zone) (checks : List TargetCheck) (s : State) : Host.Outcome State Fault Refusal :=
  go (autoRepair s z checks)
/-- MIGRATION_HOLD (R523). -/
def execMigrationHold (checks : List TargetCheck) (s : State) : Host.Outcome State Fault Refusal :=
  go (migrationHold s checks)
/-- PATH_RECALIBRATION (R528). -/
def execPathRecalibration (m : PathMeas) (s : State) : Host.Outcome State Fault Refusal := go (recalibrate s m)
/-- PATH_EXPIRY (R528). -/
def execPathExpiry (z : Zone) (spare : Fin 4) (s : State) : Host.Outcome State Fault Refusal := go (expirePath s z spare)
/-- MRAM_SCRUB (R530). -/
def execMramScrub (bank : Fin 2) (row : Fin 8192) (found : RowFinding) (s : State) : Host.Outcome State Fault Refusal :=
  go (scrubRow s bank row found)
/-- COLLECTOR_FLUSH (R514). -/
def execCollectorFlush (s : State) : Host.Outcome State Fault Refusal := go (flushCollector s)
/-- STRESS_ACCUMULATE (R533). -/
def execStressAccumulate (p : Phys) (dieTemp : Rat) (s : State) : Host.Outcome State Fault Refusal :=
  go (addStress s p dieTemp)
/-- WEAR_EVALUATION (R536). -/
def execWearEvaluation (w : List SliceGauges) (cap esr : Nat) (s : State) : Host.Outcome State Fault Refusal :=
  go (evaluateWear s w cap esr)

end Sys2Proof.Machine
end

