-- ==== Sys2Proof/Machine/Start.lean ====
section
/-! DEFINITION. Supply, start-up, module reset and the porch commands of groups 0x07 and 0x7F (chapters 11, 17, 18). -/
namespace Sys2Proof.Machine

/-- The supply changed. -/
def State.onSu (s : State) (f : Supply → Supply) : State := { s with supply := f s.supply }

/-! ### What a restart resets (R50, R58 to R70, R346, R403, R414, R579) -/

/-- Porch registers that MRAM holds: they survive a restart. -/
def keptKeys : List Nat :=
  [R.PCH_DSP_CFG.at 0, R.PCH_RS_CFG.at 0, R.FB_CFG.at 0, R.FB_CFG.at 1, R.PCH_RM_POLICY.at 0, R.PCH_CELL.at 0,
   R.PCH_MR_BANK_b.at 0, R.PCH_MR_BANK_b.at 1]

/-- The porch registers after a restart: those MRAM holds and the cellar's own stay; the time source and the master ports
stay (R376); the others return to their reset values. -/
def restartRegs (s : State) : State :=
  let src := s.pg F.PCH_TS_STAT_SRC
  let mas := s.pg F.PCH_TS_STAT_MASTER
  let kept := s.regs.filter (fun c => keptKeys.contains c.1 || (0x40 ≤ c.1 / 0x1000 && c.1 / 0x1000 ≤ 0x43))
  ({ s with regs := kept, latch := [] }.pw F.PCH_TS_STAT_SRC src).pw F.PCH_TS_STAT_MASTER mas

/-- The header shadows after a restart: only SEAL survives (R68, R69, R579). -/
def restartHdrs (s : State) : State :=
  { s with hdrs := s.hdrs.map (fun c => (c.1, { ({} : Hdr) with sealOn := c.2.sealOn })) }

/-- A checkpoint with the run-time controls at their reset values (R50). -/
def Ckpt.atRestart (c : Ckpt) : Ckpt := { c with zone := { c.zone with regs := resetControls c.zone.regs } }

/-- A slice whose memory was lost, stopped and without power: what it will run is its checkpoint, its trims are those it last stored
(R138); the registers of the physical slice that MRAM holds stay; its outputs are `o`. A capture is still to be aborted (R180). -/
def restartSliceMem (s : State) (p : Phys) (o : Outs) : State :=
  s.onSl p (fun x =>
    let ck := x.ckpt.map Ckpt.atRestart
    let zone : ZoneState := match ck with | some c => c.zone | none => {}
    let own := x.z.regs.filter (fun c => c.1 / 0x1000 != 0x10D)
    { changeSupply x .off 0 s.thermal.band with
      running := false, clamped := true, inbox := [], misses := [], ckpt := ck, ckptOld := x.ckptOld.map Ckpt.atRestart,
      ckptDue := false, trims := x.trimsCk, life := if x.life = .testing then .spare else x.life,
      z := { zone with
        regs := mergeRegs zone.regs own, latch := [], outs := { o with fact := 100 },
        meter := { zone.meter with cap := x.z.meter.cap },
        conv := { band := s.thermal.band, bandNext := s.thermal.band } } })

/-- Every slice's memory lost, its outputs as they stand. -/
def restartSlices (s : State) : State := eachSlice s (fun s p => restartSliceMem s p (s.z p).outs)

/-- The units of the porch that no memory keeps, after a restart. -/
def restartUnits (s : State) : State :=
  let s1 := { s with
    link := {}, spi := {}, thermal := { ({} : Thermal) with band := s.thermal.band, tv := s.thermal.tv } }
  let s2 := s1.onJ (fun j => { j with replay := true, takeLeft := 0, opened := false, ahead := 0 })
  let s3 := { s2 with
    modst := { s2.modst with bitPass := false, bitTest := 0, bitRes := 0, resumed := false },
    store := { s2.store with winBusy := false, winValid := false, win := [] } }
  (porchSettings (s3.onLd (fun l => { l with state := 0, clamped := [], entry := none }))).onCl (fun c => { c with timer := 0 })

/-- The parts of the porch that no memory keeps. -/
def restartPorch (s : State) : State := restartUnits (restartHdrs (restartRegs s))

/-- The module state after a restart (R558): TEST resumes as COMMISSION. -/
def resumeState (s : State) : State :=
  if s.modst.state = 3 then
    let s1 := changeState s 1
    { s1 with modst := { s1.modst with resumed := true } }
  else s

/-- The porch runs again (R471, R430, R557): house time from the calendar, the ports, the module state. -/
def porchStarts (s : State) : State := resumeState (restartPorts (timeStart s))

/-! ### Supply (R552, R554) -/

/-- SUPPLY_OUT_OF_RANGE (R552): VIN in mV; RANGE clears within 18 … 32 V. -/
def supplyRange (s : State) (vin : Nat) : State :=
  if !s.supply.powered then s
  else
    let s1 := s.onSu (fun u => { u with vin := vin })
    if 18000 ≤ vin ∧ vin ≤ 32000 then s1.onSu (fun u => { u with range := false })
    else if (16500 ≤ vin ∧ vin ≤ 36000) ∧ !s.supply.range then
      (s1.onSu (fun u => { u with range := true })).errP 9 (vin / 100) 0x450A
    else s1

/-- PRECHARGE (R554): the input capacitance charges through the P contacts. -/
def prechargeInput (s : State) : State :=
  if s.supply.powered then s else s.onSu (fun u => { u with precharged := true })

/-! ### Start-up (R557, R558) -/

/-- The outputs of a slice at the return of power (R300, R302): SAFE driven, and held at the sill until its slice takes
them up. -/
def safePads (s : State) (p : Phys) : State :=
  let s1 := restartSliceMem s p { ({} : Outs) with
    band := s.thermal.band, o := Vector.replicate 5 { slewRow := s.thermal.band } }
  (List.finRange 5).foldl (fun (s : State) (j : Fin 5) =>
    (driveSafe s p j).onOut p j (fun o => { o with held := true, heldVal := o.applied })) s1

/-- E-8509 and RECOVERY when acceptance opens with a hold-up below 60 µF (R553). -/
def openWithHoldup (s : State) : State :=
  let cap := s.supply.capUf
  if cap < 60 then changeState (openAcceptance (s.errP 9 cap 0x8509)) 4 else openAcceptance s

/-- START_UP (R557): from the start conditions to acceptance; a hold-up of 0 µF does not charge, and acceptance waits for
HOLDUP_TIMEOUT. It is also the way out of SHELF (R486). -/
def startUp (s : State) (x : StartInfo) : State :=
  if s.supply.powered && s.supply.started && s.landing.state != 4 then s
  else
    let s1 := s.onSu (fun u => { u with
      powered := true, started := true, range := false, pdet1 := false, pdet2 := false, inputOff := false, railOn := true,
      capUf := x.capUf, low := decide (x.capUf < 60), charging := x.capUf == 0,
      holdupMv := if x.capUf = 0 then 0 else 36000, durMs := satTo 16 x.durMs })
    let s2 := porchStarts (eachSlice (restartPorch s1) safePads)
    let s3 := replayRun (quickTests s2 x.tests) x.bad x.replayMs
    if x.capUf = 0 then s3 else openWithHoldup s3

/-- HOLDUP_TIMEOUT (R557): not charged within 500 ms. -/
def holdupLate (s : State) : State :=
  if s.supply.started && s.supply.charging && !s.journal.opened then
    openWithHoldup (s.onSu (fun u => { u with charging := false }))
  else s

/-! ### Groups 0x07 and 0x7F (R379 to R382, R575) -/

/-- 0x0701 (R380). -/
def setModule (s : State) (x : Exec) : State := porchDone (changeState s (x.byte 0)) x resDone 0 0

/-- A source's slot freed (R333): its entries with a final result go; those of commands still running are nobody's. -/
def freeSlot (s : State) (k : Nat) : State :=
  (s.onJ (fun j => { j with
    slots := smErase j.slots k
    book := (j.book.filter (fun e => e.slot != k || !e.final)).map (fun e =>
      if e.slot = k then { e with slot := Config.slotCount } else e) })).evtP 2 EVT.DSP_SLOTS

/-- The slot of a source. -/
def slotOf (s : State) (source : BitVec 16) : Option Nat :=
  (s.journal.slots.find? (fun c => c.2.source == source)).map (fun c => c.1)

/-- 0x0702 (R333). -/
def releaseSource (s : State) (x : Exec) : State :=
  let s1 := match slotOf s (BitVec.ofNat 16 (x.u16 0)) with
    | some k => freeSlot s k
    | none => s
  porchDone s1 x resDone 0 0

/-- 0x0703 (R381). -/
def setJournal (s : State) (x : Exec) : State := porchDone (s.pw F.PCH_DSP_CFG_GB_RETAIN (x.byte 0)) x resDone 0 0

/-- The bus port whose path carried a command. -/
def carriedBy (s : State) (lseq : Nat) : Option (Fin 2) :=
  match s.runningOf lseq with
  | some r => (match r.path with
    | some .busA => some 0
    | some .busB => some 1
    | _ => none)
  | none => none

/-- 0x0704 (R381, R414): at once, or after its DONE answer has left the port that carried it. -/
def setBusPort (s : State) (x : Exec) : State :=
  let i : Fin 2 := if x.byte 0 = 0 then 0 else 1
  let w := portWord (x.byte 5) (x.byte 2) (x.byte 3) (x.byte 1) (x.byte 4)
  let own := carriedBy s x.lseq = some i
  let s1 := if own then
      s.onPort i (fun t => { t with
        cfgNext := some (w, x.lseq, leBytes 2 x.source.toNat ++ leBytes 4 x.seq.toNat) })
    else reconfigure s i w
  porchDone s1 x resDone 0 0

/-- An entry under way is abandoned (R490): logged with cause 7; the stopped slices stay stopped. -/
def abandonEntry (s : State) : State :=
  match s.landing.entry with
  | some e => (logAbort s 9 7 0 e).onLd (fun l => { l with entry := none })
  | none => s

/-- 0x7F01 (R382, R403, R579): the FINAL marker and the DONE answer, then the module starts again with its outputs held. -/
def resetModule (s : State) (x : Exec) : State :=
  let s1 := flushCollector (finalResult (porchDone s x resDone 0 0) x.lseq)
  let s2 := timeSave (stopAll (abandonEntry s1))
  let r := (restartPorch (restartSlices s2)).freshNat
  replay (porchStarts r.2) [] r.1

/-- What test 0x03 does to the free spares (R517, R575): full self-tests; bit k of the result word is S(64 + k). -/
def testSpares (s : State) (result : Word) : State :=
  (List.finRange 68).foldl (fun (s : State) (p : Phys) =>
    if 64 ≤ p.val ∧ (s.sl p).life = .spare then
      if result.getLsbD (p.val - 64) then
        let r := s.freshNat
        let bits := BitVec.ofNat 11 r.1
        fullTest r.2 p (if bits = 0 then 1 else bits)
      else fullTest s p 0
    else s) s

/-- The free spares, bit k S(64 + k). -/
def freeSpares (s : State) : Nat :=
  (List.finRange 4).foldl (fun n (k : Fin 4) => n + bit1 ((s.sl (spareSlice k)).life == .spare) * 2 ^ k.val) 0

/-- The ports with EN 0, bit 0 A. -/
def idlePorts (s : State) : Nat := bit1 (!s.pb F.FB_CFG_EN 0) + 2 * bit1 (!s.pb F.FB_CFG_EN 1)

/-- The broken die sensors, bit n − 1 sensor n (R504). -/
def brokenSensors (s : State) : Nat :=
  (List.finRange 3).foldl (fun n (k : Fin 3) => n + bit1 s.thermal.sens[k].broken * 2 ^ k.val) 0

/-- The result word of a test (R575): what it measures, with what the module knows of itself. -/
def testWord (s : State) (n : Nat) (m : Word) : Word :=
  match n with
  | 2 => (m &&& 0xFFFFFF00#32) ||| BitVec.ofNat 32 (min (min (s.bank 0).spares (s.bank 1).spares) 255)
  | 3 => BitVec.ofNat 32 (freeSpares s * 16) ||| (m &&& BitVec.ofNat 32 (freeSpares s))
  | 4 => BitVec.ofNat 32 (idlePorts s * 4) ||| (m &&& BitVec.ofNat 32 (idlePorts s))
  | 5 => m &&& 0xFFFF#32
  | 6 => BitVec.ofNat 32 (brokenSensors s)
  | 7 => m &&& 0xF#32
  | 8 => m &&& 0xFF#32
  | _ => m

/-- The rate error of the cellar with the porch stopped, by band [0.1 ppm] (R459). -/
def cellarFigure (band : Nat) : Nat := [430, 360, 90, 360, 540, 920].getD band 90

/-- Whether a test with its result word fails (R575). -/
def testFails (s : State) (n : Nat) (w : Word) : Bool :=
  match n with
  | 1 => fieldOf w 15 0 != 0 || (decide (1 ≤ s.thermal.band ∧ s.thermal.band ≤ 4) && decide (420 < fieldOf w 31 16))
  | 2 => fieldOf w 15 8 != 0 || decide (fieldOf w 7 0 < 8)
  | 3 => fieldOf w 3 0 != 0
  | 4 => fieldOf w 1 0 != 0
  | 5 => decide (cellarFigure s.thermal.band < (signedOf 16 (fieldOf w 15 0)).natAbs)
  | 8 => decide (fieldOf w 7 0 < 60)
  | _ => w != 0

/-- What a test leaves besides its result: 0x03 the states of the spares, 0x08 the capacitance (R516, R553, R575). -/
def testEffect (s : State) (n : Nat) (w : Word) : State :=
  if n = 3 then testSpares s w
  else if n = 8 then s.onSu (fun u => { u with capUf := fieldOf w 7 0, low := u.charging || decide (fieldOf w 7 0 < 60) })
  else s

/-- 0x7F02 (R575). -/
def runTest (s : State) (x : Exec) (measured : Word) : State :=
  let n := x.byte 0
  let w := testWord s n measured
  let s1 := testEffect s n w
  let pass := !testFails s n w
  let s2 := { s1 with modst := { s1.modst with bitPass := pass, bitTest := n, bitRes := w } }
  let s3 := s2.evtP 0 EVT.MOD_BIT
  if pass then porchDone s3 x resDone 0 w else porchDone (s3.errP 0 n 0x4F02) x resFault 1 w

/-- 0x7F03 (R382). -/
def postTest (s : State) (x : Exec) : State :=
  porchDone (s.post (s.physPage (x.u32 0)) (x.image 4)) x resDone 0 0

/-! ### The commands -/

/-- A porch command executed when it is the next one (R343, R364). -/
def onPorch (s : State) (x : Exec) (f : State → State) : Host.Outcome State Fault Refusal :=
  go (if s.porchRuns && s.porchNext x then f s else s)

/-- SUPPLY_OUT_OF_RANGE (R552). -/
def execSupplyOutOfRange (vin : Nat) (s : State) : Host.Outcome State Fault Refusal := go (supplyRange s vin)
/-- START_UP (R557). -/
def execStartUp (x : StartInfo) (s : State) : Host.Outcome State Fault Refusal := go (startUp s x)
/-- HOLDUP_TIMEOUT (R557). -/
def execHoldupTimeout (s : State) : Host.Outcome State Fault Refusal := go (holdupLate s)
/-- PRECHARGE (R554). -/
def execPrecharge (s : State) : Host.Outcome State Fault Refusal := go (prechargeInput s)
/-- 0x0701 (R380). -/
def execModuleState (x : Exec) (s : State) : Host.Outcome State Fault Refusal := onPorch s x (fun s => setModule s x)
/-- 0x0702 (R333). -/
def execSourceRelease (x : Exec) (s : State) : Host.Outcome State Fault Refusal :=
  onPorch s x (fun s => releaseSource s x)
/-- 0x0703 (R381). -/
def execJournalConfiguration (x : Exec) (s : State) : Host.Outcome State Fault Refusal :=
  onPorch s x (fun s => setJournal s x)
/-- 0x0704 (R414). -/
def execBusPortConfiguration (x : Exec) (s : State) : Host.Outcome State Fault Refusal :=
  onPorch s x (fun s => setBusPort s x)
/-- 0x7F01 (R382). -/
def execModuleReset (x : Exec) (s : State) : Host.Outcome State Fault Refusal := onPorch s x (fun s => resetModule s x)
/-- 0x7F02 (R575): `result` is what the test measures. Whether it passes follows from the result word, so what the sender says of it
is not read. -/
def execBuiltInTest (x : Exec) (result : Word) (_pass : Bool) (s : State) : Host.Outcome State Fault Refusal :=
  onPorch s x (fun s => runTest s x result)
/-- 0x7F03 (R382). -/
def execTestError (x : Exec) (s : State) : Host.Outcome State Fault Refusal := onPorch s x (fun s => postTest s x)

end Sys2Proof.Machine
end

