-- ==== Sys2Proof/Machine/Envelope.lean ====
section
/-! DEFINITION. The command dispatcher (chapters 10 and 11): the checks of R580 in their order, the content rules of the
opcodes, the acceptance commit, and the rows that carry or query commands. -/
namespace Sys2Proof.Machine

/-! ### The opcode table (R359, R360, R366, R374 to R379, R382) -/

/-- A zone-mask rule (R359). -/
inductive MaskRule where
  | z | z1 | n
  deriving DecidableEq, Repr

/-- An opcode: its mask rule, the states that allow it (bits 1 COMMISSION, 2 SERVICE, 3 TEST, 4 RECOVERY; bit 0 FACTORY),
the slice subpage of each named zone and the porch pages whose locks it respects. -/
structure OpRow where
  code   : Nat
  rule   : MaskRule
  states : Nat
  sub    : Option Nat := none
  pages  : List Nat := []
  deriving DecidableEq, Repr

/-- C S T R. -/
def stCSTR : Nat := 0b11110
/-- C T R. -/
def stCTR : Nat := 0b11010
/-- C R. -/
def stCR : Nat := 0b10010

/-- Group 0x01 (R366). -/
def opRows1 : List OpRow :=
  [{ code := 0x0101, rule := .z, states := stCTR, sub := some 1 },
   { code := 0x0102, rule := .z, states := stCSTR, sub := some 6 },
   { code := 0x0103, rule := .z, states := stCSTR, sub := some 6 },
   { code := 0x0104, rule := .z, states := stCTR, sub := some 6 },
   { code := 0x0105, rule := .z, states := stCTR, sub := some 6 },
   { code := 0x0106, rule := .z, states := stCSTR, sub := some 6 },
   { code := 0x0107, rule := .z, states := stCTR, sub := some 0xA },
   { code := 0x0108, rule := .z, states := stCSTR, sub := some 0xB },
   { code := 0x0109, rule := .z, states := stCTR, sub := some 0xA },
   { code := 0x0110, rule := .z, states := stCR, sub := some 4 },
   { code := 0x0111, rule := .z, states := stCR, sub := some 4 },
   { code := 0x0112, rule := .z, states := stCR, sub := some 5 },
   { code := 0x0120, rule := .z, states := 0b01110, sub := some 6 },
   { code := 0x0121, rule := .z, states := stCSTR, sub := some 6 }]

/-- Groups 0x02 and 0x03 (R374, R375). -/
def opRows2 : List OpRow :=
  [{ code := 0x0201, rule := .z, states := stCSTR, sub := some 8 },
   { code := 0x0202, rule := .z, states := stCSTR, sub := some 8 },
   { code := 0x0203, rule := .z, states := stCSTR, sub := some 8 },
   { code := 0x0210, rule := .z, states := stCSTR, sub := some 9 },
   { code := 0x0211, rule := .z, states := stCSTR, sub := some 7 },
   { code := 0x0212, rule := .z, states := stCSTR, sub := some 7 },
   { code := 0x0301, rule := .n, states := stCSTR, pages := [0x4] },
   { code := 0x0302, rule := .n, states := stCSTR, pages := [0x4] },
   { code := 0x0303, rule := .z, states := stCSTR, sub := some 4 },
   { code := 0x0304, rule := .z, states := stCSTR, sub := some 4 }]

/-- Groups 0x04 to 0x06 (R376 to R378). -/
def opRows3 : List OpRow :=
  [{ code := 0x0401, rule := .n, states := stCSTR, pages := [0x8, 0x40] },
   { code := 0x0402, rule := .n, states := stCSTR, pages := [0x8] },
   { code := 0x0403, rule := .n, states := stCTR, pages := [0x8, 0x40] },
   { code := 0x0404, rule := .n, states := stCSTR, pages := [0x8] },
   { code := 0x0405, rule := .n, states := stCTR, pages := [0x41] },
   { code := 0x0501, rule := .n, states := stCSTR, pages := [0x9] },
   { code := 0x0601, rule := .z1, states := stCSTR, pages := [0x50] },
   { code := 0x0602, rule := .n, states := stCSTR },
   { code := 0x0603, rule := .z, states := stCSTR, pages := [0x51] },
   { code := 0x0604, rule := .n, states := stCR, pages := [0x10, 0x50] },
   { code := 0x0605, rule := .n, states := stCSTR, pages := [0x10] },
   { code := 0x0606, rule := .n, states := stCSTR, pages := [0xF] }]

/-- Groups 0x07 and 0x7F (R379, R382). -/
def opRows4 : List OpRow :=
  [{ code := 0x0701, rule := .n, states := 0b11111, pages := [0x0] },
   { code := 0x0702, rule := .n, states := stCSTR, pages := [0x2] },
   { code := 0x0703, rule := .n, states := stCTR, pages := [0x2] },
   { code := 0x0704, rule := .n, states := stCTR },
   { code := 0x7F00, rule := .n, states := 0b11111 },
   { code := 0x7F01, rule := .n, states := stCTR },
   { code := 0x7F02, rule := .n, states := 0b01000 },
   { code := 0x7F03, rule := .n, states := 0b01000 }]

/-- The opcodes of Command Reference. -/
def opRows : List OpRow := opRows1 ++ opRows2 ++ opRows3 ++ opRows4

/-- The row of an opcode. -/
def opRow (code : Nat) : Option OpRow := opRows.find? (fun r => r.code == code)

/-- Whether a payload length is listed for an opcode (R357). -/
def lengthOk (op l : Nat) : Bool :=
  match op with
  | 0x0101 => l == 80
  | 0x0102 => l == 4 || l == 12
  | 0x0103 => l == 16
  | 0x0104 => l == 28
  | 0x0105 => l == 20
  | 0x0106 => l == 12
  | 0x0107 => l == 28
  | 0x0108 => l == 16
  | 0x0110 => l == 12
  | 0x0111 => l == 44
  | 0x0112 => l == 28
  | 0x0120 => l == 8
  | 0x0121 => l == 0
  | 0x0201 => l == 12
  | 0x0202 => l == 128
  | 0x0203 => l % 4 == 0 && decide (8 ≤ l) && decide (l ≤ 260)
  | 0x0210 => l == 580
  | 0x0211 => l == 12
  | 0x0212 => l == 0
  | 0x0303 => l == 0
  | 0x0401 => l == 8
  | 0x0501 => l == 8
  | 0x0704 => l == 8
  | 0x7F00 => decide (l ≤ 1020)
  | 0x7F03 => l == 8
  | _ => l == 4

/-- Whether a zone mask meets a rule (R359). -/
def maskOk (r : MaskRule) (m : BitVec 64) : Bool :=
  let n := ((List.finRange 64).filter (fun (z : Zone) => m.getLsbD z.val)).length
  match r with
  | .z => decide (1 ≤ n)
  | .z1 => n == 1
  | .n => n == 0

/-! ### Field values and content rules (R357, R358, R367 to R382) -/

/-- Whether a register image has each listed field (high bit, low bit, least, greatest) in its range and every other bit
0 (R357, R358). -/
def imageOk (l : List (Nat × Nat × Nat × Nat)) (w : Word) : Bool :=
  l.all (fun f => decide (f.2.2.1 ≤ fieldOf w f.1 f.2.1) && decide (fieldOf w f.1 f.2.1 ≤ f.2.2.2))
    && w.toNat == l.foldl (fun n f => n + fieldOf w f.1 f.2.1 * 2 ^ f.2.1) 0

/-- Bytes of a payload that must be 0 (R357). -/
def zeroBytes (x : Exec) (o n : Nat) : Bool := leAt x.payload o n == 0

/-- A value within lo … hi. -/
def within (v lo hi : Nat) : Bool := decide (lo ≤ v) && decide (v ≤ hi)

/-- A finite binary32 image. -/
def f32Finite (w : Word) : Bool := fieldOf w 30 23 != 255

/-- One temperature input of 0x0101 (R78, R85, R99, R112, R113, R367): its TCFG and TPAR words. -/
def inputOk (c a b d : Word) : Bool :=
  let type := fieldOf c 31 28
  let role := fieldOf c 27 24
  imageOk [(31, 28, 0, 3), (27, 24, 0, 4), (23, 23, 0, 1), (22, 20, 0, 3), (19, 18, 0, 3), (15, 0, 0, 65535)] c
    && (fieldOf c 23 23 == 0 || (type == 2 && (role == 2 || role == 3)))
    && (match type with
        | 0 => c == 0 && a == 0 && b == 0 && d == 0
        | 1 => f32Finite a && f32Finite b && f32Finite d
        | 2 => a != 0 && d == 0
        | _ => f32Positive a && d == 0)

/-- 0x0101 (R108 to R110, R367). -/
def ok0101 (x : Exec) : Bool :=
  (List.range 4).all (fun n => inputOk (x.image (16 * n)) (x.image (16 * n + 4)) (x.image (16 * n + 8)) (x.image (16 * n + 12)))
    && imageOk [(31, 24, 15, 80), (23, 16, 15, 80), (15, 6, 10, 600), (5, 2, 1, 15), (0, 0, 0, 1)] (x.image 64)
    && imageOk [(31, 30, 0, 3), (29, 29, 0, 1), (15, 0, 0, 65535)] (x.image 72)
    && imageOk [(31, 30, 0, 3), (29, 29, 0, 1), (23, 14, 1, 1000), (13, 8, 1, 63), (7, 0, 1, 200)] (x.image 76)

/-- 0x0102 (R368). -/
def ok0102 (s : State) (x : Exec) : Bool :=
  let tick := if x.len = 12 then x.u64 4 else 0
  decide (x.byte 0 ≤ 7) && zeroBytes x 2 2
    && (if tick = 0 then x.byte 1 == 0
        else decide (x.byte 1 ≤ 1) && decide (s.now + 10000 ≤ tick) && decide (tick ≤ s.now + 86400000000))

/-- The setpoint rules of R217 over the registers that result. -/
def setpointsOk (f : RegFile) : Bool :=
  let v := fun (x : Fld) => f.int x
  let ch := v F.ZL_SP_COMF_HEAT
  let cc := v F.ZL_SP_COMF_COOL
  let eh := v F.ZL_SP_ECO_HEAT
  let ec := v F.ZL_SP_ECO_COOL
  let fr := v F.ZL_SP_MISC_FROST
  let bo : Int := (f.nat F.ZL_SP_MISC_BOOST : Nat)
  decide (500 ≤ ch ∧ ch ≤ 3500 ∧ 500 ≤ cc ∧ cc ≤ 3500 ∧ 500 ≤ eh ∧ eh ≤ 4000 ∧ 500 ≤ ec ∧ ec ≤ 4000)
    && decide (300 ≤ fr ∧ fr ≤ 1200 ∧ 100 ≤ cc - ch ∧ eh ≤ ch ∧ cc ≤ ec ∧ fr ≤ eh ∧ 100 ≤ cc - ch - 20 * bo)

/-- 0x0103 (R217, R369): judged on the values that result in every named zone. -/
def ok0103 (s : State) (x : Exec) : Bool :=
  (x.byte 10 == 0xFF || within (x.byte 10) 5 50) && (x.byte 11 == 0xFF || decide (x.byte 11 ≤ 50)) && zeroBytes x 14 2
    && x.zones.all (fun z => setpointsOk (putWords s.zones[z] (setpointWords s.zones[z] x)))

/-- A PI image (R250). -/
def piOk (w : Word) : Bool := imageOk [(31, 16, 0, 65535), (15, 0, 10, 65535)] w

/-- 0x0104 (R226, R250). -/
def ok0104 (x : Exec) : Bool :=
  piOk (x.image 0) && piOk (x.image 4) && piOk (x.image 8)
    && imageOk [(31, 16, 0, 65535), (15, 8, 1, 255), (7, 0, 0, 255)] (x.image 16)
    && imageOk [(31, 16, 0, 65535), (15, 8, 1, 255), (0, 0, 0, 1)] (x.image 20)
    && imageOk [(31, 24, 0, 100), (23, 16, 0, 100), (15, 8, 0, 100), (7, 0, 2, 168)] (x.image 24)

/-- One output's function (R229). -/
def actOk (j : Nat) (w : Word) : Bool :=
  let func := fieldOf w 31 28
  let start := fieldOf w 27 20
  let end_ := fieldOf w 19 12
  imageOk [(31, 28, 0, 6), (27, 20, 0, 100), (19, 12, 0, 100), (11, 4, 0, 255)] w
    && (if j < 3 then decide (func ≤ 3) else func == 0 || decide (4 ≤ func))
    && (!(within func 1 3) || decide (start < end_)) && (!(within func 4 5) || decide (end_ < start))

/-- 0x0105 (R229). -/
def ok0105 (x : Exec) : Bool := (List.range 5).all (fun j => actOk j (x.image (4 * j)))

/-- 0x0106 (R370). -/
def ok0106 (x : Exec) : Bool :=
  (List.range 3).all (fun j => decide (x.u16 (2 * j) ≤ 10000))
    && (x.u16 6 == 0 || x.u16 6 == 10000) && (x.u16 8 == 0 || x.u16 8 == 10000) && zeroBytes x 10 2

/-- One output's configuration (R288, R289, R317). -/
def outOk (j : Nat) (w : Word) : Bool :=
  let safe := fieldOf w 15 8
  let ilim := fieldOf w 7 2
  if j < 2 then
    imageOk [(31, 24, 0, 100), (23, 16, 0, 100), (15, 8, 0, 255), (7, 2, 2, 24), (1, 0, 0, 3)] w
      && fieldOf w 31 24 != fieldOf w 23 16 && (decide (safe ≤ 100) || safe == 0xFF)
  else if j = 2 then
    imageOk [(31, 24, 0, 100), (23, 16, 0, 100), (15, 8, 0, 100), (7, 2, 5, 30), (1, 0, 0, 3)] w
  else imageOk [(15, 8, 0, 100), (7, 2, 0, 63), (1, 0, 0, 3)] w && (safe == 0 || safe == 100) && within ilim 4 30

/-- 0x0107 (R317). -/
def ok0107 (x : Exec) : Bool :=
  (List.range 5).all (fun j => outOk j (x.image (4 * j)))
    && imageOk [(31, 30, 0, 3), (29, 29, 0, 1), (28, 28, 0, 1), (27, 27, 0, 1)] (x.image 20)
    && imageOk [(31, 30, 0, 3), (29, 24, 1, 63), (23, 16, 0, 100), (15, 8, 1, 255)] (x.image 24)

/-- 0x0108 (R320). -/
def ok0108 (x : Exec) : Bool :=
  imageOk [(31, 25, 5, 100), (24, 24, 0, 1), (23, 18, 1, 63), (17, 14, 1, 15)] (x.image 0)
    && imageOk [(31, 30, 0, 3), (29, 29, 0, 1), (28, 21, 1, 255), (20, 14, 1, 100), (13, 13, 0, 1)] (x.image 12)

/-- 0x0110 (R184, R372). -/
def ok0110 (x : Exec) : Bool :=
  f32Positive (x.image 0) && f32Positive (x.image 4)
    && imageOk [(31, 29, 0, 7), (28, 28, 0, 1), (27, 27, 0, 1), (15, 0, 0, 1000)] (x.image 8)

/-- Strictly rising values. -/
def rising : List Nat → Bool
  | a :: b :: l => decide (a < b) && rising (b :: l)
  | _ => true

/-- 0x0111 (R172, R372). -/
def ok0111 (x : Exec) : Bool :=
  decide (-8388608 ≤ x.i32 0 ∧ x.i32 0 ≤ 8388607 ∧ -8388608 ≤ x.i32 4 ∧ x.i32 4 ≤ 8388607)
    && decide (-5000 ≤ x.i16 8 ∧ x.i16 8 ≤ 5000) && zeroBytes x 10 2
    && rising (((List.range 8).map (fun j => fieldOf (x.image (12 + 4 * j)) 31 20)).filter (fun p => p != 0))

/-- 0x0112 (R189, R212). -/
def ok0112 (x : Exec) : Bool :=
  let fl : List (Nat × Nat × Nat × Nat) := [(31, 30, 0, 3), (29, 29, 0, 1), (28, 16, 2, 5000), (15, 0, 1, 10000)]
  let r1 := fieldOf (x.image 4) 31 30
  let r2 := fieldOf (x.image 8) 31 30
  imageOk [(31, 30, 0, 3), (29, 29, 0, 1), (28, 27, 0, 3), (26, 25, 0, 3), (24, 16, 10, 400), (15, 8, 0, 255), (7, 0, 0, 255)]
      (x.image 0)
    && imageOk fl (x.image 4) && imageOk fl (x.image 8) && imageOk [(15, 0, 0, 65535)] (x.image 20)
    && imageOk [(31, 24, 0, 255)] (x.image 24) && !(r1 == r2 && within r1 1 2)

/-- 0x0120 (R373): 0 selects a default. -/
def ok0120 (x : Exec) : Bool :=
  decide (x.byte 0 ≤ 1) && (x.byte 1 == 0 || within (x.byte 1) 5 40) && (x.byte 2 == 0 || within (x.byte 2) 2 20)
    && (x.byte 3 == 0 || within (x.byte 3) 10 100) && decide (x.u16 4 ≤ 500) && zeroBytes x 6 2

/-- 0x0201 (R253, R282). -/
def ok0201 (x : Exec) : Bool :=
  let rule : List (Nat × Nat × Nat × Nat) := [(31, 28, 1, 12), (27, 25, 1, 5), (24, 22, 0, 6), (21, 11, 0, 1439)]
  let ofs := signedOf 16 (fieldOf (x.image 0) 31 16)
  imageOk [(31, 16, 0, 65535), (15, 8, 0, 120), (0, 0, 0, 1)] (x.image 0) && decide (-720 ≤ ofs ∧ ofs ≤ 840)
    && imageOk rule (x.image 4) && imageOk rule (x.image 8)

/-- Two enabled events with the same minute and a day in common (R255). -/
def eventsClash (a b : Word) : Bool :=
  fieldOf a 31 31 == 1 && fieldOf b 31 31 == 1 && fieldOf a 23 13 == fieldOf b 23 13
    && (List.range 7).any (fun d => bitOf (fieldOf a 30 24) d && bitOf (fieldOf b 30 24) d)

/-- Whether any two of a list of events clash. -/
def anyClash : List Word → Bool
  | [] => false
  | a :: l => l.any (eventsClash a) || anyClash l

/-- 0x0202 (R255, R282). -/
def ok0202 (x : Exec) : Bool :=
  let l := (List.range 32).map (fun k => x.image (4 * k))
  l.all (fun w => imageOk [(31, 31, 0, 1), (30, 24, 0, 127), (23, 13, 0, 1439), (12, 11, 0, 2)] w) && !anyClash l

/-- 0x0203 (R256, R282, R374). -/
def ok0203 (x : Exec) : Bool :=
  let n := x.byte 1
  decide (x.byte 0 ≤ 63) && within n 1 64 && zeroBytes x 2 2 && decide (x.byte 0 + n ≤ 64) && x.len == 4 + 4 * n
    && (List.range n).all (fun i =>
      let w := x.image (4 + 4 * i)
      let y := fieldOf w 30 22
      imageOk [(31, 31, 0, 1), (30, 22, 0, 511), (21, 18, 1, 12), (17, 13, 1, 31), (12, 10, 0, 7), (9, 9, 0, 1)] w
        && (decide (y ≤ 399) || y == 0x1FF))

/-- 0x0210 (R283). -/
def ok0210 (x : Exec) : Bool :=
  imageOk [(27, 0, 0, 2 ^ 28 - 1)] (x.image 0)
    && (List.range 48).all (fun k =>
      imageOk [(31, 31, 0, 1), (30, 24, 0, 127), (23, 13, 0, 1439)] (x.image (4 + 12 * k))
        && imageOk [(31, 16, 0, 65535)] (x.image (12 + 12 * k)))

/-- 0x0211 (R285). -/
def ok0211 (x : Exec) : Bool :=
  let c := fieldOf (x.image 0) 29 28
  imageOk [(31, 30, 0, 1), (29, 28, 0, 2), (27, 20, 0, 100), (19, 12, 1, 100), (11, 4, 0, 255), (0, 0, 0, 1)] (x.image 0)
    && c != 1 && imageOk [(31, 24, 0, 255), (23, 16, 1, 52), (15, 8, 1, 255)] (x.image 8)

/-- 0x0302 (R210). -/
def ok0302 (s : State) (x : Exec) : Bool :=
  let a := x.u32 0
  decide (a ≤ s.store.acked) || (decide (a ≤ s.store.lastSeq) && !cutsChain s a)

/-- Whether a slice serves a zone (R518). -/
def serves (s : State) (p : Nat) : Bool :=
  if h : p < 68 then
    let f : Phys := ⟨p, h⟩
    (s.zoneOf f).isSome && ((s.sl f).life == .serving || (s.sl f).life == .moving)
  else false

/-- Whether the slice of a zone is healthy (R378): it serves and is not WORN. -/
def healthyZone (s : State) (z : Zone) : Bool :=
  let p := s.sliceOf z
  (s.sl p).life == .serving && !s.gb p F.ZW_STAT_WORN

/-- 0x0601 (R378). -/
def ok0601 (s : State) (x : Exec) : Bool :=
  (decide (x.byte 0 ≤ 67) || x.byte 0 == 0xFF) && decide (x.byte 1 ≤ 1) && zeroBytes x 2 2
    && (x.byte 1 == 1 || x.zones.all (fun z => !healthyZone s z))

/-- 0x0604 (R378, R517). -/
def ok0604 (s : State) (x : Exec) : Bool :=
  zeroBytes x 2 2 && decide (x.byte 1 ≤ 1)
    && (if h : x.byte 0 < 68 then
          x.byte 1 == 0 || (s.sl ⟨x.byte 0, h⟩).life == .retired || (s.sl ⟨x.byte 0, h⟩).life == .failed
        else false)

/-- 0x0704 (R379, R414). -/
def ok0704 (x : Exec) : Bool :=
  decide (x.byte 0 ≤ 1) && decide (x.byte 1 ≤ 0xFE) && decide (x.byte 2 ≤ 3) && decide (x.byte 3 ≤ 2) && decide (x.byte 5 ≤ 1)
    && zeroBytes x 6 2 && (x.byte 3 == 0 || decide (2 ≤ x.byte 2))

/-- Row 9 of R580: field values, reserved bits and content rules. -/
def contentOk (s : State) (x : Exec) : Bool :=
  match x.opcode.toNat with
  | 0x0101 => ok0101 x
  | 0x0102 => ok0102 s x
  | 0x0103 => ok0103 s x
  | 0x0104 => ok0104 x
  | 0x0105 => ok0105 x
  | 0x0106 => ok0106 x
  | 0x0107 => ok0107 x
  | 0x0108 => ok0108 x
  | 0x0109 => within (x.byte 0) 3 4 && zeroBytes x 1 1 && within (x.u16 2) 1 6000
  | 0x0110 => ok0110 x
  | 0x0111 => ok0111 x
  | 0x0112 => ok0112 x
  | 0x0120 => ok0120 x
  | 0x0201 => ok0201 x
  | 0x0202 => ok0202 x
  | 0x0203 => ok0203 x
  | 0x0210 => ok0210 x
  | 0x0211 => ok0211 x
  | 0x0301 => [1, 2, 3, 4, 5, 6, 10, 12, 15, 20, 30, 60].contains (x.byte 0) && zeroBytes x 1 3
  | 0x0302 => ok0302 s x
  | 0x0304 => imageOk [(31, 30, 0, 3), (29, 27, 0, 7), (26, 23, 0, 8), (15, 8, 0, 255), (7, 0, 0, 255)] (x.image 0)
  | 0x0402 => decide (-999999 ≤ x.i32 0 ∧ x.i32 0 ≤ 999999)
  | 0x0403 => (x.byte 0 == 1 || x.byte 0 == 0xFF) && zeroBytes x 1 3
  | 0x0404 => decide (x.byte 0 ≤ 2) && decide (x.byte 1 ≤ 3) && zeroBytes x 2 2
      && !(x.byte 0 == 1 && bitOf (x.byte 1) 0) && !(x.byte 0 == 2 && bitOf (x.byte 1) 1)
  | 0x0405 => decide (-1024 ≤ x.i16 0 ∧ x.i16 0 ≤ 1023) && zeroBytes x 2 2
  | 0x0501 => within (x.byte 0) 1 4 && zeroBytes x 1 3 && !(x.byte 0 == 4 && x.u32 4 != 0)
  | 0x0601 => ok0601 s x
  | 0x0602 => decide (x.byte 0 ≤ 67) && zeroBytes x 1 3 && !serves s (x.byte 0)
  | 0x0603 => (within (x.byte 0) 64 67 || x.byte 0 == 0xFF) && zeroBytes x 1 3
  | 0x0604 => ok0604 s x
  | 0x0605 => decide (x.byte 0 ≤ 1) && within (x.byte 1) 1 60 && zeroBytes x 2 2
  | 0x0606 => decide (x.byte 0 ≤ 1) && zeroBytes x 1 3
  | 0x0701 => zeroBytes x 1 1
  | 0x0702 => zeroBytes x 2 2
  | 0x0703 => within (x.byte 0) 1 255 && zeroBytes x 1 3
  | 0x0704 => ok0704 x
  | 0x7F01 => zeroBytes x 0 4
  | 0x7F02 => within (x.byte 0) 1 8 && zeroBytes x 1 3
  | 0x7F03 => fieldOf (x.image 4) 11 8 == 0xF && pageKind (x.u32 0) != .unmapped
  | _ => true

/-! ### Module state (row 8) and keys (row 11) -/

/-- Whether 0x0701 may bring the module from one state to another (R380): the transition and its KEY. -/
def moduleKey (from_ to_ : Nat) : Option Nat :=
  match from_, to_ with
  | 0, 1 => some 0
  | 1, 2 | 1, 3 => some 0
  | 2, 1 | 2, 3 => some 0x7E51
  | 2, 4 => some 0
  | 3, 1 | 3, 2 => some 0
  | 4, 1 | 4, 2 => some 0
  | _, _ => none

/-- Row 8 for 0x0701 (R380). -/
def transitionOk (s : State) (x : Exec) : Bool :=
  let st := s.modst.state
  if x.byte 0 = st then true
  else (moduleKey st (x.byte 0)).isSome && !(st == 4 && x.byte 0 == 2 && decide (0 < s.ecSum.1))

/-- Row 8 of R580. -/
def stateOk (s : State) (r : OpRow) (x : Exec) : Bool :=
  let st := s.modst.state
  bitOf r.states st
    && (match r.code with
        | 0x0701 => transitionOk s x
        | 0x0501 => !(x.byte 0 == 4 && (st == 2 || st == 4))
        | _ => true)

/-- Whether a page is locked or sealed (R68). -/
def lockedPage (s : State) (page : Nat) : Bool := let h := s.hdr page; h.lock || h.sealOn

/-- The pages whose locks an opcode respects (R362). -/
def lockPages (s : State) (r : OpRow) (x : Exec) : List Nat :=
  let zonePages := match r.sub with
    | some k => x.zones.map (fun z => slicePage (s.sliceOf z) k)
    | none => []
  let own := match r.code with
    | 0x0602 => [0x100 + x.byte 0 * 0x20]
    | 0x0704 => [0xD + x.byte 0]
    | _ => []
  zonePages ++ own ++ r.pages

/-- Row 11 of R580: locks, seals and the KEY of 0x0701. -/
def locksOk (s : State) (r : OpRow) (x : Exec) : Bool :=
  !(lockPages s r x).any (lockedPage s)
    && (r.code != 0x0701 || x.byte 0 == s.modst.state || moduleKey s.modst.state (x.byte 0) == some (x.u16 2))

/-! ### Working slices (row 10) and conflicts (row 12) -/

/-- Row 10 of R580: every named zone has a working slice, or is in a migration window (R49, R361). -/
def slicesOk (s : State) (x : Exec) : Bool :=
  x.opcode == 0x0601 || x.zones.all (fun z => s.working z || s.movingZone z)

/-- Whether two commands share a zone. -/
def shareZone (x y : Exec) : Bool := x.zmask &&& y.zmask != 0

/-- Whether a command conflicts with an accepted one that has no final result (R363). -/
def conflicts (x y : Exec) : Bool :=
  match x.opcode.toNat with
  | 0x0109 | 0x0120 | 0x0304 | 0x0603 => y.opcode == x.opcode && shareZone x y
  | 0x0102 => isTickForm x && isTickForm y && shareZone x y
  | 0x0601 | 0x0604 => y.opcode == 0x0601 || y.opcode == 0x0604
  | _ => false

/-- Row 12 of R580 (R333, R363). -/
def conflictFree (s : State) (x : Exec) : Bool :=
  !s.journal.running.any (fun r => conflicts x r.x)
    && (x.opcode != 0x0702 || !s.journal.running.any (fun r => !r.internal && r.x.source.toNat == x.u16 0))

/-! ### Slots and room (rows 7, 13, 14) -/

/-- The lowest free slot (R333). -/
def freeSlotNo (s : State) : Option Nat :=
  (List.range Config.slotCount).find? (fun k => (smFind s.journal.slots k).isNone)

/-- The guestbook entry of a source and SEQ (R335). -/
def bookEntry (s : State) (source : BitVec 16) (seq : Nat) : Option GbEntry :=
  match slotOf s source with
  | some k => s.journal.book.find? (fun e => e.slot == k && e.seq == seq)
  | none => none

/-- The HWM of a source (R333). -/
def hwmOf (s : State) (source : BitVec 16) : Option Nat :=
  match slotOf s source with
  | some k => (smFind s.journal.slots k).map (fun x => x.hwm)
  | none => none

/-- Whether a guestbook entry may be evicted (R336). -/
def evictable (s : State) (e : GbEntry) : Bool := e.final && decide (e.evictAt ≤ s.now)

/-- Whether the larder has room for a payload and the markers' reserve (R341). -/
def larderRoom (s : State) (l : Nat) : Bool :=
  decide (contCount l + 1 + Config.markerReserve + s.fill ≤ Config.larderSize)

/-- Whether the guestbook has a free or evictable entry (R336). -/
def bookRoom (s : State) : Bool :=
  decide (s.journal.book.length < Config.guestbookSize) || s.journal.book.any (evictable s)

/-! ### Answers -/

/-- The result codes of refused envelopes (R326). -/
def resDuplicate : Nat := 0x02
def resStale : Nat := 0x03
def resState : Nat := 0x10
def resArg : Nat := 0x11
def resLock : Nat := 0x12
def resDark : Nat := 0x13
def resBusy : Nat := 0x20

/-- An answer that accepts nothing, with its counters and events (R354, R356). -/
def refuse (s : State) (path : Path) (dest : Nat) (source : BitVec 16) (seq : BitVec 32) (result reason : Nat) : State :=
  let s1 := if result = resBusy then (s.pbump F.PCH_DSP_CNT_2_BUSY).evtP 2 EVT.DSP_BUSY
    else if result = resStale then s.pbump F.PCH_DSP_CNT_1_STALE
    else s.pbump F.PCH_DSP_CNT_2_REJECT
  sendAnswer s1 path dest false (answerBytes source seq result 0 reason 0 0)

/-- The DUPLICATE answer (R335). -/
def duplicate (s : State) (path : Path) (dest : Nat) (source : BitVec 16) (seq : BitVec 32) (e : GbEntry) : State :=
  sendAnswer (s.pbump F.PCH_DSP_CNT_1_DUP) path dest false
    (answerBytes source seq resDuplicate (if e.final then e.result else 0) e.reason e.value e.fmask)

/-! ### The acceptance commit (R330 to R337) -/

/-- PATH of an envelope (R337, R352). -/
def pathCode : Path → Nat
  | .hostLink => 0
  | .spi => 1
  | .busA => 2
  | .busB => 3

/-- The head and its continuations appended to the larder (R337). -/
def writeEntries (s : State) (x : Exec) (path : Path) (crc : BitVec 32) : State :=
  let n := contCount x.len
  let s1 := addEntry s { source := x.source, kind := .head n x.seq x.opcode (pathCode path) x.len x.zmask crc (x.payload.take 32) }
  (List.range n).foldl (fun (s : State) i =>
    addEntry s { source := x.source, kind := .cont (i + 1) ((x.payload.drop (32 + 52 * i)).take 52) }) s1

/-- The source's slot with its new HWM (R333). -/
def writeSlot (s : State) (x : Exec) : State × Nat :=
  let put := fun (s : State) (k : Nat) => (s.onJ (fun j => { j with
    slots := smPut j.slots k { source := x.source, hwm := x.seq.toNat } })).wrote (.slot k)
  match slotOf s x.source with
  | some k => (put s k, k)
  | none =>
    let k := (freeSlotNo s).getD 0
    ((put s k).evtP 2 EVT.DSP_SLOTS, k)

/-- The guestbook without its oldest evictable entry when it is full (R336). -/
def evictOne (s : State) : State :=
  if s.journal.book.length < Config.guestbookSize then s
  else s.onJ (fun j => { j with book := j.book.eraseP (evictable s) })

/-- The words that a configuration command changes in a zone's master copy (R332). -/
def masterWords (f : RegFile) (x : Exec) : List (Nat × Word) :=
  match x.opcode.toNat with
  | 0x0103 => setpointWords f x
  | 0x0111 => imageWords 0x0111 x ++ calWords x
  | 0x0304 => []
  | n => imageWords n x

/-- The master copies changed in the commit (R332). -/
def writeMaster (s : State) (x : Exec) : State :=
  x.zones.foldl (fun (s : State) (z : Zone) =>
    let w := masterWords s.zones[z] x
    if w.isEmpty then s
    else { s with zones := s.zones.set z.val (putWords s.zones[z] w) z.isLt }.wrote (.config z)) s

/-- The command put where it will be executed (R343, R344, R368): the porch's queue, or the hands of the porch for its
zones, with a census for a TICK form. -/
def queueCommand (s : State) (x : Exec) : State :=
  if porchRun x then s.onQueue (fun q => q ++ [x])
  else
    let s1 := s.onJ (fun j => { j with handover := j.handover ++ [{ x := x, left := x.zmask }] })
    if isTickForm x then
      { s1 with census := s1.census ++
        [{ lseq := x.lseq, zmask := x.zmask.toNat, allNone := x.byte 1 == 1, tick := x.u64 4 }] }
    else s1

/-- The time within which ACCEPTED is returned [µs] (R36). -/
def acceptLimit (s : State) : Nat := if s.thermal.band = 0 ∨ s.thermal.band = 5 then 90 else 60

/-- The most an acceptance commit occupies the banks [µs] (R330, R331): 42 with both banks and 25 with one in bands B1 to B4,
and in B0 and B5 what R36 allows beyond that. -/
def commitMost (s : State) : Nat := acceptLimit s - (if s.upkeep.banks.all (fun b => b.ok) then 18 else 35)

/-- When a commit that takes `d` µs is complete, counted from its envelope's last byte [µs] (R36, R331): it begins after
the checks and after the commits before it. -/
def commitEnd (s : State) (d : Nat) : Nat := max 8 s.journal.ahead + d

/-- Whether ACCEPTED would be late (R36, R331); `slow` says whether a draught in force makes it so (R574). -/
def acceptLate (s : State) (d : Nat) (slow : Bool) : Bool :=
  decide (acceptLimit s < commitEnd s d) || (s.draughtPages != 0 && slow)

/-- PCH_LD_TIME (R355): the measured time lies within the limit of R36. -/
def noteTime (s : State) : State :=
  let r := s.freshNat
  let t := r.1 % (10 * acceptLimit s + 1)
  (r.2.pw F.PCH_LD_TIME_LAST t).pw F.PCH_LD_TIME_MAX (max t (r.2.pg F.PCH_LD_TIME_MAX))

/-- A command written to the banks (R330 to R337): head and continuations, slot, guestbook entry, the master copies it changes (R332);
then it waits where it will be executed. `answers` is the path of its completion answer, none where none is sent (R37). -/
def storeCommand (s : State) (x : Exec) (answers : Option Path) (path : Path) (dest : Nat) (crc : BitVec 32) : State :=
  let s1 := writeSlot (writeEntries (evictOne s) x path crc) x
  let e : GbEntry := { slot := s1.2, seq := x.seq.toNat, crc := crc, lseq := x.lseq, path := answers, dest := dest }
  let s2 := (s1.1.onJ (fun j => { j with
    book := j.book ++ [e], running := j.running ++ [{ x := x, path := answers }] })).wrote (.guest x.lseq)
  let s3 := s2.pw F.PCH_DSP_ACC_ACC ((s2.pg F.PCH_DSP_ACC_ACC + 1) % 2 ^ 32)
  fillRules (queueCommand (writeMaster s3 x) x)

/-- The acceptance of a command that has passed every check (R330, R331), with ACCEPTED. -/
def accept (s : State) (x : Exec) (path : Path) (dest : Nat) (crc : BitVec 32) : State :=
  let s1 := storeCommand (noteTime s) x (some path) path dest crc
  drainNops (sendAnswer s1 path dest false (answerBytes x.source x.seq 0 0 0 0 0))

/-- A read-back that fails in a commit (R330, R342, R531): the row is remapped and the write repeated; where that fails too, the bank has
failed twice in a row and goes out of service. -/
def readBackFails (s : State) (f : ReadBack) : State :=
  if !(s.bank f.bank).ok then s
  else
    let s1 := remapRow s f.bank f.row
    if f.again then bankOut s1 f.bank else s1

/-- The acceptance commit where ACCEPTED is not late (R36, R331; notes/assumptions/136), with the read-backs that fail in it; one that
no bank holds is not accepted (notes/assumptions/160). -/
def commit (s : State) (fails : List ReadBack) (x : Exec) (path : Path) (dest : Nat) (crc : BitVec 32) : State :=
  let r := s.freshNat
  let slow := r.2.freshNat
  let d := r.1 % (commitMost s + 1)
  if acceptLate s d (slow.1 % 2 == 1) then refuse slow.2 path dest x.source x.seq resBusy 0x0044
  else
    let s1 := fails.foldl readBackFails slow.2
    if s1.upkeep.banks.any (fun b => b.ok) then
      accept (s1.onJ (fun j => { j with ahead := commitEnd s d })) x path dest crc
    else refuse s1 path dest x.source x.seq resBusy 0x0044

/-! ### The ladder of R580 -/

/-- Rows 13 and 14; `k` is what follows when every check has passed. -/
def judgeRoom (s : State) (x : Exec) (path : Path) (dest : Nat) (k : State → State) : State :=
  if (slotOf s x.source).isNone && (freeSlotNo s).isNone then
    refuse (s.errP 2 x.source.toNat 0x4003) path dest x.source x.seq resState 0x0012
  else if !larderRoom s x.len then refuse (s.pbump F.PCH_LD_CNT_FULL) path dest x.source x.seq resBusy 0x0040
  else if !bookRoom s then refuse (s.errP 2 0 0x4313) path dest x.source x.seq resBusy 0x0041
  else k s

/-- Rows 8 to 12. -/
def judgeState (s : State) (r : OpRow) (x : Exec) (path : Path) (dest : Nat) (k : State → State) : State :=
  let no := fun result reason => refuse s path dest x.source x.seq result reason
  if !stateOk s r x then no resState 0x0010
  else if !contentOk s x then no resArg 0x0004
  else if !slicesOk s x then no resDark 0x0030
  else if !locksOk s r x then no resLock 0x0020
  else if !conflictFree s x then no resState 0x0011
  else judgeRoom s x path dest k

/-- Row 7: the guestbook (R335). -/
def judgeBook (s : State) (r : OpRow) (x : Exec) (path : Path) (dest : Nat) (crc : BitVec 32) (k : State → State) : State :=
  match bookEntry s x.source x.seq.toNat with
  | some e =>
    if e.crc = crc then duplicate s path dest x.source x.seq e
    else
      let s1 := ((s.pbump F.PCH_DSP_CNT_2_REUSE).evtP 2 EVT.DSP_REUSE).errP 2 x.source.toNat 0x1002
      refuse s1 path dest x.source x.seq resArg 0x0005
  | none =>
    match hwmOf s x.source with
    | some h => if x.seq.toNat ≤ h then refuse s path dest x.source x.seq resStale 0 else judgeState s r x path dest k
    | none => judgeState s r x path dest k

/-- Rows 2 to 7 for an envelope's bytes without its CRC. -/
def judgeForm (s : State) (body : List Byte) (path : Path) (dest : Nat) (crc : BitVec 32) (k : State → Exec → State) : State :=
  let source := BitVec.ofNat 16 (leAt body 0 2)
  let seq := BitVec.ofNat 32 (leAt body 2 4)
  let no := fun reason => refuse s path dest source seq resArg reason
  let x : Exec := {
    lseq := s.journal.next, source := source, seq := seq, opcode := BitVec.ofNat 16 (leAt body 6 2),
    zmask := BitVec.ofNat 64 (leAt body 8 8), payload := body.drop 16 }
  if body.length < 16 ∨ 1036 < body.length then no 0x0001
  else if source = 0 ∨ source = 0xFFFF ∨ seq = 0 then no 0x0006
  else match opRow x.opcode.toNat with
    | none => no 0x0002
    | some r =>
      if !lengthOk r.code x.len then no 0x0001
      else if !maskOk r.rule x.zmask then no 0x0003
      else judgeBook s r x path dest crc (fun s => k s x)

/-- Whether the last four bytes of an envelope are the CRC of those before them (R324). -/
def envelopeOk (b : List Byte) : Bool :=
  decide (4 ≤ b.length) && crc32 (b.take (b.length - 4)) == BitVec.ofNat 32 (leAt b (b.length - 4) 4)

/-- An envelope's bytes judged by the dispatcher (R324, R580); `k` is what becomes of a command that passes every check. -/
def judge (s : State) (b : List Byte) (path : Path) (dest : Nat) (k : State → Exec → BitVec 32 → State) : State :=
  if !envelopeOk b then (s.pbump F.PCH_DSP_CNT_2_ENV_ERR).errP 2 (pathCode path) 0x4001
  else
    let body := b.take (b.length - 4)
    let busy := fun reason =>
      refuse s path dest (BitVec.ofNat 16 (leAt body 0 2)) (BitVec.ofNat 32 (leAt body 2 4)) resBusy reason
    if s.journal.replay then busy 0x0043
    else if s.journal.takeover then busy 0x0042
    else
      let crc := BitVec.ofNat 32 (leAt b (b.length - 4) 4)
      judgeForm s body path dest crc (fun s x => k s x crc)

/-- An envelope at the dispatcher (R324, R330, R580). -/
def dispatch (s : State) (e : Envelope) (path : Path) (dest : Nat) : State :=
  judge s e.bytes path dest (fun s x crc => commit s e.fails x path dest crc)

/-! ### The rows -/

/-- The bytes of an envelope (R322). -/
def envelopeBytes (source : BitVec 16) (seq : BitVec 32) (opcode : BitVec 16) (zmask : BitVec 64) (payload : List Byte) :
    List Byte :=
  let b := leBytes 2 source.toNat ++ leBytes 4 seq.toNat ++ leBytes 2 opcode.toNat ++ leBytes 8 zmask.toNat ++ payload
  b ++ leBytes 4 (crc32 b).toNat

/-- 0x7F00 (R382): its envelope dispatched; once the porch has executed it, its final result stands. Over the host link the
first tag is used, on a bus the answer goes to node 0. -/
def noOp (s : State) (path : Path) (source : BitVec 16) (seq : BitVec 32) (payload : List Byte) : State :=
  let n := s.journal.next
  finalResult (dispatch s { bytes := envelopeBytes source seq 0x7F00 0 payload } path 0) n

/-- A COMMAND packet on the host link (R397, R398): an envelope that is discarded leaves its tag open. -/
def takeLinkCommand (s : State) (tag : BitVec 8) (rtx : Bool) (e : Envelope) : State :=
  linkRequest s tag rtx (fun s =>
    dispatch (if envelopeOk e.bytes then s else s.setTag tag .opened) e .hostLink tag.toNat)

/-- A COMMAND segment on a bus port (R436, R437). -/
def takeBusCommand (s : State) (i : Fin 2) (f : BusFrame) : State :=
  let r := takeSegment s i f
  match r.2 with
  | some b => dispatch r.1 { bytes := b } (if i = 0 then .busA else .busB) f.src.toNat
  | none => r.1

/-- 0x7F00 (R382). -/
def execNoOperation (path : Path) (source : BitVec 16) (seq : BitVec 32) (payload : List Byte) (s : State) :
    Host.Outcome State Fault Refusal :=
  go (if s.porchRuns then noOp s path source seq payload else s)
/-- LINK_COMMAND (R397). -/
def execLinkCommand (tag : BitVec 8) (rtx : Bool) (envelope : Envelope) (s : State) : Host.Outcome State Fault Refusal :=
  go (takeLinkCommand s tag rtx envelope)
/-- SPI_COMMAND (R406). -/
def execSpiCommand (envelope : Envelope) (s : State) : Host.Outcome State Fault Refusal :=
  go (if s.porchRuns then dispatch (endDoze s) envelope .spi 0 else s)
/-- BUS_COMMAND_SEGMENT (R436). -/
def execBusCommandSegment (port : Sys2Proof.Port) (bits : List Bool) (s : State) : Host.Outcome State Fault Refusal :=
  let i := Port.index port
  go (receive s i (fun k => k == 1) bits (fun f s => takeBusCommand s i f))

end Sys2Proof.Machine
end

