-- ==== Sys2Proof/Machine/Loss.lean ====
section
/-! DEFINITION. The power-loss warning: the command it meets, the commit on the hold-up, the stop (chapters 01, 10, 15, 17). -/
namespace Sys2Proof.Machine

/-- CAUSE of a warning (R552). -/
def warnCode : WarnCause → Nat
  | .pdetS1 => 1
  | .pdetS2 => 2
  | .low => 3
  | .high => 4
  | .holdup => 5

/-- A command whose first bank write had begun when the warning came (R37): its bank writes complete and nothing is sent, now or later;
one whose bank writes had not begun leaves no trace. -/
def takeFlight (s : State) (f : InFlight) : State :=
  if f.begun && s.journal.opened && s.porchRuns then
    let s1 := judge s f.bytes f.path f.dest (fun s x crc => storeCommand s x none f.path f.dest crc)
    if s1.journal.next = s.journal.next then s else s1
  else s

/-- Pads held at the sill with what they drive, as long as the output rail falls (R43). -/
def sillHold (s : State) : State :=
  eachSlice s (fun s p => s.onOuts p (fun x => { x with o := x.o.map (fun (o : OutSt) =>
    if o.held then o else { o with held := true, heldVal := o.applied }) }))

/-- The commit of R43 in the order of R26: the command in flight, the closed intervals that are not durable yet (R39), the log buffer
with E-8508 (R514), then postings and the checkpoints that are due. -/
def holdupCommit (s : State) (w : Warning) : State :=
  let s1 := match w.flight with
    | some f => takeFlight s f
    | none => s
  let s2 := eachSlice s1 (fun s p => if (s.sl p).running then forceClosings s p else s)
  let s3 := flushCollector ((writeWaiting s2).errP 9 (warnCode w.cause) 0x8508)
  eachSlice s3 (fun s p =>
    if (s.sl p).running then
      let s1 := postMeter s p
      if (s1.sl p).ckptDue then writeCheckpoint s1 p else s1
    else s)

/-- A slice without power. -/
def unpowerSlice (s : State) (p : Phys) : State :=
  (dropOutputs s p).onSl p (fun x => changeSupply { x with running := false, clamped := true } .off 0 s.thermal.band)

/-- The module without power: nothing runs, its wing outputs are off, its contacts are high impedance (R43, R555). -/
def powerOff (s : State) (cause : WarnCause) : State :=
  let s1 := (eachSlice s unpowerSlice).clampBlocks (.hallway :: porchBlocks)
  let s2 := (setLink s1 0 0#4).onJ (fun j => { j with opened := false, replay := true, takeLeft := 0, ahead := 0 })
  let off := s2.ports.map (fun (x : PortSt) => { x with state := 0, alone := false })
  let s3 : State := { s2 with ports := off }
  s3.onSu (fun u => { u with
    powered := false, started := false, railOn := false, charging := false, precharged := false, cause := warnCode cause,
    pdet1 := u.pdet1 || cause == .pdetS1, pdet2 := u.pdet2 || cause == .pdetS2, inputOff := cause == .high })

/-- POWER_LOSS_WARNING (R43, R463, R490, R552, R559): the output rail goes first with the pads held, then the commit, then the module
stops. Before acceptance has opened, nothing but house time is committed. -/
def powerLoss (s : State) (w : Warning) : State :=
  if !s.supply.powered then s
  else
    let s0 := sillHold (s.onSu (fun u => { u with railOn := false }))
    let s1 := if s0.journal.opened && s0.porchRuns then holdupCommit (abandonEntry s0) w else s0
    let s2 := if s1.porchRuns && s1.supply.started then timeSave s1 else s1
    powerOff (s2.onCl (fun c => { c with slewKept := 0 })) w.cause

/-- POWER_LOSS_WARNING (R552). -/
def execPowerLossWarning (w : Warning) (s : State) : Host.Outcome State Fault Refusal := go (powerLoss s w)

end Sys2Proof.Machine
end

