-- ==== Sys2Proof/Machine/Shown.lean ====
section
/-! DEFINITION. The words that registers show: page headers (R57 to R74), registers whose value is derived from the state
when they are read, and the registers that read a latched copy (R183). -/
namespace Sys2Proof.Machine

/-! ### Page headers -/

/-- The block class of a porch, cellar or hallway page (R72, R46). -/
def porchClass (page : Nat) : Nat :=
  match page with
  | 0x00 => 0x0 | 0x01 => 0xE | 0x02 => 0x0 | 0x03 => 0x3 | 0x04 => 0x3 | 0x05 => 0x3 | 0x06 => 0x3 | 0x07 => 0x3
  | 0x08 => 0x4 | 0x09 => 0x5 | 0x0A => 0x6 | 0x0B => 0x1 | 0x0C => 0x1 | 0x0D => 0x2 | 0x0E => 0x2 | 0x0F => 0xE
  | 0x10 => 0xE | 0x40 => 0x4 | 0x41 => 0x4 | 0x42 => 0x4 | 0x43 => 0x5 | _ => 0x7

/-- The block class of a slice subpage (R72, R47). -/
def sliceClass (sub : Nat) : Nat :=
  match sub with
  | 0 => 0x8 | 1 => 0x9 | 2 => 0xA | 3 => 0xA | 4 => 0xB | 5 => 0xB | 6 => 0xC | 7 => 0xC | 8 => 0xC | 9 => 0xC
  | 10 => 0xD | 11 => 0xD | 12 => 0xE | _ => 0x4

/-- PG_ID of a page that belongs to no slice (R57). -/
def porchId (page : Nat) : Word :=
  BitVec.ofNat 32 (porchClass page * 2 ^ 28 + page % 256 * 2 ^ 20 + 0xFF * 2 ^ 12 + 2 ^ 5)

/-- PG_ID of subpage `sub` of slice `p` (R57). -/
def sliceId (s : State) (p : Phys) (sub : Nat) (alias_ : Bool) : Word :=
  let z := match s.zoneOf p with | some z => z.val * 2 ^ 6 | none => 2 ^ 5
  BitVec.ofNat 32 (sliceClass sub * 2 ^ 28 + sub * 2 ^ 20 + p.val * 2 ^ 12 + z + bit1 alias_ * 2 ^ 4)

/-- PG_REV of stepping C1 with ROM 3.2 (R58). -/
def pgRev : Word := 0xC1030201#32

/-- Whether the cellar interface serves the porch (R462). -/
def cellarDark (s : State) (page : Nat) : Bool := s.cellar.locked && decide (0x40 ≤ page) && decide (page ≤ 0x43)

/-- PG_STAT of a page that belongs to no slice (R59): while the porch serves accesses it runs from its PLL, the cellar
from its crystal. -/
def porchStat (s : State) (page : Nat) : Word :=
  let clk := if 0x40 ≤ page ∧ page ≤ 0x43 then 4 else 1
  BitVec.ofNat 32 (s.landing.state * 2 ^ 12 + clk * 2 ^ 8 + bit1 ((s.hdr page).err != 0) * 2 ^ 2
    + bit1 (porchBusy s page) * 2 + bit1 (cellarDark s page))

/-- PG_STAT of subpage `sub` of slice `p` (R59, R70). -/
def sliceStat (s : State) (p : Phys) (sub : Nat) (moving : Bool) : Word :=
  let dark := s.dark p
  let busy := sub == 0 && (s.busySlice p || (s.sl p).life == .testing)
  let state := match (s.sl p).power with | .on => s.landing.state | .retained => 2 | .off => 5
  BitVec.ofNat 32 (state * 2 ^ 12 + (if dark then 0 else 3) * 2 ^ 8 + bit1 moving * 2 ^ 4
    + bit1 ((s.hdr (slicePage p sub)).err != 0) * 2 ^ 2 + bit1 busy * 2 + bit1 dark)

/-- PG_ERRQ (R74). -/
def Hdr.errq (h : Hdr) : Word :=
  BitVec.ofNat 32 (h.ovf * 2 ^ 24 + h.rep * 2 ^ 20 + h.queue.length * 2 ^ 16
    + (match h.queue with | e :: _ => fieldOf e.word 15 0 | [] => 0))

/-- PG_LOCK (R66): KEY reads 0. -/
def Hdr.lockWord (h : Hdr) : Word :=
  BitVec.ofNat 32 (h.badKey * 2 ^ 4 + bit1 h.sealOn * 2 ^ 2 + bit1 h.lock * 2 + bit1 h.draughtUnl)

/-- PG_PWR (R63). -/
def Hdr.pwrWord (h : Hdr) : Word :=
  BitVec.ofNat 32 (h.refusals * 2 ^ 24 + h.delays * 2 ^ 16 + h.target * 2 ^ 8 + h.vote * 2 ^ 4 + bit1 h.veto)

/-- A header register from 0x00C on (R56), before the effect of its read. -/
def Hdr.word (h : Hdr) (off : Nat) : Word :=
  match off with
  | 0x0C => h.ctrl
  | 0x10 => h.isr
  | 0x14 => h.ier
  | 0x18 => h.err
  | 0x1C => h.errq
  | 0x20 => h.lockWord
  | 0x24 => h.pwrWord
  | 0x28 => if h.draughtUnl then h.draught else 0
  | 0x2C => if h.draughtUnl then h.draughtP else 0
  | 0x30 => BitVec.ofNat 32 h.ts
  | 0x34 => (match h.tsSnap with | some w => w | none => BitVec.ofNat 32 (h.ts / 2 ^ 32))
  | _ => 0

/-! ### Pages 0x00000 to 0x00007 -/

/-- The lower or upper word of a 64-bit value (R14). -/
def lowWord (v : Nat) : Word := BitVec.ofNat 32 v
/-- The upper word. -/
def highWord (v : Nat) : Word := BitVec.ofNat 32 (v / 2 ^ 32)

/-- Page 0x00000 (R576). -/
def shown00 (s : State) (a : Nat) : Option Word :=
  let m := s.modst
  match a with
  | 0x40 => some (BitVec.ofNat 32 (Config.variant.toNat * 2 ^ 28))
  | 0x44 => some (lowWord Config.serial.toNat)
  | 0x48 => some (highWord Config.serial.toNat)
  | 0x4C => some (BitVec.ofNat 32 (m.state * 2 ^ 29 + m.prev * 2 ^ 26 + bit1 m.resumed * 2 ^ 25
      + bit1 (s.draughtPages != 0) * 2 ^ 24 + satTo 16 m.changes))
  | 0x50 => some (lowWord m.time)
  | 0x54 => some (highWord m.time)
  | 0x58 => some (BitVec.ofNat 32 (bit1 (s.porchExec 0x7F02) * 2 ^ 31 + bit1 m.bitPass * 2 ^ 30 + m.bitTest * 2 ^ 16))
  | 0x5C => some m.bitRes
  | 0x60 => some (BitVec.ofNat 32 s.draughtPages)
  | _ => none

/-- Page 0x00001 (R539). -/
def shown01 (s : State) (a : Nat) : Option Word :=
  match a with
  | 0x40 =>
    let n := s.ecSum
    some (BitVec.ofNat 32 (n.1 * 2 ^ 24 + n.2.1 * 2 ^ 16 + n.2.2.1 * 2 ^ 8 + n.2.2.2))
  | 0x44 => some (BitVec.ofNat 32 (s.coll.next - 1))
  | 0x48 => some (match s.coll.log ++ s.coll.buf with | e :: _ => BitVec.ofNat 32 e.eseq | [] => 0)
  | _ => none

/-- The slot that PCH_SRC_SEL names. -/
def selectedSlot (s : State) : Option Slot := smFind s.journal.slots (s.pg F.PCH_SRC_SEL_SLOT)

/-- Page 0x00002 (R354). -/
def shown02 (s : State) (a : Nat) : Option Word :=
  let j := s.journal
  match a with
  | 0x40 => some (BitVec.ofNat 32 (bit1 j.replay * 2 ^ 31 + bit1 j.takeover * 2 ^ 30
      + bit1 (s.upkeep.banks.any (fun b => !b.ok)) * 2 ^ 29 + bit1 j.opened * 2 ^ 28))
  | 0x54 => some (BitVec.ofNat 32 (j.book.length * 2 ^ 16 + j.slots.length))
  | 0x5C => some (match selectedSlot s with
      | some k => BitVec.ofNat 32 (2 ^ 31
          + satTo 15 (j.running.filter (fun r => r.x.source == k.source && !r.internal)).length * 2 ^ 16
          + k.source.toNat)
      | none => 0)
  | 0x60 => some (match selectedSlot s with | some k => BitVec.ofNat 32 k.hwm | none => 0)
  | _ => none

/-- Page 0x00003 (R355). -/
def shown03 (s : State) (a : Nat) : Option Word :=
  let j := s.journal
  match a with
  | 0x40 => some (BitVec.ofNat 32 (bit1 s.upkeep.banks[0].ok * 2 ^ 31 + bit1 s.upkeep.banks[1].ok * 2 ^ 30
      + bit1 j.warn * 2 ^ 29 + bit1 j.ckreq * 2 ^ 28 + s.fill))
  | 0x44 => some (BitVec.ofNat 32 (j.next - 1))
  | 0x48 => some (match j.larder with | c :: _ => BitVec.ofNat 32 c.1 | [] => 0)
  | _ => none

/-- Page 0x00004 (R214). -/
def shown04 (s : State) (a : Nat) : Option Word :=
  let r := s.store
  match a with
  | 0x40 => some (BitVec.ofNat 32 (bit1 r.warned * 2 ^ 31 + bit1 (r.merged != 0) * 2 ^ 30 + (r.lastSeq - r.acked)))
  | 0x48 => some (BitVec.ofNat 32 r.lastSeq)
  | 0x4C => some (BitVec.ofNat 32 r.acked)
  | 0x54 => some (BitVec.ofNat 32 (bit1 r.winValid * 2 ^ 31 + bit1 r.winBusy * 2 ^ 30
      + (if r.winValid then r.win.length else 0)))
  | 0x58 => some (BitVec.ofNat 32 r.winFirst)
  | 0x5C => some (lowWord r.merged.toNat)
  | 0x60 => some (highWord r.merged.toNat)
  | _ => none

/-! ### Pages 0x00008 to 0x0000E -/

/-- Page 0x00008 (R480). -/
def shown08 (s : State) (a : Nat) : Option Word :=
  match a with
  | 0x40 => some (putField (putField (s.regs.word R.PCH_TS_STAT) 27 27 (bit1 s.trusted)) 24 24 (bit1 (s.time.slew != 0)))
  | 0x44 => some (lowWord s.now)
  | 0x48 => some (highWord s.now)
  | 0x4C => some (BitVec.ofInt 32 (satSigned 32 (Config.toUnits ((s.time.slew : Rat) / (usFine : Rat)))))
  | 0x50 => some (putField (s.regs.word R.PCH_TS_RATE) 31 16 (imageOf 16 (satSigned 16 s.time.rate)))
  | _ => none

/-- The slices with held outputs, as one number (PWR_HELD, R509). -/
def heldSlices (s : State) : Nat :=
  (List.finRange 68).foldl (fun n p => n + bit1 (heldAny s p) * 2 ^ p.val) 0

/-- Page 0x00009 (R509, R567). -/
def shown09 (s : State) (a : Nat) : Option Word :=
  let u := s.supply
  match a with
  | 0x40 =>
    let e := match s.landing.entry with
      | some e => e.target * 2 ^ 24 + 2 ^ 21 + (match e.asking with | b :: _ => blockPage b | [] => 0)
      | none => 0
    some (BitVec.ofNat 32 (s.landing.state * 2 ^ 28 + e + bit1 (!s.cellar.queue.isEmpty) * 2 ^ 20))
  | 0x80 => some (BitVec.ofNat 32 (heldSlices s))
  | 0x84 => some (BitVec.ofNat 32 (heldSlices s / 2 ^ 32))
  | 0x88 => some (BitVec.ofNat 32 (heldSlices s / 2 ^ 64))
  | 0x94 => some (BitVec.ofNat 32 (u.holdupMv % 2 ^ 16 * 2 ^ 16 + bit1 u.low * 2 ^ 15 + satTo 8 u.capUf))
  | 0x98 => some (BitVec.ofNat 32 (u.cause * 2 ^ 28 + bit1 (!u.pdet1) * 2 ^ 27 + bit1 (!u.pdet2) * 2 ^ 26
      + satTo 16 u.durMs))
  | _ => none

/-- TH_SENS_n of a sensor (R510). -/
def sensorWord (x : DieSensor) : Word := BitVec.ofNat 32 (bit1 x.broken * 2 ^ 31 + imageOf 16 x.temp)

/-- Page 0x0000A (R510). -/
def shown0A (s : State) (a : Nat) : Option Word :=
  let t := s.thermal
  match a with
  | 0x40 => some (BitVec.ofNat 32 (bit1 t.warn * 2 ^ 31 + bit1 t.throttle * 2 ^ 30 + bit1 t.shut * 2 ^ 29
      + bit1 t.sens[0].broken * 2 ^ 26 + bit1 t.sens[1].broken * 2 ^ 27 + bit1 t.sens[2].broken * 2 ^ 28
      + bit1 t.disagree * 2 ^ 25 + t.band * 2 ^ 22 + t.fact * 2 ^ 15))
  | 0x44 => some (BitVec.ofNat 32 (imageOf 16 t.tv * 2 ^ 16))
  | 0x48 => some (sensorWord t.sens[0])
  | 0x4C => some (sensorWord t.sens[1])
  | 0x50 => some (sensorWord t.sens[2])
  | 0x5C => some (BitVec.ofNat 32 (satTo 32 (t.thrMs / 1000)))
  | _ => none

/-- The receive boost of a band [dB] (R387). -/
def boostDb (b : Nat) : Rat := [3 / 2, 2, 3, 7 / 2, 9 / 2, 9 / 2].getD b 0

/-- RXEQ and TXDE in use (R387, R410): the band's, or those of HL_EQ. -/
def linkEq (s : State) : Nat × Nat :=
  if s.pb F.HL_EQ_OVR then (s.pg F.HL_EQ_RXEQ, s.pg F.HL_EQ_TXDE)
  else (satTo 3 (Config.toUnits (boostDb s.thermal.band / (3 / 4))).toNat, s.thermal.band / 2)

/-- What lane `n` of the host link carries between packets (R389 to R391): ordered sets on the lanes offered while it trains, TS2 once
eight sets have been received on the lane, and COM on the active lanes at UP. Every receive buffer is free between two commands. -/
def laneCarries (s : State) (n : Fin 4) : List Sym :=
  let k := s.link
  let lanes := if k.state ≤ 2 then k.offered &&& k.healthy else k.active
  let ts : TrainSet := if k.state = 3 ∨ (k.state = 2 ∧ onLane k.locked n.val) then .ts2 else .ts1
  if !s.porchRuns || !onLane lanes n.val then []
  else if k.state = 4 then [.com]
  else orderedSet ts n.val (k.offered &&& k.healthy) Config.linkBuffers (linkEq s).1 (linkEq s).2

/-- Page 0x0000B (R410). -/
def shown0B (s : State) (a : Nat) : Option Word :=
  let k := s.link
  match a with
  | 0x40 => some (BitVec.ofNat 32 (k.state * 2 ^ 29 + k.width * 2 ^ 24 + k.active.toNat * 2 ^ 20
      + k.healthy.toNat * 2 ^ 16 + (linkEq s).1 * 2 ^ 9 + (linkEq s).2 * 2 ^ 7))
  | 0x44 => some (BitVec.ofNat 32 ((k.tags.filter (fun c => c.2 == .opened)).length * 2 ^ 16 + Config.linkBuffers))
  | _ => none

/-- Page 0x0000C (R411). -/
def shown0C (s : State) (a : Nat) : Option Word :=
  match a with
  | 0x40 => some (BitVec.ofNat 32 (s.spi.late.length * 2 ^ 20))
  | _ => none

/-- Pages 0x0000D and 0x0000E (R450, R453). -/
def shownFB (s : State) (i : Fin 2) (a : Nat) : Option Word :=
  let x := s.port i
  match a with
  | 0x40 => some (BitVec.ofNat 32 (x.state * 2 ^ 29 + bit1 x.alone * 2 ^ 28 + bit1 (sendsSync s i) * 2 ^ 27
      + bit1 (s.srcPort == some i) * 2 ^ 26 + bit1 x.yield.isSome * 2 ^ 25 + bit1 x.domto * 2 ^ 24 + satTo 8 x.rec_ * 2 ^ 16
      + satTo 9 x.tec * 2 ^ 7 + x.txq.length))
  | 0x80 => some (putField (s.regs.word R.FB_TX_ID i.val) 15 8 (nodeOf s i))
  | _ => none

/-! ### Pages 0x0000F, 0x00010, the cellar and the hallway -/

/-- Page 0x0000F (R539). -/
def shown0F (s : State) (a : Nat) : Option Word :=
  match a with
  | 0x40 => some (BitVec.ofNat 32 (bit1 s.upkeep.banks[0].ok * 2 ^ 31 + bit1 s.upkeep.banks[1].ok * 2 ^ 30
      + bit1 (s.porchExec 0x0606) * 2 ^ 28 + s.thermal.band * 2 ^ 25))
  | _ => none

/-- PCH_RM_S_s of a slice (R539). -/
def mapStateWord (s : State) (p : Phys) : Word :=
  let x := s.sl p
  let z := match s.zoneOf p with
    | some z => if x.life = .serving ∨ x.life = .moving then z.val else 0
    | none => 0
  BitVec.ofNat 32 (x.life.code * 2 ^ 28 + z * 2 ^ 22 + x.cause * 2 ^ 16 + s.g p F.ZW_STAT_EOL_MED * 2 ^ 8
    + s.g p F.ZW_STAT_EOL_P10)

/-- Page 0x00010 (R539). -/
def shown10 (s : State) (a : Nat) : Option Word :=
  if a = 0x40 then
    let free := ((List.finRange 4).filter (fun k => freeSpare s k)).length
    let out := ((List.finRange 68).filter (fun p => (s.sl p).life == .factoryOut)).length
    let r := match s.upkeep.repair with
      | some r => 2 ^ 25 + r.zone.val * 2 ^ 19 + r.target.val * 2 ^ 12
      | none => 0
    some (BitVec.ofNat 32 (free * 2 ^ 29 + satTo 3 out * 2 ^ 26 + r))
  else if h : 0x100 ≤ a ∧ (a - 0x100) / 4 < 68 then some (mapStateWord s ⟨(a - 0x100) / 4, h.2⟩)
  else none

/-- CLR_DATE or CLR_LD_DATE's layout (R481). -/
def dateWord (c : Cellar) : Word := BitVec.ofNat 32 (c.year % 512 * 2 ^ 23 + c.month * 2 ^ 19 + c.day * 2 ^ 14)

/-- CLR_TIME's layout (R481). -/
def timeWord (c : Cellar) : Word := BitVec.ofNat 32 (c.hour * 2 ^ 27 + c.min * 2 ^ 21 + c.sec * 2 ^ 15)

/-- Page 0x00040 (R481). -/
def shown40 (s : State) (a : Nat) : Option Word :=
  match a with
  | 0x40 => some (putField (s.regs.word R.CLR_CAL_STAT) 31 31 (bit1 s.cellar.invalid))
  | 0x44 => some (BitVec.ofNat 32 s.cellar.sub)
  | 0x48 => some (dateWord s.cellar)
  | 0x4C => some (timeWord s.cellar)
  | _ => none

/-- Page 0x00041 (R481). -/
def shown41 (s : State) (a : Nat) : Option Word :=
  let c := s.cellar
  match a with
  | 0x40 => some (BitVec.ofNat 32 (imageOf 11 c.trim * 2 ^ 21 + c.band * 2 ^ 18 + bandOffset c.band))
  | 0x44 => some (BitVec.ofNat 32 (bit1 c.trusted * 2 ^ 31 + c.cause * 2 ^ 28 + bit1 c.retLost * 2 ^ 27
      + bit1 c.oscStop * 2 ^ 26))
  | _ => none

/-- Page 0x00043 (R511). -/
def shown43 (s : State) (a : Nat) : Option Word :=
  let c := s.cellar
  match a with
  | 0x40 => some (BitVec.ofNat 32 (bit1 (!c.queue.isEmpty) * 2 ^ 31
      + bit1 (!c.queue.isEmpty && s.journal.opened && !s.journal.replay) * 2 ^ 30 + c.queue.length * 2 ^ 25))
  | 0x44 => some (BitVec.ofNat 32 c.timer)
  | _ => none

/-- HWY_MAP_z (R540): VALID while a slice serves or is handing over the zone. -/
def mapWord (s : State) (z : Zone) : Word :=
  let p := s.sliceOf z
  let ok := (s.sl p).life == .serving || (s.sl p).life == .moving
  BitVec.ofNat 32 (bit1 ok * 2 ^ 31 + p.val * 2 ^ 24 + (if 64 ≤ p.val then p.val - 63 else 0) * 2 ^ 21)

/-- Page 0x00050 (R540). -/
def shown50 (s : State) (a : Nat) : Option Word :=
  if a = 0x40 then
    let z := match s.upkeep.repair with | some r => if r.held then r.zone.val else 0 | none => 0
    some (BitVec.ofNat 32 (bit1 (porchBusy s 0x50) * 2 ^ 31 + z * 2 ^ 25))
  else if h : 0x100 ≤ a ∧ (a - 0x100) / 4 < 64 then some (mapWord s ⟨(a - 0x100) / 4, h.2⟩)
  else none

/-- The age of the oldest valid path [days] (R540). -/
def oldestPath (s : State) : Nat :=
  s.upkeep.paths.foldl (fun n c =>
    if h : c.1 < 256 then
      if pathValid s ⟨c.1 / 4, by omega⟩ ⟨c.1 % 4, by omega⟩ then max n ((s.now - c.2.time) / dayUs) else n
    else n) 0

/-- Page 0x00051 (R540). -/
def shown51 (s : State) (a : Nat) : Option Word :=
  match a with
  | 0x40 => some (BitVec.ofNat 32 (bit1 (s.porchExec 0x0603) * 2 ^ 31 + satTo 16 (oldestPath s)))
  | _ => none

/-- The word that a porch, cellar or hallway register shows at this instant. -/
def porchShown (s : State) (page off : Nat) : Word :=
  let w := match page with
    | 0x00 => shown00 s off | 0x01 => shown01 s off | 0x02 => shown02 s off | 0x03 => shown03 s off
    | 0x04 => shown04 s off
    | 0x05 => some (windowWord s ((off - 0x40) / 32) ((off - 0x40) / 4 % 8))
    | 0x06 => some (windowWord s (126 + (off - 0x40) / 32) ((off - 0x40) / 4 % 8))
    | 0x07 => some (windowWord s (252 + (off - 0x40) / 32) ((off - 0x40) / 4 % 8))
    | 0x08 => shown08 s off | 0x09 => shown09 s off | 0x0A => shown0A s off | 0x0B => shown0B s off
    | 0x0C => shown0C s off | 0x0D => shownFB s 0 off | 0x0E => shownFB s 1 off | 0x0F => shown0F s off
    | 0x10 => shown10 s off | 0x40 => shown40 s off | 0x41 => shown41 s off | 0x43 => shown43 s off
    | 0x50 => shown50 s off | 0x51 => shown51 s off
    | _ => none
  match w with
  | some v => v
  | none => rfGet s.regs (page * 4096 + off)

/-! ### Slice pages -/

/-- The house time at which TS last passed through 0 [µs] (R143). -/
def sliceEpoch (t : SliceTime) : Nat :=
  (((t.epoch + ((t.base - t.base % 26214400000000 : Nat) : Int)) / usFine) % (2 ^ 64 : Nat)).toNat

/-- The house time of the last pair boundary (R183), by the slice's own time base (R143). -/
def pairTime (s : State) (p : Phys) : Nat :=
  let t := (s.sl p).time
  let m := s.mt p
  if m.haveP then ((t.epoch + (m.prevAt : Int)) / usFine % (2 ^ 64 : Nat)).toNat else sliceHouse t

/-- A_PH and B_PH put into ZC_STAT: the phases of the two converters at this instant (R118, R148). -/
def withPhases (s : State) (p : Phys) (w : Word) : Word :=
  let f := (s.sl p).sclkMhz
  putField (putField w 23 21 ((s.cv p).a.phase f (s.cvNow p))) 20 18 ((s.cv p).b.phase f (s.cvNow p))

/-- A word of a slice page that is derived when it is read; `off` is the offset in the page. ZI_THR_n is invalid while
ZI_T_n.TEMP is (R112, R113). -/
def sliceDerived (s : State) (p : Phys) (sub off : Nat) : Option Word :=
  let x := s.sl p
  let t := x.time
  match sub with
  | 0x0 => if off = 0x40 then some (BitVec.ofNat 32 (x.life.code * 2 ^ 28 + x.cause * 2 ^ 22
      + s.g p F.ZW_SLC_STAT_RESTARTS * 2 ^ 8)) else none
  | 0x1 =>
    if 0x88 ≤ off ∧ (off - 0x88) % 0x20 = 0 ∧ (off - 0x88) / 0x20 < 4 then
      if s.g p F.ZI_T_n_TEMP ((off - 0x88) / 0x20) = 0x8000 then some 0x80000000#32 else none
    else none
  | 0x2 =>
    if off = 0x40 then some (withPhases s p (x.z.regs.word R.ZC_STAT))
    else if off = 0x44 then
      let h := s.hdr (slicePage p 2)
      some (putField (x.z.regs.word R.ZC_TIMING) 15 8 (if h.draughtOn then fieldOf h.draught 15 8 else 0))
    else if off = 0x58 then some (BitVec.ofNat 32 (sliceTicks t))
    else if off = 0x5C then some (lowWord (sliceEpoch t))
    else if off = 0x60 then some (highWord (sliceEpoch t))
    else none
  | 0x4 =>
    if off = 0xC0 then some (lowWord (pairTime s p))
    else if off = 0xC4 then some (highWord (pairTime s p))
    else if h : 0xC8 ≤ off ∧ (off - 0xC8) / 8 < 7 then
      let n := (x.z.meter.acc[(off - 0xC8) / 8]'h.2).count
      some (if off % 8 = 0 then lowWord n else highWord n)
    else none
  | 0x5 =>
    if off = 0x40 then some (putField (x.z.regs.word R.ZH_STAT) 31 31 (bit1 (calculator s p).isSome))
    else if off = 0x80 then some (lowWord (s.slNow p))
    else if off = 0x84 then some (highWord (s.slNow p))
    else if h : 0x88 ≤ off ∧ (off - 0x88) / 8 < 4 then
      let n := (x.z.heat.acc[(off - 0x88) / 8]'h.2).count
      some (if off % 8 = 0 then lowWord n else highWord n)
    else none
  | 0x8 => if off = 0x50 then some (showLocal s p) else if off = 0x54 then some (nextAlarm s p) else none
  | 0xA => if off = 0x40 then some (putField (x.z.regs.word R.ZO_STAT) 23 21 x.z.outs.band) else none
  | 0xC => if off = 0x44 then some (BitVec.ofNat 32 (satTo 32 (truncRat x.stress).toNat)) else none
  | 0xD =>
    match off with
    | 0x40 => some (BitVec.ofNat 32 (bit1 t.lock * 2 ^ 31 + bit1 t.aligned * 2 ^ 30 + bit1 (!s.time.pend.isEmpty) * 2 ^ 29))
    | 0x44 => some (lowWord (sliceHouse t))
    | 0x48 => some (highWord (sliceHouse t))
    | 0x50 => some (BitVec.ofInt 32 t.rate)
    | _ => none
  | _ => none

/-- The word that a slice register shows at this instant; `a` is its address in slice S00. -/
def sliceShown (s : State) (p : Phys) (a : Nat) : Word :=
  match sliceDerived s p (a / 4096 - 0x100) (a % 4096) with
  | some v => v
  | none => rfGet (s.z p).regs a

/-! ### Latches (R183) -/

/-- The slice registers that a read of `a` latches (R105, R141, R143, R162, R171, R183, R211, R247, R281, R284, R316, R319,
R482, R541). -/
def sliceGroup (a : Nat) : List Nat :=
  if a / 4096 = 0x101 then
    if 0x101084 ≤ a ∧ (a - 0x101084) % 0x20 = 0 ∧ (a - 0x101084) / 0x20 < 4 then [a + 4, a + 8, a + 12] else []
  else if a / 4096 = 0x103 then
    if 0x103040 ≤ a ∧ a < 0x103140 ∧ a % 8 = 0 then [a + 4, a + 0x100, a + 0x104]
    else if a = 0x103240 then [a + 4] else []
  else match a with
    | 0x102058 => [0x10205C, 0x102060]
    | 0x104040 => [0x104080, 0x104084, 0x104088, 0x10408C, 0x104090, 0x104094, 0x104098]
    | 0x104100 => [0x104104, 0x104108, 0x10410C] ++ R.ZE_HV_h.all 50 ++ R.ZE_HI_h.all 50
    | 0x1040C0 => 0x1040C4 :: (List.range 14).map (fun k => 0x1040C8 + 4 * k)
    | 0x10409C => [0x1040A0, 0x1040A4, 0x1040A8, 0x1040AC]
    | 0x105040 => [0x105060, 0x105064, 0x105068, 0x10506C, 0x105070]
    | 0x105080 => 0x105084 :: (List.range 8).map (fun k => 0x105088 + 4 * k)
    | 0x106040 => [0x106044, 0x106048, 0x10604C] ++ R.ZL_OUT_j.all 5
    | 0x1060C0 => [0x1060C4, 0x1060D0]
    | 0x1060C8 => [0x1060CC, 0x1060D4]
    | 0x108058 => [0x10805C, 0x108060]
    | 0x107040 => [0x107054, 0x107058, 0x10705C, 0x107060, 0x107064] ++ R.ZP_STEP_k.all 96
    | 0x10A040 => R.ZO_OUT_j.all 5 ++ R.ZO_MEAS_j.all 5
    | 0x10B040 => [0x10B054, 0x10B058, 0x10B05C]
    | 0x10C040 => [0x10C048, 0x10C04C, 0x10C050, 0x10C054] ++ R.ZW_DRV_j.all 5
    | 0x10D044 => [0x10D048]
    | _ => []

/-- Whether a slice register reads its latched copy. -/
def sliceLatched (a : Nat) : Bool :=
  let inside := fun (lo hi : Nat) => decide (lo ≤ a) && decide (a ≤ hi)
  match a / 4096 with
  | 0x101 => inside 0x101088 0x1010F0 && (a % 0x20 == 0x08 || a % 0x20 == 0x0C || a % 0x20 == 0x10)
  | 0x102 => a == 0x10205C || a == 0x102060
  | 0x103 => (inside 0x103040 0x10313F && a % 8 == 4) || inside 0x103140 0x10323F || a == 0x103244
  | 0x104 => inside 0x104080 0x104098 || inside 0x1040A0 0x1040AC || inside 0x1040C4 0x1040FC || inside 0x104104 0x10410C
      || inside 0x104204 0x1042C8 || inside 0x104304 0x1043C8
  | 0x105 => inside 0x105060 0x105070 || inside 0x105084 0x1050A4
  | 0x106 => inside 0x106044 0x10604C || inside 0x1060A0 0x1060B0 || a == 0x1060C4 || a == 0x1060CC || a == 0x1060D0
      || a == 0x1060D4
  | 0x107 => a == 0x107054 || inside 0x107058 0x107064 || inside 0x107100 0x10727C
  | 0x108 => a == 0x10805C || a == 0x108060
  | 0x10A => inside 0x10A080 0x10A090 || inside 0x10A0A0 0x10A0B0
  | 0x10B => inside 0x10B054 0x10B05C || a == 0x10B064
  | 0x10C => inside 0x10C048 0x10C054 || inside 0x10C060 0x10C070
  | 0x10D => a == 0x10D048
  | _ => false

/-- The porch, cellar and hallway registers that a read of `a` latches (R353, R410, R449, R467, R480, R509, R510, R567,
R576). -/
def porchGroup (a : Nat) : List Nat :=
  match a with
  | 0x00004C => [0x000050, 0x000054]
  | 0x000058 => [0x00005C]
  | 0x00205C => [0x002060]
  | 0x008044 => [0x008048]
  | 0x008054 => [0x008058, 0x00805C]
  | 0x009060 => [0x009064, 0x009068, 0x00906C, 0x009070, 0x009074]
  | 0x009090 => [0x009094, 0x009098]
  | 0x00A040 => [0x00A044, 0x00A048, 0x00A04C, 0x00A050]
  | 0x00B040 => [0x00B044]
  | 0x00D040 => [0x00D064, 0x00D068, 0x00D06C]
  | 0x00E040 => [0x00E064, 0x00E068, 0x00E06C]
  | 0x040044 => [0x040048, 0x04004C]
  | _ => []

/-- The porch registers that read their latched copy. -/
def porchLatched (a : Nat) : Bool :=
  let inside := fun (lo hi : Nat) => decide (lo ≤ a) && decide (a ≤ hi)
  match a / 4096 with
  | 0x00 => a == 0x50 || a == 0x54 || a == 0x5C
  | 0x02 => a == 0x002060
  | 0x08 => a == 0x008048 || a == 0x008058 || a == 0x00805C
  | 0x09 => inside 0x009064 0x009074 || a == 0x009094 || a == 0x009098
  | 0x0A => inside 0x00A044 0x00A050
  | 0x0B => a == 0x00B044
  | 0x0D => inside 0x00D064 0x00D06C || inside 0x00D0C4 0x00D0CC || inside 0x00D0E0 0x00D0FC
  | 0x0E => inside 0x00E064 0x00E06C || inside 0x00E0C4 0x00E0CC || inside 0x00E0E0 0x00E0FC
  | 0x40 => a == 0x040048 || a == 0x04004C
  | 0x43 => a == 0x04304C
  | _ => false

end Sys2Proof.Machine
end

