-- ==== Sys2Proof/Machine/Access.lean ====
section
/-! DEFINITION. Register accesses (chapter 02): where an address leads, the status with which an access completes, the word a
read returns and what the read changes, the effect of a write, and the commands of every path that perform accesses. -/
namespace Sys2Proof.Machine

/-! ### Where an address leads (R44 to R49) -/

/-- What an address of a mapped page reaches: a porch, cellar or hallway page, or a subpage of a physical slice, with the
zone when it was named through a zone alias. -/
inductive Place where
  | porch (page : Nat)
  | slice (p : Phys) (sub : Nat) (zone : Option Zone)
  deriving DecidableEq, Repr

/-- The place an address names; an alias is resolved by the map as it stands (R48). -/
def State.place (s : State) (a : Nat) : Option Place :=
  match pageKind (a / 4096) with
  | .porch | .cellar | .hallway => some (.porch (a / 4096))
  | .slice p sub => some (.slice p sub none)
  | .zone z sub => some (.slice (s.sliceOf z) sub (some z))
  | .unmapped => none

/-- The physical page of a place. -/
def pageOf : Place → Nat
  | .porch page => page
  | .slice p sub _ => slicePage p sub

/-- The address by which the register maps name the register at an offset of a place. -/
def keyOf (pl : Place) (off : Nat) : Nat :=
  match pl with
  | .porch page => page * 4096 + off
  | .slice _ sub _ => (0x100 + sub) * 4096 + off

/-- Whether a place is a zone alias in a migration window (R49). -/
def placeMoving (s : State) : Place → Bool
  | .slice _ _ (some z) => s.movingZone z
  | _ => false

/-- Whether the block behind a place is dark (R70, R71, R462). -/
def placeDark (s : State) : Place → Bool
  | .porch page => cellarDark s page
  | .slice p _ _ => s.dark p

/-! ### Writable bits (R53, R572) -/

/-- The bits of PG_DRAUGHT that act on a page, and those of PG_DRAUGHT_P (R572, R573). -/
def draughtMasks (page : Nat) : Nat × Nat :=
  if page = 0x0B then (0xFFFF0005, 0xFFFFFF00)
  else if page = 0x0D ∨ page = 0x0E then (0xFFFF0003, 0xFFFFFFFF)
  else if page ≤ 0x04 ∨ (0x08 ≤ page ∧ page ≤ 0x10) ∨ (0x40 ≤ page ∧ page ≤ 0x43) ∨ page = 0x50 ∨ page = 0x51 then
    (0xFFFF0001, 0xFF00)
  else if 0x100 ≤ page ∧ (page - 0x100) % 0x20 = 0 then (0xFFFF0001, 0xFF00)
  else if 0x100 ≤ page ∧ (page - 0x100) % 0x20 = 2 then (0xFF01, 0)
  else (0, 0)

/-- Whether a register stands at an offset of a page (R52). -/
def occupied (pl : Place) (off : Nat) : Bool :=
  if off < 0x38 then true
  else if off < 0x40 then false
  else
    match pl with
    | .porch 5 | .porch 6 | .porch 7 => true
    | _ => (regAt (keyOf pl off)).isSome

/-- Whether the register at an offset has a writable field (R53). -/
def writable (pl : Place) (off : Nat) : Bool :=
  match off with
  | 0x0C | 0x10 | 0x14 | 0x18 | 0x20 | 0x24 => true
  | 0x28 => (draughtMasks (pageOf pl)).1 != 0
  | 0x2C => (draughtMasks (pageOf pl)).2 != 0
  | _ =>
    match regAt (keyOf pl off) with
    | some d => rwMaskAt d (keyOf pl off) != 0 || d.w1c != 0 || d.wo != 0
    | none => false

/-- Whether a page's locks keep a write at an offset from being stored (R64, R68). -/
def lockedFor (h : Hdr) (off : Nat) : Bool :=
  ((h.lock || h.sealOn) && !(off == 0x10 || off == 0x14 || off == 0x18 || off == 0x20))
    || ((off == 0x28 || off == 0x2C) && !h.draughtUnl)

/-! ### The status of an access (R51) -/

/-- The status of a read. -/
def readStatus (s : State) (a : Nat) : Status :=
  if a % 4 ≠ 0 then .align
  else match s.place a with
    | none => .unmapped
    | some pl =>
      if a % 4096 < 0x40 then .ok
      else if placeMoving s pl then .moving
      else if placeDark s pl then .dark
      else .ok

/-- The status of a write before its keys are judged. -/
def writeStatus (s : State) (a : Nat) : Status :=
  if a % 4 ≠ 0 then .align
  else match s.place a with
    | none => .unmapped
    | some pl =>
      if 0x40 ≤ a % 4096 ∧ placeMoving s pl then .moving
      else if placeDark s pl then .dark
      else if lockedFor (s.hdr (pageOf pl)) (a % 4096) then .locked
      else if occupied pl (a % 4096) && !writable pl (a % 4096) then .access
      else .ok

/-! ### Header reads (R56 to R66) -/

/-- The word of a header register of a place. -/
def headerWord (s : State) (pl : Place) (off : Nat) : Word :=
  match off, pl with
  | 0x00, .porch page => porchId page
  | 0x00, .slice p sub z => sliceId s p sub z.isSome
  | 0x04, _ => pgRev
  | 0x08, .porch page => porchStat s page
  | 0x08, .slice p sub _ => sliceStat s p sub (placeMoving s pl)
  | _, _ => (s.hdr (pageOf pl)).word off

/-- What a header read changes: the RC fields of PG_ERRQ and PG_LOCK, the snapshot of R65. -/
def headerTaken (h : Hdr) (off : Nat) : Hdr :=
  match off with
  | 0x1C => { h with ovf := 0, rep := 0 }
  | 0x20 => { h with badKey := 0 }
  | 0x30 => { h with tsSnap := some (BitVec.ofNat 32 (h.ts / 2 ^ 32)) }
  | 0x34 => { h with tsSnap := none }
  | _ => h

/-! ### Register reads -/

/-- A register file after the read of a register with RC fields: each returns to its reset value (R53). -/
def clearRc (f : RegFile) (a : Nat) : RegFile :=
  match regAt a with
  | some d =>
    let m := BitVec.ofNat 32 d.rc
    if d.rc = 0 then f else rfPut f a ((rfGet f a &&& ~~~ m) ||| (regReset a &&& m))
  | none => f

/-- PWR_SUPPLY (R567): while VIN is in range its value and IIN are free within their fields. -/
def readSupply (s : State) : Word × State :=
  let v := s.freshNat
  let i := v.2.freshNat
  let vin := if s.supply.range then s.supply.vin else 18000 + v.1 % 14001
  (BitVec.ofNat 32 (vin % 2 ^ 16 * 2 ^ 16 + bit1 s.supply.range * 2 ^ 15 + i.1 % 2 ^ 12), i.2)

/-- CLR_SUPPLY (R481): the rail voltage is a free 12-bit value. -/
def readCellarSupply (s : State) : Word × State :=
  let r := s.freshNat
  let c := s.cellar
  (BitVec.ofNat 32 (bit1 c.onCell * 2 ^ 31 + bit1 c.locked * 2 ^ 30 + r.1 % 2 ^ 12 * 2 ^ 16 + c.cellMv % 2 ^ 12), r.2)

/-- CLR_WAKE_EVT_LO (R511): the oldest wake-log entry is removed and its time latched. -/
def readWakeEvt (s : State) : Word × State :=
  match s.cellar.wlog with
  | [] => (0, s.latchPW [(R.CLR_WAKE_EVT_HI.at 0, 0)])
  | r :: l =>
    (BitVec.ofNat 32 (2 ^ 31 + r.src % 16 * 2 ^ 27 + r.state % 8 * 2 ^ 24 + satTo 8 l.length * 2 ^ 16 + satTo 16 r.count),
     ({ s with cellar := { s.cellar with wlog := l } }).latchPW
       [(R.CLR_WAKE_EVT_HI.at 0, lowWord (r.time / 1000))])

/-- A read of a porch, cellar or hallway register: its word, its latches, its RC fields. -/
def porchRead (s : State) (page off : Nat) : Word × State :=
  let a := page * 4096 + off
  if a = R.CLR_WAKE_EVT_LO.at 0 then readWakeEvt s
  else if a = R.CLR_SUPPLY.at 0 then readCellarSupply s
  else if a = R.FB_RX_HDR.at 0 then readRxHdr s 0
  else if a = R.FB_RX_HDR.at 1 then readRxHdr s 1
  else
    let r := if a = R.PWR_SUPPLY.at 0 then readSupply s
      else (if porchLatched a then rfGet s.latch a else porchShown s page off, s)
    let latched := (porchGroup a).map (fun g => (g, porchShown s (g / 4096) (g % 4096)))
    let s1 := r.2.latchPW latched
    (r.1, { s1 with regs := clearRc s1.regs a })

/-- ZE_CAP_DATA (R181): the word at PTR, which is free beyond the words held; PTR advances. -/
def readCapture (s : State) (p : Phys) : Word × State :=
  let n := s.g p F.ZE_CAP_PTR_PTR
  let s1 := s.w p F.ZE_CAP_PTR_PTR ((n + 1) % 65536)
  match (s.z p).meter.cap.words[n]? with
  | some w => (w, s1)
  | none => s1.fresh

/-- NEW and OVR of the second result of an entry, cleared by the read of its LO register (R141). -/
def takeEntryB (a : Nat) (f : RegFile) : RegFile :=
  if 0x103040 ≤ a ∧ a < 0x103140 ∧ a % 8 = 0 then clearRc f (a + 0x100) else f

/-- Whether a register reads the second result of an entry, whose latched copy no read of its own changes (R141). -/
def isEntryB (a : Nat) : Bool := decide (0x103140 ≤ a) && decide (a < 0x103240)

/-- A read of a slice register; `a` is its address in S00. -/
def sliceRead (s : State) (p : Phys) (a : Nat) : Word × State :=
  if a = R.ZE_CAP_DATA.at 0 then readCapture s p
  else if a = R.ZK_EVT_LO.at 0 then takePanelEvent s p
  else
    let w := if sliceLatched a then rfGet (s.z p).latch a else sliceShown s p a
    let latched := (sliceGroup a).map (fun g => (g, sliceShown s p g))
    (w, (s.latchZW p latched).onR p (fun f => takeEntryB a (if isEntryB a then f else clearRc f a)))

/-- A read that completes OK. -/
def readOk (s : State) (pl : Place) (off : Nat) : Word × State :=
  if off < 0x40 then (headerWord s pl off, s.onHdr (pageOf pl) (fun h => headerTaken h off))
  else
    match pl with
    | .porch page => porchRead s page off
    | .slice p _ _ => sliceRead s p (keyOf pl off)

/-- One read (R51): a read that does not complete OK returns 0 and changes nothing. -/
def readAt (s : State) (a : Nat) : Status × Word × State :=
  match readStatus s a, s.place a with
  | .ok, some pl => (.ok, readOk s pl (a % 4096))
  | st, _ => (st, 0, s)

/-! ### Header writes -/

/-- A write of PG_LOCK (R67, R574, R578). -/
def lockWrite (s : State) (page : Nat) (v : Word) : Status × State :=
  let h := s.hdr page
  let key := fieldOf v 31 16
  let toSeal := fieldOf v 2 2 == 1
  let toLock := fieldOf v 1 1 == 1
  let unl := fieldOf v 0 0 == 1
  let st := s.modst.state
  let okLock := toLock == h.lock || toLock || key == 0x6D2E
  let okSeal := toSeal == h.sealOn || (key == 0x5EA1 && (st == 1 || (st == 4 && !toSeal)))
  let okUnl := !unl || (key == 0x5A3C && (st == 1 || st == 3))
  let asks := toLock != h.lock || toSeal != h.sealOn || unl
  if (asks && okLock && okSeal && okUnl) || (!asks && key == 0) then
    let s1 := s.setHdr page { h with lock := toLock, sealOn := toSeal, draughtUnl := h.draughtUnl || unl }
    let s2 := if unl && !h.draughtUnl then s1.errP 0 page 0x1F01 else s1
    (.ok, if toSeal == h.sealOn then s2 else s2.errP 0 page (if toSeal then 0x1005 else 0x1006))
  else (.mismatch, s.setHdr page { h with badKey := satTo 8 (h.badKey + 1) })

/-- The bits of PG_IER and PG_ISR that a page has: the common events and its own (R61). -/
def eventBits (page : Nat) : Nat := 0x1F + evtMask (if page < 0x100 then page else 0x100 + (page - 0x100) % 0x20)

/-- A write of a header register (R60, R61, R63, R64, R66, R76). -/
def headerWrite (s : State) (page off : Nat) (v : Word) : Status × State :=
  let h := s.hdr page
  match off with
  | 0x0C => (.ok, s.setHdr page { h with ctrl := v &&& 0x38 })
  | 0x10 => (.ok, s.setHdr page { h with isr := h.isr &&& ~~~ v })
  | 0x14 => (.ok, s.setHdr page { h with ier := v &&& BitVec.ofNat 32 (eventBits page) })
  | 0x18 => if h.err = 0 ∨ v ≠ h.err then (.mismatch, s) else (.ok, s.ackErr page)
  | 0x20 => lockWrite s page v
  | 0x24 => (.ok, s.setHdr page { h with veto := fieldOf v 0 0 == 1 })
  | 0x28 =>
    let d := v &&& BitVec.ofNat 32 (draughtMasks page).1
    (.ok, noteDraught s (s.setHdr page { h with draught := d }))
  | 0x2C => (.ok, s.setHdr page { h with draughtP := v &&& BitVec.ofNat 32 (draughtMasks page).2 })
  | _ => (.ok, s)

/-! ### Register writes -/

/-- What a write's effect may depend on besides the written word: the records whose copy is found bad, and whether the
frame to cancel has started on the wire (a free value where the command does not say). -/
structure Hint where
  bad     : List Nat := []
  started : Option Bool := none
  deriving DecidableEq, Repr

/-- The word a write leaves in a register (R53). -/
def storeWord (d : RegDef) (a : Nat) (old v : Word) : Word :=
  let rw := BitVec.ofNat 32 (rwMaskAt d a)
  let w1c := BitVec.ofNat 32 d.w1c
  (old &&& ~~~ rw &&& ~~~ (w1c &&& v)) ||| (v &&& rw)

/-- The register file after a write. -/
def storeReg (f : RegFile) (a : Nat) (v : Word) : RegFile :=
  match regAt a with
  | some d => rfPut f a (storeWord d a (rfGet f a) v)
  | none => f

/-- The words of a larder entry, CRC in W15 (R337). -/
def larderWords (lseq : Nat) (i : LdItem) : List Word :=
  let w : List Word := match i.kind with
    | .head n seq op path len zm crc pay =>
      [BitVec.ofNat 32 lseq, BitVec.ofNat 32 (2 ^ 28 + n * 2 ^ 16 + i.source.toNat), seq,
       BitVec.ofNat 32 (op.toNat * 2 ^ 16 + path * 2 ^ 14 + len), lowWord zm.toNat, highWord zm.toNat, crc]
      ++ leWords 8 pay
    | .cont k bytes =>
      [BitVec.ofNat 32 lseq, BitVec.ofNat 32 (2 * 2 ^ 28 + k * 2 ^ 16 + i.source.toNat)] ++ leWords 13 bytes
    | .mark seq op hd z porch final result reason value =>
      [BitVec.ofNat 32 lseq, BitVec.ofNat 32 (3 * 2 ^ 28 + i.source.toNat), seq, BitVec.ofNat 32 (op.toNat * 2 ^ 16),
       BitVec.ofNat 32 hd,
       BitVec.ofNat 32 (z * 2 ^ 26 + bit1 porch * 2 ^ 25 + bit1 final * 2 ^ 24 + result * 2 ^ 16 + reason), value]
      ++ List.replicate 8 0
  w ++ [crc32 ((w.map (fun x => leBytes 4 x.toNat)).flatten)]

/-- A write of PCH_LD_SEL (R355). -/
def copyLarder (s : State) (n : Word) : State :=
  let w := match smFind s.journal.larder n.toNat with
    | some i => larderWords n.toNat i
    | none => List.replicate 16 0
  (List.range 16).foldl (fun (s : State) k => s.pwWord R.PCH_LD_ENT_w (w.getD k 0) k) s

/-- A write of PCH_GB_Q_SEQ (R354). -/
def queryBook (s : State) (n : Word) : State :=
  let src := BitVec.ofNat 16 (s.pg F.PCH_GB_Q_SRC_SOURCE)
  let e := bookEntry s src n.toNat
  let below := match hwmOf s src with | some h => decide (n.toNat ≤ h) | none => false
  let res := match e with | some e => e.result * 2 ^ 16 + e.reason | none => 0
  s.pwWord R.PCH_GB_Q_RES (BitVec.ofNat 32 (2 ^ 31 + bit1 e.isSome * 2 ^ 30 + bit1 below * 2 ^ 29 + res))

/-- A write of FB_CTRL (R435, R447, R454). -/
def busControl (s : State) (i : Fin 2) (v : Word) (h : Hint) : State :=
  let s1 := if fieldOf v 2 2 = 1 then
      match h.started with
      | some b => cancelSlot s i b
      | none => let n := s.freshNat; cancelSlot n.2 i (n.1 % 2 == 1)
    else s
  let s2 := if fieldOf v 1 1 = 1 then sendSlot s1 i else s1
  if fieldOf v 0 0 = 1 then sendKnock s2 (if i = 0 then .a else .b) else s2

/-- A write of CLR_TRUST (R457, R465, R481). -/
def clearTrustFlags (s : State) (v : Word) : State :=
  { s with cellar := { s.cellar with
      retLost := s.cellar.retLost && fieldOf v 27 27 == 0, oscStop := s.cellar.oscStop && fieldOf v 26 26 == 0 } }

/-- What a write of a porch, cellar or hallway register starts. -/
def porchAction (s : State) (a : Nat) (v : Word) (h : Hint) : State :=
  if a = R.HWY_CAL_SEL.at 0 then
    copyPath s ⟨fieldOf v 5 0, Nat.mod_lt _ (by decide)⟩ ⟨fieldOf v 9 8, Nat.mod_lt _ (by decide)⟩
  else if a = R.PWR_LOG_SEL.at 0 then copyAbort s (fieldOf v 3 0)
  else if a = R.PCH_EC_SEL.at 0 then copyEntry s v
  else if a = R.PCH_LD_SEL.at 0 then copyLarder s v
  else if a = R.PCH_GB_Q_SEQ.at 0 then queryBook s v
  else if a = R.PCH_RS_WIN_SEQ.at 0 then loadWindow s v.toNat h.bad
  else if a = R.HL_CTRL.at 0 then
    (if fieldOf v 4 4 = 1 then hostRetrain s (BitVec.ofNat 4 (fieldOf v 3 0)) else s)
  else if a = R.FB_CTRL.at 0 then busControl s 0 v h
  else if a = R.FB_CTRL.at 1 then busControl s 1 v h
  else if a = R.CLR_CTRL.at 0 then (if fieldOf v 0 0 = 1 then loadCalendar s else s)
  else if a = R.CLR_TRUST.at 0 then clearTrustFlags s v
  else s

/-- A write of ZC_CTRL: the urgent request and the trigger of SQ3 (R122, R130). -/
def convControl (s : State) (p : Phys) (v : Word) : State :=
  let s1 := if fieldOf v 7 7 = 1 then urgentAsk s p { host := true, cfg := (s.z p).regs.word R.ZC_URG_CFG } else s
  if fieldOf v 3 3 = 1 then seqTrigger s1 p 3 .host else s1

/-- A write of ZE_CAP_CTRL (R176). -/
def capControl (s : State) (p : Phys) (v : Word) : State :=
  let s1 := if fieldOf v 2 2 = 1 then capStop s p else s
  let s2 := if fieldOf v 1 1 = 1 ∧ capSrc (s1.mt p).cap.cfg = 0 then capTrigger s1 p else s1
  if fieldOf v 0 0 = 1 then capArm s2 p else s2

/-- A write of ZO_CTRL (R293, R303). -/
def outControl (s : State) (p : Phys) (v : Word) : State :=
  let s1 := (List.finRange 5).foldl (fun (s : State) (j : Fin 5) =>
    if bitOf (fieldOf v 12 8) j.val then clearOvc s p j else s) s
  (List.finRange 5).foldl (fun (s : State) (j : Fin 5) => if bitOf (fieldOf v 4 0) j.val then releaseOut s p j else s) s1

/-- Whether an address is of SQ3 or of the entries it may use (R121, R152). -/
def isSeq3 (a : Nat) : Bool :=
  a == R.ZC_SEQ_q.at 3 || a == R.ZC_SEQ_PER_q.at 3 || a == R.ZC_SEQ_PH_q.at 3
    || (List.range 8).any (fun k => a == R.ZC_ENT_CFG_k.at (24 + k))

/-- What a write of a slice register starts; `s0` is the state before the write. -/
def sliceAction (s0 s : State) (p : Phys) (a : Nat) (v : Word) : State :=
  if a = R.ZI_CTRL.at 0 then (if fieldOf v 4 4 = 1 then diagNowEffect s p else s)
  else if a = R.ZC_CTRL.at 0 then convControl s p v
  else if isSeq3 a then seq3Written s0 s p
  else if a = R.ZE_CAP_CTRL.at 0 then capControl s p v
  else if a = R.ZO_CTRL.at 0 then outControl s p v
  else s

/-- A register write that completes OK. -/
def registerStore (s : State) (pl : Place) (off : Nat) (v : Word) (h : Hint) : State :=
  let a := keyOf pl off
  match pl with
  | .porch _ => porchAction ({ s with regs := storeReg s.regs a v }) a v h
  | .slice p _ _ => sliceAction s (s.onR p (fun f => storeReg f a v)) p a v

/-- A write that no lock or dark block stops. -/
def writeOk (s : State) (pl : Place) (off : Nat) (v : Word) (h : Hint) : Status × State :=
  if !occupied pl off then (.ok, s)
  else
    let r := if off < 0x40 then headerWrite s (pageOf pl) off v else (.ok, registerStore s pl off v h)
    if r.1 = .ok then (.ok, r.2.touch (pageOf pl)) else r

/-- One write (R51). -/
def writeAt (s : State) (a : Nat) (v : Word) (h : Hint := {}) : Status × State :=
  match writeStatus s a, s.place a with
  | .ok, some pl => writeOk s pl (a % 4096) v h
  | st, _ => (st, s)

/-! ### Accesses of one command -/

/-- The address of a slice register, given as in S00, through a view. -/
def viewAddr (v : View) (a : Nat) : Nat :=
  match v with
  | .phys p => a + p.val * 0x20000
  | .zone z => a + 0xF00000 + z.val * 0x20000

/-- A register access that the host makes: served while the porch runs (R56), it ends a DOZE. -/
def onAccess (s : State) (f : State → Status × Word × State) : State :=
  if s.porchRuns then
    let r := f (endDoze s)
    r.2.2.emit (.access r.1 r.2.1)
  else s

/-- One read by the host. -/
def hostRead (s : State) (a : Nat) : State := onAccess s (fun s => readAt s a)

/-- One write by the host. -/
def hostWrite (s : State) (a : Nat) (v : Word) (h : Hint := {}) : State :=
  onAccess s (fun s => let r := writeAt s a v h; (r.1, 0, r.2))

/-- The address of a header register of a page (R56). -/
def hdrAddr (page : Page) (off : Nat) : Nat := page.toNat * 4096 + off

/-- PG_LOCK as a write leaves LOCK and SEAL at their present values. -/
def lockNow (s : State) (page : Page) : Nat :=
  let h := s.hdr (s.physPage page.toNat)
  bit1 h.sealOn * 4 + bit1 h.lock * 2

/-- A write of PG_LOCK with a key that sets or clears the bits of `m`. -/
def hostLock (s : State) (page : Page) (key : BitVec 16) (m : Nat) (on : Bool) : State :=
  let w := BitVec.ofNat 32 (key.toNat * 2 ^ 16 + lockNow s page)
  let b := BitVec.ofNat 32 m
  hostWrite s (hdrAddr page 0x20) (if on then w ||| b else w &&& ~~~ b)

/-! ### Bursts (R396) -/

/-- Reads of consecutive words, in ascending order. -/
def readBurst : Nat → Nat → State → List Status × List Word × State
  | 0, _, s => ([], [], s)
  | n + 1, a, s =>
    let r := readAt s a
    let t := readBurst n ((a + 4) % 2 ^ 32) r.2.2
    (r.1 :: t.1, r.2.1 :: t.2.1, t.2.2)

/-- Writes of consecutive words, in ascending order. -/
def writeBurst : List Word → Nat → State → List Status × State
  | [], _, s => ([], s)
  | v :: l, a, s =>
    let r := writeAt s a v
    let t := writeBurst l ((a + 4) % 2 ^ 32) r.2
    (r.1 :: t.1, t.2)

/-- The code of a status (R51). -/
def statusCode : Status → Nat
  | .ok => 0 | .dark => 1 | .locked => 2 | .unmapped => 3 | .moving => 4 | .access => 5 | .mismatch => 6 | .align => 7

/-- The status area: one nibble an access, padded to a multiple of four bytes (R396). -/
def statusArea (l : List Status) : List Byte :=
  let c := l.map statusCode
  (List.range (4 * ((l.length + 7) / 8))).map (fun i => BitVec.ofNat 8 (c.getD (2 * i) 0 + 16 * c.getD (2 * i + 1) 0))

/-- ADDR, COUNT and the reserved bytes of a request, as its response repeats them (R395). -/
def burstHead (a : Word) (n : Nat) : List Byte := leBytes 4 a.toNat ++ leBytes 1 n ++ leBytes 3 0

/-- The payload of READ_RSP and what the reads leave. -/
def readPayload (s : State) (a : Word) (n : Nat) : List Byte × State :=
  let r := readBurst n a.toNat s
  (burstHead a n ++ statusArea r.1 ++ (r.2.1.map (fun w => leBytes 4 w.toNat)).flatten, r.2.2)

/-- The payload of WRITE_RSP and what the writes leave. -/
def writePayload (s : State) (a : Word) (l : List Word) : List Byte × State :=
  let r := writeBurst l a.toNat s
  (burstHead a l.length ++ statusArea r.1, r.2)

/-- A request of the host link with a COUNT: outside 1 … 64 it draws LINK_ERR BAD_LEN and uses no tag (R395). -/
def linkBurst (s : State) (tag : BitVec 8) (rtx : Bool) (n : Nat) (type : BitVec 8) (f : State → List Byte × State) :
    State :=
  if n = 0 ∨ 64 < n then
    (if s.porchRuns && s.link.state == 4 then linkError (freeBuffer (endDoze s)) tag 3 else s)
  else linkRequest s tag rtx (fun s => let r := f s; respond r.2 type tag r.1)

/-- A request of the SPI fallback with a COUNT of 1 … 16 (R406, R407). -/
def spiBurst (s : State) (n op : Nat) (f : State → List Byte × State) : State :=
  if !s.porchRuns then s
  else
    let s0 := endDoze s
    if n = 0 ∨ 16 < n then spiRespond s0 0xFF (leBytes 4 3)
    else let r := f s0; spiRespond r.2 op r.1

/-! ### The test access port (R7) -/

/-- A TAP instruction loaded while the module has power. -/
def loadTap (s : State) (f : Tap → Tap) : State :=
  if s.supply.powered then { s with tap := f s.tap } else s

/-- A bit vector shifted out. -/
def shiftOut (s : State) (w : Word) : State := if s.supply.powered then s.emit (.tdo w) else s

end Sys2Proof.Machine
end

