-- ==== Sys2Proof/Machine/Rows.lean ====
section
/-! DEFINITION. The commands that are one access to a named register, the bursts of the host link and the SPI fallback, and
the test access port. Each is a register access of Access.lean at the register its rule names, so that status, locks, dark
blocks, latches and time stamps apply to it as to every access. -/
namespace Sys2Proof.Machine

/-- REGISTER_WRITE (R44, R51, R53): one write by the host. -/
def execRegisterWrite (addr value : Word) (s : State) : Host.Outcome State Fault Refusal :=
  go (hostWrite s addr.toNat value)

/-- READ_CLEAR (R53, R54): one read by the host; an OK read clears the RC fields of its register. -/
def execReadClear (addr : Word) (s : State) : Host.Outcome State Fault Refusal :=
  go (hostRead s addr.toNat)

/-- PG_TS_LO_READ (R65). -/
def execPgTsLoRead (page : Page) (s : State) : Host.Outcome State Fault Refusal :=
  go (hostRead s (hdrAddr page 0x30))

/-- ERROR_ACKNOWLEDGE (R76). -/
def execErrorAcknowledge (page : Page) (value : Word) (s : State) : Host.Outcome State Fault Refusal :=
  go (hostWrite s (hdrAddr page 0x18) value)

/-- SET_LOCK (R67): the bits of LOCK and SEAL not named keep their values. -/
def execSetLock (page : Page) (key : BitVec 16) (s : State) : Host.Outcome State Fault Refusal :=
  go (hostLock s page key 2 true)

/-- CLEAR_LOCK (R67): the bits of LOCK and SEAL not named keep their values. -/
def execClearLock (page : Page) (key : BitVec 16) (s : State) : Host.Outcome State Fault Refusal :=
  go (hostLock s page key 2 false)

/-- SET_SEAL (R67): the bits of LOCK and SEAL not named keep their values. -/
def execSetSeal (page : Page) (key : BitVec 16) (s : State) : Host.Outcome State Fault Refusal :=
  go (hostLock s page key 4 true)

/-- CLEAR_SEAL (R67): the bits of LOCK and SEAL not named keep their values. -/
def execClearSeal (page : Page) (key : BitVec 16) (s : State) : Host.Outcome State Fault Refusal :=
  go (hostLock s page key 4 false)

/-- DRAUGHT_UNLOCK (R67): the bits of LOCK and SEAL not named keep their values. -/
def execDraughtUnlock (page : Page) (key : BitVec 16) (s : State) : Host.Outcome State Fault Refusal :=
  go (hostLock s page key 1 true)

/-! ### Test access port (R7) -/

/-- BYPASS (R7): the one-bit bypass register, which captures 0, is shifted. -/
def execBypass (s : State) : Host.Outcome State Fault Refusal :=
  go (shiftOut (loadTap s (fun t => { t with instr := .bypass, driven := none })) 0)

/-- IDCODE (R7). -/
def execIdcode (s : State) : Host.Outcome State Fault Refusal :=
  go (shiftOut (loadTap s (fun t => { t with instr := .idcode, driven := none })) Config.idcode)

/-- SAMPLE/PRELOAD (R7): the sampled pins, a free word, are shifted out while `pins` is shifted into the boundary register. -/
def execSamplePreload (pins : BitVec 32) (s : State) : Host.Outcome State Fault Refusal :=
  go (let r := s.fresh
    shiftOut (loadTap r.2 (fun t => { t with instr := .samplePreload, boundary := pins, driven := none })) r.1)

/-- EXTEST (R7): the pins take the boundary register's word; what they read, a free word, is shifted out. -/
def execExtest (pins : BitVec 32) (s : State) : Host.Outcome State Fault Refusal :=
  go (let r := s.fresh
    shiftOut (loadTap r.2 (fun t => { t with instr := .extest, boundary := pins, driven := some pins })) r.1)

/-! ### Porch, cellar and hallway registers -/

/-- GUESTBOOK_QUERY (R354). -/
def execGuestbookQuery (seq : Word) (s : State) : Host.Outcome State Fault Refusal :=
  go (hostWrite s (R.PCH_GB_Q_SEQ.at 0) seq)

/-- LARDER_ENTRY_COPY (R355). -/
def execLarderEntryCopy (lseq : Word) (s : State) : Host.Outcome State Fault Refusal :=
  go (hostWrite s (R.PCH_LD_SEL.at 0) lseq)

/-- PCH_SRC_ID_READ (R353). -/
def execPchSrcIdRead (s : State) : Host.Outcome State Fault Refusal :=
  go (hostRead s (R.PCH_SRC_ID.at 0))

/-- WINDOW_LOAD (R207): `bad` lists the records whose first copy is found bad. -/
def execWindowLoad (seq : Word) (bad : List Nat) (s : State) : Host.Outcome State Fault Refusal :=
  go (hostWrite s (R.PCH_RS_WIN_SEQ.at 0) seq { bad := bad })

/-- LINK_RETRAIN (R392, R410). -/
def execLinkRetrain (lanes : BitVec 4) (s : State) : Host.Outcome State Fault Refusal :=
  go (hostWrite s (R.HL_CTRL.at 0) (BitVec.ofNat 32 (2 ^ 4 + lanes.toNat)))

/-- HL_STAT_READ (R410). -/
def execHlStatRead (s : State) : Host.Outcome State Fault Refusal :=
  go (hostRead s (R.HL_STAT.at 0))

/-- FB_RX_HDR_READ (R455). -/
def execFbRxHdrRead (port : Sys2Proof.Port) (s : State) : Host.Outcome State Fault Refusal :=
  go (hostRead s (R.FB_RX_HDR.at (Port.index port).val))

/-- FB_STAT_READ (R449). -/
def execFbStatRead (port : Sys2Proof.Port) (s : State) : Host.Outcome State Fault Refusal :=
  go (hostRead s (R.FB_STAT.at (Port.index port).val))

/-- TX_SEND (R454). -/
def execTxSend (port : Sys2Proof.Port) (s : State) : Host.Outcome State Fault Refusal :=
  go (hostWrite s (R.FB_CTRL.at (Port.index port).val) 2)

/-- TX_CANCEL (R435): `started` says whether the frame has begun on the wire. -/
def execTxCancel (port : Sys2Proof.Port) (started : Bool) (s : State) : Host.Outcome State Fault Refusal :=
  go (hostWrite s (R.FB_CTRL.at (Port.index port).val) 4 { started := some started })

/-- KNOCK (R447). -/
def execKnock (port : Sys2Proof.Port) (s : State) : Host.Outcome State Fault Refusal :=
  go (hostWrite s (R.FB_CTRL.at (Port.index port).val) 1)

/-- CALENDAR_LOAD (R468). -/
def execCalendarLoad (s : State) : Host.Outcome State Fault Refusal :=
  go (hostWrite s (R.CLR_CTRL.at 0) 1)

/-- CLR_SUBSEC_READ (R467). -/
def execClrSubsecRead (s : State) : Host.Outcome State Fault Refusal :=
  go (hostRead s (R.CLR_SUBSEC.at 0))

/-- PCH_TS_NOW_LO_READ (R480). -/
def execPchTsNowLoRead (s : State) : Host.Outcome State Fault Refusal :=
  go (hostRead s (R.PCH_TS_NOW_LO.at 0))

/-- PCH_TS_STEP_READ (R480). -/
def execPchTsStepRead (s : State) : Host.Outcome State Fault Refusal :=
  go (hostRead s (R.PCH_TS_STEP.at 0))

/-- PWR_CEN_STAT_READ (R509). -/
def execPwrCenStatRead (s : State) : Host.Outcome State Fault Refusal :=
  go (hostRead s (R.PWR_CEN_STAT.at 0))

/-- LANDING_LOG_COPY (R492, R509). -/
def execLandingLogCopy (sel : BitVec 4) (s : State) : Host.Outcome State Fault Refusal :=
  go (hostWrite s (R.PWR_LOG_SEL.at 0) (BitVec.ofNat 32 sel.toNat))

/-- PWR_SUPPLY_READ (R567). -/
def execPwrSupplyRead (s : State) : Host.Outcome State Fault Refusal :=
  go (hostRead s (R.PWR_SUPPLY.at 0))

/-- CLR_WAKE_EVT_LO_READ (R511). -/
def execClrWakeEvtLoRead (s : State) : Host.Outcome State Fault Refusal :=
  go (hostRead s (R.CLR_WAKE_EVT_LO.at 0))

/-- TH_STAT_READ (R510). -/
def execThStatRead (s : State) : Host.Outcome State Fault Refusal :=
  go (hostRead s (R.TH_STAT.at 0))

/-- PATH_RECORD_COPY (R540). -/
def execPathRecordCopy (z : Zone) (k : Fin 4) (s : State) : Host.Outcome State Fault Refusal :=
  go (hostWrite s (R.HWY_CAL_SEL.at 0) (BitVec.ofNat 32 (k.val * 2 ^ 8 + z.val)))

/-- COLLECTOR_ENTRY_COPY (R513, R539). -/
def execCollectorEntryCopy (eseq : Word) (s : State) : Host.Outcome State Fault Refusal :=
  go (hostWrite s (R.PCH_EC_SEL.at 0) eseq)

/-- PCH_STATE_READ (R576). -/
def execPchStateRead (s : State) : Host.Outcome State Fault Refusal :=
  go (hostRead s (R.PCH_STATE.at 0))

/-- PCH_BIT_READ (R576). -/
def execPchBitRead (s : State) : Host.Outcome State Fault Refusal :=
  go (hostRead s (R.PCH_BIT.at 0))

/-! ### Slice registers -/

/-- ZI_T_READ (R105). -/
def execZiTRead (v : View) (n : Fin 4) (s : State) : Host.Outcome State Fault Refusal :=
  go (hostRead s (viewAddr v (R.ZI_T_n.at n.val)))

/-- DIAG_NOW (R87). -/
def execDiagNow (v : View) (s : State) : Host.Outcome State Fault Refusal :=
  go (hostWrite s (viewAddr v (R.ZI_CTRL.at 0)) 0x10)

/-- SEQUENCE_HOST_TRIGGER (R122). -/
def execSequenceHostTrigger (v : View) (s : State) : Host.Outcome State Fault Refusal :=
  go (hostWrite s (viewAddr v (R.ZC_CTRL.at 0)) 0x8)

/-- SEQUENCE_DISABLE (R124): a write of ZC_SEQ_3 with EN 0. -/
def execSequenceDisable (v : View) (value : Word) (s : State) : Host.Outcome State Fault Refusal :=
  go (hostWrite s (viewAddr v (R.ZC_SEQ_q.at 3)) (value &&& 0x7FFFFFFF))

/-- URGENT_REQUEST (R130): the host writes ZC_CTRL.URGENT with ZC_URG_CFG as it stands; the firmware brings its own configuration. -/
def execUrgentRequest (p : Phys) (host : Bool) (cfg : Word) (s : State) : Host.Outcome State Fault Refusal :=
  go (if host then hostWrite s (viewAddr (.phys p) (R.ZC_CTRL.at 0)) 0x80
    else if (s.sl p).running then urgentAsk s p { host := false, cfg := cfg } else s)

/-- ZC_ENT_LO_READ (R141). -/
def execZcEntLoRead (v : View) (k : Fin 32) (s : State) : Host.Outcome State Fault Refusal :=
  go (hostRead s (viewAddr v (R.ZC_ENT_k_LO.at k.val)))

/-- ZC_URG_LO_READ (R141). -/
def execZcUrgLoRead (v : View) (s : State) : Host.Outcome State Fault Refusal :=
  go (hostRead s (viewAddr v (R.ZC_URG_LO.at 0)))

/-- ZC_TS_NOW_READ (R143). -/
def execZcTsNowRead (v : View) (s : State) : Host.Outcome State Fault Refusal :=
  go (hostRead s (viewAddr v (R.ZC_TS_NOW.at 0)))

/-- ZE_STAT_READ (R162). -/
def execZeStatRead (v : View) (s : State) : Host.Outcome State Fault Refusal :=
  go (hostRead s (viewAddr v (R.ZE_STAT.at 0)))

/-- ZE_HARM_STAT_READ (R171). -/
def execZeHarmStatRead (v : View) (s : State) : Host.Outcome State Fault Refusal :=
  go (hostRead s (viewAddr v (R.ZE_HARM_STAT.at 0)))

/-- ZE_ACC_TS_LO_READ (R183). -/
def execZeAccTsLoRead (v : View) (s : State) : Host.Outcome State Fault Refusal :=
  go (hostRead s (viewAddr v (R.ZE_ACC_TS_LO.at 0)))

/-- ZE_DMD_READ (R183). -/
def execZeDmdRead (v : View) (s : State) : Host.Outcome State Fault Refusal :=
  go (hostRead s (viewAddr v (R.ZE_DMD.at 0)))

/-- CAPTURE_ARM (R176). -/
def execCaptureArm (v : View) (s : State) : Host.Outcome State Fault Refusal :=
  go (hostWrite s (viewAddr v (R.ZE_CAP_CTRL.at 0)) 1)

/-- CAPTURE_HOST_TRIGGER (R176). -/
def execCaptureHostTrigger (v : View) (s : State) : Host.Outcome State Fault Refusal :=
  go (hostWrite s (viewAddr v (R.ZE_CAP_CTRL.at 0)) 2)

/-- CAPTURE_STOP (R176). -/
def execCaptureStop (v : View) (s : State) : Host.Outcome State Fault Refusal :=
  go (hostWrite s (viewAddr v (R.ZE_CAP_CTRL.at 0)) 4)

/-- ZE_CAP_DATA_READ (R181). -/
def execZeCapDataRead (v : View) (s : State) : Host.Outcome State Fault Refusal :=
  go (hostRead s (viewAddr v (R.ZE_CAP_DATA.at 0)))

/-- ZH_STAT_READ (R211). -/
def execZhStatRead (v : View) (s : State) : Host.Outcome State Fault Refusal :=
  go (hostRead s (viewAddr v (R.ZH_STAT.at 0)))

/-- ZH_ACC_TS_LO_READ (R211). -/
def execZhAccTsLoRead (v : View) (s : State) : Host.Outcome State Fault Refusal :=
  go (hostRead s (viewAddr v (R.ZH_ACC_TS_LO.at 0)))

/-- ZL_STAT_READ (R247). -/
def execZlStatRead (v : View) (s : State) : Host.Outcome State Fault Refusal :=
  go (hostRead s (viewAddr v (R.ZL_STAT.at 0)))

/-- ZL_MODEL_READ (R247): ZL_MODEL_H_1 or ZL_MODEL_C_1. -/
def execZlModelRead (v : View) (cool : Bool) (s : State) : Host.Outcome State Fault Refusal :=
  go (hostRead s (viewAddr v (if cool then R.ZL_MODEL_C_1.at 0 else R.ZL_MODEL_H_1.at 0)))

/-- SCH_ALM_READ (R281). -/
def execSchAlmRead (v : View) (s : State) : Host.Outcome State Fault Refusal :=
  go (hostRead s (viewAddr v (R.SCH_ALM.at 0)))

/-- ZP_STAT_READ (R284). -/
def execZpStatRead (v : View) (s : State) : Host.Outcome State Fault Refusal :=
  go (hostRead s (viewAddr v (R.ZP_STAT.at 0)))

/-- OVERCURRENT_CLEAR (R293). -/
def execOvercurrentClear (v : View) (j : Out) (s : State) : Host.Outcome State Fault Refusal :=
  go (hostWrite s (viewAddr v (R.ZO_CTRL.at 0)) (BitVec.ofNat 32 (2 ^ (8 + j.val))))

/-- OUTPUT_RELEASE (R303). -/
def execOutputRelease (v : View) (j : Out) (s : State) : Host.Outcome State Fault Refusal :=
  go (hostWrite s (viewAddr v (R.ZO_CTRL.at 0)) (BitVec.ofNat 32 (2 ^ j.val)))

/-- ZO_STAT_READ (R316). -/
def execZoStatRead (v : View) (s : State) : Host.Outcome State Fault Refusal :=
  go (hostRead s (viewAddr v (R.ZO_STAT.at 0)))

/-- ZK_STAT_READ (R319). -/
def execZkStatRead (v : View) (s : State) : Host.Outcome State Fault Refusal :=
  go (hostRead s (viewAddr v (R.ZK_STAT.at 0)))

/-- ZK_EVT_LO_READ (R313). -/
def execZkEvtLoRead (v : View) (s : State) : Host.Outcome State Fault Refusal :=
  go (hostRead s (viewAddr v (R.ZK_EVT_LO.at 0)))

/-- ZX_NOW_LO_READ (R482). -/
def execZxNowLoRead (v : View) (s : State) : Host.Outcome State Fault Refusal :=
  go (hostRead s (viewAddr v (R.ZX_NOW_LO.at 0)))

/-- ZW_STAT_READ (R541). -/
def execZwStatRead (v : View) (s : State) : Host.Outcome State Fault Refusal :=
  go (hostRead s (viewAddr v (R.ZW_STAT.at 0)))

/-! ### Bursts of the host link and the SPI fallback -/

/-- LINK_READ (R395 to R399). -/
def execLinkRead (tag : BitVec 8) (rtx : Bool) (addr : Word) (count : Nat) (s : State) : Host.Outcome State Fault Refusal :=
  go (linkBurst s tag rtx count 0x8 (fun s => readPayload s addr count))

/-- LINK_WRITE (R395 to R399). -/
def execLinkWrite (tag : BitVec 8) (rtx : Bool) (addr : Word) (data : List Word) (s : State) : Host.Outcome State Fault Refusal :=
  go (linkBurst s tag rtx data.length 0x9 (fun s => writePayload s addr data))

/-- SPI_READ (R406). -/
def execSpiRead (addr : Word) (count : Nat) (s : State) : Host.Outcome State Fault Refusal :=
  go (spiBurst s count 1 (fun s => readPayload s addr count))

/-- SPI_WRITE (R406). -/
def execSpiWrite (addr : Word) (data : List Word) (s : State) : Host.Outcome State Fault Refusal :=
  go (spiBurst s data.length 2 (fun s => writePayload s addr data))

end Sys2Proof.Machine
end

