-- ==== Sys2Proof/Machine/Sampling.lean ====
section
/-! DEFINITION. The end of a conversion in all that it bears on: results, the meter, readings, the outputs that SQ2 measures, and
intervals that wait for the end of a cycle (R118 with R85, R115, R157 to R161, R163, R195). -/
namespace Sys2Proof.Machine

/-- The reading that falls on a conversion, in the band of its pass; a METER input's reading is matched with the other's of the same
pass (R102, R195). -/
def readingOf (s : State) (p : Phys) (x : Option ConvDone) (n : Fin 4) (r : InputSample) : State :=
  let band := match x with | some c => c.band | none => (s.cv p).band
  let s1 := inputReading s p n band r
  match x with
  | some c => matchPair s1 p n c.run
  | none => s1

/-- CONVERSION_COMPLETE (R118): the converter's result, the meter's pair, the reading and the outputs' measurement. -/
def conversion (s : State) (p : Phys) (adc : Fin 2) (d : ConvData) : State :=
  let r := convComplete s p adc d
  let s1 := match r.2 with
    | some x => outConversion (meterConversion r.1 p x d) p x d
    | none => r.1
  let s2 := match d.reading with
    | some (n, x) => readingOf s1 p r.2 n x
    | none => s1
  settleClosings s2 p

/-! ### The guard contact (R548) -/

/-- What GRD of a zone does: high impedance, driven to the mean voltage of TnN of an input, or no temperature input is being converted,
for which R548 states nothing. -/
inductive Guard where
  | highZ | mean (n : Fin 4) | unstated
  deriving DecidableEq, Repr

/-- The temperature input of a channel code: its sensor or its reference resistor (R115). -/
def channelInput (c : Nat) : Option (Fin 4) := if 2 ≤ c ∧ c ≤ 9 then some ⟨(c - 2) % 4, by omega⟩ else none

/-- The channel that a converter holds: of its sequence's entry, exchanged in a SWAP that crosses, or of its urgent conversion. -/
def heldChannel (s : State) (p : Phys) (adc : Fin 2) : Option Nat :=
  let c := s.cv p
  match (if adc = 0 then c.a.own else c.b.own) with
  | .none => none
  | .urgent => c.urg.map (fun u => chanCode (fieldOf u.cfg 31 26))
  | .seq q k =>
    ((c.seqs[q]).live.find? (fun e => e.k == k)).map (fun e =>
      let crossed := entMode e.cfg == 3 && bitOf c.swaps k
      if entBoth e.cfg && ((adc == 1) != crossed) then entB e.cfg else entA e.cfg)

/-- GRD of the zone on slice `p` (R548): it follows the temperature input in conversion, and is left while the slice is clamped. -/
def guardOf (s : State) (p : Phys) : Guard :=
  if (s.sl p).clamped then .highZ
  else match (([0, 1] : List (Fin 2)).filterMap (fun a => heldChannel s p a)).filterMap channelInput with
    | n :: _ => .mean n
    | [] => .unstated

/-- CONVERSION_COMPLETE (R118). -/
def execConversionComplete (p : Phys) (adc : Fin 2) (d : ConvData) (s : State) : Host.Outcome State Fault Refusal :=
  onRunning s p (fun s => conversion s p adc d)

end Sys2Proof.Machine
end

