-- ==== Sys2Proof/Machine/Dispatch.lean ====
section
/-! DEFINITION. The dispatch of a command to its meaning, one arm per constructor of `Instr`. -/
namespace Sys2Proof.Machine

/-- The effect of a command on everything but the queue. -/
def exec (i : Instr) (s : State) : Host.Outcome State Fault Refusal :=
  match i with
  | .registerWrite addr value => Sys2Proof.Machine.execRegisterWrite addr value s
  | .readClear addr => Sys2Proof.Machine.execReadClear addr s
  | .pgTsLoRead page => Sys2Proof.Machine.execPgTsLoRead page s
  | .errorAcknowledge page value => Sys2Proof.Machine.execErrorAcknowledge page value s
  | .setLock page key => Sys2Proof.Machine.execSetLock page key s
  | .clearLock page key => Sys2Proof.Machine.execClearLock page key s
  | .setSeal page key => Sys2Proof.Machine.execSetSeal page key s
  | .clearSeal page key => Sys2Proof.Machine.execClearSeal page key s
  | .draughtUnlock page key => Sys2Proof.Machine.execDraughtUnlock page key s
  | .zoneInputsConfiguration x => Sys2Proof.Machine.execZoneInputsConfiguration x s
  | .zoneMode x => Sys2Proof.Machine.execZoneMode x s
  | .zoneSetpoints x => Sys2Proof.Machine.execZoneSetpoints x s
  | .loopConfiguration x => Sys2Proof.Machine.execLoopConfiguration x s
  | .actuatorMap x => Sys2Proof.Machine.execActuatorMap x s
  | .manualOutputLevels x => Sys2Proof.Machine.execManualOutputLevels x s
  | .outputConfiguration x => Sys2Proof.Machine.execOutputConfiguration x s
  | .panelConfiguration x => Sys2Proof.Machine.execPanelConfiguration x s
  | .relayPulse x => Sys2Proof.Machine.execRelayPulse x s
  | .pulseEnd p j how => Sys2Proof.Machine.execPulseEnd p j how s
  | .electricalConfiguration x => Sys2Proof.Machine.execElectricalConfiguration x s
  | .electricalCalibration x => Sys2Proof.Machine.execElectricalCalibration x s
  | .heatAndFlowConfiguration x => Sys2Proof.Machine.execHeatAndFlowConfiguration x s
  | .autotuneStart x => Sys2Proof.Machine.execAutotuneStart x s
  | .autotuneAbort x => Sys2Proof.Machine.execAutotuneAbort x s
  | .timeZoneRule x => Sys2Proof.Machine.execTimeZoneRule x s
  | .weeklyEvents x => Sys2Proof.Machine.execWeeklyEvents x s
  | .exceptionDates x => Sys2Proof.Machine.execExceptionDates x s
  | .tariffBands x => Sys2Proof.Machine.execTariffBands x s
  | .policyConfiguration x => Sys2Proof.Machine.execPolicyConfiguration x s
  | .occupancyLearnerReset x => Sys2Proof.Machine.execOccupancyLearnerReset x s
  | .intervalLength x => Sys2Proof.Machine.execIntervalLength x s
  | .recordAcknowledge x => Sys2Proof.Machine.execRecordAcknowledge x s
  | .demandReset x => Sys2Proof.Machine.execDemandReset x s
  | .waveformCapture x => Sys2Proof.Machine.execWaveformCapture x s
  | .setHouseTime x elapsed => Sys2Proof.Machine.execSetHouseTime x elapsed s
  | .adjustHouseTime x => Sys2Proof.Machine.execAdjustHouseTime x s
  | .hourShift x => Sys2Proof.Machine.execHourShift x s
  | .timeSource x => Sys2Proof.Machine.execTimeSource x s
  | .rateTrim x => Sys2Proof.Machine.execRateTrim x s
  | .powerStateRequest x => Sys2Proof.Machine.execPowerStateRequest x s
  | .migrateZone x checks => Sys2Proof.Machine.execMigrateZone x checks s
  | .sliceSelfTest x result => Sys2Proof.Machine.execSliceSelfTest x result s
  | .hallwayCalibration x measured => Sys2Proof.Machine.execHallwayCalibration x measured s
  | .sliceMapChange x result checks => Sys2Proof.Machine.execSliceMapChange x result checks s
  | .repairPolicy x => Sys2Proof.Machine.execRepairPolicy x s
  | .mramBankReturn x pass remapped => Sys2Proof.Machine.execMramBankReturn x pass remapped s
  | .moduleState x => Sys2Proof.Machine.execModuleState x s
  | .sourceRelease x => Sys2Proof.Machine.execSourceRelease x s
  | .journalConfiguration x => Sys2Proof.Machine.execJournalConfiguration x s
  | .busPortConfiguration x => Sys2Proof.Machine.execBusPortConfiguration x s
  | .noOperation path source seq payload => Sys2Proof.Machine.execNoOperation path source seq payload s
  | .moduleReset x => Sys2Proof.Machine.execModuleReset x s
  | .builtInTest x result pass => Sys2Proof.Machine.execBuiltInTest x result pass s
  | .testError x => Sys2Proof.Machine.execTestError x s
  | .bypass => Sys2Proof.Machine.execBypass s
  | .idcode => Sys2Proof.Machine.execIdcode s
  | .samplePreload pins => Sys2Proof.Machine.execSamplePreload pins s
  | .extest pins => Sys2Proof.Machine.execExtest pins s
  | .inboxHandover lseq => Sys2Proof.Machine.execInboxHandover lseq s
  | .finalResultWrite lseq => Sys2Proof.Machine.execFinalResultWrite lseq s
  | .tickApply z lseq => Sys2Proof.Machine.execTickApply z lseq s
  | .census lseq => Sys2Proof.Machine.execCensus lseq s
  | .censusRetry lseq => Sys2Proof.Machine.execCensusRetry lseq s
  | .censusFinal lseq => Sys2Proof.Machine.execCensusFinal lseq s
  | .engineTakeover role => Sys2Proof.Machine.execEngineTakeover role s
  | .guestbookQuery seq => Sys2Proof.Machine.execGuestbookQuery seq s
  | .larderEntryCopy lseq => Sys2Proof.Machine.execLarderEntryCopy lseq s
  | .pchSrcIdRead => Sys2Proof.Machine.execPchSrcIdRead s
  | .intervalClose z => Sys2Proof.Machine.execIntervalClose z s
  | .ilenTakeEffect => Sys2Proof.Machine.execIlenTakeEffect s
  | .windowLoad seq bad => Sys2Proof.Machine.execWindowLoad seq bad s
  | .windowCopyDone => Sys2Proof.Machine.execWindowCopyDone s
  | .checkpoint p => Sys2Proof.Machine.execCheckpoint p s
  | .meterPosting p => Sys2Proof.Machine.execMeterPosting p s
  | .sliceRegulatorTrip p => Sys2Proof.Machine.execSliceRegulatorTrip p s
  | .powerLossWarning cause => Sys2Proof.Machine.execPowerLossWarning cause s
  | .supplyOutOfRange vin => Sys2Proof.Machine.execSupplyOutOfRange vin s
  | .startUp x => Sys2Proof.Machine.execStartUp x s
  | .holdupTimeout => Sys2Proof.Machine.execHoldupTimeout s
  | .precharge => Sys2Proof.Machine.execPrecharge s
  | .ziTRead v n => Sys2Proof.Machine.execZiTRead v n s
  | .diagNow v => Sys2Proof.Machine.execDiagNow v s
  | .humidityUpdate p cap leak => Sys2Proof.Machine.execHumidityUpdate p cap leak s
  | .prdRawEdge p level => Sys2Proof.Machine.execPrdRawEdge p level s
  | .prdEdgeAccepted p => Sys2Proof.Machine.execPrdEdgeAccepted p s
  | .praSample p dc band ms => Sys2Proof.Machine.execPraSample p dc band ms s
  | .praInactive p => Sys2Proof.Machine.execPraInactive p s
  | .praLevelFault p => Sys2Proof.Machine.execPraLevelFault p s
  | .presenceStuck p pra => Sys2Proof.Machine.execPresenceStuck p pra s
  | .chatterClear p input raw => Sys2Proof.Machine.execChatterClear p input raw s
  | .diagWindowEnd p n noise meanR meanT => Sys2Proof.Machine.execDiagWindowEnd p n noise meanR meanT s
  | .diagOffSegmentEnd p n noise meanR meanT => Sys2Proof.Machine.execDiagOffSegmentEnd p n noise meanR meanT s
  | .sequenceTrigger p q src => Sys2Proof.Machine.execSequenceTrigger p q src s
  | .sequenceHostTrigger v => Sys2Proof.Machine.execSequenceHostTrigger v s
  | .sequenceDisable v value => Sys2Proof.Machine.execSequenceDisable v value s
  | .conversionComplete p adc d => Sys2Proof.Machine.execConversionComplete p adc d s
  | .urgentRequest p host cfg => Sys2Proof.Machine.execUrgentRequest p host cfg s
  | .sequenceActiveTimeout p q => Sys2Proof.Machine.execSequenceActiveTimeout p q s
  | .trimUpdate p ofsErr gainErr => Sys2Proof.Machine.execTrimUpdate p ofsErr gainErr s
  | .skewUpdate p skewErr slopeOk => Sys2Proof.Machine.execSkewUpdate p skewErr slopeOk s
  | .calConvergeTimeout p => Sys2Proof.Machine.execCalConvergeTimeout p s
  | .zcEntLoRead v k => Sys2Proof.Machine.execZcEntLoRead v k s
  | .zcUrgLoRead v => Sys2Proof.Machine.execZcUrgLoRead v s
  | .zcTsNowRead v => Sys2Proof.Machine.execZcTsNowRead v s
  | .windowPublish p grid => Sys2Proof.Machine.execWindowPublish p grid s
  | .zeStatRead v => Sys2Proof.Machine.execZeStatRead v s
  | .zeHarmStatRead v => Sys2Proof.Machine.execZeHarmStatRead v s
  | .zeAccTsLoRead v => Sys2Proof.Machine.execZeAccTsLoRead v s
  | .zeDmdRead v => Sys2Proof.Machine.execZeDmdRead v s
  | .captureArm v => Sys2Proof.Machine.execCaptureArm v s
  | .captureHostTrigger v => Sys2Proof.Machine.execCaptureHostTrigger v s
  | .captureStop v => Sys2Proof.Machine.execCaptureStop v s
  | .fastDriverSwitch p => Sys2Proof.Machine.execFastDriverSwitch p s
  | .zeCapDataRead v => Sys2Proof.Machine.execZeCapDataRead v s
  | .flowPulse p n period => Sys2Proof.Machine.execFlowPulse p n period s
  | .flowRateTimeout p n => Sys2Proof.Machine.execFlowRateTimeout p n s
  | .flowOvr p n rate => Sys2Proof.Machine.execFlowOvr p n rate s
  | .leakHourCheck p => Sys2Proof.Machine.execLeakHourCheck p s
  | .zhStatRead v => Sys2Proof.Machine.execZhStatRead v s
  | .zhAccTsLoRead v => Sys2Proof.Machine.execZhAccTsLoRead v s
  | .loopTick p => Sys2Proof.Machine.execLoopTick p s
  | .timedModeExpiry p => Sys2Proof.Machine.execTimedModeExpiry p s
  | .sensorLossTimeout p => Sys2Proof.Machine.execSensorLossTimeout p s
  | .modelStep p => Sys2Proof.Machine.execModelStep p s
  | .outdoorStale => Sys2Proof.Machine.execOutdoorStale s
  | .autotuneStepTimeout p => Sys2Proof.Machine.execAutotuneStepTimeout p s
  | .zlStatRead v => Sys2Proof.Machine.execZlStatRead v s
  | .zlModelRead v cool => Sys2Proof.Machine.execZlModelRead v cool s
  | .alarmFire p kind instant => Sys2Proof.Machine.execAlarmFire p kind instant s
  | .occHoldExpiry p => Sys2Proof.Machine.execOccHoldExpiry p s
  | .learnerUpdate p bin active total => Sys2Proof.Machine.execLearnerUpdate p bin active total s
  | .tariffExpiry p => Sys2Proof.Machine.execTariffExpiry p s
  | .planStart p => Sys2Proof.Machine.execPlanStart p s
  | .planComplete p => Sys2Proof.Machine.execPlanComplete p s
  | .planOverrun p => Sys2Proof.Machine.execPlanOverrun p s
  | .schAlmRead v => Sys2Proof.Machine.execSchAlmRead v s
  | .zpStatRead v => Sys2Proof.Machine.execZpStatRead v s
  | .aoLimitTimeout p j => Sys2Proof.Machine.execAoLimitTimeout p j s
  | .doOvercurrentTrip p j => Sys2Proof.Machine.execDoOvercurrentTrip p j s
  | .doRetry p j => Sys2Proof.Machine.execDoRetry p j s
  | .overcurrentClear v j => Sys2Proof.Machine.execOvercurrentClear v j s
  | .doOpenLoad p j => Sys2Proof.Machine.execDoOpenLoad p j s
  | .aoReadbackMismatch p j off => Sys2Proof.Machine.execAoReadbackMismatch p j off s
  | .tachPulse p period => Sys2Proof.Machine.execTachPulse p period s
  | .fanStall p => Sys2Proof.Machine.execFanStall p s
  | .outputRelease v j => Sys2Proof.Machine.execOutputRelease v j s
  | .zoStatRead v => Sys2Proof.Machine.execZoStatRead v s
  | .keyScan p raw => Sys2Proof.Machine.execKeyScan p raw s
  | .keyLong p k => Sys2Proof.Machine.execKeyLong p k s
  | .keyStuck p k => Sys2Proof.Machine.execKeyStuck p k s
  | .keyRepeat p k => Sys2Proof.Machine.execKeyRepeat p k s
  | .encoderEdge p a b => Sys2Proof.Machine.execEncoderEdge p a b s
  | .zkStatRead v => Sys2Proof.Machine.execZkStatRead v s
  | .zkEvtLoRead v => Sys2Proof.Machine.execZkEvtLoRead v s
  | .linkTrainingSet set lane mask complete => Sys2Proof.Machine.execLinkTrainingSet set lane mask complete s
  | .detectTimeout => Sys2Proof.Machine.execDetectTimeout s
  | .trainingTimeout => Sys2Proof.Machine.execTrainingTimeout s
  | .noLaneTimeout => Sys2Proof.Machine.execNoLaneTimeout s
  | .linkRetrain lanes => Sys2Proof.Machine.execLinkRetrain lanes s
  | .linkRead tag rtx addr count => Sys2Proof.Machine.execLinkRead tag rtx addr count s
  | .linkWrite tag rtx addr data => Sys2Proof.Machine.execLinkWrite tag rtx addr data s
  | .linkCommand tag rtx envelope => Sys2Proof.Machine.execLinkCommand tag rtx envelope s
  | .creditReturn => Sys2Proof.Machine.execCreditReturn s
  | .hlStatRead => Sys2Proof.Machine.execHlStatRead s
  | .spiRead addr count => Sys2Proof.Machine.execSpiRead addr count s
  | .spiWrite addr data => Sys2Proof.Machine.execSpiWrite addr data s
  | .spiCommand envelope => Sys2Proof.Machine.execSpiCommand envelope s
  | .fetchLate => Sys2Proof.Machine.execFetchLate s
  | .spiAbandon complete => Sys2Proof.Machine.execSpiAbandon complete s
  | .busCommandSegment port f => Sys2Proof.Machine.execBusCommandSegment port f s
  | .xferTimeout port node => Sys2Proof.Machine.execXferTimeout port node s
  | .frameTxEnd port o sof => Sys2Proof.Machine.execFrameTxEnd port o sof s
  | .probeSend port => Sys2Proof.Machine.execProbeSend port s
  | .integrationComplete port => Sys2Proof.Machine.execIntegrationComplete port s
  | .busOffRecovery port => Sys2Proof.Machine.execBusOffRecovery port s
  | .dominantTimeout port own => Sys2Proof.Machine.execDominantTimeout port own s
  | .hostFrame port f sof => Sys2Proof.Machine.execHostFrame port f sof s
  | .fbRxHdrRead port => Sys2Proof.Machine.execFbRxHdrRead port s
  | .txSend port => Sys2Proof.Machine.execTxSend port s
  | .txCancel port started => Sys2Proof.Machine.execTxCancel port started s
  | .knock port => Sys2Proof.Machine.execKnock port s
  | .fbStatRead port => Sys2Proof.Machine.execFbStatRead port s
  | .outdoor port f => Sys2Proof.Machine.execOutdoor port f s
  | .syncSend port => Sys2Proof.Machine.execSyncSend port s
  | .sync port f sof => Sys2Proof.Machine.execSync port f sof s
  | .followUp port f => Sys2Proof.Machine.execFollowUp port f s
  | .followUpTimeout port => Sys2Proof.Machine.execFollowUpTimeout port s
  | .delayReqSend port => Sys2Proof.Machine.execDelayReqSend port s
  | .delayReq port f sof => Sys2Proof.Machine.execDelayReq port f sof s
  | .delayResp port f => Sys2Proof.Machine.execDelayResp port f s
  | .syncLost port => Sys2Proof.Machine.execSyncLost port s
  | .yieldEnd port => Sys2Proof.Machine.execYieldEnd port s
  | .busPortReconfigure port => Sys2Proof.Machine.execBusPortReconfigure port s
  | .oscillatorStop => Sys2Proof.Machine.execOscillatorStop s
  | .trimWindow => Sys2Proof.Machine.execTrimWindow s
  | .railLockout => Sys2Proof.Machine.execRailLockout s
  | .railSwitchover => Sys2Proof.Machine.execRailSwitchover s
  | .railRecover => Sys2Proof.Machine.execRailRecover s
  | .railReconnect => Sys2Proof.Machine.execRailReconnect s
  | .cellMeasure mv => Sys2Proof.Machine.execCellMeasure mv s
  | .retentionRecovery => Sys2Proof.Machine.execRetentionRecovery s
  | .calendarTick => Sys2Proof.Machine.execCalendarTick s
  | .calendarLoad => Sys2Proof.Machine.execCalendarLoad s
  | .clrSubsecRead => Sys2Proof.Machine.execClrSubsecRead s
  | .stepEdge => Sys2Proof.Machine.execStepEdge s
  | .calendarRewrite => Sys2Proof.Machine.execCalendarRewrite s
  | .disciplineMessage p diff => Sys2Proof.Machine.execDisciplineMessage p diff s
  | .pchTsNowLoRead => Sys2Proof.Machine.execPchTsNowLoRead s
  | .pchTsStepRead => Sys2Proof.Machine.execPchTsStepRead s
  | .zxNowLoRead v => Sys2Proof.Machine.execZxNowLoRead v s
  | .handshakeAnswer vote reason => Sys2Proof.Machine.execHandshakeAnswer vote reason s
  | .handshakeDelayRetry => Sys2Proof.Machine.execHandshakeDelayRetry s
  | .handshakeTimeout => Sys2Proof.Machine.execHandshakeTimeout s
  | .entryBoundaryDefer => Sys2Proof.Machine.execEntryBoundaryDefer s
  | .entryBoundaryAbort => Sys2Proof.Machine.execEntryBoundaryAbort s
  | .wakeEvent src bad => Sys2Proof.Machine.execWakeEvent src bad s
  | .wakeTimerExpiry bad => Sys2Proof.Machine.execWakeTimerExpiry bad s
  | .wakeEventDelivery => Sys2Proof.Machine.execWakeEventDelivery s
  | .pwrCenStatRead => Sys2Proof.Machine.execPwrCenStatRead s
  | .landingLogCopy sel => Sys2Proof.Machine.execLandingLogCopy sel s
  | .pwrSupplyRead => Sys2Proof.Machine.execPwrSupplyRead s
  | .clrWakeEvtLoRead => Sys2Proof.Machine.execClrWakeEvtLoRead s
  | .dieSensorSample t1 t2 t3 => Sys2Proof.Machine.execDieSensorSample t1 t2 t3 s
  | .thStatRead => Sys2Proof.Machine.execThStatRead s
  | .heartbeatMiss p => Sys2Proof.Machine.execHeartbeatMiss p s
  | .sramUncorrectable p => Sys2Proof.Machine.execSramUncorrectable p s
  | .sramScrub p corrected column => Sys2Proof.Machine.execSramScrub p corrected column s
  | .spareDailySelfTest p result => Sys2Proof.Machine.execSpareDailySelfTest p result s
  | .repairStart z checks => Sys2Proof.Machine.execRepairStart z checks s
  | .migrationHold checks => Sys2Proof.Machine.execMigrationHold checks s
  | .pathRecalibration m => Sys2Proof.Machine.execPathRecalibration m s
  | .pathExpiry z spare => Sys2Proof.Machine.execPathExpiry z spare s
  | .pathRecordCopy z spare => Sys2Proof.Machine.execPathRecordCopy z spare s
  | .mramScrub bank row found => Sys2Proof.Machine.execMramScrub bank row found s
  | .collectorFlush => Sys2Proof.Machine.execCollectorFlush s
  | .collectorEntryCopy eseq => Sys2Proof.Machine.execCollectorEntryCopy eseq s
  | .stressAccumulate p dieTemp => Sys2Proof.Machine.execStressAccumulate p dieTemp s
  | .wearEvaluation w cap esr => Sys2Proof.Machine.execWearEvaluation w cap esr s
  | .zwStatRead v => Sys2Proof.Machine.execZwStatRead v s
  | .pchStateRead => Sys2Proof.Machine.execPchStateRead s
  | .pchBitRead => Sys2Proof.Machine.execPchBitRead s
  | .packetDiscarded why => Sys2Proof.Machine.execPacketDiscarded why s
  | .laneSymbolError lane consecutive inWindow => Sys2Proof.Machine.execLaneSymbolError lane consecutive inWindow s
  | .spiRequestError why => Sys2Proof.Machine.execSpiRequestError why s
  | .frameReceiveError port e dominantAfterFlag => Sys2Proof.Machine.execFrameReceiveError port e dominantAfterFlag s
  | .otherFrameReceived port f => Sys2Proof.Machine.execOtherFrameReceived port f s
  | .inputPulseRejected p input => Sys2Proof.Machine.execInputPulseRejected p input s
  | .sliceClockCalibrationFailed p => Sys2Proof.Machine.execSliceClockCalibrationFailed p s
  | .slewComplete => Sys2Proof.Machine.execSlewComplete s

end Sys2Proof.Machine
end

