-- ==== Sys2Proof/Machine/Tick.lean ====
section
/-! DEFINITION. The reference tick: one microsecond of the block's clocks, which passes when no command waits
(notes/assumptions/13). It moves house time (R471 to R473), the sample time base of each running slice (R143, R477) and the
cellar's sub-second count (R458, R467), the banks and a take-over work on (R331, R24), the buses' waits run (R428); every other time-driven step is a command of its own. -/
namespace Sys2Proof.Machine

/-- The part of the slew made in one microsecond: 500 ppm until it is removed (R473). -/
def slewStep (slew : Int) : Int := clampInt (-50000) 50000 slew

/-- House time after one microsecond of the reference (R471 to R473). -/
def houseTick (s : State) : State :=
  let m := slewStep s.time.slew
  setSlew (s.putFine (s.fine + usFine + s.time.rate + m)) (s.time.slew - m)

/-- The sample time base of a running slice after one microsecond at its steered rate (R143, R477). -/
def baseTick (x : Slice) : Slice :=
  if x.running then
    { x with time := { x.time with base := ((x.time.base : Int) + usFine + x.time.rate).toNat } }
  else x

/-- N of the rate trim (R458). -/
def trimUnits (c : Cellar) : Int := c.trim + (bandOffset c.band : Int)

/-- One microsecond of the trimmed crystal: 32,768 · (1 + N/2²⁵) pulses a second (R458, R467). The count stops at 32,767
until the second ends, which is CALENDAR_TICK. -/
def subTick (c : Cellar) : Cellar :=
  if c.stopped then c
  else
    let full := 1000000 * 2 ^ 25
    let acc := c.subAcc + (32768 * ((2 ^ 25 : Nat) + trimUnits c)).toNat
    if acc < full then { c with subAcc := acc }
    else { c with subAcc := acc - full, sub := min 32767 (c.sub + 1) }

/-- One microsecond of the banks' work on acceptance commits (R331) and of a take-over that runs (R24). -/
def journalTick (s : State) : State := s.onJ (fun j => { j with ahead := j.ahead - 1, takeLeft := j.takeLeft - 1 })

/-- One microsecond of the waits between frames on the buses (R426, R428). -/
def busTick (s : State) : State := { s with ports := s.ports.map (fun (x : PortSt) => { x with wait := x.wait - 1000 }) }

/-- One reference tick. -/
def tick (s : State) : State :=
  let s1 : State := { s with cellar := subTick s.cellar }
  if s1.porchRuns then
    houseTick (busTick (journalTick { s1 with slices := s1.slices.map baseTick }))
  else s1

end Sys2Proof.Machine
end

