-- ==== Sys2Proof/Safety.lean ====
section
/-! DEFINITION. What a safe run of the block is, and the words in which statements about it are made. -/
namespace Sys2Proof.Machine

/-- A step that goes on: the block neither faults nor refuses. -/
def goesOn (s : State) : Prop := ∃ t, step s = .next t

/-- The module state and the one before it are states of R569. -/
def ModuleSt.legal (m : ModuleSt) : Prop := m.state ≤ 4 ∧ m.prev ≤ 4

/-- Between two states an error entry has arrived at a page: the collector's buffer holds it under an ESEQ not given before,
or the buffer had no room and the lost arrivals count more (R77, R513, R514). -/
def told (s t : State) (page : Nat) (e : Word) : Prop :=
  (∃ x ∈ t.coll.buf, x.entry = e ∧ x.page = page ∧ s.coll.next ≤ x.eseq) ∨ s.coll.lost < t.coll.lost

/-- The same of an error given by CTX and CODE (R73). -/
def toldCode (s t : State) (page ctx code : Nat) : Prop := told s t page (entryOf ctx code)

/-- An event bit stands in PG_ISR of a page (R61). -/
def State.isrBit (t : State) (page bit : Nat) : Bool := (t.hdr page).isr.getLsbD bit

/-- A write of PG_LOCK has completed OK: LOCK, SEAL and DRAUGHT_UNL of the page are as given, BADKEY stays, and so do the locks
of every other page, the registers and the slices (R67). -/
structure locksSet (s t : State) (page : Nat) (lock sealOn unl : Bool) : Prop where
  out    : t.emitted.getLast? = some (.access .ok 0)
  here   : (t.hdr page).lock = lock ∧ (t.hdr page).sealOn = sealOn ∧ (t.hdr page).draughtUnl = unl ∧
             (t.hdr page).badKey = (s.hdr page).badKey
  others : ∀ g, g ≠ page → (t.hdr g).lock = (s.hdr g).lock ∧ (t.hdr g).sealOn = (s.hdr g).sealOn ∧
             (t.hdr g).draughtUnl = (s.hdr g).draughtUnl ∧ (t.hdr g).badKey = (s.hdr g).badKey
  rest   : t.slices = s.slices ∧ t.regs = s.regs

/-- A write of PG_LOCK has completed MISMATCH: BADKEY of the page counts and nothing else changes (R67). -/
def keyRefused (s t : State) (page : Nat) : Prop :=
  t = (s.onHdr page (fun h => { h with badKey := satTo 8 (h.badKey + 1) })).emit (.access .mismatch 0)

/-- The slice a view reaches (R48). -/
def State.viewSlice (s : State) : View → Phys
  | .phys p => p
  | .zone z => s.sliceOf z

/-- Whether a view's registers answer: its slice runs and an alias is in no migration window (R49, R70). -/
def State.viewOpen (s : State) (v : View) : Bool :=
  (s.sl (s.viewSlice v)).running && (match v with
    | .zone z => !s.movingZone z
    | .phys _ => true)

/-- A value as a field holds it. -/
def Fld.fit (x : Fld) (v : Nat) : Nat := v % 2 ^ (x.hi + 1 - x.lo)

/-- The last output of a state. -/
def State.lastOut (t : State) : Option Emit := t.emitted.getLast?

/-- A pending frame not yet attempted (R432). -/
def unsent (f : BusFrame) : TxFrame := { f := f }

/-- The bytes of a response of the SPI fallback (R406). -/
def spiFrame (op : Nat) (body : List Byte) : List Byte :=
  let b := leBytes 1 op ++ leBytes 2 body.length ++ body
  0xA5#8 :: b ++ leBytes 4 (crc32 b).toNat

/-- A packet with its credits on a set of active lanes (R389, R394). -/
def lanePacket (lanes : BitVec 4) (p : OutPacket) (credits crtot : Nat) : Emit :=
  .packet (onLanes lanes (packetBytes p credits crtot))

/-- The command that the bytes of an envelope carry, under the next LSEQ (R322, R337). -/
def carried (s : State) (b : List Byte) : Exec :=
  let body := b.take (b.length - 4)
  { lseq := s.journal.next, source := BitVec.ofNat 16 (leAt body 0 2), seq := BitVec.ofNat 32 (leAt body 2 4),
    opcode := BitVec.ofNat 16 (leAt body 6 2), zmask := BitVec.ofNat 64 (leAt body 8 8), payload := body.drop 16 }

/-- An envelope of bytes `b` that passes every check of R580 in a state: `x` is the command it carries. -/
structure passes (s : State) (b : List Byte) (x : Exec) : Prop where
  crc    : envelopeOk b = true
  size   : 20 ≤ b.length ∧ b.length ≤ 1040
  form   : x = carried s b
  open_  : s.journal.replay = false ∧ s.journal.takeover = false
  named  : x.source ≠ 0 ∧ x.source ≠ 0xFFFF ∧ x.seq ≠ 0
  row    : ∃ r, opRow x.opcode.toNat = some r ∧ lengthOk r.code x.len = true ∧ maskOk r.rule x.zmask = true ∧
             stateOk s r x = true ∧ locksOk s r x = true
  body   : contentOk s x = true ∧ slicesOk s x = true ∧ conflictFree s x = true
  new    : bookEntry s x.source x.seq.toNat = none ∧ ∀ h, hwmOf s x.source = some h → h < x.seq.toNat
  room   : ((slotOf s x.source).isSome = true ∨ (freeSlotNo s).isSome = true) ∧ larderRoom s x.len = true ∧
             bookRoom s = true
  once   : s.runningOf s.journal.next = none

/-- One that passes, where the commits before it leave its ACCEPTED in time and no draught is in force (R36, R331, R574). -/
def acceptable (s : State) (b : List Byte) (x : Exec) : Prop :=
  passes s b x ∧ max 8 s.journal.ahead + commitMost s ≤ acceptLimit s ∧ s.draughtPages = 0

/-- A bank stays in service through the read-backs that fail in an envelope's commit (R330, R342; notes/assumptions/160). -/
abbrev bankStays (s : State) (e : Envelope) : Prop := (e.fails.foldl readBackFails s).upkeep.banks.any (fun b => b.ok) = true

/-- A command has been accepted (R330 to R335): it has its guestbook entry, its source's HWM is its SEQ, and it runs. -/
def hasAccepted (t : State) (x : Exec) (path : Path) (dest : Nat) : Prop :=
  (∃ e ∈ t.journal.book, e.seq = x.seq.toNat ∧ e.lseq = x.lseq ∧ e.path = some path ∧ e.dest = dest) ∧
  hwmOf t x.source = some x.seq.toNat ∧ ∃ r ∈ t.journal.running, r.x = x ∧ r.internal = false

/-- The ACCEPTED answer to a command (R326). -/
def acceptedBytes (x : Exec) : List Byte := answerBytes x.source x.seq 0 0 0 0 0

/-- The marker of a zone for a head as it stands in the larder: result, reason and value (R338). -/
def State.zoneMarker (t : State) (lseq : Nat) (z : Zone) : Option (Nat × Nat × Word) :=
  ((markersOf t lseq).find? (fun m => m.1 == z.val && !m.2.1)).map (fun m => m.2.2)

/-- The marker of a command that names no zone (R338). -/
def State.porchMarker (t : State) (lseq : Nat) : Option (Nat × Nat × Word) :=
  ((markersOf t lseq).find? (fun m => m.2.1)).map (fun m => m.2.2)

/-- Every slice but one is as it was, save that a checkpoint may have become due (R341). -/
def othersKept (s t : State) (p : Phys) : Prop :=
  ∀ q : Phys, q ≠ p → { t.sl q with ckptDue := false } = { s.sl q with ckptDue := false }

/-- Every slice is as it was, save that a checkpoint may have become due (R341). -/
def slicesKept (s t : State) : Prop :=
  ∀ q : Phys, { t.sl q with ckptDue := false } = { s.sl q with ckptDue := false }

/-- Slice `p`, which serves zone `z`, is about to take a command that names this zone alone (R343, R344): the slice runs, the
command is the oldest of its inbox, it is accepted and has no marker yet, the porch holds no command back, and no tune of the
zone is this command. A TICK form is stated by its own rows. -/
structure aboutToTake (s : State) (x : Exec) (z : Zone) (p : Phys) : Prop where
  alone   : x.zones = [z]
  serves  : p = s.sliceOf z
  served  : s.zoneOf p = some z
  runs    : (s.sl p).running = true
  oldest  : ∃ rest, (s.sl p).inbox = x :: rest ∧ ∀ y ∈ rest, x.lseq < y.lseq
  open_   : ∃ r, s.runningOf x.lseq = some r ∧ r.x = x ∧ r.internal = false
  fresh   : markersOf s x.lseq = []
  held    : s.journal.handover = []
  plain   : isTickForm x = false
  notTune : ∀ u, (s.lp p).tune = some u → u.lseq ≠ x.lseq

/-- Slice `p` has taken a command (R344, R345): the command has left the inbox, TAKEN covers it, the other slices are as
they were. -/
def hasTaken (s t : State) (x : Exec) (p : Phys) : Prop :=
  x ∉ (t.sl p).inbox ∧ (t.z p).taken = max (s.z p).taken x.lseq ∧ othersKept s t p

/-- The porch is about to execute a command that names no zone (R343): the command is the next of its queue, it is accepted
and has no marker yet. -/
structure porchReady (s : State) (x : Exec) : Prop where
  runs  : s.porchRuns = true
  next  : ∃ rest, s.journal.porchQ = x :: rest ∧ ∀ y ∈ rest, y.lseq ≠ x.lseq
  open_ : ∃ r, s.runningOf x.lseq = some r ∧ r.x = x ∧ r.internal = false
  fresh : markersOf s x.lseq = []

end Sys2Proof.Machine
end

