-- ==== Sys2Proof/Certificates/Slice0/Obligations.lean ====
section
/-! DEFINITION. The statements for the provers. Each docstring says what is stated and which rules it formalises. -/
open Sys2Proof Sys2Proof.Machine Host

/-- For every command c, every state s and every queue rest: step at s with c in front of rest is exec of c at s with rest as
the queue. (R55) -/
def Obligations.StepRunsFrontCommand : Prop :=
  ∀ (c : Instr) (s : State) (rest : List Instr),
    step { s with pending := c :: rest } = exec c { s with pending := rest }

/-- With no command waiting, step answers the reference tick: while the porch runs and no slew is due, house time moves by 1 us
and the rate (where their sum is not negative) and every wait of a bus port runs 1 us down; the queue, registers, headers,
outputs and map stay, and the journal stays but that a take-over and the commits under way come nearer to their end. The table
has no row for a tick: DESIGN CHOICE of notes/assumptions/13. (R471, R473, R428) -/
def Obligations.IdleStepIsOneTick : Prop :=
  ∀ s : State, s.pending = [] →
    ∃ t, step s = .next t ∧ t.pending = [] ∧ t.regs = s.regs ∧ t.hdrs = s.hdrs ∧
      (∃ n m, n ≤ s.journal.ahead ∧ m ≤ s.journal.takeLeft ∧
        t.journal = { s.journal with ahead := n, takeLeft := m }) ∧
      t.emitted = s.emitted ∧ t.map = s.map ∧
      (s.porchRuns = true → s.time.slew = 0 → 0 ≤ s.fine + usFine + s.time.rate →
        t.fine = s.fine + usFine + s.time.rate) ∧
      (s.porchRuns = true → ∀ i : Fin 2, t.port i = { s.port i with wait := (s.port i).wait - 1000 })

/-- State.reset: the module state is FACTORY (0), no command waits, zone z is served by slice z for every zone, slices S64 to
S67 are spare, and acceptance is closed with REPLAY set. The state as delivered; hidden state is notes/assumptions/11. (R22,
R569, R346) -/
def Obligations.ResetIsFactory : Prop :=
  State.reset.modst.state = 0 ∧ State.reset.pending = [] ∧
  (∀ z : Zone, (State.reset.sliceOf z).val = z.val) ∧
  (∀ p : Phys, 64 ≤ p.val → (State.reset.sl p).life = .spare) ∧
  (∀ p : Phys, p.val < 64 → (State.reset.sl p).life = .serving) ∧
  State.reset.journal.replay = true ∧ State.reset.journal.opened = false ∧ rfWf State.reset.regs = true

/-- At State.reset the module state and the state before it are states of R569 (0 to 4). (R569) -/
def Obligations.ResetStateLegal : Prop := State.reset.modst.legal

/-- For every state whose module state and previous state are codes 0 to 4, the state after any step, whatever command is in
front or none, has them within 0 to 4 again. (R569, R380, R558) -/
def Obligations.StepKeepsStateLegal : Prop :=
  ∀ s t : State, s.modst.legal → step s = .next t → t.modst.legal

/-- From every state step answers a next state: the queue after it is the queue before it without its front command; no command
adds, drops or reorders commands that wait. (R55, R343) -/
def Obligations.StepTakesTheFront : Prop :=
  ∀ s : State, ∃ t, step s = .next t ∧ t.pending = s.pending.tail

/-- The zone-to-slice map changes in a step only where the command is MIGRATION_HOLD, the take-over of a repair or migration;
every other command of the table, and with them every access, opcode, frame, packet and reset, leaves the map as it is.
(R22, R48, R523) -/
def Obligations.MapMovesOnlyInRepair : Prop :=
  ∀ (c : Instr) (s t : State), exec c s = .next t → t.map ≠ s.map → ∃ l, c = .migrationHold l

/-- A command other than BYPASS, IDCODE, SAMPLE/PRELOAD and EXTEST leaves the test access port as it is. (R7) -/
def Obligations.PortOnlyByItsRows : Prop :=
  ∀ (c : Instr) (s t : State), exec c s = .next t → t.tap ≠ s.tap →
    c = .bypass ∨ c = .idcode ∨ (∃ w, c = .samplePreload w) ∨ (∃ w, c = .extest w)

/-- With power, each of BYPASS, IDCODE, SAMPLE/PRELOAD and EXTEST completes: its instruction is loaded and one word is shifted
out. BYPASS captures 0 (the standard's: PRESUMED, notes/assumptions/125); IDCODE shifts the identity; SAMPLE/PRELOAD loads the
boundary register and EXTEST drives the pins with its word, and the word either shifts out is free; the registers and the
slices stay. Completes: BYPASS, IDCODE, SAMPLE/PRELOAD, EXTEST. (R7) -/
def Obligations.TestPortInstructions : Prop :=
  ∀ (s : State) (w : BitVec 32), s.supply.powered = true →
    (∃ t, exec .bypass s = .next t ∧ t.tap.instr = .bypass ∧ t.tap.driven = none ∧ t.lastOut = some (.tdo 0) ∧
      t.regs = s.regs ∧ t.slices = s.slices) ∧
    (∃ t, exec .idcode s = .next t ∧ t.tap.instr = .idcode ∧ t.tap.driven = none ∧ t.lastOut = some (.tdo Config.idcode) ∧
      t.regs = s.regs ∧ t.slices = s.slices) ∧
    (∃ t x, exec (.samplePreload w) s = .next t ∧ t.tap.instr = .samplePreload ∧ t.tap.boundary = w ∧ t.tap.driven = none ∧
      t.lastOut = some (.tdo x) ∧ t.emitted.length = s.emitted.length + 1 ∧ t.regs = s.regs ∧ t.slices = s.slices) ∧
    (∃ t x, exec (.extest w) s = .next t ∧ t.tap.instr = .extest ∧ t.tap.driven = some w ∧
      t.lastOut = some (.tdo x) ∧ t.emitted.length = s.emitted.length + 1 ∧ t.regs = s.regs ∧ t.slices = s.slices)

/-- For every state, address and value: where bits [1:0] of the address are not 0, a read and a write of the host complete
ALIGN, the read with value 0, and the registers, headers, slices and journal are those of the state in which the access is
judged. (R44, R51) -/
def Obligations.MisalignedAccess : Prop :=
  ∀ (s : State) (addr v : Word), s.porchRuns = true → addr.toNat % 4 ≠ 0 →
    (∃ t, exec (.registerWrite addr v) s = .next t ∧ t.lastOut = some (.access .align 0) ∧
      t.regs = (endDoze s).regs ∧ t.hdrs = (endDoze s).hdrs ∧ t.slices = (endDoze s).slices ∧
      t.journal = (endDoze s).journal) ∧
    (∃ t, exec (.readClear addr) s = .next t ∧ t.lastOut = some (.access .align 0) ∧
      t.regs = (endDoze s).regs ∧ t.hdrs = (endDoze s).hdrs ∧ t.slices = (endDoze s).slices ∧
      t.journal = (endDoze s).journal)

/-- A read that completes with another status than OK returns 0 and leaves the whole state as it is. A READ_CLEAR of a slice
register that completes OK puts out the register's value (the latched one for a register read through a latch), returns its
RC bits to their reset value and leaves its other bits and every other register of the slice (the second result of a
converter entry apart) and every other slice as they are. The register is one that no FIFO stands behind and that is no
second result of an entry (those the read of their LO register clears, R141). Completes: READ_CLEAR. (R53, R54) -/
def Obligations.ReadClearsOnlyWhenOk : Prop :=
  (∀ (s : State) (a : Nat), readStatus s a ≠ .ok → readAt s a = (readStatus s a, 0, s)) ∧
  (∀ (s : State) (p : Phys) (sub a : Nat) (z : Option Zone) (e : RegDef) (addr : Word) (d : State),
    s.porchRuns = true → d = endDoze s → readStatus d addr.toNat = .ok → d.place addr.toNat = some (.slice p sub z) →
    0x40 ≤ addr.toNat % 4096 → a = keyOf (.slice p sub z) (addr.toNat % 4096) → a ≠ R.ZE_CAP_DATA.at 0 →
    a ≠ R.ZK_EVT_LO.at 0 → isEntryB a = false → regAt a = some e →
    ∃ t, exec (.readClear addr) s = .next t ∧
      t.lastOut = some (.access .ok (if sliceLatched a then rfGet (d.z p).latch a else sliceShown d p a)) ∧
      rfGet (t.z p).regs a =
        ((rfGet (d.z p).regs a &&& ~~~ BitVec.ofNat 32 e.rc) ||| (regReset a &&& BitVec.ofNat 32 e.rc)) ∧
      (∀ b, b ≠ a → b ≠ a + 0x100 → rfGet (t.z p).regs b = rfGet (d.z p).regs b) ∧
      (∀ q, q ≠ p → t.sl q = d.sl q) ∧ t.regs = d.regs ∧ t.hdrs = d.hdrs)

/-- A write that completes OK to a register outside the header stores its RW bits, clears each W1C bit written 1 and leaves the
other bits; every other register of the slice or of the porch, and every other slice, is as before. Registers whose write
starts an action (ZI_CTRL, ZC_CTRL, the registers of SQ3, ZE_CAP_CTRL, ZO_CTRL of a slice; the selectors and control words of
the porch) are stated by the rows of those actions. Completes: REGISTER_WRITE. (R51, R53, R48) -/
def Obligations.RegisterWriteStores : Prop :=
  (∀ (s : State) (p : Phys) (sub a : Nat) (z : Option Zone) (e : RegDef) (addr v : Word) (d : State),
    s.porchRuns = true → d = endDoze s → writeStatus d addr.toNat = .ok →
    d.place addr.toNat = some (.slice p sub z) → 0x40 ≤ addr.toNat % 4096 →
    a = keyOf (.slice p sub z) (addr.toNat % 4096) → regAt a = some e →
    a ∉ [R.ZI_CTRL.at 0, R.ZC_CTRL.at 0, R.ZE_CAP_CTRL.at 0, R.ZO_CTRL.at 0] → isSeq3 a = false →
    ∃ t, exec (.registerWrite addr v) s = .next t ∧ t.lastOut = some (.access .ok 0) ∧
      rfGet (t.z p).regs a = storeWord e a (rfGet (d.z p).regs a) v ∧
      (∀ b, b ≠ a → rfGet (t.z p).regs b = rfGet (d.z p).regs b) ∧
      (∀ q, q ≠ p → t.sl q = d.sl q) ∧ t.regs = d.regs) ∧
  (∀ (s : State) (page : Nat) (e : RegDef) (addr v : Word) (d : State),
    s.porchRuns = true → d = endDoze s → writeStatus d addr.toNat = .ok →
    d.place addr.toNat = some (.porch page) → 0x40 ≤ addr.toNat % 4096 → regAt addr.toNat = some e →
    addr.toNat ∉ [R.HWY_CAL_SEL.at 0, R.PWR_LOG_SEL.at 0, R.PCH_EC_SEL.at 0, R.PCH_LD_SEL.at 0, R.PCH_GB_Q_SEQ.at 0,
      R.PCH_RS_WIN_SEQ.at 0, R.HL_CTRL.at 0, R.FB_CTRL.at 0, R.FB_CTRL.at 1, R.CLR_CTRL.at 0, R.CLR_TRUST.at 0] →
    ∃ t, exec (.registerWrite addr v) s = .next t ∧ t.lastOut = some (.access .ok 0) ∧
      rfGet t.regs addr.toNat = storeWord e addr.toNat (rfGet d.regs addr.toNat) v ∧
      (∀ b, b ≠ addr.toNat → rfGet t.regs b = rfGet d.regs b) ∧ t.slices = d.slices)

/-- A write of the displayed entry to PG_ERR, both CTX and CODE equal, completes OK: the queue head moves into PG_ERR and
ERR_RAISE is set where an entry moved; with an empty queue PG_ERR becomes empty. Any other value, and every value while PG_ERR
is empty, completes MISMATCH and changes nothing. The page is one whose header takes writes. Completes: ERROR_ACKNOWLEDGE.
(R76) -/
def Obligations.AcknowledgeMovesTheQueue : Prop :=
  ∀ (s : State) (page : Page) (v : Word) (d : State) (g : Nat), s.porchRuns = true → d = endDoze s →
    g = d.physPage page.toNat → writeStatus d (hdrAddr page 0x18) = .ok →
    ((d.hdr g).err ≠ 0 → fieldOf v 15 0 = fieldOf (d.hdr g).err 15 0 → fieldOf v 31 16 = fieldOf (d.hdr g).err 31 16 →
      ∃ t, exec (.errorAcknowledge page v) s = .next t ∧ t.lastOut = some (.access .ok 0) ∧
        t.slices = d.slices ∧ t.regs = d.regs ∧
        ((d.hdr g).queue = [] → (t.hdr g).err = 0 ∧ (t.hdr g).queue = []) ∧
        (∀ e q, (d.hdr g).queue = e :: q →
          (t.hdr g).err = e.word ∧ (t.hdr g).queue = q ∧ t.isrBit g 2 = true)) ∧
    ((d.hdr g).err = 0 ∨ v ≠ (d.hdr g).err →
      exec (.errorAcknowledge page v) s = .next (d.emit (.access .mismatch 0)))

/-- The five cases of the arrival of an entry, for every header with at most four queued entries: identical to a shown or queued
entry, REP alone counts; empty display, the entry is displayed with ERR_RAISE; severity not above, queued at the tail with
ERR_QUEUE; severity above, displayed with the former one at the head of the queue and ERR_RAISE; and where the queue would
hold five, OVF counts, ERR_OVF is set and one of the five leaves: one of the lowest severity among them, and of that severity
the one that came last. The queue never holds more than four. (R75) -/
def Obligations.ErrorOrderOnAPage : Prop :=
  ∀ (h : Hdr) (e : Word), h.queue.length ≤ 4 →
    (arrive h e).1.queue.length ≤ 4 ∧
    (h.holds e = true ↔ e = h.err ∨ ∃ x ∈ h.queue, x.word = e) ∧
    (h.holds e = true → arrive h e = ({ h with rep := satTo 4 (h.rep + 1) }, 0)) ∧
    (h.holds e = false → h.err = 0 →
      arrive h e = ({ h with err := e, errNth := h.arrivals, arrivals := h.arrivals + 1 }, 4)) ∧
    (h.holds e = false → h.err ≠ 0 → h.queue.length < 4 → sevOf e ≤ sevOf h.err →
      arrive h e = ({ h with queue := h.queue ++ [⟨e, h.arrivals⟩], arrivals := h.arrivals + 1 }, 2)) ∧
    (h.holds e = false → h.err ≠ 0 → h.queue.length < 4 → sevOf h.err < sevOf e →
      arrive h e = ({ h with err := e, errNth := h.arrivals, queue := ⟨h.err, h.errNth⟩ :: h.queue,
                             arrivals := h.arrivals + 1 }, 4)) ∧
    (h.holds e = false → h.err ≠ 0 → h.queue.length = 4 →
      (arrive h e).1.ovf = satTo 8 (h.ovf + 1) ∧ (arrive h e).2 = (if sevOf e ≤ sevOf h.err then 10 else 12) ∧
      (arrive h e).1.err = (if sevOf e ≤ sevOf h.err then h.err else e) ∧
      ∃ (five a b : List ErrEntry) (x : ErrEntry),
        five = (if sevOf e ≤ sevOf h.err then h.queue ++ [⟨e, h.arrivals⟩] else ⟨h.err, h.errNth⟩ :: h.queue) ∧
        five = a ++ x :: b ∧ (arrive h e).1.queue = a ++ b ∧
        (∀ y ∈ five, sevOf x.word ≤ sevOf y.word) ∧ (∀ y ∈ five, sevOf y.word = sevOf x.word → y.nth ≤ x.nth))

/-- With the page open to writes, every case of R67. SET_LOCK locks an unlocked page with any key; CLEAR_LOCK unlocks a locked
one with 0x6D2E; SET_SEAL seals with 0x5EA1 in COMMISSION and CLEAR_SEAL unseals with it in COMMISSION or RECOVERY, each with
its error on page 0; DRAUGHT_UNLOCK with 0x5A3C unlocks the draught registers in TEST or COMMISSION, also where they are
unlocked. A command that asks for no change completes OK with key 0 and changes no lock. Every other key or state completes
MISMATCH, leaves the locks of the page as they are and increments BADKEY. No other page's locks, no register and no slice
changes. Completes: SET_LOCK, CLEAR_LOCK, SET_SEAL, CLEAR_SEAL, DRAUGHT_UNLOCK. (R66, R67, R578) -/
def Obligations.LockKeys : Prop :=
  ∀ (s : State) (page : Page) (key : BitVec 16) (d : State) (g : Nat) (h : Hdr), s.porchRuns = true →
    d = endDoze s → g = d.physPage page.toNat → h = d.hdr g → writeStatus d (hdrAddr page 0x20) = .ok →
    (h.lock = false ∨ key = 0 → ∃ t, exec (.setLock page key) s = .next t ∧ locksSet d t g true h.sealOn h.draughtUnl) ∧
    (h.lock = true → key ≠ 0 → ∃ t, exec (.setLock page key) s = .next t ∧ keyRefused d t g) ∧
    ((h.lock = true ∧ key = 0x6D2E) ∨ (h.lock = false ∧ key = 0) →
      ∃ t, exec (.clearLock page key) s = .next t ∧ locksSet d t g false h.sealOn h.draughtUnl) ∧
    ((h.lock = true ∧ key ≠ 0x6D2E) ∨ (h.lock = false ∧ key ≠ 0) →
      ∃ t, exec (.clearLock page key) s = .next t ∧ keyRefused d t g) ∧
    (h.sealOn = false → key = 0x5EA1 → d.modst.state = 1 → ∃ t, exec (.setSeal page key) s = .next t ∧
      locksSet d t g h.lock true h.draughtUnl ∧ toldCode d t 0 g 0x1005) ∧
    (h.sealOn = true → key = 0 → ∃ t, exec (.setSeal page key) s = .next t ∧ locksSet d t g h.lock true h.draughtUnl) ∧
    ((h.sealOn = false ∧ (key ≠ 0x5EA1 ∨ d.modst.state ≠ 1)) ∨ (h.sealOn = true ∧ key ≠ 0) →
      ∃ t, exec (.setSeal page key) s = .next t ∧ keyRefused d t g) ∧
    (h.sealOn = true → key = 0x5EA1 → d.modst.state = 1 ∨ d.modst.state = 4 →
      ∃ t, exec (.clearSeal page key) s = .next t ∧ locksSet d t g h.lock false h.draughtUnl ∧ toldCode d t 0 g 0x1006) ∧
    (h.sealOn = false → key = 0 →
      ∃ t, exec (.clearSeal page key) s = .next t ∧ locksSet d t g h.lock false h.draughtUnl) ∧
    ((h.sealOn = true ∧ (key ≠ 0x5EA1 ∨ (d.modst.state ≠ 1 ∧ d.modst.state ≠ 4))) ∨ (h.sealOn = false ∧ key ≠ 0) →
      ∃ t, exec (.clearSeal page key) s = .next t ∧ keyRefused d t g) ∧
    (key = 0x5A3C → d.modst.state = 1 ∨ d.modst.state = 3 →
      ∃ t, exec (.draughtUnlock page key) s = .next t ∧ locksSet d t g h.lock h.sealOn true ∧
        (h.draughtUnl = false → toldCode d t 0 g 0x1F01)) ∧
    (key ≠ 0x5A3C ∨ (d.modst.state ≠ 1 ∧ d.modst.state ≠ 3) →
      ∃ t, exec (.draughtUnlock page key) s = .next t ∧ keyRefused d t g)

/-- A read of PG_TS_LO of a mapped page returns the low word of the page's last change, and the next read of PG_TS_HI returns
the high word as it stood at that read, whatever has changed on the page between the two reads. The
registers and the slices stay. Completes: PG_TS_LO_READ. (R65) -/
def Obligations.TimeStampSnapshot : Prop :=
  ∀ (s : State) (page : Page) (d : State) (g : Nat), s.porchRuns = true → d = endDoze s → g = d.physPage page.toNat →
    pageKind page.toNat ≠ .unmapped →
    ∃ t, exec (.pgTsLoRead page) s = .next t ∧
      t.lastOut = some (.access .ok (BitVec.ofNat 32 (d.hdr g).ts)) ∧
      (t.hdr g).tsSnap = some (BitVec.ofNat 32 ((d.hdr g).ts / 2 ^ 32)) ∧ t.slices = d.slices ∧ t.regs = d.regs ∧
      (∀ (u : State) (h : Hdr), (u.porchRuns = true ∧ u.landing.state = 0 ∧ u.map = t.map ∧ u.hdr g = h ∧
          h.tsSnap = (t.hdr g).tsSnap) →
        ∃ w, exec (.readClear (BitVec.ofNat 32 (hdrAddr page 0x34))) u = .next w ∧
          w.lastOut = some (.access .ok (BitVec.ofNat 32 ((d.hdr g).ts / 2 ^ 32))) ∧ (w.hdr g).tsSnap = none)

/-- Each row that reads a named register of a slice completes while the slice's registers answer: the last output is OK with the
register's value; the registers of its group are latched together with it; its RC bits return to their reset value; every
other register of the slice (the second result of a converter entry apart), every other slice, the porch registers and the
headers are as before. Completes: ZI_T_READ, ZC_ENT_LO_READ, ZC_URG_LO_READ, ZC_TS_NOW_READ, ZE_STAT_READ, ZE_HARM_STAT_READ,
ZE_ACC_TS_LO_READ, ZE_DMD_READ, ZH_STAT_READ, ZH_ACC_TS_LO_READ, ZL_STAT_READ, ZL_MODEL_READ, SCH_ALM_READ, ZP_STAT_READ,
ZO_STAT_READ, ZK_STAT_READ, ZX_NOW_LO_READ, ZW_STAT_READ. (R51, R53, R48, R105, R141, R162, R183, R211, R247, R316, R319, R541) -/
def Obligations.SliceRegisterReads : Prop :=
  ∀ (s : State) (v : View) (n : Fin 4) (k : Fin 32) (cool : Bool) (i : Instr) (a : Nat) (d : State) (p : Phys),
    (i, a) ∈ [(.ziTRead v n, R.ZI_T_n.at n.val), (.zcEntLoRead v k, R.ZC_ENT_k_LO.at k.val),
      (.zcUrgLoRead v, R.ZC_URG_LO.at 0), (.zcTsNowRead v, R.ZC_TS_NOW.at 0), (.zeStatRead v, R.ZE_STAT.at 0),
      (.zeHarmStatRead v, R.ZE_HARM_STAT.at 0), (.zeAccTsLoRead v, R.ZE_ACC_TS_LO.at 0), (.zeDmdRead v, R.ZE_DMD.at 0),
      (.zhStatRead v, R.ZH_STAT.at 0), (.zhAccTsLoRead v, R.ZH_ACC_TS_LO.at 0), (.zlStatRead v, R.ZL_STAT.at 0),
      (.zlModelRead v cool, if cool then R.ZL_MODEL_C_1.at 0 else R.ZL_MODEL_H_1.at 0), (.schAlmRead v, R.SCH_ALM.at 0),
      (.zpStatRead v, R.ZP_STAT.at 0), (.zoStatRead v, R.ZO_STAT.at 0), (.zkStatRead v, R.ZK_STAT.at 0),
      (.zxNowLoRead v, R.ZX_NOW_LO.at 0), (.zwStatRead v, R.ZW_STAT.at 0)] →
    s.porchRuns = true → d = endDoze s → p = d.viewSlice v → d.viewOpen v = true →
    ∃ t, exec i s = .next t ∧ t.emitted = d.emitted ++ [.access .ok (sliceShown d p a)] ∧
      (∀ g ∈ sliceGroup a, rfGet (t.z p).latch g = sliceShown d p g) ∧
      (∀ e, regAt a = some e → rfGet (t.z p).regs a =
        ((rfGet (d.z p).regs a &&& ~~~ BitVec.ofNat 32 e.rc) ||| (regReset a &&& BitVec.ofNat 32 e.rc))) ∧
      (∀ b, b ≠ a → b ≠ a + 0x100 → rfGet (t.z p).regs b = rfGet (d.z p).regs b) ∧
      (∀ q, q ≠ p → t.sl q = d.sl q) ∧ t.regs = d.regs ∧ t.hdrs = d.hdrs

/-- Each row that reads a named register of the porch or the cellar completes where its page answers: the last output is OK with
the register's value, the registers of its group are latched with it, its RC bits return to their reset value, every other
register, the slices and the headers are as before. Completes: PCH_SRC_ID_READ, HL_STAT_READ, FB_STAT_READ, CLR_SUBSEC_READ,
PCH_TS_NOW_LO_READ, PCH_TS_STEP_READ, PWR_CEN_STAT_READ, TH_STAT_READ, PCH_STATE_READ, PCH_BIT_READ. (R51, R53, R353, R410, R449, R467, R480, R509, R510, R576) -/
def Obligations.PorchRegisterReads : Prop :=
  ∀ (s : State) (port : Sys2Proof.Port) (i : Instr) (a : Nat) (d : State),
    (i, a) ∈ [(.pchSrcIdRead, R.PCH_SRC_ID.at 0), (.hlStatRead, R.HL_STAT.at 0),
      (.fbStatRead port, R.FB_STAT.at (Port.index port).val), (.clrSubsecRead, R.CLR_SUBSEC.at 0),
      (.pchTsNowLoRead, R.PCH_TS_NOW_LO.at 0), (.pchTsStepRead, R.PCH_TS_STEP.at 0),
      (.pwrCenStatRead, R.PWR_CEN_STAT.at 0), (.thStatRead, R.TH_STAT.at 0), (.pchStateRead, R.PCH_STATE.at 0),
      (.pchBitRead, R.PCH_BIT.at 0)] →
    s.porchRuns = true → d = endDoze s → readStatus d a = .ok →
    ∃ t, exec i s = .next t ∧ t.emitted = d.emitted ++ [.access .ok (porchShown d (a / 4096) (a % 4096))] ∧
      (∀ g ∈ porchGroup a, rfGet t.latch g = porchShown d (g / 4096) (g % 4096)) ∧
      (∀ e, regAt a = some e → rfGet t.regs a =
        ((rfGet d.regs a &&& ~~~ BitVec.ofNat 32 e.rc) ||| (regReset a &&& BitVec.ofNat 32 e.rc))) ∧
      (∀ b, b ≠ a → rfGet t.regs b = rfGet d.regs b) ∧ t.slices = d.slices ∧ t.hdrs = d.hdrs

/-- ZK_EVT_LO takes the oldest panel event and latches its time; ZE_CAP_DATA returns the captured word at PTR and advances PTR;
FB_RX_HDR takes the oldest received frame and latches the rest of it; CLR_WAKE_EVT_LO takes the oldest wake entry and latches
its time; on an empty FIFO each of the three returns 0 and takes nothing. PWR_SUPPLY shows VIN of the range alarm while RANGE
is set, else a VIN in range, and latches PWR_HOLDUP and PWR_START. The value of ZE_CAP_DATA beyond the words held is free
(notes/assumptions/122). Completes: ZK_EVT_LO_READ, ZE_CAP_DATA_READ, FB_RX_HDR_READ, CLR_WAKE_EVT_LO_READ, PWR_SUPPLY_READ.
(R181, R313, R455, R511, R567) -/
def Obligations.FifoReads : Prop :=
  ∀ (s : State) (v : View) (port : Sys2Proof.Port) (d : State) (p : Phys) (i : Fin 2), s.porchRuns = true → d = endDoze s →
    p = d.viewSlice v → i = Port.index port →
    (d.viewOpen v = true →
      (∃ t, exec (.zkEvtLoRead v) s = .next t ∧
        (∀ e l, (d.z p).panel.evts = e :: l → (t.z p).panel.evts = l ∧
          t.lastOut = some (.access .ok (BitVec.ofNat 32 (2 ^ 31 + e.type * 2 ^ 28 + e.key * 2 ^ 24 + l.length * 2 ^ 16))) ∧
          rfGet (t.z p).latch (R.ZK_EVT_HI.at 0) = BitVec.ofNat 32 e.time) ∧
        ((d.z p).panel.evts = [] → (t.z p).panel.evts = [] ∧ t.lastOut = some (.access .ok 0)) ∧
        (∀ q, q ≠ p → t.sl q = d.sl q)) ∧
      (∃ t w, exec (.zeCapDataRead v) s = .next t ∧ t.lastOut = some (.access .ok w) ∧
        t.g p F.ZE_CAP_PTR_PTR = (d.g p F.ZE_CAP_PTR_PTR + 1) % 65536 ∧
        (∀ x, (d.z p).meter.cap.words[d.g p F.ZE_CAP_PTR_PTR]? = some x → w = x) ∧
        (t.z p).meter = (d.z p).meter ∧ (∀ q, q ≠ p → t.sl q = d.sl q))) ∧
    (∃ t, exec (.fbRxHdrRead port) s = .next t ∧ t.slices = d.slices ∧
      (∀ f ts l, (d.port i).rx = (f, ts) :: l → t.port i = { d.port i with rx := l } ∧
        t.lastOut = some (.access .ok (rxHdrWord f)) ∧
        rfGet t.latch (R.FB_RX_INFO.at i.val) = BitVec.ofNat 32 (f.pri.toNat * 2 ^ 28 + l.length * 2 ^ 16) ∧
        rfGet t.latch (R.FB_RX_TS_LO.at i.val) = BitVec.ofNat 32 (ts % 2 ^ 32) ∧
        rfGet t.latch (R.FB_RX_TS_HI.at i.val) = BitVec.ofNat 32 (ts / 2 ^ 32) ∧
        ∀ k, k < 8 → rfGet t.latch (R.FB_RX_DATA_k.at (fbData i k)) = wordAt f.data (4 * k)) ∧
      ((d.port i).rx = [] → t.port i = d.port i ∧ t.lastOut = some (.access .ok 0) ∧
        rfGet t.latch (R.FB_RX_INFO.at i.val) = 0 ∧ rfGet t.latch (R.FB_RX_TS_LO.at i.val) = 0 ∧
        rfGet t.latch (R.FB_RX_TS_HI.at i.val) = 0 ∧
        ∀ k, k < 8 → rfGet t.latch (R.FB_RX_DATA_k.at (fbData i k)) = 0)) ∧
    (d.cellar.locked = false → ∃ t, exec .clrWakeEvtLoRead s = .next t ∧ t.slices = d.slices ∧
      (∀ r l, d.cellar.wlog = r :: l → t.cellar = { d.cellar with wlog := l } ∧
        t.lastOut = some (.access .ok (BitVec.ofNat 32 (2 ^ 31 + r.src % 16 * 2 ^ 27 + r.state % 8 * 2 ^ 24
          + satTo 8 l.length * 2 ^ 16 + satTo 16 r.count))) ∧
        rfGet t.latch (R.CLR_WAKE_EVT_HI.at 0) = lowWord (r.time / 1000)) ∧
      (d.cellar.wlog = [] → t.cellar = d.cellar ∧ t.lastOut = some (.access .ok 0) ∧
        rfGet t.latch (R.CLR_WAKE_EVT_HI.at 0) = 0)) ∧
    (∃ t w, exec .pwrSupplyRead s = .next t ∧ t.lastOut = some (.access .ok w) ∧
      (d.supply.range = true → d.supply.vin < 2 ^ 16 → fieldOf w 31 16 = d.supply.vin) ∧
      (d.supply.range = false → 18000 ≤ fieldOf w 31 16 ∧ fieldOf w 31 16 ≤ 32000) ∧
      fieldOf w 15 15 = bit1 d.supply.range ∧
      (∀ g ∈ [R.PWR_HOLDUP.at 0, R.PWR_START.at 0], rfGet t.latch g = porchShown d (g / 4096) (g % 4096)) ∧
      t.supply = d.supply ∧ t.slices = d.slices)

/-- With the written register open to writes: DIAG_NOW starts a window on every diagnosed input, off unless the input is a
limit; SEQUENCE_HOST_TRIGGER makes an idle SQ3 active and latches a trigger of an active one; SEQUENCE_DISABLE clears EN and
the pending latch of SQ3; CAPTURE_ARM arms an idle capture with ZE_CAP_CFG as it stands and no words, and counts a drop on
one armed or running; CAPTURE_HOST_TRIGGER triggers an armed capture whose source is the host; CAPTURE_STOP ends an armed or
running one as DONE with its event. The other slices stay (checkpoint marks apart). Completes:
DIAG_NOW, SEQUENCE_HOST_TRIGGER, SEQUENCE_DISABLE, CAPTURE_ARM, CAPTURE_HOST_TRIGGER, CAPTURE_STOP. (R87, R122, R123, R124, R176) -/
def Obligations.SliceHostActions : Prop :=
  ∀ (s : State) (v : View) (w : Word) (d : State) (p : Phys), s.porchRuns = true → d = endDoze s → p = d.viewSlice v →
    (writeStatus d (viewAddr v (R.ZI_CTRL.at 0)) = .ok →
      ∃ t, exec (.diagNow v) s = .next t ∧ t.lastOut = some (.access .ok 0) ∧ othersKept d t p ∧
        ∀ n : Fin 4, d.diagnosed p n = true →
          (t.z p).inp.t[n].off = !d.isLimit p n ∧ (t.z p).inp.t[n].spoiled = false) ∧
    (writeStatus d (viewAddr v (R.ZC_CTRL.at 0)) = .ok → takesTrigger d p 3 .host = true → badRange d p 3 = false →
      ∃ t, exec (.sequenceHostTrigger v) s = .next t ∧ t.lastOut = some (.access .ok 0) ∧ othersKept d t p ∧
        (t.seq p 3).act = true ∧ ((d.seq p 3).act = true → (d.seq p 3).pend = false → (t.seq p 3).pend = true)) ∧
    (writeStatus d (viewAddr v (R.ZC_SEQ_q.at 3)) = .ok → d.gb p F.ZC_SEQ_q_EN 3 = true →
      ∃ t, exec (.sequenceDisable v w) s = .next t ∧ t.lastOut = some (.access .ok 0) ∧ othersKept d t p ∧
        t.gb p F.ZC_SEQ_q_EN 3 = false ∧ (t.seq p 3).pend = false) ∧
    (writeStatus d (viewAddr v (R.ZE_CAP_CTRL.at 0)) = .ok →
      ((d.mt p).cap.state ≠ 1 → (d.mt p).cap.state ≠ 2 →
        ∃ t, exec (.captureArm v) s = .next t ∧ t.lastOut = some (.access .ok 0) ∧ othersKept d t p ∧
          (t.mt p).cap.state = 1 ∧ (t.mt p).cap.words = [] ∧ (t.mt p).cap.cfg = (d.z p).regs.word R.ZE_CAP_CFG) ∧
      ((d.mt p).cap.state = 1 ∨ (d.mt p).cap.state = 2 →
        ∃ t, exec (.captureArm v) s = .next t ∧ t.lastOut = some (.access .ok 0) ∧ othersKept d t p ∧
          (t.mt p).cap = (d.mt p).cap ∧
          t.g p F.ZE_CAP_STAT_CAP_DROP = satTo (F.ZE_CAP_STAT_CAP_DROP.hi + 1 - F.ZE_CAP_STAT_CAP_DROP.lo)
            (d.g p F.ZE_CAP_STAT_CAP_DROP + 1)) ∧
      ((d.mt p).cap.state = 1 → capSrc (d.mt p).cap.cfg = 0 →
        ∃ t, exec (.captureHostTrigger v) s = .next t ∧ t.lastOut = some (.access .ok 0) ∧ othersKept d t p ∧
          (t.mt p).cap.state = 2 ∧ (t.mt p).cap.trigAt = (d.mt p).cap.words.length ∧
          t.isrBit (slicePage p 4) EVT.ZE_CAP_TRIG = true) ∧
      ((d.mt p).cap.state = 1 ∨ (d.mt p).cap.state = 2 →
        ∃ t, exec (.captureStop v) s = .next t ∧ t.lastOut = some (.access .ok 0) ∧ othersKept d t p ∧
          (t.mt p).cap.state = 3 ∧ t.isrBit (slicePage p 4) EVT.ZE_CAP_DONE = true))

/-- With ZO_CTRL open to writes: OVERCURRENT_CLEAR of a relay driver clears its latch, its switched-off state and its trip
count; OUTPUT_RELEASE of a held output whose value matches releases it to the slice; of any other output it counts REL_REJ
and raises E-1D08. The other slices stay (checkpoint marks apart). Completes: OVERCURRENT_CLEAR,
OUTPUT_RELEASE. (R293, R303) -/
def Obligations.OutputHostActions : Prop :=
  ∀ (s : State) (v : View) (j : Out) (d : State) (p : Phys), s.porchRuns = true → d = endDoze s → p = d.viewSlice v →
    writeStatus d (viewAddr v (R.ZO_CTRL.at 0)) = .ok →
    (isDo j = true → ∃ t, exec (.overcurrentClear v j) s = .next t ∧ t.lastOut = some (.access .ok 0) ∧
      othersKept d t p ∧ (t.out p j).latched = false ∧ (t.out p j).ovcOff = false ∧ (t.out p j).ovcRun = 0) ∧
    ((d.out p j).held = true → (d.out p j).match_ = true → ∃ t, exec (.outputRelease v j) s = .next t ∧
      t.lastOut = some (.access .ok 0) ∧ othersKept d t p ∧
      (t.out p j).held = false ∧ (t.out p j).match_ = false ∧ (t.out p j).safe = false) ∧
    ((d.out p j).held = false ∨ (d.out p j).match_ = false → ∃ t, exec (.outputRelease v j) s = .next t ∧
      t.lastOut = some (.access .ok 0) ∧ othersKept d t p ∧ t.out p j = d.out p j ∧ toldCode d t (slicePage p 0xA) j.val 0x1D08 ∧
      t.g p F.ZO_CNT_REL_REJ = satTo (F.ZO_CNT_REL_REJ.hi + 1 - F.ZO_CNT_REL_REJ.lo) (d.g p F.ZO_CNT_REL_REJ + 1))

/-- A request of the firmware on a running slice takes the urgent place at once where none runs, waits where one runs and none
waits, and is otherwise dropped: URG_DROP counts and E-1A20 is raised. A request of the host, by a write of ZC_CTRL that
completes OK, does the same with ZC_URG_CFG as it stands. The other slices stay (checkpoint marks apart). Completes:
URGENT_REQUEST. (R130) -/
def Obligations.UrgentRequests : Prop :=
  ∀ (s : State) (p : Phys) (cfg : Word) (d : State) (host : Bool) (u : Urgent),
    (host = false → d = s ∧ (s.sl p).running = true ∧ u = { host := false, cfg := cfg }) →
    (host = true → d = endDoze s ∧ s.porchRuns = true ∧ writeStatus d (viewAddr (.phys p) (R.ZC_CTRL.at 0)) = .ok ∧
      u = { host := true, cfg := (d.z p).regs.word R.ZC_URG_CFG }) →
    ∃ t, exec (.urgentRequest p host cfg) s = .next t ∧ othersKept d t p ∧
      (host = true → t.lastOut = some (.access .ok 0)) ∧
      ((d.cv p).urg = none → (t.cv p).urg = some u ∧ (t.cv p).urgPend = (d.cv p).urgPend) ∧
      ((d.cv p).urg ≠ none → (d.cv p).urgPend = none → (t.cv p).urg = (d.cv p).urg ∧ (t.cv p).urgPend = some u) ∧
      ((d.cv p).urg ≠ none → (d.cv p).urgPend ≠ none → t.cv p = d.cv p ∧ toldCode d t (slicePage p 2) 0 0x1A20 ∧
        t.g p F.ZC_ABORT_URG_DROP = satTo (F.ZC_ABORT_URG_DROP.hi + 1 - F.ZC_ABORT_URG_DROP.lo)
          (d.g p F.ZC_ABORT_URG_DROP + 1))

/-- Each selector write that completes OK makes its copy: GUESTBOOK_QUERY shows VALID, FOUND and the entry's RESULT and REASON;
LARDER_ENTRY_COPY the sixteen words of the entry or zeros; COLLECTOR_ENTRY_COPY the six words of the entry or zeros;
LANDING_LOG_COPY the abort record or zeros; PATH_RECORD_COPY VALID, UNUSABLE, ALPHA and the resistances of the path's
calibration; WINDOW_LOAD makes the window busy for the asked SEQ and changes no record. The slices stay. Completes:
GUESTBOOK_QUERY, LARDER_ENTRY_COPY, COLLECTOR_ENTRY_COPY, LANDING_LOG_COPY, PATH_RECORD_COPY, WINDOW_LOAD. (R207, R337, R354, R355, R492, R509, R513, R539, R540) -/
def Obligations.CopiesForTheHost : Prop :=
  ∀ (s : State) (n : Word) (d : State), s.porchRuns = true → d = endDoze s →
    (writeStatus d (R.PCH_GB_Q_SEQ.at 0) = .ok → ∃ t, exec (.guestbookQuery n) s = .next t ∧
      t.lastOut = some (.access .ok 0) ∧ t.slices = d.slices ∧ t.journal = d.journal ∧ t.pg F.PCH_GB_Q_RES_VALID = 1 ∧
      t.pg F.PCH_GB_Q_RES_FOUND = bit1 (bookEntry d (BitVec.ofNat 16 (d.pg F.PCH_GB_Q_SRC_SOURCE)) n.toNat).isSome ∧
      ∀ e, bookEntry d (BitVec.ofNat 16 (d.pg F.PCH_GB_Q_SRC_SOURCE)) n.toNat = some e → e.result < 256 →
        e.reason < 65536 → t.pg F.PCH_GB_Q_RES_RESULT = e.result ∧ t.pg F.PCH_GB_Q_RES_REASON = e.reason) ∧
    (writeStatus d (R.PCH_LD_SEL.at 0) = .ok → ∃ t, exec (.larderEntryCopy n) s = .next t ∧
      t.lastOut = some (.access .ok 0) ∧ t.slices = d.slices ∧ t.journal = d.journal ∧
      ∀ k, k < 16 → rfGet t.regs (R.PCH_LD_ENT_w.at k) = (match smFind d.journal.larder n.toNat with
        | some i => (larderWords n.toNat i).getD k 0
        | none => 0)) ∧
    (writeStatus d (R.PCH_EC_SEL.at 0) = .ok → ∃ t, exec (.collectorEntryCopy n) s = .next t ∧
      t.lastOut = some (.access .ok 0) ∧ t.slices = d.slices ∧ t.coll = d.coll ∧
      ∀ k, k < 6 → rfGet t.regs (R.PCH_EC_ENT_w.at k) =
        (match (d.coll.log ++ d.coll.buf).find? (fun e => e.eseq == n.toNat) with
          | some e => (entryWords e).getD k 0
          | none => 0)) ∧
    (writeStatus d (R.PWR_LOG_SEL.at 0) = .ok → ∀ sel : BitVec 4, ∃ t, exec (.landingLogCopy sel) s = .next t ∧
      t.lastOut = some (.access .ok 0) ∧ t.slices = d.slices ∧ t.landing = d.landing ∧
      (d.landing.log[sel.toNat]? = none → ∀ a ∈ [R.PWR_LOG_1.at 0, R.PWR_LOG_2.at 0, R.PWR_LOG_TS_LO.at 0,
        R.PWR_LOG_TS_HI.at 0], rfGet t.regs a = 0) ∧
      ∀ a, d.landing.log[sel.toNat]? = some a → t.pg F.PWR_LOG_1_PAGE = F.PWR_LOG_1_PAGE.fit a.page ∧
        t.pg F.PWR_LOG_1_CAUSE = F.PWR_LOG_1_CAUSE.fit a.cause ∧
        t.pg F.PWR_LOG_1_REASON = F.PWR_LOG_1_REASON.fit a.reason ∧
        t.pg F.PWR_LOG_2_STOPPED = F.PWR_LOG_2_STOPPED.fit a.stopped ∧
        t.pg F.PWR_LOG_2_TARGET = F.PWR_LOG_2_TARGET.fit a.target ∧ t.pg F.PWR_LOG_TS_LO_TS = a.time % 2 ^ 32 ∧
        t.pg F.PWR_LOG_TS_HI_TS = F.PWR_LOG_TS_HI_TS.fit (a.time / 2 ^ 32)) ∧
    (writeStatus d (R.HWY_CAL_SEL.at 0) = .ok → ∀ (z : Zone) (k : Fin 4), ∃ t, exec (.pathRecordCopy z k) s = .next t ∧
      t.lastOut = some (.access .ok 0) ∧ t.slices = d.slices ∧ t.upkeep = d.upkeep ∧
      t.pg F.HWY_CAL_SEL_ZONE = z.val ∧ t.pg F.HWY_CAL_SEL_SPARE = k.val ∧
      t.pb F.HWY_CAL_PATH_VALID = pathValid d z k ∧ t.pb F.HWY_CAL_PATH_UNUSABLE = (d.path (pathOf z k)).unusable ∧
      t.pg F.HWY_CAL_PATH_ALPHA = F.HWY_CAL_PATH_ALPHA.fit (d.path (pathOf z k)).alpha ∧
      ∀ j : Fin 18, t.pg F.HWY_CAL_RES_i_R25 j.val = F.HWY_CAL_RES_i_R25.fit (d.path (pathOf z k)).r25[j]) ∧
    (writeStatus d (R.PCH_RS_WIN_SEQ.at 0) = .ok → ∀ bad : List Nat, ∃ t, exec (.windowLoad n bad) s = .next t ∧
      t.lastOut = some (.access .ok 0) ∧ t.slices = d.slices ∧ t.store.winBusy = true ∧ t.store.winValid = false ∧
      t.store.winReq = n.toNat ∧ t.store.recs = d.store.recs ∧ t.store.acked = d.store.acked)

/-- With the control register open to writes: LINK_RETRAIN ends the exclusion of every lane and offers the lanes asked (all for
0) for a new training; TX_SEND puts the frame of the host slot under way with RESULT 1, or refuses it with RESULT 7 where
KIND, LEN or the port's state do not allow it; TX_CANCEL of a frame not begun empties the slot with RESULT 4, of one begun
marks it, with an empty slot does nothing; KNOCK sends the pattern on an active port and none on another; CALENDAR_LOAD in COMMISSION, TEST or RECOVERY loads the date and time
and announces the step, in other states it counts LD_REJ and raises E-1406. Completes: LINK_RETRAIN,
TX_SEND, TX_CANCEL, KNOCK, CALENDAR_LOAD. (R392, R410, R435, R447, R454, R468) -/
def Obligations.HostControlWrites : Prop :=
  ∀ (s : State) (port : Sys2Proof.Port) (d : State) (i : Fin 2), s.porchRuns = true → d = endDoze s →
    i = Port.index port →
    (writeStatus d (R.HL_CTRL.at 0) = .ok → ∀ lanes : BitVec 4, ∃ t, exec (.linkRetrain lanes) s = .next t ∧
      t.lastOut = some (.access .ok 0) ∧ t.slices = d.slices ∧ t.link.excluded = 0 ∧ t.link.retrain = true ∧
      t.link.state = 0 ∧ t.link.offered = if lanes = 0 then 0xF else lanes) ∧
    (writeStatus d (R.FB_CTRL.at i.val) = .ok →
      ((d.port i).host = none → 0x80 ≤ d.pg F.FB_TX_ID_KIND i.val → d.pg F.FB_TX_LEN_LEN i.val ≤ 32 →
        (d.port i).state = 2 ∨ (d.port i).state = 3 → ∃ t, exec (.txSend port) s = .next t ∧
          t.lastOut = some (.access .ok 0) ∧ t.slices = d.slices ∧ t.pg F.FB_TX_STAT_RESULT i.val = 1 ∧
          t.port i = { d.port i with host := some (unsent (ownFrame d i (d.pg F.FB_TX_ID_PRI i.val)
            (d.pg F.FB_TX_ID_KIND i.val) (d.pg F.FB_TX_ID_DST i.val) (slotBytes d i (d.pg F.FB_TX_LEN_LEN i.val)))) }) ∧
      ((d.port i).host = none → d.pg F.FB_TX_ID_KIND i.val < 0x80 ∨ 32 < d.pg F.FB_TX_LEN_LEN i.val ∨
          ((d.port i).state = 0 ∨ (d.port i).state = 1 ∨ (d.port i).state = 4) →
        ∃ t, exec (.txSend port) s = .next t ∧ t.lastOut = some (.access .ok 0) ∧ t.slices = d.slices ∧
          t.port i = d.port i ∧ t.pg F.FB_TX_STAT_RESULT i.val = 7) ∧
      (∀ b : Bool, ∃ t, exec (.txCancel port b) s = .next t ∧ t.lastOut = some (.access .ok 0) ∧ t.slices = d.slices ∧
        ((d.port i).host = none → t.port i = d.port i) ∧
        (∀ f, (d.port i).host = some f →
          (b = false ∨ hostOffered d i = false → (t.port i).host = none ∧ t.pg F.FB_TX_STAT_RESULT i.val = 4) ∧
          (b = true → hostOffered d i = true → t.port i = { d.port i with host := some { f with cancel := true } }))) ∧
      (∃ t, exec (.knock port) s = .next t ∧ t.slices = d.slices ∧ t.port i = d.port i ∧
        t.emitted = d.emitted ++ (if portActive d i = true then [.knock port, .access .ok 0] else [.access .ok 0]))) ∧
    (writeStatus d (R.CLR_CTRL.at 0) = .ok →
      (d.modst.state = 1 ∨ d.modst.state = 3 ∨ d.modst.state = 4 → ∃ t, exec .calendarLoad s = .next t ∧
        t.lastOut = some (.access .ok 0) ∧ t.cellar.year = d.pg F.CLR_LD_DATE_YEAR ∧
        t.cellar.month = d.pg F.CLR_LD_DATE_MONTH ∧ t.cellar.day = d.pg F.CLR_LD_DATE_DAY ∧
        t.cellar.hour = d.pg F.CLR_LD_TIME_HOUR ∧ t.cellar.min = d.pg F.CLR_LD_TIME_MIN ∧
        t.cellar.sec = d.pg F.CLR_LD_TIME_SEC ∧ t.cellar.trusted = false ∧
        t.time.pend.length = d.time.pend.length + 1 ∧ t.isrBit 0x40 EVT.CAL_LOAD = true) ∧
      (d.modst.state ≠ 1 → d.modst.state ≠ 3 → d.modst.state ≠ 4 → ∃ t, exec .calendarLoad s = .next t ∧
        t.lastOut = some (.access .ok 0) ∧ t.cellar = d.cellar ∧ toldCode d t 0x40 0 0x1406 ∧
        t.pg F.CLR_CAL_STAT_LD_REJ = satTo (F.CLR_CAL_STAT_LD_REJ.hi + 1 - F.CLR_CAL_STAT_LD_REJ.lo)
          (d.pg F.CLR_CAL_STAT_LD_REJ + 1)))

/-- Each opcode that carries register images, taken by the slice of the zone it names: every image of the payload stands in the
slice's register, a DONE marker of the zone is written, the checkpoint is due, TAKEN covers the command and it has left the
inbox; the other slices stay. 0x0103 sets each setpoint the payload does not keep; 0x0106 the five manual levels. Completes:
ZONE_INPUTS_CONFIGURATION, ZONE_SETPOINTS, LOOP_CONFIGURATION, ACTUATOR_MAP, MANUAL_OUTPUT_LEVELS, OUTPUT_CONFIGURATION,
PANEL_CONFIGURATION, ELECTRICAL_CONFIGURATION, ELECTRICAL_CALIBRATION, HEAT_AND_FLOW_CONFIGURATION, TIME_ZONE_RULE,
WEEKLY_EVENTS, EXCEPTION_DATES, TARIFF_BANDS, POLICY_CONFIGURATION. (R35, R338, R343, R345, R358, R367, R369, R370, R372,
R374) -/
def Obligations.ConfigurationOpcodes : Prop :=
  ∀ (s : State) (x : Exec) (z : Zone) (p : Phys), aboutToTake s x z p →
    (∀ (i : Instr) (op : BitVec 16), (i, op) ∈ [(.zoneInputsConfiguration x, 0x0101), (.loopConfiguration x, 0x0104),
        (.actuatorMap x, 0x0105), (.outputConfiguration x, 0x0107), (.panelConfiguration x, 0x0108),
        (.electricalConfiguration x, 0x0110), (.electricalCalibration x, 0x0111), (.heatAndFlowConfiguration x, 0x0112),
        (.timeZoneRule x, 0x0201), (.weeklyEvents x, 0x0202), (.exceptionDates x, 0x0203), (.tariffBands x, 0x0210),
        (.policyConfiguration x, 0x0211)] → x.opcode = op →
      ∃ t, exec i s = .next t ∧ hasTaken s t x p ∧ t.zoneMarker x.lseq z = some (resDone, 0, 0) ∧
        (t.sl p).ckptDue = true ∧
        ∀ c ∈ imageWords x.opcode.toNat x, (∀ e ∈ imageWords x.opcode.toNat x, e.1 = c.1 → e = c) →
          rfGet (t.z p).regs c.1 = c.2) ∧
    (x.opcode = 0x0103 → ∃ t, exec (.zoneSetpoints x) s = .next t ∧ hasTaken s t x p ∧
      t.zoneMarker x.lseq z = some (resDone, 0, 0) ∧ (t.sl p).ckptDue = true ∧
      (x.u16 0 ≠ 0x8000 → t.g p F.ZL_SP_COMF_HEAT = x.u16 0) ∧
      (x.u16 0 = 0x8000 → t.g p F.ZL_SP_COMF_HEAT = s.g p F.ZL_SP_COMF_HEAT) ∧
      (x.u16 2 ≠ 0x8000 → t.g p F.ZL_SP_COMF_COOL = x.u16 2) ∧
      (x.u16 4 ≠ 0x8000 → t.g p F.ZL_SP_ECO_HEAT = x.u16 4) ∧
      (x.u16 6 ≠ 0x8000 → t.g p F.ZL_SP_ECO_COOL = x.u16 6) ∧
      (x.u16 8 ≠ 0x8000 → t.g p F.ZL_SP_MISC_FROST = x.u16 8) ∧
      (x.byte 11 ≠ 0xFF → t.g p F.ZL_SP_MISC_PANEL_LIM = x.byte 11)) ∧
    (x.opcode = 0x0106 → ∃ t, exec (.manualOutputLevels x) s = .next t ∧ hasTaken s t x p ∧
      t.zoneMarker x.lseq z = some (resDone, 0, 0) ∧ (t.sl p).ckptDue = true ∧
      ∀ j : Fin 5, (t.lp p).manual[j] = x.u16 (2 * j.val))

/-- Taken by the slice of the zone named: 0x0102 without TICK sets the commanded mode, ends a panel boost and a running tune and
is DONE; 0x0212 writes every bin of the learner as 255 or 0 and is DONE; 0x0303 clears the demand maximum and its time and is
DONE with the former maximum as VALUE. TAKEN covers the command and the other slices stay. Completes: ZONE_MODE,
OCCUPANCY_LEARNER_RESET, DEMAND_RESET. (R168, R265, R338, R343, R368, R374, R375) -/
def Obligations.ModeAndDemandOpcodes : Prop :=
  ∀ (s : State) (x : Exec) (z : Zone) (p : Phys), aboutToTake s x z p →
    (x.opcode = 0x0102 → ∃ t, exec (.zoneMode x) s = .next t ∧ hasTaken s t x p ∧
      t.zoneMarker x.lseq z = some (resDone, 0, 0) ∧ (t.lp p).cmd = x.byte 0 ∧ (t.lp p).pboost = 0 ∧
      (t.lp p).tune = none ∧ (isTimed (x.byte 0) = false → (t.lp p).remain = 0)) ∧
    (x.opcode = 0x0212 → ∃ t, exec (.occupancyLearnerReset x) s = .next t ∧ hasTaken s t x p ∧
      t.zoneMarker x.lseq z = some (resDone, 0, 0) ∧ ∀ b, b < 672 → binAt t p b = 0 ∨ binAt t p b = 255) ∧
    (x.opcode = 0x0303 → ∃ t, exec (.demandReset x) s = .next t ∧ hasTaken s t x p ∧
      t.zoneMarker x.lseq z = some (resDone, 0, (s.z p).regs.word R.ZE_DMD_MAX) ∧
      (t.z p).regs.word R.ZE_DMD_MAX = 0 ∧ (t.z p).regs.word R.ZE_DMD_MAX_TS_LO = 0 ∧
      (t.z p).regs.word R.ZE_DMD_MAX_TS_HI = 0 ∧ (t.z p).meter = (s.z p).meter)

/-- Taken by the slice of the zone named: 0x0109 starts the pulse of its duration on the relay output, or is FAULT 1 on a held
output and FAULT 2 on a latched one; 0x0120 starts a tune at step 1, or is FAULT where the mode or the inputs forbid it;
0x0121 ends a running tune and is DONE; 0x0304 arms the capture with its image and is DONE, or FAULT 1 where one is armed or
running. A pulse's relay is neither a heating nor a cooling stage under a ceiling here. The other slices stay. Completes:
RELAY_PULSE, AUTOTUNE_START, AUTOTUNE_ABORT, WAVEFORM_CAPTURE. (R176, R241, R338, R371, R373, R375, R383, R384) -/
def Obligations.OneTimeActions : Prop :=
  ∀ (s : State) (x : Exec) (z : Zone) (p : Phys), aboutToTake s x z p →
    (∀ j : Out, x.opcode = 0x0109 → j = (if x.byte 0 = 3 then 3 else 4) →
      (∀ k : Out, s.g p F.ZL_ACT_j_FUNC k ≠ 4 ∧ s.g p F.ZL_ACT_j_FUNC k ≠ 5) →
      ((s.out p j).held = false → (s.out p j).latched = false → ∃ t, exec (.relayPulse x) s = .next t ∧
        hasTaken s t x p ∧ (t.out p j).pulse = some { lseq := x.lseq, dur := x.u16 2 } ∧
        t.zoneMarker x.lseq z = none) ∧
      ((s.out p j).held = true → ∃ t, exec (.relayPulse x) s = .next t ∧ hasTaken s t x p ∧
        t.zoneMarker x.lseq z = some (resFault, 1, 0)) ∧
      ((s.out p j).held = false → (s.out p j).latched = true → ∃ t, exec (.relayPulse x) s = .next t ∧ hasTaken s t x p ∧
        t.zoneMarker x.lseq z = some (resFault, 2, 0))) ∧
    (x.opcode = 0x0120 → (s.lp p).tune = none →
      ((s.lp p).mode ≠ 0 → (s.lp p).mode ≠ 5 → (s.lp p).mode ≠ 6 → roomInputs s p ≠ [] →
        ∃ t, exec (.autotuneStart x) s = .next t ∧ hasTaken s t x p ∧
          (∃ u, (t.lp p).tune = some u ∧ u.lseq = x.lseq ∧ u.step = 1 ∧ u.cool = decide (x.byte 0 = 1)) ∧
          t.gb p F.ZL_STAT_TUNING = true ∧ t.g p F.ZL_TUNE_STAT_STEP = 1) ∧
      ((s.lp p).mode = 0 ∨ (s.lp p).mode = 5 ∨ (s.lp p).mode = 6 ∨ roomInputs s p = [] →
        ∃ t, exec (.autotuneStart x) s = .next t ∧ hasTaken s t x p ∧
          ∃ m, t.zoneMarker x.lseq z = some m ∧ m.1 = resFault)) ∧
    (x.opcode = 0x0121 → ∃ t, exec (.autotuneAbort x) s = .next t ∧ hasTaken s t x p ∧ (t.lp p).tune = none ∧
      t.zoneMarker x.lseq z = some (resDone, 0, 0)) ∧
    (x.opcode = 0x0304 →
      ((s.mt p).cap.state ≠ 1 → (s.mt p).cap.state ≠ 2 → ∃ t, exec (.waveformCapture x) s = .next t ∧ hasTaken s t x p ∧
        (t.mt p).cap.state = 1 ∧ (t.mt p).cap.cfg = x.image 0 ∧ t.zoneMarker x.lseq z = some (resDone, 0, 0)) ∧
      ((s.mt p).cap.state = 1 ∨ (s.mt p).cap.state = 2 → ∃ t, exec (.waveformCapture x) s = .next t ∧ hasTaken s t x p ∧
        (t.mt p).cap = (s.mt p).cap ∧ t.zoneMarker x.lseq z = some (resFault, 1, 0)))

/-- Executed by the porch with no bus as time source: 0x0401 moves a trusted clock that is less than 1 s off by a slew and is
DONE, and otherwise announces a step to the given time; 0x0402 of an offset whose sum with the slew is less than 1 s slews and
is DONE, and otherwise announces a step by the sum; 0x0403 announces a step of one hour. With a bus as source each of them is
FAULT 1 and moves nothing. 0x0404 sets SRC and MASTER and moves no time; 0x0405 sets the trim that the next window uses. Each
leaves the porch queue; a command that announces a step has no marker before its edge. The slices stay but for checkpoint
marks. Completes: SET_HOUSE_TIME, ADJUST_HOUSE_TIME, HOUR_SHIFT, TIME_SOURCE, RATE_TRIM. (R376, R460, R472, R473, R474) -/
def Obligations.TimeOpcodes : Prop :=
  ∀ (s : State) (x : Exec), porchReady s x →
    (s.srcPort = none →
      (∀ (n : Nat) (v : Int), v = ((x.u64 0 + n : Nat) : Int) * usFine → ∃ t, exec (.setHouseTime x n) s = .next t ∧
        x ∉ t.journal.porchQ ∧ slicesKept s t ∧ t.time.us = s.time.us ∧ t.time.frac = s.time.frac ∧
        (s.trusted = true → -secFine < v - s.fine → v - s.fine < secFine →
          t.time.slew = v - s.fine ∧ t.time.pend = s.time.pend ∧ t.porchMarker x.lseq = some (resDone, 0, 0)) ∧
        (s.trusted = false ∨ v - s.fine ≤ -secFine ∨ secFine ≤ v - s.fine →
          t.time.slew = 0 ∧ t.porchMarker x.lseq = none ∧
          t.time.pend = s.time.pend ++ [{ offset := v - s.fine - pendSum s, alarm := s.trusted, trust := true,
                                          lseq := some x.lseq }])) ∧
      (∀ o : Int, o = s.time.slew + x.i32 0 * usFine → ∃ t, exec (.adjustHouseTime x) s = .next t ∧
        x ∉ t.journal.porchQ ∧ slicesKept s t ∧ t.time.us = s.time.us ∧ t.time.frac = s.time.frac ∧
        (-secFine < o → o < secFine →
          t.time.slew = o ∧ t.time.pend = s.time.pend ∧ t.porchMarker x.lseq = some (resDone, 0, 0)) ∧
        (o ≤ -secFine ∨ secFine ≤ o → t.time.slew = 0 ∧ t.porchMarker x.lseq = none ∧
          t.time.pend = s.time.pend ++ [{ offset := o, alarm := true, lseq := some x.lseq }])) ∧
      (∃ t, exec (.hourShift x) s = .next t ∧ x ∉ t.journal.porchQ ∧ slicesKept s t ∧ t.porchMarker x.lseq = none ∧
        ∃ q : PendStep, q.lseq = some x.lseq ∧ q.offset = (if x.byte 0 = 1 then 3600 * secFine else -3600 * secFine) ∧
          t.time = { s.time with pend := s.time.pend ++ [q] })) ∧
    (s.srcPort ≠ none → ∀ (i : Instr) (n : Nat), i ∈ [.setHouseTime x n, .adjustHouseTime x, .hourShift x] →
      ∃ t, exec i s = .next t ∧ x ∉ t.journal.porchQ ∧ slicesKept s t ∧ t.time = s.time ∧
        t.porchMarker x.lseq = some (resFault, 1, 0)) ∧
    (x.byte 0 < 3 → x.byte 1 < 4 → ∃ t, exec (.timeSource x) s = .next t ∧ x ∉ t.journal.porchQ ∧ slicesKept s t ∧
      t.pg F.PCH_TS_STAT_SRC = x.byte 0 ∧ t.pg F.PCH_TS_STAT_MASTER = x.byte 1 ∧ t.fine = s.fine ∧
      t.time.slew = s.time.slew ∧ t.time.pend = s.time.pend ∧ t.porchMarker x.lseq = some (resDone, 0, 0)) ∧
    (∃ t, exec (.rateTrim x) s = .next t ∧ x ∉ t.journal.porchQ ∧ slicesKept s t ∧
      t.time = { s.time with trim := x.i16 0 } ∧
      t.cellar = (if s.cellar.locked then s.cellar else { s.cellar with trimNext := x.i16 0 }) ∧
      t.porchMarker x.lseq = some (resDone, 0, 0))

/-- Executed by the porch: 0x0701 brings the module to the state named, keeps the former as PREV and is DONE, and of the present
state changes nothing; 0x0702 frees the slot of the source; 0x0703 sets GB_RETAIN; 0x0704 of a port that does not carry the
command sets FB_CFG and empties its queues, of one that carries it waits with the new FB_CFG; 0x7F02 forms and judges the result
word and records test, pass and result, with E-4F02 and FAULT on a failure; 0x7F03 posts its entry on the page named; 0x7F01 starts the module again with its
map, and replays the journal: E-1314 is told and acceptance open. Completes: MODULE_STATE, SOURCE_RELEASE,
JOURNAL_CONFIGURATION, BUS_PORT_CONFIGURATION, MODULE_RESET, BUILT_IN_TEST, TEST_ERROR. (R333, R346, R380, R381, R382, R414,
R569, R575) -/
def Obligations.ModuleOpcodes : Prop :=
  ∀ (s : State) (x : Exec), porchReady s x →
    (x.byte 0 ≤ 4 → x.byte 0 ≠ s.modst.state → ∃ t, exec (.moduleState x) s = .next t ∧ t.modst.state = x.byte 0 ∧
      t.modst.prev = s.modst.state ∧ t.modst.changes = satTo 16 (s.modst.changes + 1) ∧
      toldCode s t 0 (s.modst.state * 256 + x.byte 0) 0x1004 ∧ t.porchMarker x.lseq = some (resDone, 0, 0)) ∧
    (x.byte 0 = s.modst.state → ∃ t, exec (.moduleState x) s = .next t ∧ t.modst = s.modst ∧ slicesKept s t ∧
      t.porchMarker x.lseq = some (resDone, 0, 0)) ∧
    (∃ t, exec (.sourceRelease x) s = .next t ∧ t.porchMarker x.lseq = some (resDone, 0, 0) ∧ slicesKept s t ∧
      ∀ k, slotOf s (BitVec.ofNat 16 (x.u16 0)) = some k → smFind t.journal.slots k = none ∧
        ∀ e ∈ t.journal.book, e.final = true → e.slot ≠ k ∨ k = Config.slotCount) ∧
    (∃ t, exec (.journalConfiguration x) s = .next t ∧ t.pg F.PCH_DSP_CFG_GB_RETAIN = F.PCH_DSP_CFG_GB_RETAIN.fit (x.byte 0) ∧
      t.porchMarker x.lseq = some (resDone, 0, 0) ∧ slicesKept s t) ∧
    (∀ (i : Fin 2) (w : Word), i = (if x.byte 0 = 0 then 0 else 1) →
      w = portWord (x.byte 5) (x.byte 2) (x.byte 3) (x.byte 1) (x.byte 4) →
      ∃ t, exec (.busPortConfiguration x) s = .next t ∧ t.porchMarker x.lseq = some (resDone, 0, 0) ∧ slicesKept s t ∧
        (carriedBy s x.lseq ≠ some i → rfGet t.regs (R.FB_CFG.at i.val) = w ∧
          (t.port i).txq = [] ∧ (t.port i).rx = [] ∧ (t.port i).tec = 0 ∧ (t.port i).rec_ = 0) ∧
        (carriedBy s x.lseq = some i → rfGet t.regs (R.FB_CFG.at i.val) = rfGet s.regs (R.FB_CFG.at i.val) ∧
          ∃ a, t.port i = { s.port i with cfgNext := some (w, x.lseq, a) })) ∧
    (∀ (m w : Word) (pass : Bool), w = testWord s (x.byte 0) m → ∃ t, exec (.builtInTest x m pass) s = .next t ∧
      t.modst.bitPass = !testFails s (x.byte 0) w ∧
      t.modst.bitTest = x.byte 0 ∧ t.modst.bitRes = w ∧ t.modst.state = s.modst.state ∧
      t.isrBit 0 EVT.MOD_BIT = true ∧ (testFails s (x.byte 0) w = true → toldCode s t 0 (x.byte 0) 0x4F02) ∧
      t.porchMarker x.lseq = some (if testFails s (x.byte 0) w then (resFault, 1, w) else (resDone, 0, w))) ∧
    (∃ t, exec (.testError x) s = .next t ∧ told s t (s.physPage (x.u32 0)) (x.image 4) ∧
      t.porchMarker x.lseq = some (resDone, 0, 0) ∧ t.modst = s.modst ∧ slicesKept s t) ∧
    (∃ t n, exec (.moduleReset x) s = .next t ∧ t.journal.opened = true ∧ t.journal.replay = false ∧
      t.isrBit 2 EVT.DSP_REPLAYED = true ∧ toldCode s t 2 n 0x1314 ∧ t.map = s.map ∧ t.landing.entry = none ∧
      t.landing.state = 0)

/-- Executed by the porch: 0x0301 sets ILEN_NEXT, which counts from the next full hour, and leaves the length in force until then;
0x0302 of a SEQ above ACKED and not above the last SEQ acknowledges and drops the records up to it, VALUE ACKED; 0x0501 to
DOZE enters it with its timed wake, to another state opens an entry, and with an entry under way is FAULT 2; 0x0602 tests a
slice that serves no zone, VALUE the failing tests; 0x0603 marks each zone DONE, or FAULT 1 or 2; 0x0604 retires a slice
without zone; 0x0605 sets AUTO and MARGIN; 0x0606 of a bank in service is DONE and changes no bank, of one that is out returns
it where it passes and keeps it out, with FAULT 1, where it fails. Completes: INTERVAL_LENGTH, RECORD_ACKNOWLEDGE,
POWER_STATE_REQUEST, SLICE_SELF_TEST, HALLWAY_CALIBRATION, SLICE_MAP_CHANGE, REPAIR_POLICY, MRAM_BANK_RETURN. (R199, R210,
R375, R377, R378, R484, R487, R517) -/
def Obligations.PorchOpcodes : Prop :=
  ∀ (s : State) (x : Exec), porchReady s x →
    (∃ t, exec (.intervalLength x) s = .next t ∧ t.pg F.PCH_RS_CFG_ILEN_NEXT = F.PCH_RS_CFG_ILEN_NEXT.fit (x.byte 0) ∧
      t.pg F.PCH_RS_CFG_ILEN = F.PCH_RS_CFG_ILEN.fit (lenAt s (s.now / minuteUs)) ∧
      t.store = { s.store with ilenAt := (s.now / minuteUs / 60 + 1) * 60 } ∧ slicesKept s t ∧
      t.porchMarker x.lseq = some (resDone, 0, 0)) ∧
    (s.store.acked < x.u32 0 → x.u32 0 ≤ s.store.lastSeq → ∃ t, exec (.recordAcknowledge x) s = .next t ∧
      t.store.acked = x.u32 0 ∧ (∀ r ∈ t.store.recs, r ∈ s.store.recs ∧ x.u32 0 < r.seq) ∧
      t.porchMarker x.lseq = some (resDone, 0, BitVec.ofNat 32 (x.u32 0))) ∧
    (s.landing.entry = none → x.byte 0 = 1 → ∃ t, exec (.powerStateRequest x) s = .next t ∧ t.landing.state = 1 ∧
      t.cellar.timer = x.u32 4 ∧ t.porchMarker x.lseq = some (resDone, 0, 0)) ∧
    (s.landing.entry = none → x.byte 0 ≠ 1 → ∃ t e, exec (.powerStateRequest x) s = .next t ∧
      t.landing.entry = some e ∧ e.target = x.byte 0 ∧ e.wakeAfter = x.u32 4 ∧ e.lseq = x.lseq ∧
      t.landing.state = s.landing.state ∧ t.porchMarker x.lseq = none) ∧
    (s.landing.entry ≠ none → ∃ t, exec (.powerStateRequest x) s = .next t ∧ t.landing = s.landing ∧
      t.porchMarker x.lseq = some (resFault, 2, 0)) ∧
    (∀ (p : Phys) (bits : BitVec 11), namedSlice x = some p → s.zoneOf p = none →
      ∃ t, exec (.sliceSelfTest x bits) s = .next t ∧ t.g p F.ZW_SLC_TEST_RESULT = bits.toNat ∧
        t.gb p F.ZW_SLC_TEST_VALID = true ∧
        t.porchMarker x.lseq = some (if bits = 0 then (resDone, 0, 0) else (resFault, 1, bits.setWidth 32))) ∧
    (∀ l, (∀ z, x.names z = true → marked s x.lseq z.val = false) → ∃ t, exec (.hallwayCalibration x l) s = .next t ∧
      ∀ z, x.names z = true → ∃ m, t.zoneMarker x.lseq z = some m ∧
        (m.1 = resDone ∨ (m.1 = resFault ∧ (m.2.1 = 1 ∨ m.2.1 = 2)))) ∧
    (∀ (p : Phys) (bits : BitVec 11) (l : List TargetCheck), namedSlice x = some p → x.byte 1 = 0 → s.zoneOf p = none →
      (s.sl p).life ≠ .factoryOut → ∃ t, exec (.sliceMapChange x bits l) s = .next t ∧ (t.sl p).life = .retired ∧
        t.porchMarker x.lseq = some (resDone, 0, 0)) ∧
    (∃ t, exec (.repairPolicy x) s = .next t ∧ t.pb F.PCH_RM_POLICY_AUTO = decide (x.byte 0 = 1) ∧
      t.pg F.PCH_RM_POLICY_MARGIN = F.PCH_RM_POLICY_MARGIN.fit (x.byte 1) ∧
      t.porchMarker x.lseq = some (resDone, 0, 0)) ∧
    (∀ (pass : Bool) (l : List (Fin 8192)) (b : Fin 2), b = (if x.byte 0 = 0 then 0 else 1) →
      ((s.bank b).ok = true → ∃ t, exec (.mramBankReturn x pass l) s = .next t ∧
        (∀ k : Fin 2, (t.bank k).ok = (s.bank k).ok ∧ (t.bank k).spares = (s.bank k).spares ∧
          (t.bank k).remapped = (s.bank k).remapped) ∧ slicesKept s t ∧
        t.porchMarker x.lseq = some (resDone, 0, 0)) ∧
      ((s.bank b).ok = false → pass = true → l = [] → 8 ≤ (s.bank b).spares → ∃ t, exec (.mramBankReturn x pass l) s = .next t ∧
        (t.bank b).ok = true ∧ (t.bank (otherBank b)).ok = (s.bank (otherBank b)).ok ∧ t.isrBit 3 EVT.LD_BANK = true ∧
        slicesKept s t ∧ t.porchMarker x.lseq = some (resDone, 0, 0)) ∧
      ((s.bank b).ok = false → pass = false → ∃ t, exec (.mramBankReturn x pass l) s = .next t ∧
        (t.bank b).ok = false ∧ t.porchMarker x.lseq = some (resFault, 1, 0)))

/-- With an entry under way that waits for an answer: AGREE of a block asks the next one, a slice being checkpointed and
stopped; AGREE of the porch ends the entry in its target with the wake timer set; DELAY waits to be asked again, the fourth
aborts with cause 5; a refusal aborts with its page, cause 3 and REASON, E-1501 and ABORTS; no answer within 10 ms aborts
with cause 4 and E-4502; the retry asks again. Completes: HANDSHAKE_ANSWER, HANDSHAKE_TIMEOUT, HANDSHAKE_DELAY_RETRY. (R487, R488, R489, R492) -/
def Obligations.PowerHandshake : Prop :=
  ∀ (s : State) (e : PwrEntry) (b : Block) (rest : List Block) (v : Vote) (r : BitVec 8),
    s.landing.entry = some e → e.deferred = false → e.asking = b :: rest →
    (e.waiting = false →
      (∀ k, answerOf s b v r.toNat = (.agree, k) → b ≠ .porch → ∃ t e1, exec (.handshakeAnswer v r) s = .next t ∧
        t.landing.entry = some e1 ∧ e1.asking = rest ∧ e1.target = e.target ∧ e1.delays = 0 ∧ t.landing.log = s.landing.log ∧
        ∀ p, b = .slice p → (t.sl p).running = false ∧ ∃ c, (t.sl p).ckpt = some c ∧ c.time = s.slNow p) ∧
      (b = .porch → s.cellar.queue = [] → ∃ t, exec (.handshakeAnswer v r) s = .next t ∧ t.landing.entry = none ∧
        t.landing.state = e.target ∧ t.cellar.timer = e.wakeAfter) ∧
      (∀ k, answerOf s b v r.toNat = (.delay, k) → e.delays < 3 → ∃ t, exec (.handshakeAnswer v r) s = .next t ∧
        t.landing = { s.landing with entry := some { e with delays := e.delays + 1, waiting := true } } ∧
        t.slices = s.slices) ∧
      (∀ k, answerOf s b v r.toNat = (.delay, k) → 3 ≤ e.delays → ∃ t, exec (.handshakeAnswer v r) s = .next t ∧
        t.landing.entry = none ∧ toldCode s t 9 (blockPage b % 2 ^ 16) 0x1501 ∧
        t.landing.log.head? = some { page := blockPage b, cause := 5, reason := 6, stopped := e.stopped.length,
                                     target := e.target, time := s.now }) ∧
      (∀ k, answerOf s b v r.toNat = (.refuse, k) → ∃ t, exec (.handshakeAnswer v r) s = .next t ∧
        t.landing.entry = none ∧ toldCode s t 9 (blockPage b % 2 ^ 16) 0x1501 ∧ t.isrBit 9 EVT.PWR_ABORT = true ∧
        t.pg F.PWR_CNT_ABORTS = satTo 8 (s.pg F.PWR_CNT_ABORTS + 1) ∧
        t.landing.log.head? = some { page := blockPage b, cause := 3, reason := k, stopped := e.stopped.length,
                                     target := e.target, time := s.now }) ∧
      (∃ t, exec .handshakeTimeout s = .next t ∧ t.landing.entry = none ∧
        toldCode s t 9 (blockPage b % 2 ^ 16) 0x4502 ∧ toldCode s t 9 (blockPage b % 2 ^ 16) 0x1501 ∧
        t.landing.log.head? = some { page := blockPage b, cause := 4, reason := 7, stopped := e.stopped.length,
                                     target := e.target, time := s.now })) ∧
    (e.waiting = true → ∃ t, exec .handshakeDelayRetry s = .next t ∧ t.slices = s.slices ∧ t.cellar = s.cellar ∧
      t.landing = { s.landing with entry := some { e with waiting := false } })

/-- A deferred entry asks its blocks from the first one 100 ms after the boundary; an entry under way 50 ms before a boundary is
aborted with cause 6 on page 9: the first time it is deferred and started again, the second time it is over. Completes:
ENTRY_BOUNDARY_DEFER, ENTRY_BOUNDARY_ABORT. (R490) -/
def Obligations.EntryBoundary : Prop :=
  ∀ (s : State) (e : PwrEntry), s.landing.entry = some e →
    (e.deferred = true → ∃ t, exec .entryBoundaryDefer s = .next t ∧ t.slices = s.slices ∧
      t.landing = { s.landing with entry := some { e with deferred := false, asking := askList s, stopped := [] } }) ∧
    (e.deferred = false → ∃ t, exec .entryBoundaryAbort s = .next t ∧ toldCode s t 9 9 0x1501 ∧
      t.landing.log.head? = some { page := 9, cause := 6, reason := 8, stopped := e.stopped.length,
                                   target := e.target, time := s.now } ∧
      (e.aborts = 0 → ∃ f, t.landing.entry = some f ∧ f.deferred = true ∧ f.aborts = 1 ∧ f.asking = [] ∧
        f.stopped = [] ∧ f.target = e.target) ∧
      (e.aborts ≠ 0 → t.landing.entry = none))

/-- An enabled wake event in NAP, HIBERNATE (empty queue) is latched with its source, state and time, and the module is RUN
again; during an entry it is latched only; else it ends DOZE. The expiry of a set wake timer is such an event of source 6.
The oldest event is delivered once acceptance is open: it leaves the queue for the log with EVT.WAKE and E-1503.
Completes: WAKE_EVENT, WAKE_TIMER_EXPIRY, WAKE_EVENT_DELIVERY. (R493, R494, R495, R496) -/
def Obligations.WakeEvents : Prop :=
  ∀ (s : State) (src : WakeSrc) (bad : List Phys), s.supply.powered = true →
    (wakeEnabled s src = true → s.cellar.queue = [] →
      (s.landing.state = 2 ∨ s.landing.state = 3 → ∃ t, exec (.wakeEvent src bad) s = .next t ∧ t.landing.state = 0 ∧
        t.cellar.queue = [{ src := wakeCode src, state := s.landing.state, time := eventUs s }] ∧ t.cellar.timer = 0 ∧
        t.pg F.CLR_WAKE_CNT_WAKES = satTo 16 (s.pg F.CLR_WAKE_CNT_WAKES + 1)) ∧
      (s.landing.state ≤ 1 → s.landing.entry ≠ none → ∃ t, exec (.wakeEvent src bad) s = .next t ∧
        t.landing = s.landing ∧ t.slices = s.slices ∧
        t.cellar.queue = [{ src := wakeCode src, state := s.landing.state, time := eventUs s }] ∧
        t.pg F.CLR_WAKE_CNT_DURING = satTo 8 (s.pg F.CLR_WAKE_CNT_DURING + 1)) ∧
      (s.landing.state ≤ 1 → s.landing.entry = none → ∃ t, exec (.wakeEvent src bad) s = .next t ∧
        t.landing.state = 0 ∧ t.slices = (endDoze s).slices ∧ t.cellar.queue = [])) ∧
    (s.cellar.timer ≠ 0 → s.cellar.queue = [] → s.landing.state = 2 ∨ s.landing.state = 3 →
      ∃ t, exec (.wakeTimerExpiry bad) s = .next t ∧ t.landing.state = 0 ∧ t.cellar.timer = 0 ∧
        ∃ w, t.cellar.queue = [w] ∧ w.src = 6 ∧ w.state = s.landing.state) ∧
    (∀ w q, s.cellar.queue = w :: q → s.porchRuns = true → s.journal.opened = true → s.journal.replay = false →
      ∃ t, exec .wakeEventDelivery s = .next t ∧ t.cellar.queue = q ∧ t.cellar.wlog = s.cellar.wlog ++ [w] ∧
        t.slices = s.slices ∧ t.isrBit 0x43 EVT.WAKE_WAKE = true ∧ toldCode s t 0x43 w.src 0x1503)

/-- With the porch running, DIE_SENSOR_SAMPLE takes the three readings, judges each sensor, votes T_v with DISAGREE, and sets
the warning at 95 °C and clears it at 90 °C, sets the throttle at 105 °C and clears it at 100 °C, and shuts the zones off at 125 °C.
Completes: DIE_SENSOR_SAMPLE. (R504, R505) -/
def Obligations.DieSensors : Prop :=
  ∀ (s : State) (t1 t2 t3 : Int) (v : Vector DieSensor 3), s.porchRuns = true →
    v = #v[sensorStep s.thermal.sens[0] t1 t2 t3 (sampleMs s), sensorStep s.thermal.sens[1] t2 t1 t3 (sampleMs s),
      sensorStep s.thermal.sens[2] t3 t1 t2 (sampleMs s)] →
    ∃ t, exec (.dieSensorSample t1 t2 t3) s = .next t ∧ t.thermal.sens = v ∧ t.thermal.tv = (voted v).1 ∧
      t.thermal.disagree = (voted v).2 ∧
      (9500 ≤ (voted v).1 → t.thermal.warn = true) ∧ ((voted v).1 ≤ 9000 → t.thermal.warn = false) ∧
      (9000 < (voted v).1 → (voted v).1 < 9500 → t.thermal.warn = s.thermal.warn) ∧
      (10500 ≤ (voted v).1 → t.thermal.throttle = true) ∧ ((voted v).1 ≤ 10000 → t.thermal.throttle = false) ∧
      (12500 ≤ (voted v).1 → t.thermal.shut = true) ∧
      (s.thermal.warn = false → 9500 ≤ (voted v).1 → t.isrBit 0xA EVT.TH_WARN = true)

/-- A second missed heartbeat within an hour, a second uncorrectable word within a day, a failing column with no spare left, a
tripped regulator and a failed clock calibration fail the slice: FAILED with its cause, stopped, with the error of the table
on page 0 and CTX the slice. The first missed beat and the first uncorrectable word restart a serving slice; the scrub
counts the corrected words of 24 h and a column it can spare; the daily self-test of a spare shows its result, and one that
fails is FAILED. The other slices stay (checkpoint marks apart) but at a restart. Completes: HEARTBEAT_MISS,
SRAM_UNCORRECTABLE, SRAM_SCRUB, SLICE_REGULATOR_TRIP, SLICE_CLOCK_CALIBRATION_FAILED, SPARE_DAILY_SELF_TEST. (R515, R517) -/
def Obligations.SliceFaults : Prop :=
  ∀ (s : State) (p : Phys),
    (∀ (n : Nat) (i : Instr) (cause code : Nat),
      (i = .heartbeatMiss p ∧ cause = 2 ∧ code = 0x8802 ∧ (s.sl p).running = true ∧
        (recent s.now 3600000000 (s.sl p).misses).isEmpty = false) ∨
      (i = .sramUncorrectable p ∧ cause = 3 ∧ code = 0x8803 ∧ (s.sl p).running = true ∧
        (recent s.now dayUs (s.sl p).uncorr).isEmpty = false) ∨
      (i = .sramScrub p n true ∧ cause = 4 ∧ code = 0x8803 ∧ (s.sl p).running = true ∧
        s.g p F.ZW_G_SRAM_COLS_LEFT ≤ (s.sl p).badCols) ∨
      (i = .sliceRegulatorTrip p ∧ cause = 1 ∧ code = 0x8801 ∧ powered s p = true) ∨
      (i = .sliceClockCalibrationFailed p ∧ cause = 5 ∧ code = 0x8804 ∧ powered s p = true) →
      ∃ t, exec i s = .next t ∧ (t.sl p).life = .failed ∧ (t.sl p).cause = cause ∧ (t.sl p).running = false ∧
        toldCode s t (slicePage p 0) p.val code ∧ othersKept s t p ∧ t.map = s.map) ∧
    ((s.sl p).running = true → (s.zoneOf p).isSome = true →
      ((recent s.now 3600000000 (s.sl p).misses).isEmpty = true → ∃ t, exec (.heartbeatMiss p) s = .next t ∧
        (t.sl p).running = true ∧ (t.sl p).life = (s.sl p).life ∧ (t.sl p).misses = [s.now] ∧ (t.sl p).badCols = 0) ∧
      ((recent s.now dayUs (s.sl p).uncorr).isEmpty = true → ∃ t, exec (.sramUncorrectable p) s = .next t ∧
        (t.sl p).running = true ∧ (t.sl p).life = (s.sl p).life ∧ (t.sl p).uncorr = [s.now])) ∧
    ((s.sl p).running = true → ∀ n, ∃ t, exec (.sramScrub p n false) s = .next t ∧ othersKept s t p ∧
      (t.sl p).corr = recent s.now dayUs (s.sl p).corr ++ List.replicate n s.now ∧ (t.sl p).running = true ∧
      t.g p F.ZW_G_SRAM_CORR = satTo 16 (t.sl p).corr.length ∧ t.coll = s.coll) ∧
    ((s.sl p).running = true → (s.sl p).badCols < s.g p F.ZW_G_SRAM_COLS_LEFT → ∀ n, ∃ t,
      exec (.sramScrub p n true) s = .next t ∧ othersKept s t p ∧ (t.sl p).badCols = (s.sl p).badCols + 1 ∧
      (t.sl p).life = (s.sl p).life) ∧
    (s.porchRuns = true → (s.sl p).life = .spare → ∀ bits : BitVec 11, ∃ t,
      exec (.spareDailySelfTest p bits) s = .next t ∧ othersKept s t p ∧ t.g p F.ZW_SLC_TEST_RESULT = bits.toNat ∧
      t.gb p F.ZW_SLC_TEST_VALID = true ∧ t.gb p F.ZW_SLC_TEST_FULL = true ∧
      (t.sl p).life = if bits = 0 then .spare else .failed)

/-- REPAIR_START with AUTO, and MIGRATE_ZONE at the head of the porch queue, with no repair under way and a target that passes its
checks, put the repair under way with the target MOVING; a failed slice whose zone has no good checkpoint is declined. MIGRATION_HOLD of
a prepared repair commits the map, the target SERVING, with E-1E01; while the hold is not allowed it changes nothing. Completes:
REPAIR_START, MIGRATE_ZONE, MIGRATION_HOLD. (R519, R520, R521, R522, R523, R378) -/
def Obligations.RepairAndMigration : Prop :=
  (∀ (s : State) (z : Zone) (k : Phys) (l : List TargetCheck), s.porchRuns = true → s.pb F.PCH_RM_POLICY_AUTO = true →
    s.modst.state ≠ 0 → s.upkeep.repair = none → group6Runs s = false →
    (((s.sl (s.sliceOf z)).life = .failed ∧ s.ckptOf (s.sliceOf z) ≠ none) ∨
      ((s.sl (s.sliceOf z)).life = .serving ∧ s.gb (s.sliceOf z) F.ZW_STAT_WORN = true)) →
    chooseTarget s z none = .inl k → (l.getD 0 {}).test &&& quickMask = 0 → (l.getD 0 {}).pathOk = true →
    ∃ t r, exec (.repairStart z l) s = .next t ∧ t.upkeep.repair = some r ∧ r.zone = z ∧ r.old = s.sliceOf z ∧
      r.target = k ∧ r.planned = decide ((s.sl (s.sliceOf z)).life = .serving) ∧ r.held = !r.planned ∧
      (t.sl k).life = .moving ∧ t.map = s.map) ∧
  (∀ (s : State) (z : Zone) (l : List TargetCheck), s.porchRuns = true → s.pb F.PCH_RM_POLICY_AUTO = true →
    s.modst.state ≠ 0 → s.upkeep.repair = none → group6Runs s = false →
    (s.sl (s.sliceOf z)).life = .failed → s.ckptOf (s.sliceOf z) = none →
    ∃ t, exec (.repairStart z l) s = .next t ∧ t.upkeep.repair = none ∧ z ∈ t.upkeep.declined ∧
      toldCode s t 0x10 z.val 0xCE03 ∧ t.map = s.map) ∧
  (∀ (s : State) (x : Exec) (z : Zone) (k : Phys) (l : List TargetCheck), porchReady s x → x.zones = [z] →
    s.upkeep.repair = none → ((s.sl (s.sliceOf z)).life = .serving ∨ s.ckptOf (s.sliceOf z) ≠ none) →
    (if h : x.byte 0 < 68 then chooseTarget s z (some ⟨x.byte 0, h⟩) else chooseTarget s z none) = .inl k →
    (l.getD 0 {}).test &&& quickMask = 0 → (l.getD 0 {}).pathOk = true →
    ∃ t r, exec (.migrateZone x l) s = .next t ∧ t.upkeep.repair = some r ∧ r.zone = z ∧ r.old = s.sliceOf z ∧
      r.target = k ∧ r.lseq = x.lseq ∧ r.planned = decide ((s.sl (s.sliceOf z)).life = .serving) ∧ t.map = s.map ∧
      x ∉ t.journal.porchQ) ∧
  (∀ (s : State) (r : Repair) (l : List TargetCheck), s.porchRuns = true → s.upkeep.repair = some r →
    (s.sl r.target).life = .moving →
    ((s.sl r.old).life = .failed ∨ r.planned = false ∨ holdAllowed s r = true → ∃ t,
      exec (.migrationHold l) s = .next t ∧ t.sliceOf r.zone = r.target ∧ (∀ z, z ≠ r.zone → t.sliceOf z = s.sliceOf z) ∧
      (t.sl r.target).life = .serving ∧ t.upkeep.repair = none ∧
      (s.thermal.shut = false → (t.sl r.target).running = true) ∧
      toldCode s t 0x10 (r.zone.val * 256 + r.target.val) 0x1E01) ∧
    ((s.sl r.old).life ≠ .failed → r.planned = true → holdAllowed s r = false →
      exec (.migrationHold l) s = .next s))

/-- A recalibrated path of a free spare holds its measurement, unusable where a switch is out of limits; a path more than 30
days old is aged once with E-4701; an MRAM scrub of a good row changes nothing, the first two corrections of a row within 30 days
are kept, a bad copy that no CRC shows is noted, an uncorrectable row is remapped with E-4E05 where the other bank works and
holds its items, a bank without spare rows or with a row bad in both is out with E-8E06, and items lost with the row lead to
RECOVERY; the collector's buffer is
written to its log; a second of a powered slice adds its stress; the gauges show what was measured; a lost engine leaves one
fewer and abandons a repair, and the last to RECOVERY. Completes: PATH_RECALIBRATION, PATH_EXPIRY, MRAM_SCRUB,
COLLECTOR_FLUSH, STRESS_ACCUMULATE, WEAR_EVALUATION, ENGINE_TAKEOVER. (R24, R348, R513, R514, R527, R528, R530, R531, R533, R536, R541) -/
def Obligations.UpkeepWork : Prop :=
  ∀ (s : State), s.porchRuns = true →
    (∀ m : PathMeas, freeSpare s m.spare = true → ∃ t, exec (.pathRecalibration m) s = .next t ∧ t.slices = s.slices ∧
      t.path (pathOf m.zone m.spare) = { r25 := m.r25, alpha := m.alpha, time := s.now, done := true,
                                         unusable := !switchesGood m.r25 } ∧ t.isrBit 0x51 EVT.HCAL_CAL = true) ∧
    (∀ (z : Zone) (k : Fin 4), (s.path (pathOf z k)).done = true → (s.path (pathOf z k)).aged = false →
      (s.path (pathOf z k)).time + 30 * dayUs < s.now → ∃ t, exec (.pathExpiry z k) s = .next t ∧
        t.path (pathOf z k) = { s.path (pathOf z k) with aged := true } ∧ t.slices = s.slices ∧
        toldCode s t 0x51 (pathOf z k) 0x4701) ∧
    (∀ (b : Fin 2) (row : Fin 8192), (s.bank b).ok = true →
      (∃ t, exec (.mramScrub b row .clean) s = .next t ∧ t.upkeep = s.upkeep ∧ t.slices = s.slices) ∧
      ((recent s.now (30 * dayUs) ((smFind (s.bank b).corr row.val).getD [])).length < 2 → ∃ t,
        exec (.mramScrub b row .corrected) s = .next t ∧ (t.bank b).spares = (s.bank b).spares ∧
        (t.bank (otherBank b)) = s.bank (otherBank b) ∧ smFind (t.bank b).corr row.val =
          some (recent s.now (30 * dayUs) ((smFind (s.bank b).corr row.val).getD []) ++ [s.now])) ∧
      (∀ l : List DurItem, ∃ t, exec (.mramScrub b row (.missed l)) s = .next t ∧
        t.bank b = l.foldl Bank.spoil (s.bank b) ∧ t.bank (otherBank b) = s.bank (otherBank b) ∧ t.coll = s.coll ∧
        t.slices = s.slices) ∧
      (∀ l : List DurItem, (s.bank (otherBank b)).ok = true → (∀ d ∈ l, (s.bank (otherBank b)).holds d = true) → ∃ t,
        exec (.mramScrub b row (.uncorrectable l)) s = .next t ∧ t.bank (otherBank b) = s.bank (otherBank b) ∧
        t.modst = s.modst ∧ t.slices = s.slices ∧
        ((s.bank b).spares ≠ 0 → (t.bank b).ok = true ∧ (t.bank b).spares = (s.bank b).spares - 1 ∧
          row.val ∈ (t.bank b).remapped ∧ toldCode s t 0xF (b.val * 2 ^ 15 + row.val) 0x4E05) ∧
        ((s.bank b).spares = 0 → (t.bank b).ok = false ∧ toldCode s t 0xF b.val 0x8E06)) ∧
      (∀ l : List DurItem, ∃ t, exec (.mramScrub b row (.bothBad l)) s = .next t ∧ (t.bank b).ok = false ∧
        toldCode s t 0xF b.val 0x8E06 ∧ (t.bank (otherBank b)).ok = (s.bank (otherBank b)).ok ∧
        (l = [] → t.modst = s.modst) ∧ (l ≠ [] → t.modst.state = 4))) ∧
    (∃ t, exec .collectorFlush s = .next t ∧ t.coll.log = appendLog s.coll.log s.coll.buf ∧ t.coll.lost = 0 ∧
      t.slices = s.slices ∧ (s.coll.lost = 0 → t.coll.buf = []) ∧
      (s.coll.lost ≠ 0 → ∃ x, t.coll.buf = [x] ∧ x.page = 1 ∧ x.entry = entryOf (satTo 16 s.coll.lost) 0x4E09)) ∧
    (∀ (p : Phys) (q : Rat), powered s p = true → ∃ t, exec (.stressAccumulate p q) s = .next t ∧ othersKept s t p ∧
      (t.sl p).stress = (s.sl p).stress + stressFactor q / 3600) ∧
    (∀ (w : List SliceGauges) (cap esr : Nat), ∃ t, exec (.wearEvaluation w cap esr) s = .next t ∧ t.map = s.map ∧
      t.pg F.PCH_CELL_CAP = satTo 8 cap ∧ t.pg F.PCH_CELL_ESR = satTo 8 esr ∧
      ((w.map (fun g => g.p)).Nodup → ∀ g ∈ w, t.gi g.p F.ZW_G_RO_SHIFT = satSigned 16 g.shift ∧
        t.g g.p F.ZW_G_REG_MARGIN = satTo 16 g.margin)) ∧
    (∀ role, ∃ t, exec (.engineTakeover role) s = .next t ∧ t.upkeep.engines = s.upkeep.engines - 1 ∧
      t.upkeep.repair = none ∧ (s.upkeep.engines = 5 → t.journal.takeLeft ≤ 5000) ∧
      (s.upkeep.engines ≠ 5 → t.modst.state = 4))

/-- INBOX_HANDOVER places a waiting command in every running, unmoved slice with room; FINAL_RESULT_WRITE stores RESULT, REASON
and VALUE formed from the markers in the guestbook entry and the command runs no longer; CHECKPOINT writes the zone's state
and keeps the former one; METER_POSTING posts the accumulators, the cycle under way booked, and keeps the former
posting; an accepted NO_OPERATION is executed and completes DONE with VALUE its LSEQ. Completes: INBOX_HANDOVER,
FINAL_RESULT_WRITE, CHECKPOINT, METER_POSTING, NO_OPERATION. (R35, R166, R329, R338, R344, R382) -/
def Obligations.JournalWork : Prop :=
  (∀ (s : State) (h : Handing) (rest : List Handing) (lseq : Nat), s.journal.handover = h :: rest → h.x.lseq ≤ lseq →
    ∃ t, exec (.inboxHandover lseq) s = .next t ∧ (∀ p, t.z p = s.z p) ∧ t.journal.larder = s.journal.larder ∧
      ∀ z : Zone, h.left.getLsbD z.val = true → (s.sl (s.sliceOf z)).running = true → s.movingZone z = false →
        (s.sl (s.sliceOf z)).inbox.length < Config.inboxSize → (∀ y, s.sliceOf y = s.sliceOf z → y = z) →
        h.x ∈ (t.sl (s.sliceOf z)).inbox) ∧
  (∀ (s : State) (lseq : Nat), hasFinal s lseq = true → (s.runningOf lseq).isSome = true →
    ∃ t, exec (.finalResultWrite lseq) s = .next t ∧ t.runningOf lseq = none ∧
      ∀ e ∈ t.journal.book, e.lseq = lseq → e.final = true ∧ e.result = (finalOf (markersOf s lseq)).1 ∧
        e.reason = (finalOf (markersOf s lseq)).2.1 ∧ e.value = (finalOf (markersOf s lseq)).2.2.1 ∧
        e.fmask = (finalOf (markersOf s lseq)).2.2.2) ∧
  (∀ (s : State) (p : Phys), (s.sl p).running = true →
    (∃ t, exec (.checkpoint p) s = .next t ∧
      (t.sl p).ckpt = some { time := s.slNow p, base := (s.sl p).time.base, zone := (finishMeter s p).z p } ∧
      (t.sl p).ckptOld = s.ckptOf p ∧ t.z p = s.z p ∧ othersKept s t p) ∧
    (∃ t x, exec (.meterPosting p) s = .next t ∧ (t.sl p).posting = some x ∧ x.time = s.slNow p ∧
      x.acc = ((finishMeter s p).mt p).acc ∧ (t.sl p).postingOld = s.postingOf p ∧
      (t.mt p).acc = (s.mt p).acc ∧ (t.mt p).secT = 0 ∧ othersKept s t p)) ∧
  (∀ (s : State) (path : Path) (source : BitVec 16) (seq : BitVec 32) (payload : List Byte), s.porchRuns = true →
    s.journal.replay = false → s.journal.takeover = false → s.modst.state ≤ 4 → s.journal.porchQ = [] →
    source ≠ 0 → source ≠ 0xFFFF → seq ≠ 0 → payload.length ≤ 1020 → bookEntry s source seq.toNat = none →
    (∀ h, hwmOf s source = some h → h < seq.toNat) → ((slotOf s source).isSome = true ∨ (freeSlotNo s).isSome = true) →
    larderRoom s payload.length = true → bookRoom s = true → s.runningOf s.journal.next = none →
    markersOf s s.journal.next = [] → max 8 s.journal.ahead + commitMost s ≤ acceptLimit s → s.draughtPages = 0 →
    ∃ t e, exec (.noOperation path source seq payload) s = .next t ∧ e ∈ t.journal.book ∧ e.seq = seq.toNat ∧
      e.lseq = s.journal.next ∧ e.final = true ∧ e.result = resDone ∧ e.value = BitVec.ofNat 32 s.journal.next ∧
      t.runningOf s.journal.next = none ∧ t.journal.porchQ = [] ∧ t.modst = s.modst)

/-- A TICK form at the head of the inbox of the slice that serves its one zone is applied at TICK: its mode commands the zone,
it has left the inbox, its zone reports to the census, and under LEAVE_MIXED the zone's DONE marker is written. CENSUS finds
the zones that have not applied: under LEAVE_MIXED they are MISSED with E-4505; under ALL_OR_NONE every zone is DONE where
none is missing, else FAULT 2 with E-4506. A retry hands it again to the stragglers; the final completes those still missing
with FAULT 1. Completes: TICK_APPLY, CENSUS, CENSUS_RETRY, CENSUS_FINAL. (R368, R501, R502, R503) -/
def Obligations.TickFormsAndCensus : Prop :=
  (∀ (s : State) (x : Exec) (z : Zone) (p : Phys) (rest : List Exec), p = s.sliceOf z → s.zoneOf p = some z →
    (s.sl p).running = true → x.zones = [z] → isTickForm x = true → x.u64 4 ≤ s.now → (s.sl p).inbox = x :: rest →
    (∀ y ∈ rest, x.lseq < y.lseq) → markersOf s x.lseq = [] → s.journal.handover = [] →
    (∀ u, (s.lp p).tune = some u → u.lseq ≠ x.lseq) → (∃ r, s.runningOf x.lseq = some r ∧ r.x = x ∧ r.internal = false) →
    ∃ t, exec (.tickApply z x.lseq) s = .next t ∧ hasTaken s t x p ∧ (t.lp p).cmd = x.byte 0 ∧
      (x.byte 1 ≠ 1 → t.zoneMarker x.lseq z = some (resDone, 0, 0)) ∧
      (x.byte 1 = 1 → t.zoneMarker x.lseq z = none) ∧
      ∀ c, s.censusOf x.lseq = some c → c.taken = false → ∃ d, t.censusOf x.lseq = some d ∧ bitOf d.applied z.val = true) ∧
  (∀ (s : State) (c : Census) (lseq : Nat) (l : List Zone), s.censusOf lseq = some c → c.taken = false →
    l = (zonesOf c.zmask).filter (fun z => !bitOf c.applied z.val) →
    (c.allNone = false → l = [] → ∃ t, exec (.census lseq) s = .next t ∧ t.censusOf lseq = none ∧
      t.isrBit 9 EVT.PWR_CENSUS = true ∧ t.slices = s.slices ∧ t.coll = s.coll) ∧
    (c.allNone = false → l ≠ [] → ∃ t d, exec (.census lseq) s = .next t ∧ t.censusOf lseq = some d ∧ d.taken = true ∧
      zonesOf d.missed = l ∧ t.pb F.PWR_CEN_STAT_MIXED = true ∧ toldCode s t 9 l.length 0x4505 ∧ t.slices = s.slices) ∧
    (c.allNone = true → ∃ t, exec (.census lseq) s = .next t ∧ t.censusOf lseq = none ∧
      (l ≠ [] → toldCode s t 9 l.length 0x4506) ∧
      ∀ r z, s.runningOf lseq = some r → r.internal = false → z ∈ zonesOf c.zmask → marked s lseq z.val = false →
        t.zoneMarker lseq z = some (if l = [] then (resDone, 0, 0) else (resFault, 2, 0)))) ∧
  (∀ (s : State) (c : Census) (r : Running) (lseq : Nat), s.censusOf lseq = some c → s.runningOf lseq = some r →
    c.taken = true → c.allNone = false → r.internal = false →
    (c.retries < 3 → isTickForm r.x = true → r.x.byte 1 ≠ 1 → r.x.u64 4 ≤ s.now → s.journal.handover = [] →
      ∃ t d, exec (.censusRetry lseq) s = .next t ∧ t.censusOf lseq = some d ∧ d.retries = c.retries + 1 ∧
        ∀ z ∈ zonesOf c.missed, s.zoneOf (s.sliceOf z) = some z → (s.sl (s.sliceOf z)).running = true →
          s.movingZone z = false → (s.sl (s.sliceOf z)).inbox = [] → marked s lseq z.val = false →
          (t.lp (s.sliceOf z)).cmd = r.x.byte 0 ∧ bitOf d.late z.val = true) ∧
    (∃ t, exec (.censusFinal lseq) s = .next t ∧ t.censusOf lseq = none ∧
      ∀ z ∈ zonesOf c.missed, marked s lseq z.val = false → t.zoneMarker lseq z = some (resFault, 1, 0)))

/-- At its boundary by its own house time, with the store on, nothing waiting or merged and no zone below it due, the open
interval of a running slice is closed and the next one opens: a chain of records is appended with the next sequence numbers
and the remainders are carried; where the chain does not fit the interval goes on merged with E-8302; where a meter cycle
straddles the boundary the closed interval waits for its end. Before its boundary, and in FACTORY, nothing happens. The
porch closes the interval of a dark slice from its checkpoint, flagged OUTAGE, or merges it. A new ILEN takes effect; a
window copy done shows the records from the request on. Completes: INTERVAL_CLOSE, ILEN_TAKE_EFFECT, WINDOW_COPY_DONE.
(R38, R199, R200, R203, R204, R206, R207, R571) -/
def Obligations.IntervalsAndRecords : Prop :=
  ∀ (s : State),
    (∀ (z : Zone) (p : Phys) (b : Nat) (c : Closing) (q : Vector Nat 7), s.storeOn = true → s.store.merged = 0 →
      s.store.wait = [] → p = s.sliceOf z → (s.sl p).running = true → (s.z p).ival.opened = true →
      (s.z p).ival.merged = false → (s.z p).ival.bound * minuteUs ≤ s.slNow p →
      (∀ y : Zone, y < z → closeZone s y (s.slNow p) = s) →
      b = max (s.z p).ival.bound (boundAt s (s.slNow p)) →
      c = closingOf s p z ((s.z p).ival.bound - (s.z p).ival.start) b [] → q = quotients c.iv c.ends →
      ((cutAtBound s p).2 = false → fits s q = true → ∃ t, exec (.intervalClose z) s = .next t ∧
        t.store.lastSeq = s.store.lastSeq + chainLength q ∧ t.store.wait = [] ∧
        t.store.recs = s.store.recs ++ (List.range (chainLength q)).map (fun k => {
          seq := s.store.lastSeq + 1 + k, words := recWords z c.iv (min c.len 65535) (closeFlags c).toNat
            (synthUnits c.synth) q k }) ∧
        (t.z p).ival = { c.nxt with carry := carries c.iv c.ends } ∧ (t.z p).ival.opened = true ∧
        (t.z p).ival.start = b ∧ (t.mt p).pairs = 0 ∧ t.isrBit 4 EVT.RS_NEW = true ∧ othersKept s t p) ∧
      ((cutAtBound s p).2 = false → fits s q = false → ∃ t, exec (.intervalClose z) s = .next t ∧
        t.store.recs = s.store.recs ∧ t.store.lastSeq = s.store.lastSeq ∧ (t.z p).ival.merged = true ∧
        (t.z p).ival.bound = b + lenAt s b ∧ (t.z p).ival.start = (s.z p).ival.start ∧
        t.store.merged.getLsbD z.val = true ∧ toldCode s t 4 0 0x8302 ∧ othersKept s t p) ∧
      ((cutAtBound s p).2 = true → ∃ t, exec (.intervalClose z) s = .next t ∧ t.store.recs = s.store.recs ∧
        t.store.lastSeq = s.store.lastSeq ∧ t.store.wait = [c] ∧ (t.z p).ival = c.nxt ∧ othersKept s t p)) ∧
    (∀ (z : Zone), s.storeOn = false → exec (.intervalClose z) s = .next s) ∧
    (∀ (z : Zone) (p : Phys), p = s.sliceOf z → (s.sl p).running = true →
      (s.z p).ival.opened = false ∨ s.slNow p < (s.z p).ival.bound * minuteUs → exec (.intervalClose z) s = .next s) ∧
    (∀ (z : Zone) (p : Phys) (c : Ckpt) (q : Vector Nat 7), s.storeOn = true → s.store.merged = 0 → s.store.wait = [] →
      p = s.sliceOf z → (s.sl p).running = false → s.ckptOf p = some c → smFind s.store.after z.val = none →
      s.postingOf p = none → c.zone.ival.opened = true → c.zone.ival.bound * minuteUs ≤ s.now →
      (∀ y : Zone, y < z → closeZone s y s.now = s) →
      q = quotients c.zone.ival (countsOf c.zone.meter.acc c.zone.heat.acc) →
      (fits s q = true → ∃ t k r, exec (.intervalClose z) s = .next t ∧ (t.sl p).ckpt = some k ∧
        k.zone.ival.opened = false ∧ t.store.lastSeq = s.store.lastSeq + chainLength q ∧ r ∈ t.store.recs ∧
        r.seq = s.store.lastSeq + 1 ∧ (r.words[1]).getLsbD flOutage = true ∧ othersKept s t p) ∧
      (fits s q = false → ∃ t k, exec (.intervalClose z) s = .next t ∧ (t.sl p).ckpt = some k ∧
        k.zone.ival.opened = true ∧ k.zone.ival.merged = true ∧ t.store.recs = s.store.recs ∧
        t.store.merged.getLsbD z.val = true ∧ toldCode s t 4 0 0x8302 ∧ othersKept s t p)) ∧
    (∃ t, exec .ilenTakeEffect s = .next t ∧ t.pg F.PCH_RS_CFG_ILEN = s.pg F.PCH_RS_CFG_ILEN_NEXT ∧
      t.pg F.PCH_RS_CFG_ILEN_NEXT = s.pg F.PCH_RS_CFG_ILEN_NEXT ∧ t.store = s.store ∧ t.slices = s.slices) ∧
    (s.store.winBusy = true → ∃ t, exec .windowCopyDone s = .next t ∧ t.store.winBusy = false ∧
      t.store.winValid = true ∧ t.store.winFirst = max s.store.winReq (s.store.acked + 1) ∧
      t.store.win = (s.store.recs.filter (fun x => decide (max s.store.winReq (s.store.acked + 1) ≤ x.seq) &&
        decide (x.seq ≤ s.store.winTail))).take 378 ∧
      t.store.recs = s.store.recs ∧ t.slices = s.slices ∧ t.isrBit 4 EVT.RS_WIN_READY = true)

/-- A power-loss warning of a powered module leaves every slice stopped with its outputs off, the rail off and acceptance closed,
with its cause; once acceptance was open, with no command in flight, no interval waiting and no entry under way, E-8508 is in
the log (where its buffer had room) and every running slice has posted its meter. VIN within 16.5 … 36 V but out of
18 … 32 V is RANGE with E-450A. A start-up of a module not started opens acceptance, in RECOVERY below 60 µF, unless the
hold-up did not charge: then HOLDUP_TIMEOUT opens it, in RECOVERY below 60 µF. PRECHARGE charges the input of an unpowered
module. Completes: POWER_LOSS_WARNING, SUPPLY_OUT_OF_RANGE, START_UP, HOLDUP_TIMEOUT, PRECHARGE. (R43, R552, R553, R554, R557) -/
def Obligations.SupplyAndStart : Prop :=
  ∀ (s : State),
    (s.supply.powered = true → ∀ w : Warning, ∃ t, exec (.powerLossWarning w) s = .next t ∧
      t.supply.powered = false ∧ t.supply.started = false ∧ t.supply.railOn = false ∧ t.supply.cause = warnCode w.cause ∧
      t.journal.opened = false ∧ t.journal.replay = true ∧ (∀ p, (t.sl p).running = false) ∧
      (∀ p j, (t.out p j).applied = 0 ∧ (t.out p j).held = false) ∧
      (s.journal.opened = true → s.porchRuns = true → s.landing.entry = none → w.flight = none → s.store.wait = [] →
        (s.coll.buf.length < 64 → ∃ x ∈ t.coll.log, x.page = 9 ∧ x.entry = entryOf (warnCode w.cause) 0x8508) ∧
        ∀ p, (s.sl p).running = true → ∃ x, (t.sl p).posting = some x ∧ x.time = s.slNow p)) ∧
    (s.supply.powered = true → ∀ vin : Nat,
      (18000 ≤ vin → vin ≤ 32000 → exec (.supplyOutOfRange vin) s =
        .next { s with supply := { s.supply with vin := vin, range := false } }) ∧
      (16500 ≤ vin → vin ≤ 36000 → vin < 18000 ∨ 32000 < vin → ∃ t, exec (.supplyOutOfRange vin) s = .next t ∧
        t.supply.vin = vin ∧ t.supply.range = true ∧ t.slices = s.slices ∧
        (s.supply.range = false → toldCode s t 9 (vin / 100) 0x450A))) ∧
    (s.supply.powered = false ∨ s.supply.started = false ∨ s.landing.state = 4 → ∀ x : StartInfo, ∃ t,
      exec (.startUp x) s = .next t ∧ t.supply.started = true ∧ t.supply.capUf = x.capUf ∧
      (x.capUf ≠ 0 → t.journal.opened = true ∧ t.journal.replay = false ∧ t.supply.charging = false) ∧
      (x.capUf ≠ 0 → x.capUf < 60 → t.modst.state = 4) ∧
      (x.capUf = 0 → t.journal.opened = false ∧ t.supply.charging = true)) ∧
    (s.supply.started = true → s.supply.charging = true → s.journal.opened = false → ∃ t,
      exec .holdupTimeout s = .next t ∧ t.journal.opened = true ∧ t.supply.charging = false ∧
      (s.supply.capUf < 60 → t.modst.state = 4 ∧ toldCode s t 9 s.supply.capUf 0x8509)) ∧
    (s.supply.powered = false → exec .precharge s =
      .next { s with supply := { s.supply with precharged := true } })

/-- On a running slice: a good humidity measurement shows CAP, LEAK and RH of R89, a bad one is withheld until the third in a
row, which declares the sensor broken with E-8930 + cause - 1; an input with S = 0 takes none. A raw edge of PRD shows the
active level and starts the filter; a reversal counts as one rejection of the last second. An edge that held is accepted and
counted; in CHATTER the accepted state stays; a break ends a stuck declaration. PRA shows its DC level; each crossing of the
threshold counts as one rejection, and an excursion that has lasted 100 ms is one motion event, which makes PRA active; 120 s
without one end that, not in CHATTER. A DC level outside 0.2 … 4.8 V is declared with E-8907, an input active for the stuck
time with E-4905. The other slices stay (checkpoint marks apart). Completes: HUMIDITY_UPDATE, PRD_RAW_EDGE, PRD_EDGE_ACCEPTED,
PRA_SAMPLE, PRA_INACTIVE, PRA_LEVEL_FAULT, PRESENCE_STUCK. (R88, R89, R90, R91, R93, R94, R95, R98) -/
def Obligations.HumidityAndPresence : Prop :=
  ∀ (s : State) (p : Phys), (s.sl p).running = true →
    (∀ cap leak : Nat, s.g p F.ZI_HUM_CFG_1_S = 0 → exec (.humidityUpdate p cap leak) s = .next s) ∧
    (∀ cap leak : Nat, s.g p F.ZI_HUM_CFG_1_S ≠ 0 → (s.z p).inp.humBroken = false →
      (humidityCause cap leak (humidityOf s p cap) = 0 → ∃ t, exec (.humidityUpdate p cap leak) s = .next t ∧
        othersKept s t p ∧ t.g p F.ZI_HUM_CAP_CAP = satTo 16 cap ∧ t.g p F.ZI_HUM_CAP_LEAK = satTo 16 leak ∧
        t.g p F.ZI_HUM_RH = F.ZI_HUM_RH.fit (Config.toUnits (clampRat 0 100 (humidityOf s p cap) * 100)).toNat ∧
        t.gb p F.ZI_STAT_HVALID = true ∧ (t.z p).inp.humBad = 0) ∧
      (humidityCause cap leak (humidityOf s p cap) ≠ 0 → (s.z p).inp.humBad < 2 → ∃ t,
        exec (.humidityUpdate p cap leak) s = .next t ∧ othersKept s t p ∧ t.g p F.ZI_HUM_RH = s.g p F.ZI_HUM_RH ∧
        (t.z p).inp.humBad = (s.z p).inp.humBad + 1 ∧ (t.z p).inp.humBroken = false ∧ t.coll = s.coll) ∧
      (humidityCause cap leak (humidityOf s p cap) ≠ 0 → 2 ≤ (s.z p).inp.humBad → ∃ t,
        exec (.humidityUpdate p cap leak) s = .next t ∧ othersKept s t p ∧ t.g p F.ZI_HUM_RH = 0xFFFF ∧
        t.gb p F.ZI_STAT_HVALID = false ∧ (t.z p).inp.humBroken = true ∧ t.isrBit (slicePage p 1) EVT.ZI_HUM_BRK = true ∧
        toldCode s t (slicePage p 1) 0 (0x892F + humidityCause cap leak (humidityOf s p cap)))) ∧
    (∀ level act : Bool, act = (level != s.gb p F.ZI_PRES_CFG_PRD_POL) → ∃ t, exec (.prdRawEdge p level) s = .next t ∧
      othersKept s t p ∧ t.gb p F.ZI_PRES_PRD_RAW = act ∧ t.gb p F.ZI_PRES_PRD_ACC = s.gb p F.ZI_PRES_PRD_ACC ∧
      (act ≠ (s.z p).inp.prdFilt → (t.z p).inp.prdPend = true) ∧
      (act = (s.z p).inp.prdFilt → (t.z p).inp.prdPend = false) ∧
      (act = (s.z p).inp.prdFilt → (s.z p).inp.prdPend = true →
        (t.z p).inp.prdChat.rejects = within1s (s.slUs p) (s.z p).inp.prdChat.rejects ++ [s.slUs p])) ∧
    ((s.z p).inp.prdPend = true → ∃ t, exec (.prdEdgeAccepted p) s = .next t ∧ othersKept s t p ∧
      (t.z p).inp.prdPend = false ∧ (t.z p).inp.prdFilt = s.gb p F.ZI_PRES_PRD_RAW ∧
      ((s.z p).inp.prdChat.on = false → t.gb p F.ZI_PRES_PRD_ACC = s.gb p F.ZI_PRES_PRD_RAW ∧
        (s.gb p F.ZI_PRES_PRD_RAW = true → t.g p F.ZI_PRES_CNT_ACT_CNT = satTo 16 (s.g p F.ZI_PRES_CNT_ACT_CNT + 1))) ∧
      ((s.z p).inp.prdChat.on = true → t.gb p F.ZI_PRES_PRD_ACC = s.gb p F.ZI_PRES_PRD_ACC) ∧
      (s.gb p F.ZI_PRES_PRD_RAW = false → (t.z p).inp.prdStuck = false)) ∧
    (∀ (dc : Nat) (band : Int) (ms : Nat) (high : Bool), high = decide (s.praThr p < band.natAbs) → ∃ t,
      exec (.praSample p dc band ms) s = .next t ∧ othersKept s t p ∧ t.g p F.ZI_PRES_PRA_DC = satTo 16 dc ∧
      (high ≠ (s.z p).inp.praHigh →
        (t.z p).inp.praChat.rejects = within1s (s.slUs p) (s.z p).inp.praChat.rejects ++ [s.slUs p]) ∧
      (high = true → (s.z p).inp.praHigh = true → (s.z p).inp.praOver < 100 → 100 ≤ (s.z p).inp.praOver + ms →
        (s.z p).inp.praChat.on = false → t.gb p F.ZI_PRES_PRA_ACT = true ∧ t.gb p F.ZI_PRES_PRA_MOTION = true ∧
        t.g p F.ZI_PRES_CNT_ACT_CNT = satTo 16 (s.g p F.ZI_PRES_CNT_ACT_CNT + 1)) ∧
      (high = false ∨ (s.z p).inp.praHigh = false ∨ 100 ≤ (s.z p).inp.praOver ∨ (s.z p).inp.praOver + ms < 100 →
        t.gb p F.ZI_PRES_PRA_ACT = s.gb p F.ZI_PRES_PRA_ACT)) ∧
    (∃ t, exec (.praInactive p) s = .next t ∧ othersKept s t p ∧ (t.z p).inp.praStuck = false ∧
      ((s.z p).inp.praChat.on = false → t.gb p F.ZI_PRES_PRA_ACT = false) ∧
      ((s.z p).inp.praChat.on = true → t.gb p F.ZI_PRES_PRA_ACT = s.gb p F.ZI_PRES_PRA_ACT)) ∧
    ((s.z p).inp.praBroken = false → praOut (s.g p F.ZI_PRES_PRA_DC) = true → ∃ t,
      exec (.praLevelFault p) s = .next t ∧ othersKept s t p ∧ (t.z p).inp.praBroken = true ∧
      toldCode s t (slicePage p 1) 1 0x8907) ∧
    ((s.z p).inp.praBroken = true ∨ praOut (s.g p F.ZI_PRES_PRA_DC) = false → exec (.praLevelFault p) s = .next s) ∧
    (stuckDue s p false = true → (s.z p).inp.prdStuck = false → ∃ t, exec (.presenceStuck p false) s = .next t ∧
      othersKept s t p ∧ (t.z p).inp.prdStuck = true ∧ t.gb p F.ZI_STAT_STUCK_PRD = true ∧
      t.g p F.ZI_PRES_CNT_STUCK_CNT = satTo 8 (s.g p F.ZI_PRES_CNT_STUCK_CNT + 1) ∧
      toldCode s t (slicePage p 1) 0 0x4905) ∧
    (stuckDue s p true = true → (s.z p).inp.praStuck = false → ∃ t, exec (.presenceStuck p true) s = .next t ∧
      othersKept s t p ∧ (t.z p).inp.praStuck = true ∧ t.gb p F.ZI_STAT_STUCK_PRA = true ∧
      t.g p F.ZI_PRES_CNT_STUCK_CNT = satTo 8 (s.g p F.ZI_PRES_CNT_STUCK_CNT + 1) ∧
      toldCode s t (slicePage p 1) 1 0x4905) ∧
    (∀ pra : Bool, stuckDue s p pra = false → exec (.presenceStuck p pra) s = .next s)

/-- On a running slice: CHATTER_CLEAR of an input in CHATTER ends its declaration, PRD showing its raw level; a rejected pulse
of FL, the tachometer or the encoder is one more rejection of the last second; a diagnosis window of a diagnosed input counts,
and stores the on ratio beside the off ratio where it is neither discarded nor of a broken input; the end of an off segment
turns the excitation on, and stores the off ratio in such a window. Without the diagnostic, and without an off segment, they
leave the state as it is. The other slices stay (checkpoint marks apart). Completes: CHATTER_CLEAR, INPUT_PULSE_REJECTED,
DIAG_WINDOW_END, DIAG_OFF_SEGMENT_END. (R94, R96, R97, R191, R297, R312) -/
def Obligations.ChatterAndDiagnosis : Prop :=
  ∀ (s : State) (p : Phys), (s.sl p).running = true →
    (∀ raw : Bool, (s.z p).inp.prdChat.on = true → ∃ t, exec (.chatterClear p .prd raw) s = .next t ∧ othersKept s t p ∧
      (t.z p).inp.prdChat.on = false ∧ t.gb p F.ZI_STAT_CHAT_PRD = false ∧
      t.gb p F.ZI_PRES_PRD_RAW = (raw != s.gb p F.ZI_PRES_CFG_PRD_POL) ∧
      t.gb p F.ZI_PRES_PRD_ACC = (raw != s.gb p F.ZI_PRES_CFG_PRD_POL)) ∧
    (∀ raw : Bool, (s.z p).inp.praChat.on = true → ∃ t, exec (.chatterClear p .pra raw) s = .next t ∧ othersKept s t p ∧
      (t.z p).inp.praChat.on = false ∧ t.gb p F.ZI_STAT_CHAT_PRA = false ∧ t.gb p F.ZI_PRES_PRA_ACT = false) ∧
    (∀ (n : Fin 2) (raw : Bool), ((s.ht p).fl[n]).chat.on = true → ∃ t, exec (.chatterClear p (.fl n) raw) s = .next t ∧
      othersKept s t p ∧ ((t.ht p).fl[n]).chat.on = false) ∧
    (∀ raw : Bool, (s.z p).outs.tach.on = true → ∃ t, exec (.chatterClear p .tach raw) s = .next t ∧ othersKept s t p ∧
      (t.z p).outs.tach.on = false ∧ t.gb p F.ZO_TACH_CHAT = false) ∧
    (∀ (k : Fin 16) (raw : Bool), (s.key p k).chat.on = true → ∃ t, exec (.chatterClear p (.key k) raw) s = .next t ∧
      othersKept s t p ∧ (t.key p k).chat.on = false ∧ (t.pn p).acc.getLsbD k.val = raw) ∧
    (∀ raw : Bool, (s.pn p).encChat.on = true → ∃ t, exec (.chatterClear p .encoder raw) s = .next t ∧ othersKept s t p ∧
      (t.pn p).encChat.on = false ∧ t.gb p F.ZK_STAT_ENC_CHAT = false) ∧
    (∀ n : Fin 2, ∃ t, exec (.inputPulseRejected p (.fl n)) s = .next t ∧ othersKept s t p ∧
      ((t.ht p).fl[n]).chat.rejects = within1s (s.slUs p) ((s.ht p).fl[n]).chat.rejects ++ [s.slUs p]) ∧
    (∃ t, exec (.inputPulseRejected p .tach) s = .next t ∧ othersKept s t p ∧
      (t.z p).outs.tach.rejects = within1s (s.slUs p) (s.z p).outs.tach.rejects ++ [s.slUs p]) ∧
    (∃ t, exec (.inputPulseRejected p .encoder) s = .next t ∧ othersKept s t p ∧
      (t.pn p).encChat.rejects = within1s (s.slUs p) (s.pn p).encChat.rejects ++ [s.slUs p]) ∧
    (∀ (n : Fin 4) (noise r k : Rat),
      (s.diagnosed p n = false → exec (.diagWindowEnd p n noise r k) s = .next s) ∧
      (s.diagnosed p n = true → ∃ t, exec (.diagWindowEnd p n noise r k) s = .next t ∧ othersKept s t p ∧
        (t.tIn p n).windows = (s.tIn p n).windows + 1 ∧ (t.tIn p n).spoiled = false ∧
        ((s.tIn p n).spoiled = true ∨ (s.tIn p n).broken = true →
          (t.z p).regs.word R.ZI_TNOISE_n n = (s.z p).regs.word R.ZI_TNOISE_n n ∧ t.coll = s.coll) ∧
        ((s.tIn p n).spoiled = false → (s.tIn p n).broken = false →
          (t.z p).regs.word R.ZI_TNOISE_n n = BitVec.ofNat 32 (noiseRatio noise r k * 2 ^ 16 + (s.tIn p n).rhoOff))) ∧
      ((s.tIn p n).off = false → exec (.diagOffSegmentEnd p n noise r k) s = .next s) ∧
      ((s.tIn p n).off = true → ∃ t, exec (.diagOffSegmentEnd p n noise r k) s = .next t ∧ othersKept s t p ∧
        (t.tIn p n).off = false ∧
        (t.tIn p n).rhoOff = (if (s.tIn p n).spoiled || (s.tIn p n).broken then (s.tIn p n).rhoOff
          else noiseRatio noise r k) ∧
        t.g p F.ZI_T_n_IEXC_ACT n = F.ZI_T_n_IEXC_ACT.fit (excitation (s.g p F.ZI_TCFG_n_TYPE n)
          (s.g p F.ZI_TCFG_n_IEXC n) (s.tIn p n).range)))

/-- On a running slice: a trigger that a sequence with a valid range takes starts its pass, is latched when it is active, and is
dropped with E-4A10 when one is latched or the range is invalid; a trigger it does not take changes nothing. An active pass
that takes too long is told once with E-4A21. After 2^16 conversions of ADC1 gain and offset move by 1/16 of the error within
their limits, after 2^20 pairs the skew by one step, where the slope lets it be estimated; before, nothing moves. A trim that
reaches its limit fails the slice with E-8A12 and cause 6. A calibration that does not converge is E-4A11. The other slices
stay (checkpoint marks apart). Completes: SEQUENCE_TRIGGER, SEQUENCE_ACTIVE_TIMEOUT, TRIM_UPDATE, SKEW_UPDATE,
CAL_CONVERGE_TIMEOUT. (R121, R122, R123, R126, R135, R136, R137) -/
def Obligations.ConverterControl : Prop :=
  ∀ (s : State) (p : Phys), (s.sl p).running = true →
    (∀ (q : Fin 4) (x : TrigSource),
      (takesTrigger s p q x = false → exec (.sequenceTrigger p q x) s = .next s) ∧
      (takesTrigger s p q x = true → badRange s p q = false → (s.seq p q).act = false → ∃ t,
        exec (.sequenceTrigger p q x) s = .next t ∧ othersKept s t p ∧ (t.seq p q).act = true ∧
        (t.seq p q).made = false ∧ (t.seq p q).pend = (s.seq p q).pend) ∧
      (takesTrigger s p q x = true → badRange s p q = false → (s.seq p q).act = true → (s.seq p q).pend = false → ∃ t,
        exec (.sequenceTrigger p q x) s = .next t ∧ othersKept s t p ∧ (t.seq p q).act = true ∧
        (t.seq p q).pend = true ∧ t.coll = s.coll) ∧
      (takesTrigger s p q x = true → badRange s p q = true ∨ ((s.seq p q).act = true ∧ (s.seq p q).pend = true) → ∃ t,
        exec (.sequenceTrigger p q x) s = .next t ∧ othersKept s t p ∧ (t.seq p q).act = (s.seq p q).act ∧
        (t.seq p q).pend = (s.seq p q).pend ∧ toldCode s t (slicePage p 2) q.val 0x4A10 ∧
        t.isrBit (slicePage p 2) EVT.ZC_DROP = true) ∧
      ((s.seq p q).act = true → (s.seq p q).timedOut = false → ∃ t, exec (.sequenceActiveTimeout p q) s = .next t ∧
        othersKept s t p ∧ (t.seq p q).timedOut = true ∧ toldCode s t (slicePage p 2) q.val 0x4A21)) ∧
    (∀ (a b : Int), (s.cv p).ofConv1 < 2 ^ 16 → exec (.trimUpdate p a b) s = .next s) ∧
    (∀ (a b g : Int), 2 ^ 16 ≤ (s.cv p).ofConv1 → (s.cv p).band < 6 → g = (s.trim p).gain + Config.toUnits ((b : Rat) / 16) →
      (-50000 ≤ g → g ≤ 50000 → ∃ t, exec (.trimUpdate p a b) s = .next t ∧ othersKept s t p ∧ (t.trim p).gain = g ∧
        (t.trim p).ofs = clampInt (-32768) 32767 ((s.trim p).ofs + Config.toUnits ((a : Rat) / 16)) ∧
        (t.trim p).skew = (s.trim p).skew ∧ (t.sl p).life = (s.sl p).life) ∧
      (g < -50000 ∨ 50000 < g → (s.trim p).gainLim = false → ∃ t, exec (.trimUpdate p a b) s = .next t ∧ othersKept s t p ∧
        (t.trim p).gain = clampInt (-50000) 50000 g ∧ (t.sl p).life = .failed ∧ (t.sl p).cause = 6 ∧
        (t.sl p).running = false ∧ toldCode s t (slicePage p 2) 0 0x8A12)) ∧
    (∀ (e : Int) (ok : Bool), (s.cv p).ofPairs < 2 ^ 20 → exec (.skewUpdate p e ok) s = .next s) ∧
    (∀ (e k : Int), 2 ^ 20 ≤ (s.cv p).ofPairs → (s.cv p).band < 6 → k = clampInt (-256) 255 ((s.trim p).skew + clampInt (-1) 1 e) →
      (∃ t, exec (.skewUpdate p e false) s = .next t ∧ othersKept s t p ∧ (t.trim p).skew = (s.trim p).skew ∧
        t.gb p F.ZC_CAL_STAT_SKEW_ACT = false) ∧
      (k ≠ -256 → k ≠ 255 → ∃ t, exec (.skewUpdate p e true) s = .next t ∧ othersKept s t p ∧ (t.trim p).skew = k ∧
        (t.trim p).gain = (s.trim p).gain ∧ (t.sl p).life = (s.sl p).life) ∧
      (k = -256 ∨ k = 255 → (s.trim p).skewLim = false → ∃ t, exec (.skewUpdate p e true) s = .next t ∧
        othersKept s t p ∧ (t.trim p).skew = k ∧ (t.sl p).life = .failed ∧ (t.sl p).cause = 6 ∧
        toldCode s t (slicePage p 2) 0 0x8A12)) ∧
    ((s.cv p).conv = false → ∃ t, exec (.calConvergeTimeout p) s = .next t ∧ t.slices = s.slices ∧
      toldCode s t (slicePage p 2) 0 0x4A11) ∧
    ((s.cv p).conv = true → exec (.calConvergeTimeout p) s = .next s)

/-- On a running slice: a conversion of an entry adds its corrected and clipped code; the last of the entry's average writes the
mean, ties away from zero, as a NEW result of the entry; one before it keeps the entry in its pass with one code more. The
completion of an urgent conversion of the host writes ZC_URG as NEW with EVT.URG_DONE and gives the place to the request that
waits. On a converter that nothing holds, without a reading and with nothing waiting, it does nothing. Where no closed
interval waits for the end of a meter cycle, the other slices stay (checkpoint marks apart). Completes: CONVERSION_COMPLETE.
(R116, R125, R130, R132, R139, R140) -/
def Obligations.ConversionResults : Prop :=
  ∀ (s : State) (p : Phys) (adc : Fin 2) (d : ConvData) (x : Adc), (s.sl p).running = true →
    x = (if adc = 0 then (s.cv p).a else (s.cv p).b) →
    (∀ (q : Fin 4) (k : Nat) (e : EntRun) (codes : List Int), k < 32 → x.own = .seq q k →
      (s.seq p q).live.find? (fun y => y.k == k) = some e →
      codes = e.part.codesA ++ [(channelCodes s p (s.seq p q).band e.cfg
        (entMode e.cfg == 3 && bitOf (s.cv p).swaps k) d).1.1] →
      (2 ^ entDec e.cfg ≤ codes.length → ∃ t, exec (.conversionComplete p adc d) s = .next t ∧
        (s.store.wait = [] → othersKept s t p) ∧
        t.gb p F.ZC_ENT_k_LO_NEW k = true ∧ t.g p F.ZC_ENT_k_LO_CODE k = imageOf 24 (meanCode codes) ∧
        t.g p F.ZC_ENT_k_LO_DEC_ACT k = entDec e.cfg) ∧
      (codes.length < 2 ^ entDec e.cfg → (s.seq p q).ending = false → ∃ t,
        exec (.conversionComplete p adc d) s = .next t ∧ (s.store.wait = [] → othersKept s t p) ∧
        (∃ f ∈ (t.seq p q).live, f.k = k ∧ f.part.codesA = codes) ∧
        rfGet (t.z p).regs (R.ZC_ENT_k_LO.at k) = rfGet (s.z p).regs (R.ZC_ENT_k_LO.at k))) ∧
    (∀ (u : Urgent) (one : Bool), x.own = .urgent → (s.cv p).urg = some u → one = (u.conv == 1) →
      ∃ t, exec (.conversionComplete p adc d) s = .next t ∧ (s.store.wait = [] → othersKept s t p) ∧
        (t.cv p).urg = (s.cv p).urgPend ∧ (t.cv p).urgPend = none ∧
        (u.host = true → t.gb p F.ZC_URG_LO_NEW = true ∧ t.isrBit (slicePage p 2) EVT.ZC_URG_DONE = true ∧
          t.g p F.ZC_URG_LO_CODE = imageOf 24 (clipCode (corrected p one (s.cv p).band (s.trim p)
            (if one then (s.cv p).b.now else (s.cv p).a.now) (if one then d.rawB else d.rawA))).1)) ∧
    (x.own = .none → d.reading = none → s.store.wait = [] → (s.mt p).cuts = [] →
      exec (.conversionComplete p adc d) s = .next s)

/-- On a running slice: ten cycles publish their means and an empty window begins, fewer publish nothing; the driver that waits
for FAST switches. An accepted pulse of a flow input not in CHATTER keeps its period, shows its rate, and counts its volume by
the input's ROLE; one in CHATTER does nothing. The rate falls to 0 after its time; a rate above 1.5 times FMAX is CHATTER with
E-4B22, one above FMAX OVR with E-4B23. At the end of a clock hour without water LEAK ends, after LEAKH hours with water it
begins with E-4B25. The other slices stay (checkpoint marks apart). Completes: WINDOW_PUBLISH, FAST_DRIVER_SWITCH, FLOW_PULSE,
FLOW_RATE_TIMEOUT, FLOW_OVR, LEAK_HOUR_CHECK. (R162, R178, R190, R191, R192) -/
def Obligations.MeterAndFlow : Prop :=
  ∀ (s : State) (p : Phys), (s.sl p).running = true →
    (∀ grid : List Rat,
      (10 ≤ (s.mt p).win.length → ∃ t, exec (.windowPublish p grid) s = .next t ∧ othersKept s t p ∧ (t.mt p).win = [] ∧
        (t.z p).regs.word R.ZE_VRMS = BitVec.ofNat 32 (regUnits (meanOf ((s.mt p).win.map (fun c => c.vrms)) * 1000)) ∧
        (t.z p).regs.word R.ZE_IRMS = BitVec.ofNat 32 (regUnits (meanOf ((s.mt p).win.map (fun c => c.irms)) * 1000)) ∧
        (t.z p).regs.word R.ZE_P = BitVec.ofInt 32 (Config.toUnits (meanOf ((s.mt p).win.map (fun c => c.p)) * 1000)) ∧
        t.gb p F.ZE_FREQ_VALID = (s.mt p).lock) ∧
      ((s.mt p).win.length < 10 → exec (.windowPublish p grid) s = .next s)) ∧
    (∀ j : Out, (s.mt p).cap.drvWait = some j → ∃ t, exec (.fastDriverSwitch p) s = .next t ∧ othersKept s t p ∧
      (t.mt p).cap.drvWait = none ∧ (t.out p j).waitCap = false ∧
      ((s.out p j).held = false → (t.out p j).applied = appliedOf j { s.out p j with waitCap := false })) ∧
    ((s.mt p).cap.drvWait = none → exec (.fastDriverSwitch p) s = .next s) ∧
    (∀ (n : Fin 2) (period : Nat),
      (((s.ht p).fl[n]).chat.on = true → exec (.flowPulse p n period) s = .next s) ∧
      (((s.ht p).fl[n]).chat.on = false → ∃ t, exec (.flowPulse p n period) s = .next t ∧ othersKept s t p ∧
        ((t.ht p).fl[n]).period = period ∧ t.g p F.ZH_FLOW_n_FLOW n = (if period = 0 then 0 else
          regUnits ((((s.z p).regs.word R.ZH_FL_VPP_n n).toNat : Rat) * 3600000 / (period : Rat))) ∧
        (flowRole s p n = 2 → (t.ht p).water = true ∧ (t.ht p).acc[3] =
          ((s.ht p).acc[3]).add ((((s.z p).regs.word R.ZH_FL_VPP_n n).toNat : Rat) / 1000)) ∧
        (flowRole s p n = 1 → (t.ht p).acc[2] =
          ((s.ht p).acc[2]).add ((((s.z p).regs.word R.ZH_FL_VPP_n n).toNat : Rat) / 1000)))) ∧
    (∀ n : Fin 2, ∃ t, exec (.flowRateTimeout p n) s = .next t ∧ othersKept s t p ∧ t.g p F.ZH_FLOW_n_FLOW n = 0 ∧
      t.ht p = s.ht p) ∧
    (∀ (n : Fin 2) (rate : Nat),
      (3 * s.g p F.ZH_FL_CFG_n_FMAX n < 2 * rate → ((s.ht p).fl[n]).chat.on = false → ∃ t,
        exec (.flowOvr p n rate) s = .next t ∧ othersKept s t p ∧ ((t.ht p).fl[n]).chat.on = true ∧
        toldCode s t (slicePage p 5) n.val 0x4B22) ∧
      (2 * rate ≤ 3 * s.g p F.ZH_FL_CFG_n_FMAX n → s.g p F.ZH_FL_CFG_n_FMAX n < rate → ((s.ht p).fl[n]).ovr = false →
        ∃ t, exec (.flowOvr p n rate) s = .next t ∧ othersKept s t p ∧ ((t.ht p).fl[n]).ovr = true ∧
        toldCode s t (slicePage p 5) n.val 0x4B23) ∧
      (2 * rate ≤ 3 * s.g p F.ZH_FL_CFG_n_FMAX n → rate ≤ s.g p F.ZH_FL_CFG_n_FMAX n → ∃ t,
        exec (.flowOvr p n rate) s = .next t ∧ othersKept s t p ∧ ((t.ht p).fl[n]).ovr = false ∧ t.coll = s.coll)) ∧
    (∃ t, exec (.leakHourCheck p) s = .next t ∧ othersKept s t p ∧ (t.ht p).water = false ∧
      (t.ht p).leakRun = (if (s.ht p).water then (s.ht p).leakRun + 1 else 0) ∧
      ((s.ht p).water = false → (t.ht p).leak = false) ∧
      ((s.ht p).water = true → s.g p F.ZH_WCFG_LEAKH ≠ 0 → s.g p F.ZH_WCFG_LEAKH ≤ (s.ht p).leakRun + 1 →
        (s.ht p).leak = false → (t.ht p).leak = true ∧ toldCode s t (slicePage p 5) 0 0x4B25))

/-- On a running slice: a loop tick leaves no panel request and no due alarm, takes a plan that waits into force, counts one
second of demand and shows every output's request; an expired timed mode returns to the former command, an expired panel boost
ends; the loss levels take over with E-8C08; a model step takes the means of its 60 s; a stale outdoor temperature is told to
every running zone with E-4C09; a tune beyond the limit of its step fails with its reason, E-4C02 and the zone's FAULT marker,
one beyond 6 h in all with a reason that the manual leaves open. The other slices stay (checkpoint marks apart). Completes:
LOOP_TICK, TIMED_MODE_EXPIRY, SENSOR_LOSS_TIMEOUT, MODEL_STEP, AUTOTUNE_STEP_TIMEOUT, OUTDOOR_STALE. (R218, R219, R224, R232,
R237, R240, R242, R259, R275) -/
def Obligations.LoopWork : Prop :=
  (∀ (s : State) (p : Phys), (s.sl p).running = true →
    (s.journal.handover = [] → ∃ t, exec (.loopTick p) s = .next t ∧ othersKept s t p ∧ (t.lp p).reqs = [] ∧
      (t.sc p).due = [] ∧ (t.sc p).planNext = none ∧ (∀ x, (s.sc p).planNext = some x → (t.sc p).plan = some x) ∧
      (t.sc p).sumN = (s.sc p).sumN + 1 ∧
      ∀ j : Out, t.g p F.ZL_OUT_j_REQ j = F.ZL_OUT_j_REQ.fit (Config.toUnits (t.lp p).req[j]).toNat) ∧
    (isTimed (s.lp p).cmd = true → ∃ t, exec (.timedModeExpiry p) s = .next t ∧ othersKept s t p ∧
      (t.lp p).cmd = (s.lp p).prior ∧ (t.lp p).remain = 0 ∧
      t.g p F.ZL_STAT_CMD_MODE = F.ZL_STAT_CMD_MODE.fit (s.lp p).prior) ∧
    (isTimed (s.lp p).cmd = false → 0 < (s.lp p).pboost → ∃ t, exec (.timedModeExpiry p) s = .next t ∧
      othersKept s t p ∧ (t.lp p).cmd = (s.lp p).cmd ∧ (t.lp p).pboost = 0 ∧ t.gb p F.ZL_STAT_PBOOST = false) ∧
    (isTimed (s.lp p).cmd = false → (s.lp p).pboost = 0 → exec (.timedModeExpiry p) s = .next s) ∧
    ((s.lp p).lossT ≠ none → (s.lp p).lossLevels = false → ∃ t, exec (.sensorLossTimeout p) s = .next t ∧
      othersKept s t p ∧ (t.lp p).lossLevels = true ∧ t.gb p F.ZL_STAT_LOSS = true ∧
      toldCode s t (slicePage p 6) 0 0x8C08) ∧
    (∃ t, exec (.modelStep p) s = .next t ∧ othersKept s t p ∧ (t.lp p).secT = [] ∧ (t.lp p).secUh = [] ∧
      (t.lp p).secUc = [] ∧ (t.lp p).stepBad = false ∧
      (t.lp p).sideH.uMeans.head? = some (meanOf (s.lp p).secUh) ∧
      (t.lp p).sideC.uMeans.head? = some (meanOf (s.lp p).secUc) ∧
      (t.lp p).sideH.yMeans.head? = some (if (s.lp p).secT = [] then none else some (meanOf (s.lp p).secT))) ∧
    (∀ (u : Tune) (why : Nat), (s.lp p).tune = some u →
      (((u.step = 1 ∨ (u.step = 4 ∧ u.moved = false)) ∧ 3600 ≤ u.ticks ∧ why = 1) ∨ (u.step = 2 ∧ 14400 ≤ u.ticks ∧ why = 3)) → ∃ t,
        exec (.autotuneStepTimeout p) s = .next t ∧ othersKept s t p ∧ (t.lp p).tune = none ∧
        t.g p F.ZL_TUNE_STAT_REASON = why ∧ t.gb p F.ZL_STAT_TUNING = false ∧
        toldCode s t (slicePage p 6) why 0x4C02 ∧
        ∀ z r, s.zoneOf p = some z → s.runningOf u.lseq = some r → r.internal = false →
          marked s u.lseq z.val = false → t.zoneMarker u.lseq z = some (resFault, why, 0)) ∧
    (∀ u : Tune, (s.lp p).tune = some u → 21600 ≤ u.total → ∃ t, exec (.autotuneStepTimeout p) s = .next t ∧
      othersKept s t p ∧ (t.lp p).tune = none ∧ 1 ≤ t.g p F.ZL_TUNE_STAT_REASON ∧ t.g p F.ZL_TUNE_STAT_REASON ≤ 11) ∧
    ((s.lp p).tune = none → exec (.autotuneStepTimeout p) s = .next s)) ∧
  (∀ s : State, ∃ t, exec .outdoorStale s = .next t ∧ t.map = s.map ∧ ∀ p,
    ((s.sl p).running = false → t.sl p = s.sl p) ∧
    ((s.sl p).running = true → (t.lp p).stale = true) ∧
    ((s.sl p).running = true → (s.lp p).stale = false → t.gb p F.ZP_STAT_OUTDOOR_STALE = true ∧
      toldCode s t (slicePage p 6) 0 0x4C09))

/-- On a running slice: an alarm that its tables set for a reached instant after the mark fires: mark, due effect, SCH_ALM; one
not after the mark does nothing. The hold of occupancy ends. An unfrozen, trusted, unexcepted quarter-hour moves its learner
bin and no other; a spoiled one moves none. TARIFF_EXPIRY judges EXPIRED and VALID. A plan trigger starts a plan or is
coalesced with the one being made; a completed plan waits for the next tick; an overrun counts with E-4C17. The other slices
stay (checkpoint marks apart). Completes: ALARM_FIRE, OCC_HOLD_EXPIRY, LEARNER_UPDATE, TARIFF_EXPIRY, PLAN_START,
PLAN_COMPLETE, PLAN_OVERRUN. (R258, R259, R261, R264, R268, R275) -/
def Obligations.ScheduleAndPlans : Prop :=
  ∀ (s : State) (p : Phys), (s.sl p).running = true →
    (∀ (k : AlarmKind) (at_ : Nat),
      (at_ % minuteUs = 0 → at_ ≤ s.slNow p → afterMark s p (alarmKey k) at_ = true →
        alarmKey k ∈ alarmsAt s p ((at_ / minuteUs : Nat) : Int) → ∃ t, exec (.alarmFire p k at_) s = .next t ∧
          othersKept s t p ∧ (t.sc p).mark = at_ ∧
          (t.sc p).due = (s.sc p).due ++ [{ kind := (alarmKey k).1, index := (alarmKey k).2, at_ := at_ }] ∧
          t.g p F.SCH_ALM_KIND = (alarmKey k).1 ∧ t.g p F.SCH_ALM_INDEX = (alarmKey k).2 ∧
          t.gb p F.SCH_ALM_LATE = false) ∧
      (afterMark s p (alarmKey k) at_ = false → exec (.alarmFire p k at_) s = .next s)) ∧
    (∃ t, exec (.occHoldExpiry p) s = .next t ∧ othersKept s t p ∧ (t.sc p).occLeft = 0 ∧
      (t.z p).regs = (s.z p).regs) ∧
    (∀ (b : Fin 672) (active total : Nat),
      ((s.sc p).learnBad = true ∨ occFrozen s p = true ∨ s.trusted = false → ∃ t,
        exec (.learnerUpdate p b active total) s = .next t ∧ othersKept s t p ∧ (t.sc p).learnBad = false ∧
        (t.z p).regs = (s.z p).regs) ∧
      ((s.sc p).learnBad = false → occFrozen s p = false → s.trusted = true → b.val = binEnded s p →
        excOf s p ((localMin s p (s.minute p) - 15) / 1440) = none → 0 < total → active ≤ total → ∃ t,
        exec (.learnerUpdate p b active total) s = .next t ∧ othersKept s t p ∧
        binAt t p b.val = (clampInt 0 255 (Config.nearest ((binAt s p b.val : Rat) +
          ((active : Rat) / (total : Rat) * 255 - (binAt s p b.val : Rat)) / (s.g p F.ZP_CFG_3_LEARN_W : Rat)))).toNat ∧
        ∀ c : Fin 672, c ≠ b → binAt t p c.val = binAt s p c.val)) ∧
    (∃ t, exec (.tariffExpiry p) s = .next t ∧ othersKept s t p ∧
      t.gb p F.ZT_STAT_EXPIRED =
        (decide (s.g p F.ZT_VALID_UNTIL ≠ 0) && decide ((s.g p F.ZT_VALID_UNTIL : Int) ≤ s.minute p)) ∧
      t.gb p F.ZT_STAT_VALID = (!t.gb p F.ZT_STAT_EMPTY && !t.gb p F.ZT_STAT_EXPIRED)) ∧
    ((plansSide s p false = true ∨ plansSide s p true = true) →
      ((s.sc p).making = none → ∃ t, exec (.planStart p) s = .next t ∧ othersKept s t p ∧
        (t.sc p).making = some (makePlan s p) ∧ (t.sc p).plan = (s.sc p).plan) ∧
      ((s.sc p).making ≠ none → ∃ t, exec (.planStart p) s = .next t ∧ othersKept s t p ∧ (t.sc p).again = true ∧
        (t.sc p).making = (s.sc p).making ∧
        t.g p F.ZP_CNT_COALESCED = satTo 8 (s.g p F.ZP_CNT_COALESCED + 1))) ∧
    (plansSide s p false = false → plansSide s p true = false → exec (.planStart p) s = .next s) ∧
    (∀ pl : Plan, (s.sc p).making = some pl → ∃ t, exec (.planComplete p) s = .next t ∧ othersKept s t p ∧
      (t.sc p).planNext = some pl ∧ ((s.sc p).again = false → (t.sc p).making = none) ∧
      t.g p F.ZP_CNT_PLANS = satTo 16 (s.g p F.ZP_CNT_PLANS + 1) ∧ t.gb p F.ZP_STAT_SHORT = pl.short ∧
      (pl.short = true → s.gb p F.ZP_STAT_SHORT = false → toldCode s t (slicePage p 7) 0 0x4C16)) ∧
    ((s.sc p).making ≠ none → ∃ t, exec (.planOverrun p) s = .next t ∧ othersKept s t p ∧
      t.g p F.ZP_CNT_OVERRUN = satTo 8 (s.g p F.ZP_CNT_OVERRUN + 1) ∧ toldCode s t (slicePage p 7) 0 0x4C17) ∧
    ((s.sc p).making = none → exec (.planOverrun p) s = .next s)

/-- On a running slice: a pulse ends with the marker of its cause and its output returns to the request; a DO in its full limit
is switched off and counted, the third time in a row latched with E-8D03, and stays as it is under a limit that the governor
has cut; ten seconds later one not latched is driven by its request again; an open load is told once with E-4D04; an AO that
stays in its limit is E-8D01, one whose pin is off is E-4D02 until it is back; a pulse of the fan shows its speed, none for
STALL_T shows 0 and a stall with E-8D05. The other slices stay (checkpoint marks apart). Completes: PULSE_END,
AO_LIMIT_TIMEOUT, DO_OVERCURRENT_TRIP, DO_RETRY, DO_OPEN_LOAD, AO_READBACK_MISMATCH, TACH_PULSE, FAN_STALL. (R292, R293, R294,
R295, R296, R297, R371, R384) -/
def Obligations.OutputEvents : Prop :=
  ∀ (s : State) (p : Phys) (j : Out), (s.sl p).running = true →
    (∀ (how : PulseEnd) (u : Pulse), (s.out p j).pulse = some u → ∃ t, exec (.pulseEnd p j how) s = .next t ∧
      othersKept s t p ∧ (t.out p j).pulse = none ∧ (t.lp p).minT[j] = 0 ∧
      ((s.out p j).held = false → (t.out p j).applied = appliedOf j { s.out p j with pulse := none }) ∧
      ∀ z r, s.zoneOf p = some z → s.runningOf u.lseq = some r → r.internal = false → marked s u.lseq z.val = false →
        t.zoneMarker u.lseq z = some (match how with
          | .expired => (resDone, 0, 0)
          | .ceiling => (resFault, 3, 0)
          | .governor => (resFault, 3, 0)
          | .overCurrent => (resFault, 2, 0))) ∧
    (∀ how : PulseEnd, (s.out p j).pulse = none → exec (.pulseEnd p j how) s = .next s) ∧
    (isAo j = true → (s.out p j).ilim = true → (s.out p j).held = false → ∃ t, exec (.aoLimitTimeout p j) s = .next t ∧
      t.slices = s.slices ∧ toldCode s t (slicePage p 0xA) j.val 0x8D01) ∧
    ((s.z p).outs.fact < 100 → exec (.doOvercurrentTrip p j) s = .next s) ∧
    (isDo j = true → (s.out p j).held = false → 0 < (s.out p j).applied → 100 ≤ (s.z p).outs.fact →
      ((s.out p j).ovcRun < 2 → ∃ t, exec (.doOvercurrentTrip p j) s = .next t ∧ othersKept s t p ∧
        (t.out p j).ovcOff = true ∧ (t.out p j).latched = false ∧ (t.out p j).ovcRun = (s.out p j).ovcRun + 1 ∧
        (t.out p j).applied = 0 ∧ t.g p F.ZO_CNT_OVC = satTo 8 (s.g p F.ZO_CNT_OVC + 1)) ∧
      (2 ≤ (s.out p j).ovcRun → ∃ t, exec (.doOvercurrentTrip p j) s = .next t ∧ othersKept s t p ∧
        (t.out p j).latched = true ∧ (t.out p j).applied = 0 ∧ (t.out p j).pulse = none ∧
        toldCode s t (slicePage p 0xA) j.val 0x8D03)) ∧
    ((s.out p j).ovcOff = true → (s.out p j).held = false → ∃ t, exec (.doRetry p j) s = .next t ∧ othersKept s t p ∧
      (t.out p j).ovcOff = false ∧ (t.out p j).ilim = false ∧ (t.out p j).ovcRun = (s.out p j).ovcRun ∧
      (isDo j = true → 0 < (s.out p j).req → (s.out p j).latched = false → (s.out p j).govOff = false →
        (s.out p j).waitCap = false → (t.out p j).applied = 10000)) ∧
    ((s.out p j).ovcOff = false ∨ (s.out p j).held = true → exec (.doRetry p j) s = .next s) ∧
    (isDo j = true → (s.out p j).held = false → 0 < (s.out p j).applied → (s.out p j).open_ = false → ∃ t,
      exec (.doOpenLoad p j) s = .next t ∧ othersKept s t p ∧ (t.out p j).open_ = true ∧
      (t.out p j).applied = (s.out p j).applied ∧ toldCode s t (slicePage p 0xA) j.val 0x4D04) ∧
    (isAo j = true → (s.out p j).ilim = false →
      ((s.out p j).rbk = false → ∃ t, exec (.aoReadbackMismatch p j true) s = .next t ∧ othersKept s t p ∧
        (t.out p j).rbk = true ∧ toldCode s t (slicePage p 0xA) j.val 0x4D02) ∧
      ((s.out p j).rbk = true → ∃ t, exec (.aoReadbackMismatch p j false) s = .next t ∧ othersKept s t p ∧
        (t.out p j).rbk = false ∧ t.coll = s.coll)) ∧
    (∀ period : Nat,
      ((s.z p).outs.tach.on = true → exec (.tachPulse p period) s = .next s) ∧
      ((s.z p).outs.tach.on = false → ∃ t, exec (.tachPulse p period) s = .next t ∧ othersKept s t p ∧
        (t.z p).outs.periods = keepLast 4 ((s.z p).outs.periods ++ [period]) ∧ (t.z p).outs.o = (s.z p).outs.o ∧
        t.g p F.ZO_TACH_RPM = tachSpeed (s.g p F.ZO_TACH_CFG_PPR + 1) (keepLast 4 ((s.z p).outs.periods ++ [period])))) ∧
    (∃ t, exec (.fanStall p) s = .next t ∧ othersKept s t p ∧ (t.z p).outs.periods = [] ∧ t.g p F.ZO_TACH_RPM = 0 ∧
      ((s.z p).outs.tach.on = false → (s.z p).outs.stall = false →
        (s.g p F.ZO_TACH_CFG_STALL_MIN : Rat) * 100 ≤ (s.out p 2).applied → (t.z p).outs.stall = true ∧
        toldCode s t (slicePage p 0xA) 0 0x8D05))

/-- On a running slice whose panel scans: a scan shows the raw matrix; a key in a complete rectangle without diodes keeps its
accepted state, and one that the first unambiguous scan frees keeps it in that scan; any other key, not in CHATTER nor guarded, is accepted in its new state after DEB scans and counts one scan
before that. LONG is queued once; STUCK is declared with E-4D10; a repeat of UP or DOWN asks a step. An encoder edge to the
opposite state is a rejection; one that completes a detent within the rate moves ENC_POS by one in its direction. A panel that
does not scan takes none. The other slices stay (checkpoint marks apart). Completes: KEY_SCAN, KEY_LONG, KEY_STUCK, KEY_REPEAT,
ENCODER_EDGE. (R304, R305, R306, R307, R309, R310, R311, R312) -/
def Obligations.PanelEvents : Prop :=
  ∀ (s : State) (p : Phys), (s.sl p).running = true →
    (∀ raw : BitVec 16, (s.pn p).scan = false → exec (.keyScan p raw) s = .next s) ∧
    (∀ raw m : BitVec 16, (s.pn p).scan = true → m = (if s.gb p F.ZK_CFG_DIODES then 0 else ghostKeys raw) →
      ∃ t, exec (.keyScan p raw) s = .next t ∧ othersKept s t p ∧ (t.pn p).raw = raw ∧
        t.g p F.ZK_KEYS_RAW = raw.toNat ∧ t.g p F.ZK_KEYS_ACC = (t.pn p).acc.toNat ∧
        (t.pn p).frozen = m ∧
        (∀ k : Fin 16, (m ||| thawed (s.pn p) m).getLsbD k.val = true → (t.key p k).cnt = 0 ∧
          (t.pn p).acc.getLsbD k.val = (s.pn p).acc.getLsbD k.val) ∧
        (∀ k : Fin 16, (m ||| thawed (s.pn p) m).getLsbD k.val = false → (s.pn p).fresh = false → (s.key p k).chat.on = false →
          (s.key p k).guard = false → raw.getLsbD k.val ≠ (s.pn p).acc.getLsbD k.val →
          (s.g p F.ZK_CFG_DEB ≤ (s.key p k).cnt + 1 → (t.pn p).acc.getLsbD k.val = raw.getLsbD k.val) ∧
          ((s.key p k).cnt + 1 < s.g p F.ZK_CFG_DEB → (t.key p k).cnt = (s.key p k).cnt + 1 ∧
            (t.pn p).acc.getLsbD k.val = (s.pn p).acc.getLsbD k.val))) ∧
    (∀ k : Fin 16, keyHeld s p k = true →
      ((s.key p k).long = false → ∃ t, exec (.keyLong p k) s = .next t ∧ othersKept s t p ∧ (t.key p k).long = true ∧
        ((s.pn p).evts.length < 16 →
          (t.pn p).evts = (s.pn p).evts ++ [{ type := 2, key := k.val, time := s.slNow p / 1000 }])) ∧
      (∃ t, exec (.keyStuck p k) s = .next t ∧ othersKept s t p ∧ (t.key p k).stuck = true ∧
        toldCode s t (slicePage p 0xB) k.val 0x4D10) ∧
      ((s.key p k).long = true → keyFn s p k = 2 ∨ keyFn s p k = 3 → ∃ t, exec (.keyRepeat p k) s = .next t ∧
        othersKept s t p ∧ (t.lp p).reqs = (s.lp p).reqs ++ [.step (decide (keyFn s p k = 2))] ∧
        t.pn p = s.pn p)) ∧
    (∀ a b : Bool, (s.pn p).scan = false → exec (.encoderEdge p a b) s = .next s) ∧
    (∀ (a b : Bool) (q r : Nat), (s.pn p).scan = true → q = bit1 (s.pn p).encB * 2 + bit1 (s.pn p).encA →
      r = bit1 b * 2 + bit1 a →
      (r = 3 - q → ∃ t, exec (.encoderEdge p a b) s = .next t ∧ othersKept s t p ∧ (t.pn p).encA = a ∧
        (t.pn p).encB = b ∧ (t.pn p).encChat.rejects = within1s (s.slUs p) (s.pn p).encChat.rejects ++ [s.slUs p] ∧
        t.gi p F.ZK_ENC_POS = s.gi p F.ZK_ENC_POS) ∧
      (r ≠ q → r ≠ 3 - q → (detentOf (s.g p F.ZK_ENC_CFG_DETENT) r).2 = false → ∃ t,
        exec (.encoderEdge p a b) s = .next t ∧ othersKept s t p ∧ (t.pn p).encA = a ∧ (t.pn p).encB = b ∧
        (t.pn p).net = (s.pn p).net + (if quadNext q = r then 1 else -1) ∧ t.coll = s.coll) ∧
      (r ≠ q → r ≠ 3 - q → (detentOf (s.g p F.ZK_ENC_CFG_DETENT) r).2 = true → (s.pn p).encChat.on = false →
        (within1s (s.slUs p) (s.pn p).dets).length < s.g p F.ZK_ENC_CFG_ENC_MAX → ∀ d : Int, d = 1 ∨ d = -1 →
        (s.pn p).net + (if quadNext q = r then 1 else -1) = d * (detentOf (s.g p F.ZK_ENC_CFG_DETENT) r).1 → ∃ t,
        exec (.encoderEdge p a b) s = .next t ∧ othersKept s t p ∧ (t.pn p).net = 0 ∧
        t.gi p F.ZK_ENC_POS = signedOf 16 (imageOf 16 (s.gi p F.ZK_ENC_POS + d))))

/-- A training set on a lane that takes part is noted with the host's MASK; from DOWN the link goes to DETECT or, when every
lane that takes part has locked, to CONFIG with its width; TS2 on every lane of the width brings TRAINING, an aligned
complete training UP, where the packets that waited are sent and a retrain is told with E-4105; TS1 at an UP link begins a
retrain that keeps the tags. The end of DETECT excludes the lanes that failed to lock with E-8104; a training that is not UP
in time goes to DOWN; no lane for 1 s is E-8106. A symbol error counts; a faulty active lane is excluded and the link
retrains. Completes:
LINK_TRAINING_SET, DETECT_TIMEOUT, TRAINING_TIMEOUT, NO_LANE_TIMEOUT, LANE_SYMBOL_ERROR. (R391, R392, R393, R398, R400, R410) -/
def Obligations.LinkTraining : Prop :=
  ∀ s : State,
    (∀ (set : TrainSet) (lane : Fin 4) (mask bit : BitVec 4) (complete : Bool), bit = BitVec.ofNat 4 (2 ^ lane.val) →
      (s.porchRuns = false ∨ (s.link.offered &&& s.link.healthy).getLsbD lane.val = false →
        exec (.linkTrainingSet set lane mask complete) s = .next s) ∧
      (s.porchRuns = true → (s.link.offered &&& s.link.healthy).getLsbD lane.val = true →
        (set = .ts1 → s.link.state = 0 → s.link.ts2 = 0 → ∃ t, exec (.linkTrainingSet set lane mask complete) s = .next t ∧
          t.link.mask = mask ∧ t.link.locked = s.link.locked ||| bit ∧ t.link.tags = s.link.tags ∧
          t.isrBit 0xB EVT.HL_STATE = true ∧
          (t.link.usable ≠ 0 ∧ t.link.usable &&& t.link.locked = t.link.usable →
            t.link.state = 2 ∧ t.link.active = lanesFor t.link.usable) ∧
          (t.link.usable = 0 ∨ t.link.usable &&& t.link.locked ≠ t.link.usable → t.link.state = 1)) ∧
        (set = .ts2 → s.link.state = 2 → s.link.active ≠ 0 → complete = false → ∃ t,
          exec (.linkTrainingSet set lane mask complete) s = .next t ∧ t.link.ts2 = s.link.ts2 ||| bit ∧
          t.link.active = s.link.active ∧
          t.link.state = (if s.link.active &&& (s.link.ts2 ||| bit) = s.link.active then 3 else 2)) ∧
        (s.link.state = 3 → complete = true → ∃ t, exec (.linkTrainingSet set lane mask complete) s = .next t ∧
          t.link.state = 4 ∧ t.link.wait = [] ∧ t.link.owed = 0 ∧ t.link.crtot = 0 ∧ t.link.retrain = false ∧
          t.link.tags = s.link.tags ∧ (∀ k ∈ s.link.wait, lanePacket t.link.active k 0 0 ∈ t.emitted) ∧
          (s.link.retrain = true → toldCode s t 0xB s.link.width 0x4105)) ∧
        (set = .ts1 → s.link.state = 4 → ∃ t, exec (.linkTrainingSet set lane mask complete) s = .next t ∧
          t.link.state ≤ 2 ∧ t.link.retrain = true ∧ t.link.locked = bit ∧ t.link.tags = s.link.tags ∧
          t.pg F.HL_CNT_2_RETRAINS = satTo 8 (s.pg F.HL_CNT_2_RETRAINS + 1)))) ∧
    (s.link.state = 1 → s.link.locked ≠ 0 → ∃ t, exec .detectTimeout s = .next t ∧ t.link.state = 2 ∧
      t.link.active = lanesFor (s.link.usable &&& s.link.locked) ∧
      t.link.excluded = s.link.excluded ||| (s.link.usable &&& ~~~ s.link.locked) ∧
      ∀ n : Fin 4, s.link.usable.getLsbD n.val = true → s.link.locked.getLsbD n.val = false →
        t.pb F.HL_LANE_n_EXCL n.val = true ∧ toldCode s t 0xB n.val 0x8104) ∧
    (s.link.state ≠ 1 ∨ s.link.locked = 0 → exec .detectTimeout s = .next s) ∧
    (s.link.state ≠ 4 → ∃ t, exec .trainingTimeout s = .next t ∧ t.link.state = 0 ∧ t.link.active = 0 ∧
      t.link.locked = 0 ∧ t.link.ts2 = 0 ∧ t.link.tags = s.link.tags) ∧
    (s.link.state = 4 → exec .trainingTimeout s = .next s) ∧
    (s.porchRuns = true → s.link.state = 0 → ∃ t, exec .noLaneTimeout s = .next t ∧ t.link = s.link ∧
      toldCode s t 0xB 0 0x8106) ∧
    (s.porchRuns = false ∨ s.link.state ≠ 0 → exec .noLaneTimeout s = .next s) ∧
    (∀ (lane : Fin 4) (run win : Nat), ∃ t, exec (.laneSymbolError lane run win) s = .next t ∧
      t.pg F.HL_LANE_n_SYM_ERR lane.val = satTo 16 (s.pg F.HL_LANE_n_SYM_ERR lane.val + 1) ∧
      (s.link.state = 4 → s.link.active.getLsbD lane.val = true → 8 < win ∨ 3 ≤ run →
        t.link.state = 0 ∧ t.link.retrain = true ∧ t.link.excluded.getLsbD lane.val = true ∧
        t.link.tags = s.link.tags ∧ (s.link.excluded.getLsbD lane.val = false → toldCode s t 0xB lane.val 0x8104)) ∧
      (s.link.state ≠ 4 ∨ s.link.active.getLsbD lane.val = false ∨ (win ≤ 8 ∧ run < 3) → t.link = s.link))

/-- While the porch runs and the link is UP: a new read burst is performed and its response, of 8 bytes and the status area and
four bytes a read, is sent and kept for its tag; a new write burst likewise; a repeated request draws the kept response
again and performs nothing; a tag still open is refused with LINK_ERR and E-4103. An envelope whose CRC fails leaves its tag
open with E-4001; one that passes every check is accepted and answered. Otherwise nothing happens. CREDIT_RETURN returns
what is owed, at most 64; a discarded packet is counted, told or answered with LINK_ERR, by its reason. Completes: LINK_READ,
LINK_WRITE, LINK_COMMAND, CREDIT_RETURN, PACKET_DISCARDED. (R324, R326, R395, R396, R397, R398, R399, R400, R401) -/
def Obligations.LinkRequests : Prop :=
  ∀ s : State,
    (∀ (tag : BitVec 8) (rtx : Bool) (a : Word) (n : Nat) (d : List Word) (b : Envelope),
      s.porchRuns = false ∨ s.link.state ≠ 4 →
      exec (.linkRead tag rtx a n) s = .next s ∧ exec (.linkWrite tag rtx a d) s = .next s ∧
      exec (.linkCommand tag rtx b) s = .next s) ∧
    (s.porchRuns = true → s.link.state = 4 → ∀ (tag : BitVec 8) (u : State),
      u = (freeBuffer (endDoze s)).setTag tag .idle → s.tag tag ≠ .opened →
      (∀ (a : Word) (n : Nat), 1 ≤ n → n ≤ 64 → ∃ t, exec (.linkRead tag false a n) s = .next t ∧
        (readPayload u a n).1.length = 8 + 4 * ((n + 7) / 8) + 4 * n ∧
        t.tag tag = .kept ⟨0x8, tag, (readPayload u a n).1⟩ ∧
        t.slices = (readPayload u a n).2.slices ∧ t.hdrs = (readPayload u a n).2.hdrs ∧
        ((readPayload u a n).2.link.state = 4 → ∃ c m,
          t.lastOut = some (lanePacket t.link.active ⟨0x8, tag, (readPayload u a n).1⟩ c m))) ∧
      (∀ (a : Word) (d : List Word), 1 ≤ d.length → d.length ≤ 64 → ∃ t, exec (.linkWrite tag false a d) s = .next t ∧
        (writePayload u a d).1.length = 8 + 4 * ((d.length + 7) / 8) ∧
        t.tag tag = .kept ⟨0x9, tag, (writePayload u a d).1⟩ ∧
        t.slices = (writePayload u a d).2.slices ∧ t.hdrs = (writePayload u a d).2.hdrs ∧
        ((writePayload u a d).2.link.state = 4 → ∃ c m,
          t.lastOut = some (lanePacket t.link.active ⟨0x9, tag, (writePayload u a d).1⟩ c m))) ∧
      (∀ b : Envelope, envelopeOk b.bytes = false → ∃ t, exec (.linkCommand tag false b) s = .next t ∧
        t.tag tag = .opened ∧ t.journal = s.journal ∧ t.slices = (endDoze s).slices ∧ toldCode s t 2 0 0x4001 ∧
        t.pg F.PCH_DSP_CNT_2_ENV_ERR = satTo 8 (s.pg F.PCH_DSP_CNT_2_ENV_ERR + 1)) ∧
      (∀ (b : Envelope) (x : Exec), acceptable u b.bytes x → bankStays u b → ∃ t,
        exec (.linkCommand tag false b) s = .next t ∧
        hasAccepted t x .hostLink tag.toNat ∧ t.tag tag = .kept ⟨0xA, tag, acceptedBytes x⟩ ∧
        ∃ c m, lanePacket t.link.active ⟨0xA, tag, acceptedBytes x⟩ c m ∈ t.emitted)) ∧
    (s.porchRuns = true → s.link.state = 4 → ∀ (tag : BitVec 8) (i : Bool → Instr) (a : Word) (d : List Word)
      (b : Envelope), 1 ≤ d.length → d.length ≤ 64 →
      i ∈ [fun r => .linkRead tag r a d.length, fun r => .linkWrite tag r a d, fun r => .linkCommand tag r b] →
      (∀ k : OutPacket, s.tag tag = .kept k → ∃ t c m, exec (i true) s = .next t ∧ t.tag tag = .kept k ∧
        t.lastOut = some (lanePacket t.link.active k c m) ∧ t.slices = (endDoze s).slices ∧ t.journal = s.journal ∧
        t.pg F.HL_CNT_2_RESENT = satTo 16 (s.pg F.HL_CNT_2_RESENT + 1)) ∧
      (s.tag tag = .opened → (∃ t, exec (i true) s = .next t ∧ t.tag tag = .opened ∧ t.slices = (endDoze s).slices ∧
          t.journal = s.journal ∧ t.link.owed = s.link.owed + 1) ∧
        (∃ t c m, exec (i false) s = .next t ∧ t.tag tag = .opened ∧ t.slices = (endDoze s).slices ∧ t.journal = s.journal ∧
          lanePacket t.link.active ⟨0xE, tag, leBytes 1 1 ++ leBytes 3 0⟩ c m ∈ t.emitted ∧
          t.pg F.HL_CNT_1_TAGBUSY = satTo 8 (s.pg F.HL_CNT_1_TAGBUSY + 1) ∧ toldCode s t 0xB tag.toNat 0x4103))) ∧
    (s.link.state = 4 → 0 < s.link.owed → ∃ t, exec .creditReturn s = .next t ∧
      t.link.owed = s.link.owed - min s.link.owed 64 ∧
      t.lastOut = some (lanePacket s.link.active ⟨0xD, 0, []⟩ (min s.link.owed 64) s.link.crtot)) ∧
    (s.link.state ≠ 4 ∨ s.link.owed = 0 → exec .creditReturn s = .next s) ∧
    (∀ why : Discard, s.link.state ≠ 4 → exec (.packetDiscarded why) s = .next s) ∧
    (s.link.state = 4 →
      (∃ t, exec (.packetDiscarded .noBuffer) s = .next t ∧ t.link = s.link ∧ toldCode s t 0xB 0 0x4102 ∧
        t.pg F.HL_CNT_1_NOCRED = satTo 8 (s.pg F.HL_CNT_1_NOCRED + 1)) ∧
      (∀ (tag : BitVec 8) (w : Discard) (code : Nat), (w = .badType tag ∧ code = 2) ∨ (w = .badLen tag ∧ code = 3) → ∃ t,
        exec (.packetDiscarded w) s = .next t ∧ t.link.tags = s.link.tags ∧
        t.lastOut = some (lanePacket s.link.active ⟨0xE, tag, leBytes 1 code ++ leBytes 3 0⟩ (min (s.link.owed + 1) 64)
          ((s.link.crtot + 1) % 65536))) ∧
      (∀ w : Discard, w = .symbol ∨ w = .crc ∨ w = .abort → ∃ t, exec (.packetDiscarded w) s = .next t ∧
        t.link.tags = s.link.tags ∧ t.link.owed = s.link.owed + 1 ∧ t.link.crtot = (s.link.crtot + 1) % 65536 ∧
        toldCode s t 0xB 0 0x4101 ∧ t.pg F.HL_CNT_1_CRC_ERR = satTo 16 (s.pg F.HL_CNT_1_CRC_ERR + 1) ∧
        (w = .abort → t.pg F.HL_CNT_2_ABORTS = satTo 8 (s.pg F.HL_CNT_2_ABORTS + 1))))

/-- While the porch runs: a read burst of 1 to 16 is performed and answered, a single read with its status and value; a write
burst is performed and answered; another COUNT draws error 3 and performs nothing; an envelope that passes every check is
accepted and answered, one whose CRC fails is not answered but told with E-4001; FETCH_LATE takes the oldest completion
answer; a request abandoned after it was complete counts, one before does nothing but end DOZE; a request error draws its
error response, a CRC error with its count and E-4107. While the porch does not run nothing happens. Completes: SPI_READ,
SPI_WRITE, SPI_COMMAND, FETCH_LATE, SPI_ABANDON, SPI_REQUEST_ERROR. (R51, R324, R326, R406, R407, R408) -/
def Obligations.SpiFallback : Prop :=
  ∀ s : State,
    (s.porchRuns = false → (∀ (a : Word) (n : Nat), exec (.spiRead a n) s = .next s) ∧
      (∀ (a : Word) (d : List Word), exec (.spiWrite a d) s = .next s) ∧
      (∀ b : Envelope, exec (.spiCommand b) s = .next s) ∧ exec .fetchLate s = .next s ∧
      (∀ c : Bool, exec (.spiAbandon c) s = .next s) ∧ ∀ w : SpiError, exec (.spiRequestError w) s = .next s) ∧
    (s.porchRuns = true →
      (∀ (a : Word) (n : Nat), 1 ≤ n → n ≤ 16 → ∃ t, exec (.spiRead a n) s = .next t ∧
        t.lastOut = some (.spi (spiFrame 1 (readPayload (endDoze s) a n).1)) ∧
        t.slices = (readPayload (endDoze s) a n).2.slices ∧ t.hdrs = (readPayload (endDoze s) a n).2.hdrs ∧
        (n = 1 → t.lastOut = some (.spi (spiFrame 1 (burstHead a 1 ++
          [BitVec.ofNat 8 (statusCode (readAt (endDoze s) a.toNat).1), 0, 0, 0] ++
          leBytes 4 (readAt (endDoze s) a.toNat).2.1.toNat))))) ∧
      (∀ (a : Word) (d : List Word), 1 ≤ d.length → d.length ≤ 16 → ∃ t, exec (.spiWrite a d) s = .next t ∧
        t.lastOut = some (.spi (spiFrame 2 (writePayload (endDoze s) a d).1)) ∧
        t.slices = (writePayload (endDoze s) a d).2.slices ∧ t.hdrs = (writePayload (endDoze s) a d).2.hdrs) ∧
      (∀ (a : Word) (n : Nat), n = 0 ∨ 16 < n → ∃ t, exec (.spiRead a n) s = .next t ∧
        t.lastOut = some (.spi (spiFrame 0xFF (leBytes 4 3))) ∧ t.slices = (endDoze s).slices ∧ t.journal = s.journal) ∧
      (∀ (b : Envelope) (x : Exec), acceptable (endDoze s) b.bytes x → bankStays (endDoze s) b → ∃ t,
        exec (.spiCommand b) s = .next t ∧
        hasAccepted t x .spi 0 ∧ Emit.spi (spiFrame 3 (acceptedBytes x)) ∈ t.emitted) ∧
      (∀ b : Envelope, envelopeOk b.bytes = false → ∃ t, exec (.spiCommand b) s = .next t ∧ t.journal = s.journal ∧
        t.slices = (endDoze s).slices ∧ toldCode s t 2 1 0x4001) ∧
      (∃ t, exec .fetchLate s = .next t ∧ t.spi.late = s.spi.late.drop 1 ∧
        t.lastOut = some (.spi (spiFrame 4 (s.spi.late.head?.getD [])))) ∧
      (∃ t, exec (.spiAbandon true) s = .next t ∧ t.slices = (endDoze s).slices ∧ t.journal = s.journal ∧
        t.pg F.HL_SPI_CNT_ABANDONED = satTo 8 (s.pg F.HL_SPI_CNT_ABANDONED + 1)) ∧
      exec (.spiAbandon false) s = .next (endDoze s) ∧
      (∀ (w : SpiError) (code : Nat), (w = .crc ∧ code = 1) ∨ (w = .badOp ∧ code = 2) ∨ (w = .badLen ∧ code = 3) → ∃ t,
        exec (.spiRequestError w) s = .next t ∧ t.lastOut = some (.spi (spiFrame 0xFF (leBytes 4 code))) ∧
        t.slices = (endDoze s).slices ∧ t.journal = s.journal ∧
        (w = .crc → toldCode s t 0xC 0 0x4107 ∧
          t.pg F.HL_SPI_CNT_CRC_ERR = satTo 16 (s.pg F.HL_SPI_CNT_CRC_ERR + 1))))

/-- While the porch runs, an envelope whose CRC checks is answered BUSY_RETRY with reason 0x0043 while a replay runs, and with
reason 0x0042 while a take-over runs and no replay does; an envelope that passes every check is answered BUSY_RETRY with
reason 0x0044 where the acceptance commits before it fill the limit of R36. Each leaves the journal's entries, slots,
guestbook and commands and the slices as they were, but that DOZE ends, and counts in PCH_DSP_CNT_2.BUSY. That the commit
queue is a count of microseconds is the model's choice (notes/assumptions/136). (R36, R324, R328, R330, R331, R580) -/
def Obligations.BusyAnswers : Prop :=
  ∀ (s : State) (b : Envelope) (x : Exec), s.porchRuns = true → envelopeOk b.bytes = true →
    x = carried (endDoze s) b.bytes →
    (s.journal.replay = true → ∃ t, exec (.spiCommand b) s = .next t ∧ t.journal = s.journal ∧ t.slices = (endDoze s).slices ∧
      t.lastOut = some (.spi (spiFrame 3 (answerBytes x.source x.seq resBusy 0 0x0043 0 0))) ∧
      t.pg F.PCH_DSP_CNT_2_BUSY = satTo 8 (s.pg F.PCH_DSP_CNT_2_BUSY + 1)) ∧
    (s.journal.replay = false → s.journal.takeover = true → ∃ t, exec (.spiCommand b) s = .next t ∧ t.journal = s.journal ∧
      t.slices = (endDoze s).slices ∧ t.lastOut = some (.spi (spiFrame 3 (answerBytes x.source x.seq resBusy 0 0x0042 0 0))) ∧
      t.pg F.PCH_DSP_CNT_2_BUSY = satTo 8 (s.pg F.PCH_DSP_CNT_2_BUSY + 1)) ∧
    (passes (endDoze s) b.bytes x → acceptLimit (endDoze s) < max 8 s.journal.ahead → ∃ t, exec (.spiCommand b) s = .next t ∧
      t.journal = s.journal ∧ t.slices = (endDoze s).slices ∧
      t.lastOut = some (.spi (spiFrame 3 (answerBytes x.source x.seq resBusy 0 0x0044 0 0))) ∧
      t.pg F.PCH_DSP_CNT_2_BUSY = satTo 8 (s.pg F.PCH_DSP_CNT_2_BUSY + 1))

/-- While a port is active and its wait is over: an acknowledged frame is counted, emitted with its stuff bits and CRC, and
removed, TEC falls by 1, the host slot shows RESULT 2, a SYNC is followed up, a DELAY_REQ has its time, a PROBE ends ALONE with
E-120A; lost arbitration keeps the frame; a bit, stuff or form error raises TEC by 8, sends its error flag and counts, an
acknowledgement error raises it below 128 only; the frame stays for another attempt or, after 1 + RETRY, is removed with
E-4204, or with ALONE and E-4203 when nobody ever answered; TEC above 255 is BUS_OFF with E-8202. After its own frame or error
flag an ERROR_PASSIVE port waits eight bits more. A PROBE is prepared while ALONE; integration and recovery end in their
states; a dominant timeout is told with E-8207. A receive error sends an error flag and moves REC and its counter; a good
frame is acknowledged, moves REC and ends ALONE. Completes: FRAME_TX_END, PROBE_SEND, INTEGRATION_COMPLETE, BUS_OFF_RECOVERY,
DOMINANT_TIMEOUT, FRAME_RECEIVE_ERROR, OTHER_FRAME_RECEIVED. (R420, R423, R427, R428, R429, R430, R431, R433, R434, R440) -/
def Obligations.BusErrors : Prop :=
  ∀ (s : State) (port : Sys2Proof.Port) (i : Fin 2), i = Port.index port →
    (∀ (o : TxOutcome) (sof : Nat), portActive s i = false ∨ (s.port i).wait ≠ 0 ∨ currentTx (s.port i) = none →
      exec (.frameTxEnd port o sof) s = .next s) ∧
    (∀ (pl : TxPlace) (k : TxFrame) (sof : Nat), portActive s i = true → (s.port i).wait = 0 →
      currentTx (s.port i) = some (pl, k) → (s.port i).tec ≤ 255 → k.cancel = false →
      (∃ t, exec (.frameTxEnd port .acked sof) s = .next t ∧ (t.port i).tec = (s.port i).tec - 1 ∧
        t.pg F.FB_FRAMES_TX i.val = (s.pg F.FB_FRAMES_TX i.val + 1) % 65536 ∧ Emit.frame port (wireFrame k.f) ∈ t.emitted ∧
        (t.port i).wait = (3 + (if (t.port i).state = 3 then 8 else 0)) * bitNs s i ∧
        (∀ n, pl = .queue n → (t.port i).txq = (s.port i).txq.eraseIdx n) ∧
        (pl = .host → (t.port i).host = none ∧ t.pg F.FB_TX_STAT_RESULT i.val = 2 ∧
          t.pg F.FB_TX_STAT_ATTEMPTS i.val = satTo 8 (k.tries + 1) ∧ t.isrBit (portPage i) EVT.FB_TX = true) ∧
        (pl = .probe → (t.port i).probe = none ∧ ((s.port i).alone = true → (t.port i).alone = false ∧
          toldCode s t (portPage i) 0 0x120A)) ∧
        (∀ n, pl = .time n → k.f.kind = 0x10 → ∃ l, (t.port i).timeTx = l ++ [unsent (ownFrame s i 1 0x11 0xFF
          (leBytes 2 (leAt k.f.data 0 2) ++ leBytes 1 (bit1 s.trusted) ++ leBytes 1 0 ++ stampBytes sof ++
            leBytes 2 0))]) ∧
        (∀ n, pl = .time n → k.f.kind = 0x12 →
          (t.port i).slave.req = some (leAt k.f.data 0 2, (sof : Rat) / 80))) ∧
      (∀ n, pl = .queue n → ∃ t, exec (.frameTxEnd port .arbLost sof) s = .next t ∧
        (t.port i).txq = (s.port i).txq.set n { k with tries := k.tries + 1 } ∧ (t.port i).tec = (s.port i).tec ∧
        t.pg F.FB_CNT_3_ARB_LOST i.val = satTo 16 (s.pg F.FB_CNT_3_ARB_LOST i.val + 1)) ∧
      (∀ (o : TxOutcome) (c : Fld) (n : Nat), pl = .queue n → (o = .bitError ∧ c = F.FB_CNT_2_BIT) ∨
        (o = .stuffError ∧ c = F.FB_CNT_2_STUFF) ∨ (o = .formError ∧ c = F.FB_CNT_2_FORM) → ∃ t,
        exec (.frameTxEnd port o sof) s = .next t ∧ (t.port i).tec = min ((s.port i).tec + 8) 256 ∧
        Emit.errorFlag port (decide ((s.port i).state = 2)) ∈ t.emitted ∧
        (t.port i).wait = (17 + (if (s.port i).state = 3 then 8 else 0)) * bitNs s i ∧
        t.pg c i.val = satTo 8 (s.pg c i.val + 1) ∧
        (255 < (s.port i).tec + 8 → (t.port i).state = 4 ∧ toldCode s t (portPage i) 0 0x8202) ∧
        (k.fails < s.pg F.FB_CFG_RETRY i.val → (t.port i).txq =
          (s.port i).txq.set n { k with tries := k.tries + 1, fails := k.fails + 1, allAck := false }) ∧
        (s.pg F.FB_CFG_RETRY i.val ≤ k.fails → (t.port i).txq = (s.port i).txq.eraseIdx n ∧
          toldCode s t (portPage i) k.f.kind.toNat 0x4204 ∧
          t.pg F.FB_CNT_1_FAILED i.val = satTo 8 (s.pg F.FB_CNT_1_FAILED i.val + 1))) ∧
      (∀ n, pl = .queue n → ∃ t, exec (.frameTxEnd port .ackError sof) s = .next t ∧
        (t.port i).tec = (if (s.port i).tec < 128 then (s.port i).tec + 8 else (s.port i).tec) ∧
        t.pg F.FB_CNT_3_ACK i.val = satTo 8 (s.pg F.FB_CNT_3_ACK i.val + 1) ∧
        (k.fails < s.pg F.FB_CFG_RETRY i.val → (t.port i).txq =
          (s.port i).txq.set n { k with tries := k.tries + 1, fails := k.fails + 1 }) ∧
        (s.pg F.FB_CFG_RETRY i.val ≤ k.fails → k.allAck = true → (t.port i).txq = (s.port i).txq.eraseIdx n ∧
          t.pg F.FB_CNT_1_NOACK i.val = satTo 8 (s.pg F.FB_CNT_1_NOACK i.val + 1) ∧
          (k.good = false → (s.port i).alone = false → (t.port i).alone = true ∧
            toldCode s t (portPage i) 0 0x4203)))) ∧
    ((s.port i).alone = true → portActive s i = true → ∃ t, exec (.probeSend port) s = .next t ∧
      (t.port i).probe = some (unsent (ownFrame s i 0xF 0x30 0xFF [])) ∧ t.slices = s.slices) ∧
    ((s.port i).alone = false ∨ portActive s i = false → exec (.probeSend port) s = .next s) ∧
    (s.porchRuns = true → (s.port i).state = 1 → ∃ t, exec (.integrationComplete port) s = .next t ∧
      (t.port i).domto = false ∧ t.isrBit (portPage i) EVT.FB_STATE = true ∧ (t.port i).state =
        (if 255 < (s.port i).tec then 4 else if 128 ≤ (s.port i).tec ∨ 128 ≤ (s.port i).rec_ then 3 else 2)) ∧
    (s.porchRuns = true → (s.port i).state = 4 → ∃ t, exec (.busOffRecovery port) s = .next t ∧ (t.port i).state = 2 ∧
      (t.port i).tec = 0 ∧ (t.port i).rec_ = 0 ∧ (t.port i).domto = false ∧
      t.isrBit (portPage i) EVT.FB_STATE = true) ∧
    (portActive s i = true → ∃ t, exec (.dominantTimeout port true) s = .next t ∧ (t.port i).state = 4 ∧
      (t.port i).tec = 256 ∧ (t.port i).domto = true ∧ toldCode s t (portPage i) 0 0x8207) ∧
    (s.porchRuns = true → (s.port i).state ≠ 0 → ∃ t, exec (.dominantTimeout port false) s = .next t ∧
      (t.port i).domto = true ∧ toldCode s t (portPage i) 1 0x8207 ∧
      ((s.port i).state ≠ 4 → (t.port i).state = 1 ∧ (t.port i).alone = false) ∧
      ((s.port i).state = 4 → (t.port i).state = 4)) ∧
    (∀ (e : RxError) (dom : Bool), (portActive s i = false → exec (.frameReceiveError port e dom) s = .next s) ∧
      (portActive s i = true → ∃ t, exec (.frameReceiveError port e dom) s = .next t ∧
        (t.port i).rec_ = min ((s.port i).rec_ + 1 + (if dom = true ∧ (s.port i).state = 2 then 8 else 0)) 255 ∧
        Emit.errorFlag port (decide ((s.port i).state = 2)) ∈ t.emitted ∧ (t.port i).wait = 17 * bitNs s i ∧
        (t.port i).rx = (s.port i).rx ∧ ∀ c, c = (match e with
          | .stuff => F.FB_CNT_2_STUFF
          | .crc => F.FB_CNT_2_CRC
          | .form => F.FB_CNT_2_FORM) → t.pg c i.val = satTo 8 (s.pg c i.val + 1))) ∧
    (∀ bits : List Bool, (portActive s i = false → exec (.otherFrameReceived port bits) s = .next s) ∧
      (∀ f, portActive s i = true → hearing s i bits = .good f → (s.port i).rec_ ≤ 255 → ∃ t,
        exec (.otherFrameReceived port bits) s = .next t ∧ Emit.ack port ∈ t.emitted ∧
        (t.port i).wait = 3 * bitNs s i ∧ (t.port i).rx = (s.port i).rx ∧ t.journal = s.journal ∧
        t.pg F.FB_FRAMES_RX i.val = (s.pg F.FB_FRAMES_RX i.val + 1) % 65536 ∧
        (t.port i).rec_ = (if 127 < (s.port i).rec_ then 119 else (s.port i).rec_ - 1) ∧
        (t.port i).alone = false) ∧
      (∀ e, hearing s i bits = .bad e →
        exec (.otherFrameReceived port bits) s = exec (.frameReceiveError port e false) s))

/-- On an active port, good frames addressed to it: a COMMAND segment opens, continues or completes the transfer of its node;
the envelope a segment completes is judged, and accepted and answered when it passes every check. A host frame is queued for
the host with its time, or dropped with E-4205 when the FIFO is full. A valid OUTDOOR frame sets T_o of every running zone,
restarts its age and ends its staleness; an invalid one changes no zone. A frame that is not good is a receive error. A
transfer timeout discards the transfer of its node with E-4206. A port whose configuration command has finished and whose
answer has left takes its configuration, drops what is queued, gives a frame in the host slot its NODE and FAST (the model's
choice, log 169) and begins anew. Completes: BUS_COMMAND_SEGMENT, HOST_FRAME, OUTDOOR, XFER_TIMEOUT, BUS_PORT_RECONFIGURE.
(R381, R414, R421, R422, R423, R432, R436, R437, R438, R439, R455) -/
def Obligations.BusTraffic : Prop :=
  ∀ (s : State) (port : Sys2Proof.Port) (i : Fin 2), i = Port.index port →
    (∀ (bits : List Bool) (f : BusFrame) (u : State), portActive s i = true → hearing s i bits = .good f → forUs s i f = true →
      u = endDoze (rxGood s i) →
      (f.kind = 1 →
        (∀ v, takeSegment u i f = (v, none) → exec (.busCommandSegment port bits) s = .next v) ∧
        (∀ (v : State) (b : List Byte) (x : Exec), takeSegment u i f = (v, some b) → acceptable v b x →
          bankStays v { bytes := b } → ∃ t,
          exec (.busCommandSegment port bits) s = .next t ∧
          hasAccepted t x (match port with
            | .a => .busA
            | .b => .busB) f.src.toNat ∧
          ((s.port i).txq.length < Config.busQueue → (t.port i).txq.getLast? =
            some (unsent (ownFrame s i 4 2 f.src.toNat (acceptedBytes x))))) ∧
        (3 ≤ f.data.length → leAt f.data 1 1 = 0 → (∀ y ∈ (s.port i).xfers, y.node ≠ f.src) → ∃ t,
          exec (.busCommandSegment port bits) s = .next t ∧ (t.port i).xfers.getLast? =
            some ⟨f.src, BitVec.ofNat 8 (leAt f.data 0 1), 1, f.data.drop 2⟩ ∧ t.journal = s.journal)) ∧
      (0x80 ≤ f.kind.toNat → ∀ sof : Nat,
        ((s.port i).rx.length < Config.busQueue → ∃ t, exec (.hostFrame port bits sof) s = .next t ∧
          (t.port i).rx = (s.port i).rx ++ [(f, sof / 80)] ∧ t.isrBit (portPage i) EVT.FB_RX = true ∧
          t.slices = u.slices) ∧
        (Config.busQueue ≤ (s.port i).rx.length → ∃ t, exec (.hostFrame port bits sof) s = .next t ∧
          (t.port i).rx = (s.port i).rx ∧ toldCode s t (portPage i) 0 0x4205 ∧
          t.pg F.FB_CNT_1_DROPPED i.val = satTo 8 (s.pg F.FB_CNT_1_DROPPED i.val + 1))) ∧
      (f.kind = 0x20 →
        (f.data.length = 4 → bitOf (leAt f.data 2 1) 0 = true → leAt f.data 0 2 ≠ 0x8000 → ∃ t,
          exec (.outdoor port bits) s = .next t ∧ ∀ p,
            ((s.sl p).running = true → t.g p F.ZL_OUTDOOR_T_O = leAt f.data 0 2 ∧ t.g p F.ZL_OUTDOOR_AGE = 0 ∧
              (t.lp p).stale = false ∧ t.gb p F.ZP_STAT_OUTDOOR_STALE = false) ∧
            ((s.sl p).running = false → t.sl p = u.sl p)) ∧
        (f.data.length ≠ 4 ∨ bitOf (leAt f.data 2 1) 0 = false ∨ leAt f.data 0 2 = 0x8000 →
          exec (.outdoor port bits) s = .next u))) ∧
    (∀ (bits : List Bool) (e : RxError) (sof : Nat), hearing s i bits = .bad e →
      exec (.busCommandSegment port bits) s = exec (.frameReceiveError port e false) s ∧
      exec (.hostFrame port bits sof) s = exec (.frameReceiveError port e false) s ∧
      exec (.outdoor port bits) s = exec (.frameReceiveError port e false) s) ∧
    (∀ (bits : List Bool) (sof : Nat), portActive s i = false → exec (.busCommandSegment port bits) s = .next s ∧
      exec (.hostFrame port bits sof) s = .next s ∧ exec (.outdoor port bits) s = .next s) ∧
    (∀ node : BitVec 8,
      ((∃ y ∈ (s.port i).xfers, y.node = node) → ∃ t, exec (.xferTimeout port node) s = .next t ∧
        (t.port i).xfers = (s.port i).xfers.filter (fun y => y.node != node) ∧ t.journal = s.journal ∧
        toldCode s t (portPage i) node.toNat 0x4206 ∧
        t.pg F.FB_CNT_3_XFER_ABANDONED i.val = satTo 8 (s.pg F.FB_CNT_3_XFER_ABANDONED i.val + 1)) ∧
      ((∀ y ∈ (s.port i).xfers, y.node ≠ node) → exec (.xferTimeout port node) s = .next s)) ∧
    (∀ (w : Word) (n : Nat) (head : List Byte), (s.port i).cfgNext = some (w, n, head) →
      (s.runningOf n = none → answerWaits (s.port i) head = false → ∃ t, exec (.busPortReconfigure port) s = .next t ∧
        t.regs.word R.FB_CFG i.val = w ∧ (t.port i).state = (if w.getLsbD 31 then 1 else 0) ∧
        (t.port i).txq = [] ∧ (t.port i).rx = [] ∧ (t.port i).tec = 0 ∧ (t.port i).rec_ = 0 ∧
        (t.port i).alone = false ∧ (t.port i).domto = false ∧ (t.port i).cfgNext = none ∧
        (t.port i).host = (s.port i).host.map (readdress t i) ∧ t.pg F.FB_CNT_1_DROPPED i.val =
          satTo 8 (s.pg F.FB_CNT_1_DROPPED i.val + ((s.port i).txq.length + (s.port i).rx.length))) ∧
      ((s.runningOf n).isSome = true ∨ answerWaits (s.port i) head = true →
        exec (.busPortReconfigure port) s = .next s)) ∧
    ((s.port i).cfgNext = none → exec (.busPortReconfigure port) s = .next s)

/-- A master port that may send puts the next SYNC in its place. A SYNC notes its sender; at a master port it is told with
E-4208 and a lower node is yielded to; at the source port one from the lowest node is followed and timed. A FOLLOW_UP of the
SEQ from the node followed completes the pair; trusted at a trusted module, an offset within 1 s is slewed. A DELAY_REQ is
answered by a master port, sent when due by the source port; a DELAY_RESP within 0 to 5 microseconds gives the delay. A frame
that is not good is a receive error. A lost SYNC ends LOCK with E-4209, and begins to hold with E-4407. The timeouts discard
the SYNC and end the yield. Completes: SYNC_SEND, SYNC, FOLLOW_UP, FOLLOW_UP_TIMEOUT, DELAY_REQ, DELAY_REQ_SEND, DELAY_RESP,
SYNC_LOST, YIELD_END. (R422, R440, R441, R442, R443, R444, R472, R473) -/
def Obligations.TimeProtocol : Prop :=
  ∀ (s : State) (port : Sys2Proof.Port) (i : Fin 2), i = Port.index port →
    (sendsSync s i = true → ∃ t l, exec (.syncSend port) s = .next t ∧
      (t.port i).seq = ((s.port i).seq + 1) % 65536 ∧ (t.port i).timeTx =
        l ++ [unsent (ownFrame s i 1 0x10 0xFF (leBytes 2 (((s.port i).seq + 1) % 65536)))]) ∧
    (sendsSync s i = false → exec (.syncSend port) s = .next s) ∧
    (∀ (bits : List Bool) (f : BusFrame), portActive s i = true → hearing s i bits = .good f → forUs s i f = true →
      (∀ sof : Nat, f.kind = 0x10 → f.data.length = 2 → ∃ t, exec (.sync port bits sof) s = .next t ∧
        (∃ m ∈ (t.port i).slave.masters, m.node = f.src.toNat ∧ m.last = s.now) ∧
        (isMaster s i = true → toldCode s t (portPage i) f.src.toNat 0x4208 ∧
          t.isrBit (portPage i) EVT.FB_MASTER = true ∧
          (f.src.toNat < nodeOf s i → (t.port i).yield = some f.src.toNat)) ∧
        (s.srcPort ≠ some i → (t.port i).slave.sync = (s.port i).slave.sync) ∧
        (s.srcPort = some i → (∀ m ∈ (s.port i).slave.masters, f.src.toNat ≤ m.node) →
          t.pg F.FB_TSYNC_STAT_MASTER i.val = f.src.toNat ∧
          (t.port i).slave.sync = some (leAt f.data 0 2, (sof : Rat) / 80) ∧
          (t.port i).slave.count = ((s.port i).slave.count + 1) % 16 ∧
          ((s.port i).slave.count = 15 → (t.port i).slave.reqDue = true))) ∧
      (∀ (seq : Nat) (t1 t2 : Rat), f.kind = 0x11 → f.data.length = 16 → s.srcPort = some i →
        s.pg F.FB_TSYNC_STAT_MASTER i.val = f.src.toNat → (s.port i).slave.sync = some (seq, t2) → t1 = stampOf f →
        (seq = leAt f.data 0 2 → ∃ t, exec (.followUp port bits) s = .next t ∧ (t.port i).slave.sync = none ∧
          (t.port i).slave.pair = some (seq, t1, t2) ∧ t.pg F.FB_TSYNC_STAT_SEQ i.val = seq ∧
          t.pb F.FB_TSYNC_STAT_TRUSTED i.val = bitOf (leAt f.data 2 1) 0 ∧
          ∀ th : Int, th = Config.toUnits ((t2 - t1 - medianRat (s.port i).slave.delays) * 100000000) →
            bitOf (leAt f.data 2 1) 0 = true → s.trusted = true → -secFine < th → th < secFine →
            -secFine < s.time.slew - th → s.time.slew - th < secFine → t.time.slew = s.time.slew - th) ∧
        (seq ≠ leAt f.data 0 2 → ∃ t, exec (.followUp port bits) s = .next t ∧ t.time = s.time ∧
          (t.port i).slave = (s.port i).slave)) ∧
      (∀ sof : Nat, f.kind = 0x12 → isMaster s i = true → f.data.length = 4 → f.dst.toNat = nodeOf s i → ∃ t l,
        exec (.delayReq port bits sof) s = .next t ∧ (t.port i).timeTx = l ++ [unsent (ownFrame s i 2 0x13 f.src.toNat
          (leBytes 2 (leAt f.data 0 2) ++ leBytes 1 f.src.toNat ++ leBytes 1 0 ++ stampBytes sof ++ leBytes 2 0))]) ∧
      (∀ (seq n : Nat) (t1 t2 t3 d : Rat), f.kind = 0x13 → f.data.length = 16 → s.srcPort = some i →
        leAt f.data 2 1 = nodeOf s i → s.pg F.FB_TSYNC_STAT_MASTER i.val = f.src.toNat →
        (s.port i).slave.req = some (seq, t3) → (s.port i).slave.pair = some (n, t1, t2) → seq = leAt f.data 0 2 →
        d = ((t2 - t1) + (stampOf f - t3)) / 2 → ∃ t, exec (.delayResp port bits) s = .next t ∧
          (t.port i).slave.req = none ∧
          (0 ≤ d → d ≤ 5 → (t.port i).slave.delays = keepLast 5 ((s.port i).slave.delays ++ [d]) ∧
            t.pb F.FB_TSYNC_STAT_DVALID i.val = true) ∧
          (d < 0 ∨ 5 < d → (t.port i).slave.delays = (s.port i).slave.delays))) ∧
    (∀ (bits : List Bool) (e : RxError) (sof : Nat), hearing s i bits = .bad e →
      exec (.sync port bits sof) s = exec (.frameReceiveError port e false) s ∧
      exec (.followUp port bits) s = exec (.frameReceiveError port e false) s ∧
      exec (.delayReq port bits sof) s = exec (.frameReceiveError port e false) s ∧
      exec (.delayResp port bits) s = exec (.frameReceiveError port e false) s) ∧
    (∀ (bits : List Bool) (sof : Nat), portActive s i = false → exec (.sync port bits sof) s = .next s ∧
      exec (.followUp port bits) s = .next s ∧ exec (.delayReq port bits sof) s = .next s ∧
      exec (.delayResp port bits) s = .next s) ∧
    (∃ t, exec (.followUpTimeout port) s = .next t ∧ t.slices = s.slices ∧ t.time = s.time ∧
      (t.port i).slave = { (s.port i).slave with sync := none }) ∧
    ((s.port i).slave.reqDue = true → s.srcPort = some i → portActive s i = true → ∃ t n l,
      exec (.delayReqSend port) s = .next t ∧ (t.port i).slave.reqDue = false ∧
      (∀ y, (s.port i).slave.sync = some y → n = y.1) ∧ (t.port i).timeTx = l ++ [unsent (ownFrame s i 2 0x12
        (s.pg F.FB_TSYNC_STAT_MASTER i.val) (leBytes 2 n ++ leBytes 2 0))]) ∧
    ((s.port i).slave.reqDue = false ∨ s.srcPort ≠ some i ∨ portActive s i = false →
      exec (.delayReqSend port) s = .next s) ∧
    (s.porchRuns = true → s.srcPort = some i → ∃ t, exec (.syncLost port) s = .next t ∧
      t.pb F.FB_TSYNC_STAT_LOCK i.val = false ∧ t.pg F.FB_TSYNC_STAT_MASTER i.val = 0xFF ∧
      (t.port i).slave.sync = none ∧ (t.port i).slave.run = 0 ∧ toldCode s t (portPage i) 0 0x4209 ∧
      (s.pb F.FB_TSYNC_STAT_LOCK i.val = true → t.pb F.PCH_TS_STAT_HOLD = true ∧
        (s.pb F.PCH_TS_STAT_HOLD = false → toldCode s t 8 (i.val + 1) 0x4407 ∧
          t.pg F.PCH_TS_CNT_HOLDS = satTo 8 (s.pg F.PCH_TS_CNT_HOLDS + 1)))) ∧
    (s.porchRuns = false ∨ s.srcPort ≠ some i → exec (.syncLost port) s = .next s) ∧
    (∃ t, exec (.yieldEnd port) s = .next t ∧ t.port i = { s.port i with yield := none } ∧ t.time = s.time)

/-- The oldest announced step is applied at its edge: house time moves by its offset, the slew ends unless it is kept, every
running slice's epoch moves with it, the step is shown, counted and told with E-1404 or E-1405, and its command is DONE;
with none announced nothing happens. A completed slew is in house time. A discipline message, after what the slice's oscillator
has gained, aligns a slice, then judges its difference from house time: LOCK is lost beyond 1,000 ns with E-440B, gained after
16 within 50 ns. A trim window takes the new TRIM and band, shows CELL_ERR as 0x8000 outside a locked bus window and asks for a
rewrite where calendar and house time differ by more than 100 microseconds; the rewrite writes house time into the calendar.
Completes: STEP_EDGE, SLEW_COMPLETE, DISCIPLINE_MESSAGE, TRIM_WINDOW, CALENDAR_REWRITE. (R458, R460, R467, R471, R473, R474,
R475, R477, R480) -/
def Obligations.HouseTimeWork : Prop :=
  ∀ s : State,
    (s.time.pend = [] → exec .stepEdge s = .next s) ∧
    (∀ (q : PendStep) (l : List PendStep), s.time.pend = q :: l → 0 ≤ s.fine + q.offset →
      s.fine + q.offset < 2 ^ 64 * usFine → ∃ t, exec .stepEdge s = .next t ∧ t.fine = s.fine + q.offset ∧
        t.time.pend = l ∧ t.time.slew = (if q.keepSlew then s.time.slew else 0) ∧
        t.trusted = (s.trusted || q.trust) ∧
        (∀ p, (s.sl p).running = true → (t.sl p).time.epoch = (s.sl p).time.epoch + q.offset) ∧
        (∀ p, (s.sl p).running = false → (t.sl p).time.missed =
          (s.sl p).time.missed ++ [(s.now, ((s.fine + q.offset) / usFine).toNat, q.alarm)]) ∧
        t.regs.int F.PCH_TS_STEP_STEP = satSigned 32 (Int.tdiv q.offset (secFine / 1000)) ∧
        t.pg F.PCH_TS_CNT_STEPS = satTo 16 (s.pg F.PCH_TS_CNT_STEPS + 1) ∧
        toldCode s t 8 (stepCtx q.offset) (if 0 ≤ q.offset then 0x1404 else 0x1405) ∧
        (∀ f, q.hour = some f → toldCode s t 8 (if f then 1 else 0xFFFF) 0x140A) ∧
        (∀ n r, q.lseq = some n → s.runningOf n = some r → r.internal = false → markersOf s n = [] →
          t.porchMarker n = some (resDone, 0, 0))) ∧
    (s.time.slew = 0 → exec .slewComplete s = .next s) ∧
    (s.time.slew ≠ 0 → 0 ≤ s.fine + s.time.slew → s.fine + s.time.slew < 2 ^ 64 * usFine → ∃ t,
      exec .slewComplete s = .next t ∧ t.fine = s.fine + s.time.slew ∧ t.time.slew = 0 ∧ t.slices = s.slices ∧
      t.isrBit 8 EVT.TS_SLEW = true) ∧
    (∀ (p : Phys) (gain diff : Int) (u : State), (s.sl p).running = true → s.porchRuns = true → u = driftBase s p gain →
      diff = sliceDiff u p →
      (s.time.aligned = false → exec (.disciplineMessage p gain) s = .next u) ∧
      (s.time.aligned = true → (s.sl p).time.aligned = false → ∃ t, exec (.disciplineMessage p gain) s = .next t ∧
        othersKept s t p ∧ (t.sl p).time.aligned = true ∧ (t.sl p).time.missed = [] ∧
        (t.sl p).time.epoch + (t.sl p).time.base = s.fine ∧ (t.sl p).time.base = (u.sl p).time.base) ∧
      (s.time.aligned = true → (s.sl p).time.aligned = true →
        (diff < -1000 ∨ 1000 < diff → ∃ t, exec (.disciplineMessage p gain) s = .next t ∧ othersKept s t p ∧
          (t.sl p).time.lock = false ∧ (t.sl p).time.run = 0 ∧ toldCode s t (slicePage p 0xD) p.val 0x440B ∧
          t.pg F.PCH_TS_CNT_DISC = satTo 8 (s.pg F.PCH_TS_CNT_DISC + 1) ∧
          ((s.sl p).time.lock = true → t.g p F.ZX_CNT_UNLOCKS = satTo 16 (s.g p F.ZX_CNT_UNLOCKS + 1))) ∧
        (-50 ≤ diff → diff ≤ 50 → ∃ t, exec (.disciplineMessage p gain) s = .next t ∧ othersKept s t p ∧
          (t.sl p).time.run = (s.sl p).time.run + 1 ∧ t.gi p F.ZX_ERR_ERR = diff ∧ t.coll = s.coll ∧
          (t.sl p).time.lock = ((s.sl p).time.lock || decide (16 ≤ (s.sl p).time.run + 1))) ∧
        (50 < diff.natAbs → diff.natAbs ≤ 1000 → ∃ t, exec (.disciplineMessage p gain) s = .next t ∧
          othersKept s t p ∧ (t.sl p).time.run = 0 ∧ (t.sl p).time.lock = (s.sl p).time.lock ∧ t.coll = s.coll))) ∧
    (∃ t, exec .trimWindow s = .next t ∧ t.cellar.trim = s.cellar.trimNext ∧ t.cellar.band = s.cellar.bandNext ∧
      t.fine = s.fine ∧ (s.srcPort = none ∨ s.pb F.PCH_TS_STAT_LOCK = false ∨ s.time.lockAll = false →
        t.pg F.PCH_TS_RATE_CELL_ERR = 0x8000) ∧
      (s.porchRuns = true → 100 * usFine < (calFine s.cellar - s.fine).natAbs →
        t.pb F.PCH_TS_STAT_ALIGN_PEND = true)) ∧
    (s.porchRuns = true → s.pb F.PCH_TS_STAT_ALIGN_PEND = true → s.cellar.locked = false → ∃ t,
      exec .calendarRewrite s = .next t ∧ t.pb F.PCH_TS_STAT_ALIGN_PEND = false ∧ t.time = s.time ∧
      ((t.cellar.hour : Int) * 3600 + t.cellar.min * 60 + t.cellar.sec) = s.fine / secFine % 86400 ∧
      t.cellar.min < 60 ∧ t.cellar.sec < 60 ∧
      (t.cellar.sub : Int) = s.fine % secFine * 32768 / secFine ∧
      t.cellar.month = (dateOf (s.fine / secFine / 86400)).month ∧
      t.cellar.day = (dateOf (s.fine / secFine / 86400)).day) ∧
    (s.porchRuns = false ∨ s.pb F.PCH_TS_STAT_ALIGN_PEND = false ∨ s.cellar.locked = true →
      exec .calendarRewrite s = .next s)

/-- A calendar second moves a valid calendar on by exactly one second, to a valid calendar, announcing no step; the last second
of 2399 brings year 2000, ends trust and announces the step. An oscillator stop or a loss of retention ends trust with its
cause and its error, told now or owed to the porch; the loss of retention resets the calendar, the wake log, TRIM and the
band. A rail below 3.0 V locks the interface, one that passes 2.9 V switches to the cell, each counted once; only a rail
that stayed above 3.1 V reconnects. A cell measurement is kept while the porch runs, below 2,500 mV with E-4409. Completes:
CALENDAR_TICK, OSCILLATOR_STOP, RETENTION_RECOVERY, RAIL_LOCKOUT, RAIL_SWITCHOVER, RAIL_RECOVER, RAIL_RECONNECT, CELL_MEASURE.
(R457, R461, R464, R465, R466, R467, R469, R470) -/
def Obligations.CellarWork : Prop :=
  ∀ s : State,
    (s.cellar.invalid = false →
      (calSeconds s.cellar + 1 < 400 * 31556952 → ∃ t, exec .calendarTick s = .next t ∧
        calSeconds t.cellar = calSeconds s.cellar + 1 ∧ t.cellar.invalid = false ∧ t.cellar.sub = 0 ∧
        t.cellar.stopped = false ∧ t.time = s.time ∧ t.trusted = s.trusted) ∧
      (s.cellar.year = 399 → s.cellar.month = 12 → s.cellar.day = 31 → s.cellar.hour = 23 → s.cellar.min = 59 →
        s.cellar.sec = 59 → ∃ t, exec .calendarTick s = .next t ∧ t.cellar.year = 0 ∧ t.cellar.month = 1 ∧
        t.cellar.day = 1 ∧ t.cellar.hour = 0 ∧ t.cellar.min = 0 ∧ t.cellar.sec = 0 ∧ t.trusted = false ∧
        t.cellar.cause = 4 ∧
        (s.porchRuns = true → t.time.pend.length = s.time.pend.length + 1 ∧ t.time.slew = 0))) ∧
    (∃ t, exec .oscillatorStop s = .next t ∧ t.cellar.stopped = true ∧ t.cellar.oscStop = true ∧ t.trusted = false ∧
      t.cellar.cause = 3 ∧ t.isrBit 0x41 EVT.TRUST_LOSS = true ∧
      (s.porchRuns = true → toldCode s t 0x41 0 0x8401) ∧ (s.porchRuns = false → t.cellar.oweOsc = true)) ∧
    (∃ t, exec .retentionRecovery s = .next t ∧ calSeconds t.cellar = 0 ∧ t.cellar.sub = 0 ∧ t.cellar.retLost = true ∧
      t.cellar.queue = [] ∧ t.cellar.wlog = [] ∧ t.cellar.trim = 0 ∧ t.cellar.band = 2 ∧ t.trusted = false ∧
      t.cellar.cause = 2 ∧ (s.porchRuns = true → toldCode s t 0x41 0 0x8402) ∧
      (s.porchRuns = false → t.cellar.oweRet = true)) ∧
    (∃ t, exec .railLockout s = .next t ∧ t.cellar.locked = true ∧ t.cellar.below31 = true ∧
      t.cellar.onCell = s.cellar.onCell ∧ t.pg F.CLR_SW_CNT_LOCKOUTS = (if s.cellar.locked
        then s.pg F.CLR_SW_CNT_LOCKOUTS else satTo 16 (s.pg F.CLR_SW_CNT_LOCKOUTS + 1))) ∧
    (∃ t, exec .railSwitchover s = .next t ∧ t.cellar.locked = true ∧ t.cellar.onCell = true ∧
      t.pg F.CLR_SW_CNT_SWITCHES = (if s.cellar.onCell then s.pg F.CLR_SW_CNT_SWITCHES
        else satTo 16 (s.pg F.CLR_SW_CNT_SWITCHES + 1))) ∧
    (∃ t, exec .railRecover s = .next t ∧ t.cellar = { s.cellar with below31 := false } ∧ t.regs = s.regs) ∧
    (s.cellar.below31 = true ∨ s.cellar.locked = false → exec .railReconnect s = .next s) ∧
    (s.cellar.below31 = false → s.cellar.locked = true → ∃ t, exec .railReconnect s = .next t ∧
      t.cellar = { s.cellar with locked := false, onCell := false } ∧ t.isrBit 0x42 EVT.SUP_LOCKED = true ∧
      (s.cellar.onCell = true → t.isrBit 0x42 EVT.SUP_CELL = true)) ∧
    (∀ mv : Nat, (s.porchRuns = false → exec (.cellMeasure mv) s = .next s) ∧
      (s.porchRuns = true → ∃ t, exec (.cellMeasure mv) s = .next t ∧
        t.cellar = { s.cellar with cellMv := min mv 4095 } ∧ (mv < 2500 → toldCode s t 0x42 mv 0x4409) ∧
        (2500 ≤ mv → t.coll = s.coll)))

/-- A bus frame as its sender puts it on the wire is the frame that a receiver finds: for every frame of at most 32 bytes, and
FAST 0 where the port has no data rate, reading its stuffed part gives that frame with every field and a good CRC. The stuffed
part is at most 405 levels long and holds no six equal levels in a row. (R417, R418, R419, R427) -/
def Obligations.FramesCrossTheWire : Prop :=
  ∀ (f : BusFrame) (fastOk : Bool), f.data.length ≤ 32 → (f.fast = true → fastOk = true) →
    readFrame fastOk (stuffed f) = .good f ∧ (stuffed f).length ≤ 405 ∧
      ∀ (k : Nat) (b : Bool), ((stuffed f).drop k).take 6 ≠ List.replicate 6 b
end

