-- ==== Sys2Proof/Laws/Held.lean ====
section
/-! SUPPORT. The parts of the state that few operations change, taken together: one equation an operation says that it leaves
all of them alone. An operation that changes one of them has its equations over the others. -/
namespace Sys2Proof.Machine

/-- What most operations leave alone: the queue of commands, the zone-to-slice map, the test access port, the module state. -/
structure Held where
  pending : List Instr
  map     : Vector Phys 64
  tap     : Tap
  modst   : ModuleSt
  deriving DecidableEq, Repr

/-- The held parts of a state. -/
def State.held (s : State) : Held := ⟨s.pending, s.map, s.tap, s.modst⟩

/-- The held parts but the module state. -/
def Held.butModst (h : Held) : List Instr × Vector Phys 64 × Tap := (h.pending, h.map, h.tap)
/-- The held parts but the map. -/
def Held.butMap (h : Held) : List Instr × ModuleSt × Tap := (h.pending, h.modst, h.tap)

/-- The module state and the state before it are states of R569. -/
def Held.legal (h : Held) : Prop := h.modst.state ≤ 4 ∧ h.modst.prev ≤ 4

/-- The held parts of a state written out. -/
@[simp] theorem held_mk (pe ti ce la cn su th jo st up mo co li sp po ta ma zo sl hd re lt em fr) :
    (State.mk pe ti ce la cn su th jo st up mo co li sp po ta ma zo sl hd re lt em fr).held = ⟨pe, ma, ta, mo⟩ := rfl
/-- The held parts of a state put together again. -/
@[simp] theorem held_eta (s : State) : (⟨s.pending, s.map, s.tap, s.modst⟩ : Held) = s.held := rfl
@[simp] theorem butModst_mk (p m t d) : (Held.mk p m t d).butModst = (p, m, t) := rfl
@[simp] theorem butMap_mk (p m t d) : (Held.mk p m t d).butMap = (p, d, t) := rfl
@[simp] theorem butModst_eta (s : State) : (s.pending, s.map, s.tap) = s.held.butModst := rfl
@[simp] theorem butMap_eta (s : State) : (s.pending, s.modst, s.tap) = s.held.butMap := rfl
theorem legal_mk (p m t d) : (Held.mk p m t d).legal ↔ d.state ≤ 4 ∧ d.prev ≤ 4 := Iff.rfl
theorem legal_eta (s : State) : s.held.legal ↔ s.modst.state ≤ 4 ∧ s.modst.prev ≤ 4 := Iff.rfl

theorem held_ports (s : State) (q : Vector PortSt 2) : ({ s with ports := q } : State).held = s.held := rfl
theorem held_coll (s : State) (q : Collector) : ({ s with coll := q } : State).held = s.held := rfl

/-- An operation applied under a condition. -/
@[simp] theorem held_ite (c : Prop) [Decidable c] (a b : State) :
    (if c then a else b).held = if c then a.held else b.held := by split <;> rfl

/-- A fold of operations that leave the held parts alone. -/
@[simp] theorem held_foldl {α : Type} (f : State → α → State) (h : ∀ s a, (f s a).held = s.held) (l : List α) (s : State) :
    (l.foldl f s).held = s.held := by
  induction l generalizing s with
  | nil => rfl
  | cons a l ih => rw [List.foldl_cons, ih, h]

/-- The same of a fold that carries a value beside the state. -/
@[simp] theorem held_foldl_fst {α β : Type} (f : State × β → α → State × β) (h : ∀ c a, (f c a).1.held = c.1.held)
    (l : List α) (c : State × β) : (l.foldl f c).1.held = c.1.held := by
  induction l generalizing c with
  | nil => rfl
  | cons a l ih => rw [List.foldl_cons, ih, h]

end Sys2Proof.Machine
end

