-- ==== Sys2Proof/Laws/HeldOps.lean ====
section
/-! SUPPORT. What no operation of Machine/Ops.lean changes: the held parts of the state (Laws/Held.lean),
save where a lemma says so. -/
namespace Sys2Proof.Machine

@[simp] theorem State.setSl_held (s : State) (p : Phys) (x : Slice) : (State.setSl s p x).held = s.held := by
  simp [State.setSl]

@[simp] theorem State.onSl_held (s : State) (p : Phys) (f : Slice → Slice) : (State.onSl s p f).held = s.held := by
  simp [State.onSl]

@[simp] theorem State.onZ_held (s : State) (p : Phys) (f : ZoneState → ZoneState) : (State.onZ s p f).held = s.held := by
  simp [State.onZ]

@[simp] theorem State.onR_held (s : State) (p : Phys) (f : RegFile → RegFile) : (State.onR s p f).held = s.held := by
  simp [State.onR]

@[simp] theorem State.w_held (s : State) (p : Phys) (x : Fld) (v : Nat) (i : Nat) : (State.w s p x v i).held = s.held := by
  simp [State.w]

@[simp] theorem State.wi_held (s : State) (p : Phys) (x : Fld) (v : Int) (i : Nat) : (State.wi s p x v i).held = s.held := by
  simp [State.wi]

@[simp] theorem State.wb_held (s : State) (p : Phys) (x : Fld) (b : Bool) (i : Nat) : (State.wb s p x b i).held = s.held := by
  simp [State.wb]

@[simp] theorem State.bump_held (s : State) (p : Phys) (x : Fld) (by_ : Nat) (i : Nat) : (State.bump s p x by_ i).held = s.held := by
  simp [State.bump]

@[simp] theorem State.wWord_held (s : State) (p : Phys) (r : Reg) (v : Word) (i : Nat) : (State.wWord s p r v i).held = s.held := by
  simp [State.wWord]

@[simp] theorem State.pw_held (s : State) (x : Fld) (v : Nat) (i : Nat) : (State.pw s x v i).held = s.held := by
  simp [State.pw]

@[simp] theorem State.pwi_held (s : State) (x : Fld) (v : Int) (i : Nat) : (State.pwi s x v i).held = s.held := by
  simp [State.pwi]

@[simp] theorem State.pwb_held (s : State) (x : Fld) (b : Bool) (i : Nat) : (State.pwb s x b i).held = s.held := by
  simp [State.pwb]

@[simp] theorem State.pbump_held (s : State) (x : Fld) (by_ : Nat) (i : Nat) : (State.pbump s x by_ i).held = s.held := by
  simp [State.pbump]

@[simp] theorem State.pwWord_held (s : State) (r : Reg) (v : Word) (i : Nat) : (State.pwWord s r v i).held = s.held := by
  simp [State.pwWord]

@[simp] theorem State.emit_held (s : State) (e : Emit) : (State.emit s e).held = s.held := by
  simp [State.emit]

@[simp] theorem State.fresh_held (s : State) : (State.fresh s).2.held = s.held := by
  simp [State.fresh]

@[simp] theorem State.freshNat_held (s : State) : (State.freshNat s).2.held = s.held := by
  simp [State.freshNat]

@[simp] theorem State.setHdr_held (s : State) (page : Nat) (h : Hdr) : (State.setHdr s page h).held = s.held := by
  simp [State.setHdr]

@[simp] theorem State.onHdr_held (s : State) (page : Nat) (f : Hdr → Hdr) : (State.onHdr s page f).held = s.held := by
  simp [State.onHdr]

@[simp] theorem State.touch_held (s : State) (page : Nat) : (State.touch s page).held = s.held := by
  simp [State.touch]

@[simp] theorem repulse_held (before : State) (h : Hdr) (bits : Nat) (l : Fin 2) (s : State) : (repulse before h bits l s).held = s.held := by
  simp [repulse]

@[simp] theorem setIsrFrom_held (before : State) (s : State) (page : Nat) (bits : Nat) : (setIsrFrom before s page bits).held = s.held := by
  simp [setIsrFrom]

@[simp] theorem State.setIsr_held (s : State) (page : Nat) (bits : Nat) : (State.setIsr s page bits).held = s.held := by
  simp [State.setIsr]

@[simp] theorem State.notePwrs_held (s : State) (l : List Nat) : (State.notePwrs s l).held = s.held := by
  simp [State.notePwrs]

@[simp] theorem noteBusy_held (before : State) (p : Phys) (s : State) : (noteBusy before p s).held = s.held := by
  simp [noteBusy]

@[simp] theorem notePorchBusy_held (before : State) (s : State) : (notePorchBusy before s).held = s.held := by
  simp [notePorchBusy]

@[simp] theorem State.evtP_held (s : State) (page : Nat) (bit : Nat) : (State.evtP s page bit).held = s.held := by
  simp [State.evtP]

@[simp] theorem State.evt_held (s : State) (p : Phys) (sub : Nat) (bit : Nat) : (State.evt s p sub bit).held = s.held := by
  simp [State.evt]

@[simp] theorem State.evtIf_held (s : State) (c : Bool) (p : Phys) (sub : Nat) (bit : Nat) : (State.evtIf s c p sub bit).held = s.held := by
  simp [State.evtIf]

@[simp] theorem noteSum_held (before : State) (s : State) : (noteSum before s).held = s.held := by
  simp [noteSum]

@[simp] theorem State.log_held (s : State) (page : Nat) (e : Word) : (State.log s page e).held = s.held := by
  simp [State.log]

@[simp] theorem State.post_held (s : State) (page : Nat) (e : Word) : (State.post s page e).held = s.held := by
  simp [State.post]

@[simp] theorem State.errP_held (s : State) (page : Nat) (ctx : Nat) (code : Nat) : (State.errP s page ctx code).held = s.held := by
  simp [State.errP]

@[simp] theorem State.err_held (s : State) (p : Phys) (sub : Nat) (ctx : Nat) (code : Nat) : (State.err s p sub ctx code).held = s.held := by
  simp [State.err]

@[simp] theorem State.ackErr_held (s : State) (page : Nat) : (State.ackErr s page).held = s.held := by
  unfold State.ackErr
  simp only []
  (repeat' split) <;> simp

@[simp] theorem State.clearErrors_held (s : State) : (State.clearErrors s).held = s.held := by
  simp [State.clearErrors]

@[simp] theorem noteDraught_held (before : State) (s : State) : (noteDraught before s).held = s.held := by
  simp [noteDraught]

@[simp] theorem State.clearDraught_held (s : State) : (State.clearDraught s).held = s.held := by
  simp [State.clearDraught]

@[simp] theorem State.latchZW_held (s : State) (p : Phys) (l : List (Nat × Word)) : (State.latchZW s p l).held = s.held := by
  simp [State.latchZW]

@[simp] theorem State.latchPW_held (s : State) (l : List (Nat × Word)) : (State.latchPW s l).held = s.held := by
  simp [State.latchPW]

@[simp] theorem State.wbEvt_held (s : State) (p : Phys) (x : Fld) (b : Bool) (sub : Nat) (bit : Nat) (i : Nat) : (State.wbEvt s p x b sub bit i).held = s.held := by
  simp [State.wbEvt]

end Sys2Proof.Machine
end

