-- ==== Sys2Proof/Laws/HeldMram.lean ====
section
/-! SUPPORT. What no operation of Machine/Mram.lean changes: the held parts of the state (Laws/Held.lean),
save where a lemma says so. -/
namespace Sys2Proof.Machine

@[simp] theorem State.onUp_held (s : State) (f : Upkeep → Upkeep) : (State.onUp s f).held = s.held := by
  simp [State.onUp]

@[simp] theorem State.onBank_held (s : State) (b : Fin 2) (f : Bank → Bank) : (State.onBank s b f).held = s.held := by
  simp [State.onBank]

@[simp] theorem State.wrote_held (s : State) (d : DurItem) : (State.wrote s d).held = s.held := by
  simp [State.wrote]

@[simp] theorem State.spoil_held (s : State) (x : BadItem) : (State.spoil s x).held = s.held := by
  simp [State.spoil]

@[simp] theorem State.wroteGen_held (s : State) (newer : DurItem) (older : DurItem) : (State.wroteGen s newer older).held = s.held := by
  simp [State.wroteGen]

@[simp] theorem State.onCkpt_held (s : State) (p : Phys) (f : Ckpt → Ckpt) : (State.onCkpt s p f).held = s.held := by
  simp [State.onCkpt]

@[simp] theorem bankOut_held (s : State) (b : Fin 2) : (bankOut s b).held = s.held := by
  simp [bankOut]

@[simp] theorem remapRow_held (s : State) (b : Fin 2) (row : Fin 8192) : (remapRow s b row).held = s.held := by
  simp [remapRow]

@[simp] theorem flushCollector_held (s : State) : (flushCollector s).held = s.held := by
  unfold flushCollector
  dsimp only
  split
  · rw [State.pbump_held, held_coll]
  · rw [State.errP_held, State.pbump_held, State.pbump_held, held_coll]

end Sys2Proof.Machine
end

