-- ==== Sys2Proof/Laws/HeldFlags.lean ====
section
/-! SUPPORT. What no operation of Machine/Flags.lean changes: the held parts of the state (Laws/Held.lean),
save where a lemma says so. -/
namespace Sys2Proof.Machine

@[simp] theorem State.wBitOf_held (s : State) (p : Phys) (x : Fld) (i : Nat) (b : Bool) (n : Nat) : (State.wBitOf s p x i b n).held = s.held := by
  simp [State.wBitOf]

end Sys2Proof.Machine
end

