-- ==== Sys2Proof/Laws/HeldInputs.lean ====
section
/-! SUPPORT. What no operation of Machine/Inputs.lean changes: the held parts of the state (Laws/Held.lean),
save where a lemma says so. -/
namespace Sys2Proof.Machine

@[simp] theorem State.onInp_held (s : State) (p : Phys) (f : Inputs → Inputs) : (State.onInp s p f).held = s.held := by
  simp [State.onInp]

@[simp] theorem State.onT_held (s : State) (p : Phys) (n : Fin 4) (f : TempIn → TempIn) : (State.onT s p n f).held = s.held := by
  simp [State.onT]

@[simp] theorem State.syncT_held (s : State) (p : Phys) (n : Fin 4) : (State.syncT s p n).held = s.held := by
  simp [State.syncT]

@[simp] theorem showExc_held (s : State) (p : Phys) (n : Fin 4) : (showExc s p n).held = s.held := by
  simp [showExc]

@[simp] theorem dropDew_held (s : State) (p : Phys) (n : Fin 4) : (dropDew s p n).held = s.held := by
  simp [dropDew]

@[simp] theorem declareBroken_held (s : State) (p : Phys) (n : Fin 4) (cause : Nat) : (declareBroken s p n cause).held = s.held := by
  simp [declareBroken]

@[simp] theorem badReading_held (s : State) (p : Phys) (n : Fin 4) (cause : Nat) : (badReading s p n cause).held = s.held := by
  simp [badReading]

@[simp] theorem publishReading_held (s : State) (p : Phys) (n : Fin 4) (t : Rat) (res : Rat) (settling : Bool) : (publishReading s p n t res settling).held = s.held := by
  simp [publishReading]

@[simp] theorem goodReading_held (s : State) (p : Phys) (n : Fin 4) (t : Rat) (res : Rat) (settling : Bool) : (goodReading s p n t res settling).held = s.held := by
  simp [goodReading]

@[simp] theorem moveRange_held (s : State) (p : Phys) (n : Fin 4) (ohm : Option Rat) : (moveRange s p n ohm).held = s.held := by
  unfold moveRange
  (repeat' split) <;> simp

@[simp] theorem showSeries_held (s : State) (p : Phys) (n : Fin 4) (rs : Option Rat) : (showSeries s p n rs).held = s.held := by
  unfold showSeries
  (repeat' split) <;> simp

@[simp] theorem endSettling_held (s : State) (p : Phys) (n : Fin 4) : (endSettling s p n).held = s.held := by
  simp [endSettling]

@[simp] theorem takeReading_held (s : State) (p : Phys) (n : Fin 4) (settling : Bool) (x : Reading) : (takeReading s p n settling x).held = s.held := by
  simp [takeReading]

@[simp] theorem inputReading_held (s : State) (p : Phys) (n : Fin 4) (band : Nat) (x : InputSample) : (inputReading s p n band x).held = s.held := by
  unfold inputReading
  (repeat' split) <;> simp

@[simp] theorem restartFilters_held (s : State) (p : Phys) : (restartFilters s p).held = s.held := by
  simp [restartFilters]

@[simp] theorem spoilWindows_held (s : State) (p : Phys) : (spoilWindows s p).held = s.held := by
  simp [spoilWindows]

@[simp] theorem holdReadings_held (s : State) (p : Phys) : (holdReadings s p).held = s.held := by
  simp [holdReadings]

@[simp] theorem startWindow_held (s : State) (p : Phys) (n : Fin 4) (off : Bool) : (startWindow s p n off).held = s.held := by
  simp [startWindow]

@[simp] theorem diagWindow_held (s : State) (p : Phys) (n : Fin 4) (noise : Rat) (meanR : Rat) (meanT : Rat) : (diagWindow s p n noise meanR meanT).held = s.held := by
  simp [diagWindow]

@[simp] theorem endOff_held (s : State) (p : Phys) (n : Fin 4) : (endOff s p n).held = s.held := by
  simp [endOff]

@[simp] theorem diagOff_held (s : State) (p : Phys) (n : Fin 4) (noise : Rat) (meanR : Rat) (meanT : Rat) : (diagOff s p n noise meanR meanT).held = s.held := by
  simp [diagOff]

@[simp] theorem diagNowEffect_held (s : State) (p : Phys) : (diagNowEffect s p).held = s.held := by
  simp [diagNowEffect]

@[simp] theorem publishHumidity_held (s : State) (p : Phys) (rh : Rat) : (publishHumidity s p rh).held = s.held := by
  unfold publishHumidity
  (repeat' split) <;> simp

@[simp] theorem humidityMeasure_held (s : State) (p : Phys) (cap : Nat) (leak : Nat) : (humidityMeasure s p cap leak).held = s.held := by
  simp [humidityMeasure]

@[simp] theorem disableHumidity_held (s : State) (p : Phys) : (disableHumidity s p).held = s.held := by
  simp [disableHumidity]

@[simp] theorem retypeInput_held (s : State) (p : Phys) (n : Fin 4) : (retypeInput s p n).held = s.held := by
  simp [retypeInput]

@[simp] theorem newInput_held (was : State) (s : State) (p : Phys) (n : Fin 4) : (newInput was s p n).held = s.held := by
  simp [newInput]

@[simp] theorem formPresence_held (s : State) (p : Phys) : (formPresence s p).held = s.held := by
  simp [formPresence]

@[simp] theorem declareChatter_held (s : State) (p : Phys) (pra : Bool) : (declareChatter s p pra).held = s.held := by
  simp [declareChatter]

@[simp] theorem passPrd_held (s : State) (p : Phys) (level : Bool) : (passPrd s p level).held = s.held := by
  simp [passPrd]

@[simp] theorem acceptPrd_held (s : State) (p : Phys) (level : Bool) : (acceptPrd s p level).held = s.held := by
  simp [acceptPrd]

@[simp] theorem prdRaw_held (s : State) (p : Phys) (level : Bool) : (prdRaw s p level).held = s.held := by
  simp [prdRaw]

@[simp] theorem turnPrd_held (s : State) (p : Phys) : (turnPrd s p).held = s.held := by
  simp [turnPrd]

@[simp] theorem prdAccept_held (s : State) (p : Phys) : (prdAccept s p).held = s.held := by
  simp [prdAccept]

@[simp] theorem praMotion_held (s : State) (p : Phys) : (praMotion s p).held = s.held := by
  simp [praMotion]

@[simp] theorem praDc_held (s : State) (p : Phys) (dc : Nat) : (praDc s p dc).held = s.held := by
  simp [praDc]

@[simp] theorem praCompare_held (s : State) (p : Phys) (high : Bool) (ms : Nat) : (praCompare s p high ms).held = s.held := by
  simp [praCompare]

@[simp] theorem praTake_held (s : State) (p : Phys) (dc : Nat) (band : Int) (ms : Nat) : (praTake s p dc band ms).held = s.held := by
  simp [praTake]

@[simp] theorem praIdle_held (s : State) (p : Phys) : (praIdle s p).held = s.held := by
  simp [praIdle]

@[simp] theorem praLevel_held (s : State) (p : Phys) : (praLevel s p).held = s.held := by
  simp [praLevel]

@[simp] theorem stuckPresence_held (s : State) (p : Phys) (pra : Bool) : (stuckPresence s p pra).held = s.held := by
  simp [stuckPresence]

@[simp] theorem clearPrdChatter_held (s : State) (p : Phys) (raw : Bool) : (clearPrdChatter s p raw).held = s.held := by
  simp [clearPrdChatter]

@[simp] theorem clearPraChatter_held (s : State) (p : Phys) : (clearPraChatter s p).held = s.held := by
  simp [clearPraChatter]

end Sys2Proof.Machine
end

