-- ==== Sys2Proof/Laws/HeldJournal.lean ====
section
/-! SUPPORT. What no operation of Machine/Journal.lean changes: the held parts of the state (Laws/Held.lean),
save where a lemma says so. -/
namespace Sys2Proof.Machine

@[simp] theorem State.onJ_held (s : State) (f : Journal → Journal) : (State.onJ s f).held = s.held := by
  simp [State.onJ]

@[simp] theorem addEntry_held (s : State) (i : LdItem) : (addEntry s i).held = s.held := by
  simp [addEntry]

@[simp] theorem askCheckpoints_held (s : State) : (askCheckpoints s).held = s.held := by
  unfold askCheckpoints
  (repeat' split) <;> simp

@[simp] theorem fillRules_held (s : State) : (fillRules s).held = s.held := by
  simp [fillRules]

@[simp] theorem releaseLarder_held (s : State) : (releaseLarder s).held = s.held := by
  simp [releaseLarder]

@[simp] theorem endInternal_held (s : State) (r : Running) (final : Bool) : (endInternal s r final).held = s.held := by
  simp [endInternal]

@[simp] theorem markZone_held (s : State) (lseq : Nat) (z : Zone) (result : Nat) (reason : Nat) (value : Word) : (markZone s lseq z result reason value).held = s.held := by
  unfold markZone
  (repeat' split) <;> simp

@[simp] theorem markPorch_held (s : State) (lseq : Nat) (result : Nat) (reason : Nat) (value : Word) : (markPorch s lseq result reason value).held = s.held := by
  unfold markPorch
  (repeat' split) <;> simp

@[simp] theorem State.onQueue_held (s : State) (f : List Exec → List Exec) : (State.onQueue s f).held = s.held := by
  simp [State.onQueue]

@[simp] theorem drainNops_held (s : State) : (drainNops s).held = s.held := by
  simp [drainNops]

@[simp] theorem dequeue_held (s : State) (lseq : Nat) : (dequeue s lseq).held = s.held := by
  simp [dequeue]

@[simp] theorem unqueue_held (s : State) (lseq : Nat) : (unqueue s lseq).held = s.held := by
  simp [unqueue]

@[simp] theorem porchDone_held (s : State) (x : Exec) (result : Nat) (reason : Nat) (value : Word) : (porchDone s x result reason value).held = s.held := by
  simp [porchDone]

@[simp] theorem storeFinal_held (s : State) (lseq : Nat) : (storeFinal s lseq).held = s.held := by
  simp [storeFinal]

@[simp] theorem placeZones_held (s : State) (h : Handing) (blocked : BitVec 64) : (placeZones s h blocked).1.held = s.held := by
  unfold placeZones
  refine held_foldl_fst _ (fun c a => ?_) _ _
  simp only []
  split <;> simp

@[simp] theorem deliverList_held (s : State) (blocked : BitVec 64) (l : List Handing) :
    (deliverList s blocked l).1.held = s.held := by
  induction l generalizing s blocked with
  | nil => rfl
  | cons h l ih => simp [deliverList, ih]

@[simp] theorem deliver_held (s : State) : (deliver s).held = s.held := by
  simp [deliver]

@[simp] theorem handUpTo_held (s : State) (lseq : Nat) : (handUpTo s lseq).held = s.held := by
  simp [handUpTo]

end Sys2Proof.Machine
end

