-- ==== Sys2Proof/Laws/HeldSupply.lean ====
section
/-! SUPPORT. What no operation of Machine/Supply.lean changes: the held parts of the state (Laws/Held.lean),
save where a lemma says so. -/
namespace Sys2Proof.Machine

@[simp] theorem State.clampBlocks_held (s : State) (l : List Block) : (State.clampBlocks s l).held = s.held := by
  simp [State.clampBlocks]

@[simp] theorem State.unclampBlocks_held (s : State) (l : List Block) : (State.unclampBlocks s l).held = s.held := by
  simp [State.unclampBlocks]

end Sys2Proof.Machine
end

