-- ==== Sys2Proof/Laws/HeldLife.lean ====
section
/-! SUPPORT. What no operation of Machine/Life.lean changes: the held parts of the state (Laws/Held.lean),
save where a lemma says so. -/
namespace Sys2Proof.Machine

@[simp] theorem State.onOuts_held (s : State) (p : Phys) (f : Outs → Outs) : (State.onOuts s p f).held = s.held := by
  simp [State.onOuts]

@[simp] theorem syncHold_held (s : State) (p : Phys) : (syncHold s p).held = s.held := by
  simp [syncHold]

@[simp] theorem State.onOut_held (s : State) (p : Phys) (j : Out) (f : OutSt → OutSt) : (State.onOut s p j f).held = s.held := by
  simp [State.onOut]

@[simp] theorem endPulse_held (s : State) (p : Phys) (j : Out) (result : Nat) (reason : Nat) : (endPulse s p j result reason).held = s.held := by
  unfold endPulse
  (repeat' split) <;> simp

@[simp] theorem holdOutputs_held (s : State) (p : Phys) : (holdOutputs s p).held = s.held := by
  simp [holdOutputs]

@[simp] theorem takeHeld_held (s : State) (p : Phys) : (takeHeld s p).held = s.held := by
  simp [takeHeld]

@[simp] theorem setLife_held (s : State) (p : Phys) (st : SliceState) (cause : Nat) : (setLife s p st cause).held = s.held := by
  simp [setLife]

@[simp] theorem stopSliceTo_held (s : State) (p : Phys) (pw : SlicePower) : (stopSliceTo s p pw).held = s.held := by
  simp [stopSliceTo]

@[simp] theorem stopSlice_held (s : State) (p : Phys) : (stopSlice s p).held = s.held := by
  simp [stopSlice]

@[simp] theorem failSlice_held (s : State) (p : Phys) (code : Nat) (cause : Nat) : (failSlice s p code cause).held = s.held := by
  simp [failSlice]

end Sys2Proof.Machine
end

