-- ==== Sys2Proof/Laws/HeldConverters.lean ====
section
/-! SUPPORT. What no operation of Machine/Converters.lean changes: the held parts of the state (Laws/Held.lean),
save where a lemma says so. -/
namespace Sys2Proof.Machine

@[simp] theorem State.onCv_held (s : State) (p : Phys) (f : Conv → Conv) : (State.onCv s p f).held = s.held := by
  simp [State.onCv]

@[simp] theorem State.onSeq_held (s : State) (p : Phys) (q : Fin 4) (f : SeqSt → SeqSt) : (State.onSeq s p q f).held = s.held := by
  simp [State.onSeq]

@[simp] theorem syncConv_held (s : State) (p : Phys) : (syncConv s p).held = s.held := by
  simp [syncConv]

@[simp] theorem restartCal_held (s : State) (p : Phys) : (restartCal s p).held = s.held := by
  simp [restartCal]

@[simp] theorem syncTrims_held (s : State) (p : Phys) : (syncTrims s p).held = s.held := by
  simp [syncTrims]

@[simp] theorem takeBand_held (s : State) (p : Phys) : (takeBand s p).held = s.held := by
  simp [takeBand]

@[simp] theorem startPass_held (s : State) (p : Phys) (q : Fin 4) (edge : Option Nat) : (startPass s p q edge).held = s.held := by
  simp [startPass]

@[simp] theorem settle_held (s : State) (p : Phys) : (settle s p).held = s.held := by
  simp [settle]

@[simp] theorem dropTrigger_held (s : State) (p : Phys) (q : Fin 4) : (dropTrigger s p q).held = s.held := by
  simp [dropTrigger]

@[simp] theorem acceptTrigger_held (s : State) (p : Phys) (q : Fin 4) (edge : Option Nat) : (acceptTrigger s p q edge).held = s.held := by
  simp [acceptTrigger]

@[simp] theorem startTimer_held (s : State) (p : Phys) (q : Fin 4) : (startTimer s p q).held = s.held := by
  simp [startTimer]

@[simp] theorem triggerEdge_held (s : State) (p : Phys) (q : Fin 4) (x : TrigSource) : (triggerEdge s p q x).2.held = s.held := by
  unfold triggerEdge
  (repeat' split) <;> simp

@[simp] theorem seqTrigger_held (s : State) (p : Phys) (q : Fin 4) (x : TrigSource) : (seqTrigger s p q x).held = s.held := by
  simp [seqTrigger]

@[simp] theorem finishEnding_held (s : State) (p : Phys) (q : Fin 4) : (finishEnding s p q).held = s.held := by
  simp [finishEnding]

@[simp] theorem seqDisabled_held (s : State) (p : Phys) (q : Fin 4) : (seqDisabled s p q).held = s.held := by
  simp [seqDisabled]

@[simp] theorem firmwareSeqs_held (s : State) (p : Phys) (on : Bool) : (firmwareSeqs s p on).held = s.held := by
  simp [firmwareSeqs]

@[simp] theorem seq3Written_held (was : State) (s : State) (p : Phys) : (seq3Written was s p).held = s.held := by
  simp [seq3Written]

@[simp] theorem abortOn_held (s : State) (p : Phys) (o : Owner) : (abortOn s p o).held = s.held := by
  unfold abortOn
  (repeat' split) <;> simp

@[simp] theorem startUrgent_held (s : State) (p : Phys) (u : Urgent) : (startUrgent s p u).held = s.held := by
  unfold startUrgent
  simp only []
  (repeat' split) <;> simp

@[simp] theorem urgentAsk_held (s : State) (p : Phys) (u : Urgent) : (urgentAsk s p u).held = s.held := by
  simp [urgentAsk]

@[simp] theorem writeResult_held (s : State) (p : Phys) (lo : Reg) (hi : Reg) (i : Nat) (dec : Nat) (code : Int) (flags : Nat) (ts : BitVec 24) : (writeResult s p lo hi i dec code flags ts).held = s.held := by
  simp [writeResult]

@[simp] theorem writeEntry_held (s : State) (p : Phys) (band : Nat) (e : EntRun) : (writeEntry s p band e).held = s.held := by
  simp [writeEntry]

@[simp] theorem chainTriggers_held (s : State) (p : Phys) (q : Fin 4) : (chainTriggers s p q).held = s.held := by
  simp [chainTriggers]

@[simp] theorem endPass_held (s : State) (p : Phys) (q : Fin 4) : (endPass s p q).held = s.held := by
  simp [endPass]

@[simp] theorem seqComplete_held (s : State) (p : Phys) (q : Fin 4) (e : EntRun) (d : ConvData) : (seqComplete s p q e d).1.held = s.held := by
  simp [seqComplete]

@[simp] theorem urgentComplete_held (s : State) (p : Phys) (d : ConvData) : (urgentComplete s p d).held = s.held := by
  unfold urgentComplete
  simp only []
  (repeat' split) <;> simp

@[simp] theorem convComplete_held (s : State) (p : Phys) (adc : Fin 2) (d : ConvData) : (convComplete s p adc d).1.held = s.held := by
  unfold convComplete
  simp only []
  (repeat' split) <;> simp

@[simp] theorem restartSequences_held (s : State) (p : Phys) : (restartSequences s p).held = s.held := by
  simp [restartSequences]

@[simp] theorem buildEntries_held (s : State) (p : Phys) : (buildEntries s p).held = s.held := by
  simp [buildEntries]

@[simp] theorem setSliceClock_held (s : State) (p : Phys) (mhz : Nat) : (setSliceClock s p mhz).held = s.held := by
  simp [setSliceClock]

@[simp] theorem onTrims_held (s : State) (p : Phys) (f : Trims → Trims) : (onTrims s p f).held = s.held := by
  simp [onTrims]

@[simp] theorem judgeConv_held (s : State) (p : Phys) : (judgeConv s p).held = s.held := by
  simp [judgeConv]

@[simp] theorem trimFail_held (s : State) (p : Phys) : (trimFail s p).held = s.held := by
  simp [trimFail]

@[simp] theorem trimStep_held (s : State) (p : Phys) (ofsErr : Int) (gainErr : Int) : (trimStep s p ofsErr gainErr).held = s.held := by
  simp [trimStep]

@[simp] theorem skewStep_held (s : State) (p : Phys) (err : Int) (slopeOk : Bool) : (skewStep s p err slopeOk).held = s.held := by
  simp [skewStep]

end Sys2Proof.Machine
end

