-- ==== Sys2Proof/Laws/HeldDrive.lean ====
section
/-! SUPPORT. What no operation of Machine/Drive.lean changes: the held parts of the state (Laws/Held.lean),
save where a lemma says so. -/
namespace Sys2Proof.Machine

@[simp] theorem refreshOut_held (s : State) (p : Phys) (j : Out) : (refreshOut s p j).held = s.held := by
  simp [refreshOut]

end Sys2Proof.Machine
end

