-- ==== Sys2Proof/Laws/HeldMeter.lean ====
section
/-! SUPPORT. What no operation of Machine/Meter.lean changes: the held parts of the state (Laws/Held.lean),
save where a lemma says so. -/
namespace Sys2Proof.Machine

@[simp] theorem State.onMt_held (s : State) (p : Phys) (f : Meter → Meter) : (State.onMt s p f).held = s.held := by
  simp [State.onMt]

@[simp] theorem State.onCap_held (s : State) (p : Phys) (f : Capture → Capture) : (State.onCap s p f).held = s.held := by
  simp [State.onCap]

@[simp] theorem fillShare_held (s : State) (p : Phys) (older : Option Nat) (dt : Rat) (pw : Rat) (qw : Rat) (sw : Rat) : (fillShare s p older dt pw qw sw).held = s.held := by
  simp [fillShare]

@[simp] theorem showSynth_held (s : State) (p : Phys) : (showSynth s p).held = s.held := by
  simp [showSynth]

@[simp] theorem noteFill_held (s : State) (p : Phys) (dt : Rat) : (noteFill s p dt).held = s.held := by
  simp [noteFill]

@[simp] theorem fillGap_held (s : State) (p : Phys) (at_ : Nat) (dt : Rat) : (fillGap s p at_ dt).held = s.held := by
  unfold fillGap
  simp only []
  (repeat' split) <;> simp

@[simp] theorem fillUpTo_held (s : State) (p : Phys) (at_ : Nat) : (fillUpTo s p at_).held = s.held := by
  unfold fillUpTo
  (repeat' split) <;> simp

@[simp] theorem integrate_held (s : State) (p : Phys) (at_ : Nat) : (integrate s p at_).held = s.held := by
  simp [integrate]

@[simp] theorem passV_held (s : State) (p : Phys) (v : Rat) (dt : Nat) : (passV s p v dt).1.held = s.held := by
  simp [passV]

@[simp] theorem passI_held (s : State) (p : Phys) (i : Rat) (dt : Nat) (at_ : Nat) : (passI s p i dt at_).1.held = s.held := by
  simp [passI]

@[simp] theorem holdPair_held (s : State) (p : Phys) (at_ : Nat) (pv : Rat) (pi : Rat) (satV : Bool) (satI : Bool) : (holdPair s p at_ pv pi satV satI).held = s.held := by
  simp [holdPair]

@[simp] theorem takePair_held (s : State) (p : Phys) (v : Rat) (i : Rat) (at_ : Nat) (satV : Bool) (satI : Bool) : (takePair s p v i at_ satV satI).held = s.held := by
  simp [takePair]

@[simp] theorem showUnlocked_held (s : State) (p : Phys) : (showUnlocked s p).held = s.held := by
  simp [showUnlocked]

@[simp] theorem track_held (s : State) (p : Phys) (c : CycleData) : (track s p c).held = s.held := by
  simp [track]

@[simp] theorem endCycle_held (s : State) (p : Phys) (f : Nat) : (endCycle s p f).held = s.held := by
  simp [endCycle]

@[simp] theorem cycleEnd_held (s : State) (p : Phys) (c : Option CycleData) : (cycleEnd s p c).held = s.held := by
  unfold cycleEnd
  (repeat' split) <;> simp

@[simp] theorem finishMeter_held (s : State) (p : Phys) : (finishMeter s p).held = s.held := by
  simp [finishMeter]

@[simp] theorem cutMeter_held (s : State) (p : Phys) (at_ : Nat) : (cutMeter s p at_).1.held = s.held := by
  unfold cutMeter
  simp only []
  (repeat' split) <;> simp

@[simp] theorem syncCap_held (s : State) (p : Phys) : (syncCap s p).held = s.held := by
  simp [syncCap]

@[simp] theorem capArm_held (s : State) (p : Phys) : (capArm s p).held = s.held := by
  simp [capArm]

@[simp] theorem setSq0_held (s : State) (p : Phys) (fast : Option Nat) : (setSq0 s p fast).held = s.held := by
  unfold setSq0
  (repeat' split) <;> simp

@[simp] theorem endWait_held (s : State) (p : Phys) : (endWait s p).held = s.held := by
  unfold endWait
  (repeat' split) <;> simp

@[simp] theorem capDone_held (s : State) (p : Phys) : (capDone s p).held = s.held := by
  simp [capDone]

@[simp] theorem capTrigger_held (s : State) (p : Phys) : (capTrigger s p).held = s.held := by
  simp [capTrigger]

@[simp] theorem capRelay_held (s : State) (p : Phys) (j : Out) : (capRelay s p j).1.held = s.held := by
  unfold capRelay
  simp only []
  (repeat' split) <;> simp

@[simp] theorem capStop_held (s : State) (p : Phys) : (capStop s p).held = s.held := by
  simp [capStop]

@[simp] theorem capAbort_held (s : State) (p : Phys) : (capAbort s p).held = s.held := by
  simp [capAbort]

@[simp] theorem capStore_held (s : State) (p : Phys) (l : List Word) : (capStore s p l).held = s.held := by
  simp [capStore]

@[simp] theorem capPair_held (s : State) (p : Phys) (v : Int) (i : Int) (satV : Bool) (satI : Bool) : (capPair s p v i satV satI).held = s.held := by
  simp [capPair]

@[simp] theorem capFast_held (s : State) (p : Phys) (code : Int) (sat : Bool) (at_ : Nat) : (capFast s p code sat at_).held = s.held := by
  unfold capFast
  simp only []
  (repeat' split) <;> simp

@[simp] theorem capHalf_held (s0 : State) (p : Phys) : (capHalf s0 p).held = s0.held := by
  unfold capHalf
  simp only []
  (repeat' split) <;> simp

@[simp] theorem takeFast_held (s : State) (p : Phys) (isV : Bool) (code : Int) (sat : Bool) (at_ : Nat) : (takeFast s p isV code sat at_).held = s.held := by
  simp [takeFast]

@[simp] theorem meterTake_held (s : State) (p : Phys) (x : ConvDone) : (meterTake s p x).held = s.held := by
  simp [meterTake]

@[simp] theorem meterConversion_held (s : State) (p : Phys) (x : ConvDone) (d : ConvData) : (meterConversion s p x d).held = s.held := by
  unfold meterConversion
  (repeat' split) <;> simp

@[simp] theorem publishClip_held (s : State) (p : Phys) (x : Fld) (mark : Bool) (code : Nat) : (publishClip s p x mark code).held = s.held := by
  simp [publishClip]

@[simp] theorem publishHarm_held (s : State) (p : Phys) (start : Nat) (grid : List Rat) : (publishHarm s p start grid).held = s.held := by
  simp [publishHarm]

@[simp] theorem publishWindow_held (s : State) (p : Phys) (grid : List Rat) : (publishWindow s p grid).held = s.held := by
  unfold publishWindow
  simp only []
  (repeat' split) <;> simp

@[simp] theorem postMeter_held (s : State) (p : Phys) : (postMeter s p).held = s.held := by
  simp [postMeter]

@[simp] theorem restartMeter_held (s0 : State) (p : Phys) : (restartMeter s0 p).held = s0.held := by
  simp [restartMeter]

@[simp] theorem resumeMeter_held (s : State) (p : Phys) (ck : Nat) (post : Option Posting) (fills : Bool) : (resumeMeter s p ck post fills).held = s.held := by
  unfold resumeMeter
  (repeat' split) <;> simp

@[simp] theorem writeCheckpoint_held (s : State) (p : Phys) : (writeCheckpoint s p).held = s.held := by
  simp [writeCheckpoint]

end Sys2Proof.Machine
end

