-- ==== Sys2Proof/Laws/HeldOutputs.lean ====
section
/-! SUPPORT. What no operation of Machine/Outputs.lean changes: the held parts of the state (Laws/Held.lean),
save where a lemma says so. -/
namespace Sys2Proof.Machine

@[simp] theorem driveSafe_held (s : State) (p : Phys) (j : Out) : (driveSafe s p j).held = s.held := by
  simp [driveSafe]

@[simp] theorem request_held (s : State) (p : Phys) (j : Out) (x : Rat) : (request s p j x).held = s.held := by
  unfold request
  simp only []
  (repeat' split) <;> simp

@[simp] theorem measureOut_held (s : State) (p : Phys) (j : Out) (v : Nat) (lim : Bool) : (measureOut s p j v lim).held = s.held := by
  simp [measureOut]

@[simp] theorem govRetry_held (s : State) (p : Phys) (j : Out) : (govRetry s p j).held = s.held := by
  simp [govRetry]

@[simp] theorem setFactor_held (s : State) (p : Phys) (f : Nat) : (setFactor s p f).held = s.held := by
  simp [setFactor]

@[simp] theorem aoLimit_held (s : State) (p : Phys) (j : Out) : (aoLimit s p j).held = s.held := by
  simp [aoLimit]

@[simp] theorem doTrip_held (s : State) (p : Phys) (j : Out) : (doTrip s p j).held = s.held := by
  simp [doTrip]

@[simp] theorem doRetry_held (s : State) (p : Phys) (j : Out) : (doRetry s p j).held = s.held := by
  simp [doRetry]

@[simp] theorem clearOvc_held (s : State) (p : Phys) (j : Out) : (clearOvc s p j).held = s.held := by
  simp [clearOvc]

@[simp] theorem doOpen_held (s : State) (p : Phys) (j : Out) : (doOpen s p j).held = s.held := by
  simp [doOpen]

@[simp] theorem aoReadback_held (s : State) (p : Phys) (j : Out) (off : Bool) : (aoReadback s p j off).held = s.held := by
  simp [aoReadback]

@[simp] theorem releaseOut_held (s : State) (p : Phys) (j : Out) : (releaseOut s p j).held = s.held := by
  simp [releaseOut]

@[simp] theorem firmwareRelease_held (s : State) (p : Phys) : (firmwareRelease s p).held = s.held := by
  simp [firmwareRelease]

@[simp] theorem outConversion_held (s : State) (p : Phys) (x : ConvDone) (d : ConvData) : (outConversion s p x d).held = s.held := by
  unfold outConversion
  simp only []
  (repeat' split) <;> simp

@[simp] theorem tachPulse_held (s : State) (p : Phys) (period : Nat) : (tachPulse s p period).held = s.held := by
  simp [tachPulse]

@[simp] theorem fanStalled_held (s : State) (p : Phys) : (fanStalled s p).held = s.held := by
  simp [fanStalled]

@[simp] theorem tachReject_held (s : State) (p : Phys) : (tachReject s p).held = s.held := by
  simp [tachReject]

@[simp] theorem clearTachChatter_held (s : State) (p : Phys) : (clearTachChatter s p).held = s.held := by
  simp [clearTachChatter]

@[simp] theorem startPulse_held (s : State) (p : Phys) (z : Zone) (j : Out) (lseq : Nat) (dur : Nat) : (startPulse s p z j lseq dur).held = s.held := by
  simp [startPulse]

@[simp] theorem pulseOver_held (s : State) (p : Phys) (j : Out) (how : PulseEnd) : (pulseOver s p j how).held = s.held := by
  simp [pulseOver]

end Sys2Proof.Machine
end

