-- ==== Sys2Proof/Laws/HeldHeat.lean ====
section
/-! SUPPORT. What no operation of Machine/Heat.lean changes: the held parts of the state (Laws/Held.lean),
save where a lemma says so. -/
namespace Sys2Proof.Machine

@[simp] theorem State.onHt_held (s : State) (p : Phys) (f : Heat → Heat) : (State.onHt s p f).held = s.held := by
  simp [State.onHt]

@[simp] theorem State.onFl_held (s : State) (p : Phys) (n : Fin 2) (f : FlowIn → FlowIn) : (State.onFl s p n f).held = s.held := by
  simp [State.onFl]

@[simp] theorem flagInterval_held (s : State) (p : Phys) (bit : Nat) : (flagInterval s p bit).held = s.held := by
  simp [flagInterval]

@[simp] theorem matchPair_held (s : State) (p : Phys) (n : Fin 4) (run : Nat) : (matchPair s p n run).held = s.held := by
  unfold matchPair
  (repeat' split) <;> simp

@[simp] theorem showRange_held (s : State) (p : Phys) (r : Bool × Bool) : (showRange s p r).held = s.held := by
  simp [showRange]

@[simp] theorem showDir_held (s : State) (p : Phys) (d : Nat) : (showDir s p d).held = s.held := by
  simp [showDir]

@[simp] theorem addHeat_held (s : State) (p : Phys) (i : Nat) (q : Rat) : (addHeat s p i q).held = s.held := by
  unfold addHeat
  (repeat' split) <;> simp

@[simp] theorem heatPulse_held (s : State) (p : Phys) (dv : Rat) (period : Nat) : (heatPulse s p dv period).held = s.held := by
  unfold heatPulse
  (repeat' split) <;> simp

@[simp] theorem heatTick_held (s : State) (p : Phys) : (heatTick s p).held = s.held := by
  unfold heatTick
  simp only []
  (repeat' split) <;> simp

@[simp] theorem showFlow_held (s : State) (p : Phys) (n : Fin 2) (vpp : Nat) (period : Nat) : (showFlow s p n vpp period).held = s.held := by
  simp [showFlow]

@[simp] theorem flowPulse_held (s : State) (p : Phys) (n : Fin 2) (period : Nat) : (flowPulse s p n period).held = s.held := by
  unfold flowPulse
  (repeat' split) <;> simp

@[simp] theorem flowIdle_held (s : State) (p : Phys) (n : Fin 2) : (flowIdle s p n).held = s.held := by
  simp [flowIdle]

@[simp] theorem showFlowFlag_held (s : State) (p : Phys) (x : Fld) (n : Fin 2) (b : Bool) : (showFlowFlag s p x n b).held = s.held := by
  simp [showFlowFlag]

@[simp] theorem flowChatter_held (s : State) (p : Phys) (n : Fin 2) : (flowChatter s p n).held = s.held := by
  simp [flowChatter]

@[simp] theorem flowRateJudge_held (s : State) (p : Phys) (n : Fin 2) (rate : Nat) : (flowRateJudge s p n rate).held = s.held := by
  simp [flowRateJudge]

@[simp] theorem flowReject_held (s : State) (p : Phys) (n : Fin 2) : (flowReject s p n).held = s.held := by
  simp [flowReject]

@[simp] theorem clearFlowChatter_held (s : State) (p : Phys) (n : Fin 2) : (clearFlowChatter s p n).held = s.held := by
  simp [clearFlowChatter]

@[simp] theorem leakHour_held (s : State) (p : Phys) : (leakHour s p).held = s.held := by
  simp [leakHour]

end Sys2Proof.Machine
end

