-- ==== Sys2Proof/Laws/HeldPanel.lean ====
section
/-! SUPPORT. What no operation of Machine/Panel.lean changes: the held parts of the state (Laws/Held.lean),
save where a lemma says so. -/
namespace Sys2Proof.Machine

@[simp] theorem State.onPn_held (s : State) (p : Phys) (f : Panel → Panel) : (State.onPn s p f).held = s.held := by
  simp [State.onPn]

@[simp] theorem State.onKey_held (s : State) (p : Phys) (k : Fin 16) (f : KeySt → KeySt) : (State.onKey s p k f).held = s.held := by
  simp [State.onKey]

@[simp] theorem panelReq_held (s : State) (p : Phys) (r : PanelReq) : (panelReq s p r).held = s.held := by
  simp [panelReq]

@[simp] theorem panelEvent_held (s : State) (p : Phys) (type : Nat) (key : Nat) : (panelEvent s p type key).held = s.held := by
  simp [panelEvent]

@[simp] theorem syncKeys_held (s : State) (p : Phys) : (syncKeys s p).held = s.held := by
  simp [syncKeys]

@[simp] theorem pressKey_held (s : State) (p : Phys) (k : Fin 16) : (pressKey s p k).held = s.held := by
  unfold pressKey
  (repeat' split) <;> simp

@[simp] theorem keyChatter_held (s : State) (p : Phys) (k : Fin 16) : (keyChatter s p k).held = s.held := by
  simp [keyChatter]

@[simp] theorem acceptKey_held (s : State) (p : Phys) (k : Fin 16) (pressed : Bool) : (acceptKey s p k pressed).held = s.held := by
  simp [acceptKey]

@[simp] theorem debounce_held (s : State) (p : Phys) (k : Fin 16) (raw : Bool) : (debounce s p k raw).held = s.held := by
  simp [debounce]

@[simp] theorem ghostStep_held (s : State) (p : Phys) (m : BitVec 16) : (ghostStep s p m).held = s.held := by
  simp [ghostStep]

@[simp] theorem keyScan_held (s : State) (p : Phys) (raw : BitVec 16) : (keyScan s p raw).held = s.held := by
  simp [keyScan]

@[simp] theorem keyLong_held (s : State) (p : Phys) (k : Fin 16) : (keyLong s p k).held = s.held := by
  simp [keyLong]

@[simp] theorem keyStuck_held (s : State) (p : Phys) (k : Fin 16) : (keyStuck s p k).held = s.held := by
  simp [keyStuck]

@[simp] theorem keyRepeat_held (s : State) (p : Phys) (k : Fin 16) : (keyRepeat s p k).held = s.held := by
  simp [keyRepeat]

@[simp] theorem clearKeyChatter_held (s : State) (p : Phys) (k : Fin 16) (raw : Bool) : (clearKeyChatter s p k raw).held = s.held := by
  simp [clearKeyChatter]

@[simp] theorem encoderChatter_held (s : State) (p : Phys) : (encoderChatter s p).held = s.held := by
  simp [encoderChatter]

@[simp] theorem encoderReject_held (s : State) (p : Phys) : (encoderReject s p).held = s.held := by
  simp [encoderReject]

@[simp] theorem detent_held (s : State) (p : Phys) (cw : Bool) : (detent s p cw).held = s.held := by
  simp [detent]

@[simp] theorem overspeedTick_held (s : State) (p : Phys) : (overspeedTick s p).held = s.held := by
  simp [overspeedTick]

@[simp] theorem encoderEdge_held (s : State) (p : Phys) (a : Bool) (b : Bool) : (encoderEdge s p a b).held = s.held := by
  simp [encoderEdge]

@[simp] theorem clearEncoderChatter_held (s : State) (p : Phys) : (clearEncoderChatter s p).held = s.held := by
  simp [clearEncoderChatter]

@[simp] theorem takePanelEvent_held (s : State) (p : Phys) : (takePanelEvent s p).2.held = s.held := by
  unfold takePanelEvent
  (repeat' split) <;> simp

@[simp] theorem adoptPanel_held (s : State) (p : Phys) (x : Panel) : (adoptPanel s p x).held = s.held := by
  simp [adoptPanel]

end Sys2Proof.Machine
end

