-- ==== Sys2Proof/Laws/HeldSchedule.lean ====
section
/-! SUPPORT. What no operation of Machine/Schedule.lean changes: the held parts of the state (Laws/Held.lean),
save where a lemma says so. -/
namespace Sys2Proof.Machine

@[simp] theorem State.onSc_held (s : State) (p : Phys) (f : Sched → Sched) : (State.onSc s p f).held = s.held := by
  simp [State.onSc]

@[simp] theorem setSchedState_held (s : State) (p : Phys) (v : Nat) : (setSchedState s p v).held = s.held := by
  simp [setSchedState]

@[simp] theorem setBand_held (s : State) (p : Phys) (b : Option Nat) : (setBand s p b).held = s.held := by
  simp [setBand]

@[simp] theorem setDay_held (s : State) (p : Phys) : (setDay s p).held = s.held := by
  simp [setDay]

@[simp] theorem reevaluate_held (s : State) (p : Phys) : (reevaluate s p).held = s.held := by
  simp [reevaluate]

@[simp] theorem judgeTariff_held (s : State) (p : Phys) : (judgeTariff s p).held = s.held := by
  simp [judgeTariff]

@[simp] theorem setBin_held (s : State) (p : Phys) (b : Nat) (v : Nat) : (setBin s p b v).held = s.held := by
  simp [setBin]

@[simp] theorem resetBins_held (s : State) (p : Phys) : (resetBins s p).held = s.held := by
  simp [resetBins]

@[simp] theorem judgeFrozen_held (s : State) (p : Phys) : (judgeFrozen s p).held = s.held := by
  simp [judgeFrozen]

@[simp] theorem learnStep_held (s : State) (p : Phys) (bin : Nat) (active : Nat) (total : Nat) : (learnStep s p bin active total).held = s.held := by
  simp [learnStep]

@[simp] theorem fireAlarm_held (s : State) (p : Phys) (key : Nat × Nat) (at_ : Nat) (late : Bool) : (fireAlarm s p key at_ late).held = s.held := by
  simp [fireAlarm]

@[simp] theorem applyDue_held (s : State) (p : Phys) : (applyDue s p).held = s.held := by
  simp [applyDue]

end Sys2Proof.Machine
end

