-- ==== Sys2Proof/Laws/HeldPlanner.lean ====
section
/-! SUPPORT. What no operation of Machine/Planner.lean changes: the held parts of the state (Laws/Held.lean),
save where a lemma says so. -/
namespace Sys2Proof.Machine

@[simp] theorem State.onLp_held (s : State) (p : Phys) (f : Loop → Loop) : (State.onLp s p f).held = s.held := by
  simp [State.onLp]

@[simp] theorem startPlan_held (s : State) (p : Phys) : (startPlan s p).held = s.held := by
  simp [startPlan]

@[simp] theorem planTrigger_held (s : State) (p : Phys) : (planTrigger s p).held = s.held := by
  simp [planTrigger]

@[simp] theorem planDone_held (s : State) (p : Phys) : (planDone s p).held = s.held := by
  unfold planDone
  (repeat' split) <;> simp

@[simp] theorem planLate_held (s : State) (p : Phys) : (planLate s p).held = s.held := by
  simp [planLate]

@[simp] theorem adoptPlan_held (s : State) (p : Phys) : (adoptPlan s p).held = s.held := by
  unfold adoptPlan
  (repeat' split) <;> simp

@[simp] theorem dropPlan_held (s : State) (p : Phys) : (dropPlan s p).held = s.held := by
  simp [dropPlan]

@[simp] theorem trustFlag_held (s : State) (p : Phys) (x : Fld) (b : Bool) (trig : Bool) : (trustFlag s p x b trig).held = s.held := by
  simp [trustFlag]

@[simp] theorem judgeMeters_held (s : State) (p : Phys) : (judgeMeters s p).held = s.held := by
  simp [judgeMeters]

@[simp] theorem judgePlanner_held (s : State) (p : Phys) : (judgePlanner s p).held = s.held := by
  simp [judgePlanner]

@[simp] theorem followTariff_held (s : State) (p : Phys) : (followTariff s p).held = s.held := by
  simp [followTariff]

@[simp] theorem applyTrust_held (s : State) (p : Phys) : (applyTrust s p).held = s.held := by
  simp [applyTrust]

@[simp] theorem alarmsForward_held (s : State) (p : Phys) (old : Nat) (new : Nat) : (alarmsForward s p old new).held = s.held := by
  simp [alarmsForward]

@[simp] theorem alarmsStep_held (s : State) (p : Phys) (old : Nat) (new : Nat) : (alarmsStep s p old new).held = s.held := by
  simp [alarmsStep]

end Sys2Proof.Machine
end

