-- ==== Sys2Proof/Laws/HeldModes.lean ====
section
/-! SUPPORT. What no operation of Machine/Modes.lean changes: the held parts of the state (Laws/Held.lean),
save where a lemma says so. -/
namespace Sys2Proof.Machine

@[simp] theorem tuneFault_held (s : State) (p : Phys) (lseq : Nat) (reason : Nat) : (tuneFault s p lseq reason).held = s.held := by
  unfold tuneFault
  (repeat' split) <;> simp

@[simp] theorem failTune_held (s : State) (p : Phys) (reason : Nat) : (failTune s p reason).held = s.held := by
  unfold failTune
  (repeat' split) <;> simp

@[simp] theorem startTune_held (s : State) (p : Phys) (x : Exec) : (startTune s p x).held = s.held := by
  simp [startTune]

@[simp] theorem showMode_held (s : State) (p : Phys) : (showMode s p).held = s.held := by
  simp [showMode]

@[simp] theorem setCommand_held (s : State) (p : Phys) (m : Nat) : (setCommand s p m).held = s.held := by
  simp [setCommand]

@[simp] theorem applyMode_held (s : State) (p : Phys) (m : Nat) : (applyMode s p m).held = s.held := by
  simp [applyMode]

@[simp] theorem endTimed_held (s : State) (p : Phys) : (endTimed s p).held = s.held := by
  simp [endTimed]

@[simp] theorem setOffset_held (s : State) (p : Phys) (v : Int) : (setOffset s p v).held = s.held := by
  simp [setOffset]

@[simp] theorem applyReq_held (s : State) (p : Phys) (r : PanelReq) : (applyReq s p r).held = s.held := by
  unfold applyReq
  (repeat' split) <;> simp

@[simp] theorem applyReqs_held (s : State) (p : Phys) : (applyReqs s p).held = s.held := by
  simp [applyReqs]

@[simp] theorem applySchedule_held (was : State) (s : State) (p : Phys) : (applySchedule was s p).held = s.held := by
  simp [applySchedule]

@[simp] theorem formMode_held (s : State) (p : Phys) : (formMode s p).held = s.held := by
  simp [formMode]

@[simp] theorem formSetpoints_held (s : State) (p : Phys) : (formSetpoints s p).held = s.held := by
  simp [formSetpoints]

end Sys2Proof.Machine
end

