-- ==== Sys2Proof/Laws/HeldLoops.lean ====
section
/-! SUPPORT. What no operation of Machine/Loops.lean changes: the held parts of the state (Laws/Held.lean),
save where a lemma says so. -/
namespace Sys2Proof.Machine

@[simp] theorem State.onSide_held (s : State) (p : Phys) (cool : Bool) (f : Side → Side) : (State.onSide s p cool f).held = s.held := by
  simp [State.onSide]

@[simp] theorem beginTransit_held (s : State) (p : Phys) (cool : Bool) (sp : Rat) (tc : Rat) : (beginTransit s p cool sp tc).held = s.held := by
  simp [beginTransit]

@[simp] theorem endTransit_held (s : State) (p : Phys) (cool : Bool) (e : Rat) : (endTransit s p cool e).held = s.held := by
  unfold endTransit
  (repeat' split) <;> simp

@[simp] theorem piStep_held (s : State) (p : Phys) (cool : Bool) (e : Rat) (other : Bool) (fresh : Bool) : (piStep s p cool e other fresh).held = s.held := by
  simp [piStep]

@[simp] theorem roomSide_held (s : State) (p : Phys) (cool : Bool) (sp : Option Int) (tc : Rat) (other : Bool) (fresh : Bool) : (roomSide s p cool sp tc other fresh).held = s.held := by
  unfold roomSide
  simp only []
  (repeat' split) <;> simp

@[simp] theorem settleTick_held (s : State) (p : Phys) (cool : Bool) (tc : Option Rat) (ceiling : Bool) : (settleTick s p cool tc ceiling).held = s.held := by
  unfold settleTick
  simp only []
  (repeat' split) <;> simp

@[simp] theorem State.onTune_held (s : State) (p : Phys) (f : Tune → Tune) : (State.onTune s p f).held = s.held := by
  simp [State.onTune]

@[simp] theorem tuneStep_held (s : State) (p : Phys) (n : Nat) (f : Tune → Tune) : (tuneStep s p n f).held = s.held := by
  simp [tuneStep]

@[simp] theorem tuneCommit_held (s : State) (p : Phys) (t : Tune) : (tuneCommit s p t).held = s.held := by
  unfold tuneCommit
  simp only []
  (repeat' split) <;> simp

@[simp] theorem tuneFit_held (s : State) (p : Phys) (t : Tune) : (tuneFit s p t).held = s.held := by
  simp [tuneFit]

@[simp] theorem tuneRelay_held (s : State) (p : Phys) (t : Tune) (tc : Rat) : (tuneRelay s p t tc).held = s.held := by
  simp [tuneRelay]

@[simp] theorem tuneTick_held (s : State) (p : Phys) (tc : Option Rat) : (tuneTick s p tc).held = s.held := by
  unfold tuneTick
  simp only []
  (repeat' split) <;> simp

@[simp] theorem putRequest_held (s : State) (p : Phys) (j : Out) (x : Rat) : (putRequest s p j x).held = s.held := by
  simp [putRequest]

@[simp] theorem antiWindup_held (s : State) (p : Phys) (cool : Bool) (held : Bool) (before : Rat) (e : Option Rat) : (antiWindup s p cool held before e).1.held = s.held := by
  unfold antiWindup
  simp only []
  (repeat' split) <;> simp

@[simp] theorem lossTick_held (s : State) (p : Phys) : (lossTick s p).held = s.held := by
  simp [lossTick]

@[simp] theorem lossOver_held (s : State) (p : Phys) (eH : Option Rat) (eC : Option Rat) : (lossOver s p eH eC).held = s.held := by
  unfold lossOver
  simp only []
  (repeat' split) <;> simp

@[simp] theorem cascade_held (s : State) (p : Phys) (tc : Rat) (dH : Rat) (dC : Rat) : (cascade s p tc dH dC).1.held = s.held := by
  unfold cascade
  (repeat' split) <;> simp

@[simp] theorem takeImplied_held (s : State) (p : Phys) (eH : Option Rat) (eC : Option Rat) : (takeImplied s p eH eC).held = s.held := by
  unfold takeImplied
  simp only []
  (repeat' split) <;> simp

@[simp] theorem demands_held (s : State) (p : Phys) (tc : Option Rat) : (demands s p tc).1.held = s.held := by
  unfold demands
  simp only []
  (repeat' split) <;> simp

@[simp] theorem protFlag_held (s : State) (p : Phys) (x : Fld) (b : Bool) : (protFlag s p x b).held = s.held := by
  simp [protFlag]

@[simp] theorem ceilings_held (s : State) (p : Phys) (tc : Option Rat) (dH : Rat) (dC : Rat) : (ceilings s p tc dH dC).1.held = s.held := by
  unfold ceilings
  simp
  (repeat' split) <;> simp

@[simp] theorem ceilingPulses_held (s : State) (p : Phys) (cH : Rat) (cC : Rat) : (ceilingPulses s p cH cC).held = s.held := by
  simp [ceilingPulses]

@[simp] theorem sequence_held (s : State) (p : Phys) (dH : Rat) (dC : Rat) (raw : Rat × Rat) (ceil : Rat × Rat) : (sequence s p dH dC raw ceil).1.held = s.held := by
  simp [sequence]

@[simp] theorem recordTick_held (s : State) (p : Phys) (tc : Option Rat) (dH : Rat) (dC : Rat) : (recordTick s p tc dH dC).held = s.held := by
  simp [recordTick]

@[simp] theorem controlTick_held (s : State) (p : Phys) : (controlTick s p).held = s.held := by
  unfold controlTick
  simp only []
  (repeat' split) <;> simp

@[simp] theorem showModel_held (s : State) (p : Phys) (cool : Bool) : (showModel s p cool).held = s.held := by
  simp [showModel]

@[simp] theorem publishModel_held (s : State) (p : Phys) (cool : Bool) : (publishModel s p cool).held = s.held := by
  unfold publishModel
  simp only []
  (repeat' split) <;> simp

@[simp] theorem modelSide_held (s : State) (p : Phys) (cool : Bool) (tOut : Rat) (pres : Bool) (bad : Bool) : (modelSide s p cool tOut pres bad).held = s.held := by
  unfold modelSide
  simp only []
  (repeat' split) <;> simp

@[simp] theorem modelStep_held (s : State) (p : Phys) : (modelStep s p).held = s.held := by
  simp [modelStep]

@[simp] theorem resumeLoops_held (s : State) (p : Phys) (elapsed : Option Nat) : (resumeLoops s p elapsed).held = s.held := by
  unfold resumeLoops
  simp only []
  (repeat' split) <;> simp

end Sys2Proof.Machine
end

