-- ==== Sys2Proof/Laws/HeldZoneCmds.lean ====
section
/-! SUPPORT. What no operation of Machine/ZoneCmds.lean changes: the held parts of the state (Laws/Held.lean),
save where a lemma says so. -/
namespace Sys2Proof.Machine

@[simp] theorem doneZone_held (s : State) (x : Exec) (z : Zone) (value : Word) : (doneZone s x z value).held = s.held := by
  simp [doneZone]

@[simp] theorem ckptSoon_held (s : State) (p : Phys) : (ckptSoon s p).held = s.held := by
  simp [ckptSoon]

@[simp] theorem takeImages_held (s : State) (p : Phys) (x : Exec) : (takeImages s p x).held = s.held := by
  simp [takeImages]

@[simp] theorem noteCal_held (s : State) (p : Phys) (x : Exec) : (noteCal s p x).held = s.held := by
  simp [noteCal]

@[simp] theorem noteHeatCfg_held (s0 : State) (p : Phys) (x : Exec) : (noteHeatCfg s0 p x).held = s0.held := by
  simp [noteHeatCfg]

@[simp] theorem newInputs_held (s : State) (p : Phys) (x : Exec) : (newInputs s p x).held = s.held := by
  unfold newInputs
  dsimp only
  (repeat' split) <;> first | rfl | simp

@[simp] theorem redriveOutputs_held (s : State) (p : Phys) : (redriveOutputs s p).held = s.held := by
  simp [redriveOutputs]

theorem configEffect_held (s : State) (p : Phys) (x : Exec) (t : State) (h : configEffect s p x = some t) :
    t.held = s.held := by
  unfold configEffect at h
  split at h <;> simp at h <;> subst h <;> simp

@[simp] theorem takePulse_held (s : State) (p : Phys) (z : Zone) (x : Exec) : (takePulse s p z x).held = s.held := by
  simp [takePulse]

@[simp] theorem takeTune_held (s : State) (p : Phys) (x : Exec) : (takeTune s p x).held = s.held := by
  simp [takeTune]

@[simp] theorem takeAbort_held (s : State) (p : Phys) (z : Zone) (x : Exec) : (takeAbort s p z x).held = s.held := by
  simp [takeAbort]

@[simp] theorem takeDemandReset_held (s : State) (p : Phys) (z : Zone) (x : Exec) : (takeDemandReset s p z x).held = s.held := by
  simp [takeDemandReset]

@[simp] theorem clearDemand_held (s : State) (p : Phys) : (clearDemand s p).held = s.held := by
  simp [clearDemand]

@[simp] theorem takeCapture_held (s : State) (p : Phys) (z : Zone) (x : Exec) : (takeCapture s p z x).held = s.held := by
  simp [takeCapture]

@[simp] theorem State.onCensus_held (s : State) (lseq : Nat) (f : Census → Census) : (State.onCensus s lseq f).held = s.held := by
  simp [State.onCensus]

@[simp] theorem takeTick_held (s : State) (p : Phys) (z : Zone) (x : Exec) : (takeTick s p z x).held = s.held := by
  unfold takeTick
  simp only []
  (repeat' split) <;> simp

@[simp] theorem takeNew_held (s : State) (p : Phys) (z : Zone) (x : Exec) : (takeNew s p z x).held = s.held := by
  unfold takeNew
  split
  next t h => simp [configEffect_held s p x t h]
  next => split <;> (try split) <;> simp

@[simp] theorem takeAgain_held (s : State) (p : Phys) (x : Exec) : (takeAgain s p x).held = s.held := by
  unfold takeAgain
  split
  next t h => simp [configEffect_held s p x t h]
  next => split <;> (try split) <;> simp

@[simp] theorem raiseTaken_held (s : State) (p : Phys) (lseq : Nat) : (raiseTaken s p lseq).held = s.held := by
  simp [raiseTaken]

@[simp] theorem takeOne_held (s : State) (p : Phys) (z : Zone) (x : Exec) : (takeOne s p z x).held = s.held := by
  unfold takeOne
  (repeat' split) <;> simp

@[simp] theorem takeList_held (s : State) (p : Phys) (z : Zone) (upTo : Option Nat) (l : List Exec) :
    (takeList s p z upTo l).held = s.held := by
  induction l generalizing s with
  | nil => rfl
  | cons x l ih => unfold takeList; (repeat' split) <;> simp [ih]

@[simp] theorem takeInbox_held (s : State) (p : Phys) (upTo : Option Nat) : (takeInbox s p upTo).held = s.held := by
  unfold takeInbox
  (repeat' split) <;> simp

@[simp] theorem zoneCommand_held (s : State) (x : Exec) : (zoneCommand s x).held = s.held := by
  simp [zoneCommand]

@[simp] theorem restoreMode_held (s : State) (p : Phys) (k : ModeKeep) : (restoreMode s p k).held = s.held := by
  simp [restoreMode]

@[simp] theorem restoreModes_held (s : State) (p : Phys) : (restoreModes s p).held = s.held := by
  unfold restoreModes
  try simp only []
  first
    | (refine held_foldl _ (fun s a => ?_) _ _; (repeat' split) <;> simp; done)
    | (refine (held_foldl _ (fun s a => ?_) _ _).trans ?_ <;> (repeat' split) <;> simp; done)
    | (simp; refine held_foldl _ (fun s a => ?_) _ _; (repeat' split) <;> simp)

@[simp] theorem stepOne_held (s : State) (p : Phys) : (stepOne s p).held = s.held := by
  simp [stepOne]

@[simp] theorem loopTick_held (s : State) (p : Phys) : (loopTick s p).held = s.held := by
  simp [loopTick]

@[simp] theorem showCensus_held (s : State) (c : Census) (mixed : Bool) (rollback : Bool) : (showCensus s c mixed rollback).held = s.held := by
  simp [showCensus]

@[simp] theorem withdraw_held (s : State) (lseq : Nat) : (withdraw s lseq).held = s.held := by
  simp [withdraw]

@[simp] theorem tellModes_held (s : State) (c : Census) (rollback : Bool) : (tellModes s c rollback).held = s.held := by
  simp [tellModes]

@[simp] theorem endCensus_held (s : State) (lseq : Nat) : (endCensus s lseq).held = s.held := by
  simp [endCensus]

@[simp] theorem takeCensus_held (s : State) (lseq : Nat) : (takeCensus s lseq).held = s.held := by
  unfold takeCensus
  (repeat' split) <;> simp

@[simp] theorem retryCensus_held (s : State) (lseq : Nat) : (retryCensus s lseq).held = s.held := by
  unfold retryCensus
  (repeat' split) <;> simp

@[simp] theorem finalCensus_held (s : State) (lseq : Nat) : (finalCensus s lseq).held = s.held := by
  unfold finalCensus
  (repeat' split) <;> simp

end Sys2Proof.Machine
end

