-- ==== Sys2Proof/Laws/HeldIntervals.lean ====
section
/-! SUPPORT. What no operation of Machine/Intervals.lean changes: the held parts of the state (Laws/Held.lean),
save where a lemma says so. -/
namespace Sys2Proof.Machine

@[simp] theorem State.onRs_held (s : State) (f : RecStore → RecStore) : (State.onRs s f).held = s.held := by
  simp [State.onRs]

@[simp] theorem storeWarn_held (s : State) : (storeWarn s).held = s.held := by
  simp [storeWarn]

@[simp] theorem writeChain_held (s : State) (z : Zone) (iv : Interval) (len : Nat) (flags : Nat) (synth : Nat) (q : Vector Nat 7) : (writeChain s z iv len flags synth q).held = s.held := by
  simp [writeChain]

@[simp] theorem freshNotes_held (s : State) (p : Phys) : (freshNotes s p).held = s.held := by
  simp [freshNotes]

@[simp] theorem openInterval_held (s : State) (p : Phys) (flags : List Nat) (carry : Vector Nat 7) : (openInterval s p flags carry).held = s.held := by
  simp [openInterval]

@[simp] theorem showDemand_held (s : State) (p : Phys) (c : Closing) (imp : Nat) (exp : Nat) : (showDemand s p c imp exp).held = s.held := by
  simp [showDemand]

@[simp] theorem priceInterval_held (s : State) (p : Phys) (c : Closing) (flags : BitVec 16) (v : Vector Nat 7) : (priceInterval s p c flags v).held = s.held := by
  simp [priceInterval]

@[simp] theorem learnPower_held (s : State) (p : Phys) (c : Closing) (flags : BitVec 16) (v : Vector Nat 7) : (learnPower s p c flags v).held = s.held := by
  simp [learnPower]

@[simp] theorem cutAtBound_held (s : State) (p : Phys) : (cutAtBound s p).1.held = s.held := by
  simp [cutAtBound]

@[simp] theorem closeIval_held (s : State) (p : Phys) (z : Zone) (len : Nat) (next : Nat) (flags : List Nat) : (closeIval s p z len next flags).held = s.held := by
  simp [closeIval]

@[simp] theorem onOpen_held (s : State) (z : Zone) (no : Nat) (f : Interval → Interval) : (onOpen s z no f).held = s.held := by
  simp [onOpen]

@[simp] theorem takeCut_held (s : State) (z : Zone) (e : Vector Acc 7) (synth : Rat) : (takeCut s z e synth).held = s.held := by
  unfold takeCut
  (repeat' split) <;> simp

@[simp] theorem mergeBack_held (s : State) (c : Closing) (l : List Closing) : (mergeBack s c l).1.held = s.held := by
  unfold mergeBack
  simp only []
  (repeat' split) <;> simp

@[simp] theorem writeClosing_held (s : State) (c : Closing) (l : List Closing) : (writeClosing s c l).1.held = s.held := by
  unfold writeClosing
  simp only []
  (repeat' split) <;> simp

@[simp] theorem writeReady_held (s : State) (n : Nat) (l : List Closing) : (writeReady s n l).held = s.held := by
  induction n generalizing s l with
  | zero => simp [writeReady]
  | succ n ih =>
    cases l with
    | nil => simp [writeReady]
    | cons c l =>
      unfold writeReady
      (repeat' split) <;> simp [ih]

@[simp] theorem writeWaiting_held (s : State) : (writeWaiting s).held = s.held := by
  simp [writeWaiting]

@[simp] theorem writeZone_held (s : State) (z : Zone) : (writeZone s z).held = s.held := by
  simp [writeZone]

@[simp] theorem settleClosings_held (s : State) (p : Phys) : (settleClosings s p).held = s.held := by
  unfold settleClosings
  (repeat' split) <;> simp

@[simp] theorem forceClosings_held (s : State) (p : Phys) : (forceClosings s p).held = s.held := by
  unfold forceClosings
  (repeat' split) <;> simp

@[simp] theorem closeDue_held (s : State) (p : Phys) (z : Zone) (t : Nat) : (closeDue s p z t).held = s.held := by
  simp [closeDue]

@[simp] theorem closeDark_held (s : State) (z : Zone) : (closeDark s z).held = s.held := by
  unfold closeDark
  simp only []
  (repeat' split) <;> simp

@[simp] theorem closeZone_held (s : State) (z : Zone) (t : Nat) : (closeZone s z t).held = s.held := by
  simp [closeZone]

@[simp] theorem repairRecord_held (s : State) (n : Nat) : (repairRecord s n).held = s.held := by
  simp [repairRecord]

@[simp] theorem repairRecords_held (s : State) (first : Nat) (last : Nat) : (repairRecords s first last).held = s.held := by
  simp [repairRecords]

@[simp] theorem intervalClose_held (s : State) (z : Zone) : (intervalClose s z).held = s.held := by
  simp [intervalClose]

@[simp] theorem ivalStep_held (s : State) (p : Phys) (old : Nat) (new : Nat) : (ivalStep s p old new).held = s.held := by
  unfold ivalStep
  (repeat' split) <;> simp

@[simp] theorem ivalResume_held (s : State) (p : Phys) (moved : Bool) : (ivalResume s p moved).held = s.held := by
  unfold ivalResume
  (repeat' split) <;> simp

@[simp] theorem spoilRecords_held (s : State) (bad : List Nat) : (spoilRecords s bad).held = s.held := by
  simp [spoilRecords]

@[simp] theorem loadWindow_held (s : State) (n : Nat) (bad : List Nat) : (loadWindow s n bad).held = s.held := by
  simp [loadWindow]

@[simp] theorem windowDone_held (s : State) : (windowDone s).held = s.held := by
  simp [windowDone]

@[simp] theorem acknowledge_held (s : State) (a : Nat) : (acknowledge s a).held = s.held := by
  simp [acknowledge]

end Sys2Proof.Machine
end

