-- ==== Sys2Proof/Laws/HeldSampling.lean ====
section
/-! SUPPORT. What no operation of Machine/Sampling.lean changes: the held parts of the state (Laws/Held.lean),
save where a lemma says so. -/
namespace Sys2Proof.Machine

@[simp] theorem readingOf_held (s : State) (p : Phys) (x : Option ConvDone) (n : Fin 4) (r : InputSample) : (readingOf s p x n r).held = s.held := by
  unfold readingOf
  (repeat' split) <;> simp

@[simp] theorem conversion_held (s : State) (p : Phys) (adc : Fin 2) (d : ConvData) : (conversion s p adc d).held = s.held := by
  unfold conversion
  simp only []
  (repeat' split) <;> simp

end Sys2Proof.Machine
end

