-- ==== Sys2Proof/Laws/HeldTime.lean ====
section
/-! SUPPORT. What no operation of Machine/Time.lean changes: the held parts of the state (Laws/Held.lean),
save where a lemma says so. -/
namespace Sys2Proof.Machine

@[simp] theorem State.onTs_held (s : State) (f : TimeSvc → TimeSvc) : (State.onTs s f).held = s.held := by
  simp [State.onTs]

@[simp] theorem State.onCl_held (s : State) (f : Cellar → Cellar) : (State.onCl s f).held = s.held := by
  simp [State.onCl]

@[simp] theorem eachSlice_held (s : State) (f : State → Phys → State) (hf : ∀ x0 x1, (f x0 x1).held = x0.held) : (eachSlice s f).held = s.held := by
  unfold eachSlice
  exact held_foldl _ (fun s a => hf s a) _ _

@[simp] theorem State.onLd_held (s : State) (f : Landing → Landing) : (State.onLd s f).held = s.held := by
  simp [State.onLd]

@[simp] theorem porchSettings_held (s : State) : (porchSettings s).held = s.held := by
  simp [porchSettings]

@[simp] theorem setClocks_held (s : State) : (setClocks s).held = s.held := by
  simp [setClocks]

@[simp] theorem setPower_held (s : State) (st : Nat) : (setPower s st).held = s.held := by
  simp [setPower]

@[simp] theorem endDoze_held (s : State) : (endDoze s).held = s.held := by
  simp [endDoze]

@[simp] theorem State.putFine_held (s : State) (v : Int) : (State.putFine s v).held = s.held := by
  simp [State.putFine]

@[simp] theorem markUntrusted_held (s : State) (p : Phys) : (markUntrusted s p).held = s.held := by
  simp [markUntrusted]

@[simp] theorem spreadTrust_held (s : State) : (spreadTrust s).held = s.held := by
  simp [spreadTrust]

@[simp] theorem tellUntrusted_held (s : State) (cause : Nat) : (tellUntrusted s cause).held = s.held := by
  simp [tellUntrusted]

@[simp] theorem flipTrust_held (s : State) (b : Bool) (cause : Nat) : (flipTrust s b cause).held = s.held := by
  simp [flipTrust]

@[simp] theorem setTrust_held (s : State) (b : Bool) (cause : Nat) : (setTrust s b cause).held = s.held := by
  simp [setTrust]

@[simp] theorem noteCalinv_held (before : State) (s : State) : (noteCalinv before s).held = s.held := by
  simp [noteCalinv]

@[simp] theorem writeCalendar_held (s : State) (v : Int) : (writeCalendar s v).held = s.held := by
  simp [writeCalendar]

@[simp] theorem checkAlign_held (s : State) : (checkAlign s).held = s.held := by
  simp [checkAlign]

@[simp] theorem setSlew_held (s : State) (v : Int) : (setSlew s v).held = s.held := by
  simp [setSlew]

@[simp] theorem announce_held (s : State) (p : PendStep) : (announce s p).held = s.held := by
  simp [announce]

@[simp] theorem announceSet_held (s : State) (v : Int) (alarm : Bool) (trust : Bool) (lseq : Option Nat) : (announceSet s v alarm trust lseq).held = s.held := by
  simp [announceSet]

@[simp] theorem addOffset_held (s : State) (o : Int) (lseq : Option Nat) : (addOffset s o lseq).1.held = s.held := by
  unfold addOffset
  simp only []
  (repeat' split) <;> simp

@[simp] theorem sliceStep_held (old : Nat) (new : Nat) (off : Int) (alarm : Bool) (s : State) (p : Phys) : (sliceStep old new off alarm s p).held = s.held := by
  simp [sliceStep]

@[simp] theorem applyStep_held (s : State) (q : PendStep) : (applyStep s q).held = s.held := by
  unfold applyStep
  (repeat' split) <;> simp

@[simp] theorem stepEdge_held (s : State) : (stepEdge s).held = s.held := by
  unfold stepEdge
  (repeat' split) <;> simp

@[simp] theorem setSource_held (s : State) (lock : Bool) (hold : Bool) : (setSource s lock hold).held = s.held := by
  simp [setSource]

@[simp] theorem beginHold_held (s : State) (i : Fin 2) : (beginHold s i).held = s.held := by
  simp [beginHold]

@[simp] theorem refreshRate_held (s : State) : (refreshRate s).held = s.held := by
  simp [refreshRate]

@[simp] theorem takeTheta_held (s : State) (i : Fin 2) (theta : Int) (trusted : Bool) (node : Nat) : (takeTheta s i theta trusted node).held = s.held := by
  unfold takeTheta
  simp only []
  (repeat' split) <;> simp

@[simp] theorem setHouseTime_held (s : State) (x : Exec) (elapsed : Nat) : (setHouseTime s x elapsed).held = s.held := by
  simp [setHouseTime]

@[simp] theorem adjustTime_held (s : State) (x : Exec) : (adjustTime s x).held = s.held := by
  simp [adjustTime]

@[simp] theorem shiftHour_held (s : State) (x : Exec) : (shiftHour s x).held = s.held := by
  simp [shiftHour]

@[simp] theorem restartSlaves_held (s : State) : (restartSlaves s).held = s.held := by
  simp [restartSlaves]

@[simp] theorem setSourceCmd_held (s : State) (x : Exec) : (setSourceCmd s x).held = s.held := by
  simp [setSourceCmd]

@[simp] theorem setTrim_held (s : State) (x : Exec) : (setTrim s x).held = s.held := by
  simp [setTrim]

@[simp] theorem payOwed_held (s : State) : (payOwed s).held = s.held := by
  unfold payOwed
  simp only []
  (repeat' split) <;> simp

@[simp] theorem timeStart_held (s : State) : (timeStart s).held = s.held := by
  simp [timeStart]

@[simp] theorem timeSave_held (s : State) : (timeSave s).held = s.held := by
  simp [timeSave]

@[simp] theorem oscStopped_held (s : State) : (oscStopped s).held = s.held := by
  simp [oscStopped]

@[simp] theorem retentionLost_held (s : State) : (retentionLost s).held = s.held := by
  simp [retentionLost]

@[simp] theorem trimWindow_held (s : State) : (trimWindow s).held = s.held := by
  simp [trimWindow]

@[simp] theorem touchCellar_held (s : State) : (touchCellar s).held = s.held := by
  simp [touchCellar]

@[simp] theorem lockOut_held (s : State) : (lockOut s).held = s.held := by
  simp [lockOut]

@[simp] theorem switchOver_held (s : State) : (switchOver s).held = s.held := by
  simp [switchOver]

@[simp] theorem railBack_held (s : State) : (railBack s).held = s.held := by
  simp [railBack]

@[simp] theorem calendarTick_held (s : State) : (calendarTick s).held = s.held := by
  simp [calendarTick]

@[simp] theorem loadCalendar_held (s : State) : (loadCalendar s).held = s.held := by
  simp [loadCalendar]

@[simp] theorem rewriteCalendar_held (s : State) : (rewriteCalendar s).held = s.held := by
  simp [rewriteCalendar]

@[simp] theorem takeMissed_held (s : State) (p : Phys) : (takeMissed s p).held = s.held := by
  simp [takeMissed]

@[simp] theorem driftBase_held (s : State) (p : Phys) (gain : Int) : (driftBase s p gain).held = s.held := by
  simp [driftBase]

@[simp] theorem discipline_held (s0 : State) (p : Phys) (gain : Int) : (discipline s0 p gain).held = s0.held := by
  simp [discipline]

end Sys2Proof.Machine
end

