-- ==== Sys2Proof/Laws/HeldPorts.lean ====
section
/-! SUPPORT. What no operation of Machine/Ports.lean changes: the held parts of the state (Laws/Held.lean),
save where a lemma says so. -/
namespace Sys2Proof.Machine

@[simp] theorem State.onPort_held (s : State) (i : Fin 2) (f : PortSt → PortSt) : (State.onPort s i f).held = s.held := by
  simp [State.onPort]

@[simp] theorem State.evtB_held (s : State) (i : Fin 2) (bit : Nat) : (State.evtB s i bit).held = s.held := by
  simp [State.evtB]

@[simp] theorem setAlone_held (s : State) (i : Fin 2) (b : Bool) : (setAlone s i b).held = s.held := by
  simp [setAlone]

@[simp] theorem setPortState_held (s : State) (i : Fin 2) (st : Nat) : (setPortState s i st).held = s.held := by
  simp [setPortState]

@[simp] theorem judgePort_held (s : State) (i : Fin 2) : (judgePort s i).held = s.held := by
  simp [judgePort]

@[simp] theorem setCounts_held (s : State) (i : Fin 2) (tec : Nat) (rec_ : Nat) : (setCounts s i tec rec_).held = s.held := by
  simp [setCounts]

@[simp] theorem endAlone_held (s : State) (i : Fin 2) : (endAlone s i).held = s.held := by
  simp [endAlone]

@[simp] theorem setDomto_held (s : State) (i : Fin 2) (b : Bool) : (setDomto s i b).held = s.held := by
  simp [setDomto]

@[simp] theorem holdOff_held (s : State) (i : Fin 2) (own : Bool) (bits : Nat) : (holdOff s i own bits).held = s.held := by
  simp [holdOff]

@[simp] theorem sendFlag_held (s : State) (i : Fin 2) (own : Bool) : (sendFlag s i own).held = s.held := by
  simp [sendFlag]

@[simp] theorem queueFrame_held (s : State) (i : Fin 2) (f : BusFrame) : (queueFrame s i f).held = s.held := by
  simp [queueFrame]

@[simp] theorem queueTime_held (s : State) (i : Fin 2) (f : BusFrame) : (queueTime s i f).held = s.held := by
  simp [queueTime]

@[simp] theorem busAnswer_held (s : State) (i : Fin 2) (node : Nat) (late : Bool) (bytes : List Byte) : (busAnswer s i node late bytes).held = s.held := by
  simp [busAnswer]

@[simp] theorem putTx_held (s : State) (i : Fin 2) (pl : TxPlace) (t : Option TxFrame) : (putTx s i pl t).held = s.held := by
  simp [putTx]

@[simp] theorem hostResult_held (s : State) (i : Fin 2) (pl : TxPlace) (result : Nat) : (hostResult s i pl result).held = s.held := by
  simp [hostResult]

@[simp] theorem noteAttempt_held (s : State) (i : Fin 2) (pl : TxPlace) (t : TxFrame) : (noteAttempt s i pl t).held = s.held := by
  simp [noteAttempt]

@[simp] theorem timeSent_held (s : State) (i : Fin 2) (f : BusFrame) (sof : Nat) : (timeSent s i f sof).held = s.held := by
  simp [timeSent]

@[simp] theorem txAcked_held (s : State) (i : Fin 2) (pl : TxPlace) (t : TxFrame) (sof : Nat) : (txAcked s i pl t sof).held = s.held := by
  unfold txAcked
  (repeat' split) <;> simp

@[simp] theorem txAbandon_held (s : State) (i : Fin 2) (pl : TxPlace) (t : TxFrame) : (txAbandon s i pl t).held = s.held := by
  simp [txAbandon]

@[simp] theorem txError_held (s0 : State) (i : Fin 2) (o : TxOutcome) : (txError s0 i o).held = s0.held := by
  unfold txError
  (repeat' split) <;> simp

@[simp] theorem txEnd_held (s0 : State) (i : Fin 2) (o : TxOutcome) (sof : Nat) : (txEnd s0 i o sof).held = s0.held := by
  unfold txEnd
  (repeat' split) <;> simp

@[simp] theorem rxFail_held (s : State) (i : Fin 2) (e : RxError) (dom : Bool) : (rxFail s i e dom).held = s.held := by
  unfold rxFail
  (repeat' split) <;> simp

@[simp] theorem rxGood_held (s : State) (i : Fin 2) : (rxGood s i).held = s.held := by
  simp [rxGood]

@[simp] theorem heard_held (s : State) (i : Fin 2) (k : BitVec 8 → Bool) (bits : List Bool) (use : BusFrame → State → State)
    (huse : ∀ f x, (use f x).held = x.held) : (heard s i k bits use).held = s.held := by
  unfold heard; (repeat' split) <;> simp [huse]

@[simp] theorem receive_held (s : State) (i : Fin 2) (k : BitVec 8 → Bool) (bits : List Bool) (use : BusFrame → State → State)
    (huse : ∀ f x, (use f x).held = x.held) : (receive s i k bits use).held = s.held := by
  unfold receive
  exact heard_held s i k bits _ (fun f x => (huse f _).trans (endDoze_held x))

@[simp] theorem setOutdoor_held (s : State) (t : Nat) : (setOutdoor s t).held = s.held := by
  simp [setOutdoor]

@[simp] theorem takeOutdoor_held (f : BusFrame) (s : State) : (takeOutdoor f s).held = s.held := by
  simp [takeOutdoor]

@[simp] theorem sendSlot_held (s : State) (i : Fin 2) : (sendSlot s i).held = s.held := by
  simp [sendSlot]

@[simp] theorem cancelSlot_held (s : State) (i : Fin 2) (started : Bool) : (cancelSlot s i started).held = s.held := by
  unfold cancelSlot
  (repeat' split) <;> simp

@[simp] theorem takeHostFrame_held (i : Fin 2) (f : BusFrame) (sof : Nat) (s : State) : (takeHostFrame i f sof s).held = s.held := by
  simp [takeHostFrame]

@[simp] theorem readRxHdr_held (s : State) (i : Fin 2) : (readRxHdr s i).2.held = s.held := by
  unfold readRxHdr
  (repeat' split) <;> simp

@[simp] theorem dropXfer_held (s : State) (i : Fin 2) (node : BitVec 8) : (dropXfer s i node).held = s.held := by
  simp [dropXfer]

@[simp] theorem keepXfer_held (s : State) (i : Fin 2) (t : Xfer) (last : Bool) : (keepXfer s i t last).1.held = s.held := by
  unfold keepXfer
  (repeat' split) <;> simp

@[simp] theorem takeSegment_held (s : State) (i : Fin 2) (f : BusFrame) : (takeSegment s i f).1.held = s.held := by
  unfold takeSegment
  simp only []
  (repeat' split) <;> simp

@[simp] theorem noteMaster_held (s : State) (i : Fin 2) (node : Nat) : (noteMaster s i node).held = s.held := by
  simp [noteMaster]

@[simp] theorem State.onSlave_held (s : State) (i : Fin 2) (f : TimeSlave → TimeSlave) : (State.onSlave s i f).held = s.held := by
  simp [State.onSlave]

@[simp] theorem rivalSync_held (s : State) (i : Fin 2) (node : Nat) : (rivalSync s i node).held = s.held := by
  simp [rivalSync]

@[simp] theorem slaveSync_held (s : State) (i : Fin 2) (node : Nat) (seq : Nat) (t2 : Rat) : (slaveSync s i node seq t2).held = s.held := by
  unfold slaveSync
  (repeat' split) <;> simp

@[simp] theorem takeSync_held (i : Fin 2) (f : BusFrame) (sof : Nat) (s : State) : (takeSync i f sof s).held = s.held := by
  simp [takeSync]

@[simp] theorem syncPair_held (s : State) (i : Fin 2) (seq : Nat) (node : Nat) (t1 : Rat) (t2 : Rat) (trusted : Bool) : (syncPair s i seq node t1 t2 trusted).held = s.held := by
  simp [syncPair]

@[simp] theorem takeFollowUp_held (i : Fin 2) (f : BusFrame) (s : State) : (takeFollowUp i f s).held = s.held := by
  unfold takeFollowUp
  (repeat' split) <;> simp

@[simp] theorem takeDelayReq_held (i : Fin 2) (f : BusFrame) (sof : Nat) (s : State) : (takeDelayReq i f sof s).held = s.held := by
  simp [takeDelayReq]

@[simp] theorem takeDelay_held (s : State) (i : Fin 2) (d : Rat) : (takeDelay s i d).held = s.held := by
  simp [takeDelay]

@[simp] theorem takeDelayResp_held (i : Fin 2) (f : BusFrame) (s : State) : (takeDelayResp i f s).held = s.held := by
  unfold takeDelayResp
  (repeat' split) <;> simp

@[simp] theorem loseSync_held (s : State) (i : Fin 2) : (loseSync s i).held = s.held := by
  simp [loseSync]

@[simp] theorem reconfigure_held (s : State) (i : Fin 2) (w : Word) : (reconfigure s i w).held = s.held := by
  simp [reconfigure]

@[simp] theorem applyWaiting_held (s : State) (i : Fin 2) : (applyWaiting s i).held = s.held := by
  unfold applyWaiting
  (repeat' split) <;> simp

@[simp] theorem integrateAgain_held (s : State) (i : Fin 2) : (integrateAgain s i).held = s.held := by
  simp [integrateAgain]

@[simp] theorem wakePorts_held (s : State) : (wakePorts s).held = s.held := by
  simp [wakePorts]

@[simp] theorem restartPorts_held (s : State) : (restartPorts s).held = s.held := by
  unfold restartPorts
  try simp only []
  first
    | (refine held_foldl _ (fun s a => ?_) _ _; (repeat' split) <;> simp; done)
    | (refine (held_foldl _ (fun s a => ?_) _ _).trans ?_ <;> (repeat' split) <;> simp; done)
    | (simp; refine held_foldl _ (fun s a => ?_) _ _; (repeat' split) <;> simp)

@[simp] theorem sendKnock_held (s : State) (port : Sys2Proof.Port) : (sendKnock s port).held = s.held := by
  simp [sendKnock]

end Sys2Proof.Machine
end

