-- ==== Sys2Proof/Laws/HeldLink.lean ====
section
/-! SUPPORT. What no operation of Machine/Link.lean changes: the held parts of the state (Laws/Held.lean),
save where a lemma says so. -/
namespace Sys2Proof.Machine

@[simp] theorem State.onLk_held (s : State) (f : Link → Link) : (State.onLk s f).held = s.held := by
  simp [State.onLk]

@[simp] theorem setLink_held (s : State) (st : Nat) (lanes : BitVec 4) : (setLink s st lanes).held = s.held := by
  simp [setLink]

@[simp] theorem linkDown_held (s : State) : (linkDown s).held = s.held := by
  simp [linkDown]

@[simp] theorem retrainLink_held (s : State) : (retrainLink s).held = s.held := by
  simp [retrainLink]

@[simp] theorem excludeLane_held (s : State) (n : Fin 4) : (excludeLane s n).held = s.held := by
  simp [excludeLane]

@[simp] theorem sendPacket_held (s : State) (p : OutPacket) : (sendPacket s p).held = s.held := by
  simp [sendPacket]

@[simp] theorem freeBuffer_held (s : State) : (freeBuffer s).held = s.held := by
  simp [freeBuffer]

@[simp] theorem linkUp_held (s : State) : (linkUp s).held = s.held := by
  simp [linkUp]

@[simp] theorem linkConfig_held (s : State) : (linkConfig s).held = s.held := by
  simp [linkConfig]

@[simp] theorem trainingSet_held (s : State) (set : TrainSet) (lane : Fin 4) (mask : BitVec 4) (complete : Bool) : (trainingSet s set lane mask complete).held = s.held := by
  simp [trainingSet]

@[simp] theorem detectEnd_held (s : State) : (detectEnd s).held = s.held := by
  simp [detectEnd]

@[simp] theorem symbolError_held (s : State) (lane : Fin 4) (consecutive : Nat) (inWindow : Nat) : (symbolError s lane consecutive inWindow).held = s.held := by
  simp [symbolError]

@[simp] theorem hostRetrain_held (s : State) (lanes : BitVec 4) : (hostRetrain s lanes).held = s.held := by
  simp [hostRetrain]

@[simp] theorem State.setTag_held (s : State) (t : BitVec 8) (x : TagSt) : (State.setTag s t x).held = s.held := by
  simp [State.setTag]

@[simp] theorem linkError_held (s : State) (tag : BitVec 8) (code : Nat) : (linkError s tag code).held = s.held := by
  simp [linkError]

@[simp] theorem respond_held (s : State) (type : BitVec 8) (tag : BitVec 8) (body : List Byte) : (respond s type tag body).held = s.held := by
  simp [respond]

@[simp] theorem linkRequest_held (s : State) (tag : BitVec 8) (rtx : Bool) (f : State → State) (hf : ∀ x0, (f x0).held = x0.held) : (linkRequest s tag rtx f).held = s.held := by
  unfold linkRequest; simp only []; (repeat' split) <;> simp [hf]

@[simp] theorem spiRespond_held (s : State) (op : Nat) (body : List Byte) : (spiRespond s op body).held = s.held := by
  simp [spiRespond]

@[simp] theorem queueLate_held (s : State) (bytes : List Byte) : (queueLate s bytes).held = s.held := by
  simp [queueLate]

@[simp] theorem sendAnswer_held (s : State) (path : Path) (dest : Nat) (late : Bool) (bytes : List Byte) : (sendAnswer s path dest late bytes).held = s.held := by
  unfold sendAnswer
  (repeat' split) <;> simp

end Sys2Proof.Machine
end

