-- ==== Sys2Proof/Laws/HeldResume.lean ====
section
/-! SUPPORT. What no operation of Machine/Resume.lean changes: the held parts of the state (Laws/Held.lean),
save where a lemma says so. -/
namespace Sys2Proof.Machine

@[simp] theorem handAgain_held (s : State) (p : Phys) (z : Zone) : (handAgain s p z).held = s.held := by
  simp [handAgain]

@[simp] theorem loadZone_held (s : State) (p : Phys) (k : Ckpt) (gone : Nat) (pads : Outs) : (loadZone s p k gone pads).held = s.held := by
  simp [loadZone]

@[simp] theorem endOneTime_held (s : State) (p : Phys) (z : Zone) (c : ZoneState) (live : Capture) : (endOneTime s p z c live).held = s.held := by
  unfold endOneTime
  try simp only []
  first
    | (refine held_foldl _ (fun s a => ?_) _ _; (repeat' split) <;> simp; done)
    | (refine (held_foldl _ (fun s a => ?_) _ _).trans ?_ <;> (repeat' split) <;> simp; done)
    | (simp; refine held_foldl _ (fun s a => ?_) _ _; (repeat' split) <;> simp)

@[simp] theorem resumeSched_held (s : State) (p : Phys) (t0 : Nat) : (resumeSched s p t0).held = s.held := by
  simp [resumeSched]

@[simp] theorem restartInputs_held (s : State) (p : Phys) : (restartInputs s p).held = s.held := by
  simp [restartInputs]

@[simp] theorem restartConverters_held (s : State) (p : Phys) : (restartConverters s p).held = s.held := by
  simp [restartConverters]

@[simp] theorem resumeZone_held (s : State) (p : Phys) (k : ResumeKind) (t0 : Nat) (post : Option Posting) : (resumeZone s p k t0 post).held = s.held := by
  unfold resumeZone
  (repeat' split) <;> simp

@[simp] theorem unclamp_held (s : State) (p : Phys) : (unclamp s p).held = s.held := by
  simp [unclamp]

@[simp] theorem reloadSlice_held (s : State) (p : Phys) (z : Zone) (k : ResumeKind) (c : Option Ckpt) (pads : Outs) (live : Capture) (post : Option Posting) : (reloadSlice s p z k c pads live post).held = s.held := by
  simp [reloadSlice]

@[simp] theorem restartSlice_held (s0 : State) (p : Phys) (k : ResumeKind) : (restartSlice s0 p k).held = s0.held := by
  unfold restartSlice
  (repeat' split) <;> simp

@[simp] theorem wakeSlice_held (s : State) (p : Phys) : (wakeSlice s p).held = s.held := by
  simp [wakeSlice]

@[simp] theorem unstopSlice_held (s : State) (p : Phys) : (unstopSlice s p).held = s.held := by
  simp [unstopSlice]

end Sys2Proof.Machine
end

