-- ==== Sys2Proof/Laws/HeldReplay.lean ====
section
/-! SUPPORT. What no operation of Machine/Replay.lean changes: the held parts of the state (Laws/Held.lean),
save where a lemma says so. -/
namespace Sys2Proof.Machine

@[simp] theorem finalResult_held (s : State) (lseq : Nat) : (finalResult s lseq).held = s.held := by
  unfold finalResult
  simp only []
  (repeat' split) <;> simp

@[simp] theorem startRecords_held (s : State) : (startRecords s).held = s.held := by
  simp [startRecords]

@[simp] theorem abortCaptures_held (s : State) : (abortCaptures s).held = s.held := by
  simp [abortCaptures]

@[simp] theorem changeState_butModst (s : State) (st : Nat) : (changeState s st).held.butModst = s.held.butModst := by
  unfold changeState
  simp only []
  (repeat' split) <;> simp

@[simp] theorem changeState_legal (s : State) (st : Nat) (hl : s.held.legal) : (changeState s st).held.legal := by
  unfold changeState
  simp only []
  have h0 := (legal_eta s).1 hl
  split
  · exact hl
  · rename_i h
    simp only [not_or, Nat.not_lt] at h
    split <;> simp [legal_mk, h.2, h0.1]

@[simp] theorem abandonRepair_held (s : State) : (abandonRepair s).held = s.held := by
  unfold abandonRepair
  (repeat' split) <;> simp

@[simp] theorem mendColumns_held (s : State) (p : Phys) : (mendColumns s p).held = s.held := by
  simp [mendColumns]

@[simp] theorem recordTest_held (s : State) (p : Phys) (bits : BitVec 11) (full : Bool) : (recordTest s p bits full).held = s.held := by
  simp [recordTest]

@[simp] theorem quickTest_held (s : State) (p : Phys) (bits : BitVec 11) : (quickTest s p bits).held = s.held := by
  unfold quickTest
  simp only []
  (repeat' split) <;> simp

@[simp] theorem quickTests_held (s : State) (found : List (Phys × BitVec 11)) : (quickTests s found).held = s.held := by
  simp [quickTests]

@[simp] theorem itemCtx_held (s : State) (d : DurItem) : (itemCtx s d).2.held = s.held := by
  unfold itemCtx
  (repeat' split) <;> simp

@[simp] theorem loseItem_held (s : State) (d : DurItem) : (loseItem s d).held = s.held := by
  simp [loseItem]

@[simp] theorem replayItem_held (s : State) (d : DurItem) : (replayItem s d).held = s.held := by
  simp [replayItem]

@[simp] theorem replayCopies_held (s : State) : (replayCopies s).held = s.held := by
  simp [replayCopies]

@[simp] theorem replayResults_held (s : State) : (replayResults s).held = s.held := by
  simp [replayResults]

@[simp] theorem replayPorch_held (rep : Option Nat) (c : State × Nat) (r : Running) :
    (replayPorch rep c r).1.held = c.1.held := by
  unfold replayPorch
  simp only []
  (repeat' split) <;> simp

@[simp] theorem replayCensus_held (s : State) (c : Census) : (replayCensus s c).held = s.held := by
  simp [replayCensus]

@[simp] theorem replaySteps_held (s : State) : (replaySteps s).1.held = s.held := by
  simp [replaySteps]

@[simp] theorem noteReplay_butModst (s : State) (lost : Bool) (n : Nat) (durMs : Nat) : (noteReplay s lost n durMs).held.butModst = s.held.butModst := by
  unfold noteReplay
  (repeat' split) <;> simp

@[simp] theorem noteReplay_legal (s : State) (lost : Bool) (n : Nat) (durMs : Nat) (hl : s.held.legal) : (noteReplay s lost n durMs).held.legal := by
  unfold noteReplay
  (repeat' split) <;> simp_all

@[simp] theorem openAcceptance_held (s : State) : (openAcceptance s).held = s.held := by
  simp [openAcceptance]

@[simp] theorem replayRun_butModst (s : State) (bad : List BadItem) (durMs : Nat) : (replayRun s bad durMs).held.butModst = s.held.butModst := by
  simp [replayRun]

@[simp] theorem replayRun_legal (s : State) (bad : List BadItem) (durMs : Nat) (hl : s.held.legal) : (replayRun s bad durMs).held.legal := by
  unfold replayRun
  exact noteReplay_legal _ _ _ _ (by simpa using hl)

@[simp] theorem replay_butModst (s : State) (bad : List BadItem) (durMs : Nat) : (replay s bad durMs).held.butModst = s.held.butModst := by
  simp [replay]

@[simp] theorem replay_legal (s : State) (bad : List BadItem) (durMs : Nat) (hl : s.held.legal) : (replay s bad durMs).held.legal := by
  unfold replay
  (repeat' split) <;> simp_all

end Sys2Proof.Machine
end

