-- ==== Sys2Proof/Laws/HeldPower.lean ====
section
/-! SUPPORT. What no operation of Machine/Power.lean changes: the held parts of the state (Laws/Held.lean),
save where a lemma says so. -/
namespace Sys2Proof.Machine

@[simp] theorem notePwr_held (s : State) (b : Block) (target : Nat) (vote : Nat) : (notePwr s b target vote).held = s.held := by
  simp [notePwr]

@[simp] theorem logAbort_held (s : State) (page : Nat) (cause : Nat) (reason : Nat) (e : PwrEntry) : (logAbort s page cause reason e).held = s.held := by
  simp [logAbort]

@[simp] theorem unstopAll_held (s : State) (e : PwrEntry) : (unstopAll s e).held = s.held := by
  unfold unstopAll
  try simp only []
  first
    | (refine held_foldl _ (fun s a => ?_) _ _; (repeat' split) <;> simp; done)
    | (refine (held_foldl _ (fun s a => ?_) _ _).trans ?_ <;> (repeat' split) <;> simp; done)
    | (simp; refine held_foldl _ (fun s a => ?_) _ _; (repeat' split) <;> simp)

@[simp] theorem abortEntry_held (s : State) (e : PwrEntry) (page : Nat) (cause : Nat) (reason : Nat) (again : Option PwrEntry) : (abortEntry s e page cause reason again).held = s.held := by
  unfold abortEntry
  (repeat' split) <;> simp

@[simp] theorem powerRequest_held (s : State) (x : Exec) : (powerRequest s x).held = s.held := by
  simp [powerRequest]

@[simp] theorem endDefer_held (s : State) : (endDefer s).held = s.held := by
  unfold endDefer
  (repeat' split) <;> simp

@[simp] theorem boundaryAbort_held (s : State) : (boundaryAbort s).held = s.held := by
  unfold boundaryAbort
  (repeat' split) <;> simp

@[simp] theorem latchWake_held (s : State) (code : Nat) : (latchWake s code).held = s.held := by
  unfold latchWake
  simp only []
  (repeat' split) <;> simp

@[simp] theorem wakeSlices_held (s : State) (bad : List Phys) : (wakeSlices s bad).held = s.held := by
  simp [wakeSlices]

@[simp] theorem stopAll_held (s : State) : (stopAll s).held = s.held := by
  simp [stopAll]

@[simp] theorem wakeTests_held (s : State) (bad : List Phys) : (wakeTests s bad).held = s.held := by
  simp [wakeTests]

@[simp] theorem wakeUp_butModst (s : State) (bad : List Phys) : (wakeUp s bad).held.butModst = s.held.butModst := by
  unfold wakeUp
  simp only []
  (repeat' split) <;> simp

@[simp] theorem wakeUp_legal (s : State) (bad : List Phys) (hl : s.held.legal) : (wakeUp s bad).held.legal := by
  unfold wakeUp
  simp only []
  (repeat' split) <;> simp [hl]

@[simp] theorem wakeEvent_butModst (s : State) (src : WakeSrc) (bad : List Phys) : (wakeEvent s src bad).held.butModst = s.held.butModst := by
  unfold wakeEvent
  (repeat' split) <;> simp

@[simp] theorem wakeEvent_legal (s : State) (src : WakeSrc) (bad : List Phys) (hl : s.held.legal) : (wakeEvent s src bad).held.legal := by
  unfold wakeEvent
  (repeat' split) <;> simp_all

@[simp] theorem deliverWake_held (s : State) (r : WakeRec) : (deliverWake s r).held = s.held := by
  unfold deliverWake
  (repeat' split) <;> simp

@[simp] theorem nextWake_held (s : State) : (nextWake s).held = s.held := by
  unfold nextWake
  (repeat' split) <;> simp

@[simp] theorem dropOutputs_held (s : State) (p : Phys) : (dropOutputs s p).held = s.held := by
  simp [dropOutputs]

@[simp] theorem dropSlice_held (s : State) (p : Phys) : (dropSlice s p).held = s.held := by
  simp [dropSlice]

@[simp] theorem enterState_butModst (s : State) (e : PwrEntry) : (enterState s e).held.butModst = s.held.butModst := by
  unfold enterState
  simp only []
  (repeat' split) <;> simp

@[simp] theorem enterState_legal (s : State) (e : PwrEntry) (hl : s.held.legal) : (enterState s e).held.legal := by
  have h1 : ((List.finRange 68).foldl dropOutputs (((if e.target = 2 then linkDown ((finalResult (markPorch
      (s.onLd (fun l => { l with entry := none })) e.lseq resDone 0 0) e.lseq).pbump F.PWR_CNT_ENTRIES) else s)))).held = s.held := by simp
  unfold enterState
  simp only []
  (repeat' split) <;> simp [hl]

@[simp] theorem completeWrites_held (s : State) : (completeWrites s).held = s.held := by
  simp [completeWrites]

@[simp] theorem stopBlock_butModst (s : State) (e : PwrEntry) (b : Block) : (stopBlock s e b).held.butModst = s.held.butModst := by
  unfold stopBlock
  (repeat' split) <;> simp

@[simp] theorem stopBlock_legal (s : State) (e : PwrEntry) (b : Block) (hl : s.held.legal) : (stopBlock s e b).held.legal := by
  unfold stopBlock
  (repeat' split) <;> simp_all

@[simp] theorem agreed_butModst (s : State) (e : PwrEntry) (b : Block) (rest : List Block) : (agreed s e b rest).held.butModst = s.held.butModst := by
  simp [agreed]

@[simp] theorem agreed_legal (s : State) (e : PwrEntry) (b : Block) (rest : List Block) (hl : s.held.legal) : (agreed s e b rest).held.legal := by
  unfold agreed
  (repeat' split) <;> simp_all

@[simp] theorem delayed_held (s : State) (e : PwrEntry) (b : Block) : (delayed s e b).held = s.held := by
  simp [delayed]

@[simp] theorem handshake_butModst (s : State) (vote : Vote) (reason : Nat) : (handshake s vote reason).held.butModst = s.held.butModst := by
  unfold handshake
  (repeat' split) <;> simp

@[simp] theorem handshake_legal (s : State) (vote : Vote) (reason : Nat) (hl : s.held.legal) : (handshake s vote reason).held.legal := by
  unfold handshake
  (repeat' split) <;> simp_all

@[simp] theorem askAgain_held (s : State) : (askAgain s).held = s.held := by
  unfold askAgain
  (repeat' split) <;> simp

@[simp] theorem noAnswer_held (s : State) : (noAnswer s).held = s.held := by
  unfold noAnswer
  (repeat' split) <;> simp

@[simp] theorem copyAbort_held (s : State) (sel : Nat) : (copyAbort s sel).held = s.held := by
  unfold copyAbort
  (repeat' split) <;> simp

@[simp] theorem State.onTh_held (s : State) (f : Thermal → Thermal) : (State.onTh s f).held = s.held := by
  simp [State.onTh]

@[simp] theorem takeSensors_held (s : State) (t1 : Int) (t2 : Int) (t3 : Int) : (takeSensors s t1 t2 t3).held = s.held := by
  simp [takeSensors]

@[simp] theorem bandSupply_held (s : State) (p : Phys) : (bandSupply s p).held = s.held := by
  simp [bandSupply]

@[simp] theorem publishBand_held (s : State) (b : Nat) : (publishBand s b).held = s.held := by
  simp [publishBand]

@[simp] theorem judgeWarn_held (s : State) : (judgeWarn s).held = s.held := by
  simp [judgeWarn]

@[simp] theorem judgeThrottle_held (s : State) : (judgeThrottle s).held = s.held := by
  simp [judgeThrottle]

@[simp] theorem applyFactor_held (s : State) (dt : Nat) : (applyFactor s dt).held = s.held := by
  simp [applyFactor]

@[simp] theorem shutSlice_held (s : State) (p : Phys) : (shutSlice s p).held = s.held := by
  simp [shutSlice]

@[simp] theorem shutDown_held (s : State) : (shutDown s).held = s.held := by
  unfold shutDown
  simp only []
  (repeat' split) <;> simp

@[simp] theorem shutEnds_held (s : State) : (shutEnds s).held = s.held := by
  simp [shutEnds]

@[simp] theorem judgeShut_held (s : State) : (judgeShut s).held = s.held := by
  simp [judgeShut]

@[simp] theorem dieSample_held (s : State) (t1 : Int) (t2 : Int) (t3 : Int) : (dieSample s t1 t2 t3).held = s.held := by
  simp [dieSample]

end Sys2Proof.Machine
end

