-- ==== Sys2Proof/Laws/HeldUpkeep.lean ====
section
/-! SUPPORT. What no operation of Machine/Upkeep.lean changes: the held parts of the state (Laws/Held.lean),
save where a lemma says so. -/
namespace Sys2Proof.Machine

@[simp] theorem fullTest_held (s : State) (p : Phys) (bits : BitVec 11) : (fullTest s p bits).held = s.held := by
  unfold fullTest
  simp only []
  (repeat' split) <;> simp

@[simp] theorem powerTarget_held (s : State) (t : Phys) : (powerTarget s t).held = s.held := by
  simp [powerTarget]

@[simp] theorem resetSlice_held (s : State) (p : Phys) : (resetSlice s p).held = s.held := by
  simp [resetSlice]

@[simp] theorem missBeat_held (s : State) (p : Phys) : (missBeat s p).held = s.held := by
  simp [missBeat]

@[simp] theorem badWord_held (s : State) (p : Phys) : (badWord s p).held = s.held := by
  simp [badWord]

@[simp] theorem scrubSram_held (s : State) (p : Phys) (n : Nat) (column : Bool) : (scrubSram s p n column).held = s.held := by
  simp [scrubSram]

@[simp] theorem spoilPath_held (s : State) (i : Nat) : (spoilPath s i).held = s.held := by
  simp [spoilPath]

@[simp] theorem calPath_held (s : State) (m : PathMeas) : (calPath s m).held = s.held := by
  simp [calPath]

@[simp] theorem recalibrate_held (s : State) (m : PathMeas) : (recalibrate s m).held = s.held := by
  simp [recalibrate]

@[simp] theorem expirePath_held (s : State) (z : Zone) (k : Fin 4) : (expirePath s z k).held = s.held := by
  simp [expirePath]

@[simp] theorem copyPath_held (s : State) (z : Zone) (k : Fin 4) : (copyPath s z k).held = s.held := by
  simp [copyPath]

@[simp] theorem hallwayCal_held (s : State) (x : Exec) (l : List PathMeas) : (hallwayCal s x l).held = s.held := by
  simp [hallwayCal]

@[simp] theorem tryTarget_held (s : State) (z : Zone) (t : Phys) (c : TargetCheck) : (tryTarget s z t c).1.held = s.held := by
  unfold tryTarget
  simp only []
  (repeat' split) <;> simp

@[simp] theorem nextTarget_held (s : State) (z : Zone) (c : TargetCheck) (first : Prep) : (nextTarget s z c first).1.held = s.held := by
  unfold nextTarget
  split
  · rfl
  · rename_i t h
    have h1 := tryTarget_held s z t c
    split <;> simp_all

@[simp] theorem prepare_held (s : State) (z : Zone) (named : Option Phys) (l : List TargetCheck) : (prepare s z named l).1.held = s.held := by
  unfold prepare
  split
  · rfl
  · rename_i t h
    have h1 := tryTarget_held s z t (l.getD 0 {})
    revert h1
    generalize tryTarget s z t (l.getD 0 {}) = q
    obtain ⟨a, b⟩ := q
    intro h1
    cases b <;> simp_all

@[simp] theorem faultZone_held (s : State) (z : Zone) : (faultZone s z).held = s.held := by
  simp [faultZone]

@[simp] theorem decline_held (s : State) (z : Zone) : (decline s z).held = s.held := by
  simp [decline]

@[simp] theorem markRepair_held (s : State) (opcode : BitVec 16) (lseq : Nat) (z : Zone) (result : Nat) (reason : Nat) (value : Word) : (markRepair s opcode lseq z result reason value).held = s.held := by
  simp [markRepair]

@[simp] theorem failRepair_held (s : State) (opcode : BitVec 16) (lseq : Nat) (z : Zone) (why : Nat) (planned : Bool) : (failRepair s opcode lseq z why planned).held = s.held := by
  simp [failRepair]

@[simp] theorem State.onRepair_held (s : State) (f : Option Repair → Option Repair) : (State.onRepair s f).held = s.held := by
  simp [State.onRepair]

@[simp] theorem startRepair_held (s : State) (x : Exec) (z : Zone) (named : Option Phys) (mapOut : Bool) (l : List TargetCheck) : (startRepair s x z named mapOut l).held = s.held := by
  unfold startRepair
  simp only []
  (repeat' split) <;> simp

@[simp] theorem migrateZone_held (s : State) (x : Exec) (l : List TargetCheck) : (migrateZone s x l).held = s.held := by
  unfold migrateZone
  (repeat' split) <;> simp

@[simp] theorem autoRepair_held (s : State) (z : Zone) (l : List TargetCheck) : (autoRepair s z l).held = s.held := by
  simp [autoRepair]

@[simp] theorem moveHeaders_held (s : State) (old : Phys) (new : Phys) : (moveHeaders s old new).held = s.held := by
  simp [moveHeaders]

@[simp] theorem setRehome_held (s : State) (p : Phys) : (setRehome s p).held = s.held := by
  simp [setRehome]

@[simp] theorem giveZone_held (s : State) (old : Phys) (new : Phys) (ck : Option Ckpt) : (giveZone s old new ck).held = s.held := by
  simp [giveZone]

@[simp] theorem takeOver_butMap (s : State) (r : Repair) : (takeOver s r).held.butMap = s.held.butMap := by
  simp [takeOver]

/-- The take-over gives the repair's zone to the target and leaves every other zone its slice (R523). -/
theorem takeOver_map (s : State) (r : Repair) : (takeOver s r).map = s.map.set r.zone.val r.target r.zone.isLt := by
  have h : (takeOver s r).held.map = s.map.set r.zone.val r.target r.zone.isLt := by
    have hm : (writeZone s r.zone).map = s.map := congrArg Held.map (writeZone_held s r.zone)
    unfold takeOver
    simp [apply_ite State.held, hm]
  exact h

@[simp] theorem holdAndSwap_butMap (s : State) (r : Repair) : (holdAndSwap s r).held.butMap = s.held.butMap := by
  unfold holdAndSwap
  (repeat' split) <;> simp

@[simp] theorem migrationHold_butMap (s : State) (l : List TargetCheck) : (migrationHold s l).held.butMap = s.held.butMap := by
  unfold migrationHold
  split
  · rfl
  · rename_i r h
    simp only []
    split
    · rfl
    · split
      · simp
      · split
        · split <;> simp
        · split
          · rename_i s1 why h1
            have h2 := congrArg (fun c => c.1.held) h1
            simp at h2
            split <;> simp [← h2]
          · rename_i s1 t h1
            have h2 := congrArg (fun c => c.1.held) h1
            simp at h2
            simp [← h2]

@[simp] theorem selfTest_held (s : State) (x : Exec) (bits : BitVec 11) : (selfTest s x bits).held = s.held := by
  unfold selfTest
  (repeat' split) <;> simp

@[simp] theorem mapChange_held (s : State) (x : Exec) (bits : BitVec 11) (l : List TargetCheck) : (mapChange s x bits l).held = s.held := by
  unfold mapChange
  (repeat' split) <;> simp

@[simp] theorem dailyTest_held (s : State) (p : Phys) (bits : BitVec 11) : (dailyTest s p bits).held = s.held := by
  simp [dailyTest]

@[simp] theorem setPolicy_held (s : State) (x : Exec) : (setPolicy s x).held = s.held := by
  simp [setPolicy]

@[simp] theorem itemGone_held (s : State) (d : DurItem) : (itemGone s d).held = s.held := by
  simp [itemGone]

@[simp] theorem itemsGone_butModst (s : State) (l : List DurItem) : (itemsGone s l).held.butModst = s.held.butModst := by
  unfold itemsGone
  split <;> simp

@[simp] theorem itemsGone_legal (s : State) (l : List DurItem) (hl : s.held.legal) : (itemsGone s l).held.legal := by
  unfold itemsGone
  split
  · exact hl
  · exact changeState_legal _ _ (by simpa using hl)

@[simp] theorem scrubRow_butModst (s : State) (b : Fin 2) (row : Fin 8192) (found : RowFinding) : (scrubRow s b row found).held.butModst = s.held.butModst := by
  unfold scrubRow
  (repeat' split) <;> simp

@[simp] theorem scrubRow_legal (s : State) (b : Fin 2) (row : Fin 8192) (found : RowFinding) (hl : s.held.legal) : (scrubRow s b row found).held.legal := by
  unfold scrubRow
  simp only []
  (repeat' split) <;> first | exact hl | exact itemsGone_legal _ _ (by simpa [apply_ite State.held] using hl) | simpa using hl

@[simp] theorem returnBank_held (s : State) (x : Exec) (pass : Bool) (rows : List (Fin 8192)) : (returnBank s x pass rows).held = s.held := by
  simp [returnBank]

@[simp] theorem copyEntry_held (s : State) (n : Word) : (copyEntry s n).held = s.held := by
  simp [copyEntry]

@[simp] theorem engineLost_butModst (s : State) : (engineLost s).held.butModst = s.held.butModst := by
  unfold engineLost
  simp only []
  (repeat' split) <;> simp

@[simp] theorem engineLost_legal (s : State) (hl : s.held.legal) : (engineLost s).held.legal := by
  unfold engineLost
  simp only []
  (repeat' split) <;> simp [hl]

@[simp] theorem addStress_held (s : State) (p : Phys) (t : Rat) : (addStress s p t).held = s.held := by
  simp [addStress]

@[simp] theorem sampleGauge_held (s : State) (key : Nat) (stress : Rat) (v : Rat) : (sampleGauge s key stress v).held = s.held := by
  simp [sampleGauge]

@[simp] theorem judgeDrivers_held (s : State) (p : Phys) (v : Bool) (e : List (Nat × Nat × Nat)) : (judgeDrivers s p v e).held = s.held := by
  unfold judgeDrivers
  try simp only []
  first
    | (refine held_foldl _ (fun s a => ?_) _ _; (repeat' split) <;> simp; done)
    | (refine (held_foldl _ (fun s a => ?_) _ _).trans ?_ <;> (repeat' split) <;> simp; done)
    | (simp; refine held_foldl _ (fun s a => ?_) _ _; (repeat' split) <;> simp)

@[simp] theorem judgeWorn_held (s : State) (p : Phys) (v : Bool) (p10 : Nat) : (judgeWorn s p v p10).held = s.held := by
  simp [judgeWorn]

@[simp] theorem showGauges_held (s : State) (g : SliceGauges) : (showGauges s g).held = s.held := by
  simp [showGauges]

@[simp] theorem evalSlice_held (s : State) (g : SliceGauges) : (evalSlice s g).held = s.held := by
  simp [evalSlice]

@[simp] theorem evalCell_held (s : State) (cap : Nat) (esr : Nat) : (evalCell s cap esr).held = s.held := by
  simp [evalCell]

@[simp] theorem evalBank_held (s : State) (b : Fin 2) : (evalBank s b).held = s.held := by
  simp [evalBank]

@[simp] theorem evaluateWear_held (s : State) (l : List SliceGauges) (cap : Nat) (esr : Nat) : (evaluateWear s l cap esr).held = s.held := by
  simp [evaluateWear]

end Sys2Proof.Machine
end

