-- ==== Sys2Proof/Laws/HeldStart.lean ====
section
/-! SUPPORT. What no operation of Machine/Start.lean changes: the held parts of the state (Laws/Held.lean),
save where a lemma says so. -/
namespace Sys2Proof.Machine

@[simp] theorem State.onSu_held (s : State) (f : Supply → Supply) : (State.onSu s f).held = s.held := by
  simp [State.onSu]

@[simp] theorem restartRegs_held (s : State) : (restartRegs s).held = s.held := by
  simp [restartRegs]

@[simp] theorem restartHdrs_held (s : State) : (restartHdrs s).held = s.held := by
  simp [restartHdrs]

@[simp] theorem restartSliceMem_held (s : State) (p : Phys) (o : Outs) : (restartSliceMem s p o).held = s.held := by
  simp [restartSliceMem]

@[simp] theorem restartSlices_held (s : State) : (restartSlices s).held = s.held := by
  simp [restartSlices]

@[simp] theorem restartUnits_butModst (s : State) : (restartUnits s).held.butModst = s.held.butModst := by
  simp [restartUnits]

@[simp] theorem restartUnits_legal (s : State) (hl : s.held.legal) : (restartUnits s).held.legal := by
  exact hl

@[simp] theorem restartPorch_butModst (s : State) : (restartPorch s).held.butModst = s.held.butModst := by
  simp [restartPorch]

@[simp] theorem restartPorch_legal (s : State) (hl : s.held.legal) : (restartPorch s).held.legal := by
  unfold restartPorch
  exact restartUnits_legal _ (by simpa using hl)

@[simp] theorem resumeState_butModst (s : State) : (resumeState s).held.butModst = s.held.butModst := by
  unfold resumeState
  (repeat' split) <;> simp

@[simp] theorem resumeState_legal (s : State) (hl : s.held.legal) : (resumeState s).held.legal := by
  unfold resumeState
  split
  · have h1 := (legal_eta _).1 (changeState_legal s 1 hl)
    simp [legal_mk, h1.1, h1.2]
  · exact hl

@[simp] theorem porchStarts_butModst (s : State) : (porchStarts s).held.butModst = s.held.butModst := by
  simp [porchStarts]

@[simp] theorem porchStarts_legal (s : State) (hl : s.held.legal) : (porchStarts s).held.legal := by
  unfold porchStarts
  (repeat' split) <;> simp_all

@[simp] theorem supplyRange_held (s : State) (vin : Nat) : (supplyRange s vin).held = s.held := by
  simp [supplyRange]

@[simp] theorem prechargeInput_held (s : State) : (prechargeInput s).held = s.held := by
  simp [prechargeInput]

@[simp] theorem safePads_held (s : State) (p : Phys) : (safePads s p).held = s.held := by
  simp [safePads]

@[simp] theorem openWithHoldup_butModst (s : State) : (openWithHoldup s).held.butModst = s.held.butModst := by
  unfold openWithHoldup
  simp only []
  (repeat' split) <;> simp

@[simp] theorem openWithHoldup_legal (s : State) (hl : s.held.legal) : (openWithHoldup s).held.legal := by
  unfold openWithHoldup
  simp only []
  split
  · exact changeState_legal _ _ (by simpa using hl)
  · simpa using hl

@[simp] theorem startUp_butModst (s : State) (x : StartInfo) : (startUp s x).held.butModst = s.held.butModst := by
  unfold startUp
  (repeat' split) <;> simp

@[simp] theorem startUp_legal (s : State) (x : StartInfo) (hl : s.held.legal) : (startUp s x).held.legal := by
  unfold startUp
  split
  · exact hl
  · have h1 := fun (t : State) (ht : t.held.legal) =>
      replayRun_legal (quickTests (porchStarts (eachSlice (restartPorch t) safePads)) x.tests) x.bad x.replayMs
        (by simpa using porchStarts_legal (eachSlice (restartPorch t) safePads) (by simpa using restartPorch_legal t ht))
    simp only []
    split
    · exact h1 _ (by simpa using hl)
    · exact openWithHoldup_legal _ (h1 _ (by simpa using hl))

@[simp] theorem holdupLate_butModst (s : State) : (holdupLate s).held.butModst = s.held.butModst := by
  unfold holdupLate
  (repeat' split) <;> simp

@[simp] theorem holdupLate_legal (s : State) (hl : s.held.legal) : (holdupLate s).held.legal := by
  unfold holdupLate
  (repeat' split) <;> simp_all

@[simp] theorem setModule_butModst (s : State) (x : Exec) : (setModule s x).held.butModst = s.held.butModst := by
  simp [setModule]

@[simp] theorem setModule_legal (s : State) (x : Exec) (hl : s.held.legal) : (setModule s x).held.legal := by
  unfold setModule
  (repeat' split) <;> simp_all

@[simp] theorem freeSlot_held (s : State) (k : Nat) : (freeSlot s k).held = s.held := by
  simp [freeSlot]

@[simp] theorem releaseSource_held (s : State) (x : Exec) : (releaseSource s x).held = s.held := by
  unfold releaseSource
  (repeat' split) <;> simp

@[simp] theorem setJournal_held (s : State) (x : Exec) : (setJournal s x).held = s.held := by
  simp [setJournal]

@[simp] theorem setBusPort_held (s : State) (x : Exec) : (setBusPort s x).held = s.held := by
  simp [setBusPort]

@[simp] theorem abandonEntry_held (s : State) : (abandonEntry s).held = s.held := by
  unfold abandonEntry
  (repeat' split) <;> simp

@[simp] theorem resetModule_butModst (s : State) (x : Exec) : (resetModule s x).held.butModst = s.held.butModst := by
  simp [resetModule]

@[simp] theorem resetModule_legal (s : State) (x : Exec) (hl : s.held.legal) : (resetModule s x).held.legal := by
  unfold resetModule
  simp only []
  refine replay_legal _ _ _ (porchStarts_legal _ ?_)
  rw [State.freshNat_held]
  exact restartPorch_legal _ (by simpa using hl)

@[simp] theorem testSpares_held (s : State) (result : Word) : (testSpares s result).held = s.held := by
  simp [testSpares]

@[simp] theorem testEffect_held (s : State) (n : Nat) (w : Word) : (testEffect s n w).held = s.held := by
  simp [testEffect]

@[simp] theorem runTest_butModst (s : State) (x : Exec) (result : Word) : (runTest s x result).held.butModst = s.held.butModst := by
  simp [runTest]

@[simp] theorem runTest_legal (s : State) (x : Exec) (result : Word) (hl : s.held.legal) : (runTest s x result).held.legal := by
  have h : (testEffect s (x.byte 0) (testWord s (x.byte 0) result)).held = s.held := by simp
  unfold runTest
  simp only []
  revert h
  generalize (testEffect s (x.byte 0) (testWord s (x.byte 0) result)) = t
  intro h
  have ht : t.held.legal := by rw [h]; exact hl
  split <;> simp <;> exact ht

@[simp] theorem postTest_held (s : State) (x : Exec) : (postTest s x).held = s.held := by
  simp [postTest]

end Sys2Proof.Machine
end

