-- ==== Sys2Proof/Laws/HeldEnvelope.lean ====
section
/-! SUPPORT. What no operation of Machine/Envelope.lean changes: the held parts of the state (Laws/Held.lean),
save where a lemma says so. -/
namespace Sys2Proof.Machine

@[simp] theorem refuse_held (s : State) (path : Path) (dest : Nat) (source : BitVec 16) (seq : BitVec 32) (result : Nat) (reason : Nat) : (refuse s path dest source seq result reason).held = s.held := by
  simp [refuse]

@[simp] theorem duplicate_held (s : State) (path : Path) (dest : Nat) (source : BitVec 16) (seq : BitVec 32) (e : GbEntry) : (duplicate s path dest source seq e).held = s.held := by
  simp [duplicate]

@[simp] theorem writeEntries_held (s : State) (x : Exec) (path : Path) (crc : BitVec 32) : (writeEntries s x path crc).held = s.held := by
  simp [writeEntries]

@[simp] theorem writeSlot_held (s : State) (x : Exec) : (writeSlot s x).1.held = s.held := by
  unfold writeSlot
  (repeat' split) <;> simp

@[simp] theorem evictOne_held (s : State) : (evictOne s).held = s.held := by
  simp [evictOne]

@[simp] theorem writeMaster_held (s : State) (x : Exec) : (writeMaster s x).held = s.held := by
  unfold writeMaster; exact held_foldl _ (fun s z => by simp) _ _

@[simp] theorem queueCommand_held (s : State) (x : Exec) : (queueCommand s x).held = s.held := by
  simp [queueCommand]

@[simp] theorem noteTime_held (s : State) : (noteTime s).held = s.held := by
  simp [noteTime]

@[simp] theorem storeCommand_held (s : State) (x : Exec) (answers : Option Path) (path : Path) (dest : Nat) (crc : BitVec 32) : (storeCommand s x answers path dest crc).held = s.held := by
  simp [storeCommand]

@[simp] theorem accept_held (s : State) (x : Exec) (path : Path) (dest : Nat) (crc : BitVec 32) : (accept s x path dest crc).held = s.held := by
  simp [accept]

@[simp] theorem readBackFails_held (s : State) (f : ReadBack) : (readBackFails s f).held = s.held := by
  simp [readBackFails]

@[simp] theorem commit_held (s : State) (fails : List ReadBack) (x : Exec) (path : Path) (dest : Nat) (crc : BitVec 32) : (commit s fails x path dest crc).held = s.held := by
  unfold commit
  simp only []
  (repeat' split) <;> simp

@[simp] theorem judgeRoom_held (s : State) (x : Exec) (path : Path) (dest : Nat) (k : State → State)
    (hk : ∀ t, (k t).held = t.held) : (judgeRoom s x path dest k).held = s.held := by
  unfold judgeRoom
  (repeat' split) <;> simp [hk]

@[simp] theorem judgeState_held (s : State) (r : OpRow) (x : Exec) (path : Path) (dest : Nat) (k : State → State)
    (hk : ∀ t, (k t).held = t.held) : (judgeState s r x path dest k).held = s.held := by
  unfold judgeState
  (repeat' split) <;> simp [hk]

@[simp] theorem judgeBook_held (s : State) (r : OpRow) (x : Exec) (path : Path) (dest : Nat) (crc : BitVec 32) (k : State → State)
    (hk : ∀ t, (k t).held = t.held) : (judgeBook s r x path dest crc k).held = s.held := by
  unfold judgeBook
  (repeat' split) <;> simp [hk]

@[simp] theorem judgeForm_held (s : State) (body : List Byte) (path : Path) (dest : Nat) (crc : BitVec 32) (k : State → Exec → State)
    (hk : ∀ t x, (k t x).held = t.held) : (judgeForm s body path dest crc k).held = s.held := by
  unfold judgeForm
  simp only []
  (repeat' split) <;> simp [hk]

@[simp] theorem judge_held (s : State) (b : List Byte) (path : Path) (dest : Nat) (k : State → Exec → BitVec 32 → State)
    (hk : ∀ t x c, (k t x c).held = t.held) : (judge s b path dest k).held = s.held := by
  unfold judge
  simp only []
  (repeat' split) <;> simp [hk]

@[simp] theorem dispatch_held (s : State) (e : Envelope) (path : Path) (dest : Nat) : (dispatch s e path dest).held = s.held := by
  unfold dispatch
  exact judge_held _ _ _ _ _ (fun t x c => commit_held t e.fails x path dest c)

@[simp] theorem noOp_held (s : State) (path : Path) (source : BitVec 16) (seq : BitVec 32) (payload : List Byte) : (noOp s path source seq payload).held = s.held := by
  simp [noOp]

@[simp] theorem takeLinkCommand_held (s : State) (tag : BitVec 8) (rtx : Bool) (e : Envelope) : (takeLinkCommand s tag rtx e).held = s.held := by
  simp [takeLinkCommand]

@[simp] theorem takeBusCommand_held (s : State) (i : Fin 2) (f : BusFrame) : (takeBusCommand s i f).held = s.held := by
  unfold takeBusCommand
  simp only []
  (repeat' split) <;> simp

end Sys2Proof.Machine
end

