-- ==== Sys2Proof/Laws/HeldLoss.lean ====
section
/-! SUPPORT. What no operation of Machine/Loss.lean changes: the held parts of the state (Laws/Held.lean),
save where a lemma says so. -/
namespace Sys2Proof.Machine

@[simp] theorem takeFlight_held (s : State) (f : InFlight) : (takeFlight s f).held = s.held := by
  simp [takeFlight]

@[simp] theorem sillHold_held (s : State) : (sillHold s).held = s.held := by
  simp [sillHold]

@[simp] theorem holdupCommit_held (s : State) (w : Warning) : (holdupCommit s w).held = s.held := by
  unfold holdupCommit
  (repeat' split) <;> simp

@[simp] theorem unpowerSlice_held (s : State) (p : Phys) : (unpowerSlice s p).held = s.held := by
  simp [unpowerSlice]

@[simp] theorem powerOff_held (s : State) (cause : WarnCause) : (powerOff s cause).held = s.held := by
  unfold powerOff
  rw [State.onSu_held, held_ports, State.onJ_held, setLink_held, State.clampBlocks_held, eachSlice_held _ _ unpowerSlice_held]

@[simp] theorem powerLoss_held (s : State) (w : Warning) : (powerLoss s w).held = s.held := by
  simp [powerLoss]

end Sys2Proof.Machine
end

