-- ==== Sys2Proof/Laws/HeldAccess.lean ====
section
/-! SUPPORT. What no operation of Machine/Access.lean changes: the held parts of the state (Laws/Held.lean),
save where a lemma says so. -/
namespace Sys2Proof.Machine

@[simp] theorem readSupply_held (s : State) : (readSupply s).2.held = s.held := by
  simp [readSupply]

@[simp] theorem readCellarSupply_held (s : State) : (readCellarSupply s).2.held = s.held := by
  simp [readCellarSupply]

@[simp] theorem readWakeEvt_held (s : State) : (readWakeEvt s).2.held = s.held := by
  unfold readWakeEvt
  (repeat' split) <;> simp

@[simp] theorem porchRead_held (s : State) (page : Nat) (off : Nat) : (porchRead s page off).2.held = s.held := by
  unfold porchRead
  simp only []
  (repeat' split) <;> simp

@[simp] theorem readCapture_held (s : State) (p : Phys) : (readCapture s p).2.held = s.held := by
  unfold readCapture
  simp only []
  (repeat' split) <;> simp

@[simp] theorem sliceRead_held (s : State) (p : Phys) (a : Nat) : (sliceRead s p a).2.held = s.held := by
  unfold sliceRead
  (repeat' split) <;> simp

@[simp] theorem readOk_held (s : State) (pl : Place) (off : Nat) : (readOk s pl off).2.held = s.held := by
  unfold readOk
  (repeat' split) <;> simp

@[simp] theorem readAt_held (s : State) (a : Nat) : (readAt s a).2.2.held = s.held := by
  unfold readAt
  (repeat' split) <;> simp

@[simp] theorem lockWrite_held (s : State) (page : Nat) (v : Word) : (lockWrite s page v).2.held = s.held := by
  unfold lockWrite
  simp only []
  (repeat' split) <;> simp

@[simp] theorem headerWrite_held (s : State) (page : Nat) (off : Nat) (v : Word) : (headerWrite s page off v).2.held = s.held := by
  unfold headerWrite
  simp only []
  (repeat' split) <;> simp

@[simp] theorem copyLarder_held (s : State) (n : Word) : (copyLarder s n).held = s.held := by
  simp [copyLarder]

@[simp] theorem queryBook_held (s : State) (n : Word) : (queryBook s n).held = s.held := by
  simp [queryBook]

@[simp] theorem busControl_held (s : State) (i : Fin 2) (v : Word) (h : Hint) : (busControl s i v h).held = s.held := by
  unfold busControl
  (repeat' split) <;> simp

@[simp] theorem clearTrustFlags_held (s : State) (v : Word) : (clearTrustFlags s v).held = s.held := by
  simp [clearTrustFlags]

@[simp] theorem porchAction_held (s : State) (a : Nat) (v : Word) (h : Hint) : (porchAction s a v h).held = s.held := by
  simp [porchAction]

@[simp] theorem convControl_held (s : State) (p : Phys) (v : Word) : (convControl s p v).held = s.held := by
  simp [convControl]

@[simp] theorem capControl_held (s : State) (p : Phys) (v : Word) : (capControl s p v).held = s.held := by
  simp [capControl]

@[simp] theorem outControl_held (s : State) (p : Phys) (v : Word) : (outControl s p v).held = s.held := by
  simp [outControl]

@[simp] theorem sliceAction_held (s0 : State) (s : State) (p : Phys) (a : Nat) (v : Word) : (sliceAction s0 s p a v).held = s.held := by
  simp [sliceAction]

@[simp] theorem registerStore_held (s : State) (pl : Place) (off : Nat) (v : Word) (h : Hint) : (registerStore s pl off v h).held = s.held := by
  unfold registerStore
  (repeat' split) <;> simp

@[simp] theorem writeOk_held (s : State) (pl : Place) (off : Nat) (v : Word) (h : Hint) : (writeOk s pl off v h).2.held = s.held := by
  unfold writeOk
  simp only []
  (repeat' split) <;> simp

@[simp] theorem writeAt_held (s : State) (a : Nat) (v : Word) (h : Hint) : (writeAt s a v h).2.held = s.held := by
  unfold writeAt
  (repeat' split) <;> simp

@[simp] theorem onAccess_held (s : State) (f : State → Status × Word × State) (hf : ∀ t, (f t).2.2.held = t.held) : (onAccess s f).held = s.held := by
  unfold onAccess; simp only []; (repeat' split) <;> simp [hf]

@[simp] theorem hostRead_held (s : State) (a : Nat) : (hostRead s a).held = s.held := by
  simp [hostRead]

@[simp] theorem hostWrite_held (s : State) (a : Nat) (v : Word) (h : Hint) : (hostWrite s a v h).held = s.held := by
  simp [hostWrite]

@[simp] theorem hostLock_held (s : State) (page : Page) (key : BitVec 16) (m : Nat) (on : Bool) : (hostLock s page key m on).held = s.held := by
  simp [hostLock]

@[simp] theorem readBurst_held (n a : Nat) (s : State) : (readBurst n a s).2.2.held = s.held := by
  induction n generalizing a s with
  | zero => rfl
  | succ n ih => simp [readBurst, ih]

@[simp] theorem writeBurst_held (l : List Word) (a : Nat) (s : State) : (writeBurst l a s).2.held = s.held := by
  induction l generalizing a s with
  | nil => rfl
  | cons v l ih => simp [writeBurst, ih]

@[simp] theorem readPayload_held (s : State) (a : Word) (n : Nat) : (readPayload s a n).2.held = s.held := by
  simp [readPayload]

@[simp] theorem writePayload_held (s : State) (a : Word) (l : List Word) : (writePayload s a l).2.held = s.held := by
  simp [writePayload]

@[simp] theorem linkBurst_held (s : State) (tag : BitVec 8) (rtx : Bool) (n : Nat) (type : BitVec 8) (f : State → List Byte × State) (hf : ∀ t, (f t).2.held = t.held) : (linkBurst s tag rtx n type f).held = s.held := by
  unfold linkBurst; simp only []; (repeat' split) <;> simp [hf]

@[simp] theorem spiBurst_held (s : State) (n : Nat) (op : Nat) (f : State → List Byte × State) (hf : ∀ t, (f t).2.held = t.held) : (spiBurst s n op f).held = s.held := by
  unfold spiBurst; simp only []; (repeat' split) <;> simp [hf]

@[simp] theorem shiftOut_held (s : State) (w : Word) : (shiftOut s w).held = s.held := by
  simp [shiftOut]

end Sys2Proof.Machine
end

