-- ==== Sys2Proof/Laws/HeldTick.lean ====
section
/-! SUPPORT. What no operation of Machine/Tick.lean changes: the held parts of the state (Laws/Held.lean),
save where a lemma says so. -/
namespace Sys2Proof.Machine

@[simp] theorem houseTick_held (s : State) : (houseTick s).held = s.held := by
  simp [houseTick]

@[simp] theorem journalTick_held (s : State) : (journalTick s).held = s.held := by
  simp [journalTick]

@[simp] theorem busTick_held (s : State) : (busTick s).held = s.held := by
  simp [busTick]

@[simp] theorem tick_held (s : State) : (tick s).held = s.held := by
  simp [tick]

end Sys2Proof.Machine
end

