-- ==== Sys2Proof/Laws/Other.lean ====
section
/-! SUPPORT. What an operation on one slice leaves of the others: everything but the mark that a checkpoint is due, which the
larder's fill sets on any slice (R341). -/
namespace Sys2Proof.Machine

/-- A slice but for the mark that its checkpoint is due. -/
def Slice.core (x : Slice) : Slice := { x with ckptDue := false }

/-- Slice `q` but for that mark. -/
def State.cr (s : State) (q : Phys) : Slice := (s.sl q).core

/-- Two states with equal slices. -/
theorem cr_of_slices {s t : State} (h : t.slices = s.slices) (q : Phys) : t.cr q = s.cr q := by
  simp [State.cr, State.sl, h]

/-- A state written out over the slices of another. -/
@[simp] theorem cr_mk (s : State) (q : Phys) (pe ti ce la cn su th jo st up mo co li sp po ta ma zo hd re lt em fr) :
    (State.mk pe ti ce la cn su th jo st up mo co li sp po ta ma zo s.slices hd re lt em fr).cr q = s.cr q := rfl

theorem sl_setSl (s : State) (p q : Phys) (x : Slice) : (s.setSl p x).sl q = if p = q then x else s.sl q := by
  have h : (p.val = q.val) ↔ p = q := Fin.ext_iff.symm
  simp [State.sl, State.setSl, Vector.getElem_set, h]

@[simp] theorem cr_setSl_ne (s : State) (p q : Phys) (x : Slice) (h : q ≠ p) : (s.setSl p x).cr q = s.cr q := by
  simp [State.cr, sl_setSl, Ne.symm h]

/-- A change of one slice that leaves its core alone. -/
theorem cr_onSl (s : State) (p q : Phys) (f : Slice → Slice) (h : ∀ x, (f x).core = x.core) : (s.onSl p f).cr q = s.cr q := by
  simp only [State.cr, State.onSl, sl_setSl]
  split
  · rename_i h1
    rw [h, h1]
  · rfl

@[simp] theorem cr_ite (c : Prop) [Decidable c] (a b : State) (q : Phys) :
    (if c then a else b).cr q = if c then a.cr q else b.cr q := by split <;> rfl

/-- A fold of operations that leave slice `q` alone. -/
theorem cr_foldl {α : Type} (f : State → α → State) (q : Phys) (h : ∀ s a, (f s a).cr q = s.cr q) (l : List α) (s : State) :
    (l.foldl f s).cr q = s.cr q := by
  induction l generalizing s with
  | nil => rfl
  | cons a l ih => rw [List.foldl_cons, ih, h]

end Sys2Proof.Machine
end

