-- ==== Sys2Proof/Laws/OtherOps.lean ====
section
/-! SUPPORT. What the operations of Machine/Ops.lean leave of slices that they are not about (Laws/Other.lean). -/
namespace Sys2Proof.Machine

@[simp] theorem State.onSl_cr_ne (s : State) (p : Phys) (f : Slice → Slice) (q' : Phys) (hq : q' ≠ p) :
    (State.onSl s p f).cr q' = s.cr q' := by simp [State.onSl, hq]

@[simp] theorem State.onZ_cr_ne (s : State) (p : Phys) (f : ZoneState → ZoneState) (q' : Phys) (hq : q' ≠ p) : (State.onZ s p f).cr q' = s.cr q' := by
  simp [State.onZ, hq]

@[simp] theorem State.onR_cr_ne (s : State) (p : Phys) (f : RegFile → RegFile) (q' : Phys) (hq : q' ≠ p) : (State.onR s p f).cr q' = s.cr q' := by
  simp [State.onR, hq]

@[simp] theorem State.w_cr_ne (s : State) (p : Phys) (x : Fld) (v : Nat) (i : Nat) (q' : Phys) (hq : q' ≠ p) : (State.w s p x v i).cr q' = s.cr q' := by
  simp [State.w, hq]

@[simp] theorem State.wi_cr_ne (s : State) (p : Phys) (x : Fld) (v : Int) (i : Nat) (q' : Phys) (hq : q' ≠ p) : (State.wi s p x v i).cr q' = s.cr q' := by
  simp [State.wi, hq]

@[simp] theorem State.wb_cr_ne (s : State) (p : Phys) (x : Fld) (b : Bool) (i : Nat) (q' : Phys) (hq : q' ≠ p) : (State.wb s p x b i).cr q' = s.cr q' := by
  simp [State.wb, hq]

@[simp] theorem State.bump_cr_ne (s : State) (p : Phys) (x : Fld) (by_ : Nat) (i : Nat) (q' : Phys) (hq : q' ≠ p) : (State.bump s p x by_ i).cr q' = s.cr q' := by
  simp [State.bump, hq]

@[simp] theorem State.wWord_cr_ne (s : State) (p : Phys) (r : Reg) (v : Word) (i : Nat) (q' : Phys) (hq : q' ≠ p) : (State.wWord s p r v i).cr q' = s.cr q' := by
  simp [State.wWord, hq]

@[simp] theorem State.pw_cr (s : State) (x : Fld) (v : Nat) (i : Nat) (q' : Phys)  : (State.pw s x v i).cr q' = s.cr q' := by
  simp [State.pw]

@[simp] theorem State.pwi_cr (s : State) (x : Fld) (v : Int) (i : Nat) (q' : Phys)  : (State.pwi s x v i).cr q' = s.cr q' := by
  simp [State.pwi]

@[simp] theorem State.pwb_cr (s : State) (x : Fld) (b : Bool) (i : Nat) (q' : Phys)  : (State.pwb s x b i).cr q' = s.cr q' := by
  simp [State.pwb]

@[simp] theorem State.pbump_cr (s : State) (x : Fld) (by_ : Nat) (i : Nat) (q' : Phys)  : (State.pbump s x by_ i).cr q' = s.cr q' := by
  simp [State.pbump]

@[simp] theorem State.pwWord_cr (s : State) (r : Reg) (v : Word) (i : Nat) (q' : Phys)  : (State.pwWord s r v i).cr q' = s.cr q' := by
  simp [State.pwWord]

@[simp] theorem State.emit_cr (s : State) (e : Emit) (q' : Phys)  : (State.emit s e).cr q' = s.cr q' := by
  simp [State.emit]

@[simp] theorem State.fresh_cr (s : State) (q' : Phys)  : (State.fresh s).2.cr q' = s.cr q' := by
  simp [State.fresh]

@[simp] theorem State.freshNat_cr (s : State) (q' : Phys)  : (State.freshNat s).2.cr q' = s.cr q' := by
  simp [State.freshNat]

@[simp] theorem State.setHdr_cr (s : State) (page : Nat) (h : Hdr) (q' : Phys)  : (State.setHdr s page h).cr q' = s.cr q' := by
  simp [State.setHdr]

@[simp] theorem State.onHdr_cr (s : State) (page : Nat) (f : Hdr → Hdr) (q' : Phys)  : (State.onHdr s page f).cr q' = s.cr q' := by
  simp [State.onHdr]

@[simp] theorem State.touch_cr (s : State) (page : Nat) (q' : Phys)  : (State.touch s page).cr q' = s.cr q' := by
  simp [State.touch]

@[simp] theorem repulse_cr (before : State) (h : Hdr) (bits : Nat) (l : Fin 2) (s : State) (q' : Phys)  : (repulse before h bits l s).cr q' = s.cr q' := by
  simp [repulse]

@[simp] theorem setIsrFrom_cr (before : State) (s : State) (page : Nat) (bits : Nat) (q' : Phys) : (setIsrFrom before s page bits).cr q' = s.cr q' := by
  simp [setIsrFrom]

@[simp] theorem State.setIsr_cr (s : State) (page : Nat) (bits : Nat) (q' : Phys)  : (State.setIsr s page bits).cr q' = s.cr q' := by
  simp [State.setIsr]

@[simp] theorem State.notePwrs_cr (s : State) (l : List Nat) (q' : Phys)  : (State.notePwrs s l).cr q' = s.cr q' := by
  simp [State.notePwrs, cr_foldl]

@[simp] theorem noteBusy_cr (before : State) (p : Phys) (s : State) (q' : Phys)  : (noteBusy before p s).cr q' = s.cr q' := by
  simp [noteBusy]

@[simp] theorem notePorchBusy_cr (before : State) (s : State) (q' : Phys) : (notePorchBusy before s).cr q' = s.cr q' := by
  simp [notePorchBusy]

@[simp] theorem State.evtP_cr (s : State) (page : Nat) (bit : Nat) (q' : Phys)  : (State.evtP s page bit).cr q' = s.cr q' := by
  simp [State.evtP]

@[simp] theorem State.evt_cr (s : State) (p : Phys) (sub : Nat) (bit : Nat) (q' : Phys)  : (State.evt s p sub bit).cr q' = s.cr q' := by
  simp [State.evt]

@[simp] theorem State.evtIf_cr (s : State) (c : Bool) (p : Phys) (sub : Nat) (bit : Nat) (q' : Phys)  : (State.evtIf s c p sub bit).cr q' = s.cr q' := by
  simp [State.evtIf]

@[simp] theorem noteSum_cr (before : State) (s : State) (q' : Phys)  : (noteSum before s).cr q' = s.cr q' := by
  simp [noteSum]

@[simp] theorem State.log_cr (s : State) (page : Nat) (e : Word) (q' : Phys)  : (State.log s page e).cr q' = s.cr q' := by
  simp [State.log]

@[simp] theorem State.post_cr (s : State) (page : Nat) (e : Word) (q' : Phys)  : (State.post s page e).cr q' = s.cr q' := by
  simp [State.post]

@[simp] theorem State.errP_cr (s : State) (page : Nat) (ctx : Nat) (code : Nat) (q' : Phys)  : (State.errP s page ctx code).cr q' = s.cr q' := by
  simp [State.errP]

@[simp] theorem State.err_cr (s : State) (p : Phys) (sub : Nat) (ctx : Nat) (code : Nat) (q' : Phys)  : (State.err s p sub ctx code).cr q' = s.cr q' := by
  simp [State.err]

@[simp] theorem State.ackErr_cr (s : State) (page : Nat) (q' : Phys)  : (State.ackErr s page).cr q' = s.cr q' := by
  unfold State.ackErr
  try simp only []
  (repeat' split) <;> simp []

@[simp] theorem State.clearErrors_cr (s : State) (q' : Phys)  : (State.clearErrors s).cr q' = s.cr q' := by
  simp [State.clearErrors]

@[simp] theorem noteDraught_cr (before : State) (s : State) (q' : Phys)  : (noteDraught before s).cr q' = s.cr q' := by
  simp [noteDraught]

@[simp] theorem State.clearDraught_cr (s : State) (q' : Phys)  : (State.clearDraught s).cr q' = s.cr q' := by
  simp [State.clearDraught]

@[simp] theorem State.latchZW_cr_ne (s : State) (p : Phys) (l : List (Nat × Word)) (q' : Phys) (hq : q' ≠ p) : (State.latchZW s p l).cr q' = s.cr q' := by
  simp [State.latchZW, hq]

@[simp] theorem State.latchPW_cr (s : State) (l : List (Nat × Word)) (q' : Phys)  : (State.latchPW s l).cr q' = s.cr q' := by
  simp [State.latchPW]

@[simp] theorem State.wbEvt_cr_ne (s : State) (p : Phys) (x : Fld) (b : Bool) (sub : Nat) (bit : Nat) (i : Nat) (q' : Phys) (hq : q' ≠ p) : (State.wbEvt s p x b sub bit i).cr q' = s.cr q' := by
  simp [State.wbEvt, hq]

end Sys2Proof.Machine
end

