-- ==== Sys2Proof/Laws/OtherMram.lean ====
section
/-! SUPPORT. What the operations of Machine/Mram.lean leave of slices that they are not about (Laws/Other.lean). -/
namespace Sys2Proof.Machine

@[simp] theorem State.onUp_cr (s : State) (f : Upkeep → Upkeep) (q' : Phys) : (State.onUp s f).cr q' = s.cr q' := by
  simp [State.onUp]

@[simp] theorem State.onBank_cr (s : State) (b : Fin 2) (f : Bank → Bank) (q' : Phys) : (State.onBank s b f).cr q' = s.cr q' := by
  simp [State.onBank]

@[simp] theorem State.wrote_cr (s : State) (d : DurItem) (q' : Phys) : (State.wrote s d).cr q' = s.cr q' := by
  simp [State.wrote]

@[simp] theorem State.spoil_cr (s : State) (x : BadItem) (q' : Phys) : (State.spoil s x).cr q' = s.cr q' := by
  simp [State.spoil]

@[simp] theorem State.wroteGen_cr (s : State) (newer : DurItem) (older : DurItem) (q' : Phys) : (State.wroteGen s newer older).cr q' = s.cr q' := by
  simp [State.wroteGen]

@[simp] theorem State.onCkpt_cr_ne (s : State) (p : Phys) (f : Ckpt → Ckpt) (q' : Phys) (hq : q' ≠ p) : (State.onCkpt s p f).cr q' = s.cr q' := by
  simp [State.onCkpt, hq]

@[simp] theorem bankOut_cr (s : State) (b : Fin 2) (q' : Phys) : (bankOut s b).cr q' = s.cr q' := by
  simp [bankOut]

@[simp] theorem remapRow_cr (s : State) (b : Fin 2) (row : Fin 8192) (q' : Phys) : (remapRow s b row).cr q' = s.cr q' := by
  simp [remapRow]

@[simp] theorem flushCollector_cr (s : State) (q' : Phys) : (flushCollector s).cr q' = s.cr q' := by
  unfold flushCollector
  dsimp only
  split
  · rw [State.pbump_cr, cr_mk]
  · rw [State.errP_cr, State.pbump_cr, State.pbump_cr, cr_mk]

end Sys2Proof.Machine
end

