-- ==== Sys2Proof/Laws/OtherFlags.lean ====
section
/-! SUPPORT. What the operations of Machine/Flags.lean leave of slices that they are not about (Laws/Other.lean). -/
namespace Sys2Proof.Machine

@[simp] theorem State.wBitOf_cr_ne (s : State) (p : Phys) (x : Fld) (i : Nat) (b : Bool) (n : Nat) (q' : Phys) (hq : q' ≠ p) : (State.wBitOf s p x i b n).cr q' = s.cr q' := by
  simp [State.wBitOf, hq]

end Sys2Proof.Machine
end

