-- ==== Sys2Proof/Laws/OtherInputs.lean ====
section
/-! SUPPORT. What the operations of Machine/Inputs.lean leave of slices that they are not about (Laws/Other.lean). -/
namespace Sys2Proof.Machine

@[simp] theorem State.onInp_cr_ne (s : State) (p : Phys) (f : Inputs → Inputs) (q' : Phys) (hq : q' ≠ p) : (State.onInp s p f).cr q' = s.cr q' := by
  simp [State.onInp, hq]

@[simp] theorem State.onT_cr_ne (s : State) (p : Phys) (n : Fin 4) (f : TempIn → TempIn) (q' : Phys) (hq : q' ≠ p) : (State.onT s p n f).cr q' = s.cr q' := by
  simp [State.onT, hq]

@[simp] theorem State.syncT_cr_ne (s : State) (p : Phys) (n : Fin 4) (q' : Phys) (hq : q' ≠ p) : (State.syncT s p n).cr q' = s.cr q' := by
  simp [State.syncT, hq]

@[simp] theorem showExc_cr_ne (s : State) (p : Phys) (n : Fin 4) (q' : Phys) (hq : q' ≠ p) : (showExc s p n).cr q' = s.cr q' := by
  simp [showExc, hq]

@[simp] theorem dropDew_cr_ne (s : State) (p : Phys) (n : Fin 4) (q' : Phys) (hq : q' ≠ p) : (dropDew s p n).cr q' = s.cr q' := by
  simp [dropDew, hq]

@[simp] theorem declareBroken_cr_ne (s : State) (p : Phys) (n : Fin 4) (cause : Nat) (q' : Phys) (hq : q' ≠ p) : (declareBroken s p n cause).cr q' = s.cr q' := by
  simp [declareBroken, hq]

@[simp] theorem badReading_cr_ne (s : State) (p : Phys) (n : Fin 4) (cause : Nat) (q' : Phys) (hq : q' ≠ p) : (badReading s p n cause).cr q' = s.cr q' := by
  simp [badReading, hq]

@[simp] theorem publishReading_cr_ne (s : State) (p : Phys) (n : Fin 4) (t : Rat) (res : Rat) (settling : Bool) (q' : Phys) (hq : q' ≠ p) : (publishReading s p n t res settling).cr q' = s.cr q' := by
  simp [publishReading, hq]

@[simp] theorem goodReading_cr_ne (s : State) (p : Phys) (n : Fin 4) (t : Rat) (res : Rat) (settling : Bool) (q' : Phys) (hq : q' ≠ p) : (goodReading s p n t res settling).cr q' = s.cr q' := by
  simp [goodReading, hq]

@[simp] theorem moveRange_cr_ne (s : State) (p : Phys) (n : Fin 4) (ohm : Option Rat) (q' : Phys) (hq : q' ≠ p) : (moveRange s p n ohm).cr q' = s.cr q' := by
  unfold moveRange
  try simp only []
  (repeat' split) <;> simp [hq]

@[simp] theorem showSeries_cr_ne (s : State) (p : Phys) (n : Fin 4) (rs : Option Rat) (q' : Phys) (hq : q' ≠ p) : (showSeries s p n rs).cr q' = s.cr q' := by
  unfold showSeries
  try simp only []
  (repeat' split) <;> simp [hq]

@[simp] theorem endSettling_cr_ne (s : State) (p : Phys) (n : Fin 4) (q' : Phys) (hq : q' ≠ p) : (endSettling s p n).cr q' = s.cr q' := by
  simp [endSettling, hq]

@[simp] theorem takeReading_cr_ne (s : State) (p : Phys) (n : Fin 4) (settling : Bool) (x : Reading) (q' : Phys) (hq : q' ≠ p) : (takeReading s p n settling x).cr q' = s.cr q' := by
  simp [takeReading, hq]

@[simp] theorem inputReading_cr_ne (s : State) (p : Phys) (n : Fin 4) (band : Nat) (x : InputSample) (q' : Phys) (hq : q' ≠ p) : (inputReading s p n band x).cr q' = s.cr q' := by
  unfold inputReading
  try simp only []
  (repeat' split) <;> simp [hq]

@[simp] theorem restartFilters_cr_ne (s : State) (p : Phys) (q' : Phys) (hq : q' ≠ p) : (restartFilters s p).cr q' = s.cr q' := by
  simp [restartFilters, hq]

@[simp] theorem spoilWindows_cr_ne (s : State) (p : Phys) (q' : Phys) (hq : q' ≠ p) : (spoilWindows s p).cr q' = s.cr q' := by
  simp [spoilWindows, hq]

@[simp] theorem holdReadings_cr_ne (s : State) (p : Phys) (q' : Phys) (hq : q' ≠ p) : (holdReadings s p).cr q' = s.cr q' := by
  simp [holdReadings, cr_foldl, hq]

@[simp] theorem startWindow_cr_ne (s : State) (p : Phys) (n : Fin 4) (off : Bool) (q' : Phys) (hq : q' ≠ p) : (startWindow s p n off).cr q' = s.cr q' := by
  simp [startWindow, hq]

@[simp] theorem diagWindow_cr_ne (s : State) (p : Phys) (n : Fin 4) (noise : Rat) (meanR : Rat) (meanT : Rat) (q' : Phys) (hq : q' ≠ p) : (diagWindow s p n noise meanR meanT).cr q' = s.cr q' := by
  simp [diagWindow, hq]

@[simp] theorem endOff_cr_ne (s : State) (p : Phys) (n : Fin 4) (q' : Phys) (hq : q' ≠ p) : (endOff s p n).cr q' = s.cr q' := by
  simp [endOff, hq]

@[simp] theorem diagOff_cr_ne (s : State) (p : Phys) (n : Fin 4) (noise : Rat) (meanR : Rat) (meanT : Rat) (q' : Phys) (hq : q' ≠ p) : (diagOff s p n noise meanR meanT).cr q' = s.cr q' := by
  simp [diagOff, hq]

@[simp] theorem diagNowEffect_cr_ne (s : State) (p : Phys) (q' : Phys) (hq : q' ≠ p) : (diagNowEffect s p).cr q' = s.cr q' := by
  simp [diagNowEffect, cr_foldl, hq]

@[simp] theorem publishHumidity_cr_ne (s : State) (p : Phys) (rh : Rat) (q' : Phys) (hq : q' ≠ p) : (publishHumidity s p rh).cr q' = s.cr q' := by
  unfold publishHumidity
  try simp only []
  (repeat' split) <;> simp [hq]

@[simp] theorem humidityMeasure_cr_ne (s : State) (p : Phys) (cap : Nat) (leak : Nat) (q' : Phys) (hq : q' ≠ p) : (humidityMeasure s p cap leak).cr q' = s.cr q' := by
  simp [humidityMeasure, hq]

@[simp] theorem disableHumidity_cr_ne (s : State) (p : Phys) (q' : Phys) (hq : q' ≠ p) : (disableHumidity s p).cr q' = s.cr q' := by
  simp [disableHumidity, hq]

@[simp] theorem retypeInput_cr_ne (s : State) (p : Phys) (n : Fin 4) (q' : Phys) (hq : q' ≠ p) : (retypeInput s p n).cr q' = s.cr q' := by
  simp [retypeInput, hq]

@[simp] theorem newInput_cr_ne (was : State) (s : State) (p : Phys) (n : Fin 4) (q' : Phys) (hq : q' ≠ p) : (newInput was s p n).cr q' = s.cr q' := by
  simp [newInput, hq]

@[simp] theorem formPresence_cr_ne (s : State) (p : Phys) (q' : Phys) (hq : q' ≠ p) : (formPresence s p).cr q' = s.cr q' := by
  simp [formPresence, hq]

@[simp] theorem declareChatter_cr_ne (s : State) (p : Phys) (pra : Bool) (q' : Phys) (hq : q' ≠ p) : (declareChatter s p pra).cr q' = s.cr q' := by
  simp [declareChatter, hq]

@[simp] theorem passPrd_cr_ne (s : State) (p : Phys) (level : Bool) (q' : Phys) (hq : q' ≠ p) : (passPrd s p level).cr q' = s.cr q' := by
  simp [passPrd, hq]

@[simp] theorem acceptPrd_cr_ne (s : State) (p : Phys) (level : Bool) (q' : Phys) (hq : q' ≠ p) : (acceptPrd s p level).cr q' = s.cr q' := by
  simp [acceptPrd, hq]

@[simp] theorem prdRaw_cr_ne (s : State) (p : Phys) (level : Bool) (q' : Phys) (hq : q' ≠ p) : (prdRaw s p level).cr q' = s.cr q' := by
  simp [prdRaw, hq]

@[simp] theorem turnPrd_cr_ne (s : State) (p : Phys) (q' : Phys) (hq : q' ≠ p) : (turnPrd s p).cr q' = s.cr q' := by
  simp [turnPrd, hq]

@[simp] theorem prdAccept_cr_ne (s : State) (p : Phys) (q' : Phys) (hq : q' ≠ p) : (prdAccept s p).cr q' = s.cr q' := by
  simp [prdAccept, hq]

@[simp] theorem praMotion_cr_ne (s : State) (p : Phys) (q' : Phys) (hq : q' ≠ p) : (praMotion s p).cr q' = s.cr q' := by
  simp [praMotion, hq]

@[simp] theorem praDc_cr_ne (s : State) (p : Phys) (dc : Nat) (q' : Phys) (hq : q' ≠ p) : (praDc s p dc).cr q' = s.cr q' := by
  simp [praDc, hq]

@[simp] theorem praCompare_cr_ne (s : State) (p : Phys) (high : Bool) (ms : Nat) (q' : Phys) (hq : q' ≠ p) : (praCompare s p high ms).cr q' = s.cr q' := by
  simp [praCompare, hq]

@[simp] theorem praTake_cr_ne (s : State) (p : Phys) (dc : Nat) (band : Int) (ms : Nat) (q' : Phys) (hq : q' ≠ p) : (praTake s p dc band ms).cr q' = s.cr q' := by
  simp [praTake, hq]

@[simp] theorem praIdle_cr_ne (s : State) (p : Phys) (q' : Phys) (hq : q' ≠ p) : (praIdle s p).cr q' = s.cr q' := by
  simp [praIdle, hq]

@[simp] theorem praLevel_cr_ne (s : State) (p : Phys) (q' : Phys) (hq : q' ≠ p) : (praLevel s p).cr q' = s.cr q' := by
  simp [praLevel, hq]

@[simp] theorem stuckPresence_cr_ne (s : State) (p : Phys) (pra : Bool) (q' : Phys) (hq : q' ≠ p) : (stuckPresence s p pra).cr q' = s.cr q' := by
  simp [stuckPresence, hq]

@[simp] theorem clearPrdChatter_cr_ne (s : State) (p : Phys) (raw : Bool) (q' : Phys) (hq : q' ≠ p) : (clearPrdChatter s p raw).cr q' = s.cr q' := by
  simp [clearPrdChatter, hq]

@[simp] theorem clearPraChatter_cr_ne (s : State) (p : Phys) (q' : Phys) (hq : q' ≠ p) : (clearPraChatter s p).cr q' = s.cr q' := by
  simp [clearPraChatter, hq]

end Sys2Proof.Machine
end

