-- ==== Sys2Proof/Laws/OtherJournal.lean ====
section
/-! SUPPORT. What the operations of Machine/Journal.lean leave of slices that they are not about (Laws/Other.lean). -/
namespace Sys2Proof.Machine

@[simp] theorem State.onJ_cr (s : State) (f : Journal → Journal) (q' : Phys)  : (State.onJ s f).cr q' = s.cr q' := by
  simp [State.onJ]

@[simp] theorem addEntry_cr (s : State) (i : LdItem) (q' : Phys)  : (addEntry s i).cr q' = s.cr q' := by
  simp [addEntry]

@[simp] theorem askCheckpoints_cr (s : State) (q' : Phys)  : (askCheckpoints s).cr q' = s.cr q' := by
  unfold askCheckpoints
  split
  · split
    · refine cr_foldl _ q' (fun s a => ?_) _ _
      split
      · exact cr_onSl _ _ _ _ (fun x => rfl)
      · rfl
    · rfl
  · rfl

@[simp] theorem fillRules_cr (s : State) (q' : Phys)  : (fillRules s).cr q' = s.cr q' := by
  simp [fillRules]

@[simp] theorem releaseLarder_cr (s : State) (q' : Phys)  : (releaseLarder s).cr q' = s.cr q' := by
  simp [releaseLarder]

@[simp] theorem endInternal_cr (s : State) (r : Running) (final : Bool) (q' : Phys)  : (endInternal s r final).cr q' = s.cr q' := by
  simp [endInternal]

@[simp] theorem markZone_cr (s : State) (lseq : Nat) (z : Zone) (result : Nat) (reason : Nat) (value : Word) (q' : Phys)  : (markZone s lseq z result reason value).cr q' = s.cr q' := by
  unfold markZone
  try simp only []
  (repeat' split) <;> simp []

@[simp] theorem markPorch_cr (s : State) (lseq : Nat) (result : Nat) (reason : Nat) (value : Word) (q' : Phys)  : (markPorch s lseq result reason value).cr q' = s.cr q' := by
  unfold markPorch
  try simp only []
  (repeat' split) <;> simp []

@[simp] theorem State.onQueue_cr (s : State) (f : List Exec → List Exec) (q' : Phys) : (State.onQueue s f).cr q' = s.cr q' := by
  simp [State.onQueue]

@[simp] theorem drainNops_cr (s : State) (q' : Phys)  : (drainNops s).cr q' = s.cr q' := by
  simp [drainNops, cr_foldl]

@[simp] theorem dequeue_cr (s : State) (lseq : Nat) (q' : Phys)  : (dequeue s lseq).cr q' = s.cr q' := by
  simp [dequeue]

@[simp] theorem unqueue_cr (s : State) (lseq : Nat) (q' : Phys)  : (unqueue s lseq).cr q' = s.cr q' := by
  simp [unqueue]

@[simp] theorem porchDone_cr (s : State) (x : Exec) (result : Nat) (reason : Nat) (value : Word) (q' : Phys)  : (porchDone s x result reason value).cr q' = s.cr q' := by
  simp [porchDone]

@[simp] theorem storeFinal_cr (s : State) (lseq : Nat) (q' : Phys)  : (storeFinal s lseq).cr q' = s.cr q' := by
  simp [storeFinal]

end Sys2Proof.Machine
end

