-- ==== Sys2Proof/Laws/OtherSupply.lean ====
section
/-! SUPPORT. What the operations of Machine/Supply.lean leave of slices that they are not about (Laws/Other.lean). -/
namespace Sys2Proof.Machine

@[simp] theorem State.clampBlocks_cr (s : State) (l : List Block) (q' : Phys) : (State.clampBlocks s l).cr q' = s.cr q' := by
  simp [State.clampBlocks]

@[simp] theorem State.unclampBlocks_cr (s : State) (l : List Block) (q' : Phys) : (State.unclampBlocks s l).cr q' = s.cr q' := by
  simp [State.unclampBlocks]

end Sys2Proof.Machine
end

