-- ==== Sys2Proof/Laws/OtherLife.lean ====
section
/-! SUPPORT. What the operations of Machine/Life.lean leave of slices that they are not about (Laws/Other.lean). -/
namespace Sys2Proof.Machine

@[simp] theorem State.onOuts_cr_ne (s : State) (p : Phys) (f : Outs → Outs) (q' : Phys) (hq : q' ≠ p) : (State.onOuts s p f).cr q' = s.cr q' := by
  simp [State.onOuts, hq]

@[simp] theorem syncHold_cr_ne (s : State) (p : Phys) (q' : Phys) (hq : q' ≠ p) : (syncHold s p).cr q' = s.cr q' := by
  simp [syncHold, hq]

@[simp] theorem State.onOut_cr_ne (s : State) (p : Phys) (j : Out) (f : OutSt → OutSt) (q' : Phys) (hq : q' ≠ p) : (State.onOut s p j f).cr q' = s.cr q' := by
  simp [State.onOut, hq]

@[simp] theorem endPulse_cr_ne (s : State) (p : Phys) (j : Out) (result : Nat) (reason : Nat) (q' : Phys) (hq : q' ≠ p) : (endPulse s p j result reason).cr q' = s.cr q' := by
  unfold endPulse
  try simp only []
  (repeat' split) <;> simp [hq]

@[simp] theorem holdOutputs_cr_ne (s : State) (p : Phys) (q' : Phys) (hq : q' ≠ p) : (holdOutputs s p).cr q' = s.cr q' := by
  simp [holdOutputs, cr_foldl, hq]

@[simp] theorem takeHeld_cr_ne (s : State) (p : Phys) (q' : Phys) (hq : q' ≠ p) : (takeHeld s p).cr q' = s.cr q' := by
  simp [takeHeld, cr_foldl, hq]

@[simp] theorem setLife_cr_ne (s : State) (p : Phys) (st : SliceState) (cause : Nat) (q' : Phys) (hq : q' ≠ p) : (setLife s p st cause).cr q' = s.cr q' := by
  simp [setLife, hq]

@[simp] theorem stopSliceTo_cr_ne (s : State) (p : Phys) (pw : SlicePower) (q' : Phys) (hq : q' ≠ p) : (stopSliceTo s p pw).cr q' = s.cr q' := by
  simp [stopSliceTo, hq]

@[simp] theorem stopSlice_cr_ne (s : State) (p : Phys) (q' : Phys) (hq : q' ≠ p) : (stopSlice s p).cr q' = s.cr q' := by
  simp [stopSlice, hq]

@[simp] theorem failSlice_cr_ne (s : State) (p : Phys) (code : Nat) (cause : Nat) (q' : Phys) (hq : q' ≠ p) : (failSlice s p code cause).cr q' = s.cr q' := by
  simp [failSlice, hq]

end Sys2Proof.Machine
end

