-- ==== Sys2Proof/Laws/OtherConverters.lean ====
section
/-! SUPPORT. What the operations of Machine/Converters.lean leave of slices that they are not about (Laws/Other.lean). -/
namespace Sys2Proof.Machine

@[simp] theorem State.onCv_cr_ne (s : State) (p : Phys) (f : Conv → Conv) (q' : Phys) (hq : q' ≠ p) : (State.onCv s p f).cr q' = s.cr q' := by
  simp [State.onCv, hq]

@[simp] theorem State.onSeq_cr_ne (s : State) (p : Phys) (q : Fin 4) (f : SeqSt → SeqSt) (q' : Phys) (hq : q' ≠ p) : (State.onSeq s p q f).cr q' = s.cr q' := by
  simp [State.onSeq, hq]

@[simp] theorem syncConv_cr_ne (s : State) (p : Phys) (q' : Phys) (hq : q' ≠ p) : (syncConv s p).cr q' = s.cr q' := by
  simp [syncConv, cr_foldl, hq]

@[simp] theorem restartCal_cr_ne (s : State) (p : Phys) (q' : Phys) (hq : q' ≠ p) : (restartCal s p).cr q' = s.cr q' := by
  simp [restartCal, hq]

@[simp] theorem syncTrims_cr_ne (s : State) (p : Phys) (q' : Phys) (hq : q' ≠ p) : (syncTrims s p).cr q' = s.cr q' := by
  simp [syncTrims, hq]

@[simp] theorem takeBand_cr_ne (s : State) (p : Phys) (q' : Phys) (hq : q' ≠ p) : (takeBand s p).cr q' = s.cr q' := by
  simp [takeBand, hq]

@[simp] theorem startPass_cr_ne (s : State) (p : Phys) (q : Fin 4) (edge : Option Nat) (q' : Phys) (hq : q' ≠ p) : (startPass s p q edge).cr q' = s.cr q' := by
  simp [startPass, hq]

@[simp] theorem settle_cr_ne (s : State) (p : Phys) (q' : Phys) (hq : q' ≠ p) : (settle s p).cr q' = s.cr q' := by
  simp [settle, hq]

@[simp] theorem dropTrigger_cr_ne (s : State) (p : Phys) (q : Fin 4) (q' : Phys) (hq : q' ≠ p) : (dropTrigger s p q).cr q' = s.cr q' := by
  simp [dropTrigger, hq]

@[simp] theorem acceptTrigger_cr_ne (s : State) (p : Phys) (q : Fin 4) (edge : Option Nat) (q' : Phys) (hq : q' ≠ p) : (acceptTrigger s p q edge).cr q' = s.cr q' := by
  simp [acceptTrigger, hq]

@[simp] theorem startTimer_cr_ne (s : State) (p : Phys) (q : Fin 4) (q' : Phys) (hq : q' ≠ p) : (startTimer s p q).cr q' = s.cr q' := by
  simp [startTimer, hq]

@[simp] theorem triggerEdge_cr_ne (s : State) (p : Phys) (q : Fin 4) (x : TrigSource) (q' : Phys) (hq : q' ≠ p) : (triggerEdge s p q x).2.cr q' = s.cr q' := by
  unfold triggerEdge
  try simp only []
  (repeat' split) <;> simp [hq]

@[simp] theorem seqTrigger_cr_ne (s : State) (p : Phys) (q : Fin 4) (x : TrigSource) (q' : Phys) (hq : q' ≠ p) : (seqTrigger s p q x).cr q' = s.cr q' := by
  simp [seqTrigger, hq]

@[simp] theorem finishEnding_cr_ne (s : State) (p : Phys) (q : Fin 4) (q' : Phys) (hq : q' ≠ p) : (finishEnding s p q).cr q' = s.cr q' := by
  simp [finishEnding, hq]

@[simp] theorem seqDisabled_cr_ne (s : State) (p : Phys) (q : Fin 4) (q' : Phys) (hq : q' ≠ p) : (seqDisabled s p q).cr q' = s.cr q' := by
  simp [seqDisabled, hq]

@[simp] theorem firmwareSeqs_cr_ne (s : State) (p : Phys) (on : Bool) (q' : Phys) (hq : q' ≠ p) : (firmwareSeqs s p on).cr q' = s.cr q' := by
  simp [firmwareSeqs, hq]

@[simp] theorem seq3Written_cr_ne (was : State) (s : State) (p : Phys) (q' : Phys) (hq : q' ≠ p) : (seq3Written was s p).cr q' = s.cr q' := by
  simp [seq3Written, hq]

@[simp] theorem abortOn_cr_ne (s : State) (p : Phys) (o : Owner) (q' : Phys) (hq : q' ≠ p) : (abortOn s p o).cr q' = s.cr q' := by
  unfold abortOn
  try simp only []
  (repeat' split) <;> simp [hq]

@[simp] theorem startUrgent_cr_ne (s : State) (p : Phys) (u : Urgent) (q' : Phys) (hq : q' ≠ p) : (startUrgent s p u).cr q' = s.cr q' := by
  unfold startUrgent
  try simp only []
  (repeat' split) <;> simp [hq]

@[simp] theorem urgentAsk_cr_ne (s : State) (p : Phys) (u : Urgent) (q' : Phys) (hq : q' ≠ p) : (urgentAsk s p u).cr q' = s.cr q' := by
  simp [urgentAsk, hq]

@[simp] theorem writeResult_cr_ne (s : State) (p : Phys) (lo : Reg) (hi : Reg) (i : Nat) (dec : Nat) (code : Int) (flags : Nat) (ts : BitVec 24) (q' : Phys) (hq : q' ≠ p) : (writeResult s p lo hi i dec code flags ts).cr q' = s.cr q' := by
  simp [writeResult, hq]

@[simp] theorem writeEntry_cr_ne (s : State) (p : Phys) (band : Nat) (e : EntRun) (q' : Phys) (hq : q' ≠ p) : (writeEntry s p band e).cr q' = s.cr q' := by
  simp [writeEntry, hq]

@[simp] theorem chainTriggers_cr_ne (s : State) (p : Phys) (q : Fin 4) (q' : Phys) (hq : q' ≠ p) : (chainTriggers s p q).cr q' = s.cr q' := by
  simp [chainTriggers, cr_foldl, hq]

@[simp] theorem endPass_cr_ne (s : State) (p : Phys) (q : Fin 4) (q' : Phys) (hq : q' ≠ p) : (endPass s p q).cr q' = s.cr q' := by
  simp [endPass, hq]

@[simp] theorem seqComplete_cr_ne (s : State) (p : Phys) (q : Fin 4) (e : EntRun) (d : ConvData) (q' : Phys) (hq : q' ≠ p) : (seqComplete s p q e d).1.cr q' = s.cr q' := by
  simp [seqComplete, hq]

@[simp] theorem urgentComplete_cr_ne (s : State) (p : Phys) (d : ConvData) (q' : Phys) (hq : q' ≠ p) : (urgentComplete s p d).cr q' = s.cr q' := by
  unfold urgentComplete
  try simp only []
  (repeat' split) <;> simp [hq]

@[simp] theorem convComplete_cr_ne (s : State) (p : Phys) (adc : Fin 2) (d : ConvData) (q' : Phys) (hq : q' ≠ p) : (convComplete s p adc d).1.cr q' = s.cr q' := by
  unfold convComplete
  try simp only []
  (repeat' split) <;> simp [hq]

@[simp] theorem restartSequences_cr_ne (s : State) (p : Phys) (q' : Phys) (hq : q' ≠ p) : (restartSequences s p).cr q' = s.cr q' := by
  simp [restartSequences, cr_foldl, hq]

@[simp] theorem buildEntries_cr_ne (s : State) (p : Phys) (q' : Phys) (hq : q' ≠ p) : (buildEntries s p).cr q' = s.cr q' := by
  simp [buildEntries, cr_foldl, hq]

@[simp] theorem setSliceClock_cr_ne (s : State) (p : Phys) (mhz : Nat) (q' : Phys) (hq : q' ≠ p) : (setSliceClock s p mhz).cr q' = s.cr q' := by
  simp [setSliceClock, hq]

@[simp] theorem onTrims_cr_ne (s : State) (p : Phys) (f : Trims → Trims) (q' : Phys) (hq : q' ≠ p) : (onTrims s p f).cr q' = s.cr q' := by
  simp [onTrims, hq]

@[simp] theorem judgeConv_cr_ne (s : State) (p : Phys) (q' : Phys) (hq : q' ≠ p) : (judgeConv s p).cr q' = s.cr q' := by
  simp [judgeConv, hq]

@[simp] theorem trimFail_cr_ne (s : State) (p : Phys) (q' : Phys) (hq : q' ≠ p) : (trimFail s p).cr q' = s.cr q' := by
  simp [trimFail, hq]

@[simp] theorem trimStep_cr_ne (s : State) (p : Phys) (ofsErr : Int) (gainErr : Int) (q' : Phys) (hq : q' ≠ p) : (trimStep s p ofsErr gainErr).cr q' = s.cr q' := by
  simp [trimStep, hq]

@[simp] theorem skewStep_cr_ne (s : State) (p : Phys) (err : Int) (slopeOk : Bool) (q' : Phys) (hq : q' ≠ p) : (skewStep s p err slopeOk).cr q' = s.cr q' := by
  simp [skewStep, hq]

end Sys2Proof.Machine
end

