-- ==== Sys2Proof/Laws/OtherDrive.lean ====
section
/-! SUPPORT. What the operations of Machine/Drive.lean leave of slices that they are not about (Laws/Other.lean). -/
namespace Sys2Proof.Machine

@[simp] theorem refreshOut_cr_ne (s : State) (p : Phys) (j : Out) (q' : Phys) (hq : q' ≠ p) : (refreshOut s p j).cr q' = s.cr q' := by
  simp [refreshOut, hq]

end Sys2Proof.Machine
end

