-- ==== Sys2Proof/Laws/OtherMeter.lean ====
section
/-! SUPPORT. What the operations of Machine/Meter.lean leave of slices that they are not about (Laws/Other.lean). -/
namespace Sys2Proof.Machine

@[simp] theorem State.onMt_cr_ne (s : State) (p : Phys) (f : Meter → Meter) (q' : Phys) (hq : q' ≠ p) : (State.onMt s p f).cr q' = s.cr q' := by
  simp [State.onMt, hq]

@[simp] theorem State.onCap_cr_ne (s : State) (p : Phys) (f : Capture → Capture) (q' : Phys) (hq : q' ≠ p) : (State.onCap s p f).cr q' = s.cr q' := by
  simp [State.onCap, hq]

@[simp] theorem fillShare_cr_ne (s : State) (p : Phys) (older : Option Nat) (dt : Rat) (pw : Rat) (qw : Rat) (sw : Rat) (q' : Phys) (hq : q' ≠ p) : (fillShare s p older dt pw qw sw).cr q' = s.cr q' := by
  simp [fillShare, hq]

@[simp] theorem showSynth_cr_ne (s : State) (p : Phys) (q' : Phys) (hq : q' ≠ p) : (showSynth s p).cr q' = s.cr q' := by
  simp [showSynth, hq]

@[simp] theorem noteFill_cr_ne (s : State) (p : Phys) (dt : Rat) (q' : Phys) (hq : q' ≠ p) : (noteFill s p dt).cr q' = s.cr q' := by
  simp [noteFill, hq]

@[simp] theorem fillGap_cr_ne (s : State) (p : Phys) (at_ : Nat) (dt : Rat) (q' : Phys) (hq : q' ≠ p) : (fillGap s p at_ dt).cr q' = s.cr q' := by
  unfold fillGap
  try simp only []
  (repeat' split) <;> simp [hq]

@[simp] theorem fillUpTo_cr_ne (s : State) (p : Phys) (at_ : Nat) (q' : Phys) (hq : q' ≠ p) : (fillUpTo s p at_).cr q' = s.cr q' := by
  unfold fillUpTo
  try simp only []
  (repeat' split) <;> simp [hq]

@[simp] theorem integrate_cr_ne (s : State) (p : Phys) (at_ : Nat) (q' : Phys) (hq : q' ≠ p) : (integrate s p at_).cr q' = s.cr q' := by
  simp [integrate, hq]

@[simp] theorem passV_cr_ne (s : State) (p : Phys) (v : Rat) (dt : Nat) (q' : Phys) (hq : q' ≠ p) : (passV s p v dt).1.cr q' = s.cr q' := by
  simp [passV, hq]

@[simp] theorem passI_cr_ne (s : State) (p : Phys) (i : Rat) (dt : Nat) (at_ : Nat) (q' : Phys) (hq : q' ≠ p) : (passI s p i dt at_).1.cr q' = s.cr q' := by
  simp [passI, hq]

@[simp] theorem holdPair_cr_ne (s : State) (p : Phys) (at_ : Nat) (pv : Rat) (pi : Rat) (satV : Bool) (satI : Bool) (q' : Phys) (hq : q' ≠ p) : (holdPair s p at_ pv pi satV satI).cr q' = s.cr q' := by
  simp [holdPair, hq]

@[simp] theorem takePair_cr_ne (s : State) (p : Phys) (v : Rat) (i : Rat) (at_ : Nat) (satV : Bool) (satI : Bool) (q' : Phys) (hq : q' ≠ p) : (takePair s p v i at_ satV satI).cr q' = s.cr q' := by
  simp [takePair, hq]

@[simp] theorem showUnlocked_cr_ne (s : State) (p : Phys) (q' : Phys) (hq : q' ≠ p) : (showUnlocked s p).cr q' = s.cr q' := by
  simp [showUnlocked, hq]

@[simp] theorem track_cr_ne (s : State) (p : Phys) (c : CycleData) (q' : Phys) (hq : q' ≠ p) : (track s p c).cr q' = s.cr q' := by
  simp [track, hq]

@[simp] theorem endCycle_cr_ne (s : State) (p : Phys) (f : Nat) (q' : Phys) (hq : q' ≠ p) : (endCycle s p f).cr q' = s.cr q' := by
  simp [endCycle, hq]

@[simp] theorem cycleEnd_cr_ne (s : State) (p : Phys) (c : Option CycleData) (q' : Phys) (hq : q' ≠ p) : (cycleEnd s p c).cr q' = s.cr q' := by
  unfold cycleEnd
  try simp only []
  (repeat' split) <;> simp [hq]

@[simp] theorem finishMeter_cr_ne (s : State) (p : Phys) (q' : Phys) (hq : q' ≠ p) : (finishMeter s p).cr q' = s.cr q' := by
  simp [finishMeter, hq]

@[simp] theorem cutMeter_cr_ne (s : State) (p : Phys) (at_ : Nat) (q' : Phys) (hq : q' ≠ p) : (cutMeter s p at_).1.cr q' = s.cr q' := by
  unfold cutMeter
  try simp only []
  (repeat' split) <;> simp [hq]

@[simp] theorem syncCap_cr_ne (s : State) (p : Phys) (q' : Phys) (hq : q' ≠ p) : (syncCap s p).cr q' = s.cr q' := by
  simp [syncCap, hq]

@[simp] theorem capArm_cr_ne (s : State) (p : Phys) (q' : Phys) (hq : q' ≠ p) : (capArm s p).cr q' = s.cr q' := by
  simp [capArm, hq]

@[simp] theorem setSq0_cr_ne (s : State) (p : Phys) (fast : Option Nat) (q' : Phys) (hq : q' ≠ p) : (setSq0 s p fast).cr q' = s.cr q' := by
  unfold setSq0
  try simp only []
  (repeat' split) <;> simp [hq]

@[simp] theorem endWait_cr_ne (s : State) (p : Phys) (q' : Phys) (hq : q' ≠ p) : (endWait s p).cr q' = s.cr q' := by
  unfold endWait
  try simp only []
  (repeat' split) <;> simp [hq]

@[simp] theorem capDone_cr_ne (s : State) (p : Phys) (q' : Phys) (hq : q' ≠ p) : (capDone s p).cr q' = s.cr q' := by
  simp [capDone, hq]

@[simp] theorem capTrigger_cr_ne (s : State) (p : Phys) (q' : Phys) (hq : q' ≠ p) : (capTrigger s p).cr q' = s.cr q' := by
  simp [capTrigger, hq]

@[simp] theorem capRelay_cr_ne (s : State) (p : Phys) (j : Out) (q' : Phys) (hq : q' ≠ p) : (capRelay s p j).1.cr q' = s.cr q' := by
  unfold capRelay
  try simp only []
  (repeat' split) <;> simp [hq]

@[simp] theorem capStop_cr_ne (s : State) (p : Phys) (q' : Phys) (hq : q' ≠ p) : (capStop s p).cr q' = s.cr q' := by
  simp [capStop, hq]

@[simp] theorem capAbort_cr_ne (s : State) (p : Phys) (q' : Phys) (hq : q' ≠ p) : (capAbort s p).cr q' = s.cr q' := by
  simp [capAbort, hq]

@[simp] theorem capStore_cr_ne (s : State) (p : Phys) (l : List Word) (q' : Phys) (hq : q' ≠ p) : (capStore s p l).cr q' = s.cr q' := by
  simp [capStore, hq]

@[simp] theorem capPair_cr_ne (s : State) (p : Phys) (v : Int) (i : Int) (satV : Bool) (satI : Bool) (q' : Phys) (hq : q' ≠ p) : (capPair s p v i satV satI).cr q' = s.cr q' := by
  simp [capPair, hq]

@[simp] theorem capFast_cr_ne (s : State) (p : Phys) (code : Int) (sat : Bool) (at_ : Nat) (q' : Phys) (hq : q' ≠ p) : (capFast s p code sat at_).cr q' = s.cr q' := by
  unfold capFast
  try simp only []
  (repeat' split) <;> simp [hq]

@[simp] theorem capHalf_cr_ne (s0 : State) (p : Phys) (q' : Phys) (hq : q' ≠ p) : (capHalf s0 p).cr q' = s0.cr q' := by
  unfold capHalf
  try simp only []
  (repeat' split) <;> simp [hq]

@[simp] theorem takeFast_cr_ne (s : State) (p : Phys) (isV : Bool) (code : Int) (sat : Bool) (at_ : Nat) (q' : Phys) (hq : q' ≠ p) : (takeFast s p isV code sat at_).cr q' = s.cr q' := by
  simp [takeFast, hq]

@[simp] theorem meterTake_cr_ne (s : State) (p : Phys) (x : ConvDone) (q' : Phys) (hq : q' ≠ p) : (meterTake s p x).cr q' = s.cr q' := by
  simp [meterTake, hq]

@[simp] theorem meterConversion_cr_ne (s : State) (p : Phys) (x : ConvDone) (d : ConvData) (q' : Phys) (hq : q' ≠ p) : (meterConversion s p x d).cr q' = s.cr q' := by
  unfold meterConversion
  try simp only []
  (repeat' split) <;> simp [hq]

@[simp] theorem publishClip_cr_ne (s : State) (p : Phys) (x : Fld) (mark : Bool) (code : Nat) (q' : Phys) (hq : q' ≠ p) : (publishClip s p x mark code).cr q' = s.cr q' := by
  simp [publishClip, hq]

@[simp] theorem publishHarm_cr_ne (s : State) (p : Phys) (start : Nat) (grid : List Rat) (q' : Phys) (hq : q' ≠ p) : (publishHarm s p start grid).cr q' = s.cr q' := by
  simp [publishHarm, hq]

@[simp] theorem publishWindow_cr_ne (s : State) (p : Phys) (grid : List Rat) (q' : Phys) (hq : q' ≠ p) : (publishWindow s p grid).cr q' = s.cr q' := by
  unfold publishWindow
  try simp only []
  (repeat' split) <;> simp [hq]

@[simp] theorem postMeter_cr_ne (s : State) (p : Phys) (q' : Phys) (hq : q' ≠ p) : (postMeter s p).cr q' = s.cr q' := by
  simp [postMeter, hq]

@[simp] theorem restartMeter_cr_ne (s0 : State) (p : Phys) (q' : Phys) (hq : q' ≠ p) : (restartMeter s0 p).cr q' = s0.cr q' := by
  simp [restartMeter, hq]

@[simp] theorem resumeMeter_cr_ne (s : State) (p : Phys) (ck : Nat) (post : Option Posting) (fills : Bool) (q' : Phys) (hq : q' ≠ p) : (resumeMeter s p ck post fills).cr q' = s.cr q' := by
  unfold resumeMeter
  try simp only []
  (repeat' split) <;> simp [hq]

@[simp] theorem writeCheckpoint_cr_ne (s : State) (p : Phys) (q' : Phys) (hq : q' ≠ p) : (writeCheckpoint s p).cr q' = s.cr q' := by
  simp [writeCheckpoint, hq]

end Sys2Proof.Machine
end

