-- ==== Sys2Proof/Laws/OtherOutputs.lean ====
section
/-! SUPPORT. What the operations of Machine/Outputs.lean leave of slices that they are not about (Laws/Other.lean). -/
namespace Sys2Proof.Machine

@[simp] theorem driveSafe_cr_ne (s : State) (p : Phys) (j : Out) (q' : Phys) (hq : q' ≠ p) : (driveSafe s p j).cr q' = s.cr q' := by
  simp [driveSafe, hq]

@[simp] theorem request_cr_ne (s : State) (p : Phys) (j : Out) (x : Rat) (q' : Phys) (hq : q' ≠ p) : (request s p j x).cr q' = s.cr q' := by
  unfold request
  try simp only []
  (repeat' split) <;> simp [hq]

@[simp] theorem measureOut_cr_ne (s : State) (p : Phys) (j : Out) (v : Nat) (lim : Bool) (q' : Phys) (hq : q' ≠ p) : (measureOut s p j v lim).cr q' = s.cr q' := by
  simp [measureOut, hq]

@[simp] theorem govRetry_cr_ne (s : State) (p : Phys) (j : Out) (q' : Phys) (hq : q' ≠ p) : (govRetry s p j).cr q' = s.cr q' := by
  simp [govRetry, hq]

@[simp] theorem setFactor_cr_ne (s : State) (p : Phys) (f : Nat) (q' : Phys) (hq : q' ≠ p) : (setFactor s p f).cr q' = s.cr q' := by
  simp [setFactor, hq]

@[simp] theorem aoLimit_cr (s : State) (p : Phys) (j : Out) (q' : Phys)  : (aoLimit s p j).cr q' = s.cr q' := by
  simp [aoLimit]

@[simp] theorem doTrip_cr_ne (s : State) (p : Phys) (j : Out) (q' : Phys) (hq : q' ≠ p) : (doTrip s p j).cr q' = s.cr q' := by
  simp [doTrip, hq]

@[simp] theorem doRetry_cr_ne (s : State) (p : Phys) (j : Out) (q' : Phys) (hq : q' ≠ p) : (doRetry s p j).cr q' = s.cr q' := by
  simp [doRetry, hq]

@[simp] theorem clearOvc_cr_ne (s : State) (p : Phys) (j : Out) (q' : Phys) (hq : q' ≠ p) : (clearOvc s p j).cr q' = s.cr q' := by
  simp [clearOvc, hq]

@[simp] theorem doOpen_cr_ne (s : State) (p : Phys) (j : Out) (q' : Phys) (hq : q' ≠ p) : (doOpen s p j).cr q' = s.cr q' := by
  simp [doOpen, hq]

@[simp] theorem aoReadback_cr_ne (s : State) (p : Phys) (j : Out) (off : Bool) (q' : Phys) (hq : q' ≠ p) : (aoReadback s p j off).cr q' = s.cr q' := by
  simp [aoReadback, hq]

@[simp] theorem releaseOut_cr_ne (s : State) (p : Phys) (j : Out) (q' : Phys) (hq : q' ≠ p) : (releaseOut s p j).cr q' = s.cr q' := by
  simp [releaseOut, hq]

@[simp] theorem firmwareRelease_cr_ne (s : State) (p : Phys) (q' : Phys) (hq : q' ≠ p) : (firmwareRelease s p).cr q' = s.cr q' := by
  simp [firmwareRelease, cr_foldl, hq]

@[simp] theorem outConversion_cr_ne (s : State) (p : Phys) (x : ConvDone) (d : ConvData) (q' : Phys) (hq : q' ≠ p) : (outConversion s p x d).cr q' = s.cr q' := by
  unfold outConversion
  try simp only []
  (repeat' split) <;> simp [hq]

@[simp] theorem tachPulse_cr_ne (s : State) (p : Phys) (period : Nat) (q' : Phys) (hq : q' ≠ p) : (tachPulse s p period).cr q' = s.cr q' := by
  simp [tachPulse, hq]

@[simp] theorem fanStalled_cr_ne (s : State) (p : Phys) (q' : Phys) (hq : q' ≠ p) : (fanStalled s p).cr q' = s.cr q' := by
  simp [fanStalled, hq]

@[simp] theorem tachReject_cr_ne (s : State) (p : Phys) (q' : Phys) (hq : q' ≠ p) : (tachReject s p).cr q' = s.cr q' := by
  simp [tachReject, hq]

@[simp] theorem clearTachChatter_cr_ne (s : State) (p : Phys) (q' : Phys) (hq : q' ≠ p) : (clearTachChatter s p).cr q' = s.cr q' := by
  simp [clearTachChatter, hq]

@[simp] theorem startPulse_cr_ne (s : State) (p : Phys) (z : Zone) (j : Out) (lseq : Nat) (dur : Nat) (q' : Phys) (hq : q' ≠ p) : (startPulse s p z j lseq dur).cr q' = s.cr q' := by
  simp [startPulse, hq]

@[simp] theorem pulseOver_cr_ne (s : State) (p : Phys) (j : Out) (how : PulseEnd) (q' : Phys) (hq : q' ≠ p) : (pulseOver s p j how).cr q' = s.cr q' := by
  simp [pulseOver, hq]

end Sys2Proof.Machine
end

