-- ==== Sys2Proof/Laws/OtherHeat.lean ====
section
/-! SUPPORT. What the operations of Machine/Heat.lean leave of slices that they are not about (Laws/Other.lean). -/
namespace Sys2Proof.Machine

@[simp] theorem State.onHt_cr_ne (s : State) (p : Phys) (f : Heat → Heat) (q' : Phys) (hq : q' ≠ p) : (State.onHt s p f).cr q' = s.cr q' := by
  simp [State.onHt, hq]

@[simp] theorem State.onFl_cr_ne (s : State) (p : Phys) (n : Fin 2) (f : FlowIn → FlowIn) (q' : Phys) (hq : q' ≠ p) : (State.onFl s p n f).cr q' = s.cr q' := by
  simp [State.onFl, hq]

@[simp] theorem flagInterval_cr_ne (s : State) (p : Phys) (bit : Nat) (q' : Phys) (hq : q' ≠ p) : (flagInterval s p bit).cr q' = s.cr q' := by
  simp [flagInterval, hq]

@[simp] theorem matchPair_cr_ne (s : State) (p : Phys) (n : Fin 4) (run : Nat) (q' : Phys) (hq : q' ≠ p) : (matchPair s p n run).cr q' = s.cr q' := by
  unfold matchPair
  try simp only []
  (repeat' split) <;> simp [hq]

@[simp] theorem showRange_cr_ne (s : State) (p : Phys) (r : Bool × Bool) (q' : Phys) (hq : q' ≠ p) : (showRange s p r).cr q' = s.cr q' := by
  simp [showRange, hq]

@[simp] theorem showDir_cr_ne (s : State) (p : Phys) (d : Nat) (q' : Phys) (hq : q' ≠ p) : (showDir s p d).cr q' = s.cr q' := by
  simp [showDir, hq]

@[simp] theorem addHeat_cr_ne (s : State) (p : Phys) (i : Nat) (q : Rat) (q' : Phys) (hq : q' ≠ p) : (addHeat s p i q).cr q' = s.cr q' := by
  unfold addHeat
  try simp only []
  (repeat' split) <;> simp [hq]

@[simp] theorem heatPulse_cr_ne (s : State) (p : Phys) (dv : Rat) (period : Nat) (q' : Phys) (hq : q' ≠ p) : (heatPulse s p dv period).cr q' = s.cr q' := by
  unfold heatPulse
  try simp only []
  (repeat' split) <;> simp [hq]

@[simp] theorem heatTick_cr_ne (s : State) (p : Phys) (q' : Phys) (hq : q' ≠ p) : (heatTick s p).cr q' = s.cr q' := by
  unfold heatTick
  try simp only []
  (repeat' split) <;> simp [hq]

@[simp] theorem showFlow_cr_ne (s : State) (p : Phys) (n : Fin 2) (vpp : Nat) (period : Nat) (q' : Phys) (hq : q' ≠ p) : (showFlow s p n vpp period).cr q' = s.cr q' := by
  simp [showFlow, hq]

@[simp] theorem flowPulse_cr_ne (s : State) (p : Phys) (n : Fin 2) (period : Nat) (q' : Phys) (hq : q' ≠ p) : (flowPulse s p n period).cr q' = s.cr q' := by
  unfold flowPulse
  try simp only []
  (repeat' split) <;> simp [hq]

@[simp] theorem flowIdle_cr_ne (s : State) (p : Phys) (n : Fin 2) (q' : Phys) (hq : q' ≠ p) : (flowIdle s p n).cr q' = s.cr q' := by
  simp [flowIdle, hq]

@[simp] theorem showFlowFlag_cr_ne (s : State) (p : Phys) (x : Fld) (n : Fin 2) (b : Bool) (q' : Phys) (hq : q' ≠ p) : (showFlowFlag s p x n b).cr q' = s.cr q' := by
  simp [showFlowFlag, hq]

@[simp] theorem flowChatter_cr_ne (s : State) (p : Phys) (n : Fin 2) (q' : Phys) (hq : q' ≠ p) : (flowChatter s p n).cr q' = s.cr q' := by
  simp [flowChatter, hq]

@[simp] theorem flowRateJudge_cr_ne (s : State) (p : Phys) (n : Fin 2) (rate : Nat) (q' : Phys) (hq : q' ≠ p) : (flowRateJudge s p n rate).cr q' = s.cr q' := by
  simp [flowRateJudge, hq]

@[simp] theorem flowReject_cr_ne (s : State) (p : Phys) (n : Fin 2) (q' : Phys) (hq : q' ≠ p) : (flowReject s p n).cr q' = s.cr q' := by
  simp [flowReject, hq]

@[simp] theorem clearFlowChatter_cr_ne (s : State) (p : Phys) (n : Fin 2) (q' : Phys) (hq : q' ≠ p) : (clearFlowChatter s p n).cr q' = s.cr q' := by
  simp [clearFlowChatter, hq]

@[simp] theorem leakHour_cr_ne (s : State) (p : Phys) (q' : Phys) (hq : q' ≠ p) : (leakHour s p).cr q' = s.cr q' := by
  simp [leakHour, hq]

end Sys2Proof.Machine
end

