-- ==== Sys2Proof/Laws/OtherPanel.lean ====
section
/-! SUPPORT. What the operations of Machine/Panel.lean leave of slices that they are not about (Laws/Other.lean). -/
namespace Sys2Proof.Machine

@[simp] theorem State.onPn_cr_ne (s : State) (p : Phys) (f : Panel → Panel) (q' : Phys) (hq : q' ≠ p) : (State.onPn s p f).cr q' = s.cr q' := by
  simp [State.onPn, hq]

@[simp] theorem State.onKey_cr_ne (s : State) (p : Phys) (k : Fin 16) (f : KeySt → KeySt) (q' : Phys) (hq : q' ≠ p) : (State.onKey s p k f).cr q' = s.cr q' := by
  simp [State.onKey, hq]

@[simp] theorem panelReq_cr_ne (s : State) (p : Phys) (r : PanelReq) (q' : Phys) (hq : q' ≠ p) : (panelReq s p r).cr q' = s.cr q' := by
  simp [panelReq, hq]

@[simp] theorem panelEvent_cr_ne (s : State) (p : Phys) (type : Nat) (key : Nat) (q' : Phys) (hq : q' ≠ p) : (panelEvent s p type key).cr q' = s.cr q' := by
  simp [panelEvent, hq]

@[simp] theorem syncKeys_cr_ne (s : State) (p : Phys) (q' : Phys) (hq : q' ≠ p) : (syncKeys s p).cr q' = s.cr q' := by
  simp [syncKeys, hq]

@[simp] theorem pressKey_cr_ne (s : State) (p : Phys) (k : Fin 16) (q' : Phys) (hq : q' ≠ p) : (pressKey s p k).cr q' = s.cr q' := by
  unfold pressKey
  try simp only []
  (repeat' split) <;> simp [hq]

@[simp] theorem keyChatter_cr_ne (s : State) (p : Phys) (k : Fin 16) (q' : Phys) (hq : q' ≠ p) : (keyChatter s p k).cr q' = s.cr q' := by
  simp [keyChatter, hq]

@[simp] theorem acceptKey_cr_ne (s : State) (p : Phys) (k : Fin 16) (pressed : Bool) (q' : Phys) (hq : q' ≠ p) : (acceptKey s p k pressed).cr q' = s.cr q' := by
  simp [acceptKey, hq]

@[simp] theorem debounce_cr_ne (s : State) (p : Phys) (k : Fin 16) (raw : Bool) (q' : Phys) (hq : q' ≠ p) : (debounce s p k raw).cr q' = s.cr q' := by
  simp [debounce, hq]

@[simp] theorem ghostStep_cr_ne (s : State) (p : Phys) (m : BitVec 16) (q' : Phys) (hq : q' ≠ p) : (ghostStep s p m).cr q' = s.cr q' := by
  simp [ghostStep, hq]

@[simp] theorem keyScan_cr_ne (s : State) (p : Phys) (raw : BitVec 16) (q' : Phys) (hq : q' ≠ p) : (keyScan s p raw).cr q' = s.cr q' := by
  simp [keyScan, cr_foldl, hq]

@[simp] theorem keyLong_cr_ne (s : State) (p : Phys) (k : Fin 16) (q' : Phys) (hq : q' ≠ p) : (keyLong s p k).cr q' = s.cr q' := by
  simp [keyLong, hq]

@[simp] theorem keyStuck_cr_ne (s : State) (p : Phys) (k : Fin 16) (q' : Phys) (hq : q' ≠ p) : (keyStuck s p k).cr q' = s.cr q' := by
  simp [keyStuck, hq]

@[simp] theorem keyRepeat_cr_ne (s : State) (p : Phys) (k : Fin 16) (q' : Phys) (hq : q' ≠ p) : (keyRepeat s p k).cr q' = s.cr q' := by
  simp [keyRepeat, hq]

@[simp] theorem clearKeyChatter_cr_ne (s : State) (p : Phys) (k : Fin 16) (raw : Bool) (q' : Phys) (hq : q' ≠ p) : (clearKeyChatter s p k raw).cr q' = s.cr q' := by
  simp [clearKeyChatter, hq]

@[simp] theorem encoderChatter_cr_ne (s : State) (p : Phys) (q' : Phys) (hq : q' ≠ p) : (encoderChatter s p).cr q' = s.cr q' := by
  simp [encoderChatter, hq]

@[simp] theorem encoderReject_cr_ne (s : State) (p : Phys) (q' : Phys) (hq : q' ≠ p) : (encoderReject s p).cr q' = s.cr q' := by
  simp [encoderReject, hq]

@[simp] theorem detent_cr_ne (s : State) (p : Phys) (cw : Bool) (q' : Phys) (hq : q' ≠ p) : (detent s p cw).cr q' = s.cr q' := by
  simp [detent, hq]

@[simp] theorem overspeedTick_cr_ne (s : State) (p : Phys) (q' : Phys) (hq : q' ≠ p) : (overspeedTick s p).cr q' = s.cr q' := by
  simp [overspeedTick, hq]

@[simp] theorem encoderEdge_cr_ne (s : State) (p : Phys) (a : Bool) (b : Bool) (q' : Phys) (hq : q' ≠ p) : (encoderEdge s p a b).cr q' = s.cr q' := by
  simp [encoderEdge, hq]

@[simp] theorem clearEncoderChatter_cr_ne (s : State) (p : Phys) (q' : Phys) (hq : q' ≠ p) : (clearEncoderChatter s p).cr q' = s.cr q' := by
  simp [clearEncoderChatter, hq]

@[simp] theorem takePanelEvent_cr_ne (s : State) (p : Phys) (q' : Phys) (hq : q' ≠ p) : (takePanelEvent s p).2.cr q' = s.cr q' := by
  unfold takePanelEvent
  try simp only []
  (repeat' split) <;> simp [hq]

@[simp] theorem adoptPanel_cr_ne (s : State) (p : Phys) (x : Panel) (q' : Phys) (hq : q' ≠ p) : (adoptPanel s p x).cr q' = s.cr q' := by
  simp [adoptPanel, hq]

end Sys2Proof.Machine
end

