-- ==== Sys2Proof/Laws/OtherSchedule.lean ====
section
/-! SUPPORT. What the operations of Machine/Schedule.lean leave of slices that they are not about (Laws/Other.lean). -/
namespace Sys2Proof.Machine

@[simp] theorem State.onSc_cr_ne (s : State) (p : Phys) (f : Sched → Sched) (q' : Phys) (hq : q' ≠ p) : (State.onSc s p f).cr q' = s.cr q' := by
  simp [State.onSc, hq]

@[simp] theorem setSchedState_cr_ne (s : State) (p : Phys) (v : Nat) (q' : Phys) (hq : q' ≠ p) : (setSchedState s p v).cr q' = s.cr q' := by
  simp [setSchedState, hq]

@[simp] theorem setBand_cr_ne (s : State) (p : Phys) (b : Option Nat) (q' : Phys) (hq : q' ≠ p) : (setBand s p b).cr q' = s.cr q' := by
  simp [setBand, hq]

@[simp] theorem setDay_cr_ne (s : State) (p : Phys) (q' : Phys) (hq : q' ≠ p) : (setDay s p).cr q' = s.cr q' := by
  simp [setDay, hq]

@[simp] theorem reevaluate_cr_ne (s : State) (p : Phys) (q' : Phys) (hq : q' ≠ p) : (reevaluate s p).cr q' = s.cr q' := by
  simp [reevaluate, hq]

@[simp] theorem judgeTariff_cr_ne (s : State) (p : Phys) (q' : Phys) (hq : q' ≠ p) : (judgeTariff s p).cr q' = s.cr q' := by
  simp [judgeTariff, hq]

@[simp] theorem setBin_cr_ne (s : State) (p : Phys) (b : Nat) (v : Nat) (q' : Phys) (hq : q' ≠ p) : (setBin s p b v).cr q' = s.cr q' := by
  simp [setBin, hq]

@[simp] theorem resetBins_cr_ne (s : State) (p : Phys) (q' : Phys) (hq : q' ≠ p) : (resetBins s p).cr q' = s.cr q' := by
  simp [resetBins, cr_foldl, hq]

@[simp] theorem judgeFrozen_cr_ne (s : State) (p : Phys) (q' : Phys) (hq : q' ≠ p) : (judgeFrozen s p).cr q' = s.cr q' := by
  simp [judgeFrozen, hq]

@[simp] theorem learnStep_cr_ne (s : State) (p : Phys) (bin : Nat) (active : Nat) (total : Nat) (q' : Phys) (hq : q' ≠ p) : (learnStep s p bin active total).cr q' = s.cr q' := by
  simp [learnStep, hq]

@[simp] theorem fireAlarm_cr_ne (s : State) (p : Phys) (key : Nat × Nat) (at_ : Nat) (late : Bool) (q' : Phys) (hq : q' ≠ p) : (fireAlarm s p key at_ late).cr q' = s.cr q' := by
  simp [fireAlarm, hq]

@[simp] theorem applyDue_cr_ne (s : State) (p : Phys) (q' : Phys) (hq : q' ≠ p) : (applyDue s p).cr q' = s.cr q' := by
  simp [applyDue, hq]

end Sys2Proof.Machine
end

