-- ==== Sys2Proof/Laws/OtherPlanner.lean ====
section
/-! SUPPORT. What the operations of Machine/Planner.lean leave of slices that they are not about (Laws/Other.lean). -/
namespace Sys2Proof.Machine

@[simp] theorem State.onLp_cr_ne (s : State) (p : Phys) (f : Loop → Loop) (q' : Phys) (hq : q' ≠ p) : (State.onLp s p f).cr q' = s.cr q' := by
  simp [State.onLp, hq]

@[simp] theorem startPlan_cr_ne (s : State) (p : Phys) (q' : Phys) (hq : q' ≠ p) : (startPlan s p).cr q' = s.cr q' := by
  simp [startPlan, hq]

@[simp] theorem planTrigger_cr_ne (s : State) (p : Phys) (q' : Phys) (hq : q' ≠ p) : (planTrigger s p).cr q' = s.cr q' := by
  simp [planTrigger, hq]

@[simp] theorem planDone_cr_ne (s : State) (p : Phys) (q' : Phys) (hq : q' ≠ p) : (planDone s p).cr q' = s.cr q' := by
  unfold planDone
  try simp only []
  (repeat' split) <;> simp [hq]

@[simp] theorem planLate_cr_ne (s : State) (p : Phys) (q' : Phys) (hq : q' ≠ p) : (planLate s p).cr q' = s.cr q' := by
  simp [planLate, hq]

@[simp] theorem adoptPlan_cr_ne (s : State) (p : Phys) (q' : Phys) (hq : q' ≠ p) : (adoptPlan s p).cr q' = s.cr q' := by
  unfold adoptPlan
  try simp only []
  (repeat' split) <;> simp [hq]

@[simp] theorem dropPlan_cr_ne (s : State) (p : Phys) (q' : Phys) (hq : q' ≠ p) : (dropPlan s p).cr q' = s.cr q' := by
  simp [dropPlan, hq]

@[simp] theorem trustFlag_cr_ne (s : State) (p : Phys) (x : Fld) (b : Bool) (trig : Bool) (q' : Phys) (hq : q' ≠ p) : (trustFlag s p x b trig).cr q' = s.cr q' := by
  simp [trustFlag, hq]

@[simp] theorem judgeMeters_cr_ne (s : State) (p : Phys) (q' : Phys) (hq : q' ≠ p) : (judgeMeters s p).cr q' = s.cr q' := by
  simp [judgeMeters, hq]

@[simp] theorem judgePlanner_cr_ne (s : State) (p : Phys) (q' : Phys) (hq : q' ≠ p) : (judgePlanner s p).cr q' = s.cr q' := by
  simp [judgePlanner, hq]

@[simp] theorem followTariff_cr_ne (s : State) (p : Phys) (q' : Phys) (hq : q' ≠ p) : (followTariff s p).cr q' = s.cr q' := by
  simp [followTariff, hq]

@[simp] theorem applyTrust_cr_ne (s : State) (p : Phys) (q' : Phys) (hq : q' ≠ p) : (applyTrust s p).cr q' = s.cr q' := by
  simp [applyTrust, hq]

@[simp] theorem alarmsForward_cr_ne (s : State) (p : Phys) (old : Nat) (new : Nat) (q' : Phys) (hq : q' ≠ p) : (alarmsForward s p old new).cr q' = s.cr q' := by
  simp [alarmsForward, cr_foldl, hq]

@[simp] theorem alarmsStep_cr_ne (s : State) (p : Phys) (old : Nat) (new : Nat) (q' : Phys) (hq : q' ≠ p) : (alarmsStep s p old new).cr q' = s.cr q' := by
  simp [alarmsStep, hq]

end Sys2Proof.Machine
end

