-- ==== Sys2Proof/Laws/OtherModes.lean ====
section
/-! SUPPORT. What the operations of Machine/Modes.lean leave of slices that they are not about (Laws/Other.lean). -/
namespace Sys2Proof.Machine

@[simp] theorem tuneFault_cr_ne (s : State) (p : Phys) (lseq : Nat) (reason : Nat) (q' : Phys) (hq : q' ≠ p) : (tuneFault s p lseq reason).cr q' = s.cr q' := by
  unfold tuneFault
  try simp only []
  (repeat' split) <;> simp [hq]

@[simp] theorem failTune_cr_ne (s : State) (p : Phys) (reason : Nat) (q' : Phys) (hq : q' ≠ p) : (failTune s p reason).cr q' = s.cr q' := by
  unfold failTune
  try simp only []
  (repeat' split) <;> simp [hq]

@[simp] theorem startTune_cr_ne (s : State) (p : Phys) (x : Exec) (q' : Phys) (hq : q' ≠ p) : (startTune s p x).cr q' = s.cr q' := by
  simp [startTune, hq]

@[simp] theorem showMode_cr_ne (s : State) (p : Phys) (q' : Phys) (hq : q' ≠ p) : (showMode s p).cr q' = s.cr q' := by
  simp [showMode, hq]

@[simp] theorem setCommand_cr_ne (s : State) (p : Phys) (m : Nat) (q' : Phys) (hq : q' ≠ p) : (setCommand s p m).cr q' = s.cr q' := by
  simp [setCommand, hq]

@[simp] theorem applyMode_cr_ne (s : State) (p : Phys) (m : Nat) (q' : Phys) (hq : q' ≠ p) : (applyMode s p m).cr q' = s.cr q' := by
  simp [applyMode, hq]

@[simp] theorem endTimed_cr_ne (s : State) (p : Phys) (q' : Phys) (hq : q' ≠ p) : (endTimed s p).cr q' = s.cr q' := by
  simp [endTimed, hq]

@[simp] theorem setOffset_cr_ne (s : State) (p : Phys) (v : Int) (q' : Phys) (hq : q' ≠ p) : (setOffset s p v).cr q' = s.cr q' := by
  simp [setOffset, hq]

@[simp] theorem applyReq_cr_ne (s : State) (p : Phys) (r : PanelReq) (q' : Phys) (hq : q' ≠ p) : (applyReq s p r).cr q' = s.cr q' := by
  unfold applyReq
  try simp only []
  (repeat' split) <;> simp [hq]

@[simp] theorem applyReqs_cr_ne (s : State) (p : Phys) (q' : Phys) (hq : q' ≠ p) : (applyReqs s p).cr q' = s.cr q' := by
  simp [applyReqs, cr_foldl, hq]

@[simp] theorem applySchedule_cr_ne (was : State) (s : State) (p : Phys) (q' : Phys) (hq : q' ≠ p) : (applySchedule was s p).cr q' = s.cr q' := by
  simp [applySchedule, hq]

@[simp] theorem formMode_cr_ne (s : State) (p : Phys) (q' : Phys) (hq : q' ≠ p) : (formMode s p).cr q' = s.cr q' := by
  simp [formMode, hq]

@[simp] theorem formSetpoints_cr_ne (s : State) (p : Phys) (q' : Phys) (hq : q' ≠ p) : (formSetpoints s p).cr q' = s.cr q' := by
  simp [formSetpoints, hq]

end Sys2Proof.Machine
end

