-- ==== Sys2Proof/Laws/OtherLoops.lean ====
section
/-! SUPPORT. What the operations of Machine/Loops.lean leave of slices that they are not about (Laws/Other.lean). -/
namespace Sys2Proof.Machine

@[simp] theorem State.onSide_cr_ne (s : State) (p : Phys) (cool : Bool) (f : Side → Side) (q' : Phys) (hq : q' ≠ p) : (State.onSide s p cool f).cr q' = s.cr q' := by
  simp [State.onSide, hq]

@[simp] theorem beginTransit_cr_ne (s : State) (p : Phys) (cool : Bool) (sp : Rat) (tc : Rat) (q' : Phys) (hq : q' ≠ p) : (beginTransit s p cool sp tc).cr q' = s.cr q' := by
  simp [beginTransit, hq]

@[simp] theorem endTransit_cr_ne (s : State) (p : Phys) (cool : Bool) (e : Rat) (q' : Phys) (hq : q' ≠ p) : (endTransit s p cool e).cr q' = s.cr q' := by
  unfold endTransit
  try simp only []
  (repeat' split) <;> simp [hq]

@[simp] theorem piStep_cr_ne (s : State) (p : Phys) (cool : Bool) (e : Rat) (other : Bool) (fresh : Bool) (q' : Phys) (hq : q' ≠ p) : (piStep s p cool e other fresh).cr q' = s.cr q' := by
  simp [piStep, hq]

@[simp] theorem roomSide_cr_ne (s : State) (p : Phys) (cool : Bool) (sp : Option Int) (tc : Rat) (other : Bool) (fresh : Bool) (q' : Phys) (hq : q' ≠ p) : (roomSide s p cool sp tc other fresh).cr q' = s.cr q' := by
  unfold roomSide
  try simp only []
  (repeat' split) <;> simp [hq]

@[simp] theorem settleTick_cr_ne (s : State) (p : Phys) (cool : Bool) (tc : Option Rat) (ceiling : Bool) (q' : Phys) (hq : q' ≠ p) : (settleTick s p cool tc ceiling).cr q' = s.cr q' := by
  unfold settleTick
  try simp only []
  (repeat' split) <;> simp [hq]

@[simp] theorem State.onTune_cr_ne (s : State) (p : Phys) (f : Tune → Tune) (q' : Phys) (hq : q' ≠ p) : (State.onTune s p f).cr q' = s.cr q' := by
  simp [State.onTune, hq]

@[simp] theorem tuneStep_cr_ne (s : State) (p : Phys) (n : Nat) (f : Tune → Tune) (q' : Phys) (hq : q' ≠ p) : (tuneStep s p n f).cr q' = s.cr q' := by
  simp [tuneStep, hq]

@[simp] theorem tuneCommit_cr_ne (s : State) (p : Phys) (t : Tune) (q' : Phys) (hq : q' ≠ p) : (tuneCommit s p t).cr q' = s.cr q' := by
  unfold tuneCommit
  try simp only []
  (repeat' split) <;> simp [hq]

@[simp] theorem tuneFit_cr_ne (s : State) (p : Phys) (t : Tune) (q' : Phys) (hq : q' ≠ p) : (tuneFit s p t).cr q' = s.cr q' := by
  simp [tuneFit, hq]

@[simp] theorem tuneRelay_cr_ne (s : State) (p : Phys) (t : Tune) (tc : Rat) (q' : Phys) (hq : q' ≠ p) : (tuneRelay s p t tc).cr q' = s.cr q' := by
  simp [tuneRelay, hq]

@[simp] theorem tuneTick_cr_ne (s : State) (p : Phys) (tc : Option Rat) (q' : Phys) (hq : q' ≠ p) : (tuneTick s p tc).cr q' = s.cr q' := by
  unfold tuneTick
  try simp only []
  (repeat' split) <;> simp [hq]

@[simp] theorem putRequest_cr_ne (s : State) (p : Phys) (j : Out) (x : Rat) (q' : Phys) (hq : q' ≠ p) : (putRequest s p j x).cr q' = s.cr q' := by
  simp [putRequest, hq]

@[simp] theorem antiWindup_cr_ne (s : State) (p : Phys) (cool : Bool) (held : Bool) (before : Rat) (e : Option Rat) (q' : Phys) (hq : q' ≠ p) : (antiWindup s p cool held before e).1.cr q' = s.cr q' := by
  unfold antiWindup
  try simp only []
  (repeat' split) <;> simp [hq]

@[simp] theorem lossTick_cr_ne (s : State) (p : Phys) (q' : Phys) (hq : q' ≠ p) : (lossTick s p).cr q' = s.cr q' := by
  simp [lossTick, hq]

@[simp] theorem lossOver_cr_ne (s : State) (p : Phys) (eH : Option Rat) (eC : Option Rat) (q' : Phys) (hq : q' ≠ p) : (lossOver s p eH eC).cr q' = s.cr q' := by
  unfold lossOver
  try simp only []
  (repeat' split) <;> simp [hq]

@[simp] theorem cascade_cr_ne (s : State) (p : Phys) (tc : Rat) (dH : Rat) (dC : Rat) (q' : Phys) (hq : q' ≠ p) : (cascade s p tc dH dC).1.cr q' = s.cr q' := by
  unfold cascade
  try simp only []
  (repeat' split) <;> simp [hq]

@[simp] theorem takeImplied_cr_ne (s : State) (p : Phys) (eH : Option Rat) (eC : Option Rat) (q' : Phys) (hq : q' ≠ p) : (takeImplied s p eH eC).cr q' = s.cr q' := by
  unfold takeImplied
  try simp only []
  (repeat' split) <;> simp [hq]

@[simp] theorem demands_cr_ne (s : State) (p : Phys) (tc : Option Rat) (q' : Phys) (hq : q' ≠ p) : (demands s p tc).1.cr q' = s.cr q' := by
  unfold demands
  try simp only []
  (repeat' split) <;> simp [hq]

@[simp] theorem protFlag_cr_ne (s : State) (p : Phys) (x : Fld) (b : Bool) (q' : Phys) (hq : q' ≠ p) : (protFlag s p x b).cr q' = s.cr q' := by
  simp [protFlag, hq]

@[simp] theorem ceilingPulses_cr_ne (s : State) (p : Phys) (cH : Rat) (cC : Rat) (q' : Phys) (hq : q' ≠ p) : (ceilingPulses s p cH cC).cr q' = s.cr q' := by
  simp [ceilingPulses, hq]

@[simp] theorem sequence_cr_ne (s : State) (p : Phys) (dH : Rat) (dC : Rat) (raw : Rat × Rat) (ceil : Rat × Rat) (q' : Phys) (hq : q' ≠ p) : (sequence s p dH dC raw ceil).1.cr q' = s.cr q' := by
  simp [sequence, cr_foldl, hq]

@[simp] theorem recordTick_cr_ne (s : State) (p : Phys) (tc : Option Rat) (dH : Rat) (dC : Rat) (q' : Phys) (hq : q' ≠ p) : (recordTick s p tc dH dC).cr q' = s.cr q' := by
  simp [recordTick, hq]

@[simp] theorem showModel_cr_ne (s : State) (p : Phys) (cool : Bool) (q' : Phys) (hq : q' ≠ p) : (showModel s p cool).cr q' = s.cr q' := by
  simp [showModel, hq]

@[simp] theorem publishModel_cr_ne (s : State) (p : Phys) (cool : Bool) (q' : Phys) (hq : q' ≠ p) : (publishModel s p cool).cr q' = s.cr q' := by
  unfold publishModel
  try simp only []
  (repeat' split) <;> simp [hq]

@[simp] theorem modelSide_cr_ne (s : State) (p : Phys) (cool : Bool) (tOut : Rat) (pres : Bool) (bad : Bool) (q' : Phys) (hq : q' ≠ p) : (modelSide s p cool tOut pres bad).cr q' = s.cr q' := by
  unfold modelSide
  try simp only []
  (repeat' split) <;> simp [hq]

@[simp] theorem modelStep_cr_ne (s : State) (p : Phys) (q' : Phys) (hq : q' ≠ p) : (modelStep s p).cr q' = s.cr q' := by
  simp [modelStep, hq]

@[simp] theorem resumeLoops_cr_ne (s : State) (p : Phys) (elapsed : Option Nat) (q' : Phys) (hq : q' ≠ p) : (resumeLoops s p elapsed).cr q' = s.cr q' := by
  unfold resumeLoops
  try simp only []
  (repeat' split) <;> simp [hq]

end Sys2Proof.Machine
end

