-- ==== Sys2Proof/Laws/OtherZoneCmds.lean ====
section
/-! SUPPORT. What the operations of Machine/ZoneCmds.lean leave of slices that they are not about (Laws/Other.lean). -/
namespace Sys2Proof.Machine

@[simp] theorem doneZone_cr (s : State) (x : Exec) (z : Zone) (value : Word) (q' : Phys)  : (doneZone s x z value).cr q' = s.cr q' := by
  simp [doneZone]

@[simp] theorem ckptSoon_cr_ne (s : State) (p : Phys) (q' : Phys) (hq : q' ≠ p) : (ckptSoon s p).cr q' = s.cr q' := by
  simp [ckptSoon, hq]

@[simp] theorem takeImages_cr_ne (s : State) (p : Phys) (x : Exec) (q' : Phys) (hq : q' ≠ p) : (takeImages s p x).cr q' = s.cr q' := by
  simp [takeImages, hq]

@[simp] theorem noteCal_cr_ne (s : State) (p : Phys) (x : Exec) (q' : Phys) (hq : q' ≠ p) : (noteCal s p x).cr q' = s.cr q' := by
  simp [noteCal, hq]

@[simp] theorem noteHeatCfg_cr_ne (s0 : State) (p : Phys) (x : Exec) (q' : Phys) (hq : q' ≠ p) : (noteHeatCfg s0 p x).cr q' = s0.cr q' := by
  simp [noteHeatCfg, hq]

@[simp] theorem newInputs_cr_ne (s : State) (p : Phys) (x : Exec) (q' : Phys) (hq : q' ≠ p) : (newInputs s p x).cr q' = s.cr q' := by
  simp [newInputs, cr_foldl, hq]

@[simp] theorem redriveOutputs_cr_ne (s : State) (p : Phys) (q' : Phys) (hq : q' ≠ p) : (redriveOutputs s p).cr q' = s.cr q' := by
  simp [redriveOutputs, cr_foldl, hq]

theorem configEffect_cr_ne (s : State) (p : Phys) (x : Exec) (t : State) (h : configEffect s p x = some t) (q' : Phys)
    (hq : q' ≠ p) : t.cr q' = s.cr q' := by
  unfold configEffect at h
  split at h <;> simp at h <;> subst h <;> simp [hq]

@[simp] theorem takePulse_cr_ne (s : State) (p : Phys) (z : Zone) (x : Exec) (q' : Phys) (hq : q' ≠ p) : (takePulse s p z x).cr q' = s.cr q' := by
  simp [takePulse, hq]

@[simp] theorem takeTune_cr_ne (s : State) (p : Phys) (x : Exec) (q' : Phys) (hq : q' ≠ p) : (takeTune s p x).cr q' = s.cr q' := by
  simp [takeTune, hq]

@[simp] theorem takeAbort_cr_ne (s : State) (p : Phys) (z : Zone) (x : Exec) (q' : Phys) (hq : q' ≠ p) : (takeAbort s p z x).cr q' = s.cr q' := by
  simp [takeAbort, hq]

@[simp] theorem takeDemandReset_cr_ne (s : State) (p : Phys) (z : Zone) (x : Exec) (q' : Phys) (hq : q' ≠ p) : (takeDemandReset s p z x).cr q' = s.cr q' := by
  simp [takeDemandReset, hq]

@[simp] theorem clearDemand_cr_ne (s : State) (p : Phys) (q' : Phys) (hq : q' ≠ p) : (clearDemand s p).cr q' = s.cr q' := by
  simp [clearDemand, hq]

@[simp] theorem takeCapture_cr_ne (s : State) (p : Phys) (z : Zone) (x : Exec) (q' : Phys) (hq : q' ≠ p) : (takeCapture s p z x).cr q' = s.cr q' := by
  simp [takeCapture, hq]

@[simp] theorem State.onCensus_cr (s : State) (lseq : Nat) (f : Census → Census) (q' : Phys)  : (State.onCensus s lseq f).cr q' = s.cr q' := by
  simp [State.onCensus]

@[simp] theorem takeTick_cr_ne (s : State) (p : Phys) (z : Zone) (x : Exec) (q' : Phys) (hq : q' ≠ p) : (takeTick s p z x).cr q' = s.cr q' := by
  unfold takeTick
  try simp only []
  (repeat' split) <;> simp [hq]

@[simp] theorem takeNew_cr_ne (s : State) (p : Phys) (z : Zone) (x : Exec) (q' : Phys) (hq : q' ≠ p) : (takeNew s p z x).cr q' = s.cr q' := by
  unfold takeNew
  split
  next t h => simp [configEffect_cr_ne s p x t h q' hq, hq]
  next => split <;> (try split) <;> simp [hq]

@[simp] theorem takeAgain_cr_ne (s : State) (p : Phys) (x : Exec) (q' : Phys) (hq : q' ≠ p) : (takeAgain s p x).cr q' = s.cr q' := by
  unfold takeAgain
  split
  next t h => simp [configEffect_cr_ne s p x t h q' hq]
  next => split <;> (try split) <;> simp [hq]

@[simp] theorem raiseTaken_cr_ne (s : State) (p : Phys) (lseq : Nat) (q' : Phys) (hq : q' ≠ p) : (raiseTaken s p lseq).cr q' = s.cr q' := by
  simp [raiseTaken, hq]

@[simp] theorem takeOne_cr_ne (s : State) (p : Phys) (z : Zone) (x : Exec) (q' : Phys) (hq : q' ≠ p) : (takeOne s p z x).cr q' = s.cr q' := by
  unfold takeOne
  try simp only []
  (repeat' split) <;> simp [hq]

@[simp] theorem takeList_cr_ne (s : State) (p : Phys) (z : Zone) (upTo : Option Nat) (l : List Exec) (q' : Phys)
    (hq : q' ≠ p) : (takeList s p z upTo l).cr q' = s.cr q' := by
  induction l generalizing s with
  | nil => rfl
  | cons x l ih => unfold takeList; (repeat' split) <;> simp [ih, hq]

@[simp] theorem restoreMode_cr_ne (s : State) (p : Phys) (k : ModeKeep) (q' : Phys) (hq : q' ≠ p) : (restoreMode s p k).cr q' = s.cr q' := by
  simp [restoreMode, hq]

@[simp] theorem restoreModes_cr_ne (s : State) (p : Phys) (q' : Phys) (hq : q' ≠ p) : (restoreModes s p).cr q' = s.cr q' := by
  unfold restoreModes
  try simp only []
  refine (cr_foldl _ q' (fun s a => ?_) _ _).trans ?_ <;> (repeat' split) <;> simp [hq]

@[simp] theorem showCensus_cr (s : State) (c : Census) (mixed : Bool) (rollback : Bool) (q' : Phys)  : (showCensus s c mixed rollback).cr q' = s.cr q' := by
  simp [showCensus]

@[simp] theorem endCensus_cr (s : State) (lseq : Nat) (q' : Phys)  : (endCensus s lseq).cr q' = s.cr q' := by
  simp [endCensus]

@[simp] theorem finalCensus_cr (s : State) (lseq : Nat) (q' : Phys)  : (finalCensus s lseq).cr q' = s.cr q' := by
  unfold finalCensus
  try simp only []
  (repeat' split) <;> simp [cr_foldl]

end Sys2Proof.Machine
end

