-- ==== Sys2Proof/Laws/Store.lean ====
section
/-! SUPPORT. The laws of the sparse stores and of the register files over them: a read after a write, at the same key and at
another, and the canonical form kept. -/
namespace Sys2Proof.Machine

/-! ### Sparse stores -/

@[simp] theorem smFind_put {α : Type} (m : SMap α) (k : Nat) (a : α) : smFind (smPut m k a) k = some a := by
  induction m with
  | nil => simp [smPut, smFind]
  | cons c m ih =>
    obtain ⟨j, b⟩ := c
    unfold smPut
    split
    · simp [smFind]
    · split
      · simp [smFind]
      · rename_i h _
        simp [smFind, h, ih]

theorem smFind_put_ne {α : Type} (m : SMap α) (k j : Nat) (a : α) (h : k ≠ j) : smFind (smPut m k a) j = smFind m j := by
  induction m with
  | nil => simp [smPut, smFind, Ne.symm h]
  | cons c m ih =>
    obtain ⟨i, b⟩ := c
    unfold smPut
    split
    · rename_i h1
      subst h1
      simp [smFind, Ne.symm h]
    · split
      · simp [smFind, Ne.symm h]
      · simp [smFind, ih]

@[simp] theorem smFind_erase {α : Type} (m : SMap α) (k : Nat) : smFind (smErase m k) k = none := by
  induction m with
  | nil => rfl
  | cons c m ih =>
    obtain ⟨j, b⟩ := c
    unfold smErase
    split
    · exact ih
    · rename_i h
      simp [smFind, h, ih]

theorem smFind_erase_ne {α : Type} (m : SMap α) (k j : Nat) (h : k ≠ j) : smFind (smErase m k) j = smFind m j := by
  induction m with
  | nil => rfl
  | cons c m ih =>
    obtain ⟨i, b⟩ := c
    unfold smErase
    split
    · rename_i h1
      subst h1
      simp [smFind, Ne.symm h, ih]
    · simp [smFind, ih]

theorem smAbove_mono {α : Type} (m : SMap α) (lo hi : Nat) (h : lo ≤ hi) (hm : smAbove hi m = true) : smAbove lo m = true := by
  cases m with
  | nil => rfl
  | cons c m =>
    obtain ⟨j, b⟩ := c
    simp only [smAbove, Bool.and_eq_true, decide_eq_true_eq] at *
    exact ⟨by omega, hm.2⟩

theorem smAbove_put {α : Type} (m : SMap α) (lo k : Nat) (a : α) (h : lo < k) (hm : smAbove lo m = true) :
    smAbove lo (smPut m k a) = true := by
  induction m generalizing lo with
  | nil => simp [smPut, smAbove, h]
  | cons c m ih =>
    obtain ⟨j, b⟩ := c
    simp only [smAbove, Bool.and_eq_true, decide_eq_true_eq] at hm
    unfold smPut
    split
    · rename_i h1
      subst h1
      simp [smAbove, h, hm.2]
    · split
      · rename_i h1 h2
        simp [smAbove, h, h2, hm.2]
      · rename_i h1 h2
        simp [smAbove, hm.1, ih j (by omega) hm.2]

theorem smAbove_erase {α : Type} (m : SMap α) (lo k : Nat) (hm : smAbove lo m = true) : smAbove lo (smErase m k) = true := by
  induction m generalizing lo with
  | nil => rfl
  | cons c m ih =>
    obtain ⟨j, b⟩ := c
    simp only [smAbove, Bool.and_eq_true, decide_eq_true_eq] at hm
    unfold smErase
    split
    · exact ih lo (smAbove_mono m lo j (by omega) hm.2)
    · simp [smAbove, hm.1, ih j hm.2]

/-- A write keeps the canonical form. -/
theorem smWf_put {α : Type} (m : SMap α) (k : Nat) (a : α) (hm : smWf m = true) : smWf (smPut m k a) = true := by
  cases m with
  | nil => rfl
  | cons c m =>
    obtain ⟨j, b⟩ := c
    simp only [smWf] at hm
    unfold smPut
    split
    · rename_i h1
      subst h1
      exact hm
    · split
      · rename_i h1 h2
        simp [smWf, smAbove, h2, hm]
      · rename_i h1 h2
        exact smAbove_put m j k a (by omega) hm

/-- An erasure keeps the canonical form. -/
theorem smWf_erase {α : Type} (m : SMap α) (k : Nat) (hm : smWf m = true) : smWf (smErase m k) = true := by
  induction m with
  | nil => rfl
  | cons c m ih =>
    obtain ⟨j, b⟩ := c
    simp only [smWf] at hm
    unfold smErase
    split
    · refine ih ?_
      cases m with
      | nil => rfl
      | cons d m =>
        simp only [smAbove, Bool.and_eq_true] at hm
        exact hm.2
    · exact smAbove_erase m j k hm

/-! ### Register files -/

@[simp] theorem rfGet_put (f : RegFile) (a : Nat) (w : Word) : rfGet (rfPut f a w) a = w := by
  unfold rfPut
  by_cases h : w = regReset a
  · simp [h, rfGet]
  · simp [h, rfGet]

theorem rfGet_put_ne (f : RegFile) (a b : Nat) (w : Word) (h : a ≠ b) : rfGet (rfPut f a w) b = rfGet f b := by
  unfold rfPut
  by_cases h1 : w = regReset a
  · simp only [h1, if_true, rfGet, smFind_erase_ne f a b h]
  · simp only [h1, if_false, rfGet, smFind_put_ne f a b w h]

/-- A register write keeps the canonical form: rising addresses. -/
theorem rfPut_wf (f : RegFile) (a : Nat) (w : Word) (h : smWf f = true) : smWf (rfPut f a w) = true := by
  unfold rfPut
  split
  · exact smWf_erase f a h
  · exact smWf_put f a w h

theorem all_put {α : Type} (q : Nat → α → Bool) (m : SMap α) (k : Nat) (a : α) (ha : q k a = true)
    (h : m.all (fun c => q c.1 c.2) = true) : (smPut m k a).all (fun c => q c.1 c.2) = true := by
  induction m with
  | nil => simp [smPut, ha]
  | cons c m ih =>
    obtain ⟨j, b⟩ := c
    simp only [List.all_cons, Bool.and_eq_true] at h
    unfold smPut
    split
    · simp [ha, h.2]
    · split
      · simp [ha, h.1, h.2]
      · simp only [List.all_cons, Bool.and_eq_true]
        exact ⟨h.1, ih h.2⟩

theorem all_erase {α : Type} (q : Nat → α → Bool) (m : SMap α) (k : Nat) (h : m.all (fun c => q c.1 c.2) = true) :
    (smErase m k).all (fun c => q c.1 c.2) = true := by
  induction m with
  | nil => rfl
  | cons c m ih =>
    obtain ⟨j, b⟩ := c
    simp only [List.all_cons, Bool.and_eq_true] at h
    unfold smErase
    split
    · exact ih h.2
    · simp only [List.all_cons, Bool.and_eq_true]
      exact ⟨h.1, ih h.2⟩

/-- A register write keeps the whole canonical form: rising addresses, no word at its reset value. -/
theorem rfWf_put (f : RegFile) (a : Nat) (w : Word) (h : rfWf f = true) : rfWf (rfPut f a w) = true := by
  unfold rfWf at *
  simp only [Bool.and_eq_true] at h ⊢
  refine ⟨rfPut_wf f a w h.1, ?_⟩
  unfold rfPut
  split
  · exact all_erase (fun k c => c != regReset k) f a h.2
  · rename_i h1
    exact all_put (fun k c => c != regReset k) f a w (by simp [h1]) h.2

/-- The registers at reset are in canonical form. -/
theorem reset_regs_wf : rfWf State.reset.regs = true := rfl

end Sys2Proof.Machine
end

