-- ==== Sys2Proof/Laws/State.lean ====
section
/-! SUPPORT. The fields of State after the base operations on slices, zones, registers and headers: no later proof unfolds a
record update. -/
namespace Sys2Proof.Machine

@[simp] theorem setSl_regs (s : State) (p : Phys) (x : Slice) : (s.setSl p x).regs = s.regs := rfl
@[simp] theorem setSl_hdrs (s : State) (p : Phys) (x : Slice) : (s.setSl p x).hdrs = s.hdrs := rfl
@[simp] theorem setSl_time (s : State) (p : Phys) (x : Slice) : (s.setSl p x).time = s.time := rfl
@[simp] theorem setSl_journal (s : State) (p : Phys) (x : Slice) : (s.setSl p x).journal = s.journal := rfl
@[simp] theorem setSl_emitted (s : State) (p : Phys) (x : Slice) : (s.setSl p x).emitted = s.emitted := rfl
@[simp] theorem setSl_coll (s : State) (p : Phys) (x : Slice) : (s.setSl p x).coll = s.coll := rfl
@[simp] theorem setHdr_slices (s : State) (g : Nat) (h : Hdr) : (s.setHdr g h).slices = s.slices := rfl
@[simp] theorem setHdr_regs (s : State) (g : Nat) (h : Hdr) : (s.setHdr g h).regs = s.regs := rfl
@[simp] theorem setHdr_journal (s : State) (g : Nat) (h : Hdr) : (s.setHdr g h).journal = s.journal := rfl
@[simp] theorem setHdr_time (s : State) (g : Nat) (h : Hdr) : (s.setHdr g h).time = s.time := rfl
@[simp] theorem setHdr_coll (s : State) (g : Nat) (h : Hdr) : (s.setHdr g h).coll = s.coll := rfl
@[simp] theorem setHdr_emitted (s : State) (g : Nat) (h : Hdr) : (s.setHdr g h).emitted = s.emitted := rfl
@[simp] theorem emit_emitted (s : State) (e : Emit) : (s.emit e).emitted = s.emitted ++ [e] := rfl
@[simp] theorem emit_slices (s : State) (e : Emit) : (s.emit e).slices = s.slices := rfl
@[simp] theorem emit_regs (s : State) (e : Emit) : (s.emit e).regs = s.regs := rfl
@[simp] theorem emit_hdrs (s : State) (e : Emit) : (s.emit e).hdrs = s.hdrs := rfl

/-- A slice after its replacement. -/
@[simp] theorem sl_setSl_same (s : State) (p : Phys) (x : Slice) : (s.setSl p x).sl p = x := by
  simp [State.sl, State.setSl]

/-- Another slice after a replacement. -/
theorem sl_setSl_ne (s : State) (p q : Phys) (x : Slice) (h : q ≠ p) : (s.setSl p x).sl q = s.sl q := by
  have h1 : p.val ≠ q.val := fun e => h (Fin.ext e.symm)
  simp [State.sl, State.setSl, Vector.getElem_set, h1]

@[simp] theorem sl_onSl (s : State) (p : Phys) (f : Slice → Slice) : (s.onSl p f).sl p = f (s.sl p) := by
  simp [State.onSl]

@[simp] theorem z_onZ (s : State) (p : Phys) (f : ZoneState → ZoneState) : (s.onZ p f).z p = f (s.z p) := by
  simp [State.z, State.onZ]

@[simp] theorem z_onR (s : State) (p : Phys) (f : RegFile → RegFile) : ((s.onR p f).z p).regs = f (s.z p).regs := by
  simp [State.onR]

/-- A register of a slice read after it is written. -/
@[simp] theorem wWord_same (s : State) (p : Phys) (r : Reg) (v : Word) (i : Nat) :
    rfGet ((s.wWord p r v i).z p).regs (r.at i) = v := by
  simp [State.wWord, RegFile.putWord]

/-- Another register of the slice after a write. -/
theorem wWord_ne (s : State) (p : Phys) (r : Reg) (v : Word) (i a : Nat) (h : r.at i ≠ a) :
    rfGet ((s.wWord p r v i).z p).regs a = rfGet (s.z p).regs a := by
  simp [State.wWord, RegFile.putWord, rfGet_put_ne _ _ _ _ h]

/-- A porch register read after it is written. -/
@[simp] theorem pwWord_same (s : State) (r : Reg) (v : Word) (i : Nat) : rfGet (s.pwWord r v i).regs (r.at i) = v := by
  simp [State.pwWord, RegFile.putWord]

/-- A header read after it is replaced. -/
@[simp] theorem hdr_setHdr (s : State) (g : Nat) (h : Hdr) : (s.setHdr g h).hdr g = h := by
  simp [State.hdr, State.setHdr]

/-- Another page's header after a replacement. -/
theorem hdr_setHdr_ne (s : State) (g j : Nat) (h : Hdr) (hj : g ≠ j) : (s.setHdr g h).hdr j = s.hdr j := by
  simp [State.hdr, State.setHdr, smFind_put_ne _ _ _ _ hj]

@[simp] theorem hdr_emit (s : State) (e : Emit) (g : Nat) : (s.emit e).hdr g = s.hdr g := rfl

end Sys2Proof.Machine
end

