-- ==== Sys2Proof/WellFormed.lean ====
section
/-! DEFINITION. Well-formed commands: the ranges the manual gives what a command carries. Every command has a meaning in
every state, ill-formed or not; the checks say which operands the world outside can bring. -/
namespace Sys2Proof

/-- An execution carries an accepted envelope (R322, R337): a payload of at most 1,020 bytes, an LSEQ of 32 bits. -/
def Exec.wf (x : Exec) : Bool := decide (x.payload.length ≤ 1020) && decide (x.lseq < 2 ^ 32)

/-- A bus frame carries at most 32 bytes (R417). -/
def BusFrame.wf (f : BusFrame) : Bool := decide (f.data.length ≤ 32)

/-- The stuffed part of a frame has at most 324 levels and a stuff bit for every four of them (R417, R418). -/
def wireWf (bits : List Bool) : Bool := decide (bits.length ≤ 405)

/-- An envelope on the host link or the SPI fallback has at most 1,040 bytes (R395). -/
def envelopeWf (b : Envelope) : Bool := decide (b.bytes.length ≤ 1040)

/-- The decisions of one conversion lie within the 16-bit span and the dither of −256 … +255 LSB16 that the redundant ones
absorb (R114, R133). -/
def ConvData.wf (d : ConvData) : Bool :=
  decide (-33024 ≤ d.rawA ∧ d.rawA ≤ 33022) && decide (-33024 ≤ d.rawB ∧ d.rawB ≤ 33022)

/-- Whether the operands of a command lie in the ranges the manual gives them. -/
def Instr.wf : Instr → Bool
  -- executions of opcodes
  | .zoneInputsConfiguration x | .zoneMode x | .zoneSetpoints x | .loopConfiguration x | .actuatorMap x
  | .manualOutputLevels x | .outputConfiguration x | .panelConfiguration x | .relayPulse x
  | .electricalConfiguration x | .electricalCalibration x | .heatAndFlowConfiguration x | .autotuneStart x
  | .autotuneAbort x | .timeZoneRule x | .weeklyEvents x | .exceptionDates x | .tariffBands x | .policyConfiguration x
  | .occupancyLearnerReset x | .intervalLength x | .recordAcknowledge x | .demandReset x | .waveformCapture x
  | .setHouseTime x _ | .adjustHouseTime x | .hourShift x | .timeSource x | .rateTrim x | .powerStateRequest x
  | .migrateZone x _ | .sliceSelfTest x _ | .hallwayCalibration x _ | .sliceMapChange x _ _ | .repairPolicy x
  | .mramBankReturn x _ _ | .moduleState x | .sourceRelease x | .journalConfiguration x | .busPortConfiguration x
  | .moduleReset x | .builtInTest x _ _ | .testError x => x.wf
  | .noOperation _ _ _ payload => decide (payload.length ≤ 1020)
  -- bursts (R395, R406)
  | .linkRead _ _ _ n => decide (1 ≤ n ∧ n ≤ 64)
  | .linkWrite _ _ _ data => decide (1 ≤ data.length ∧ data.length ≤ 64)
  | .spiRead _ n => decide (1 ≤ n ∧ n ≤ 16)
  | .spiWrite _ data => decide (1 ≤ data.length ∧ data.length ≤ 16)
  | .linkCommand _ _ b => envelopeWf b
  | .spiCommand b => envelopeWf b
  -- frames (R417)
  | .busCommandSegment _ b | .hostFrame _ b _ | .outdoor _ b | .sync _ b _ | .followUp _ b | .delayReq _ b _
  | .delayResp _ b | .otherFrameReceived _ b => wireWf b
  -- measured values
  | .conversionComplete _ _ d => d.wf
  | .humidityUpdate _ cap leak => decide (cap < 2 ^ 16) && decide (leak < 2 ^ 16)
  | .learnerUpdate _ _ active total => decide (active ≤ total)
  | .cellMeasure mv => decide (mv < 2 ^ 12)
  | _ => true

end Sys2Proof
end

