-- ==== Sys2Proof/Tests/Slice0.lean ====
section
/-! SUPPORT. This model's own tests: for every statement with hypotheses a state and operands that meet them, clause by clause;
an ill-formed command for every check of WellFormed; values the manual works out. -/
namespace Sys2Proof.Tests
open Sys2Proof Sys2Proof.Machine Host
set_option Elab.async false

/-! ### States and commands the witnesses use -/

/-- Slice 0 running, changed by a function. -/
def sliceUp (f : Slice → Slice) : State :=
  State.reset.onSl 0 (fun x => f { x with running := true, power := .on, clamped := false })
/-- Slice 0 running as at reset. -/
def w0 : State := sliceUp id
/-- `w0` with a module state. -/
def wm (n : Nat) : State := { w0 with modst := { w0.modst with state := n } }
/-- The row of a register. -/
def rowOf (a : Nat) : RegDef := (regAt a).getD ⟨0, 0, 0, 0, 0, 0, 0, 0⟩
/-- Slice 0 running, its zone changed by a function. -/
def zoneUp (f : ZoneState → ZoneState) : State := sliceUp (fun x => { x with z := f x.z })

/-- A command of zone 0. -/
def zoneCmd (op : BitVec 16) (payload : List Byte) : Exec := ⟨9, 0x1234, 5, op, 1, payload⟩
/-- A command that names no zone. -/
def porchCmd (op : BitVec 16) (payload : List Byte) : Exec := ⟨9, 0x1234, 5, op, 0, payload⟩
/-- A command accepted and handed to slice 0. -/
def handed (s : State) (x : Exec) : State :=
  (s.onSl 0 (fun y => { y with inbox := [x] })).onJ (fun j => { j with running := [{ x := x, path := some .spi }] })
/-- A command accepted and next in the porch's queue. -/
def queued (s : State) (x : Exec) : State :=
  s.onJ (fun j => { j with porchQ := [x], running := [{ x := x, path := some .spi }] })
/-- The test of `aboutToTake`. -/
def aboutB (s : State) (x : Exec) (z : Zone) (p : Phys) : Bool :=
  x.zones == [z] && p == s.sliceOf z && s.zoneOf p == some z && (s.sl p).running
    && (match (s.sl p).inbox with
        | y :: rest => y == x && rest.all (fun y => decide (x.lseq < y.lseq))
        | [] => false)
    && (match s.runningOf x.lseq with
        | some r => r.x == x && !r.internal
        | none => false)
    && (markersOf s x.lseq).isEmpty && s.journal.handover.isEmpty && !isTickForm x
    && (match (s.lp p).tune with
        | some u => u.lseq != x.lseq
        | none => true)
/-- `aboutB` is sound. -/
theorem aboutB_sound (s : State) (x : Exec) (z : Zone) (p : Phys) (h : aboutB s x z p = true) : aboutToTake s x z p := by
  simp only [aboutB, Bool.and_eq_true, beq_iff_eq, List.isEmpty_iff, Bool.not_eq_true'] at h
  obtain ⟨⟨⟨⟨⟨⟨⟨⟨⟨a, b⟩, c⟩, d⟩, e⟩, f⟩, g⟩, i⟩, j⟩, k⟩ := h
  refine ⟨a, b, c, d, ?_, ?_, g, i, j, ?_⟩
  · split at e
    · rename_i y rest hy
      simp only [Bool.and_eq_true, beq_iff_eq, List.all_eq_true, decide_eq_true_eq] at e
      exact ⟨rest, by rw [hy, e.1], e.2⟩
    · cases e
  · split at f
    · rename_i r hr
      simp only [Bool.and_eq_true, beq_iff_eq, Bool.not_eq_true'] at f
      exact ⟨r, hr, f.1, f.2⟩
    · cases f
  · intro u hu
    rw [hu] at k
    simpa using k
/-- The test of `porchReady`. -/
def readyB (s : State) (x : Exec) : Bool :=
  s.porchRuns
    && (match s.journal.porchQ with
        | y :: rest => y == x && rest.all (fun y => y.lseq != x.lseq)
        | [] => false)
    && (match s.runningOf x.lseq with
        | some r => r.x == x && !r.internal
        | none => false)
    && (markersOf s x.lseq).isEmpty
/-- `readyB` is sound. -/
theorem readyB_sound (s : State) (x : Exec) (h : readyB s x = true) : porchReady s x := by
  simp only [readyB, Bool.and_eq_true, List.isEmpty_iff] at h
  obtain ⟨⟨⟨a, e⟩, f⟩, g⟩ := h
  refine ⟨a, ?_, ?_, g⟩
  · split at e
    · rename_i y rest hy
      simp only [Bool.and_eq_true, beq_iff_eq, List.all_eq_true, bne_iff_ne] at e
      exact ⟨rest, by rw [hy, e.1], e.2⟩
    · cases e
  · split at f
    · rename_i r hr
      simp only [Bool.and_eq_true, beq_iff_eq, Bool.not_eq_true'] at f
      exact ⟨r, hr, f.1, f.2⟩
    · cases f

/-- A handshake with a block's answer awaited. -/
def asking (s : State) (b : Block) (delays : Nat := 0) : State :=
  s.onLd (fun l => { l with entry := some { target := 2, wakeAfter := 30, lseq := 9, asking := [b], delays := delays } })
/-- A larder marker of zone 0 for head 9. -/
def markItem (final : Bool) : LdItem := ⟨0x1234, .mark 5 0x0103 9 0 false final 0x30 2 7⟩

/-- A state in COMMISSION. -/
def inCommission (s : State) : State := { s with modst := { s.modst with state := 1 } }

/-- The test of `passes`. -/
def passB (s : State) (b : List Byte) (x : Exec) : Bool :=
  envelopeOk b && decide (20 ≤ b.length ∧ b.length ≤ 1040) && x == carried s b && !s.journal.replay && !s.journal.takeover
    && decide (x.source ≠ 0 ∧ x.source ≠ 0xFFFF ∧ x.seq ≠ 0)
    && (match opRow x.opcode.toNat with
        | some r => lengthOk r.code x.len && maskOk r.rule x.zmask && stateOk s r x && locksOk s r x
        | none => false)
    && contentOk s x && slicesOk s x && conflictFree s x && (bookEntry s x.source x.seq.toNat).isNone
    && (hwmOf s x.source).isNone && ((slotOf s x.source).isSome || (freeSlotNo s).isSome) && larderRoom s x.len
    && bookRoom s && (s.runningOf s.journal.next).isNone
/-- `passB` is sound. -/
theorem passB_sound (s : State) (b : List Byte) (x : Exec) (h : passB s b x = true) : passes s b x := by
  simp only [passB, Bool.and_eq_true, beq_iff_eq, Bool.not_eq_true', decide_eq_true_eq, Option.isNone_iff_eq_none,
    Bool.or_eq_true] at h
  obtain ⟨⟨⟨⟨⟨⟨⟨⟨⟨⟨⟨⟨⟨⟨⟨a, b⟩, c⟩, d⟩, e⟩, f⟩, g⟩, i⟩, j⟩, k⟩, l⟩, m⟩, n⟩, o⟩, p⟩, q⟩ := h
  refine ⟨a, b, c, ⟨d, e⟩, f, ?_, ⟨i, j, k⟩, ⟨l, ?_⟩, ⟨n, o, p⟩, q⟩
  · split at g
    · rename_i r hr
      simp only [Bool.and_eq_true] at g
      exact ⟨r, hr, g.1.1.1, g.1.1.2, g.1.2, g.2⟩
    · cases g
  · intro y hy
    rw [m] at hy
    cases hy
/-- The test of `acceptable`. -/
def acceptB (s : State) (b : List Byte) (x : Exec) : Bool :=
  passB s b x && decide (max 8 s.journal.ahead + commitMost s ≤ acceptLimit s ∧ s.draughtPages = 0)
/-- `acceptB` is sound. -/
theorem acceptB_sound (s : State) (b : List Byte) (x : Exec) (h : acceptB s b x = true) : acceptable s b x := by
  simp only [acceptB, Bool.and_eq_true, decide_eq_true_eq] at h
  exact ⟨passB_sound s b x h.1, h.2⟩
/-- Acceptance open. -/
def wOpen : State := w0.onJ (fun j => { j with replay := false, opened := true })
/-- The link of a state changed to UP. -/
def linkAt (s : State) (n : Nat) : State := s.onLk (fun k => { k with state := n, active := 0xF, width := 4 })
/-- An envelope of 0x7F00. -/
def nopBytes : List Byte := envelopeBytes 0x1234 7 0x7F00 0 [1, 2]
/-- Port A active. -/
def busAt (s : State) (n : Nat) : State := (s.onPort 0 (fun x => { x with state := n })).pw F.FB_CFG_NODE 5
/-- A frame for port A of node 5 from node 3. -/
def frameFor (kind : BitVec 8) (data : List Byte) : BusFrame := ⟨4, kind, 3, 5, false, data⟩

/-! ### The hypotheses of the statements are met, clause by clause

A hypothesis that ranges over every value of something stands here in a decidable form that implies it. -/

/-- The hypotheses of IdleStepIsOneTick are met. -/
theorem meets_IdleStepIsOneTick : (
  (let s : State := State.reset
   decide (s.pending = []) &&
   decide (s.porchRuns = true) &&
   decide (s.time.slew = 0) &&
   decide (0 ≤ s.fine + usFine + s.time.rate))) = true := by decide +kernel

/-- The hypotheses of ResetIsFactory are met. -/
theorem meets_ResetIsFactory : (
  (let p : Phys := 67
   decide (64 ≤ p.val)) &&
  (let p : Phys := 63
   decide (p.val < 64))) = true := by decide +kernel

/-- The hypotheses of TestPortInstructions are met. -/
theorem meets_TestPortInstructions : (
  (let s : State := State.reset
   decide (s.supply.powered = true))) = true := by decide +kernel

/-- The hypotheses of MisalignedAccess are met. -/
theorem meets_MisalignedAccess : (
  (let s : State := State.reset
   let addr : Word := 1
   decide (s.porchRuns = true) &&
   decide (addr.toNat % 4 ≠ 0)) &&
  (let s : State := State.reset
   let addr : Word := 0xFFFFFFFF
   decide (s.porchRuns = true) &&
   decide (addr.toNat % 4 ≠ 0))) = true := by decide +kernel

/-- The hypotheses of ReadClearsOnlyWhenOk are met. -/
theorem meets_ReadClearsOnlyWhenOk : (
  (let s : State := w0
   let a : Nat := 1
   decide (readStatus s a ≠ .ok)) &&
  (let s : State := w0
   let p : Phys := 0
   let sub : Nat := 5
   let z : Option Zone := none
   let addr : Word := BitVec.ofNat 32 (viewAddr (.phys 0) (R.ZH_STAT.at 0))
   let a : Nat := keyOf (.slice p sub z) (addr.toNat % 4096)
   let e : RegDef := rowOf (R.ZH_STAT.at 0)
   let d : State := endDoze s
   let b := 0
   decide (s.porchRuns = true) &&
   decide (readStatus d addr.toNat = .ok) &&
   decide (d.place addr.toNat = some (.slice p sub z)) &&
   decide (0x40 ≤ addr.toNat % 4096) &&
   decide (a ≠ R.ZE_CAP_DATA.at 0) &&
   decide (a ≠ R.ZK_EVT_LO.at 0) &&
   decide (isEntryB a = false) &&
   decide (regAt a = some e) &&
   decide (b ≠ a) &&
   decide (b ≠ a + 0x100)) &&
  (let s : State := w0
   let p : Phys := 0
   let sub : Nat := 5
   let z : Option Zone := none
   let addr : Word := BitVec.ofNat 32 (viewAddr (.phys 0) (R.ZH_STAT.at 0))
   let a : Nat := keyOf (.slice p sub z) (addr.toNat % 4096)
   let e : RegDef := rowOf (R.ZH_STAT.at 0)
   let d : State := endDoze s
   let q := 1
   decide (s.porchRuns = true) &&
   decide (readStatus d addr.toNat = .ok) &&
   decide (d.place addr.toNat = some (.slice p sub z)) &&
   decide (0x40 ≤ addr.toNat % 4096) &&
   decide (a ≠ R.ZE_CAP_DATA.at 0) &&
   decide (a ≠ R.ZK_EVT_LO.at 0) &&
   decide (isEntryB a = false) &&
   decide (regAt a = some e) &&
   decide (q ≠ p))) = true := by decide +kernel

/-- The hypotheses of RegisterWriteStores are met (part 1 of 2). -/
theorem meets_RegisterWriteStores_1 : (
  (let s : State := w0
   let p : Phys := 0
   let sub : Nat := 2
   let z : Option Zone := none
   let addr : Word := BitVec.ofNat 32 (viewAddr (.phys 0) (R.ZC_URG_CFG.at 0))
   let a : Nat := keyOf (.slice p sub z) (addr.toNat % 4096)
   let e : RegDef := rowOf (R.ZC_URG_CFG.at 0)
   let d : State := endDoze s
   let b := 0
   decide (s.porchRuns = true) &&
   decide (writeStatus d addr.toNat = .ok) &&
   decide (d.place addr.toNat = some (.slice p sub z)) &&
   decide (0x40 ≤ addr.toNat % 4096) &&
   decide (regAt a = some e) &&
   decide (a ∉ [R.ZI_CTRL.at 0, R.ZC_CTRL.at 0, R.ZE_CAP_CTRL.at 0, R.ZO_CTRL.at 0]) &&
   decide (isSeq3 a = false) &&
   decide (b ≠ a)) &&
  (let s : State := w0
   let p : Phys := 0
   let sub : Nat := 2
   let z : Option Zone := none
   let addr : Word := BitVec.ofNat 32 (viewAddr (.phys 0) (R.ZC_URG_CFG.at 0))
   let a : Nat := keyOf (.slice p sub z) (addr.toNat % 4096)
   let e : RegDef := rowOf (R.ZC_URG_CFG.at 0)
   let d : State := endDoze s
   let q := 1
   decide (s.porchRuns = true) &&
   decide (writeStatus d addr.toNat = .ok) &&
   decide (d.place addr.toNat = some (.slice p sub z)) &&
   decide (0x40 ≤ addr.toNat % 4096) &&
   decide (regAt a = some e) &&
   decide (a ∉ [R.ZI_CTRL.at 0, R.ZC_CTRL.at 0, R.ZE_CAP_CTRL.at 0, R.ZO_CTRL.at 0]) &&
   decide (isSeq3 a = false) &&
   decide (q ≠ p))) = true := by decide +kernel

/-- The hypotheses of RegisterWriteStores are met (part 2 of 2). -/
theorem meets_RegisterWriteStores_2 : (
  (let s : State := w0
   let page : Nat := 13
   let e : RegDef := rowOf (R.FB_TX_LEN.at 0)
   let addr : Word := BitVec.ofNat 32 (R.FB_TX_LEN.at 0)
   let d : State := endDoze s
   let b := 0
   decide (s.porchRuns = true) &&
   decide (writeStatus d addr.toNat = .ok) &&
   decide (d.place addr.toNat = some (.porch page)) &&
   decide (0x40 ≤ addr.toNat % 4096) &&
   decide (regAt addr.toNat = some e) &&
   decide (addr.toNat ∉ [R.HWY_CAL_SEL.at 0, R.PWR_LOG_SEL.at 0, R.PCH_EC_SEL.at 0, R.PCH_LD_SEL.at 0, R.PCH_GB_Q_SEQ.at 0,
     R.PCH_RS_WIN_SEQ.at 0, R.HL_CTRL.at 0, R.FB_CTRL.at 0, R.FB_CTRL.at 1, R.CLR_CTRL.at 0, R.CLR_TRUST.at 0]) &&
   decide (b ≠ addr.toNat))) = true := by decide +kernel

/-- The hypotheses of AcknowledgeMovesTheQueue are met. -/
theorem meets_AcknowledgeMovesTheQueue : (
  (let s : State := State.reset.onHdr 5 (fun y => { y with err := 0x12344001, queue := [⟨0x00014002, 1⟩] })
   let page : Page := 5
   let v : Word := 0x12344001
   let d : State := endDoze s
   let g : Nat := d.physPage page.toNat
   let e := ⟨0x00014002, 1⟩
   let q := []
   decide (s.porchRuns = true) &&
   decide (writeStatus d (hdrAddr page 0x18) = .ok) &&
   decide ((d.hdr g).err ≠ 0) &&
   decide (fieldOf v 15 0 = fieldOf (d.hdr g).err 15 0) &&
   decide (fieldOf v 31 16 = fieldOf (d.hdr g).err 31 16) &&
   decide ((d.hdr g).queue = e :: q)) &&
  (let s : State := State.reset.onHdr 5 (fun y => { y with err := 0x12344001 })
   let page : Page := 5
   let v : Word := 0x12344001
   let d : State := endDoze s
   let g : Nat := d.physPage page.toNat
   decide (s.porchRuns = true) &&
   decide (writeStatus d (hdrAddr page 0x18) = .ok) &&
   decide ((d.hdr g).err ≠ 0) &&
   decide (fieldOf v 15 0 = fieldOf (d.hdr g).err 15 0) &&
   decide (fieldOf v 31 16 = fieldOf (d.hdr g).err 31 16) &&
   decide ((d.hdr g).queue = [])) &&
  (let s : State := State.reset
   let page : Page := 5
   let v : Word := 0
   let d : State := endDoze s
   let g : Nat := d.physPage page.toNat
   decide (s.porchRuns = true) &&
   decide (writeStatus d (hdrAddr page 0x18) = .ok) &&
   decide ((d.hdr g).err = 0 ∨ v ≠ (d.hdr g).err)) &&
  (let s : State := State.reset.onHdr 5 (fun y => { y with err := 0x12344001, queue := [⟨0x00014002, 1⟩] })
   let page : Page := 5
   let v : Word := 0x12344002
   let d : State := endDoze s
   let g : Nat := d.physPage page.toNat
   decide (s.porchRuns = true) &&
   decide (writeStatus d (hdrAddr page 0x18) = .ok) &&
   decide ((d.hdr g).err = 0 ∨ v ≠ (d.hdr g).err))) = true := by decide +kernel

/-- The hypotheses of ErrorOrderOnAPage are met (part 1 of 2). -/
theorem meets_ErrorOrderOnAPage_1 : (
  (let h : Hdr := { err := 0x00008005 }
   decide (h.queue.length ≤ 4)) &&
  (let h : Hdr := {}
   let e : Word := 0
   decide (h.queue.length ≤ 4) &&
   decide (h.holds e = true)) &&
  (let h : Hdr := { err := 5, queue := [⟨7, 1⟩] }
   let e : Word := 7
   decide (h.queue.length ≤ 4) &&
   decide (h.holds e = true)) &&
  (let h : Hdr := {}
   let e : Word := 0x4001
   decide (h.queue.length ≤ 4) &&
   decide (h.holds e = false) &&
   decide (h.err = 0)) &&
  (let h : Hdr := { err := 0x8005 }
   let e : Word := 0x4002
   decide (h.queue.length ≤ 4) &&
   decide (h.holds e = false) &&
   decide (h.err ≠ 0) &&
   decide (h.queue.length < 4) &&
   decide (sevOf e ≤ sevOf h.err)) &&
  (let h : Hdr := { err := 0x8005 }
   let e : Word := 0xC001
   decide (h.queue.length ≤ 4) &&
   decide (h.holds e = false) &&
   decide (h.err ≠ 0) &&
   decide (h.queue.length < 4) &&
   decide (sevOf h.err < sevOf e)) &&
  (let h : Hdr := { err := 0x8005, queue := [⟨0x00014001, 1⟩, ⟨0x00024001, 2⟩, ⟨0x00038001, 3⟩, ⟨0x00041001, 4⟩] }
   let e : Word := 0x8006
   decide (h.queue.length ≤ 4) &&
   decide (h.holds e = false) &&
   decide (h.err ≠ 0) &&
   decide (h.queue.length = 4)) &&
  (let h : Hdr := { err := 0x8005, queue := [⟨0x00014001, 1⟩, ⟨0x00024001, 2⟩, ⟨0x00038001, 3⟩, ⟨0x00041001, 4⟩] }
   let e : Word := 0xC006
   decide (h.queue.length ≤ 4) &&
   decide (h.holds e = false) &&
   decide (h.err ≠ 0) &&
   decide (h.queue.length = 4))) = true := by decide +kernel

/-- The hypotheses of ErrorOrderOnAPage are met (part 2 of 2). -/
theorem meets_ErrorOrderOnAPage_2 : (
  (let h : Hdr := { err := 0x8005, queue := [⟨0x00014001, 1⟩, ⟨0x00024001, 2⟩, ⟨0x00038001, 3⟩, ⟨0x00041001, 4⟩] }
   let e : Word := 0x4002
   decide (h.queue.length ≤ 4) &&
   decide (h.holds e = false) &&
   decide (h.err ≠ 0) &&
   decide (h.queue.length = 4))) = true := by decide +kernel

/-- The hypotheses of LockKeys are met (part 1 of 4). -/
theorem meets_LockKeys_1 : (
  (let s : State := wm 1
   let page : Page := 5
   let key : BitVec 16 := 7
   let d : State := endDoze s
   let g : Nat := d.physPage page.toNat
   let h : Hdr := d.hdr g
   decide (s.porchRuns = true) &&
   decide (writeStatus d (hdrAddr page 0x20) = .ok) &&
   decide (h.lock = false ∨ key = 0) &&
   decide ((h.lock = true ∧ key ≠ 0x6D2E) ∨ (h.lock = false ∧ key ≠ 0)) &&
   decide ((h.sealOn = true ∧ (key ≠ 0x5EA1 ∨ (d.modst.state ≠ 1 ∧ d.modst.state ≠ 4))) ∨ (h.sealOn = false ∧ key ≠ 0)) &&
   decide (key ≠ 0x5A3C ∨ (d.modst.state ≠ 1 ∧ d.modst.state ≠ 3))) &&
  (let s : State := (w0).onHdr 5 (fun y => { y with lock := true })
   let page : Page := 5
   let key : BitVec 16 := 0
   let d : State := endDoze s
   let g : Nat := d.physPage page.toNat
   let h : Hdr := d.hdr g
   decide (s.porchRuns = true) &&
   decide (writeStatus d (hdrAddr page 0x20) = .ok) &&
   decide (h.lock = false ∨ key = 0)) &&
  (let s : State := (w0).onHdr 5 (fun y => { y with lock := true })
   let page : Page := 5
   let key : BitVec 16 := 7
   let d : State := endDoze s
   let g : Nat := d.physPage page.toNat
   let h : Hdr := d.hdr g
   decide (s.porchRuns = true) &&
   decide (writeStatus d (hdrAddr page 0x20) = .ok) &&
   decide (h.lock = true) &&
   decide (key ≠ 0) &&
   decide ((h.lock = true ∧ key ≠ 0x6D2E) ∨ (h.lock = false ∧ key ≠ 0))) &&
  (let s : State := (w0).onHdr 5 (fun y => { y with lock := true })
   let page : Page := 5
   let key : BitVec 16 := 0x6D2E
   let d : State := endDoze s
   let g : Nat := d.physPage page.toNat
   let h : Hdr := d.hdr g
   decide (s.porchRuns = true) &&
   decide (writeStatus d (hdrAddr page 0x20) = .ok) &&
   decide ((h.lock = true ∧ key = 0x6D2E) ∨ (h.lock = false ∧ key = 0)))) = true := by decide +kernel

/-- The hypotheses of LockKeys are met (part 2 of 4). -/
theorem meets_LockKeys_2 : (
  (let s : State := wm 1
   let page : Page := 5
   let key : BitVec 16 := 0
   let d : State := endDoze s
   let g : Nat := d.physPage page.toNat
   let h : Hdr := d.hdr g
   decide (s.porchRuns = true) &&
   decide (writeStatus d (hdrAddr page 0x20) = .ok) &&
   decide ((h.lock = true ∧ key = 0x6D2E) ∨ (h.lock = false ∧ key = 0)) &&
   decide (h.sealOn = false) &&
   decide (key = 0)) &&
  (let s : State := wm 1
   let page : Page := 5
   let key : BitVec 16 := 0x5EA1
   let d : State := endDoze s
   let g : Nat := d.physPage page.toNat
   let h : Hdr := d.hdr g
   decide (s.porchRuns = true) &&
   decide (writeStatus d (hdrAddr page 0x20) = .ok) &&
   decide (h.sealOn = false) &&
   decide (key = 0x5EA1) &&
   decide (d.modst.state = 1)) &&
  (let s : State := (w0).onHdr 5 (fun y => { y with sealOn := true })
   let page : Page := 5
   let key : BitVec 16 := 0
   let d : State := endDoze s
   let g : Nat := d.physPage page.toNat
   let h : Hdr := d.hdr g
   decide (s.porchRuns = true) &&
   decide (writeStatus d (hdrAddr page 0x20) = .ok) &&
   decide (h.sealOn = true) &&
   decide (key = 0)) &&
  (let s : State := w0
   let page : Page := 5
   let key : BitVec 16 := 0x5EA1
   let d : State := endDoze s
   let g : Nat := d.physPage page.toNat
   let h : Hdr := d.hdr g
   decide (s.porchRuns = true) &&
   decide (writeStatus d (hdrAddr page 0x20) = .ok) &&
   decide ((h.sealOn = false ∧ (key ≠ 0x5EA1 ∨ d.modst.state ≠ 1)) ∨ (h.sealOn = true ∧ key ≠ 0)))) = true := by decide +kernel

/-- The hypotheses of LockKeys are met (part 3 of 4). -/
theorem meets_LockKeys_3 : (
  (let s : State := wm 1
   let page : Page := 5
   let key : BitVec 16 := 0x6D2E
   let d : State := endDoze s
   let g : Nat := d.physPage page.toNat
   let h : Hdr := d.hdr g
   decide (s.porchRuns = true) &&
   decide (writeStatus d (hdrAddr page 0x20) = .ok) &&
   decide ((h.sealOn = false ∧ (key ≠ 0x5EA1 ∨ d.modst.state ≠ 1)) ∨ (h.sealOn = true ∧ key ≠ 0))) &&
  (let s : State := (wm 1).onHdr 5 (fun y => { y with sealOn := true })
   let page : Page := 5
   let key : BitVec 16 := 0x5EA1
   let d : State := endDoze s
   let g : Nat := d.physPage page.toNat
   let h : Hdr := d.hdr g
   decide (s.porchRuns = true) &&
   decide (writeStatus d (hdrAddr page 0x20) = .ok) &&
   decide ((h.sealOn = false ∧ (key ≠ 0x5EA1 ∨ d.modst.state ≠ 1)) ∨ (h.sealOn = true ∧ key ≠ 0)) &&
   decide (h.sealOn = true) &&
   decide (key = 0x5EA1) &&
   decide (d.modst.state = 1 ∨ d.modst.state = 4)) &&
  (let s : State := (wm 4).onHdr 5 (fun y => { y with sealOn := true })
   let page : Page := 5
   let key : BitVec 16 := 0x5EA1
   let d : State := endDoze s
   let g : Nat := d.physPage page.toNat
   let h : Hdr := d.hdr g
   decide (s.porchRuns = true) &&
   decide (writeStatus d (hdrAddr page 0x20) = .ok) &&
   decide (h.sealOn = true) &&
   decide (key = 0x5EA1) &&
   decide (d.modst.state = 1 ∨ d.modst.state = 4)) &&
  (let s : State := (wm 4).onHdr 5 (fun y => { y with sealOn := true })
   let page : Page := 5
   let key : BitVec 16 := 7
   let d : State := endDoze s
   let g : Nat := d.physPage page.toNat
   let h : Hdr := d.hdr g
   decide (s.porchRuns = true) &&
   decide (writeStatus d (hdrAddr page 0x20) = .ok) &&
   decide ((h.sealOn = true ∧ (key ≠ 0x5EA1 ∨ (d.modst.state ≠ 1 ∧ d.modst.state ≠ 4))) ∨ (h.sealOn = false ∧ key ≠ 0)))) = true := by decide +kernel

/-- The hypotheses of LockKeys are met (part 4 of 4). -/
theorem meets_LockKeys_4 : (
  (let s : State := (wm 2).onHdr 5 (fun y => { y with sealOn := true })
   let page : Page := 5
   let key : BitVec 16 := 0x5EA1
   let d : State := endDoze s
   let g : Nat := d.physPage page.toNat
   let h : Hdr := d.hdr g
   decide (s.porchRuns = true) &&
   decide (writeStatus d (hdrAddr page 0x20) = .ok) &&
   decide ((h.sealOn = true ∧ (key ≠ 0x5EA1 ∨ (d.modst.state ≠ 1 ∧ d.modst.state ≠ 4))) ∨ (h.sealOn = false ∧ key ≠ 0))) &&
  (let s : State := wm 1
   let page : Page := 5
   let key : BitVec 16 := 0x5A3C
   let d : State := endDoze s
   let g : Nat := d.physPage page.toNat
   let h : Hdr := d.hdr g
   decide (s.porchRuns = true) &&
   decide (writeStatus d (hdrAddr page 0x20) = .ok) &&
   decide (key = 0x5A3C) &&
   decide (d.modst.state = 1 ∨ d.modst.state = 3) &&
   decide (h.draughtUnl = false)) &&
  (let s : State := (wm 3).onHdr 5 (fun y => { y with draughtUnl := true })
   let page : Page := 5
   let key : BitVec 16 := 0x5A3C
   let d : State := endDoze s
   decide (s.porchRuns = true) &&
   decide (writeStatus d (hdrAddr page 0x20) = .ok) &&
   decide (key = 0x5A3C) &&
   decide (d.modst.state = 1 ∨ d.modst.state = 3)) &&
  (let s : State := wm 3
   let page : Page := 5
   let key : BitVec 16 := 0x5A3C
   let d : State := endDoze s
   decide (s.porchRuns = true) &&
   decide (writeStatus d (hdrAddr page 0x20) = .ok) &&
   decide (key = 0x5A3C) &&
   decide (d.modst.state = 1 ∨ d.modst.state = 3)) &&
  (let s : State := wm 2
   let page : Page := 5
   let key : BitVec 16 := 0x5A3C
   let d : State := endDoze s
   decide (s.porchRuns = true) &&
   decide (writeStatus d (hdrAddr page 0x20) = .ok) &&
   decide (key ≠ 0x5A3C ∨ (d.modst.state ≠ 1 ∧ d.modst.state ≠ 3)))) = true := by decide +kernel

/-- The hypotheses of TimeStampSnapshot are met. -/
theorem meets_TimeStampSnapshot : (
  (let s : State := w0
   let page : Page := 0x105
   decide (s.porchRuns = true) &&
   decide (pageKind page.toNat ≠ .unmapped)) &&
  (let s : State := w0
   let page : Page := 0x40
   decide (s.porchRuns = true) &&
   decide (pageKind page.toNat ≠ .unmapped)) &&
  (let s : State := w0
   let page : Page := 0x500
   decide (s.porchRuns = true) &&
   decide (pageKind page.toNat ≠ .unmapped))) = true := by decide +kernel

/-- The hypotheses of SliceRegisterReads are met (part 1 of 3). -/
theorem meets_SliceRegisterReads_1 : (
  (let s : State := w0
   let v : View := .zone 0
   let n : Fin 4 := 3
   let k : Fin 32 := 31
   let cool : Bool := true
   let i : Instr := .ziTRead (.zone 0) 3
   let a : Nat := R.ZI_T_n.at 3
   let d : State := endDoze s
   let e := rowOf (R.ZI_T_n.at 3)
   decide ((i, a) ∈ [(.ziTRead v n, R.ZI_T_n.at n.val), (.zcEntLoRead v k, R.ZC_ENT_k_LO.at k.val), (.zcUrgLoRead v,
     R.ZC_URG_LO.at 0), (.zcTsNowRead v, R.ZC_TS_NOW.at 0), (.zeStatRead v, R.ZE_STAT.at 0), (.zeHarmStatRead v,
     R.ZE_HARM_STAT.at 0), (.zeAccTsLoRead v, R.ZE_ACC_TS_LO.at 0), (.zeDmdRead v, R.ZE_DMD.at 0), (.zhStatRead v,
     R.ZH_STAT.at 0), (.zhAccTsLoRead v, R.ZH_ACC_TS_LO.at 0), (.zlStatRead v, R.ZL_STAT.at 0), (.zlModelRead v cool, if
     cool then R.ZL_MODEL_C_1.at 0 else R.ZL_MODEL_H_1.at 0), (.schAlmRead v, R.SCH_ALM.at 0), (.zpStatRead v, R.ZP_STAT.at
     0), (.zoStatRead v, R.ZO_STAT.at 0), (.zkStatRead v, R.ZK_STAT.at 0), (.zxNowLoRead v, R.ZX_NOW_LO.at 0), (.zwStatRead
     v, R.ZW_STAT.at 0)]) &&
   decide (s.porchRuns = true) &&
   decide (d.viewOpen v = true) &&
   decide (regAt a = some e)) &&
  (let s : State := w0
   let v : View := .zone 0
   let n : Fin 4 := 3
   let k : Fin 32 := 31
   let cool : Bool := true
   let i : Instr := .zlModelRead (.zone 0) true
   let a : Nat := R.ZL_MODEL_C_1.at 0
   let d : State := endDoze s
   decide ((i, a) ∈ [(.ziTRead v n, R.ZI_T_n.at n.val), (.zcEntLoRead v k, R.ZC_ENT_k_LO.at k.val), (.zcUrgLoRead v,
     R.ZC_URG_LO.at 0), (.zcTsNowRead v, R.ZC_TS_NOW.at 0), (.zeStatRead v, R.ZE_STAT.at 0), (.zeHarmStatRead v,
     R.ZE_HARM_STAT.at 0), (.zeAccTsLoRead v, R.ZE_ACC_TS_LO.at 0), (.zeDmdRead v, R.ZE_DMD.at 0), (.zhStatRead v,
     R.ZH_STAT.at 0), (.zhAccTsLoRead v, R.ZH_ACC_TS_LO.at 0), (.zlStatRead v, R.ZL_STAT.at 0), (.zlModelRead v cool, if
     cool then R.ZL_MODEL_C_1.at 0 else R.ZL_MODEL_H_1.at 0), (.schAlmRead v, R.SCH_ALM.at 0), (.zpStatRead v, R.ZP_STAT.at
     0), (.zoStatRead v, R.ZO_STAT.at 0), (.zkStatRead v, R.ZK_STAT.at 0), (.zxNowLoRead v, R.ZX_NOW_LO.at 0), (.zwStatRead
     v, R.ZW_STAT.at 0)]) &&
   decide (s.porchRuns = true) &&
   decide (d.viewOpen v = true))) = true := by decide +kernel

/-- The hypotheses of SliceRegisterReads are met (part 2 of 3). -/
theorem meets_SliceRegisterReads_2 : (
  (let s : State := w0
   let v : View := .zone 0
   let n : Fin 4 := 3
   let k : Fin 32 := 31
   let cool : Bool := true
   let i : Instr := .zcEntLoRead (.zone 0) 31
   let a : Nat := R.ZC_ENT_k_LO.at 31
   let d : State := endDoze s
   let g := R.ZC_ENT_k_HI.at 31
   decide ((i, a) ∈ [(.ziTRead v n, R.ZI_T_n.at n.val), (.zcEntLoRead v k, R.ZC_ENT_k_LO.at k.val), (.zcUrgLoRead v,
     R.ZC_URG_LO.at 0), (.zcTsNowRead v, R.ZC_TS_NOW.at 0), (.zeStatRead v, R.ZE_STAT.at 0), (.zeHarmStatRead v,
     R.ZE_HARM_STAT.at 0), (.zeAccTsLoRead v, R.ZE_ACC_TS_LO.at 0), (.zeDmdRead v, R.ZE_DMD.at 0), (.zhStatRead v,
     R.ZH_STAT.at 0), (.zhAccTsLoRead v, R.ZH_ACC_TS_LO.at 0), (.zlStatRead v, R.ZL_STAT.at 0), (.zlModelRead v cool, if
     cool then R.ZL_MODEL_C_1.at 0 else R.ZL_MODEL_H_1.at 0), (.schAlmRead v, R.SCH_ALM.at 0), (.zpStatRead v, R.ZP_STAT.at
     0), (.zoStatRead v, R.ZO_STAT.at 0), (.zkStatRead v, R.ZK_STAT.at 0), (.zxNowLoRead v, R.ZX_NOW_LO.at 0), (.zwStatRead
     v, R.ZW_STAT.at 0)]) &&
   decide (s.porchRuns = true) &&
   decide (d.viewOpen v = true) &&
   decide (g ∈ sliceGroup a)) &&
  (let s : State := w0
   let v : View := .phys 0
   let n : Fin 4 := 3
   let k : Fin 32 := 31
   let cool : Bool := true
   let i : Instr := .zwStatRead (.phys 0)
   let a : Nat := R.ZW_STAT.at 0
   let d : State := endDoze s
   decide ((i, a) ∈ [(.ziTRead v n, R.ZI_T_n.at n.val), (.zcEntLoRead v k, R.ZC_ENT_k_LO.at k.val), (.zcUrgLoRead v,
     R.ZC_URG_LO.at 0), (.zcTsNowRead v, R.ZC_TS_NOW.at 0), (.zeStatRead v, R.ZE_STAT.at 0), (.zeHarmStatRead v,
     R.ZE_HARM_STAT.at 0), (.zeAccTsLoRead v, R.ZE_ACC_TS_LO.at 0), (.zeDmdRead v, R.ZE_DMD.at 0), (.zhStatRead v,
     R.ZH_STAT.at 0), (.zhAccTsLoRead v, R.ZH_ACC_TS_LO.at 0), (.zlStatRead v, R.ZL_STAT.at 0), (.zlModelRead v cool, if
     cool then R.ZL_MODEL_C_1.at 0 else R.ZL_MODEL_H_1.at 0), (.schAlmRead v, R.SCH_ALM.at 0), (.zpStatRead v, R.ZP_STAT.at
     0), (.zoStatRead v, R.ZO_STAT.at 0), (.zkStatRead v, R.ZK_STAT.at 0), (.zxNowLoRead v, R.ZX_NOW_LO.at 0), (.zwStatRead
     v, R.ZW_STAT.at 0)]) &&
   decide (s.porchRuns = true) &&
   decide (d.viewOpen v = true))) = true := by decide +kernel

/-- The hypotheses of SliceRegisterReads are met (part 3 of 3). -/
theorem meets_SliceRegisterReads_3 : (
  (let s : State := w0
   let v : View := .zone 0
   let n : Fin 4 := 3
   let k : Fin 32 := 31
   let cool : Bool := true
   let i : Instr := .ziTRead (.zone 0) 3
   let a : Nat := R.ZI_T_n.at 3
   let d : State := endDoze s
   let b := 0
   decide ((i, a) ∈ [(.ziTRead v n, R.ZI_T_n.at n.val), (.zcEntLoRead v k, R.ZC_ENT_k_LO.at k.val), (.zcUrgLoRead v,
     R.ZC_URG_LO.at 0), (.zcTsNowRead v, R.ZC_TS_NOW.at 0), (.zeStatRead v, R.ZE_STAT.at 0), (.zeHarmStatRead v,
     R.ZE_HARM_STAT.at 0), (.zeAccTsLoRead v, R.ZE_ACC_TS_LO.at 0), (.zeDmdRead v, R.ZE_DMD.at 0), (.zhStatRead v,
     R.ZH_STAT.at 0), (.zhAccTsLoRead v, R.ZH_ACC_TS_LO.at 0), (.zlStatRead v, R.ZL_STAT.at 0), (.zlModelRead v cool, if
     cool then R.ZL_MODEL_C_1.at 0 else R.ZL_MODEL_H_1.at 0), (.schAlmRead v, R.SCH_ALM.at 0), (.zpStatRead v, R.ZP_STAT.at
     0), (.zoStatRead v, R.ZO_STAT.at 0), (.zkStatRead v, R.ZK_STAT.at 0), (.zxNowLoRead v, R.ZX_NOW_LO.at 0), (.zwStatRead
     v, R.ZW_STAT.at 0)]) &&
   decide (s.porchRuns = true) &&
   decide (d.viewOpen v = true) &&
   decide (b ≠ a) &&
   decide (b ≠ a + 0x100)) &&
  (let s : State := w0
   let v : View := .zone 0
   let n : Fin 4 := 3
   let k : Fin 32 := 31
   let cool : Bool := true
   let i : Instr := .ziTRead (.zone 0) 3
   let a : Nat := R.ZI_T_n.at 3
   let d : State := endDoze s
   let p : Phys := d.viewSlice v
   let q := 1
   decide ((i, a) ∈ [(.ziTRead v n, R.ZI_T_n.at n.val), (.zcEntLoRead v k, R.ZC_ENT_k_LO.at k.val), (.zcUrgLoRead v,
     R.ZC_URG_LO.at 0), (.zcTsNowRead v, R.ZC_TS_NOW.at 0), (.zeStatRead v, R.ZE_STAT.at 0), (.zeHarmStatRead v,
     R.ZE_HARM_STAT.at 0), (.zeAccTsLoRead v, R.ZE_ACC_TS_LO.at 0), (.zeDmdRead v, R.ZE_DMD.at 0), (.zhStatRead v,
     R.ZH_STAT.at 0), (.zhAccTsLoRead v, R.ZH_ACC_TS_LO.at 0), (.zlStatRead v, R.ZL_STAT.at 0), (.zlModelRead v cool, if
     cool then R.ZL_MODEL_C_1.at 0 else R.ZL_MODEL_H_1.at 0), (.schAlmRead v, R.SCH_ALM.at 0), (.zpStatRead v, R.ZP_STAT.at
     0), (.zoStatRead v, R.ZO_STAT.at 0), (.zkStatRead v, R.ZK_STAT.at 0), (.zxNowLoRead v, R.ZX_NOW_LO.at 0), (.zwStatRead
     v, R.ZW_STAT.at 0)]) &&
   decide (s.porchRuns = true) &&
   decide (d.viewOpen v = true) &&
   decide (q ≠ p))) = true := by decide +kernel

/-- The hypotheses of PorchRegisterReads are met (part 1 of 2). -/
theorem meets_PorchRegisterReads_1 : (
  (let s : State := w0
   let port : Sys2Proof.Port := .b
   let i : Instr := .fbStatRead .b
   let a : Nat := R.FB_STAT.at 1
   let d : State := endDoze s
   let e := rowOf (R.FB_STAT.at 1)
   decide ((i, a) ∈ [(.pchSrcIdRead, R.PCH_SRC_ID.at 0), (.hlStatRead, R.HL_STAT.at 0), (.fbStatRead port, R.FB_STAT.at
     (Port.index port).val), (.clrSubsecRead, R.CLR_SUBSEC.at 0), (.pchTsNowLoRead, R.PCH_TS_NOW_LO.at 0), (.pchTsStepRead,
     R.PCH_TS_STEP.at 0), (.pwrCenStatRead, R.PWR_CEN_STAT.at 0), (.thStatRead, R.TH_STAT.at 0), (.pchStateRead,
     R.PCH_STATE.at 0), (.pchBitRead, R.PCH_BIT.at 0)]) &&
   decide (s.porchRuns = true) &&
   decide (readStatus d a = .ok) &&
   decide (regAt a = some e)) &&
  (let s : State := w0
   let port : Sys2Proof.Port := .b
   let i : Instr := .clrSubsecRead
   let a : Nat := R.CLR_SUBSEC.at 0
   let d : State := endDoze s
   let g := 0x040048
   decide ((i, a) ∈ [(.pchSrcIdRead, R.PCH_SRC_ID.at 0), (.hlStatRead, R.HL_STAT.at 0), (.fbStatRead port, R.FB_STAT.at
     (Port.index port).val), (.clrSubsecRead, R.CLR_SUBSEC.at 0), (.pchTsNowLoRead, R.PCH_TS_NOW_LO.at 0), (.pchTsStepRead,
     R.PCH_TS_STEP.at 0), (.pwrCenStatRead, R.PWR_CEN_STAT.at 0), (.thStatRead, R.TH_STAT.at 0), (.pchStateRead,
     R.PCH_STATE.at 0), (.pchBitRead, R.PCH_BIT.at 0)]) &&
   decide (s.porchRuns = true) &&
   decide (readStatus d a = .ok) &&
   decide (g ∈ porchGroup a)) &&
  (let s : State := w0
   let port : Sys2Proof.Port := .b
   let i : Instr := .pchBitRead
   let a : Nat := R.PCH_BIT.at 0
   let d : State := endDoze s
   decide ((i, a) ∈ [(.pchSrcIdRead, R.PCH_SRC_ID.at 0), (.hlStatRead, R.HL_STAT.at 0), (.fbStatRead port, R.FB_STAT.at
     (Port.index port).val), (.clrSubsecRead, R.CLR_SUBSEC.at 0), (.pchTsNowLoRead, R.PCH_TS_NOW_LO.at 0), (.pchTsStepRead,
     R.PCH_TS_STEP.at 0), (.pwrCenStatRead, R.PWR_CEN_STAT.at 0), (.thStatRead, R.TH_STAT.at 0), (.pchStateRead,
     R.PCH_STATE.at 0), (.pchBitRead, R.PCH_BIT.at 0)]) &&
   decide (s.porchRuns = true) &&
   decide (readStatus d a = .ok))) = true := by decide +kernel

/-- The hypotheses of PorchRegisterReads are met (part 2 of 2). -/
theorem meets_PorchRegisterReads_2 : (
  (let s : State := w0
   let port : Sys2Proof.Port := .b
   let i : Instr := .fbStatRead .b
   let a : Nat := R.FB_STAT.at 1
   let d : State := endDoze s
   let b := 0
   decide ((i, a) ∈ [(.pchSrcIdRead, R.PCH_SRC_ID.at 0), (.hlStatRead, R.HL_STAT.at 0), (.fbStatRead port, R.FB_STAT.at
     (Port.index port).val), (.clrSubsecRead, R.CLR_SUBSEC.at 0), (.pchTsNowLoRead, R.PCH_TS_NOW_LO.at 0), (.pchTsStepRead,
     R.PCH_TS_STEP.at 0), (.pwrCenStatRead, R.PWR_CEN_STAT.at 0), (.thStatRead, R.TH_STAT.at 0), (.pchStateRead,
     R.PCH_STATE.at 0), (.pchBitRead, R.PCH_BIT.at 0)]) &&
   decide (s.porchRuns = true) &&
   decide (readStatus d a = .ok) &&
   decide (b ≠ a))) = true := by decide +kernel

/-- The hypotheses of FifoReads are met (part 1 of 2). -/
theorem meets_FifoReads_1 : (
  (let s : State := w0
   let v : View := .zone 0
   let d : State := endDoze s
   let p : Phys := d.viewSlice v
   let q := 1
   decide (s.porchRuns = true) &&
   decide (d.viewOpen v = true) &&
   decide ((d.z p).panel.evts = []) &&
   decide (q ≠ p) &&
   decide (d.cellar.locked = false) &&
   decide (d.cellar.wlog = [])) &&
  (let s : State := zoneUp (fun y => { y with panel := { y.panel with evts := [⟨6, 2, 7⟩] } })
   let v : View := .zone 0
   let d : State := endDoze s
   let p : Phys := d.viewSlice v
   let e := ⟨6, 2, 7⟩
   let l := []
   decide (s.porchRuns = true) &&
   decide (d.viewOpen v = true) &&
   decide ((d.z p).panel.evts = e :: l)) &&
  (let s : State := (zoneUp (fun y => { y with meter := { y.meter with cap := { y.meter.cap with words := [11, 12] } } }))
   let v : View := .zone 0
   let d : State := endDoze s
   let p : Phys := d.viewSlice v
   let x := 11
   decide (s.porchRuns = true) &&
   decide (d.viewOpen v = true) &&
   decide ((d.z p).meter.cap.words[d.g p F.ZE_CAP_PTR_PTR]? = some x)) &&
  (let s : State := w0.onPort 0 (fun y => { y with rx := [(⟨1, 0x85, 3, 5, false, [1, 2, 3]⟩, 77)] })
   let port : Sys2Proof.Port := .a
   let d : State := endDoze s
   let i : Fin 2 := Port.index port
   let f := ⟨0x1, 0x85, 3, 5, false, [1, 2, 3]⟩
   let ts := 77
   let l := []
   let k := 7
   decide (s.porchRuns = true) &&
   decide ((d.port i).rx = (f, ts) :: l) &&
   decide (k < 8))) = true := by decide +kernel

/-- The hypotheses of FifoReads are met (part 2 of 2). -/
theorem meets_FifoReads_2 : (
  (let s : State := w0
   let port : Sys2Proof.Port := .a
   let d : State := endDoze s
   let i : Fin 2 := Port.index port
   let k := 7
   decide (s.porchRuns = true) &&
   decide ((d.port i).rx = []) &&
   decide (k < 8)) &&
  (let s : State := { w0 with cellar := { w0.cellar with wlog := [⟨3, 2, 1, 99⟩] } }
   let d : State := endDoze s
   let r := ⟨3, 2, 1, 99⟩
   let l := []
   decide (s.porchRuns = true) &&
   decide (d.cellar.locked = false) &&
   decide (d.cellar.wlog = r :: l)) &&
  (let s : State := { w0 with supply := { w0.supply with range := true, vin := 65535 } }
   let d : State := endDoze s
   decide (s.porchRuns = true) &&
   decide (d.supply.range = true) &&
   decide (d.supply.vin < 2 ^ 16)) &&
  (let s : State := { w0 with supply := { w0.supply with range := false } }
   let d : State := endDoze s
   decide (s.porchRuns = true) &&
   decide (d.supply.range = false)) &&
  (let s : State := w0
   let g := R.PWR_START.at 0
   decide (s.porchRuns = true) &&
   decide (g ∈ [R.PWR_HOLDUP.at 0, R.PWR_START.at 0]))) = true := by decide +kernel

/-- The hypotheses of SliceHostActions are met (part 1 of 2). -/
theorem meets_SliceHostActions_1 : (
  (let s : State := w0
   let v : View := .zone 0
   let d : State := endDoze s
   let p : Phys := d.viewSlice v
   decide (s.porchRuns = true) &&
   decide (writeStatus d (viewAddr v (R.ZI_CTRL.at 0)) = .ok) &&
   decide (writeStatus d (viewAddr v (R.ZE_CAP_CTRL.at 0)) = .ok) &&
   decide ((d.mt p).cap.state ≠ 1) &&
   decide ((d.mt p).cap.state ≠ 2)) &&
  (let s : State := w0.w 0 F.ZI_TCFG_n_TYPE 1 3
   let v : View := .zone 0
   let d : State := endDoze s
   let p : Phys := d.viewSlice v
   let n : Fin 4 := 3
   decide (s.porchRuns = true) &&
   decide (writeStatus d (viewAddr v (R.ZI_CTRL.at 0)) = .ok) &&
   decide (d.diagnosed p n = true)) &&
  (let s : State := (((w0.wb 0 F.ZC_SEQ_q_EN true 3).w 0 F.ZC_SEQ_q_TRIG (trigCode .host) 3).w 0 F.ZC_SEQ_q_FIRST 24 3).w 0
     F.ZC_SEQ_q_LAST 25 3
   let v : View := .zone 0
   let d : State := endDoze s
   let p : Phys := d.viewSlice v
   decide (s.porchRuns = true) &&
   decide (writeStatus d (viewAddr v (R.ZC_CTRL.at 0)) = .ok) &&
   decide (takesTrigger d p 3 .host = true) &&
   decide (badRange d p 3 = false)) &&
  (let s : State := ((((w0.wb 0 F.ZC_SEQ_q_EN true 3).w 0 F.ZC_SEQ_q_TRIG (trigCode .host) 3).w 0 F.ZC_SEQ_q_FIRST 24 3).w 0
     F.ZC_SEQ_q_LAST 25 3).onSeq 0 3 (fun y => { y with act := true })
   let v : View := .zone 0
   let d : State := endDoze s
   let p : Phys := d.viewSlice v
   decide (s.porchRuns = true) &&
   decide (writeStatus d (viewAddr v (R.ZC_CTRL.at 0)) = .ok) &&
   decide (takesTrigger d p 3 .host = true) &&
   decide (badRange d p 3 = false) &&
   decide ((d.seq p 3).act = true) &&
   decide ((d.seq p 3).pend = false)) &&
  (let s : State := w0.wb 0 F.ZC_SEQ_q_EN true 3
   let v : View := .zone 0
   let d : State := endDoze s
   let p : Phys := d.viewSlice v
   decide (s.porchRuns = true) &&
   decide (writeStatus d (viewAddr v (R.ZC_SEQ_q.at 3)) = .ok) &&
   decide (d.gb p F.ZC_SEQ_q_EN 3 = true))) = true := by decide +kernel

/-- The hypotheses of SliceHostActions are met (part 2 of 2). -/
theorem meets_SliceHostActions_2 : (
  (let s : State := zoneUp (fun y => { y with meter := { y.meter with cap := { y.meter.cap with state := 1 } } })
   let v : View := .zone 0
   let d : State := endDoze s
   let p : Phys := d.viewSlice v
   decide (s.porchRuns = true) &&
   decide (writeStatus d (viewAddr v (R.ZE_CAP_CTRL.at 0)) = .ok) &&
   decide ((d.mt p).cap.state = 1 ∨ (d.mt p).cap.state = 2) &&
   decide ((d.mt p).cap.state = 1) &&
   decide (capSrc (d.mt p).cap.cfg = 0)) &&
  (let s : State := zoneUp (fun y => { y with meter := { y.meter with cap := { y.meter.cap with state := 2 } } })
   let v : View := .zone 0
   let d : State := endDoze s
   let p : Phys := d.viewSlice v
   decide (s.porchRuns = true) &&
   decide (writeStatus d (viewAddr v (R.ZE_CAP_CTRL.at 0)) = .ok) &&
   decide ((d.mt p).cap.state = 1 ∨ (d.mt p).cap.state = 2))) = true := by decide +kernel

/-- The hypotheses of OutputHostActions are met. -/
theorem meets_OutputHostActions : (
  (let s : State := w0
   let v : View := .phys 0
   let j : Out := 4
   let d : State := endDoze s
   let p : Phys := d.viewSlice v
   decide (s.porchRuns = true) &&
   decide (writeStatus d (viewAddr v (R.ZO_CTRL.at 0)) = .ok) &&
   decide (isDo j = true) &&
   decide ((d.out p j).held = false ∨ (d.out p j).match_ = false)) &&
  (let s : State := w0
   let v : View := .phys 0
   let j : Out := 3
   let d : State := endDoze s
   decide (s.porchRuns = true) &&
   decide (writeStatus d (viewAddr v (R.ZO_CTRL.at 0)) = .ok) &&
   decide (isDo j = true)) &&
  (let s : State := w0.onOut 0 4 (fun y => { y with held := true, match_ := true })
   let v : View := .phys 0
   let j : Out := 4
   let d : State := endDoze s
   let p : Phys := d.viewSlice v
   decide (s.porchRuns = true) &&
   decide (writeStatus d (viewAddr v (R.ZO_CTRL.at 0)) = .ok) &&
   decide ((d.out p j).held = true) &&
   decide ((d.out p j).match_ = true)) &&
  (let s : State := w0.onOut 0 2 (fun y => { y with held := true, match_ := true })
   let v : View := .phys 0
   let j : Out := 2
   let d : State := endDoze s
   let p : Phys := d.viewSlice v
   decide (s.porchRuns = true) &&
   decide (writeStatus d (viewAddr v (R.ZO_CTRL.at 0)) = .ok) &&
   decide ((d.out p j).held = true) &&
   decide ((d.out p j).match_ = true)) &&
  (let s : State := w0.onOut 0 4 (fun y => { y with held := true, match_ := false })
   let v : View := .phys 0
   let j : Out := 4
   let d : State := endDoze s
   let p : Phys := d.viewSlice v
   decide (s.porchRuns = true) &&
   decide (writeStatus d (viewAddr v (R.ZO_CTRL.at 0)) = .ok) &&
   decide ((d.out p j).held = false ∨ (d.out p j).match_ = false))) = true := by decide +kernel

/-- The hypotheses of UrgentRequests are met (part 1 of 2). -/
theorem meets_UrgentRequests_1 : (
  (let s : State := w0
   let p : Phys := 0
   let cfg : Word := 7
   let d : State := s
   let host : Bool := false
   let u : Urgent := { host := false, cfg := cfg }
   decide ((host = false → d = s ∧ (s.sl p).running = true ∧ u = { host := false, cfg := cfg })) &&
   decide ((host = true → d = endDoze s ∧ s.porchRuns = true ∧ writeStatus d (viewAddr (.phys p) (R.ZC_CTRL.at 0)) = .ok ∧ u
     = { host := true, cfg := (d.z p).regs.word R.ZC_URG_CFG })) &&
   decide ((d.cv p).urg = none)) &&
  (let s : State := w0
   let p : Phys := 0
   let cfg : Word := 7
   let d : State := endDoze s
   let host : Bool := true
   let u : Urgent := { host := true, cfg := (d.z p).regs.word R.ZC_URG_CFG }
   decide ((host = false → d = s ∧ (s.sl p).running = true ∧ u = { host := false, cfg := cfg })) &&
   decide ((host = true → d = endDoze s ∧ s.porchRuns = true ∧ writeStatus d (viewAddr (.phys p) (R.ZC_CTRL.at 0)) = .ok ∧ u
     = { host := true, cfg := (d.z p).regs.word R.ZC_URG_CFG })) &&
   decide (host = true)) &&
  (let s : State := w0.onCv 0 (fun y => { y with urg := some { host := true, cfg := 0 } })
   let p : Phys := 0
   let cfg : Word := 7
   let d : State := s
   let host : Bool := false
   let u : Urgent := { host := false, cfg := cfg }
   decide ((host = false → d = s ∧ (s.sl p).running = true ∧ u = { host := false, cfg := cfg })) &&
   decide ((host = true → d = endDoze s ∧ s.porchRuns = true ∧ writeStatus d (viewAddr (.phys p) (R.ZC_CTRL.at 0)) = .ok ∧ u
     = { host := true, cfg := (d.z p).regs.word R.ZC_URG_CFG })) &&
   decide ((d.cv p).urg ≠ none) &&
   decide ((d.cv p).urgPend = none)) &&
  (let s : State := w0.onCv 0 (fun y => { y with urg := some { host := true, cfg := 0 } })
   let p : Phys := 0
   let cfg : Word := 7
   let d : State := endDoze s
   let host : Bool := true
   let u : Urgent := { host := true, cfg := (d.z p).regs.word R.ZC_URG_CFG }
   decide ((host = false → d = s ∧ (s.sl p).running = true ∧ u = { host := false, cfg := cfg })) &&
   decide ((host = true → d = endDoze s ∧ s.porchRuns = true ∧ writeStatus d (viewAddr (.phys p) (R.ZC_CTRL.at 0)) = .ok ∧ u
     = { host := true, cfg := (d.z p).regs.word R.ZC_URG_CFG })))) = true := by decide +kernel

/-- The hypotheses of UrgentRequests are met (part 2 of 2). -/
theorem meets_UrgentRequests_2 : (
  (let s : State := w0.onCv 0 (fun y =>
     { y with urg := some { host := true, cfg := 0 }, urgPend := some { host := true, cfg := 0 } })
   let p : Phys := 0
   let cfg : Word := 7
   let d : State := s
   let host : Bool := false
   let u : Urgent := { host := false, cfg := cfg }
   decide ((host = false → d = s ∧ (s.sl p).running = true ∧ u = { host := false, cfg := cfg })) &&
   decide ((host = true → d = endDoze s ∧ s.porchRuns = true ∧ writeStatus d (viewAddr (.phys p) (R.ZC_CTRL.at 0)) = .ok ∧ u
     = { host := true, cfg := (d.z p).regs.word R.ZC_URG_CFG })) &&
   decide ((d.cv p).urg ≠ none) &&
   decide ((d.cv p).urgPend ≠ none)) &&
  (let s : State := w0.onCv 0 (fun y =>
     { y with urg := some { host := true, cfg := 0 }, urgPend := some { host := true, cfg := 0 } })
   let p : Phys := 0
   let cfg : Word := 7
   let d : State := endDoze s
   let host : Bool := true
   let u : Urgent := { host := true, cfg := (d.z p).regs.word R.ZC_URG_CFG }
   decide ((host = false → d = s ∧ (s.sl p).running = true ∧ u = { host := false, cfg := cfg })) &&
   decide ((host = true → d = endDoze s ∧ s.porchRuns = true ∧ writeStatus d (viewAddr (.phys p) (R.ZC_CTRL.at 0)) = .ok ∧ u
     = { host := true, cfg := (d.z p).regs.word R.ZC_URG_CFG })))) = true := by decide +kernel

/-- The hypotheses of CopiesForTheHost are met. -/
theorem meets_CopiesForTheHost : (
  (let s : State := w0
   let d : State := endDoze s
   let k := 15
   decide (s.porchRuns = true) &&
   decide (writeStatus d (R.PCH_GB_Q_SEQ.at 0) = .ok) &&
   decide (writeStatus d (R.PCH_LD_SEL.at 0) = .ok) &&
   decide (k < 16) &&
   decide (writeStatus d (R.PCH_EC_SEL.at 0) = .ok) &&
   decide (writeStatus d (R.PWR_LOG_SEL.at 0) = .ok) &&
   decide (writeStatus d (R.HWY_CAL_SEL.at 0) = .ok) &&
   decide (writeStatus d (R.PCH_RS_WIN_SEQ.at 0) = .ok)) &&
  (let s : State := (w0.pw F.PCH_GB_Q_SRC_SOURCE 0x1234 0).onJ (fun j =>
     { j with slots := [(3, ⟨0x1234, 7⟩)], book := [{ slot := 3, seq := 7, crc := 0, lseq := 2, result := 3, reason := 9 }] })
   let n : Word := 7
   let d : State := endDoze s
   let e := { slot := 3, seq := 7, crc := 0, lseq := 2, result := 3, reason := 9 }
   decide (s.porchRuns = true) &&
   decide (writeStatus d (R.PCH_GB_Q_SEQ.at 0) = .ok) &&
   decide (bookEntry d (BitVec.ofNat 16 (d.pg F.PCH_GB_Q_SRC_SOURCE)) n.toNat = some e) &&
   decide (e.result < 256) &&
   decide (e.reason < 65536)) &&
  (let s : State := w0
   let d : State := endDoze s
   let k := 5
   decide (s.porchRuns = true) &&
   decide (writeStatus d (R.PCH_EC_SEL.at 0) = .ok) &&
   decide (k < 6)) &&
  (let s : State := { w0 with landing := { w0.landing with log := [⟨5, 3, 2, 1, 4, 0x1234567890⟩] } }
   let d : State := endDoze s
   let sel : BitVec 4 := 0
   let a := ⟨5, 3, 2, 1, 4, 0x1234567890⟩
   decide (s.porchRuns = true) &&
   decide (writeStatus d (R.PWR_LOG_SEL.at 0) = .ok) &&
   decide (d.landing.log[sel.toNat]? = some a)) &&
  (let s : State := w0
   let d : State := endDoze s
   let sel : BitVec 4 := 2
   let a := R.PWR_LOG_TS_HI.at 0
   decide (s.porchRuns = true) &&
   decide (writeStatus d (R.PWR_LOG_SEL.at 0) = .ok) &&
   decide (d.landing.log[sel.toNat]? = none) &&
   decide (a ∈ [R.PWR_LOG_1.at 0, R.PWR_LOG_2.at 0, R.PWR_LOG_TS_LO.at 0, R.PWR_LOG_TS_HI.at 0]))) = true := by decide +kernel

/-- The hypotheses of HostControlWrites are met (part 1 of 3). -/
theorem meets_HostControlWrites_1 : (
  (let s : State := w0
   let port : Sys2Proof.Port := .a
   let d : State := endDoze s
   let i : Fin 2 := Port.index port
   decide (s.porchRuns = true) &&
   decide (writeStatus d (R.HL_CTRL.at 0) = .ok) &&
   decide (writeStatus d (R.FB_CTRL.at i.val) = .ok) &&
   decide ((d.port i).host = none) &&
   decide (d.pg F.FB_TX_ID_KIND i.val < 0x80 ∨ 32 < d.pg F.FB_TX_LEN_LEN i.val ∨ ((d.port i).state = 0 ∨ (d.port i).state =
     1 ∨ (d.port i).state = 4)) &&
   decide (writeStatus d (R.CLR_CTRL.at 0) = .ok) &&
   decide (d.modst.state ≠ 1) &&
   decide (d.modst.state ≠ 3) &&
   decide (d.modst.state ≠ 4)) &&
  (let s : State := ((w0.onPort 0 (fun y => { y with state := 2 })).pw F.FB_TX_ID_KIND 0x80 0).pw F.FB_TX_LEN_LEN 32 0
   let port : Sys2Proof.Port := .a
   let d : State := endDoze s
   let i : Fin 2 := Port.index port
   decide (s.porchRuns = true) &&
   decide (writeStatus d (R.FB_CTRL.at i.val) = .ok) &&
   decide ((d.port i).host = none) &&
   decide (0x80 ≤ d.pg F.FB_TX_ID_KIND i.val) &&
   decide (d.pg F.FB_TX_LEN_LEN i.val ≤ 32) &&
   decide ((d.port i).state = 2 ∨ (d.port i).state = 3)) &&
  (let s : State := ((w0.onPort 0 (fun y => { y with state := 3 })).pw F.FB_TX_ID_KIND 0xFF 0).pw F.FB_TX_LEN_LEN 0 0
   let port : Sys2Proof.Port := .a
   let d : State := endDoze s
   let i : Fin 2 := Port.index port
   decide (s.porchRuns = true) &&
   decide (writeStatus d (R.FB_CTRL.at i.val) = .ok) &&
   decide ((d.port i).host = none) &&
   decide (0x80 ≤ d.pg F.FB_TX_ID_KIND i.val) &&
   decide (d.pg F.FB_TX_LEN_LEN i.val ≤ 32) &&
   decide ((d.port i).state = 2 ∨ (d.port i).state = 3)) &&
  (let s : State := ((w0.onPort 0 (fun y => { y with state := 2 })).pw F.FB_TX_ID_KIND 0x80 0).pw F.FB_TX_LEN_LEN 33 0
   let port : Sys2Proof.Port := .a
   let d : State := endDoze s
   let i : Fin 2 := Port.index port
   decide (s.porchRuns = true) &&
   decide (writeStatus d (R.FB_CTRL.at i.val) = .ok) &&
   decide ((d.port i).host = none) &&
   decide (d.pg F.FB_TX_ID_KIND i.val < 0x80 ∨ 32 < d.pg F.FB_TX_LEN_LEN i.val ∨ ((d.port i).state = 0 ∨ (d.port i).state =
     1 ∨ (d.port i).state = 4)))) = true := by decide +kernel

/-- The hypotheses of HostControlWrites are met (part 2 of 3). -/
theorem meets_HostControlWrites_2 : (
  (let s : State := ((w0.onPort 0 (fun y => { y with state := 4 })).pw F.FB_TX_ID_KIND 0x80 0).pw F.FB_TX_LEN_LEN 3 0
   let port : Sys2Proof.Port := .a
   let d : State := endDoze s
   let i : Fin 2 := Port.index port
   decide (s.porchRuns = true) &&
   decide (writeStatus d (R.FB_CTRL.at i.val) = .ok) &&
   decide ((d.port i).host = none) &&
   decide (d.pg F.FB_TX_ID_KIND i.val < 0x80 ∨ 32 < d.pg F.FB_TX_LEN_LEN i.val ∨ ((d.port i).state = 0 ∨ (d.port i).state =
     1 ∨ (d.port i).state = 4))) &&
  (let s : State := ((w0.onPort 0 (fun y => { y with state := 2 })).pw F.FB_TX_ID_KIND 0x7F 0).pw F.FB_TX_LEN_LEN 3 0
   let port : Sys2Proof.Port := .a
   let d : State := endDoze s
   let i : Fin 2 := Port.index port
   decide (s.porchRuns = true) &&
   decide (writeStatus d (R.FB_CTRL.at i.val) = .ok) &&
   decide ((d.port i).host = none) &&
   decide (d.pg F.FB_TX_ID_KIND i.val < 0x80 ∨ 32 < d.pg F.FB_TX_LEN_LEN i.val ∨ ((d.port i).state = 0 ∨ (d.port i).state =
     1 ∨ (d.port i).state = 4))) &&
  (let s : State := (w0.onPort 0 (fun y =>
     { y with state := 2, host := some { f := { pri := 0, kind := 0x80, src := 1, dst := 2, data := [] } } }))
   let port : Sys2Proof.Port := .a
   let d : State := endDoze s
   let i : Fin 2 := Port.index port
   let b : Bool := false
   let f := { f := { pri := 0, kind := 0x80, src := 1, dst := 2, data := [] } }
   decide (s.porchRuns = true) &&
   decide (writeStatus d (R.FB_CTRL.at i.val) = .ok) &&
   decide ((d.port i).host = some f) &&
   decide (b = false ∨ hostOffered d i = false)) &&
  (let s : State := (w0.onPort 0 (fun y =>
     { y with state := 0, host := some { f := { pri := 0, kind := 0x80, src := 1, dst := 2, data := [] } } }))
   let port : Sys2Proof.Port := .a
   let d : State := endDoze s
   let i : Fin 2 := Port.index port
   let b : Bool := true
   let f := { f := { pri := 0, kind := 0x80, src := 1, dst := 2, data := [] } }
   decide (s.porchRuns = true) &&
   decide (writeStatus d (R.FB_CTRL.at i.val) = .ok) &&
   decide ((d.port i).host = some f) &&
   decide (b = false ∨ hostOffered d i = false))) = true := by decide +kernel

/-- The hypotheses of HostControlWrites are met (part 3 of 3). -/
theorem meets_HostControlWrites_3 : (
  (let s : State := (w0.onPort 0 (fun y =>
     { y with state := 2, host := some { f := { pri := 0, kind := 0x80, src := 1, dst := 2, data := [] } } }))
   let port : Sys2Proof.Port := .a
   let d : State := endDoze s
   let i : Fin 2 := Port.index port
   let b : Bool := true
   let f := { f := { pri := 0, kind := 0x80, src := 1, dst := 2, data := [] } }
   decide (s.porchRuns = true) &&
   decide (writeStatus d (R.FB_CTRL.at i.val) = .ok) &&
   decide ((d.port i).host = some f) &&
   decide (b = true) &&
   decide (hostOffered d i = true)) &&
  (let s : State := w0.onPort 0 (fun y => { y with state := 2 })
   let port : Sys2Proof.Port := .a
   let d : State := endDoze s
   let i : Fin 2 := Port.index port
   decide (s.porchRuns = true) &&
   decide (writeStatus d (R.FB_CTRL.at i.val) = .ok)) &&
  (let s : State := wm 1
   let d : State := endDoze s
   decide (s.porchRuns = true) &&
   decide (writeStatus d (R.CLR_CTRL.at 0) = .ok) &&
   decide (d.modst.state = 1 ∨ d.modst.state = 3 ∨ d.modst.state = 4)) &&
  (let s : State := wm 4
   let d : State := endDoze s
   decide (s.porchRuns = true) &&
   decide (writeStatus d (R.CLR_CTRL.at 0) = .ok) &&
   decide (d.modst.state = 1 ∨ d.modst.state = 3 ∨ d.modst.state = 4)) &&
  (let s : State := wm 3
   let d : State := endDoze s
   decide (s.porchRuns = true) &&
   decide (writeStatus d (R.CLR_CTRL.at 0) = .ok) &&
   decide (d.modst.state = 1 ∨ d.modst.state = 3 ∨ d.modst.state = 4)) &&
  (let s : State := wm 2
   let d : State := endDoze s
   decide (s.porchRuns = true) &&
   decide (writeStatus d (R.CLR_CTRL.at 0) = .ok) &&
   decide (d.modst.state ≠ 1) &&
   decide (d.modst.state ≠ 3) &&
   decide (d.modst.state ≠ 4))) = true := by decide +kernel

/-- The hypotheses of ConfigurationOpcodes are met (part 1 of 5). -/
theorem meets_ConfigurationOpcodes_1 : (
  (let x : Exec := zoneCmd 0x0101 (List.replicate 80 0)
   let s : State := handed w0 x
   let z : Zone := 0
   let p : Phys := 0
   let i : Instr := .zoneInputsConfiguration x
   let op : BitVec 16 := 0x0101
   decide (aboutB s x z p = true) &&
   decide ((i, op) ∈ [(.zoneInputsConfiguration x, 0x0101), (.loopConfiguration x, 0x0104), (.actuatorMap x, 0x0105),
     (.outputConfiguration x, 0x0107), (.panelConfiguration x, 0x0108), (.electricalConfiguration x, 0x0110),
     (.electricalCalibration x, 0x0111), (.heatAndFlowConfiguration x, 0x0112), (.timeZoneRule x, 0x0201), (.weeklyEvents x,
     0x0202), (.exceptionDates x, 0x0203), (.tariffBands x, 0x0210), (.policyConfiguration x, 0x0211)]) &&
   decide (x.opcode = op)) &&
  (let x : Exec := zoneCmd 0x0104 (List.replicate 28 0)
   let s : State := handed w0 x
   let z : Zone := 0
   let p : Phys := 0
   let i : Instr := .loopConfiguration x
   let op : BitVec 16 := 0x0104
   let c := (imageWords 0x0104 x).headD (0, 0)
   decide (aboutB s x z p = true) &&
   decide ((i, op) ∈ [(.zoneInputsConfiguration x, 0x0101), (.loopConfiguration x, 0x0104), (.actuatorMap x, 0x0105),
     (.outputConfiguration x, 0x0107), (.panelConfiguration x, 0x0108), (.electricalConfiguration x, 0x0110),
     (.electricalCalibration x, 0x0111), (.heatAndFlowConfiguration x, 0x0112), (.timeZoneRule x, 0x0201), (.weeklyEvents x,
     0x0202), (.exceptionDates x, 0x0203), (.tariffBands x, 0x0210), (.policyConfiguration x, 0x0211)]) &&
   decide (x.opcode = op) &&
   decide (c ∈ imageWords x.opcode.toNat x) &&
   decide (∀ e ∈ imageWords x.opcode.toNat x, e.1 = c.1 → e = c)) &&
  (let x : Exec := zoneCmd 0x0105 (List.replicate 20 0)
   let s : State := handed w0 x
   let z : Zone := 0
   let p : Phys := 0
   let i : Instr := .actuatorMap x
   let op : BitVec 16 := 0x0105
   decide (aboutB s x z p = true) &&
   decide ((i, op) ∈ [(.zoneInputsConfiguration x, 0x0101), (.loopConfiguration x, 0x0104), (.actuatorMap x, 0x0105),
     (.outputConfiguration x, 0x0107), (.panelConfiguration x, 0x0108), (.electricalConfiguration x, 0x0110),
     (.electricalCalibration x, 0x0111), (.heatAndFlowConfiguration x, 0x0112), (.timeZoneRule x, 0x0201), (.weeklyEvents x,
     0x0202), (.exceptionDates x, 0x0203), (.tariffBands x, 0x0210), (.policyConfiguration x, 0x0211)]) &&
   decide (x.opcode = op))) = true := by decide +kernel

/-- The hypotheses of ConfigurationOpcodes are met (part 2 of 5). -/
theorem meets_ConfigurationOpcodes_2 : (
  (let x : Exec := zoneCmd 0x0107 (List.replicate 28 0)
   let s : State := handed w0 x
   let z : Zone := 0
   let p : Phys := 0
   let i : Instr := .outputConfiguration x
   let op : BitVec 16 := 0x0107
   decide (aboutB s x z p = true) &&
   decide ((i, op) ∈ [(.zoneInputsConfiguration x, 0x0101), (.loopConfiguration x, 0x0104), (.actuatorMap x, 0x0105),
     (.outputConfiguration x, 0x0107), (.panelConfiguration x, 0x0108), (.electricalConfiguration x, 0x0110),
     (.electricalCalibration x, 0x0111), (.heatAndFlowConfiguration x, 0x0112), (.timeZoneRule x, 0x0201), (.weeklyEvents x,
     0x0202), (.exceptionDates x, 0x0203), (.tariffBands x, 0x0210), (.policyConfiguration x, 0x0211)]) &&
   decide (x.opcode = op)) &&
  (let x : Exec := zoneCmd 0x0108 (List.replicate 16 0)
   let s : State := handed w0 x
   let z : Zone := 0
   let p : Phys := 0
   let i : Instr := .panelConfiguration x
   let op : BitVec 16 := 0x0108
   decide (aboutB s x z p = true) &&
   decide ((i, op) ∈ [(.zoneInputsConfiguration x, 0x0101), (.loopConfiguration x, 0x0104), (.actuatorMap x, 0x0105),
     (.outputConfiguration x, 0x0107), (.panelConfiguration x, 0x0108), (.electricalConfiguration x, 0x0110),
     (.electricalCalibration x, 0x0111), (.heatAndFlowConfiguration x, 0x0112), (.timeZoneRule x, 0x0201), (.weeklyEvents x,
     0x0202), (.exceptionDates x, 0x0203), (.tariffBands x, 0x0210), (.policyConfiguration x, 0x0211)]) &&
   decide (x.opcode = op)) &&
  (let x : Exec := zoneCmd 0x0110 (List.replicate 12 0)
   let s : State := handed w0 x
   let z : Zone := 0
   let p : Phys := 0
   let i : Instr := .electricalConfiguration x
   let op : BitVec 16 := 0x0110
   decide (aboutB s x z p = true) &&
   decide ((i, op) ∈ [(.zoneInputsConfiguration x, 0x0101), (.loopConfiguration x, 0x0104), (.actuatorMap x, 0x0105),
     (.outputConfiguration x, 0x0107), (.panelConfiguration x, 0x0108), (.electricalConfiguration x, 0x0110),
     (.electricalCalibration x, 0x0111), (.heatAndFlowConfiguration x, 0x0112), (.timeZoneRule x, 0x0201), (.weeklyEvents x,
     0x0202), (.exceptionDates x, 0x0203), (.tariffBands x, 0x0210), (.policyConfiguration x, 0x0211)]) &&
   decide (x.opcode = op))) = true := by decide +kernel

/-- The hypotheses of ConfigurationOpcodes are met (part 3 of 5). -/
theorem meets_ConfigurationOpcodes_3 : (
  (let x : Exec := zoneCmd 0x0111 (List.replicate 44 0)
   let s : State := handed w0 x
   let z : Zone := 0
   let p : Phys := 0
   let i : Instr := .electricalCalibration x
   let op : BitVec 16 := 0x0111
   decide (aboutB s x z p = true) &&
   decide ((i, op) ∈ [(.zoneInputsConfiguration x, 0x0101), (.loopConfiguration x, 0x0104), (.actuatorMap x, 0x0105),
     (.outputConfiguration x, 0x0107), (.panelConfiguration x, 0x0108), (.electricalConfiguration x, 0x0110),
     (.electricalCalibration x, 0x0111), (.heatAndFlowConfiguration x, 0x0112), (.timeZoneRule x, 0x0201), (.weeklyEvents x,
     0x0202), (.exceptionDates x, 0x0203), (.tariffBands x, 0x0210), (.policyConfiguration x, 0x0211)]) &&
   decide (x.opcode = op)) &&
  (let x : Exec := zoneCmd 0x0112 (List.replicate 28 0)
   let s : State := handed w0 x
   let z : Zone := 0
   let p : Phys := 0
   let i : Instr := .heatAndFlowConfiguration x
   let op : BitVec 16 := 0x0112
   decide (aboutB s x z p = true) &&
   decide ((i, op) ∈ [(.zoneInputsConfiguration x, 0x0101), (.loopConfiguration x, 0x0104), (.actuatorMap x, 0x0105),
     (.outputConfiguration x, 0x0107), (.panelConfiguration x, 0x0108), (.electricalConfiguration x, 0x0110),
     (.electricalCalibration x, 0x0111), (.heatAndFlowConfiguration x, 0x0112), (.timeZoneRule x, 0x0201), (.weeklyEvents x,
     0x0202), (.exceptionDates x, 0x0203), (.tariffBands x, 0x0210), (.policyConfiguration x, 0x0211)]) &&
   decide (x.opcode = op)) &&
  (let x : Exec := zoneCmd 0x0201 (List.replicate 12 0)
   let s : State := handed w0 x
   let z : Zone := 0
   let p : Phys := 0
   let i : Instr := .timeZoneRule x
   let op : BitVec 16 := 0x0201
   decide (aboutB s x z p = true) &&
   decide ((i, op) ∈ [(.zoneInputsConfiguration x, 0x0101), (.loopConfiguration x, 0x0104), (.actuatorMap x, 0x0105),
     (.outputConfiguration x, 0x0107), (.panelConfiguration x, 0x0108), (.electricalConfiguration x, 0x0110),
     (.electricalCalibration x, 0x0111), (.heatAndFlowConfiguration x, 0x0112), (.timeZoneRule x, 0x0201), (.weeklyEvents x,
     0x0202), (.exceptionDates x, 0x0203), (.tariffBands x, 0x0210), (.policyConfiguration x, 0x0211)]) &&
   decide (x.opcode = op))) = true := by decide +kernel

/-- The hypotheses of ConfigurationOpcodes are met (part 4 of 5). -/
theorem meets_ConfigurationOpcodes_4 : (
  (let x : Exec := zoneCmd 0x0202 (List.replicate 128 0)
   let s : State := handed w0 x
   let z : Zone := 0
   let p : Phys := 0
   let i : Instr := .weeklyEvents x
   let op : BitVec 16 := 0x0202
   decide (aboutB s x z p = true) &&
   decide ((i, op) ∈ [(.zoneInputsConfiguration x, 0x0101), (.loopConfiguration x, 0x0104), (.actuatorMap x, 0x0105),
     (.outputConfiguration x, 0x0107), (.panelConfiguration x, 0x0108), (.electricalConfiguration x, 0x0110),
     (.electricalCalibration x, 0x0111), (.heatAndFlowConfiguration x, 0x0112), (.timeZoneRule x, 0x0201), (.weeklyEvents x,
     0x0202), (.exceptionDates x, 0x0203), (.tariffBands x, 0x0210), (.policyConfiguration x, 0x0211)]) &&
   decide (x.opcode = op)) &&
  (let x : Exec := zoneCmd 0x0203 (List.replicate 8 0)
   let s : State := handed w0 x
   let z : Zone := 0
   let p : Phys := 0
   let i : Instr := .exceptionDates x
   let op : BitVec 16 := 0x0203
   decide (aboutB s x z p = true) &&
   decide ((i, op) ∈ [(.zoneInputsConfiguration x, 0x0101), (.loopConfiguration x, 0x0104), (.actuatorMap x, 0x0105),
     (.outputConfiguration x, 0x0107), (.panelConfiguration x, 0x0108), (.electricalConfiguration x, 0x0110),
     (.electricalCalibration x, 0x0111), (.heatAndFlowConfiguration x, 0x0112), (.timeZoneRule x, 0x0201), (.weeklyEvents x,
     0x0202), (.exceptionDates x, 0x0203), (.tariffBands x, 0x0210), (.policyConfiguration x, 0x0211)]) &&
   decide (x.opcode = op)) &&
  (let x : Exec := zoneCmd 0x0210 (List.replicate 580 0)
   let s : State := handed w0 x
   let z : Zone := 0
   let p : Phys := 0
   let i : Instr := .tariffBands x
   let op : BitVec 16 := 0x0210
   decide (aboutB s x z p = true) &&
   decide ((i, op) ∈ [(.zoneInputsConfiguration x, 0x0101), (.loopConfiguration x, 0x0104), (.actuatorMap x, 0x0105),
     (.outputConfiguration x, 0x0107), (.panelConfiguration x, 0x0108), (.electricalConfiguration x, 0x0110),
     (.electricalCalibration x, 0x0111), (.heatAndFlowConfiguration x, 0x0112), (.timeZoneRule x, 0x0201), (.weeklyEvents x,
     0x0202), (.exceptionDates x, 0x0203), (.tariffBands x, 0x0210), (.policyConfiguration x, 0x0211)]) &&
   decide (x.opcode = op))) = true := by decide +kernel

/-- The hypotheses of ConfigurationOpcodes are met (part 5 of 5). -/
theorem meets_ConfigurationOpcodes_5 : (
  (let x : Exec := zoneCmd 0x0211 (List.replicate 12 0)
   let s : State := handed w0 x
   let z : Zone := 0
   let p : Phys := 0
   let i : Instr := .policyConfiguration x
   let op : BitVec 16 := 0x0211
   decide (aboutB s x z p = true) &&
   decide ((i, op) ∈ [(.zoneInputsConfiguration x, 0x0101), (.loopConfiguration x, 0x0104), (.actuatorMap x, 0x0105),
     (.outputConfiguration x, 0x0107), (.panelConfiguration x, 0x0108), (.electricalConfiguration x, 0x0110),
     (.electricalCalibration x, 0x0111), (.heatAndFlowConfiguration x, 0x0112), (.timeZoneRule x, 0x0201), (.weeklyEvents x,
     0x0202), (.exceptionDates x, 0x0203), (.tariffBands x, 0x0210), (.policyConfiguration x, 0x0211)]) &&
   decide (x.opcode = op)) &&
  (let x : Exec := zoneCmd 0x0103 [0x00, 0x80, 0x34, 0x08, 0x02, 0x07, 0x10, 0x09, 0x58, 0x02, 0x00, 0x0A, 0, 0, 0, 0]
   let s : State := handed w0 x
   let z : Zone := 0
   let p : Phys := 0
   decide (aboutB s x z p = true) &&
   decide (x.opcode = 0x0103) &&
   decide (x.u16 0 = 0x8000) &&
   decide (x.u16 2 ≠ 0x8000) &&
   decide (x.u16 4 ≠ 0x8000) &&
   decide (x.u16 6 ≠ 0x8000) &&
   decide (x.u16 8 ≠ 0x8000) &&
   decide (x.byte 11 ≠ 0xFF)) &&
  (let x : Exec := zoneCmd 0x0103 [0x34, 0x08, 0x34, 0x08, 0x02, 0x07, 0x10, 0x09, 0x58, 0x02, 0x00, 0xFF, 0, 0, 0, 0]
   let s : State := handed w0 x
   let z : Zone := 0
   let p : Phys := 0
   decide (aboutB s x z p = true) &&
   decide (x.opcode = 0x0103) &&
   decide (x.u16 0 ≠ 0x8000)) &&
  (let x : Exec := zoneCmd 0x0106 [1, 0, 2, 0, 3, 0, 4, 0, 0x10, 0x27, 0, 0]
   let s : State := handed w0 x
   let z : Zone := 0
   let p : Phys := 0
   decide (aboutB s x z p = true) &&
   decide (x.opcode = 0x0106))) = true := by decide +kernel

/-- The hypotheses of ModeAndDemandOpcodes are met (part 1 of 2). -/
theorem meets_ModeAndDemandOpcodes_1 : (
  (let x : Exec := zoneCmd 0x0102 [1, 0, 0, 0]
   let s : State := handed w0 x
   let z : Zone := 0
   let p : Phys := 0
   decide (aboutB s x z p = true) &&
   decide (x.opcode = 0x0102) &&
   decide (isTimed (x.byte 0) = false)) &&
  (let x : Exec := zoneCmd 0x0102 [4, 0, 5, 0]
   let s : State := handed (w0.onLp 0 (fun y => { y with cmd := 1, pboost := 3 })) x
   let z : Zone := 0
   let p : Phys := 0
   decide (aboutB s x z p = true) &&
   decide (x.opcode = 0x0102)) &&
  (let x : Exec := zoneCmd 0x0102 [2, 0, 0, 0]
   let s : State := handed (w0.onLp 0 (fun y =>
     { y with tune := some { lseq := 4, seq := 3, cool := false, h := 1, eps := 1, rho := 1, verify := 1 } })) x
   let z : Zone := 0
   let p : Phys := 0
   decide (aboutB s x z p = true) &&
   decide (x.opcode = 0x0102)) &&
  (let x : Exec := zoneCmd 0x0102 [5, 0, 0, 0]
   let s : State := handed w0 x
   let z : Zone := 0
   let p : Phys := 0
   decide (aboutB s x z p = true) &&
   decide (x.opcode = 0x0102)) &&
  (let x : Exec := zoneCmd 0x0102 [3, 0, 9, 0]
   let s : State := handed w0 x
   let z : Zone := 0
   let p : Phys := 0
   decide (aboutB s x z p = true) &&
   decide (x.opcode = 0x0102)) &&
  (let x : Exec := zoneCmd 0x0212 []
   let s : State := handed w0 x
   let z : Zone := 0
   let p : Phys := 0
   let b := 671
   decide (aboutB s x z p = true) &&
   decide (x.opcode = 0x0212) &&
   decide (b < 672))) = true := by decide +kernel

/-- The hypotheses of ModeAndDemandOpcodes are met (part 2 of 2). -/
theorem meets_ModeAndDemandOpcodes_2 : (
  (let x : Exec := zoneCmd 0x0303 []
   let s : State := handed (w0.w 0 F.ZE_DMD_MAX_MAX 777) x
   let z : Zone := 0
   let p : Phys := 0
   decide (aboutB s x z p = true) &&
   decide (x.opcode = 0x0303)) &&
  (let x : Exec := zoneCmd 0x0303 []
   let s : State := handed w0 x
   let z : Zone := 0
   let p : Phys := 0
   decide (aboutB s x z p = true) &&
   decide (x.opcode = 0x0303))) = true := by decide +kernel

/-- The hypotheses of OneTimeActions are met (part 1 of 3). -/
theorem meets_OneTimeActions_1 : (
  (let x : Exec := zoneCmd 0x0109 [3, 0, 0x64, 0]
   let s : State := handed w0 x
   let z : Zone := 0
   let p : Phys := 0
   let j : Out := (if x.byte 0 = 3 then 3 else 4)
   decide (aboutB s x z p = true) &&
   decide (x.opcode = 0x0109) &&
   decide ((∀ k : Out, s.g p F.ZL_ACT_j_FUNC k ≠ 4 ∧ s.g p F.ZL_ACT_j_FUNC k ≠ 5)) &&
   decide ((s.out p j).held = false) &&
   decide ((s.out p j).latched = false)) &&
  (let x : Exec := zoneCmd 0x0109 [4, 0, 0x01, 0]
   let s : State := handed w0 x
   let z : Zone := 0
   let p : Phys := 0
   let j : Out := (if x.byte 0 = 3 then 3 else 4)
   decide (aboutB s x z p = true) &&
   decide (x.opcode = 0x0109) &&
   decide ((∀ k : Out, s.g p F.ZL_ACT_j_FUNC k ≠ 4 ∧ s.g p F.ZL_ACT_j_FUNC k ≠ 5)) &&
   decide ((s.out p j).held = false) &&
   decide ((s.out p j).latched = false)) &&
  (let x : Exec := zoneCmd 0x0109 [4, 0, 0x64, 0]
   let s : State := handed (w0.onOut 0 4 (fun y => { y with held := true })) x
   let z : Zone := 0
   let p : Phys := 0
   let j : Out := (if x.byte 0 = 3 then 3 else 4)
   decide (aboutB s x z p = true) &&
   decide (x.opcode = 0x0109) &&
   decide ((∀ k : Out, s.g p F.ZL_ACT_j_FUNC k ≠ 4 ∧ s.g p F.ZL_ACT_j_FUNC k ≠ 5)) &&
   decide ((s.out p j).held = true)) &&
  (let x : Exec := zoneCmd 0x0109 [4, 0, 0x64, 0]
   let s : State := handed (w0.onOut 0 4 (fun y => { y with latched := true })) x
   let z : Zone := 0
   let p : Phys := 0
   let j : Out := (if x.byte 0 = 3 then 3 else 4)
   decide (aboutB s x z p = true) &&
   decide (x.opcode = 0x0109) &&
   decide ((∀ k : Out, s.g p F.ZL_ACT_j_FUNC k ≠ 4 ∧ s.g p F.ZL_ACT_j_FUNC k ≠ 5)) &&
   decide ((s.out p j).held = false) &&
   decide ((s.out p j).latched = true))) = true := by decide +kernel

/-- The hypotheses of OneTimeActions are met (part 2 of 3). -/
theorem meets_OneTimeActions_2 : (
  (let x : Exec := zoneCmd 0x0120 [1, 10, 20, 0, 0, 0, 0, 0]
   let s : State := handed (((w0.onLp 0 (fun y => { y with mode := 1 })).w 0 F.ZI_TCFG_n_ROLE 1 0).wb 0 F.ZI_T_n_VALID true
     0) x
   let z : Zone := 0
   let p : Phys := 0
   decide (aboutB s x z p = true) &&
   decide (x.opcode = 0x0120) &&
   decide ((s.lp p).tune = none) &&
   decide ((s.lp p).mode ≠ 0) &&
   decide ((s.lp p).mode ≠ 5) &&
   decide ((s.lp p).mode ≠ 6) &&
   decide (roomInputs s p ≠ [])) &&
  (let x : Exec := zoneCmd 0x0120 [0, 10, 20, 0, 0, 0, 0, 0]
   let s : State := handed (((w0.onLp 0 (fun y => { y with mode := 1 })).w 0 F.ZI_TCFG_n_ROLE 1 0).wb 0 F.ZI_T_n_VALID true
     0) x
   let z : Zone := 0
   let p : Phys := 0
   decide (aboutB s x z p = true) &&
   decide (x.opcode = 0x0120) &&
   decide ((s.lp p).tune = none) &&
   decide ((s.lp p).mode ≠ 0) &&
   decide ((s.lp p).mode ≠ 5) &&
   decide ((s.lp p).mode ≠ 6) &&
   decide (roomInputs s p ≠ [])) &&
  (let x : Exec := zoneCmd 0x0120 [0, 10, 20, 0, 0, 0, 0, 0]
   let s : State := handed w0 x
   let z : Zone := 0
   let p : Phys := 0
   decide (aboutB s x z p = true) &&
   decide (x.opcode = 0x0120) &&
   decide ((s.lp p).tune = none) &&
   decide ((s.lp p).mode = 0 ∨ (s.lp p).mode = 5 ∨ (s.lp p).mode = 6 ∨ roomInputs s p = [])) &&
  (let x : Exec := zoneCmd 0x0120 [0, 10, 20, 0, 0, 0, 0, 0]
   let s : State := handed (w0.onLp 0 (fun y => { y with mode := 1 })) x
   let z : Zone := 0
   let p : Phys := 0
   decide (aboutB s x z p = true) &&
   decide (x.opcode = 0x0120) &&
   decide ((s.lp p).tune = none) &&
   decide ((s.lp p).mode = 0 ∨ (s.lp p).mode = 5 ∨ (s.lp p).mode = 6 ∨ roomInputs s p = []))) = true := by decide +kernel

/-- The hypotheses of OneTimeActions are met (part 3 of 3). -/
theorem meets_OneTimeActions_3 : (
  (let x : Exec := zoneCmd 0x0121 []
   let s : State := handed w0 x
   let z : Zone := 0
   let p : Phys := 0
   decide (aboutB s x z p = true) &&
   decide (x.opcode = 0x0121)) &&
  (let x : Exec := zoneCmd 0x0121 []
   let s : State := handed (w0.onLp 0 (fun y =>
     { y with tune := some { lseq := 4, seq := 3, cool := false, h := 1, eps := 1, rho := 1, verify := 1 } })) x
   let z : Zone := 0
   let p : Phys := 0
   decide (aboutB s x z p = true) &&
   decide (x.opcode = 0x0121)) &&
  (let x : Exec := zoneCmd 0x0304 [1, 0, 0, 0]
   let s : State := handed w0 x
   let z : Zone := 0
   let p : Phys := 0
   decide (aboutB s x z p = true) &&
   decide (x.opcode = 0x0304) &&
   decide ((s.mt p).cap.state ≠ 1) &&
   decide ((s.mt p).cap.state ≠ 2)) &&
  (let x : Exec := zoneCmd 0x0304 [0xFF, 0xFF, 0, 0]
   let s : State := handed w0 x
   let z : Zone := 0
   let p : Phys := 0
   decide (aboutB s x z p = true) &&
   decide (x.opcode = 0x0304) &&
   decide ((s.mt p).cap.state ≠ 1) &&
   decide ((s.mt p).cap.state ≠ 2)) &&
  (let x : Exec := zoneCmd 0x0304 [1, 0, 0, 0]
   let s : State := handed (zoneUp (fun y => { y with meter := { y.meter with cap := { y.meter.cap with state := 1 } } })) x
   let z : Zone := 0
   let p : Phys := 0
   decide (aboutB s x z p = true) &&
   decide (x.opcode = 0x0304) &&
   decide ((s.mt p).cap.state = 1 ∨ (s.mt p).cap.state = 2)) &&
  (let x : Exec := zoneCmd 0x0304 [1, 0, 0, 0]
   let s : State := handed (zoneUp (fun y => { y with meter := { y.meter with cap := { y.meter.cap with state := 2 } } })) x
   let z : Zone := 0
   let p : Phys := 0
   decide (aboutB s x z p = true) &&
   decide (x.opcode = 0x0304) &&
   decide ((s.mt p).cap.state = 1 ∨ (s.mt p).cap.state = 2))) = true := by decide +kernel

/-- The hypotheses of TimeOpcodes are met (part 1 of 3). -/
theorem meets_TimeOpcodes_1 : (
  (let x : Exec := porchCmd 0x0401 [0x10, 0x27, 0, 0, 0, 0, 0, 0]
   let s : State := queued (w0.onCl (fun y => { y with trusted := true })) x
   let n : Nat := 3
   let v : Int := ((x.u64 0 + n : Nat) : Int) * usFine
   decide (readyB s x = true) &&
   decide (s.srcPort = none) &&
   decide (s.trusted = true) &&
   decide (-secFine < v - s.fine) &&
   decide (v - s.fine < secFine)) &&
  (let x : Exec := porchCmd 0x0401 [0x10, 0x27, 0, 0, 0, 0, 0, 0]
   let s : State := queued w0 x
   let n : Nat := 3
   let v : Int := ((x.u64 0 + n : Nat) : Int) * usFine
   decide (readyB s x = true) &&
   decide (s.srcPort = none) &&
   decide (s.trusted = false ∨ v - s.fine ≤ -secFine ∨ secFine ≤ v - s.fine)) &&
  (let x : Exec := porchCmd 0x0401 [0, 0, 0, 0, 0, 1, 0, 0]
   let s : State := queued (w0.onCl (fun y => { y with trusted := true })) x
   let n : Nat := 3
   let v : Int := ((x.u64 0 + n : Nat) : Int) * usFine
   decide (readyB s x = true) &&
   decide (s.srcPort = none) &&
   decide (s.trusted = false ∨ v - s.fine ≤ -secFine ∨ secFine ≤ v - s.fine)) &&
  (let x : Exec := porchCmd 0x0402 [0x10, 0x27, 0, 0]
   let s : State := queued w0 x
   let o : Int := s.time.slew + x.i32 0 * usFine
   decide (readyB s x = true) &&
   decide (s.srcPort = none) &&
   decide (-secFine < o) &&
   decide (o < secFine)) &&
  (let x : Exec := porchCmd 0x0402 [0, 0, 0, 0x80]
   let s : State := queued w0 x
   let o : Int := s.time.slew + x.i32 0 * usFine
   decide (readyB s x = true) &&
   decide (s.srcPort = none) &&
   decide (o ≤ -secFine ∨ secFine ≤ o)) &&
  (let x : Exec := porchCmd 0x0402 [0xFF, 0xFF, 0xFF, 0xFF]
   let s : State := queued w0 x
   decide (readyB s x = true) &&
   decide (s.srcPort = none)) &&
  (let x : Exec := porchCmd 0x0403 [1, 0, 0, 0]
   let s : State := queued w0 x
   decide (readyB s x = true) &&
   decide (s.srcPort = none))) = true := by decide +kernel

/-- The hypotheses of TimeOpcodes are met (part 2 of 3). -/
theorem meets_TimeOpcodes_2 : (
  (let x : Exec := porchCmd 0x0403 [2, 0, 0, 0]
   let s : State := queued (w0.onTs (fun y => { y with slew := 5 })) x
   decide (readyB s x = true) &&
   decide (s.srcPort = none)) &&
  (let x : Exec := porchCmd 0x0402 [0x10, 0x27, 0, 0]
   let s : State := queued (w0.pw F.PCH_TS_STAT_SRC 1) x
   let i : Instr := .adjustHouseTime x
   let n : Nat := 3
   decide (readyB s x = true) &&
   decide (s.srcPort ≠ none) &&
   decide (i ∈ [.setHouseTime x n, .adjustHouseTime x, .hourShift x])) &&
  (let x : Exec := porchCmd 0x0401 [0x10, 0x27, 0, 0, 0, 0, 0, 0]
   let s : State := queued (w0.pw F.PCH_TS_STAT_SRC 2) x
   let i : Instr := .setHouseTime x 3
   let n : Nat := 3
   decide (readyB s x = true) &&
   decide (s.srcPort ≠ none) &&
   decide (i ∈ [.setHouseTime x n, .adjustHouseTime x, .hourShift x])) &&
  (let x : Exec := porchCmd 0x0403 [1, 0, 0, 0]
   let s : State := queued (w0.pw F.PCH_TS_STAT_SRC 2) x
   let i : Instr := .hourShift x
   let n : Nat := 3
   decide (readyB s x = true) &&
   decide (s.srcPort ≠ none) &&
   decide (i ∈ [.setHouseTime x n, .adjustHouseTime x, .hourShift x])) &&
  (let x : Exec := porchCmd 0x0404 [2, 3, 0, 0]
   let s : State := queued w0 x
   decide (readyB s x = true) &&
   decide (x.byte 0 < 3) &&
   decide (x.byte 1 < 4)) &&
  (let x : Exec := porchCmd 0x0404 [0, 0, 0, 0]
   let s : State := queued w0 x
   decide (readyB s x = true) &&
   decide (x.byte 0 < 3) &&
   decide (x.byte 1 < 4)) &&
  (let x : Exec := porchCmd 0x0404 [1, 2, 0, 0]
   let s : State := queued (w0.onCl (fun y => { y with trusted := true })) x
   decide (readyB s x = true) &&
   decide (x.byte 0 < 3) &&
   decide (x.byte 1 < 4)) &&
  (let x : Exec := porchCmd 0x0405 [0xFF, 0xFF, 0, 0]
   let s : State := queued w0 x
   decide (readyB s x = true))) = true := by decide +kernel

/-- The hypotheses of TimeOpcodes are met (part 3 of 3). -/
theorem meets_TimeOpcodes_3 : (
  (let x : Exec := porchCmd 0x0405 [5, 0, 0, 0]
   let s : State := queued (w0.onCl (fun y => { y with locked := true })) x
   decide (readyB s x = true))) = true := by decide +kernel

/-- The hypotheses of ModuleOpcodes are met (part 1 of 2). -/
theorem meets_ModuleOpcodes_1 : (
  (let x : Exec := porchCmd 0x0701 [1, 0, 0, 0]
   let s : State := queued w0 x
   decide (readyB s x = true) &&
   decide (x.byte 0 ≤ 4) &&
   decide (x.byte 0 ≠ s.modst.state)) &&
  (let x : Exec := porchCmd 0x0701 [4, 0, 0, 0]
   let s : State := queued (wm 2) x
   decide (readyB s x = true) &&
   decide (x.byte 0 ≤ 4) &&
   decide (x.byte 0 ≠ s.modst.state)) &&
  (let x : Exec := porchCmd 0x0701 [2, 0, 0, 0]
   let s : State := queued (wm 3) x
   decide (readyB s x = true) &&
   decide (x.byte 0 ≤ 4) &&
   decide (x.byte 0 ≠ s.modst.state)) &&
  (let x : Exec := porchCmd 0x0701 [0, 0, 0, 0]
   let s : State := queued (wm 1) x
   decide (readyB s x = true) &&
   decide (x.byte 0 ≤ 4) &&
   decide (x.byte 0 ≠ s.modst.state)) &&
  (let x : Exec := porchCmd 0x0701 [3, 0, 0, 0]
   let s : State := queued (wm 2) x
   decide (readyB s x = true) &&
   decide (x.byte 0 ≤ 4) &&
   decide (x.byte 0 ≠ s.modst.state)) &&
  (let x : Exec := porchCmd 0x0701 [4, 0, 0, 0]
   let s : State := queued (wm 4) x
   decide (readyB s x = true) &&
   decide (x.byte 0 = s.modst.state)) &&
  (let x : Exec := porchCmd 0x0702 [0x34, 0x12, 0, 0]
   let s : State := (queued w0 x).onJ (fun j =>
     { j with slots := [(3, { source := 0x1234, hwm := 5 })], book := [{ slot := 3, seq := 4, crc := 0, lseq := 2, final := true }] })
   let k := 3
   decide (readyB s x = true) &&
   decide (slotOf s (BitVec.ofNat 16 (x.u16 0)) = some k)) &&
  (let x : Exec := porchCmd 0x0702 [0x34, 0x12, 0, 0]
   let s : State := queued w0 x
   decide (readyB s x = true)) &&
  (let x : Exec := porchCmd 0x0703 [72, 0, 0, 0]
   let s : State := queued w0 x
   decide (readyB s x = true)) &&
  (let x : Exec := porchCmd 0x0703 [255, 0, 0, 0]
   let s : State := queued w0 x
   decide (readyB s x = true))) = true := by decide +kernel

/-- The hypotheses of ModuleOpcodes are met (part 2 of 2). -/
theorem meets_ModuleOpcodes_2 : (
  (let x : Exec := porchCmd 0x0704 [1, 5, 1, 0, 3, 1, 0, 0]
   let s : State := queued w0 x
   let i : Fin 2 := (if x.byte 0 = 0 then 0 else 1)
   decide (readyB s x = true) &&
   decide (carriedBy s x.lseq ≠ some i)) &&
  (let x : Exec := porchCmd 0x0704 [0, 255, 255, 255, 3, 1, 0, 0]
   let s : State := queued w0 x
   decide (readyB s x = true)) &&
  (let x : Exec := porchCmd 0x0704 [1, 5, 1, 0, 3, 1, 0, 0]
   let s : State := w0.onJ (fun j => { j with porchQ := [x], running := [{ x := x, path := some (.busB) }] })
   let i : Fin 2 := (if x.byte 0 = 0 then 0 else 1)
   decide (readyB s x = true) &&
   decide (carriedBy s x.lseq = some i)) &&
  (let x : Exec := porchCmd 0x7F02 [8, 0, 0, 0]
   let s : State := queued (wm 3) x
   let m : Word := 7
   let w : Word := testWord s (x.byte 0) m
   decide (readyB s x = true) &&
   decide (testFails s (x.byte 0) w = true)) &&
  (let x : Exec := porchCmd 0x7F02 [1, 0, 0, 0]
   let s : State := queued (wm 1) x
   decide (readyB s x = true)) &&
  (let x : Exec := porchCmd 0x7F02 [3, 0, 0, 0]
   let s : State := queued (wm 1) x
   decide (readyB s x = true)) &&
  (let x : Exec := porchCmd 0x7F02 [2, 0, 0, 0]
   let s : State := queued (wm 3) x
   decide (readyB s x = true)) &&
  (let x : Exec := porchCmd 0x7F03 [5, 0, 0, 0, 0x01, 0x4F, 0, 0]
   let s : State := queued w0 x
   decide (readyB s x = true)) &&
  (let x : Exec := porchCmd 0x7F03 [0x02, 0x01, 0, 0, 0x01, 0xCF, 7, 0]
   let s : State := queued w0 x
   decide (readyB s x = true)) &&
  (let x : Exec := porchCmd 0x7F01 [0, 0, 0, 0]
   let s : State := queued w0 x
   decide (readyB s x = true)) &&
  (let x : Exec := porchCmd 0x7F01 [0, 0, 0, 0]
   let s : State := queued (wm 2) x
   decide (readyB s x = true))) = true := by decide +kernel

/-- The hypotheses of PorchOpcodes are met (part 1 of 3). -/
theorem meets_PorchOpcodes_1 : (
  (let x : Exec := porchCmd 0x0301 [60, 0, 0, 0]
   let s : State := queued w0 x
   decide (readyB s x = true)) &&
  (let x : Exec := porchCmd 0x0301 [1, 0, 0, 0]
   let s : State := queued w0 x
   decide (readyB s x = true)) &&
  (let x : Exec := porchCmd 0x0302 [1, 0, 0, 0]
   let s : State := queued (w0.onRs (fun y => { y with lastSeq := 1 })) x
   decide (readyB s x = true) &&
   decide (s.store.acked < x.u32 0) &&
   decide (x.u32 0 ≤ s.store.lastSeq)) &&
  (let x : Exec := porchCmd 0x0501 [1, 0, 0, 0, 9, 0, 0, 0]
   let s : State := queued w0 x
   decide (readyB s x = true) &&
   decide (s.landing.entry = none) &&
   decide (x.byte 0 = 1)) &&
  (let x : Exec := porchCmd 0x0501 [2, 0, 0, 0, 9, 0, 0, 0]
   let s : State := queued w0 x
   decide (readyB s x = true) &&
   decide (s.landing.entry = none) &&
   decide (x.byte 0 ≠ 1)) &&
  (let x : Exec := porchCmd 0x0501 [3, 0, 0, 0, 0, 0, 0, 0]
   let s : State := queued w0 x
   decide (readyB s x = true) &&
   decide (s.landing.entry = none) &&
   decide (x.byte 0 ≠ 1)) &&
  (let x : Exec := porchCmd 0x0501 [2, 0, 0, 0, 9, 0, 0, 0]
   let s : State := queued (w0.onLd (fun y =>
     { y with entry := some { target := 2, wakeAfter := 0, lseq := 3, asking := [] } })) x
   decide (readyB s x = true) &&
   decide (s.landing.entry ≠ none)) &&
  (let x : Exec := porchCmd 0x0501 [1, 0, 0, 0, 9, 0, 0, 0]
   let s : State := queued (w0.onLd (fun y =>
     { y with entry := some { target := 2, wakeAfter := 0, lseq := 3, asking := [] } })) x
   decide (readyB s x = true) &&
   decide (s.landing.entry ≠ none)) &&
  (let x : Exec := porchCmd 0x0602 [67, 0, 0, 0]
   let s : State := queued w0 x
   let p : Phys := 67
   decide (readyB s x = true) &&
   decide (namedSlice x = some p) &&
   decide (s.zoneOf p = none))) = true := by decide +kernel

/-- The hypotheses of PorchOpcodes are met (part 2 of 3). -/
theorem meets_PorchOpcodes_2 : (
  (let x : Exec := porchCmd 0x0602 [65, 0, 0, 0]
   let s : State := queued (w0.onSl 65 (fun y => { y with life := .failed })) x
   let p : Phys := 65
   decide (readyB s x = true) &&
   decide (namedSlice x = some p) &&
   decide (s.zoneOf p = none)) &&
  (let x : Exec := { porchCmd 0x0603 [0x40, 0, 0, 0] with zmask := 3 }
   let s : State := queued w0 x
   let z := 1
   decide (readyB s x = true) &&
   decide (∀ z : Zone, x.names z = true → marked s x.lseq z.val = false) &&
   decide (x.names z = true)) &&
  (let x : Exec := porchCmd 0x0604 [64, 0, 0, 0]
   let s : State := queued w0 x
   let p : Phys := 64
   decide (readyB s x = true) &&
   decide (namedSlice x = some p) &&
   decide (x.byte 1 = 0) &&
   decide (s.zoneOf p = none) &&
   decide ((s.sl p).life ≠ .factoryOut)) &&
  (let x : Exec := porchCmd 0x0604 [65, 0, 0, 0]
   let s : State := queued (w0.onSl 65 (fun y => { y with life := .failed })) x
   let p : Phys := 65
   decide (readyB s x = true) &&
   decide (namedSlice x = some p) &&
   decide (x.byte 1 = 0) &&
   decide (s.zoneOf p = none) &&
   decide ((s.sl p).life ≠ .factoryOut)) &&
  (let x : Exec := porchCmd 0x0605 [1, 30, 0, 0]
   let s : State := queued w0 x
   decide (readyB s x = true)) &&
  (let x : Exec := porchCmd 0x0605 [0, 255, 0, 0]
   let s : State := queued w0 x
   decide (readyB s x = true)) &&
  (let x : Exec := porchCmd 0x0606 [1, 0, 0, 0]
   let s : State := queued w0 x
   let b : Fin 2 := (if x.byte 0 = 0 then 0 else 1)
   decide (readyB s x = true) &&
   decide ((s.bank b).ok = true)) &&
  (let x : Exec := porchCmd 0x0606 [0, 0, 0, 0]
   let s : State := queued (w0.onUp (fun y => { y with banks := y.banks.set 1 { y.banks[1] with ok := false } })) x
   let b : Fin 2 := (if x.byte 0 = 0 then 0 else 1)
   decide (readyB s x = true) &&
   decide ((s.bank b).ok = true))) = true := by decide +kernel

/-- The hypotheses of PorchOpcodes are met (part 3 of 3). -/
theorem meets_PorchOpcodes_3 : (
  (let x : Exec := porchCmd 0x0606 [1, 0, 0, 0]
   let s : State := queued (w0.onUp (fun y => { y with banks := y.banks.set 1 { y.banks[1] with ok := false } })) x
   let pass : Bool := true
   let l : List (Fin 8192) := []
   let b : Fin 2 := (if x.byte 0 = 0 then 0 else 1)
   decide (readyB s x = true) &&
   decide ((s.bank b).ok = false) &&
   decide (pass = true) &&
   decide (l = []) &&
   decide (8 ≤ (s.bank b).spares)) &&
  (let x : Exec := porchCmd 0x0606 [1, 0, 0, 0]
   let s : State := queued (w0.onUp (fun y => { y with banks := y.banks.set 1 { y.banks[1] with ok := false } })) x
   let pass : Bool := false
   let b : Fin 2 := (if x.byte 0 = 0 then 0 else 1)
   decide (readyB s x = true) &&
   decide ((s.bank b).ok = false) &&
   decide (pass = false))) = true := by decide +kernel

/-- The hypotheses of PowerHandshake are met (part 1 of 4). -/
theorem meets_PowerHandshake_1 : (
  (let s : State := asking w0 (.slice 0)
   let e : PwrEntry := { target := 2, wakeAfter := 30, lseq := 9, asking := [.slice 0], delays := 0 }
   let b : Block := .slice 0
   let rest : List Block := []
   let v : Vote := .agree
   let r : BitVec 8 := 0
   let k := 0
   let p := 0
   decide (s.landing.entry = some e) &&
   decide (e.deferred = false) &&
   decide (e.asking = b :: rest) &&
   decide (e.waiting = false) &&
   decide (answerOf s b v r.toNat = (.agree, k)) &&
   decide (b ≠ .porch) &&
   decide (b = .slice p)) &&
  (let s : State := asking w0 .mram
   let e : PwrEntry := { target := 2, wakeAfter := 30, lseq := 9, asking := [.mram], delays := 0 }
   let b : Block := .mram
   let rest : List Block := []
   let v : Vote := .agree
   let r : BitVec 8 := 0
   let k := 0
   decide (s.landing.entry = some e) &&
   decide (e.deferred = false) &&
   decide (e.asking = b :: rest) &&
   decide (e.waiting = false) &&
   decide (answerOf s b v r.toNat = (.agree, k)) &&
   decide (b ≠ .porch)) &&
  (let s : State := w0.onLd (fun y =>
     { y with entry := some { target := 3, wakeAfter := 30, lseq := 9, asking := [.slice 0, .porch] } })
   let e : PwrEntry := { target := 3, wakeAfter := 30, lseq := 9, asking := [.slice 0, .porch] }
   let b : Block := .slice 0
   let rest : List Block := [.porch]
   let v : Vote := .agree
   let r : BitVec 8 := 0
   let k := 0
   decide (s.landing.entry = some e) &&
   decide (e.deferred = false) &&
   decide (e.asking = b :: rest) &&
   decide (e.waiting = false) &&
   decide (answerOf s b v r.toNat = (.agree, k)) &&
   decide (b ≠ .porch))) = true := by decide +kernel

/-- The hypotheses of PowerHandshake are met (part 2 of 4). -/
theorem meets_PowerHandshake_2 : (
  (let s : State := w0.onLd (fun y =>
     { y with entry := some { target := 3, wakeAfter := 30, lseq := 9, asking := [.hallway, .mram] } })
   let e : PwrEntry := { target := 3, wakeAfter := 30, lseq := 9, asking := [.hallway, .mram] }
   let b : Block := .hallway
   let rest : List Block := [.mram]
   let v : Vote := .agree
   let r : BitVec 8 := 0
   let k := 0
   decide (s.landing.entry = some e) &&
   decide (e.deferred = false) &&
   decide (e.asking = b :: rest) &&
   decide (e.waiting = false) &&
   decide (answerOf s b v r.toNat = (.agree, k)) &&
   decide (b ≠ .porch)) &&
  (let s : State := asking w0 .porch
   let e : PwrEntry := { target := 2, wakeAfter := 30, lseq := 9, asking := [.porch], delays := 0 }
   let b : Block := .porch
   let rest : List Block := []
   decide (s.landing.entry = some e) &&
   decide (e.deferred = false) &&
   decide (e.asking = b :: rest) &&
   decide (e.waiting = false) &&
   decide (b = .porch) &&
   decide (s.cellar.queue = [])) &&
  (let s : State := asking w0 .mram
   let e : PwrEntry := { target := 2, wakeAfter := 30, lseq := 9, asking := [.mram], delays := 0 }
   let b : Block := .mram
   let rest : List Block := []
   let v : Vote := .delay
   let r : BitVec 8 := 0
   let k := 0
   decide (s.landing.entry = some e) &&
   decide (e.deferred = false) &&
   decide (e.asking = b :: rest) &&
   decide (e.waiting = false) &&
   decide (answerOf s b v r.toNat = (.delay, k)) &&
   decide (e.delays < 3))) = true := by decide +kernel

/-- The hypotheses of PowerHandshake are met (part 3 of 4). -/
theorem meets_PowerHandshake_3 : (
  (let s : State := asking w0 .mram 3
   let e : PwrEntry := { target := 2, wakeAfter := 30, lseq := 9, asking := [.mram], delays := 3 }
   let b : Block := .mram
   let rest : List Block := []
   let v : Vote := .delay
   let r : BitVec 8 := 0
   let k := 0
   decide (s.landing.entry = some e) &&
   decide (e.deferred = false) &&
   decide (e.asking = b :: rest) &&
   decide (e.waiting = false) &&
   decide (answerOf s b v r.toNat = (.delay, k)) &&
   decide (3 ≤ e.delays)) &&
  (let s : State := asking w0 .mram
   let e : PwrEntry := { target := 2, wakeAfter := 30, lseq := 9, asking := [.mram], delays := 0 }
   let b : Block := .mram
   let rest : List Block := []
   let v : Vote := .refuse
   let r : BitVec 8 := 9
   let k := 9
   decide (s.landing.entry = some e) &&
   decide (e.deferred = false) &&
   decide (e.asking = b :: rest) &&
   decide (e.waiting = false) &&
   decide (answerOf s b v r.toNat = (.refuse, k))) &&
  (let s : State := asking w0 (.slice 0)
   let e : PwrEntry := { target := 2, wakeAfter := 30, lseq := 9, asking := [.slice 0], delays := 0 }
   let b : Block := .slice 0
   let rest : List Block := []
   let v : Vote := .refuse
   let r : BitVec 8 := 255
   let k := 255
   decide (s.landing.entry = some e) &&
   decide (e.deferred = false) &&
   decide (e.asking = b :: rest) &&
   decide (e.waiting = false) &&
   decide (answerOf s b v r.toNat = (.refuse, k)))) = true := by decide +kernel

/-- The hypotheses of PowerHandshake are met (part 4 of 4). -/
theorem meets_PowerHandshake_4 : (
  (let s : State := w0.onLd (fun y =>
     { y with entry := some { target := 2, wakeAfter := 30, lseq := 9, asking := [.mram], waiting := true } })
   let e : PwrEntry := { target := 2, wakeAfter := 30, lseq := 9, asking := [.mram], waiting := true }
   let b : Block := .mram
   let rest : List Block := []
   decide (s.landing.entry = some e) &&
   decide (e.deferred = false) &&
   decide (e.asking = b :: rest) &&
   decide (e.waiting = true))) = true := by decide +kernel

/-- The hypotheses of EntryBoundary are met. -/
theorem meets_EntryBoundary : (
  (let e : PwrEntry := { target := 2, wakeAfter := 0, lseq := 9, asking := [], deferred := true, aborts := 1 }
   let s : State := w0.onLd (fun y => { y with entry := some e })
   decide (s.landing.entry = some e) &&
   decide (e.deferred = true)) &&
  (let e : PwrEntry := { target := 2, wakeAfter := 0, lseq := 9, asking := [], aborts := 0 }
   let s : State := w0.onLd (fun y => { y with entry := some e })
   decide (s.landing.entry = some e) &&
   decide (e.deferred = false) &&
   decide (e.aborts = 0)) &&
  (let e : PwrEntry := { target := 2, wakeAfter := 0, lseq := 9, asking := [], aborts := 1 }
   let s : State := w0.onLd (fun y => { y with entry := some e })
   decide (s.landing.entry = some e) &&
   decide (e.deferred = false) &&
   decide (e.aborts ≠ 0))) = true := by decide +kernel

/-- The hypotheses of WakeEvents are met (part 1 of 2). -/
theorem meets_WakeEvents_1 : (
  (let s : State := w0.onLd (fun y => { y with state := 2 })
   let src : WakeSrc := .link
   decide (s.supply.powered = true) &&
   decide (wakeEnabled s src = true) &&
   decide (s.cellar.queue = []) &&
   decide (s.landing.state = 2 ∨ s.landing.state = 3)) &&
  (let s : State := (w0.pwb F.FB_CFG_EN true 1).onLd (fun y => { y with state := 3 })
   let src : WakeSrc := .knockB
   decide (s.supply.powered = true) &&
   decide (wakeEnabled s src = true) &&
   decide (s.cellar.queue = []) &&
   decide (s.landing.state = 2 ∨ s.landing.state = 3)) &&
  (let s : State := asking w0 .mram
   let src : WakeSrc := .link
   decide (s.supply.powered = true) &&
   decide (wakeEnabled s src = true) &&
   decide (s.cellar.queue = []) &&
   decide (s.landing.state ≤ 1) &&
   decide (s.landing.entry ≠ none)) &&
  (let s : State := w0
   let src : WakeSrc := .link
   decide (s.supply.powered = true) &&
   decide (wakeEnabled s src = true) &&
   decide (s.cellar.queue = []) &&
   decide (s.landing.state ≤ 1) &&
   decide (s.landing.entry = none)) &&
  (let s : State := w0.onLd (fun y => { y with state := 1 })
   let src : WakeSrc := .link
   decide (s.supply.powered = true) &&
   decide (wakeEnabled s src = true) &&
   decide (s.cellar.queue = []) &&
   decide (s.landing.state ≤ 1) &&
   decide (s.landing.entry = none)) &&
  (let s : State := (w0.onLd (fun y => { y with state := 3 })).onCl (fun y => { y with timer := 1 })
   decide (s.supply.powered = true) &&
   decide (s.cellar.timer ≠ 0) &&
   decide (s.cellar.queue = []) &&
   decide (s.landing.state = 2 ∨ s.landing.state = 3)) &&
  (let s : State := (w0.onLd (fun y => { y with state := 2 })).onCl (fun y => { y with timer := 1 })
   decide (s.supply.powered = true) &&
   decide (s.cellar.timer ≠ 0) &&
   decide (s.cellar.queue = []) &&
   decide (s.landing.state = 2 ∨ s.landing.state = 3))) = true := by decide +kernel

/-- The hypotheses of WakeEvents are met (part 2 of 2). -/
theorem meets_WakeEvents_2 : (
  (let s : State := (w0.onCl (fun y => { y with queue := [{ src := 6, state := 2, time := 5 }] })).onJ (fun y =>
     { y with opened := true, replay := false })
   let w := { src := 6, state := 2, time := 5 }
   let q := []
   decide (s.supply.powered = true) &&
   decide (s.cellar.queue = w :: q) &&
   decide (s.porchRuns = true) &&
   decide (s.journal.opened = true) &&
   decide (s.journal.replay = false))) = true := by decide +kernel

/-- The hypotheses of DieSensors are met (part 1 of 3). -/
theorem meets_DieSensors_1 : (
  (let s : State := w0
   let t1 : Int := 2500
   let t2 : Int := 2500
   let t3 : Int := 2500
   let v : Vector DieSensor 3 := #v[sensorStep s.thermal.sens[0] t1 t2 t3 (sampleMs s), sensorStep s.thermal.sens[1] t2 t1
     t3 (sampleMs s), sensorStep s.thermal.sens[2] t3 t1 t2 (sampleMs s)]
   decide (s.porchRuns = true) &&
   decide (v = #v[sensorStep s.thermal.sens[0] t1 t2 t3 (sampleMs s), sensorStep s.thermal.sens[1] t2 t1 t3 (sampleMs s),
     sensorStep s.thermal.sens[2] t3 t1 t2 (sampleMs s)])) &&
  (let s : State := w0
   let t1 : Int := 2500
   let t2 : Int := 9000
   let t3 : Int := 2500
   let v : Vector DieSensor 3 := #v[sensorStep s.thermal.sens[0] t1 t2 t3 (sampleMs s), sensorStep s.thermal.sens[1] t2 t1
     t3 (sampleMs s), sensorStep s.thermal.sens[2] t3 t1 t2 (sampleMs s)]
   decide (s.porchRuns = true) &&
   decide (v = #v[sensorStep s.thermal.sens[0] t1 t2 t3 (sampleMs s), sensorStep s.thermal.sens[1] t2 t1 t3 (sampleMs s),
     sensorStep s.thermal.sens[2] t3 t1 t2 (sampleMs s)])) &&
  (let s : State := w0
   let t1 : Int := -4000
   let t2 : Int := -4000
   let t3 : Int := -4000
   let v : Vector DieSensor 3 := #v[sensorStep s.thermal.sens[0] t1 t2 t3 (sampleMs s), sensorStep s.thermal.sens[1] t2 t1
     t3 (sampleMs s), sensorStep s.thermal.sens[2] t3 t1 t2 (sampleMs s)]
   decide (s.porchRuns = true) &&
   decide (v = #v[sensorStep s.thermal.sens[0] t1 t2 t3 (sampleMs s), sensorStep s.thermal.sens[1] t2 t1 t3 (sampleMs s),
     sensorStep s.thermal.sens[2] t3 t1 t2 (sampleMs s)])) &&
  (let s : State := w0
   let t1 : Int := 2500
   let t2 : Int := 9000
   let t3 : Int := 20000
   let v : Vector DieSensor 3 := #v[sensorStep s.thermal.sens[0] t1 t2 t3 (sampleMs s), sensorStep s.thermal.sens[1] t2 t1
     t3 (sampleMs s), sensorStep s.thermal.sens[2] t3 t1 t2 (sampleMs s)]
   decide (s.porchRuns = true) &&
   decide (v = #v[sensorStep s.thermal.sens[0] t1 t2 t3 (sampleMs s), sensorStep s.thermal.sens[1] t2 t1 t3 (sampleMs s),
     sensorStep s.thermal.sens[2] t3 t1 t2 (sampleMs s)]))) = true := by decide +kernel

/-- The hypotheses of DieSensors are met (part 2 of 3). -/
theorem meets_DieSensors_2 : (
  (let s : State := w0
   let t1 : Int := 9500
   let t2 : Int := 9500
   let t3 : Int := 9500
   let v : Vector DieSensor 3 := #v[sensorStep s.thermal.sens[0] t1 t2 t3 (sampleMs s), sensorStep s.thermal.sens[1] t2 t1
     t3 (sampleMs s), sensorStep s.thermal.sens[2] t3 t1 t2 (sampleMs s)]
   decide (s.porchRuns = true) &&
   decide (v = #v[sensorStep s.thermal.sens[0] t1 t2 t3 (sampleMs s), sensorStep s.thermal.sens[1] t2 t1 t3 (sampleMs s),
     sensorStep s.thermal.sens[2] t3 t1 t2 (sampleMs s)]) &&
   decide (9500 ≤ (voted v).1) &&
   decide (s.thermal.warn = false)) &&
  (let s : State := w0
   let t1 : Int := 9000
   let t2 : Int := 9000
   let t3 : Int := 9000
   let v : Vector DieSensor 3 := #v[sensorStep s.thermal.sens[0] t1 t2 t3 (sampleMs s), sensorStep s.thermal.sens[1] t2 t1
     t3 (sampleMs s), sensorStep s.thermal.sens[2] t3 t1 t2 (sampleMs s)]
   decide (s.porchRuns = true) &&
   decide (v = #v[sensorStep s.thermal.sens[0] t1 t2 t3 (sampleMs s), sensorStep s.thermal.sens[1] t2 t1 t3 (sampleMs s),
     sensorStep s.thermal.sens[2] t3 t1 t2 (sampleMs s)]) &&
   decide ((voted v).1 ≤ 9000)) &&
  (let s : State := w0
   let t1 : Int := 9250
   let t2 : Int := 9250
   let t3 : Int := 9250
   let v : Vector DieSensor 3 := #v[sensorStep s.thermal.sens[0] t1 t2 t3 (sampleMs s), sensorStep s.thermal.sens[1] t2 t1
     t3 (sampleMs s), sensorStep s.thermal.sens[2] t3 t1 t2 (sampleMs s)]
   decide (s.porchRuns = true) &&
   decide (v = #v[sensorStep s.thermal.sens[0] t1 t2 t3 (sampleMs s), sensorStep s.thermal.sens[1] t2 t1 t3 (sampleMs s),
     sensorStep s.thermal.sens[2] t3 t1 t2 (sampleMs s)]) &&
   decide (9000 < (voted v).1) &&
   decide ((voted v).1 < 9500)) &&
  (let s : State := { w0 with thermal := { w0.thermal with warn := true } }
   let t1 : Int := 9499
   let t2 : Int := 9499
   let t3 : Int := 9499
   let v : Vector DieSensor 3 := #v[sensorStep s.thermal.sens[0] t1 t2 t3 (sampleMs s), sensorStep s.thermal.sens[1] t2 t1
     t3 (sampleMs s), sensorStep s.thermal.sens[2] t3 t1 t2 (sampleMs s)]
   decide (s.porchRuns = true) &&
   decide (v = #v[sensorStep s.thermal.sens[0] t1 t2 t3 (sampleMs s), sensorStep s.thermal.sens[1] t2 t1 t3 (sampleMs s),
     sensorStep s.thermal.sens[2] t3 t1 t2 (sampleMs s)]) &&
   decide (9000 < (voted v).1) &&
   decide ((voted v).1 < 9500))) = true := by decide +kernel

/-- The hypotheses of DieSensors are met (part 3 of 3). -/
theorem meets_DieSensors_3 : (
  (let s : State := w0
   let t1 : Int := 10500
   let t2 : Int := 10500
   let t3 : Int := 10500
   let v : Vector DieSensor 3 := #v[sensorStep s.thermal.sens[0] t1 t2 t3 (sampleMs s), sensorStep s.thermal.sens[1] t2 t1
     t3 (sampleMs s), sensorStep s.thermal.sens[2] t3 t1 t2 (sampleMs s)]
   decide (s.porchRuns = true) &&
   decide (v = #v[sensorStep s.thermal.sens[0] t1 t2 t3 (sampleMs s), sensorStep s.thermal.sens[1] t2 t1 t3 (sampleMs s),
     sensorStep s.thermal.sens[2] t3 t1 t2 (sampleMs s)]) &&
   decide (10500 ≤ (voted v).1)) &&
  (let s : State := w0
   let t1 : Int := 10000
   let t2 : Int := 10000
   let t3 : Int := 10000
   let v : Vector DieSensor 3 := #v[sensorStep s.thermal.sens[0] t1 t2 t3 (sampleMs s), sensorStep s.thermal.sens[1] t2 t1
     t3 (sampleMs s), sensorStep s.thermal.sens[2] t3 t1 t2 (sampleMs s)]
   decide (s.porchRuns = true) &&
   decide (v = #v[sensorStep s.thermal.sens[0] t1 t2 t3 (sampleMs s), sensorStep s.thermal.sens[1] t2 t1 t3 (sampleMs s),
     sensorStep s.thermal.sens[2] t3 t1 t2 (sampleMs s)]) &&
   decide ((voted v).1 ≤ 10000)) &&
  (let s : State := w0
   let t1 : Int := 12500
   let t2 : Int := 12500
   let t3 : Int := 12500
   let v : Vector DieSensor 3 := #v[sensorStep s.thermal.sens[0] t1 t2 t3 (sampleMs s), sensorStep s.thermal.sens[1] t2 t1
     t3 (sampleMs s), sensorStep s.thermal.sens[2] t3 t1 t2 (sampleMs s)]
   decide (s.porchRuns = true) &&
   decide (v = #v[sensorStep s.thermal.sens[0] t1 t2 t3 (sampleMs s), sensorStep s.thermal.sens[1] t2 t1 t3 (sampleMs s),
     sensorStep s.thermal.sens[2] t3 t1 t2 (sampleMs s)]) &&
   decide (12500 ≤ (voted v).1))) = true := by decide +kernel

/-- The hypotheses of SliceFaults are met (part 1 of 2). -/
theorem meets_SliceFaults_1 : (
  (let s : State := sliceUp (fun y => { y with misses := [0] })
   let p : Phys := 0
   let n : Nat := 3
   let i : Instr := .heartbeatMiss 0
   let cause : Nat := 2
   let code : Nat := 0x8802
   decide ((i = .heartbeatMiss p ∧ cause = 2 ∧ code = 0x8802 ∧ (s.sl p).running = true ∧ (recent s.now 3600000000 (s.sl
     p).misses).isEmpty = false) ∨ (i = .sramUncorrectable p ∧ cause = 3 ∧ code = 0x8803 ∧ (s.sl p).running = true ∧ (recent
     s.now dayUs (s.sl p).uncorr).isEmpty = false) ∨ (i = .sramScrub p n true ∧ cause = 4 ∧ code = 0x8803 ∧ (s.sl p).running
     = true ∧ s.g p F.ZW_G_SRAM_COLS_LEFT ≤ (s.sl p).badCols) ∨ (i = .sliceRegulatorTrip p ∧ cause = 1 ∧ code = 0x8801 ∧
     powered s p = true) ∨ (i = .sliceClockCalibrationFailed p ∧ cause = 5 ∧ code = 0x8804 ∧ powered s p = true))) &&
  (let s : State := sliceUp (fun y => { y with uncorr := [0] })
   let p : Phys := 0
   let n : Nat := 3
   let i : Instr := .sramUncorrectable 0
   let cause : Nat := 3
   let code : Nat := 0x8803
   decide ((i = .heartbeatMiss p ∧ cause = 2 ∧ code = 0x8802 ∧ (s.sl p).running = true ∧ (recent s.now 3600000000 (s.sl
     p).misses).isEmpty = false) ∨ (i = .sramUncorrectable p ∧ cause = 3 ∧ code = 0x8803 ∧ (s.sl p).running = true ∧ (recent
     s.now dayUs (s.sl p).uncorr).isEmpty = false) ∨ (i = .sramScrub p n true ∧ cause = 4 ∧ code = 0x8803 ∧ (s.sl p).running
     = true ∧ s.g p F.ZW_G_SRAM_COLS_LEFT ≤ (s.sl p).badCols) ∨ (i = .sliceRegulatorTrip p ∧ cause = 1 ∧ code = 0x8801 ∧
     powered s p = true) ∨ (i = .sliceClockCalibrationFailed p ∧ cause = 5 ∧ code = 0x8804 ∧ powered s p = true))) &&
  (let s : State := (sliceUp (fun y => { y with badCols := 3 })).w 0 F.ZW_G_SRAM_COLS_LEFT 2
   let p : Phys := 0
   let n : Nat := 3
   let i : Instr := .sramScrub p n true
   let cause : Nat := 4
   let code : Nat := 0x8803
   decide ((i = .heartbeatMiss p ∧ cause = 2 ∧ code = 0x8802 ∧ (s.sl p).running = true ∧ (recent s.now 3600000000 (s.sl
     p).misses).isEmpty = false) ∨ (i = .sramUncorrectable p ∧ cause = 3 ∧ code = 0x8803 ∧ (s.sl p).running = true ∧ (recent
     s.now dayUs (s.sl p).uncorr).isEmpty = false) ∨ (i = .sramScrub p n true ∧ cause = 4 ∧ code = 0x8803 ∧ (s.sl p).running
     = true ∧ s.g p F.ZW_G_SRAM_COLS_LEFT ≤ (s.sl p).badCols) ∨ (i = .sliceRegulatorTrip p ∧ cause = 1 ∧ code = 0x8801 ∧
     powered s p = true) ∨ (i = .sliceClockCalibrationFailed p ∧ cause = 5 ∧ code = 0x8804 ∧ powered s p = true)))) = true := by decide +kernel

/-- The hypotheses of SliceFaults are met (part 2 of 2). -/
theorem meets_SliceFaults_2 : (
  (let s : State := w0
   let p : Phys := 0
   let n : Nat := 3
   let i : Instr := .sliceRegulatorTrip 0
   let cause : Nat := 1
   let code : Nat := 0x8801
   decide ((i = .heartbeatMiss p ∧ cause = 2 ∧ code = 0x8802 ∧ (s.sl p).running = true ∧ (recent s.now 3600000000 (s.sl
     p).misses).isEmpty = false) ∨ (i = .sramUncorrectable p ∧ cause = 3 ∧ code = 0x8803 ∧ (s.sl p).running = true ∧ (recent
     s.now dayUs (s.sl p).uncorr).isEmpty = false) ∨ (i = .sramScrub p n true ∧ cause = 4 ∧ code = 0x8803 ∧ (s.sl p).running
     = true ∧ s.g p F.ZW_G_SRAM_COLS_LEFT ≤ (s.sl p).badCols) ∨ (i = .sliceRegulatorTrip p ∧ cause = 1 ∧ code = 0x8801 ∧
     powered s p = true) ∨ (i = .sliceClockCalibrationFailed p ∧ cause = 5 ∧ code = 0x8804 ∧ powered s p = true)) &&
   decide ((s.sl p).running = true) &&
   decide ((s.zoneOf p).isSome = true) &&
   decide ((recent s.now 3600000000 (s.sl p).misses).isEmpty = true) &&
   decide ((recent s.now dayUs (s.sl p).uncorr).isEmpty = true)) &&
  (let s : State := w0
   let p : Phys := 0
   let n : Nat := 3
   let i : Instr := .sliceClockCalibrationFailed 0
   let cause : Nat := 5
   let code : Nat := 0x8804
   decide ((i = .heartbeatMiss p ∧ cause = 2 ∧ code = 0x8802 ∧ (s.sl p).running = true ∧ (recent s.now 3600000000 (s.sl
     p).misses).isEmpty = false) ∨ (i = .sramUncorrectable p ∧ cause = 3 ∧ code = 0x8803 ∧ (s.sl p).running = true ∧ (recent
     s.now dayUs (s.sl p).uncorr).isEmpty = false) ∨ (i = .sramScrub p n true ∧ cause = 4 ∧ code = 0x8803 ∧ (s.sl p).running
     = true ∧ s.g p F.ZW_G_SRAM_COLS_LEFT ≤ (s.sl p).badCols) ∨ (i = .sliceRegulatorTrip p ∧ cause = 1 ∧ code = 0x8801 ∧
     powered s p = true) ∨ (i = .sliceClockCalibrationFailed p ∧ cause = 5 ∧ code = 0x8804 ∧ powered s p = true))) &&
  (let s : State := w0.w 0 F.ZW_G_SRAM_COLS_LEFT 2
   let p : Phys := 0
   decide ((s.sl p).running = true) &&
   decide ((s.sl p).badCols < s.g p F.ZW_G_SRAM_COLS_LEFT)) &&
  (let s : State := w0
   let p : Phys := 64
   decide (s.porchRuns = true) &&
   decide ((s.sl p).life = .spare))) = true := by decide +kernel

/-- The hypotheses of RepairAndMigration are met (part 1 of 2). -/
theorem meets_RepairAndMigration_1 : (
  (let s : State := (((wm 1).pwb F.PCH_RM_POLICY_AUTO true).onSl 0 (fun y =>
     { y with life := .failed, running := false, ckpt := some { time := 0, zone := y.z } })).onUp (fun y =>
     { y with paths := smPut y.paths (pathOf 0 0) { done := true, r25 := Vector.replicate 18 7000, alpha := 2000 } })
   let z : Zone := 0
   let k : Phys := 64
   let l : List TargetCheck := []
   decide (s.porchRuns = true) &&
   decide (s.pb F.PCH_RM_POLICY_AUTO = true) &&
   decide (s.modst.state ≠ 0) &&
   decide (s.upkeep.repair = none) &&
   decide (group6Runs s = false) &&
   decide ((((s.sl (s.sliceOf z)).life = .failed ∧ s.ckptOf (s.sliceOf z) ≠ none) ∨ ((s.sl (s.sliceOf z)).life = .serving ∧
     s.gb (s.sliceOf z) F.ZW_STAT_WORN = true))) &&
   decide (chooseTarget s z none = .inl k) &&
   decide ((l.getD 0 {}).test &&& quickMask = 0) &&
   decide ((l.getD 0 {}).pathOk = true)) &&
  (let s : State := (((wm 1).pwb F.PCH_RM_POLICY_AUTO true).wb 0 F.ZW_STAT_WORN true).onUp (fun y =>
     { y with paths := smPut y.paths (pathOf 0 0) { done := true, r25 := Vector.replicate 18 7000, alpha := 2000 } })
   let z : Zone := 0
   let k : Phys := 64
   let l : List TargetCheck := []
   decide (s.porchRuns = true) &&
   decide (s.pb F.PCH_RM_POLICY_AUTO = true) &&
   decide (s.modst.state ≠ 0) &&
   decide (s.upkeep.repair = none) &&
   decide (group6Runs s = false) &&
   decide ((((s.sl (s.sliceOf z)).life = .failed ∧ s.ckptOf (s.sliceOf z) ≠ none) ∨ ((s.sl (s.sliceOf z)).life = .serving ∧
     s.gb (s.sliceOf z) F.ZW_STAT_WORN = true))) &&
   decide (chooseTarget s z none = .inl k) &&
   decide ((l.getD 0 {}).test &&& quickMask = 0) &&
   decide ((l.getD 0 {}).pathOk = true)) &&
  (let s : State := (((wm 1).pwb F.PCH_RM_POLICY_AUTO true).onSl 0 (fun y => { y with life := .failed, running := false }))
   let z : Zone := 0
   decide (s.porchRuns = true) &&
   decide (s.pb F.PCH_RM_POLICY_AUTO = true) &&
   decide (s.modst.state ≠ 0) &&
   decide (s.upkeep.repair = none) &&
   decide (group6Runs s = false) &&
   decide ((s.sl (s.sliceOf z)).life = .failed) &&
   decide (s.ckptOf (s.sliceOf z) = none))) = true := by decide +kernel

/-- The hypotheses of RepairAndMigration are met (part 2 of 2). -/
theorem meets_RepairAndMigration_2 : (
  (let x : Exec := zoneCmd 0x0601 [64, 0, 0, 0]
   let s : State := queued (w0.onUp (fun y =>
     { y with paths := smPut y.paths (pathOf 0 0) { done := true, r25 := Vector.replicate 18 7000, alpha := 2000 } })) x
   let z : Zone := 0
   let k : Phys := 64
   let l : List TargetCheck := []
   decide (readyB s x = true) &&
   decide (x.zones = [z]) &&
   decide (s.upkeep.repair = none) &&
   decide (((s.sl (s.sliceOf z)).life = .serving ∨ s.ckptOf (s.sliceOf z) ≠ none)) &&
   decide ((if h : x.byte 0 < 68 then chooseTarget s z (some ⟨x.byte 0, h⟩) else chooseTarget s z none) = .inl k) &&
   decide ((l.getD 0 {}).test &&& quickMask = 0) &&
   decide ((l.getD 0 {}).pathOk = true)) &&
  (let r : Repair := { lseq := 9, opcode := 0x0601, zone := 0, old := 0, target := 64, planned := false }
   let s : State := (w0.onSl 0 (fun y =>
     { y with running := false, life := .failed, ckpt := some { time := 0, zone := y.z } })).onSl 64 (fun y =>
     { y with life := .moving }) |>.onUp (fun y => { y with repair := some r })
   let z := 1
   decide (s.porchRuns = true) &&
   decide (s.upkeep.repair = some r) &&
   decide ((s.sl r.target).life = .moving) &&
   decide ((s.sl r.old).life = .failed ∨ r.planned = false ∨ holdAllowed s r = true) &&
   decide (z ≠ r.zone) &&
   decide (s.thermal.shut = false)) &&
  (let r : Repair := { lseq := 9, opcode := 0x0601, zone := 0, old := 0, target := 64, planned := true }
   let s : State := (w0.onSl 64 (fun y => { y with life := .moving })).onUp (fun y => { y with repair := some r })
   decide (s.porchRuns = true) &&
   decide (s.upkeep.repair = some r) &&
   decide ((s.sl r.target).life = .moving) &&
   decide ((s.sl r.old).life ≠ .failed) &&
   decide (r.planned = true) &&
   decide (holdAllowed s r = false))) = true := by decide +kernel

/-- The hypotheses of UpkeepWork are met (part 1 of 2). -/
theorem meets_UpkeepWork_1 : (
  (let s : State := w0
   let m : PathMeas := { zone := 3, spare := 2, r25 := Vector.replicate 18 50, alpha := 7 }
   decide (s.porchRuns = true) &&
   decide (freeSpare s m.spare = true) &&
   decide (s.coll.lost = 0) &&
   decide (s.upkeep.engines = 5)) &&
  (let s : State := w0
   let m : PathMeas := { zone := 63, spare := 0, r25 := Vector.replicate 18 7000, alpha := 2000 }
   decide (s.porchRuns = true) &&
   decide (freeSpare s m.spare = true)) &&
  (let s : State := (w0.onTs (fun y => { y with us := 2592000000001 })).onUp (fun y =>
     { y with paths := smPut y.paths (pathOf 0 1) { done := true } })
   let z : Zone := 0
   let k : Fin 4 := 1
   decide (s.porchRuns = true) &&
   decide ((s.path (pathOf z k)).done = true) &&
   decide ((s.path (pathOf z k)).aged = false) &&
   decide ((s.path (pathOf z k)).time + 30 * dayUs < s.now)) &&
  (let s : State := w0
   let b : Fin 2 := 1
   let row : Fin 8192 := 8191
   decide (s.porchRuns = true) &&
   decide ((s.bank b).ok = true) &&
   decide ((recent s.now (30 * dayUs) ((smFind (s.bank b).corr row.val).getD [])).length < 2)) &&
  (let s : State := w0
   let b : Fin 2 := 0
   let row : Fin 8192 := 0
   decide (s.porchRuns = true) &&
   decide ((s.bank b).ok = true) &&
   decide ((recent s.now (30 * dayUs) ((smFind (s.bank b).corr row.val).getD [])).length < 2)) &&
  (let s : State := w0
   let b : Fin 2 := 1
   let l : List DurItem := [.map, .record 5]
   decide (s.porchRuns = true) &&
   decide ((s.bank b).ok = true) &&
   decide ((s.bank (otherBank b)).ok = true) &&
   decide (∀ d ∈ l, (s.bank (otherBank b)).holds d = true) &&
   decide ((s.bank b).spares ≠ 0) &&
   decide (l ≠ []))) = true := by decide +kernel

/-- The hypotheses of UpkeepWork are met (part 2 of 2). -/
theorem meets_UpkeepWork_2 : (
  (let s : State := w0
   let b : Fin 2 := 0
   let l : List DurItem := [.map, .record 5]
   decide (s.porchRuns = true) &&
   decide ((s.bank b).ok = true) &&
   decide ((s.bank (otherBank b)).ok = true) &&
   decide (∀ d ∈ l, (s.bank (otherBank b)).holds d = true)) &&
  (let s : State := w0.onBank 1 (fun y => { y with spares := 0 })
   let b : Fin 2 := 1
   let l : List DurItem := [.map, .record 5]
   decide (s.porchRuns = true) &&
   decide ((s.bank b).ok = true) &&
   decide ((s.bank (otherBank b)).ok = true) &&
   decide (∀ d ∈ l, (s.bank (otherBank b)).holds d = true) &&
   decide ((s.bank b).spares = 0)) &&
  (let s : State := w0
   let b : Fin 2 := 1
   let l : List DurItem := ([] : List DurItem)
   decide (s.porchRuns = true) &&
   decide ((s.bank b).ok = true) &&
   decide (l = [])) &&
  (let s : State := w0.errP 5 3 0x4001
   decide (s.porchRuns = true)) &&
  (let s : State := { w0 with coll := { w0.coll with lost := 3 } }
   decide (s.porchRuns = true) &&
   decide (s.coll.lost ≠ 0)) &&
  (let s : State := w0
   let p : Phys := 0
   decide (s.porchRuns = true) &&
   decide (powered s p = true)) &&
  (let s : State := w0
   let w : List SliceGauges := [{ p := 3, shift := -70000, margin := 70000, drv := Vector.replicate 5 1 }]
   let g := { p := 3, shift := -70000, margin := 70000, drv := Vector.replicate 5 1 }
   decide (s.porchRuns = true) &&
   decide ((w.map (fun g => g.p)).Nodup) &&
   decide (g ∈ w)) &&
  (let s : State := w0.onUp (fun y => { y with engines := 4 })
   decide (s.porchRuns = true) &&
   decide (s.upkeep.engines ≠ 5))) = true := by decide +kernel

/-- The hypotheses of JournalWork are met (part 1 of 2). -/
theorem meets_JournalWork_1 : (
  (let h : Handing := { x := zoneCmd 0x0106 [], left := 1 }
   let s : State := w0.onJ (fun y => { y with handover := [h] })
   let rest : List Handing := []
   let lseq : Nat := 9
   let z : Zone := 0
   decide (s.journal.handover = h :: rest) &&
   decide (h.x.lseq ≤ lseq) &&
   decide (h.left.getLsbD z.val = true) &&
   decide ((s.sl (s.sliceOf z)).running = true) &&
   decide (s.movingZone z = false) &&
   decide ((s.sl (s.sliceOf z)).inbox.length < Config.inboxSize) &&
   decide (∀ y : Zone, s.sliceOf y = s.sliceOf z → y = z)) &&
  (let h : Handing := { x := { zoneCmd 0x0106 [] with zmask := 3 }, left := 3 }
   let s : State := w0.onJ (fun y => { y with handover := [h] })
   let rest : List Handing := []
   let lseq : Nat := 9
   decide (s.journal.handover = h :: rest) &&
   decide (h.x.lseq ≤ lseq)) &&
  (let s : State := w0.onJ (fun y =>
     { y with larder := [(10, markItem true)], running := [{ x := zoneCmd 0x0103 [] }], book := [{ slot := 1, seq := 5, crc := 0, lseq := 9 }] })
   let lseq : Nat := 9
   decide (hasFinal s lseq = true) &&
   decide ((s.runningOf lseq).isSome = true)) &&
  (let s : State := w0
   let p : Phys := 0
   decide ((s.sl p).running = true)) &&
  (let s : State := w0.onSl 0 (fun y => { y with ckpt := some { time := 3, zone := y.z } })
   let p : Phys := 0
   decide ((s.sl p).running = true)) &&
  (let s : State := w0.onMt 0 (fun y => { y with pairs := 3 })
   let p : Phys := 0
   decide ((s.sl p).running = true))) = true := by decide +kernel

/-- The hypotheses of JournalWork are met (part 2 of 2). -/
theorem meets_JournalWork_2 : (
  (let s : State := wOpen
   let source : BitVec 16 := 0x1234
   let seq : BitVec 32 := 7
   let payload : List Byte := [1, 2]
   decide (s.porchRuns = true) &&
   decide (s.journal.replay = false) &&
   decide (s.journal.takeover = false) &&
   decide (s.modst.state ≤ 4) &&
   decide (s.journal.porchQ = []) &&
   decide (source ≠ 0) &&
   decide (source ≠ 0xFFFF) &&
   decide (seq ≠ 0) &&
   decide (payload.length ≤ 1020) &&
   decide (bookEntry s source seq.toNat = none) &&
   decide ((match hwmOf s source with | some h => decide (h < seq.toNat) | none => true) = true) &&
   decide (((slotOf s source).isSome = true ∨ (freeSlotNo s).isSome = true)) &&
   decide (larderRoom s payload.length = true) &&
   decide (bookRoom s = true) &&
   decide (s.runningOf s.journal.next = none) &&
   decide (markersOf s s.journal.next = []) &&
   decide (max 8 s.journal.ahead + commitMost s ≤ acceptLimit s) &&
   decide (s.draughtPages = 0)) &&
  (let s : State := wOpen
   let source : BitVec 16 := 0x1234
   let seq : BitVec 32 := 7
   let payload : List Byte := []
   decide (s.porchRuns = true) &&
   decide (s.journal.replay = false) &&
   decide (s.journal.takeover = false) &&
   decide (s.modst.state ≤ 4) &&
   decide (s.journal.porchQ = []) &&
   decide (source ≠ 0) &&
   decide (source ≠ 0xFFFF) &&
   decide (seq ≠ 0) &&
   decide (payload.length ≤ 1020) &&
   decide (bookEntry s source seq.toNat = none) &&
   decide ((match hwmOf s source with | some h => decide (h < seq.toNat) | none => true) = true) &&
   decide (((slotOf s source).isSome = true ∨ (freeSlotNo s).isSome = true)) &&
   decide (larderRoom s payload.length = true) &&
   decide (bookRoom s = true) &&
   decide (s.runningOf s.journal.next = none) &&
   decide (markersOf s s.journal.next = []) &&
   decide (max 8 s.journal.ahead + commitMost s ≤ acceptLimit s) &&
   decide (s.draughtPages = 0))) = true := by decide +kernel

/-- The hypotheses of TickFormsAndCensus are met (part 1 of 3). -/
theorem meets_TickFormsAndCensus_1 : (
  (let x : Exec := zoneCmd 0x0102 [2, 0, 0, 0, 5, 0, 0, 0, 0, 0, 0, 0]
   let s : State :=
     { handed (w0.onTs (fun y => { y with us := 5 })) x with census := [{ lseq := 9, zmask := 1, allNone := false, tick := 5 }] }
   let z : Zone := 0
   let p : Phys := 0
   let rest : List Exec := []
   let c := { lseq := 9, zmask := 1, allNone := false, tick := 5 }
   decide (p = s.sliceOf z) &&
   decide (s.zoneOf p = some z) &&
   decide ((s.sl p).running = true) &&
   decide (x.zones = [z]) &&
   decide (isTickForm x = true) &&
   decide (x.u64 4 ≤ s.now) &&
   decide ((s.sl p).inbox = x :: rest) &&
   decide (∀ y ∈ rest, x.lseq < y.lseq) &&
   decide (markersOf s x.lseq = []) &&
   decide (s.journal.handover = []) &&
   decide ((match (s.lp p).tune with | some u => u.lseq != x.lseq | none => true) = true) &&
   decide ((match s.runningOf x.lseq with | some r => r.x == x && !r.internal | none => false) = true) &&
   decide (x.byte 1 ≠ 1) &&
   decide (s.censusOf x.lseq = some c) &&
   decide (c.taken = false)) &&
  (let x : Exec := zoneCmd 0x0102 [2, 1, 0, 0, 5, 0, 0, 0, 0, 0, 0, 0]
   let s : State :=
     { handed (w0.onTs (fun y => { y with us := 5 })) x with census := [{ lseq := 9, zmask := 1, allNone := true, tick := 5 }] }
   let z : Zone := 0
   let p : Phys := 0
   let rest : List Exec := []
   decide (p = s.sliceOf z) &&
   decide (s.zoneOf p = some z) &&
   decide ((s.sl p).running = true) &&
   decide (x.zones = [z]) &&
   decide (isTickForm x = true) &&
   decide (x.u64 4 ≤ s.now) &&
   decide ((s.sl p).inbox = x :: rest) &&
   decide (∀ y ∈ rest, x.lseq < y.lseq) &&
   decide (markersOf s x.lseq = []) &&
   decide (s.journal.handover = []) &&
   decide ((match (s.lp p).tune with | some u => u.lseq != x.lseq | none => true) = true) &&
   decide ((match s.runningOf x.lseq with | some r => r.x == x && !r.internal | none => false) = true) &&
   decide (x.byte 1 = 1))) = true := by decide +kernel

/-- The hypotheses of TickFormsAndCensus are met (part 2 of 3). -/
theorem meets_TickFormsAndCensus_2 : (
  (let x : Exec := zoneCmd 0x0102 [4, 0, 0, 0, 5, 0, 0, 0, 0, 0, 0, 0]
   let s : State :=
     { handed (w0.onTs (fun y => { y with us := 5 })) x with census := [{ lseq := 9, zmask := 1, allNone := false, tick := 5 }] }
   let z : Zone := 0
   let p : Phys := 0
   let rest : List Exec := []
   decide (p = s.sliceOf z) &&
   decide (s.zoneOf p = some z) &&
   decide ((s.sl p).running = true) &&
   decide (x.zones = [z]) &&
   decide (isTickForm x = true) &&
   decide (x.u64 4 ≤ s.now) &&
   decide ((s.sl p).inbox = x :: rest) &&
   decide (∀ y ∈ rest, x.lseq < y.lseq) &&
   decide (markersOf s x.lseq = []) &&
   decide (s.journal.handover = []) &&
   decide ((match (s.lp p).tune with | some u => u.lseq != x.lseq | none => true) = true) &&
   decide ((match s.runningOf x.lseq with | some r => r.x == x && !r.internal | none => false) = true)) &&
  (let c : Census := { lseq := 9, zmask := 3, allNone := false, tick := 5, applied := 3, missed := 0, taken := false }
   let s : State := { w0 with census := [c] }
   let lseq : Nat := 9
   let l : List Zone := (zonesOf c.zmask).filter (fun z => !bitOf c.applied z.val)
   decide (s.censusOf lseq = some c) &&
   decide (c.taken = false) &&
   decide (c.allNone = false) &&
   decide (l = [])) &&
  (let c : Census := { lseq := 9, zmask := 3, allNone := false, tick := 5, applied := 1, missed := 0, taken := false }
   let s : State := { w0 with census := [c] }
   let lseq : Nat := 9
   let l : List Zone := (zonesOf c.zmask).filter (fun z => !bitOf c.applied z.val)
   decide (s.censusOf lseq = some c) &&
   decide (c.taken = false) &&
   decide (c.allNone = false) &&
   decide (l ≠ [])) &&
  (let c : Census := { lseq := 9, zmask := 3, allNone := true, tick := 5, applied := 3, missed := 0, taken := false }
   let s : State := ({ (w0.onTs (fun y => { y with us := 5 })) with census := [c] } : State).onJ (fun y =>
     { y with running := [{ x := { zoneCmd 0x0102 [2, 1, 0, 0, 5, 0, 0, 0, 0, 0, 0, 0] with zmask := 3 } }] })
   let lseq : Nat := 9
   decide (s.censusOf lseq = some c) &&
   decide (c.taken = false) &&
   decide (c.allNone = true))) = true := by decide +kernel

/-- The hypotheses of TickFormsAndCensus are met (part 3 of 3). -/
theorem meets_TickFormsAndCensus_3 : (
  (let c : Census := { lseq := 9, zmask := 3, allNone := true, tick := 5, applied := 2, missed := 0, taken := false }
   let s : State := ({ (w0.onTs (fun y => { y with us := 5 })) with census := [c] } : State).onJ (fun y =>
     { y with running := [{ x := { zoneCmd 0x0102 [2, 1, 0, 0, 5, 0, 0, 0, 0, 0, 0, 0] with zmask := 3 } }] })
   let lseq : Nat := 9
   let l : List Zone := (zonesOf c.zmask).filter (fun z => !bitOf c.applied z.val)
   decide (s.censusOf lseq = some c) &&
   decide (c.taken = false) &&
   decide (c.allNone = true) &&
   decide (l ≠ [])) &&
  (let c : Census := { lseq := 9, zmask := 3, allNone := true, tick := 5, applied := 2, missed := 0, taken := false }
   let s : State := ({ (w0.onTs (fun y => { y with us := 5 })) with census := [c] } : State).onJ (fun y =>
     { y with running := [{ x := { zoneCmd 0x0102 [2, 1, 0, 0, 5, 0, 0, 0, 0, 0, 0, 0] with zmask := 3 } }] })
   let lseq : Nat := 9
   let r := { x := { zoneCmd 0x0102 [2, 1, 0, 0, 5, 0, 0, 0, 0, 0, 0, 0] with zmask := 3 } }
   let z := 1
   decide (s.censusOf lseq = some c) &&
   decide (c.taken = false) &&
   decide (c.allNone = true) &&
   decide (s.runningOf lseq = some r) &&
   decide (r.internal = false) &&
   decide (z ∈ zonesOf c.zmask) &&
   decide (marked s lseq z.val = false)) &&
  (let c : Census := { lseq := 9, zmask := 3, allNone := false, tick := 5, applied := 2, missed := 1, taken := true }
   let s : State := ({ (w0.onTs (fun y => { y with us := 5 })) with census := [c] } : State).onJ (fun y =>
     { y with running := [{ x := { zoneCmd 0x0102 [2, 0, 0, 0, 5, 0, 0, 0, 0, 0, 0, 0] with zmask := 3 } }] })
   let r : Running := { x := { zoneCmd 0x0102 [2, 0, 0, 0, 5, 0, 0, 0, 0, 0, 0, 0] with zmask := 3 } }
   let lseq : Nat := 9
   let z := 0
   decide (s.censusOf lseq = some c) &&
   decide (s.runningOf lseq = some r) &&
   decide (c.taken = true) &&
   decide (c.allNone = false) &&
   decide (r.internal = false) &&
   decide (c.retries < 3) &&
   decide (isTickForm r.x = true) &&
   decide (r.x.byte 1 ≠ 1) &&
   decide (r.x.u64 4 ≤ s.now) &&
   decide (s.journal.handover = []) &&
   decide (z ∈ zonesOf c.missed) &&
   decide (s.zoneOf (s.sliceOf z) = some z) &&
   decide ((s.sl (s.sliceOf z)).running = true) &&
   decide (s.movingZone z = false) &&
   decide ((s.sl (s.sliceOf z)).inbox = []) &&
   decide (marked s lseq z.val = false))) = true := by decide +kernel

/-- The hypotheses of IntervalsAndRecords are met (part 1 of 3). -/
theorem meets_IntervalsAndRecords_1 : (
  (let s : State := (inCommission (zoneUp (fun y =>
     { y with ival := { y.ival with opened := true, start := 0, bound := 0, eunit := 0, vunit := 0 } })))
   let z : Zone := 0
   let p : Phys := 0
   let b : Nat := max (s.z p).ival.bound (boundAt s (s.slNow p))
   let c : Closing := closingOf s p z ((s.z p).ival.bound - (s.z p).ival.start) b []
   let q : Vector Nat 7 := quotients c.iv c.ends
   decide (s.storeOn = true) &&
   decide (s.store.merged = 0) &&
   decide (s.store.wait = []) &&
   decide (p = s.sliceOf z) &&
   decide ((s.sl p).running = true) &&
   decide ((s.z p).ival.opened = true) &&
   decide ((s.z p).ival.merged = false) &&
   decide ((s.z p).ival.bound * minuteUs ≤ s.slNow p) &&
   decide (∀ y : Zone, y < z → closeZone s y (s.slNow p) = s) &&
   decide ((cutAtBound s p).2 = false) &&
   decide (fits s q = true)) &&
  (let s : State := (inCommission (zoneUp (fun y =>
     { y with ival := { y.ival with opened := true, start := 0, bound := 0, eunit := 0, vunit := 0 } }))).onRs (fun y =>
     { y with lastSeq := 98304 })
   let z : Zone := 0
   let p : Phys := 0
   let b : Nat := max (s.z p).ival.bound (boundAt s (s.slNow p))
   let c : Closing := closingOf s p z ((s.z p).ival.bound - (s.z p).ival.start) b []
   let q : Vector Nat 7 := quotients c.iv c.ends
   decide (s.storeOn = true) &&
   decide (s.store.merged = 0) &&
   decide (s.store.wait = []) &&
   decide (p = s.sliceOf z) &&
   decide ((s.sl p).running = true) &&
   decide ((s.z p).ival.opened = true) &&
   decide ((s.z p).ival.merged = false) &&
   decide ((s.z p).ival.bound * minuteUs ≤ s.slNow p) &&
   decide (∀ y : Zone, y < z → closeZone s y (s.slNow p) = s) &&
   decide ((cutAtBound s p).2 = false) &&
   decide (fits s q = false))) = true := by decide +kernel

/-- The hypotheses of IntervalsAndRecords are met (part 2 of 3). -/
theorem meets_IntervalsAndRecords_2 : (
  (let s : State := (inCommission (zoneUp (fun y =>
     { y with ival := { y.ival with opened := true, start := 0, bound := 0, eunit := 0, vunit := 0 } }))).onMt 0 (fun y =>
     { y with haveP := true })
   let z : Zone := 0
   let p : Phys := 0
   decide (s.storeOn = true) &&
   decide (s.store.merged = 0) &&
   decide (s.store.wait = []) &&
   decide (p = s.sliceOf z) &&
   decide ((s.sl p).running = true) &&
   decide ((s.z p).ival.opened = true) &&
   decide ((s.z p).ival.merged = false) &&
   decide ((s.z p).ival.bound * minuteUs ≤ s.slNow p) &&
   decide (∀ y : Zone, y < z → closeZone s y (s.slNow p) = s) &&
   decide ((cutAtBound s p).2 = true)) &&
  (let s : State := (inCommission (zoneUp (fun y =>
     { y with ival := { y.ival with opened := true, start := 0, bound := 0, eunit := 0, vunit := 0 } }))).onMt 0 (fun y =>
     { y with sumT := 5 })
   let z : Zone := 0
   let p : Phys := 0
   decide (s.storeOn = true) &&
   decide (s.store.merged = 0) &&
   decide (s.store.wait = []) &&
   decide (p = s.sliceOf z) &&
   decide ((s.sl p).running = true) &&
   decide ((s.z p).ival.opened = true) &&
   decide ((s.z p).ival.merged = false) &&
   decide ((s.z p).ival.bound * minuteUs ≤ s.slNow p) &&
   decide (∀ y : Zone, y < z → closeZone s y (s.slNow p) = s) &&
   decide ((cutAtBound s p).2 = true)) &&
  (let s : State := w0
   decide (s.storeOn = false)) &&
  (let s : State := inCommission w0
   let z : Zone := 0
   let p : Phys := 0
   decide (p = s.sliceOf z) &&
   decide ((s.sl p).running = true) &&
   decide ((s.z p).ival.opened = false ∨ s.slNow p < (s.z p).ival.bound * minuteUs)) &&
  (let s : State := (inCommission (zoneUp (fun y =>
     { y with ival := { y.ival with opened := true, start := 0, bound := 1, eunit := 0, vunit := 0 } })))
   let z : Zone := 0
   let p : Phys := 0
   decide (p = s.sliceOf z) &&
   decide ((s.sl p).running = true) &&
   decide ((s.z p).ival.opened = false ∨ s.slNow p < (s.z p).ival.bound * minuteUs))) = true := by decide +kernel

/-- The hypotheses of IntervalsAndRecords are met (part 3 of 3). -/
theorem meets_IntervalsAndRecords_3 : (
  (let s : State := (inCommission (zoneUp (fun y =>
     { y with ival := { y.ival with opened := true, start := 0, bound := 0, eunit := 0, vunit := 0 } }))).onSl 0 (fun y =>
     { y with running := false, ckpt := some { time := 0, zone := y.z } })
   let z : Zone := 0
   let p : Phys := 0
   let c : Ckpt := { time := 0, zone := s.z 0 }
   let q : Vector Nat 7 := quotients c.zone.ival (countsOf c.zone.meter.acc c.zone.heat.acc)
   decide (s.storeOn = true) &&
   decide (s.store.merged = 0) &&
   decide (s.store.wait = []) &&
   decide (p = s.sliceOf z) &&
   decide ((s.sl p).running = false) &&
   decide (s.ckptOf p = some c) &&
   decide (smFind s.store.after z.val = none) &&
   decide (s.postingOf p = none) &&
   decide (c.zone.ival.opened = true) &&
   decide (c.zone.ival.bound * minuteUs ≤ s.now) &&
   decide (∀ y : Zone, y < z → closeZone s y s.now = s) &&
   decide (fits s q = true)) &&
  (let s : State := ((inCommission (zoneUp (fun y =>
     { y with ival := { y.ival with opened := true, start := 0, bound := 0, eunit := 0, vunit := 0 } }))).onSl 0 (fun y =>
     { y with running := false, ckpt := some { time := 0, zone := y.z } })).onRs (fun y => { y with lastSeq := 98304 })
   let z : Zone := 0
   let p : Phys := 0
   let c : Ckpt := { time := 0, zone := s.z 0 }
   let q : Vector Nat 7 := quotients c.zone.ival (countsOf c.zone.meter.acc c.zone.heat.acc)
   decide (s.storeOn = true) &&
   decide (s.store.merged = 0) &&
   decide (s.store.wait = []) &&
   decide (p = s.sliceOf z) &&
   decide ((s.sl p).running = false) &&
   decide (s.ckptOf p = some c) &&
   decide (smFind s.store.after z.val = none) &&
   decide (s.postingOf p = none) &&
   decide (c.zone.ival.opened = true) &&
   decide (c.zone.ival.bound * minuteUs ≤ s.now) &&
   decide (∀ y : Zone, y < z → closeZone s y s.now = s) &&
   decide (fits s q = false)) &&
  (let s : State := w0.onRs (fun y => { y with winBusy := true, winReq := 2, winTail := 9 })
   decide (s.store.winBusy = true))) = true := by decide +kernel

/-- The hypotheses of SupplyAndStart are met (part 1 of 2). -/
theorem meets_SupplyAndStart_1 : (
  (let s : State := w0
   let vin : Nat := 18000
   decide (s.supply.powered = true) &&
   decide (18000 ≤ vin) &&
   decide (vin ≤ 32000)) &&
  (let s : State := w0.onJ (fun y => { y with opened := true })
   let w : Warning := ⟨.low, none⟩
   let p := 0
   decide (s.supply.powered = true) &&
   decide (s.journal.opened = true) &&
   decide (s.porchRuns = true) &&
   decide (s.landing.entry = none) &&
   decide (w.flight = none) &&
   decide (s.store.wait = []) &&
   decide (s.coll.buf.length < 64) &&
   decide ((s.sl p).running = true)) &&
  (let s : State := w0
   let vin : Nat := 32000
   decide (s.supply.powered = true) &&
   decide (18000 ≤ vin) &&
   decide (vin ≤ 32000)) &&
  (let s : State := w0
   let vin : Nat := 16500
   decide (s.supply.powered = true) &&
   decide (16500 ≤ vin) &&
   decide (vin ≤ 36000) &&
   decide (vin < 18000 ∨ 32000 < vin)) &&
  (let s : State := w0
   let vin : Nat := 36000
   decide (s.supply.powered = true) &&
   decide (16500 ≤ vin) &&
   decide (vin ≤ 36000) &&
   decide (vin < 18000 ∨ 32000 < vin)) &&
  (let s : State := w0
   let vin : Nat := 17999
   decide (s.supply.powered = true) &&
   decide (16500 ≤ vin) &&
   decide (vin ≤ 36000) &&
   decide (vin < 18000 ∨ 32000 < vin) &&
   decide (s.supply.range = false))) = true := by decide +kernel

/-- The hypotheses of SupplyAndStart are met (part 2 of 2). -/
theorem meets_SupplyAndStart_2 : (
  (let s : State := w0
   let vin : Nat := 32001
   decide (s.supply.powered = true) &&
   decide (16500 ≤ vin) &&
   decide (vin ≤ 36000) &&
   decide (vin < 18000 ∨ 32000 < vin)) &&
  (let s : State := State.reset
   decide (s.supply.powered = false ∨ s.supply.started = false ∨ s.landing.state = 4)) &&
  (let s : State := w0.onSu (fun y => { y with powered := false })
   let x : StartInfo := {}
   decide (s.supply.powered = false ∨ s.supply.started = false ∨ s.landing.state = 4) &&
   decide (x.capUf ≠ 0) &&
   decide (s.supply.powered = false)) &&
  (let s : State := w0.onSu (fun y => { y with powered := false })
   let x : StartInfo := { capUf := 59 }
   decide (s.supply.powered = false ∨ s.supply.started = false ∨ s.landing.state = 4) &&
   decide (x.capUf ≠ 0) &&
   decide (x.capUf < 60)) &&
  (let s : State := w0.onSu (fun y => { y with powered := false })
   let x : StartInfo := { capUf := 0 }
   decide (s.supply.powered = false ∨ s.supply.started = false ∨ s.landing.state = 4) &&
   decide (x.capUf = 0)) &&
  (let s : State := w0.onSu (fun y => { y with started := true, charging := true, capUf := 59 })
   decide (s.supply.started = true) &&
   decide (s.supply.charging = true) &&
   decide (s.journal.opened = false) &&
   decide (s.supply.capUf < 60)) &&
  (let s : State := w0.onSu (fun y => { y with started := true, charging := true, capUf := 60 })
   decide (s.supply.started = true) &&
   decide (s.supply.charging = true) &&
   decide (s.journal.opened = false))) = true := by decide +kernel

/-- The hypotheses of HumidityAndPresence are met (part 1 of 5). -/
theorem meets_HumidityAndPresence_1 : (
  (let s : State := w0
   let p : Phys := 0
   let level : Bool := true
   let act : Bool := true
   decide ((s.sl p).running = true) &&
   decide (s.g p F.ZI_HUM_CFG_1_S = 0) &&
   decide (act = (level != s.gb p F.ZI_PRES_CFG_PRD_POL)) &&
   decide (act ≠ (s.z p).inp.prdFilt) &&
   decide ((s.z p).inp.praChat.on = false)) &&
  (let s : State := (w0.w 0 F.ZI_HUM_CFG_1_S 60).w 0 F.ZI_HUM_CFG_1_C0 3000
   let p : Phys := 0
   let cap : Nat := 3063
   let leak : Nat := 10000
   decide ((s.sl p).running = true) &&
   decide (s.g p F.ZI_HUM_CFG_1_S ≠ 0) &&
   decide ((s.z p).inp.humBroken = false) &&
   decide (humidityCause cap leak (humidityOf s p cap) = 0)) &&
  (let s : State := (w0.w 0 F.ZI_HUM_CFG_1_S 60).w 0 F.ZI_HUM_CFG_1_C0 3000
   let p : Phys := 0
   let cap : Nat := 2997
   let leak : Nat := 0
   decide ((s.sl p).running = true) &&
   decide (s.g p F.ZI_HUM_CFG_1_S ≠ 0) &&
   decide ((s.z p).inp.humBroken = false) &&
   decide (humidityCause cap leak (humidityOf s p cap) = 0)) &&
  (let s : State := (w0.w 0 F.ZI_HUM_CFG_1_S 60).w 0 F.ZI_HUM_CFG_1_C0 3000
   let p : Phys := 0
   let cap : Nat := 1999
   let leak : Nat := 0
   decide ((s.sl p).running = true) &&
   decide (s.g p F.ZI_HUM_CFG_1_S ≠ 0) &&
   decide ((s.z p).inp.humBroken = false) &&
   decide (humidityCause cap leak (humidityOf s p cap) ≠ 0) &&
   decide ((s.z p).inp.humBad < 2)) &&
  (let s : State := ((w0.w 0 F.ZI_HUM_CFG_1_S 60).w 0 F.ZI_HUM_CFG_1_C0 3000).onInp 0 (fun y => { y with humBad := 1 })
   let p : Phys := 0
   let cap : Nat := 6000
   let leak : Nat := 10001
   decide ((s.sl p).running = true) &&
   decide (s.g p F.ZI_HUM_CFG_1_S ≠ 0) &&
   decide ((s.z p).inp.humBroken = false) &&
   decide (humidityCause cap leak (humidityOf s p cap) ≠ 0) &&
   decide ((s.z p).inp.humBad < 2))) = true := by decide +kernel

/-- The hypotheses of HumidityAndPresence are met (part 2 of 5). -/
theorem meets_HumidityAndPresence_2 : (
  (let s : State := ((w0.w 0 F.ZI_HUM_CFG_1_S 60).w 0 F.ZI_HUM_CFG_1_C0 3000).onInp 0 (fun y => { y with humBad := 2 })
   let p : Phys := 0
   let cap : Nat := 1999
   let leak : Nat := 0
   decide ((s.sl p).running = true) &&
   decide (s.g p F.ZI_HUM_CFG_1_S ≠ 0) &&
   decide ((s.z p).inp.humBroken = false) &&
   decide (humidityCause cap leak (humidityOf s p cap) ≠ 0) &&
   decide (2 ≤ (s.z p).inp.humBad)) &&
  (let s : State := ((w0.w 0 F.ZI_HUM_CFG_1_S 60).w 0 F.ZI_HUM_CFG_1_C0 3000).onInp 0 (fun y => { y with humBad := 2 })
   let p : Phys := 0
   let cap : Nat := 6000
   let leak : Nat := 10001
   decide ((s.sl p).running = true) &&
   decide (s.g p F.ZI_HUM_CFG_1_S ≠ 0) &&
   decide ((s.z p).inp.humBroken = false) &&
   decide (humidityCause cap leak (humidityOf s p cap) ≠ 0) &&
   decide (2 ≤ (s.z p).inp.humBad)) &&
  (let s : State := ((w0.w 0 F.ZI_HUM_CFG_1_S 60).w 0 F.ZI_HUM_CFG_1_C0 3000).onInp 0 (fun y => { y with humBad := 2 })
   let p : Phys := 0
   let cap : Nat := 65535
   let leak : Nat := 0
   decide ((s.sl p).running = true) &&
   decide (s.g p F.ZI_HUM_CFG_1_S ≠ 0) &&
   decide ((s.z p).inp.humBroken = false) &&
   decide (humidityCause cap leak (humidityOf s p cap) ≠ 0) &&
   decide (2 ≤ (s.z p).inp.humBad)) &&
  (let s : State := w0.wb 0 F.ZI_PRES_CFG_PRD_POL true
   let p : Phys := 0
   decide ((s.sl p).running = true)) &&
  (let s : State := w0
   let p : Phys := 0
   let level : Bool := false
   let act : Bool := (level != s.gb p F.ZI_PRES_CFG_PRD_POL)
   decide ((s.sl p).running = true) &&
   decide (act = (s.z p).inp.prdFilt)) &&
  (let s : State := w0.onInp 0 (fun y => { y with prdPend := true })
   let p : Phys := 0
   let level : Bool := false
   let act : Bool := (level != s.gb p F.ZI_PRES_CFG_PRD_POL)
   decide ((s.sl p).running = true) &&
   decide (act = (s.z p).inp.prdFilt) &&
   decide ((s.z p).inp.prdPend = true) &&
   decide ((s.z p).inp.prdChat.on = false) &&
   decide (s.gb p F.ZI_PRES_PRD_RAW = false))) = true := by decide +kernel

/-- The hypotheses of HumidityAndPresence are met (part 3 of 5). -/
theorem meets_HumidityAndPresence_3 : (
  (let s : State := (w0.onInp 0 (fun y => { y with prdPend := true })).wb 0 F.ZI_PRES_PRD_RAW true
   let p : Phys := 0
   decide ((s.sl p).running = true) &&
   decide ((s.z p).inp.prdPend = true) &&
   decide ((s.z p).inp.prdChat.on = false) &&
   decide (s.gb p F.ZI_PRES_PRD_RAW = true)) &&
  (let s : State := w0.onInp 0 (fun y => { y with prdPend := true, prdChat := { on := true } })
   let p : Phys := 0
   decide ((s.sl p).running = true) &&
   decide ((s.z p).inp.prdPend = true) &&
   decide ((s.z p).inp.prdChat.on = true)) &&
  (let s : State := w0.onInp 0 (fun y => { y with praHigh := true, praOver := 99 })
   let p : Phys := 0
   decide ((s.sl p).running = true)) &&
  (let s : State := w0.onInp 0 (fun y => { y with praHigh := true, praOver := 100 })
   let p : Phys := 0
   decide ((s.sl p).running = true)) &&
  (let s : State := w0
   let p : Phys := 0
   let band : Int := -30000
   let high : Bool := decide (s.praThr p < band.natAbs)
   decide ((s.sl p).running = true) &&
   decide (high ≠ (s.z p).inp.praHigh)) &&
  (let s : State := w0.onInp 0 (fun y => { y with praHigh := true, praOver := 90 })
   let p : Phys := 0
   let band : Int := 30000
   let ms : Nat := 10
   let high : Bool := decide (s.praThr p < band.natAbs)
   decide ((s.sl p).running = true) &&
   decide (high = true) &&
   decide ((s.z p).inp.praHigh = true) &&
   decide ((s.z p).inp.praOver < 100) &&
   decide (100 ≤ (s.z p).inp.praOver + ms) &&
   decide ((s.z p).inp.praChat.on = false)) &&
  (let s : State := w0
   let p : Phys := 0
   let band : Int := 0
   let ms : Nat := 10
   let high : Bool := decide (s.praThr p < band.natAbs)
   decide ((s.sl p).running = true) &&
   decide (high = false ∨ (s.z p).inp.praHigh = false ∨ 100 ≤ (s.z p).inp.praOver ∨ (s.z p).inp.praOver + ms < 100)) &&
  (let s : State := (w0.onInp 0 (fun y => { y with praChat := { on := true } })).wb 0 F.ZI_PRES_PRA_ACT true
   let p : Phys := 0
   decide ((s.sl p).running = true))) = true := by decide +kernel

/-- The hypotheses of HumidityAndPresence are met (part 4 of 5). -/
theorem meets_HumidityAndPresence_4 : (
  (let s : State := w0.wb 0 F.ZI_PRES_PRA_ACT true
   let p : Phys := 0
   decide ((s.sl p).running = true)) &&
  (let s : State := w0.onInp 0 (fun y => { y with praChat := { on := true } })
   let p : Phys := 0
   decide ((s.sl p).running = true) &&
   decide ((s.z p).inp.praChat.on = true)) &&
  (let s : State := w0.w 0 F.ZI_PRES_PRA_DC 199
   let p : Phys := 0
   decide ((s.sl p).running = true) &&
   decide ((s.z p).inp.praBroken = false) &&
   decide (praOut (s.g p F.ZI_PRES_PRA_DC) = true)) &&
  (let s : State := w0.w 0 F.ZI_PRES_PRA_DC 4801
   let p : Phys := 0
   decide ((s.sl p).running = true) &&
   decide ((s.z p).inp.praBroken = false) &&
   decide (praOut (s.g p F.ZI_PRES_PRA_DC) = true)) &&
  (let s : State := w0.w 0 F.ZI_PRES_PRA_DC 200
   let p : Phys := 0
   decide ((s.sl p).running = true) &&
   decide ((s.z p).inp.praBroken = true ∨ praOut (s.g p F.ZI_PRES_PRA_DC) = false)) &&
  (let s : State := w0.w 0 F.ZI_PRES_PRA_DC 4800
   let p : Phys := 0
   decide ((s.sl p).running = true) &&
   decide ((s.z p).inp.praBroken = true ∨ praOut (s.g p F.ZI_PRES_PRA_DC) = false)) &&
  (let s : State := w0.onInp 0 (fun y => { y with praBroken := true })
   let p : Phys := 0
   decide ((s.sl p).running = true) &&
   decide ((s.z p).inp.praBroken = true ∨ praOut (s.g p F.ZI_PRES_PRA_DC) = false)) &&
  (let s : State := (w0.onInp 0 (fun y => { y with prdSince := some (-1000000000000000000000) }))
   let p : Phys := 0
   decide ((s.sl p).running = true) &&
   decide (stuckDue s p false = true) &&
   decide ((s.z p).inp.prdStuck = false)) &&
  (let s : State := (w0.onInp 0 (fun y => { y with praSince := some (-1000000000000000000000) }))
   let p : Phys := 0
   decide ((s.sl p).running = true) &&
   decide (stuckDue s p true = true) &&
   decide ((s.z p).inp.praStuck = false)) &&
  (let s : State := w0
   let p : Phys := 0
   let pra : Bool := true
   decide ((s.sl p).running = true) &&
   decide (stuckDue s p pra = false))) = true := by decide +kernel

/-- The hypotheses of HumidityAndPresence are met (part 5 of 5). -/
theorem meets_HumidityAndPresence_5 : (
  (let s : State := w0.onInp 0 (fun y => { y with prdSince := some 0 })
   let p : Phys := 0
   let pra : Bool := false
   decide ((s.sl p).running = true) &&
   decide (stuckDue s p pra = false))) = true := by decide +kernel

/-- The hypotheses of ChatterAndDiagnosis are met (part 1 of 2). -/
theorem meets_ChatterAndDiagnosis_1 : (
  (let s : State := w0.onInp 0 (fun y => { y with prdChat := { on := true } })
   let p : Phys := 0
   decide ((s.sl p).running = true) &&
   decide ((s.z p).inp.prdChat.on = true)) &&
  (let s : State := (w0.onInp 0 (fun y => { y with praChat := { on := true } })).wb 0 F.ZI_PRES_PRA_ACT true
   let p : Phys := 0
   decide ((s.sl p).running = true) &&
   decide ((s.z p).inp.praChat.on = true)) &&
  (let s : State := w0.onFl 0 1 (fun y => { y with chat := { on := true } })
   let p : Phys := 0
   let n : Fin 2 := 1
   decide ((s.sl p).running = true) &&
   decide (((s.ht p).fl[n]).chat.on = true)) &&
  (let s : State := w0.onFl 0 0 (fun y => { y with chat := { on := true } })
   let p : Phys := 0
   let n : Fin 2 := 0
   decide ((s.sl p).running = true) &&
   decide (((s.ht p).fl[n]).chat.on = true)) &&
  (let s : State := w0.onOuts 0 (fun y => { y with tach := { on := true } })
   let p : Phys := 0
   decide ((s.sl p).running = true) &&
   decide ((s.z p).outs.tach.on = true)) &&
  (let s : State := w0.onKey 0 15 (fun y => { y with chat := { on := true } })
   let p : Phys := 0
   let k : Fin 16 := 15
   decide ((s.sl p).running = true) &&
   decide ((s.key p k).chat.on = true)) &&
  (let s : State := w0.onKey 0 0 (fun y => { y with chat := { on := true } })
   let p : Phys := 0
   let k : Fin 16 := 0
   decide ((s.sl p).running = true) &&
   decide ((s.key p k).chat.on = true)) &&
  (let s : State := w0.onPn 0 (fun y => { y with encChat := { on := true } })
   let p : Phys := 0
   decide ((s.sl p).running = true) &&
   decide ((s.pn p).encChat.on = true)) &&
  (let s : State := w0
   let p : Phys := 0
   let n : Fin 4 := 3
   decide ((s.sl p).running = true) &&
   decide (s.diagnosed p n = false))) = true := by decide +kernel

/-- The hypotheses of ChatterAndDiagnosis are met (part 2 of 2). -/
theorem meets_ChatterAndDiagnosis_2 : (
  (let s : State := w0.wb 0 F.ZI_DIAG_CFG_EN true
   let p : Phys := 0
   let n : Fin 4 := 0
   decide ((s.sl p).running = true) &&
   decide (s.diagnosed p n = false)) &&
  (let s : State := ((w0.wb 0 F.ZI_DIAG_CFG_EN true).w 0 F.ZI_TCFG_n_TYPE 1 3)
   let p : Phys := 0
   let n : Fin 4 := 3
   decide ((s.sl p).running = true) &&
   decide (s.diagnosed p n = true) &&
   decide ((s.tIn p n).spoiled = false) &&
   decide ((s.tIn p n).broken = false) &&
   decide ((s.tIn p n).off = false)) &&
  (let s : State := ((w0.wb 0 F.ZI_DIAG_CFG_EN true).w 0 F.ZI_TCFG_n_TYPE 1 3).onT 0 3 (fun y => { y with spoiled := true })
   let p : Phys := 0
   let n : Fin 4 := 3
   decide ((s.sl p).running = true) &&
   decide (s.diagnosed p n = true) &&
   decide ((s.tIn p n).spoiled = true ∨ (s.tIn p n).broken = true)) &&
  (let s : State := ((w0.wb 0 F.ZI_DIAG_CFG_EN true).w 0 F.ZI_TCFG_n_TYPE 1 3).onT 0 3 (fun y => { y with broken := true })
   let p : Phys := 0
   let n : Fin 4 := 3
   decide ((s.sl p).running = true) &&
   decide (s.diagnosed p n = true)) &&
  (let s : State := ((w0.wb 0 F.ZI_DIAG_CFG_EN true).w 0 F.ZI_TCFG_n_TYPE 1 3).onT 0 3 (fun y => { y with off := true })
   let p : Phys := 0
   let n : Fin 4 := 3
   decide ((s.sl p).running = true) &&
   decide ((s.tIn p n).off = true)) &&
  (let s : State := ((w0.wb 0 F.ZI_DIAG_CFG_EN true).w 0 F.ZI_TCFG_n_TYPE 1 3).onT 0 3 (fun y =>
     { y with off := true, spoiled := true })
   let p : Phys := 0
   let n : Fin 4 := 3
   decide ((s.sl p).running = true) &&
   decide ((s.tIn p n).off = true))) = true := by decide +kernel

/-- The hypotheses of ConverterControl are met (part 1 of 4). -/
theorem meets_ConverterControl_1 : (
  (let s : State := w0
   let p : Phys := 0
   let q : Fin 4 := 3
   let x : TrigSource := .timer
   decide ((s.sl p).running = true) &&
   decide (takesTrigger s p q x = false) &&
   decide ((s.cv p).ofConv1 < 2 ^ 16) &&
   decide ((s.cv p).ofPairs < 2 ^ 20) &&
   decide ((s.cv p).conv = false)) &&
  (let s : State := (((w0.wb 0 F.ZC_SEQ_q_EN true 3).w 0 F.ZC_SEQ_q_TRIG 1 3).w 0 F.ZC_SEQ_q_FIRST 24 3).w 0 F.ZC_SEQ_q_LAST
     24 3
   let p : Phys := 0
   let q : Fin 4 := 3
   let x : TrigSource := .timer
   decide ((s.sl p).running = true) &&
   decide (takesTrigger s p q x = true) &&
   decide (badRange s p q = false) &&
   decide ((s.seq p q).act = false)) &&
  (let s : State := ((((w0.wb 0 F.ZC_SEQ_q_EN true 3).w 0 F.ZC_SEQ_q_TRIG 1 3).w 0 F.ZC_SEQ_q_FIRST 24 3).w 0
     F.ZC_SEQ_q_LAST 24 3).onSeq 0 3 (fun y => { y with act := true })
   let p : Phys := 0
   let q : Fin 4 := 3
   let x : TrigSource := .timer
   decide ((s.sl p).running = true) &&
   decide (takesTrigger s p q x = true) &&
   decide (badRange s p q = false) &&
   decide ((s.seq p q).act = true) &&
   decide ((s.seq p q).pend = false)) &&
  (let s : State := ((((w0.wb 0 F.ZC_SEQ_q_EN true 3).w 0 F.ZC_SEQ_q_TRIG 1 3).w 0 F.ZC_SEQ_q_FIRST 24 3).w 0
     F.ZC_SEQ_q_LAST 24 3).onSeq 0 3 (fun y => { y with act := true, pend := true })
   let p : Phys := 0
   let q : Fin 4 := 3
   let x : TrigSource := .timer
   decide ((s.sl p).running = true) &&
   decide (takesTrigger s p q x = true) &&
   decide (badRange s p q = true ∨ ((s.seq p q).act = true ∧ (s.seq p q).pend = true))) &&
  (let s : State := ((((w0.wb 0 F.ZC_SEQ_q_EN true 3).w 0 F.ZC_SEQ_q_TRIG 1 3).w 0 F.ZC_SEQ_q_FIRST 24 3).w 0
     F.ZC_SEQ_q_LAST 24 3).w 0 F.ZC_SEQ_q_FIRST 23 3
   let p : Phys := 0
   let q : Fin 4 := 3
   let x : TrigSource := .timer
   decide ((s.sl p).running = true) &&
   decide (takesTrigger s p q x = true) &&
   decide (badRange s p q = true ∨ ((s.seq p q).act = true ∧ (s.seq p q).pend = true)))) = true := by decide +kernel

/-- The hypotheses of ConverterControl are met (part 2 of 4). -/
theorem meets_ConverterControl_2 : (
  (let s : State := w0.onSeq 0 3 (fun y => { y with act := true })
   let p : Phys := 0
   let q : Fin 4 := 3
   decide ((s.sl p).running = true) &&
   decide ((s.seq p q).act = true) &&
   decide ((s.seq p q).timedOut = false)) &&
  (let s : State := w0.onCv 0 (fun y => { y with ofConv1 := 2 ^ 16 })
   let p : Phys := 0
   let b : Int := 800000
   let g : Int := 50000
   decide ((s.sl p).running = true) &&
   decide (2 ^ 16 ≤ (s.cv p).ofConv1) &&
   decide ((s.cv p).band < 6) &&
   decide (g = (s.trim p).gain + Config.toUnits ((b : Rat) / 16)) &&
   decide (-50000 ≤ g) &&
   decide (g ≤ 50000)) &&
  (let s : State := w0.onCv 0 (fun y => { y with ofConv1 := 2 ^ 16 })
   let p : Phys := 0
   let b : Int := -800000
   let g : Int := -50000
   decide ((s.sl p).running = true) &&
   decide (2 ^ 16 ≤ (s.cv p).ofConv1) &&
   decide ((s.cv p).band < 6) &&
   decide (g = (s.trim p).gain + Config.toUnits ((b : Rat) / 16)) &&
   decide (-50000 ≤ g) &&
   decide (g ≤ 50000)) &&
  (let s : State := w0.onCv 0 (fun y => { y with ofConv1 := 2 ^ 16 })
   let p : Phys := 0
   let b : Int := 112
   let g : Int := (s.trim p).gain + Config.toUnits ((b : Rat) / 16)
   decide ((s.sl p).running = true) &&
   decide (2 ^ 16 ≤ (s.cv p).ofConv1) &&
   decide ((s.cv p).band < 6) &&
   decide (-50000 ≤ g) &&
   decide (g ≤ 50000)) &&
  (let s : State := w0.onCv 0 (fun y => { y with ofConv1 := 2 ^ 16 })
   let p : Phys := 0
   let b : Int := 800016
   let g : Int := 50001
   decide ((s.sl p).running = true) &&
   decide (2 ^ 16 ≤ (s.cv p).ofConv1) &&
   decide ((s.cv p).band < 6) &&
   decide (g = (s.trim p).gain + Config.toUnits ((b : Rat) / 16)) &&
   decide (g < -50000 ∨ 50000 < g) &&
   decide ((s.trim p).gainLim = false))) = true := by decide +kernel

/-- The hypotheses of ConverterControl are met (part 3 of 4). -/
theorem meets_ConverterControl_3 : (
  (let s : State := w0.onCv 0 (fun y => { y with ofConv1 := 2 ^ 16 })
   let p : Phys := 0
   let b : Int := -800016
   let g : Int := -50001
   decide ((s.sl p).running = true) &&
   decide (2 ^ 16 ≤ (s.cv p).ofConv1) &&
   decide ((s.cv p).band < 6) &&
   decide (g = (s.trim p).gain + Config.toUnits ((b : Rat) / 16)) &&
   decide (g < -50000 ∨ 50000 < g) &&
   decide ((s.trim p).gainLim = false)) &&
  (let s : State := w0.onCv 0 (fun y => { y with ofPairs := 2 ^ 20 })
   let p : Phys := 0
   let e : Int := 5
   let k : Int := clampInt (-256) 255 ((s.trim p).skew + clampInt (-1) 1 e)
   decide ((s.sl p).running = true) &&
   decide (2 ^ 20 ≤ (s.cv p).ofPairs) &&
   decide ((s.cv p).band < 6) &&
   decide (k ≠ -256) &&
   decide (k ≠ 255)) &&
  (let s : State := w0.onCv 0 (fun y => { y with ofPairs := 2 ^ 20 })
   let p : Phys := 0
   let e : Int := -5
   let k : Int := clampInt (-256) 255 ((s.trim p).skew + clampInt (-1) 1 e)
   decide ((s.sl p).running = true) &&
   decide (2 ^ 20 ≤ (s.cv p).ofPairs) &&
   decide ((s.cv p).band < 6) &&
   decide (k ≠ -256) &&
   decide (k ≠ 255)) &&
  (let s : State := (w0.onCv 0 (fun y => { y with ofPairs := 2 ^ 20 })).onSl 0 (fun y =>
     { y with trims := y.trims.set 2 { skew := 254 } })
   let p : Phys := 0
   let e : Int := 5
   let k : Int := clampInt (-256) 255 ((s.trim p).skew + clampInt (-1) 1 e)
   decide ((s.sl p).running = true) &&
   decide (2 ^ 20 ≤ (s.cv p).ofPairs) &&
   decide ((s.cv p).band < 6) &&
   decide (k = -256 ∨ k = 255) &&
   decide ((s.trim p).skewLim = false))) = true := by decide +kernel

/-- The hypotheses of ConverterControl are met (part 4 of 4). -/
theorem meets_ConverterControl_4 : (
  (let s : State := (w0.onCv 0 (fun y => { y with ofPairs := 2 ^ 20 })).onSl 0 (fun y =>
     { y with trims := y.trims.set 2 { skew := -255 } })
   let p : Phys := 0
   let e : Int := -5
   let k : Int := clampInt (-256) 255 ((s.trim p).skew + clampInt (-1) 1 e)
   decide ((s.sl p).running = true) &&
   decide (2 ^ 20 ≤ (s.cv p).ofPairs) &&
   decide ((s.cv p).band < 6) &&
   decide (k = -256 ∨ k = 255) &&
   decide ((s.trim p).skewLim = false)) &&
  (let s : State := w0.onCv 0 (fun y => { y with conv := true })
   let p : Phys := 0
   decide ((s.sl p).running = true) &&
   decide ((s.cv p).conv = true))) = true := by decide +kernel

/-- The hypotheses of ConversionResults are met (part 1 of 3). -/
theorem meets_ConversionResults_1 : (
  (let s : State := (w0.onCv 0 (fun y => { y with a := { own := .seq 1 31 } })).onSeq 0 1 (fun y =>
     { y with act := true, live := [{ k := 31, cfg := 0 }] })
   let p : Phys := 0
   let adc : Fin 2 := 0
   let d : ConvData := { rawA := 8388607 }
   let x : Adc := (if adc = 0 then (s.cv p).a else (s.cv p).b)
   let q : Fin 4 := 1
   let k : Nat := 31
   let e : EntRun := { k := 31, cfg := 0 }
   let codes : List Int := e.part.codesA ++ [(channelCodes s p (s.seq p q).band e.cfg (entMode e.cfg == 3 && bitOf (s.cv
     p).swaps k) d).1.1]
   decide ((s.sl p).running = true) &&
   decide (k < 32) &&
   decide (x.own = .seq q k) &&
   decide ((s.seq p q).live.find? (fun y => y.k == k) = some e) &&
   decide (2 ^ entDec e.cfg ≤ codes.length) &&
   decide (s.store.wait = [])) &&
  (let s : State := (w0.onCv 0 (fun y => { y with a := { own := .seq 1 31 } })).onSeq 0 1 (fun y =>
     { y with act := true, live := [{ k := 31, cfg := 0x60000000 }] })
   let p : Phys := 0
   let adc : Fin 2 := 0
   let d : ConvData := { rawA := -9000000, rawB := 9000000 }
   let x : Adc := (if adc = 0 then (s.cv p).a else (s.cv p).b)
   let q : Fin 4 := 1
   let k : Nat := 31
   let e : EntRun := { k := 31, cfg := 0x60000000 }
   let codes : List Int := e.part.codesA ++ [(channelCodes s p (s.seq p q).band e.cfg (entMode e.cfg == 3 && bitOf (s.cv
     p).swaps k) d).1.1]
   decide ((s.sl p).running = true) &&
   decide (k < 32) &&
   decide (x.own = .seq q k) &&
   decide ((s.seq p q).live.find? (fun y => y.k == k) = some e) &&
   decide (2 ^ entDec e.cfg ≤ codes.length))) = true := by decide +kernel

/-- The hypotheses of ConversionResults are met (part 2 of 3). -/
theorem meets_ConversionResults_2 : (
  (let s : State := (w0.onCv 0 (fun y => { y with a := { own := .seq 1 31 } })).onSeq 0 1 (fun y =>
     { y with act := true, live := [{ k := 31, cfg := 0x2000 }] })
   let p : Phys := 0
   let adc : Fin 2 := 0
   let d : ConvData := { rawA := 8388607 }
   let x : Adc := (if adc = 0 then (s.cv p).a else (s.cv p).b)
   let q : Fin 4 := 1
   let k : Nat := 31
   let e : EntRun := { k := 31, cfg := 0x2000 }
   let codes : List Int := e.part.codesA ++ [(channelCodes s p (s.seq p q).band e.cfg (entMode e.cfg == 3 && bitOf (s.cv
     p).swaps k) d).1.1]
   decide ((s.sl p).running = true) &&
   decide (k < 32) &&
   decide (x.own = .seq q k) &&
   decide ((s.seq p q).live.find? (fun y => y.k == k) = some e) &&
   decide (codes.length < 2 ^ entDec e.cfg) &&
   decide ((s.seq p q).ending = false) &&
   decide (s.store.wait = [])) &&
  (let s : State := w0.onCv 0 (fun y =>
     { y with a := { own := .urgent }, urg := some { host := true, cfg := 0 }, urgPend := some { host := false, cfg := 5 } })
   let p : Phys := 0
   let adc : Fin 2 := 0
   let x : Adc := (if adc = 0 then (s.cv p).a else (s.cv p).b)
   let u : Urgent := { host := true, cfg := 0 }
   decide ((s.sl p).running = true) &&
   decide (x.own = .urgent) &&
   decide ((s.cv p).urg = some u)) &&
  (let s : State := w0.onCv 0 (fun y => { y with a := { own := .urgent }, urg := some { host := false, cfg := 0 } })
   let p : Phys := 0
   let adc : Fin 2 := 0
   let x : Adc := (if adc = 0 then (s.cv p).a else (s.cv p).b)
   let u : Urgent := { host := false, cfg := 0 }
   decide ((s.sl p).running = true) &&
   decide (x.own = .urgent) &&
   decide ((s.cv p).urg = some u)) &&
  (let s : State := w0.onCv 0 (fun y => { y with a := { own := .urgent }, urg := some { host := true, cfg := 0 } })
   let p : Phys := 0
   let adc : Fin 2 := 0
   let x : Adc := (if adc = 0 then (s.cv p).a else (s.cv p).b)
   let u : Urgent := { host := true, cfg := 0 }
   decide ((s.sl p).running = true) &&
   decide (x.own = .urgent) &&
   decide ((s.cv p).urg = some u) &&
   decide (s.store.wait = []) &&
   decide (u.host = true))) = true := by decide +kernel

/-- The hypotheses of ConversionResults are met (part 3 of 3). -/
theorem meets_ConversionResults_3 : (
  (let s : State := w0
   let p : Phys := 0
   let adc : Fin 2 := 0
   let d : ConvData := { rawA := 8388607 }
   let x : Adc := (if adc = 0 then (s.cv p).a else (s.cv p).b)
   decide ((s.sl p).running = true) &&
   decide (x.own = .none) &&
   decide (d.reading = none) &&
   decide (s.store.wait = []) &&
   decide ((s.mt p).cuts = [])) &&
  (let s : State := w0
   let p : Phys := 0
   let adc : Fin 2 := 1
   let d : ConvData := { rawA := 8388607 }
   let x : Adc := (if adc = 0 then (s.cv p).a else (s.cv p).b)
   decide ((s.sl p).running = true) &&
   decide (x.own = .none) &&
   decide (d.reading = none) &&
   decide (s.store.wait = []) &&
   decide ((s.mt p).cuts = []))) = true := by decide +kernel

/-- The hypotheses of MeterAndFlow are met (part 1 of 3). -/
theorem meets_MeterAndFlow_1 : (
  (let s : State := w0.onMt 0 (fun y =>
     { y with win := List.replicate 10 { vrms := 230, irms := 1, p := -230, freq := 50 }, lock := true })
   let p : Phys := 0
   decide ((s.sl p).running = true) &&
   decide (10 ≤ (s.mt p).win.length)) &&
  (let s : State := w0.onMt 0 (fun y =>
     { y with win := List.replicate 11 { vrms := 230, irms := 1, p := -230, freq := 50 } })
   let p : Phys := 0
   decide ((s.sl p).running = true) &&
   decide (10 ≤ (s.mt p).win.length)) &&
  (let s : State := w0.onMt 0 (fun y => { y with win := List.replicate 9 { vrms := 230, irms := 1, p := -230, freq := 50 } })
   let p : Phys := 0
   decide ((s.sl p).running = true) &&
   decide ((s.mt p).win.length < 10)) &&
  (let s : State := (w0.onMt 0 (fun y => { y with cap := { y.cap with drvWait := some 3 } })).onOut 0 3 (fun y =>
     { y with waitCap := true })
   let p : Phys := 0
   let j : Out := 3
   decide ((s.sl p).running = true) &&
   decide ((s.mt p).cap.drvWait = some j) &&
   decide ((s.out p j).held = false)) &&
  (let s : State := (w0.onMt 0 (fun y => { y with cap := { y.cap with drvWait := some 3 } })).onOut 0 3 (fun y =>
     { y with waitCap := true, held := true })
   let p : Phys := 0
   let j : Out := 3
   decide ((s.sl p).running = true) &&
   decide ((s.mt p).cap.drvWait = some j)) &&
  (let s : State := w0
   let p : Phys := 0
   let n : Fin 2 := 1
   decide ((s.sl p).running = true) &&
   decide ((s.mt p).cap.drvWait = none) &&
   decide (((s.ht p).fl[n]).chat.on = false) &&
   decide ((s.ht p).water = false)) &&
  (let s : State := w0.onFl 0 1 (fun y => { y with chat := { on := true } })
   let p : Phys := 0
   let n : Fin 2 := 1
   decide ((s.sl p).running = true) &&
   decide (((s.ht p).fl[n]).chat.on = true)) &&
  (let s : State := (w0.w 0 F.ZH_FL_CFG_n_ROLE 2 1).onR 0 (fun y => y.putWord R.ZH_FL_VPP_n 1000 1)
   let p : Phys := 0
   let n : Fin 2 := 1
   decide ((s.sl p).running = true) &&
   decide (((s.ht p).fl[n]).chat.on = false) &&
   decide (flowRole s p n = 2))) = true := by decide +kernel

/-- The hypotheses of MeterAndFlow are met (part 2 of 3). -/
theorem meets_MeterAndFlow_2 : (
  (let s : State := (w0.w 0 F.ZH_FL_CFG_n_ROLE 1 1).onR 0 (fun y => y.putWord R.ZH_FL_VPP_n 1000 1)
   let p : Phys := 0
   let n : Fin 2 := 1
   decide ((s.sl p).running = true) &&
   decide (((s.ht p).fl[n]).chat.on = false) &&
   decide (flowRole s p n = 1)) &&
  (let s : State := w0.w 0 F.ZH_FLOW_n_FLOW 7 1
   let p : Phys := 0
   decide ((s.sl p).running = true)) &&
  (let s : State := w0.w 0 F.ZH_FL_CFG_n_FMAX 10 1
   let p : Phys := 0
   let n : Fin 2 := 1
   let rate : Nat := 16
   decide ((s.sl p).running = true) &&
   decide (3 * s.g p F.ZH_FL_CFG_n_FMAX n < 2 * rate) &&
   decide (((s.ht p).fl[n]).chat.on = false)) &&
  (let s : State := w0.w 0 F.ZH_FL_CFG_n_FMAX 10 1
   let p : Phys := 0
   let n : Fin 2 := 1
   let rate : Nat := 15
   decide ((s.sl p).running = true) &&
   decide (2 * rate ≤ 3 * s.g p F.ZH_FL_CFG_n_FMAX n) &&
   decide (s.g p F.ZH_FL_CFG_n_FMAX n < rate) &&
   decide (((s.ht p).fl[n]).ovr = false)) &&
  (let s : State := w0.w 0 F.ZH_FL_CFG_n_FMAX 10 1
   let p : Phys := 0
   let n : Fin 2 := 1
   let rate : Nat := 11
   decide ((s.sl p).running = true) &&
   decide (2 * rate ≤ 3 * s.g p F.ZH_FL_CFG_n_FMAX n) &&
   decide (s.g p F.ZH_FL_CFG_n_FMAX n < rate) &&
   decide (((s.ht p).fl[n]).ovr = false)) &&
  (let s : State := (w0.w 0 F.ZH_FL_CFG_n_FMAX 10 1).onFl 0 1 (fun y => { y with ovr := true })
   let p : Phys := 0
   let n : Fin 2 := 1
   let rate : Nat := 10
   decide ((s.sl p).running = true) &&
   decide (2 * rate ≤ 3 * s.g p F.ZH_FL_CFG_n_FMAX n) &&
   decide (rate ≤ s.g p F.ZH_FL_CFG_n_FMAX n))) = true := by decide +kernel

/-- The hypotheses of MeterAndFlow are met (part 3 of 3). -/
theorem meets_MeterAndFlow_3 : (
  (let s : State := w0.w 0 F.ZH_FL_CFG_n_FMAX 10 1
   let p : Phys := 0
   let n : Fin 2 := 1
   let rate : Nat := 0
   decide ((s.sl p).running = true) &&
   decide (2 * rate ≤ 3 * s.g p F.ZH_FL_CFG_n_FMAX n) &&
   decide (rate ≤ s.g p F.ZH_FL_CFG_n_FMAX n)) &&
  (let s : State := (w0.w 0 F.ZH_WCFG_LEAKH 3).onHt 0 (fun y => { y with water := true, leakRun := 2 })
   let p : Phys := 0
   decide ((s.sl p).running = true) &&
   decide ((s.ht p).water = true) &&
   decide (s.g p F.ZH_WCFG_LEAKH ≠ 0) &&
   decide (s.g p F.ZH_WCFG_LEAKH ≤ (s.ht p).leakRun + 1) &&
   decide ((s.ht p).leak = false)) &&
  (let s : State := w0.onHt 0 (fun y => { y with leak := true })
   let p : Phys := 0
   decide ((s.sl p).running = true))) = true := by decide +kernel

/-- The hypotheses of LoopWork are met (part 1 of 3). -/
theorem meets_LoopWork_1 : (
  (let s : State := w0
   let p : Phys := 0
   decide ((s.sl p).running = true) &&
   decide (s.journal.handover = []) &&
   decide (isTimed (s.lp p).cmd = false) &&
   decide ((s.lp p).pboost = 0) &&
   decide ((s.lp p).tune = none)) &&
  (let s : State := (w0.onLp 0 (fun y => { y with reqs := [.boost] })).onSc 0 (fun y =>
     { y with planNext := some {}, due := [{ kind := 2, index := 0, at_ := 0 }] })
   let p : Phys := 0
   let x := {}
   decide ((s.sl p).running = true) &&
   decide (s.journal.handover = []) &&
   decide ((s.sc p).planNext = some x)) &&
  (let s : State := (w0.onLp 0 (fun y => { y with mode := 1, cmd := 1 })).w 0 F.ZI_TCFG_n_ROLE 1 0
   let p : Phys := 0
   decide ((s.sl p).running = true) &&
   decide (s.journal.handover = [])) &&
  (let s : State := w0.onLp 0 (fun y => { y with cmd := 4, prior := 1, remain := 1 })
   let p : Phys := 0
   decide ((s.sl p).running = true) &&
   decide (isTimed (s.lp p).cmd = true)) &&
  (let s : State := w0.onLp 0 (fun y => { y with cmd := 4, prior := 2, remain := 1, pboost := 3 })
   let p : Phys := 0
   decide ((s.sl p).running = true) &&
   decide (isTimed (s.lp p).cmd = true)) &&
  (let s : State := w0.onLp 0 (fun y => { y with pboost := 1, cmd := 1 })
   let p : Phys := 0
   decide ((s.sl p).running = true) &&
   decide (isTimed (s.lp p).cmd = false) &&
   decide (0 < (s.lp p).pboost)) &&
  (let s : State := w0.onLp 0 (fun y => { y with lossT := some 5 })
   let p : Phys := 0
   decide ((s.sl p).running = true) &&
   decide ((s.lp p).lossT ≠ none) &&
   decide ((s.lp p).lossLevels = false)) &&
  (let s : State := w0.onLp 0 (fun y => { y with secT := [20, 22], secUh := [50, 50], secUc := [0, 0] })
   let p : Phys := 0
   decide ((s.sl p).running = true)) &&
  (let s : State := w0.onLp 0 (fun y => { y with stepBad := true })
   let p : Phys := 0
   decide ((s.sl p).running = true))) = true := by decide +kernel

/-- The hypotheses of LoopWork are met (part 2 of 3). -/
theorem meets_LoopWork_2 : (
  (let u : Tune := { lseq := 9, seq := 5, cool := false, h := 1, eps := 1, rho := 1, verify := 1, step := 1, ticks := 3600 }
   let s : State := (w0.onLp 0 (fun y => { y with tune := some u })).onJ (fun y =>
     { y with running := [{ x := zoneCmd 0x0120 [] }] })
   let p : Phys := 0
   let why : Nat := 1
   let z := 0
   let r := { x := zoneCmd 0x0120 [] }
   decide ((s.sl p).running = true) &&
   decide ((s.lp p).tune = some u) &&
   decide ((((u.step = 1 ∨ (u.step = 4 ∧ u.moved = false)) ∧ 3600 ≤ u.ticks ∧ why = 1) ∨ (u.step = 2 ∧ 14400 ≤ u.ticks ∧ why
     = 3))) &&
   decide (s.zoneOf p = some z) &&
   decide (s.runningOf u.lseq = some r) &&
   decide (r.internal = false) &&
   decide (marked s u.lseq z.val = false)) &&
  (let u : Tune :=
     { lseq := 9, seq := 5, cool := false, h := 1, eps := 1, rho := 1, verify := 1, step := 4, ticks := 3600, moved := false }
   let s : State := (w0.onLp 0 (fun y => { y with tune := some u })).onJ (fun y =>
     { y with running := [{ x := zoneCmd 0x0120 [] }] })
   let p : Phys := 0
   let why : Nat := 1
   decide ((s.sl p).running = true) &&
   decide ((s.lp p).tune = some u) &&
   decide ((((u.step = 1 ∨ (u.step = 4 ∧ u.moved = false)) ∧ 3600 ≤ u.ticks ∧ why = 1) ∨ (u.step = 2 ∧ 14400 ≤ u.ticks ∧ why
     = 3)))) &&
  (let u : Tune := { lseq := 9, seq := 5, cool := false, h := 1, eps := 1, rho := 1, verify := 1, step := 2, ticks := 14400 }
   let s : State := (w0.onLp 0 (fun y => { y with tune := some u })).onJ (fun y =>
     { y with running := [{ x := zoneCmd 0x0120 [] }] })
   let p : Phys := 0
   let why : Nat := 3
   decide ((s.sl p).running = true) &&
   decide ((s.lp p).tune = some u) &&
   decide ((((u.step = 1 ∨ (u.step = 4 ∧ u.moved = false)) ∧ 3600 ≤ u.ticks ∧ why = 1) ∨ (u.step = 2 ∧ 14400 ≤ u.ticks ∧ why
     = 3)))) &&
  (let u : Tune := { lseq := 9, seq := 5, cool := false, h := 1, eps := 1, rho := 1, verify := 1, step := 3, total := 21600 }
   let s : State := (w0.onLp 0 (fun y => { y with tune := some u })).onJ (fun y =>
     { y with running := [{ x := zoneCmd 0x0120 [] }] })
   let p : Phys := 0
   decide ((s.sl p).running = true) &&
   decide ((s.lp p).tune = some u) &&
   decide (21600 ≤ u.total)) &&
  (let s : State := w0
   let p := 64
   decide ((s.sl p).running = false))) = true := by decide +kernel

/-- The hypotheses of LoopWork are met (part 3 of 3). -/
theorem meets_LoopWork_3 : (
  (let s : State := w0
   let p := 0
   decide ((s.sl p).running = true) &&
   decide ((s.lp p).stale = false))) = true := by decide +kernel

/-- The hypotheses of ScheduleAndPlans are met (part 1 of 2). -/
theorem meets_ScheduleAndPlans_1 : (
  (let s : State := (w0.onCl (fun y => { y with trusted := true })).onTs (fun y => { y with us := 86400000000 })
   let p : Phys := 0
   let k : AlarmKind := .dayStart
   let at_ : Nat := 86400000000
   decide ((s.sl p).running = true) &&
   decide (at_ % minuteUs = 0) &&
   decide (at_ ≤ s.slNow p) &&
   decide (afterMark s p (alarmKey k) at_ = true) &&
   decide (alarmKey k ∈ alarmsAt s p ((at_ / minuteUs : Nat) : Int))) &&
  (let s : State := w0.onSc 0 (fun y => { y with mark := 5 })
   let p : Phys := 0
   let k : AlarmKind := .dayStart
   let at_ : Nat := 0
   decide ((s.sl p).running = true) &&
   decide (afterMark s p (alarmKey k) at_ = false)) &&
  (let s : State := w0
   let p : Phys := 0
   decide ((s.sl p).running = true) &&
   decide ((s.sc p).learnBad = true ∨ occFrozen s p = true ∨ s.trusted = false) &&
   decide (plansSide s p false = false) &&
   decide (plansSide s p true = false) &&
   decide ((s.sc p).making = none)) &&
  (let s : State := w0.onSc 0 (fun y => { y with occLeft := 5 })
   let p : Phys := 0
   decide ((s.sl p).running = true)) &&
  (let s : State := w0.onSc 0 (fun y => { y with learnBad := true })
   let p : Phys := 0
   decide ((s.sl p).running = true) &&
   decide ((s.sc p).learnBad = true ∨ occFrozen s p = true ∨ s.trusted = false)) &&
  (let s : State := (((w0.onCl (fun y => { y with trusted := true })).onTs (fun y => { y with us := 86400000000 })).w 0
     F.ZP_CFG_3_LEARN_W 1).w 0 F.ZI_PRES_CFG_MODE 0
   let p : Phys := 0
   let b : Fin 672 := ⟨binEnded s 0, Nat.mod_lt _ (by decide)⟩
   let active : Nat := 900
   let total : Nat := 900
   let c : Fin 672 := 5
   decide ((s.sl p).running = true) &&
   decide ((s.sc p).learnBad = false) &&
   decide (occFrozen s p = false) &&
   decide (s.trusted = true) &&
   decide (b.val = binEnded s p) &&
   decide (excOf s p ((localMin s p (s.minute p) - 15) / 1440) = none) &&
   decide (0 < total) &&
   decide (active ≤ total) &&
   decide (c ≠ b))) = true := by decide +kernel

/-- The hypotheses of ScheduleAndPlans are met (part 2 of 2). -/
theorem meets_ScheduleAndPlans_2 : (
  (let s : State := (((w0.onCl (fun y => { y with trusted := true })).onTs (fun y => { y with us := 86400000000 })).w 0
     F.ZP_CFG_3_LEARN_W 1).w 0 F.ZI_PRES_CFG_MODE 0
   let p : Phys := 0
   let b : Fin 672 := ⟨binEnded s 0, Nat.mod_lt _ (by decide)⟩
   let active : Nat := 0
   let total : Nat := 900
   decide ((s.sl p).running = true) &&
   decide ((s.sc p).learnBad = false) &&
   decide (occFrozen s p = false) &&
   decide (s.trusted = true) &&
   decide (b.val = binEnded s p) &&
   decide (excOf s p ((localMin s p (s.minute p) - 15) / 1440) = none) &&
   decide (0 < total) &&
   decide (active ≤ total)) &&
  (let s : State := (w0.w 0 F.ZT_VALID_UNTIL 1).onTs (fun y => { y with us := 60000000 })
   let p : Phys := 0
   decide ((s.sl p).running = true)) &&
  (let s : State := ((((w0.onCl (fun y => { y with trusted := true })).onLp 0 (fun y => { y with cmd := autoMode })).wb 0
     F.ZP_CFG_1_PLAN_EN true).w 0 F.ZL_ACT_j_FUNC 1 0).w 0 F.ZL_MODEL_H_2_CONF 100
   let p : Phys := 0
   decide ((s.sl p).running = true) &&
   decide ((plansSide s p false = true ∨ plansSide s p true = true)) &&
   decide ((s.sc p).making = none)) &&
  (let s : State := (((((w0.onCl (fun y => { y with trusted := true })).onLp 0 (fun y => { y with cmd := autoMode })).wb 0
     F.ZP_CFG_1_PLAN_EN true).w 0 F.ZL_ACT_j_FUNC 1 0).w 0 F.ZL_MODEL_H_2_CONF 100).onSc 0 (fun y =>
     { y with making := some {} })
   let p : Phys := 0
   decide ((s.sl p).running = true) &&
   decide ((plansSide s p false = true ∨ plansSide s p true = true)) &&
   decide ((s.sc p).making ≠ none)) &&
  (let s : State := w0.onSc 0 (fun y => { y with making := some { short := true } })
   let p : Phys := 0
   let pl : Plan := { short := true }
   decide ((s.sl p).running = true) &&
   decide ((s.sc p).making = some pl) &&
   decide (pl.short = true) &&
   decide (s.gb p F.ZP_STAT_SHORT = false)) &&
  (let s : State := w0.onSc 0 (fun y => { y with making := some {} })
   let p : Phys := 0
   let pl : Plan := {}
   decide ((s.sl p).running = true) &&
   decide ((s.sc p).making = some pl) &&
   decide ((s.sc p).again = false) &&
   decide ((s.sc p).making ≠ none))) = true := by decide +kernel

/-- The hypotheses of OutputEvents are met (part 1 of 3). -/
theorem meets_OutputEvents_1 : (
  (let s : State := (w0.onOut 0 4 (fun y => { y with pulse := some { lseq := 9, dur := 100 } })).onJ (fun y =>
     { y with running := [{ x := zoneCmd 0x0120 [] }] })
   let p : Phys := 0
   let j : Out := 4
   let u : Pulse := { lseq := 9, dur := 100 }
   let z := 0
   let r := { x := zoneCmd 0x0120 [] }
   decide ((s.sl p).running = true) &&
   decide ((s.out p j).pulse = some u) &&
   decide ((s.out p j).held = false) &&
   decide (s.zoneOf p = some z) &&
   decide (s.runningOf u.lseq = some r) &&
   decide (r.internal = false) &&
   decide (marked s u.lseq z.val = false)) &&
  (let s : State := w0
   let p : Phys := 0
   let j : Out := 4
   decide ((s.sl p).running = true) &&
   decide ((s.out p j).pulse = none) &&
   decide ((s.out p j).ovcOff = false ∨ (s.out p j).held = true) &&
   decide ((s.z p).outs.tach.on = false)) &&
  (let s : State := w0.onOut 0 1 (fun y => { y with ilim := true })
   let p : Phys := 0
   let j : Out := 1
   decide ((s.sl p).running = true) &&
   decide (isAo j = true) &&
   decide ((s.out p j).ilim = true) &&
   decide ((s.out p j).held = false)) &&
  (let s : State := w0.onOuts 0 (fun y => { y with fact := 99 })
   let p : Phys := 0
   decide ((s.sl p).running = true) &&
   decide ((s.z p).outs.fact < 100)) &&
  (let s : State := (w0.onOut 0 4 (fun y => { y with applied := 10000, req := 10000 })).onOuts 0 (fun y =>
     { y with fact := 100 })
   let p : Phys := 0
   let j : Out := 4
   decide ((s.sl p).running = true) &&
   decide (isDo j = true) &&
   decide ((s.out p j).held = false) &&
   decide (0 < (s.out p j).applied) &&
   decide (100 ≤ (s.z p).outs.fact) &&
   decide ((s.out p j).ovcRun < 2))) = true := by decide +kernel

/-- The hypotheses of OutputEvents are met (part 2 of 3). -/
theorem meets_OutputEvents_2 : (
  (let s : State := (w0.onOut 0 3 (fun y => { y with applied := 10000, ovcRun := 1 })).onOuts 0 (fun y =>
     { y with fact := 100 })
   let p : Phys := 0
   let j : Out := 3
   decide ((s.sl p).running = true) &&
   decide (isDo j = true) &&
   decide ((s.out p j).held = false) &&
   decide (0 < (s.out p j).applied) &&
   decide (100 ≤ (s.z p).outs.fact) &&
   decide ((s.out p j).ovcRun < 2)) &&
  (let s : State := (w0.onOut 0 4 (fun y => { y with applied := 10000, ovcRun := 2 })).onOuts 0 (fun y =>
     { y with fact := 100 })
   let p : Phys := 0
   let j : Out := 4
   decide ((s.sl p).running = true) &&
   decide (isDo j = true) &&
   decide ((s.out p j).held = false) &&
   decide (0 < (s.out p j).applied) &&
   decide (100 ≤ (s.z p).outs.fact) &&
   decide (2 ≤ (s.out p j).ovcRun)) &&
  (let s : State := w0.onOut 0 4 (fun y => { y with ovcOff := true, ovcRun := 1, req := 10000 })
   let p : Phys := 0
   let j : Out := 4
   decide ((s.sl p).running = true) &&
   decide ((s.out p j).ovcOff = true) &&
   decide ((s.out p j).held = false) &&
   decide (isDo j = true) &&
   decide (0 < (s.out p j).req) &&
   decide ((s.out p j).latched = false) &&
   decide ((s.out p j).govOff = false) &&
   decide ((s.out p j).waitCap = false)) &&
  (let s : State := w0.onOut 0 3 (fun y => { y with ovcOff := true, req := 10000 })
   let p : Phys := 0
   let j : Out := 3
   decide ((s.sl p).running = true) &&
   decide ((s.out p j).ovcOff = true) &&
   decide ((s.out p j).held = false)) &&
  (let s : State := w0.onOut 0 4 (fun y => { y with ovcOff := true, held := true })
   let p : Phys := 0
   let j : Out := 4
   decide ((s.sl p).running = true) &&
   decide ((s.out p j).ovcOff = false ∨ (s.out p j).held = true))) = true := by decide +kernel

/-- The hypotheses of OutputEvents are met (part 3 of 3). -/
theorem meets_OutputEvents_3 : (
  (let s : State := w0.onOut 0 3 (fun y => { y with applied := 10000 })
   let p : Phys := 0
   let j : Out := 3
   decide ((s.sl p).running = true) &&
   decide (isDo j = true) &&
   decide ((s.out p j).held = false) &&
   decide (0 < (s.out p j).applied) &&
   decide ((s.out p j).open_ = false)) &&
  (let s : State := w0
   let p : Phys := 0
   let j : Out := 0
   decide ((s.sl p).running = true) &&
   decide (isAo j = true) &&
   decide ((s.out p j).ilim = false) &&
   decide ((s.out p j).rbk = false)) &&
  (let s : State := w0.onOut 0 1 (fun y => { y with rbk := true })
   let p : Phys := 0
   let j : Out := 1
   decide ((s.sl p).running = true) &&
   decide (isAo j = true) &&
   decide ((s.out p j).ilim = false) &&
   decide ((s.out p j).rbk = true)) &&
  (let s : State := w0.onOuts 0 (fun y => { y with tach := { on := true } })
   let p : Phys := 0
   decide ((s.sl p).running = true) &&
   decide ((s.z p).outs.tach.on = true)) &&
  (let period : Nat := 100
   let s : State := w0.onOuts 0 (fun y => { y with periods := [1, 2, 3, 4] })
   let p : Phys := 0
   decide ((s.sl p).running = true) &&
   decide ((s.z p).outs.tach.on = false)) &&
  (let s : State := w0.onOut 0 2 (fun y => { y with applied := 10000 })
   let p : Phys := 0
   decide ((s.sl p).running = true) &&
   decide ((s.z p).outs.tach.on = false) &&
   decide ((s.z p).outs.stall = false) &&
   decide ((s.g p F.ZO_TACH_CFG_STALL_MIN : Rat) * 100 ≤ (s.out p 2).applied))) = true := by decide +kernel

/-- The hypotheses of PanelEvents are met (part 1 of 3). -/
theorem meets_PanelEvents_1 : (
  (let s : State := w0.onPn 0 (fun y => { y with scan := false })
   let p : Phys := 0
   decide ((s.sl p).running = true) &&
   decide ((s.pn p).scan = false)) &&
  (let s : State := w0.w 0 F.ZK_CFG_DEB 1
   let p : Phys := 0
   decide ((s.sl p).running = true) &&
   decide ((s.pn p).scan = true)) &&
  (let s : State := w0.w 0 F.ZK_CFG_DEB 2
   let p : Phys := 0
   let raw : BitVec 16 := 0x8001
   let m : BitVec 16 := (if s.gb p F.ZK_CFG_DIODES then 0 else ghostKeys raw)
   let k : Fin 16 := 15
   decide ((s.sl p).running = true) &&
   decide ((s.pn p).scan = true) &&
   decide ((m ||| thawed (s.pn p) m).getLsbD k.val = false) &&
   decide ((s.pn p).fresh = false) &&
   decide ((s.key p k).chat.on = false) &&
   decide ((s.key p k).guard = false) &&
   decide (raw.getLsbD k.val ≠ (s.pn p).acc.getLsbD k.val) &&
   decide ((s.key p k).cnt + 1 < s.g p F.ZK_CFG_DEB)) &&
  (let s : State := w0
   let p : Phys := 0
   let raw : BitVec 16 := 0x0033
   let m : BitVec 16 := (if s.gb p F.ZK_CFG_DIODES then 0 else ghostKeys raw)
   let k : Fin 16 := 5
   decide ((s.sl p).running = true) &&
   decide ((s.pn p).scan = true) &&
   decide ((m ||| thawed (s.pn p) m).getLsbD k.val = true)) &&
  (let s : State := (w0.wb 0 F.ZK_CFG_DIODES true).w 0 F.ZK_CFG_DEB 1
   let p : Phys := 0
   decide ((s.sl p).running = true) &&
   decide ((s.pn p).scan = true)) &&
  (let s : State := w0.onPn 0 (fun y => { y with ghost := true, frozen := 0x0033 })
   let p : Phys := 0
   let raw : BitVec 16 := 0x0012
   let m : BitVec 16 := (if s.gb p F.ZK_CFG_DIODES then 0 else ghostKeys raw)
   let k : Fin 16 := 0
   decide ((s.sl p).running = true) &&
   decide ((s.pn p).scan = true) &&
   decide ((m ||| thawed (s.pn p) m).getLsbD k.val = true))) = true := by decide +kernel

/-- The hypotheses of PanelEvents are met (part 2 of 3). -/
theorem meets_PanelEvents_2 : (
  (let s : State := (w0.w 0 F.ZK_CFG_DEB 1)
   let p : Phys := 0
   let raw : BitVec 16 := 0x8001
   let m : BitVec 16 := (if s.gb p F.ZK_CFG_DIODES then 0 else ghostKeys raw)
   let k : Fin 16 := 15
   decide ((s.sl p).running = true) &&
   decide ((s.pn p).scan = true) &&
   decide ((m ||| thawed (s.pn p) m).getLsbD k.val = false) &&
   decide ((s.pn p).fresh = false) &&
   decide ((s.key p k).chat.on = false) &&
   decide ((s.key p k).guard = false) &&
   decide (raw.getLsbD k.val ≠ (s.pn p).acc.getLsbD k.val) &&
   decide (s.g p F.ZK_CFG_DEB ≤ (s.key p k).cnt + 1)) &&
  (let s : State := w0.onPn 0 (fun y => { y with acc := 0x8000 })
   let p : Phys := 0
   let k : Fin 16 := 15
   decide ((s.sl p).running = true) &&
   decide (keyHeld s p k = true) &&
   decide ((s.key p k).long = false) &&
   decide ((s.pn p).evts.length < 16)) &&
  (let s : State := ((w0.onPn 0 (fun y => { y with acc := 0x8000 })).onKey 0 15 (fun y => { y with long := true })).onR 0
     (fun y => y.putWord R.ZK_KEYFN_2 0x20000000)
   let p : Phys := 0
   let k : Fin 16 := 15
   decide ((s.sl p).running = true) &&
   decide (keyHeld s p k = true) &&
   decide ((s.key p k).long = true) &&
   decide (keyFn s p k = 2 ∨ keyFn s p k = 3)) &&
  (let s : State := ((w0.onPn 0 (fun y => { y with acc := 0x8000 })).onKey 0 15 (fun y => { y with long := true })).onR 0
     (fun y => y.putWord R.ZK_KEYFN_2 0x30000000)
   let p : Phys := 0
   let k : Fin 16 := 15
   decide ((s.sl p).running = true) &&
   decide (keyHeld s p k = true) &&
   decide ((s.key p k).long = true) &&
   decide (keyFn s p k = 2 ∨ keyFn s p k = 3)) &&
  (let s : State := w0
   let p : Phys := 0
   let a : Bool := false
   let b : Bool := false
   let q : Nat := bit1 (s.pn p).encB * 2 + bit1 (s.pn p).encA
   let r : Nat := bit1 b * 2 + bit1 a
   decide ((s.sl p).running = true) &&
   decide ((s.pn p).scan = true) &&
   decide (r = 3 - q))) = true := by decide +kernel

/-- The hypotheses of PanelEvents are met (part 3 of 3). -/
theorem meets_PanelEvents_3 : (
  (let s : State := w0
   let p : Phys := 0
   let a : Bool := false
   let b : Bool := true
   let q : Nat := bit1 (s.pn p).encB * 2 + bit1 (s.pn p).encA
   let r : Nat := bit1 b * 2 + bit1 a
   decide ((s.sl p).running = true) &&
   decide ((s.pn p).scan = true) &&
   decide (r ≠ q) &&
   decide (r ≠ 3 - q) &&
   decide ((detentOf (s.g p F.ZK_ENC_CFG_DETENT) r).2 = false)) &&
  (let s : State := (w0.w 0 F.ZK_ENC_CFG_ENC_MAX 1).onPn 0 (fun y => { y with encA := false, encB := true, net := 3 })
   let p : Phys := 0
   let a : Bool := true
   let b : Bool := true
   let q : Nat := bit1 (s.pn p).encB * 2 + bit1 (s.pn p).encA
   let r : Nat := bit1 b * 2 + bit1 a
   let d : Int := 1
   decide ((s.sl p).running = true) &&
   decide ((s.pn p).scan = true) &&
   decide (r ≠ q) &&
   decide (r ≠ 3 - q) &&
   decide ((detentOf (s.g p F.ZK_ENC_CFG_DETENT) r).2 = true) &&
   decide ((s.pn p).encChat.on = false) &&
   decide ((within1s (s.slUs p) (s.pn p).dets).length < s.g p F.ZK_ENC_CFG_ENC_MAX) &&
   decide (d = 1 ∨ d = -1) &&
   decide ((s.pn p).net + (if quadNext q = r then 1 else -1) = d * (detentOf (s.g p F.ZK_ENC_CFG_DETENT) r).1)) &&
  (let s : State := (w0.w 0 F.ZK_ENC_CFG_ENC_MAX 1).onPn 0 (fun y => { y with encA := true, encB := false, net := -3 })
   let p : Phys := 0
   let a : Bool := true
   let b : Bool := true
   let q : Nat := bit1 (s.pn p).encB * 2 + bit1 (s.pn p).encA
   let r : Nat := bit1 b * 2 + bit1 a
   let d : Int := -1
   decide ((s.sl p).running = true) &&
   decide ((s.pn p).scan = true) &&
   decide (r ≠ q) &&
   decide (r ≠ 3 - q) &&
   decide ((detentOf (s.g p F.ZK_ENC_CFG_DETENT) r).2 = true) &&
   decide ((s.pn p).encChat.on = false) &&
   decide ((within1s (s.slUs p) (s.pn p).dets).length < s.g p F.ZK_ENC_CFG_ENC_MAX) &&
   decide (d = 1 ∨ d = -1) &&
   decide ((s.pn p).net + (if quadNext q = r then 1 else -1) = d * (detentOf (s.g p F.ZK_ENC_CFG_DETENT) r).1))) = true := by decide +kernel

/-- The hypotheses of LinkTraining are met (part 1 of 3). -/
theorem meets_LinkTraining_1 : (
  (let s : State := w0.onLk (fun y => { y with excluded := 1 })
   let lane : Fin 4 := 0
   decide (s.porchRuns = false ∨ (s.link.offered &&& s.link.healthy).getLsbD lane.val = false)) &&
  (let s : State := w0.onLd (fun y => { y with state := 3 })
   let lane : Fin 4 := 0
   decide (s.porchRuns = false ∨ (s.link.offered &&& s.link.healthy).getLsbD lane.val = false)) &&
  (let s : State := w0
   let set : TrainSet := .ts1
   let lane : Fin 4 := 0
   decide (s.porchRuns = true) &&
   decide ((s.link.offered &&& s.link.healthy).getLsbD lane.val = true) &&
   decide (set = .ts1) &&
   decide (s.link.state = 0) &&
   decide (s.link.ts2 = 0) &&
   decide (s.link.state ≠ 1 ∨ s.link.locked = 0) &&
   decide (s.link.state ≠ 4)) &&
  (let s : State := (linkAt w0 2).onLk (fun y => { y with ts2 := 0xE })
   let set : TrainSet := .ts2
   let lane : Fin 4 := 0
   let complete : Bool := false
   decide (s.porchRuns = true) &&
   decide ((s.link.offered &&& s.link.healthy).getLsbD lane.val = true) &&
   decide (set = .ts2) &&
   decide (s.link.state = 2) &&
   decide (s.link.active ≠ 0) &&
   decide (complete = false)) &&
  (let s : State := (linkAt w0 2).onLk (fun y => { y with ts2 := 2 })
   let set : TrainSet := .ts2
   let lane : Fin 4 := 0
   let complete : Bool := false
   decide (s.porchRuns = true) &&
   decide ((s.link.offered &&& s.link.healthy).getLsbD lane.val = true) &&
   decide (set = .ts2) &&
   decide (s.link.state = 2) &&
   decide (s.link.active ≠ 0) &&
   decide (complete = false))) = true := by decide +kernel

/-- The hypotheses of LinkTraining are met (part 2 of 3). -/
theorem meets_LinkTraining_2 : (
  (let s : State := (linkAt w0 3).onLk (fun y => { y with wait := [⟨0xA, 5, [1]⟩], retrain := true })
   let lane : Fin 4 := 0
   let complete : Bool := true
   let k := ⟨0xA, 5, [1]⟩
   decide (s.porchRuns = true) &&
   decide ((s.link.offered &&& s.link.healthy).getLsbD lane.val = true) &&
   decide (s.link.state = 3) &&
   decide (complete = true) &&
   decide (k ∈ s.link.wait) &&
   decide (s.link.retrain = true)) &&
  (let s : State := linkAt w0 3
   let lane : Fin 4 := 0
   let complete : Bool := true
   decide (s.porchRuns = true) &&
   decide ((s.link.offered &&& s.link.healthy).getLsbD lane.val = true) &&
   decide (s.link.state = 3) &&
   decide (complete = true) &&
   decide (s.link.state ≠ 4)) &&
  (let s : State := linkAt w0 4
   let set : TrainSet := .ts1
   let lane : Fin 4 := 0
   decide (s.porchRuns = true) &&
   decide ((s.link.offered &&& s.link.healthy).getLsbD lane.val = true) &&
   decide (set = .ts1) &&
   decide (s.link.state = 4) &&
   decide (s.porchRuns = false ∨ s.link.state ≠ 0)) &&
  (let s : State := linkAt w0 4
   let set : TrainSet := .ts1
   let lane : Fin 4 := 3
   decide (s.porchRuns = true) &&
   decide ((s.link.offered &&& s.link.healthy).getLsbD lane.val = true) &&
   decide (set = .ts1) &&
   decide (s.link.state = 4)) &&
  (let s : State := (linkAt w0 1).onLk (fun y => { y with locked := 3 })
   let n : Fin 4 := 2
   decide (s.link.state = 1) &&
   decide (s.link.locked ≠ 0) &&
   decide (s.link.usable.getLsbD n.val = true) &&
   decide (s.link.locked.getLsbD n.val = false)) &&
  (let s : State := linkAt w0 1
   decide (s.link.state ≠ 1 ∨ s.link.locked = 0))) = true := by decide +kernel

/-- The hypotheses of LinkTraining are met (part 3 of 3). -/
theorem meets_LinkTraining_3 : (
  (let s : State := linkAt w0 4
   let lane : Fin 4 := 0
   let run : Nat := 0
   let win : Nat := 9
   decide (s.link.state = 4) &&
   decide (s.link.active.getLsbD lane.val = true) &&
   decide (8 < win ∨ 3 ≤ run)) &&
  (let s : State := linkAt w0 4
   let lane : Fin 4 := 0
   let run : Nat := 3
   let win : Nat := 0
   decide (s.link.state = 4) &&
   decide (s.link.active.getLsbD lane.val = true) &&
   decide (8 < win ∨ 3 ≤ run) &&
   decide (s.link.excluded.getLsbD lane.val = false)) &&
  (let s : State := w0
   let lane : Fin 4 := 0
   let run : Nat := 0
   let win : Nat := 0
   decide (s.link.state ≠ 4 ∨ s.link.active.getLsbD lane.val = false ∨ (win ≤ 8 ∧ run < 3))) &&
  (let s : State := linkAt w0 4
   let lane : Fin 4 := 0
   let run : Nat := 2
   let win : Nat := 8
   decide (s.link.state ≠ 4 ∨ s.link.active.getLsbD lane.val = false ∨ (win ≤ 8 ∧ run < 3)))) = true := by decide +kernel

/-- The hypotheses of LinkRequests are met (part 1 of 5). -/
theorem meets_LinkRequests_1 : (
  (let s : State := w0
   decide (s.porchRuns = false ∨ s.link.state ≠ 4)) &&
  (let s : State := (linkAt w0 4).onLd (fun y => { y with state := 2 })
   decide (s.porchRuns = false ∨ s.link.state ≠ 4)) &&
  (let s : State := linkAt wOpen 4
   let tag : BitVec 8 := 7
   let u : State := (freeBuffer (endDoze s)).setTag tag .idle
   let a : Word := BitVec.ofNat 32 (R.PCH_STATE.at 0)
   let n : Nat := 1
   decide (s.porchRuns = true) &&
   decide (s.link.state = 4) &&
   decide (s.tag tag ≠ .opened) &&
   decide (1 ≤ n) &&
   decide (n ≤ 64) &&
   decide ((readPayload u a n).2.link.state = 4)) &&
  (let s : State := linkAt wOpen 4
   let tag : BitVec 8 := 7
   let n : Nat := 64
   decide (s.porchRuns = true) &&
   decide (s.link.state = 4) &&
   decide (s.tag tag ≠ .opened) &&
   decide (1 ≤ n) &&
   decide (n ≤ 64)) &&
  (let s : State := linkAt wOpen 4
   let tag : BitVec 8 := 7
   let u : State := (freeBuffer (endDoze s)).setTag tag .idle
   let a : Word := BitVec.ofNat 32 (R.PCH_STATE.at 0)
   let d : List Word := [1]
   decide (s.porchRuns = true) &&
   decide (s.link.state = 4) &&
   decide (s.tag tag ≠ .opened) &&
   decide (1 ≤ d.length) &&
   decide (d.length ≤ 64) &&
   decide ((writePayload u a d).2.link.state = 4)) &&
  (let s : State := linkAt wOpen 4
   let tag : BitVec 8 := 7
   let d : List Word := List.replicate 64 0
   decide (s.porchRuns = true) &&
   decide (s.link.state = 4) &&
   decide (s.tag tag ≠ .opened) &&
   decide (1 ≤ d.length) &&
   decide (d.length ≤ 64))) = true := by decide +kernel

/-- The hypotheses of LinkRequests are met (part 2 of 5). -/
theorem meets_LinkRequests_2 : (
  (let s : State := linkAt wOpen 4
   let tag : BitVec 8 := 7
   let b : Envelope := { bytes := [1, 2, 3, 4, 5] }
   decide (s.porchRuns = true) &&
   decide (s.link.state = 4) &&
   decide (s.tag tag ≠ .opened) &&
   decide (envelopeOk b.bytes = false)) &&
  (let s : State := linkAt wOpen 4
   let tag : BitVec 8 := 7
   let b : Envelope := { bytes := [] }
   decide (s.porchRuns = true) &&
   decide (s.link.state = 4) &&
   decide (s.tag tag ≠ .opened) &&
   decide (envelopeOk b.bytes = false)) &&
  (let s : State := linkAt wOpen 4
   let tag : BitVec 8 := 7
   let u : State := (freeBuffer (endDoze s)).setTag tag .idle
   let b : Envelope := { bytes := nopBytes }
   let x : Exec := carried u b.bytes
   decide (s.porchRuns = true) &&
   decide (s.link.state = 4) &&
   decide (s.tag tag ≠ .opened) &&
   decide (acceptB u b.bytes x = true) &&
   decide (bankStays u b)) &&
  (let s : State := (linkAt wOpen 4).setTag 7 (.kept ⟨8, 7, [1]⟩)
   let tag : BitVec 8 := 7
   let d : List Word := [5]
   let a : Word := BitVec.ofNat 32 (R.PCH_STATE.at 0)
   let i : Bool → Instr := fun x => .linkRead tag x a d.length
   let b : Envelope := { bytes := nopBytes }
   let k : OutPacket := ⟨8, 7, [1]⟩
   decide (s.porchRuns = true) &&
   decide (s.link.state = 4) &&
   decide (1 ≤ d.length) &&
   decide (d.length ≤ 64) &&
   decide (i ∈ [fun r => .linkRead tag r a d.length, fun r => .linkWrite tag r a d, fun r => .linkCommand tag r b]) &&
   decide (s.tag tag = .kept k))) = true := by decide +kernel

/-- The hypotheses of LinkRequests are met (part 3 of 5). -/
theorem meets_LinkRequests_3 : (
  (let s : State := (linkAt wOpen 4).setTag 7 (.kept ⟨8, 7, [1]⟩)
   let tag : BitVec 8 := 7
   let b : Envelope := { bytes := nopBytes }
   let i : Bool → Instr := fun x => .linkCommand tag x b
   let a : Word := BitVec.ofNat 32 (R.PCH_STATE.at 0)
   let d : List Word := [5]
   let k : OutPacket := ⟨8, 7, [1]⟩
   decide (s.porchRuns = true) &&
   decide (s.link.state = 4) &&
   decide (1 ≤ d.length) &&
   decide (d.length ≤ 64) &&
   decide (i ∈ [fun r => .linkRead tag r a d.length, fun r => .linkWrite tag r a d, fun r => .linkCommand tag r b]) &&
   decide (s.tag tag = .kept k)) &&
  (let s : State := (linkAt wOpen 4).setTag 7 (.kept ⟨8, 7, [1]⟩)
   let tag : BitVec 8 := 7
   let d : List Word := [5]
   let a : Word := BitVec.ofNat 32 (R.PCH_STATE.at 0)
   let i : Bool → Instr := fun x => .linkWrite tag x a d
   let b : Envelope := { bytes := nopBytes }
   let k : OutPacket := ⟨8, 7, [1]⟩
   decide (s.porchRuns = true) &&
   decide (s.link.state = 4) &&
   decide (1 ≤ d.length) &&
   decide (d.length ≤ 64) &&
   decide (i ∈ [fun r => .linkRead tag r a d.length, fun r => .linkWrite tag r a d, fun r => .linkCommand tag r b]) &&
   decide (s.tag tag = .kept k)) &&
  (let s : State := (linkAt wOpen 4).setTag 7 .opened
   let tag : BitVec 8 := 7
   let d : List Word := [5]
   let a : Word := BitVec.ofNat 32 (R.PCH_STATE.at 0)
   let i : Bool → Instr := fun x => .linkRead tag x a d.length
   let b : Envelope := { bytes := nopBytes }
   decide (s.porchRuns = true) &&
   decide (s.link.state = 4) &&
   decide (1 ≤ d.length) &&
   decide (d.length ≤ 64) &&
   decide (i ∈ [fun r => .linkRead tag r a d.length, fun r => .linkWrite tag r a d, fun r => .linkCommand tag r b]) &&
   decide (s.tag tag = .opened))) = true := by decide +kernel

/-- The hypotheses of LinkRequests are met (part 4 of 5). -/
theorem meets_LinkRequests_4 : (
  (let s : State := (linkAt wOpen 4).setTag 7 .opened
   let tag : BitVec 8 := 7
   let b : Envelope := { bytes := nopBytes }
   let i : Bool → Instr := fun x => .linkCommand tag x b
   let a : Word := BitVec.ofNat 32 (R.PCH_STATE.at 0)
   let d : List Word := [5]
   decide (s.porchRuns = true) &&
   decide (s.link.state = 4) &&
   decide (1 ≤ d.length) &&
   decide (d.length ≤ 64) &&
   decide (i ∈ [fun r => .linkRead tag r a d.length, fun r => .linkWrite tag r a d, fun r => .linkCommand tag r b]) &&
   decide (s.tag tag = .opened)) &&
  (let s : State := (linkAt wOpen 4).setTag 7 .opened
   let tag : BitVec 8 := 7
   let d : List Word := [5]
   let a : Word := BitVec.ofNat 32 (R.PCH_STATE.at 0)
   let i : Bool → Instr := fun x => .linkWrite tag x a d
   let b : Envelope := { bytes := nopBytes }
   decide (s.porchRuns = true) &&
   decide (s.link.state = 4) &&
   decide (1 ≤ d.length) &&
   decide (d.length ≤ 64) &&
   decide (i ∈ [fun r => .linkRead tag r a d.length, fun r => .linkWrite tag r a d, fun r => .linkCommand tag r b]) &&
   decide (s.tag tag = .opened)) &&
  (let s : State := (linkAt w0 4).onLk (fun y => { y with owed := 1 })
   decide (s.link.state = 4) &&
   decide (0 < s.link.owed)) &&
  (let s : State := (linkAt w0 4).onLk (fun y => { y with owed := 65 })
   decide (s.link.state = 4) &&
   decide (0 < s.link.owed)) &&
  (let s : State := linkAt w0 4
   decide (s.link.state ≠ 4 ∨ s.link.owed = 0)) &&
  (let s : State := (linkAt w0 3).onLk (fun y => { y with owed := 5 })
   decide (s.link.state ≠ 4 ∨ s.link.owed = 0)) &&
  (let s : State := linkAt w0 3
   decide (s.link.state ≠ 4)) &&
  (let s : State := linkAt wOpen 4
   let tag : BitVec 8 := 7
   let w : Discard := .badType 7
   let code : Nat := 2
   decide (s.link.state = 4) &&
   decide ((w = .badType tag ∧ code = 2) ∨ (w = .badLen tag ∧ code = 3)))) = true := by decide +kernel

/-- The hypotheses of LinkRequests are met (part 5 of 5). -/
theorem meets_LinkRequests_5 : (
  (let s : State := linkAt wOpen 4
   let tag : BitVec 8 := 7
   let w : Discard := .badLen 7
   let code : Nat := 3
   decide (s.link.state = 4) &&
   decide ((w = .badType tag ∧ code = 2) ∨ (w = .badLen tag ∧ code = 3))) &&
  (let s : State := linkAt wOpen 4
   let w : Discard := .symbol
   decide (s.link.state = 4) &&
   decide (w = .symbol ∨ w = .crc ∨ w = .abort)) &&
  (let s : State := linkAt wOpen 4
   let w : Discard := .crc
   decide (s.link.state = 4) &&
   decide (w = .symbol ∨ w = .crc ∨ w = .abort)) &&
  (let s : State := linkAt wOpen 4
   let w : Discard := .abort
   decide (s.link.state = 4) &&
   decide (w = .symbol ∨ w = .crc ∨ w = .abort) &&
   decide (w = .abort))) = true := by decide +kernel

/-- The hypotheses of SpiFallback are met (part 1 of 2). -/
theorem meets_SpiFallback_1 : (
  (let s : State := w0.onLd (fun y => { y with state := 2 })
   decide (s.porchRuns = false)) &&
  (let s : State := wOpen
   let n : Nat := 1
   decide (s.porchRuns = true) &&
   decide (1 ≤ n) &&
   decide (n ≤ 16) &&
   decide (n = 1)) &&
  (let s : State := wOpen
   let n : Nat := 16
   decide (s.porchRuns = true) &&
   decide (1 ≤ n) &&
   decide (n ≤ 16)) &&
  (let s : State := wOpen
   let n : Nat := 2
   decide (s.porchRuns = true) &&
   decide (1 ≤ n) &&
   decide (n ≤ 16)) &&
  (let s : State := wOpen
   let d : List Word := [5]
   decide (s.porchRuns = true) &&
   decide (1 ≤ d.length) &&
   decide (d.length ≤ 16)) &&
  (let s : State := wOpen
   let d : List Word := List.replicate 16 0
   decide (s.porchRuns = true) &&
   decide (1 ≤ d.length) &&
   decide (d.length ≤ 16)) &&
  (let s : State := wOpen
   let n : Nat := 0
   decide (s.porchRuns = true) &&
   decide (n = 0 ∨ 16 < n)) &&
  (let s : State := wOpen
   let n : Nat := 17
   decide (s.porchRuns = true) &&
   decide (n = 0 ∨ 16 < n)) &&
  (let s : State := wOpen
   let b : Envelope := { bytes := nopBytes }
   let x : Exec := carried (endDoze s) b.bytes
   decide (s.porchRuns = true) &&
   decide (acceptB (endDoze s) b.bytes x = true) &&
   decide (bankStays (endDoze s) b))) = true := by decide +kernel

/-- The hypotheses of SpiFallback are met (part 2 of 2). -/
theorem meets_SpiFallback_2 : (
  (let s : State := wOpen
   let b : Envelope := { bytes := [1, 2, 3] }
   decide (s.porchRuns = true) &&
   decide (envelopeOk b.bytes = false)) &&
  (let s : State := { wOpen with spi := { late := [[1], [2]] } }
   decide (s.porchRuns = true)) &&
  (let s : State := wOpen.onLd (fun y => { y with state := 1 })
   decide (s.porchRuns = true)) &&
  (let s : State := wOpen
   let w : SpiError := .crc
   let code : Nat := 1
   decide (s.porchRuns = true) &&
   decide ((w = .crc ∧ code = 1) ∨ (w = .badOp ∧ code = 2) ∨ (w = .badLen ∧ code = 3)) &&
   decide (w = .crc)) &&
  (let s : State := wOpen
   let w : SpiError := .badOp
   let code : Nat := 2
   decide (s.porchRuns = true) &&
   decide ((w = .crc ∧ code = 1) ∨ (w = .badOp ∧ code = 2) ∨ (w = .badLen ∧ code = 3))) &&
  (let s : State := wOpen
   let w : SpiError := .badLen
   let code : Nat := 3
   decide (s.porchRuns = true) &&
   decide ((w = .crc ∧ code = 1) ∨ (w = .badOp ∧ code = 2) ∨ (w = .badLen ∧ code = 3)))) = true := by decide +kernel

/-- The hypotheses of BusyAnswers are met. -/
theorem meets_BusyAnswers : (
  (let s : State := wOpen.onJ (fun y => { y with replay := true })
   let b : Envelope := { bytes := nopBytes }
   let x : Exec := carried (endDoze s) b.bytes
   decide (s.porchRuns = true) &&
   decide (envelopeOk b.bytes = true) &&
   decide (x = carried (endDoze s) b.bytes) &&
   decide (s.journal.replay = true)) &&
  (let s : State := wOpen.onJ (fun y => { y with takeLeft := 9 })
   let b : Envelope := { bytes := nopBytes }
   let x : Exec := carried (endDoze s) b.bytes
   decide (s.porchRuns = true) &&
   decide (envelopeOk b.bytes = true) &&
   decide (x = carried (endDoze s) b.bytes) &&
   decide (s.journal.replay = false) &&
   decide (s.journal.takeover = true)) &&
  (let s : State := wOpen.onJ (fun y => { y with ahead := 61 })
   let b : Envelope := { bytes := nopBytes }
   let x : Exec := carried (endDoze s) b.bytes
   decide (s.porchRuns = true) &&
   decide (envelopeOk b.bytes = true) &&
   decide (x = carried (endDoze s) b.bytes) &&
   decide (passB (endDoze s) b.bytes x = true) &&
   decide (acceptLimit (endDoze s) < max 8 s.journal.ahead)) &&
  (let s : State := (wOpen.onTh (fun y => { y with band := 5 })).onJ (fun y => { y with ahead := 91 })
   let b : Envelope := { bytes := nopBytes }
   let x : Exec := carried (endDoze s) b.bytes
   decide (s.porchRuns = true) &&
   decide (envelopeOk b.bytes = true) &&
   decide (x = carried (endDoze s) b.bytes) &&
   decide (passB (endDoze s) b.bytes x = true) &&
   decide (acceptLimit (endDoze s) < max 8 s.journal.ahead))) = true := by decide +kernel

/-- The hypotheses of BusErrors are met (part 1 of 10). -/
theorem meets_BusErrors_1 : (
  (let s : State := busAt w0 2
   let port : Sys2Proof.Port := .a
   let i : Fin 2 := 0
   let e : RxError := .crc
   let c := F.FB_CNT_2_CRC
   decide (i = Port.index port) &&
   decide (portActive s i = false ∨ (s.port i).wait ≠ 0 ∨ currentTx (s.port i) = none) &&
   decide ((s.port i).alone = false ∨ portActive s i = false) &&
   decide (s.porchRuns = true) &&
   decide ((s.port i).state ≠ 0) &&
   decide ((s.port i).state ≠ 4) &&
   decide (portActive s i = true) &&
   decide (c = (match e with | .stuff => F.FB_CNT_2_STUFF | .crc => F.FB_CNT_2_CRC | .form => F.FB_CNT_2_FORM))) &&
  (let s : State := busAt w0 1
   let port : Sys2Proof.Port := .a
   let i : Fin 2 := 0
   decide (i = Port.index port) &&
   decide (portActive s i = false ∨ (s.port i).wait ≠ 0 ∨ currentTx (s.port i) = none)) &&
  (let s : State := (busAt w0 2).onPort 0 (fun y => { y with txq := [{ f := frameFor 0x80 [1] }], wait := 1 })
   let port : Sys2Proof.Port := .a
   let i : Fin 2 := 0
   decide (i = Port.index port) &&
   decide (portActive s i = false ∨ (s.port i).wait ≠ 0 ∨ currentTx (s.port i) = none)) &&
  (let s : State := (busAt w0 2).onPort 0 (fun y => { y with txq := [{ f := frameFor 0x80 [1] }], tec := 255 })
   let port : Sys2Proof.Port := .a
   let i : Fin 2 := 0
   let pl : TxPlace := .queue 0
   let k : TxFrame := { f := frameFor 0x80 [1] }
   decide (i = Port.index port) &&
   decide (portActive s i = true) &&
   decide ((s.port i).wait = 0) &&
   decide (currentTx (s.port i) = some (pl, k)) &&
   decide ((s.port i).tec ≤ 255) &&
   decide (k.cancel = false))) = true := by decide +kernel

/-- The hypotheses of BusErrors are met (part 2 of 10). -/
theorem meets_BusErrors_2 : (
  (let s : State := (busAt w0 3).onPort 0 (fun y => { y with host := some { f := frameFor 0x80 [1], tries := 254 } })
   let port : Sys2Proof.Port := .a
   let i : Fin 2 := 0
   let pl : TxPlace := .host
   let k : TxFrame := { f := frameFor 0x80 [1], tries := 254 }
   decide (i = Port.index port) &&
   decide (portActive s i = true) &&
   decide ((s.port i).wait = 0) &&
   decide (currentTx (s.port i) = some (pl, k)) &&
   decide ((s.port i).tec ≤ 255) &&
   decide (k.cancel = false) &&
   decide (pl = .host)) &&
  (let s : State := (busAt w0 2).onPort 0 (fun y => { y with alone := true, probe := some { f := frameFor 0x30 [] } })
   let port : Sys2Proof.Port := .a
   let i : Fin 2 := 0
   let pl : TxPlace := .probe
   let k : TxFrame := { f := frameFor 0x30 [] }
   decide (i = Port.index port) &&
   decide (portActive s i = true) &&
   decide ((s.port i).wait = 0) &&
   decide (currentTx (s.port i) = some (pl, k)) &&
   decide ((s.port i).tec ≤ 255) &&
   decide (k.cancel = false) &&
   decide (pl = .probe) &&
   decide ((s.port i).alone = true)) &&
  (let s : State := (busAt w0 2).onPort 0 (fun y => { y with timeTx := [{ f := frameFor 0x10 [7, 0] }] })
   let port : Sys2Proof.Port := .a
   let i : Fin 2 := 0
   let pl : TxPlace := .time 0
   let k : TxFrame := { f := frameFor 0x10 [7, 0] }
   let n := 0
   decide (i = Port.index port) &&
   decide (portActive s i = true) &&
   decide ((s.port i).wait = 0) &&
   decide (currentTx (s.port i) = some (pl, k)) &&
   decide ((s.port i).tec ≤ 255) &&
   decide (k.cancel = false) &&
   decide (pl = .time n) &&
   decide (k.f.kind = 0x10))) = true := by decide +kernel

/-- The hypotheses of BusErrors are met (part 3 of 10). -/
theorem meets_BusErrors_3 : (
  (let s : State := (busAt w0 2).onPort 0 (fun y => { y with timeTx := [{ f := frameFor 0x12 [7, 0, 0, 0] }] })
   let port : Sys2Proof.Port := .a
   let i : Fin 2 := 0
   let pl : TxPlace := .time 0
   let k : TxFrame := { f := frameFor 0x12 [7, 0, 0, 0] }
   let n := 0
   decide (i = Port.index port) &&
   decide (portActive s i = true) &&
   decide ((s.port i).wait = 0) &&
   decide (currentTx (s.port i) = some (pl, k)) &&
   decide ((s.port i).tec ≤ 255) &&
   decide (k.cancel = false) &&
   decide (pl = .time n) &&
   decide (k.f.kind = 0x12)) &&
  (let s : State := (busAt w0 2).onPort 0 (fun y => { y with txq := [{ f := frameFor 0x80 [1] }] })
   let port : Sys2Proof.Port := .a
   let i : Fin 2 := 0
   let pl : TxPlace := .queue 0
   let k : TxFrame := { f := frameFor 0x80 [1] }
   let n := 0
   decide (i = Port.index port) &&
   decide (portActive s i = true) &&
   decide ((s.port i).wait = 0) &&
   decide (currentTx (s.port i) = some (pl, k)) &&
   decide ((s.port i).tec ≤ 255) &&
   decide (k.cancel = false) &&
   decide (pl = .queue n))) = true := by decide +kernel

/-- The hypotheses of BusErrors are met (part 4 of 10). -/
theorem meets_BusErrors_4 : (
  (let s : State := ((busAt w0 2).onPort 0 (fun y => { y with txq := [{ f := frameFor 0x80 [1] }], tec := 247 })).pw
     F.FB_CFG_RETRY 0
   let port : Sys2Proof.Port := .a
   let i : Fin 2 := 0
   let pl : TxPlace := .queue 0
   let k : TxFrame := { f := frameFor 0x80 [1] }
   let o : TxOutcome := .bitError
   let c : Fld := F.FB_CNT_2_BIT
   let n : Nat := 0
   decide (i = Port.index port) &&
   decide (portActive s i = true) &&
   decide ((s.port i).wait = 0) &&
   decide (currentTx (s.port i) = some (pl, k)) &&
   decide ((s.port i).tec ≤ 255) &&
   decide (k.cancel = false) &&
   decide (pl = .queue n) &&
   decide ((o = .bitError ∧ c = F.FB_CNT_2_BIT) ∨ (o = .stuffError ∧ c = F.FB_CNT_2_STUFF) ∨ (o = .formError ∧ c =
     F.FB_CNT_2_FORM)) &&
   decide (s.pg F.FB_CFG_RETRY i.val ≤ k.fails)) &&
  (let s : State := ((busAt w0 2).onPort 0 (fun y => { y with txq := [{ f := frameFor 0x80 [1] }], tec := 248 })).pw
     F.FB_CFG_RETRY 0
   let port : Sys2Proof.Port := .a
   let i : Fin 2 := 0
   let pl : TxPlace := .queue 0
   let k : TxFrame := { f := frameFor 0x80 [1] }
   let o : TxOutcome := .stuffError
   let c : Fld := F.FB_CNT_2_STUFF
   let n : Nat := 0
   decide (i = Port.index port) &&
   decide (portActive s i = true) &&
   decide ((s.port i).wait = 0) &&
   decide (currentTx (s.port i) = some (pl, k)) &&
   decide ((s.port i).tec ≤ 255) &&
   decide (k.cancel = false) &&
   decide (pl = .queue n) &&
   decide ((o = .bitError ∧ c = F.FB_CNT_2_BIT) ∨ (o = .stuffError ∧ c = F.FB_CNT_2_STUFF) ∨ (o = .formError ∧ c =
     F.FB_CNT_2_FORM)) &&
   decide (255 < (s.port i).tec + 8))) = true := by decide +kernel

/-- The hypotheses of BusErrors are met (part 5 of 10). -/
theorem meets_BusErrors_5 : (
  (let s : State := ((busAt w0 2).onPort 0 (fun y => { y with txq := [{ f := frameFor 0x80 [1] }] })).pw F.FB_CFG_RETRY 1
   let port : Sys2Proof.Port := .a
   let i : Fin 2 := 0
   let pl : TxPlace := .queue 0
   let k : TxFrame := { f := frameFor 0x80 [1] }
   let o : TxOutcome := .formError
   let c : Fld := F.FB_CNT_2_FORM
   let n : Nat := 0
   decide (i = Port.index port) &&
   decide (portActive s i = true) &&
   decide ((s.port i).wait = 0) &&
   decide (currentTx (s.port i) = some (pl, k)) &&
   decide ((s.port i).tec ≤ 255) &&
   decide (k.cancel = false) &&
   decide (pl = .queue n) &&
   decide ((o = .bitError ∧ c = F.FB_CNT_2_BIT) ∨ (o = .stuffError ∧ c = F.FB_CNT_2_STUFF) ∨ (o = .formError ∧ c =
     F.FB_CNT_2_FORM)) &&
   decide (k.fails < s.pg F.FB_CFG_RETRY i.val)) &&
  (let s : State := ((busAt w0 3).onPort 0 (fun y => { y with txq := [{ f := frameFor 0x80 [1] }] })).pw F.FB_CFG_RETRY 1
   let port : Sys2Proof.Port := .a
   let i : Fin 2 := 0
   let pl : TxPlace := .queue 0
   let k : TxFrame := { f := frameFor 0x80 [1] }
   let o : TxOutcome := .formError
   let c : Fld := F.FB_CNT_2_FORM
   let n : Nat := 0
   decide (i = Port.index port) &&
   decide (portActive s i = true) &&
   decide ((s.port i).wait = 0) &&
   decide (currentTx (s.port i) = some (pl, k)) &&
   decide ((s.port i).tec ≤ 255) &&
   decide (k.cancel = false) &&
   decide (pl = .queue n) &&
   decide ((o = .bitError ∧ c = F.FB_CNT_2_BIT) ∨ (o = .stuffError ∧ c = F.FB_CNT_2_STUFF) ∨ (o = .formError ∧ c =
     F.FB_CNT_2_FORM)))) = true := by decide +kernel

/-- The hypotheses of BusErrors are met (part 6 of 10). -/
theorem meets_BusErrors_6 : (
  (let s : State := ((busAt w0 2).onPort 0 (fun y => { y with txq := [{ f := frameFor 0x80 [1] }], tec := 127 })).pw
     F.FB_CFG_RETRY 0
   let port : Sys2Proof.Port := .a
   let i : Fin 2 := 0
   let pl : TxPlace := .queue 0
   let k : TxFrame := { f := frameFor 0x80 [1] }
   let n := 0
   decide (i = Port.index port) &&
   decide (portActive s i = true) &&
   decide ((s.port i).wait = 0) &&
   decide (currentTx (s.port i) = some (pl, k)) &&
   decide ((s.port i).tec ≤ 255) &&
   decide (k.cancel = false) &&
   decide (pl = .queue n)) &&
  (let s : State := ((busAt w0 2).onPort 0 (fun y => { y with txq := [{ f := frameFor 0x80 [1] }], tec := 128 })).pw
     F.FB_CFG_RETRY 1
   let port : Sys2Proof.Port := .a
   let i : Fin 2 := 0
   let pl : TxPlace := .queue 0
   let k : TxFrame := { f := frameFor 0x80 [1] }
   let n := 0
   decide (i = Port.index port) &&
   decide (portActive s i = true) &&
   decide ((s.port i).wait = 0) &&
   decide (currentTx (s.port i) = some (pl, k)) &&
   decide ((s.port i).tec ≤ 255) &&
   decide (k.cancel = false) &&
   decide (pl = .queue n) &&
   decide (k.fails < s.pg F.FB_CFG_RETRY i.val))) = true := by decide +kernel

/-- The hypotheses of BusErrors are met (part 7 of 10). -/
theorem meets_BusErrors_7 : (
  (let s : State := ((busAt w0 2).onPort 0 (fun y => { y with txq := [{ f := frameFor 0x80 [1] }] })).pw F.FB_CFG_RETRY 0
   let port : Sys2Proof.Port := .a
   let i : Fin 2 := 0
   let pl : TxPlace := .queue 0
   let k : TxFrame := { f := frameFor 0x80 [1] }
   let n := 0
   decide (i = Port.index port) &&
   decide (portActive s i = true) &&
   decide ((s.port i).wait = 0) &&
   decide (currentTx (s.port i) = some (pl, k)) &&
   decide ((s.port i).tec ≤ 255) &&
   decide (k.cancel = false) &&
   decide (pl = .queue n) &&
   decide (s.pg F.FB_CFG_RETRY i.val ≤ k.fails) &&
   decide (k.allAck = true) &&
   decide (k.good = false) &&
   decide ((s.port i).alone = false)) &&
  (let s : State := (busAt w0 2).onPort 0 (fun y => { y with alone := true })
   let port : Sys2Proof.Port := .a
   let i : Fin 2 := 0
   decide (i = Port.index port) &&
   decide ((s.port i).alone = true) &&
   decide (portActive s i = true)) &&
  (let s : State := (busAt w0 1).onPort 0 (fun y => { y with alone := true })
   let port : Sys2Proof.Port := .a
   let i : Fin 2 := 0
   decide (i = Port.index port) &&
   decide ((s.port i).alone = false ∨ portActive s i = false)) &&
  (let s : State := (busAt w0 1).onPort 0 (fun y => { y with tec := 127, rec_ := 127, domto := true })
   let port : Sys2Proof.Port := .a
   let i : Fin 2 := 0
   decide (i = Port.index port) &&
   decide (s.porchRuns = true) &&
   decide ((s.port i).state = 1)) &&
  (let s : State := (busAt w0 1).onPort 0 (fun y => { y with tec := 128, domto := true })
   let port : Sys2Proof.Port := .a
   let i : Fin 2 := 0
   decide (i = Port.index port) &&
   decide (s.porchRuns = true) &&
   decide ((s.port i).state = 1))) = true := by decide +kernel

/-- The hypotheses of BusErrors are met (part 8 of 10). -/
theorem meets_BusErrors_8 : (
  (let s : State := (busAt w0 1).onPort 0 (fun y => { y with tec := 256 })
   let port : Sys2Proof.Port := .a
   let i : Fin 2 := 0
   decide (i = Port.index port) &&
   decide (s.porchRuns = true) &&
   decide ((s.port i).state = 1)) &&
  (let s : State := (busAt w0 1).onPort 0 (fun y => { y with rec_ := 128 })
   let port : Sys2Proof.Port := .a
   let i : Fin 2 := 0
   decide (i = Port.index port) &&
   decide (s.porchRuns = true) &&
   decide ((s.port i).state = 1)) &&
  (let s : State := (busAt w0 4).onPort 0 (fun y => { y with tec := 256 })
   let port : Sys2Proof.Port := .a
   let i : Fin 2 := 0
   decide (i = Port.index port) &&
   decide (s.porchRuns = true) &&
   decide ((s.port i).state = 4)) &&
  (let s : State := busAt w0 3
   let port : Sys2Proof.Port := .a
   let i : Fin 2 := 0
   decide (i = Port.index port) &&
   decide (portActive s i = true)) &&
  (let s : State := busAt w0 4
   let port : Sys2Proof.Port := .a
   let i : Fin 2 := 0
   decide (i = Port.index port) &&
   decide (s.porchRuns = true) &&
   decide ((s.port i).state ≠ 0) &&
   decide ((s.port i).state = 4)) &&
  (let s : State := w0
   let port : Sys2Proof.Port := .a
   let i : Fin 2 := 0
   decide (i = Port.index port) &&
   decide (portActive s i = false)) &&
  (let s : State := (busAt w0 2).onPort 0 (fun y => { y with rec_ := 250 })
   let port : Sys2Proof.Port := .a
   let i : Fin 2 := 0
   decide (i = Port.index port) &&
   decide (portActive s i = true)) &&
  (let s : State := (busAt w0 3).onPort 0 (fun y => { y with rec_ := 127 })
   let port : Sys2Proof.Port := .a
   let i : Fin 2 := 0
   decide (i = Port.index port) &&
   decide (portActive s i = true))) = true := by decide +kernel

/-- The hypotheses of BusErrors are met (part 9 of 10). -/
theorem meets_BusErrors_9 : (
  (let s : State := (busAt w0 3).onPort 0 (fun y => { y with rec_ := 3 })
   let port : Sys2Proof.Port := .a
   let i : Fin 2 := 0
   decide (i = Port.index port) &&
   decide (portActive s i = true)) &&
  (let s : State := busAt w0 2
   let port : Sys2Proof.Port := .a
   let i : Fin 2 := 0
   let bits : List Bool := stuffed (frameFor 0x80 [1])
   let f := frameFor 0x80 [1]
   decide (i = Port.index port) &&
   decide (portActive s i = true) &&
   decide (hearing s i bits = .good f) &&
   decide ((s.port i).rec_ ≤ 255)) &&
  (let s : State := (busAt w0 3).onPort 0 (fun y => { y with rec_ := 128, alone := true })
   let port : Sys2Proof.Port := .a
   let i : Fin 2 := 0
   let bits : List Bool := stuffed (frameFor 0x80 [1])
   let f := frameFor 0x80 [1]
   decide (i = Port.index port) &&
   decide (portActive s i = true) &&
   decide (hearing s i bits = .good f) &&
   decide ((s.port i).rec_ ≤ 255)) &&
  (let s : State := (busAt w0 2).onPort 0 (fun y => { y with rec_ := 127 })
   let port : Sys2Proof.Port := .a
   let i : Fin 2 := 0
   let bits : List Bool := stuffed (frameFor 0x80 [1])
   let f := frameFor 0x80 [1]
   decide (i = Port.index port) &&
   decide (portActive s i = true) &&
   decide (hearing s i bits = .good f) &&
   decide ((s.port i).rec_ ≤ 255)) &&
  (let s : State := busAt w0 2
   let port : Sys2Proof.Port := .a
   let i : Fin 2 := 0
   let bits : List Bool := stuffed (frameFor 0x80 [1]) ++ [true]
   let e := .form
   decide (i = Port.index port) &&
   decide (hearing s i bits = .bad e))) = true := by decide +kernel

/-- The hypotheses of BusErrors are met (part 10 of 10). -/
theorem meets_BusErrors_10 : (
  (let s : State := busAt w0 2
   let port : Sys2Proof.Port := .a
   let i : Fin 2 := 0
   let bits : List Bool := (stuffed (frameFor 0x80 [1])).set ((stuffed (frameFor 0x80 [1])).length - 1) true
   let e := .crc
   decide (i = Port.index port) &&
   decide (hearing s i bits = .bad e))) = true := by decide +kernel

/-- The hypotheses of BusTraffic are met (part 1 of 6). -/
theorem meets_BusTraffic_1 : (
  (let s : State := busAt wOpen 2
   let port : Sys2Proof.Port := .a
   let i : Fin 2 := 0
   let f : BusFrame := frameFor 1 [9, 0, 1]
   let bits : List Bool := stuffed f
   let u : State := endDoze (rxGood s i)
   let v := (takeSegment (endDoze (rxGood s i)) i f).1
   decide (i = Port.index port) &&
   decide (portActive s i = true) &&
   decide (hearing s i bits = .good f) &&
   decide (forUs s i f = true) &&
   decide (u = endDoze (rxGood s i)) &&
   decide (f.kind = 1) &&
   decide (takeSegment u i f = (v, none)) &&
   decide (3 ≤ f.data.length) &&
   decide (leAt f.data 1 1 = 0) &&
   decide (∀ y ∈ (s.port i).xfers, y.node ≠ f.src)) &&
  (let s : State := busAt wOpen 2
   let port : Sys2Proof.Port := .a
   let i : Fin 2 := 0
   let b : List Byte := nopBytes
   let f : BusFrame := frameFor 1 ([9, 0x80] ++ b)
   let bits : List Bool := stuffed f
   let u : State := endDoze (rxGood s i)
   let v : State := (takeSegment (endDoze (rxGood s i)) i f).1
   let x : Exec := carried v b
   decide (i = Port.index port) &&
   decide (portActive s i = true) &&
   decide (hearing s i bits = .good f) &&
   decide (forUs s i f = true) &&
   decide (u = endDoze (rxGood s i)) &&
   decide (f.kind = 1) &&
   decide (takeSegment u i f = (v, some b)) &&
   decide (acceptB v b x = true) &&
   decide (bankStays v { bytes := b }) &&
   decide ((s.port i).txq.length < Config.busQueue))) = true := by decide +kernel

/-- The hypotheses of BusTraffic are met (part 2 of 6). -/
theorem meets_BusTraffic_2 : (
  (let s : State := busAt wOpen 2
   let port : Sys2Proof.Port := .a
   let i : Fin 2 := 0
   let f : BusFrame := frameFor 0x80 [1]
   let bits : List Bool := stuffed f
   let u : State := endDoze (rxGood s i)
   decide (i = Port.index port) &&
   decide (portActive s i = true) &&
   decide (hearing s i bits = .good f) &&
   decide (forUs s i f = true) &&
   decide (u = endDoze (rxGood s i)) &&
   decide (0x80 ≤ f.kind.toNat) &&
   decide ((s.port i).rx.length < Config.busQueue)) &&
  (let s : State := busAt wOpen 2
   let port : Sys2Proof.Port := .a
   let i : Fin 2 := 0
   let f : BusFrame := frameFor 0xFF [1]
   let bits : List Bool := stuffed f
   let u : State := endDoze (rxGood s i)
   decide (i = Port.index port) &&
   decide (portActive s i = true) &&
   decide (hearing s i bits = .good f) &&
   decide (forUs s i f = true) &&
   decide (u = endDoze (rxGood s i)) &&
   decide (0x80 ≤ f.kind.toNat) &&
   decide ((s.port i).rx.length < Config.busQueue)) &&
  (let s : State := (busAt w0 2).onPort 0 (fun y => { y with rx := List.replicate 16 (frameFor 0x80 [], 0) })
   let port : Sys2Proof.Port := .a
   let i : Fin 2 := 0
   let f : BusFrame := frameFor 0xFF [1]
   let bits : List Bool := stuffed f
   let u : State := endDoze (rxGood s i)
   decide (i = Port.index port) &&
   decide (portActive s i = true) &&
   decide (hearing s i bits = .good f) &&
   decide (forUs s i f = true) &&
   decide (u = endDoze (rxGood s i)) &&
   decide (0x80 ≤ f.kind.toNat) &&
   decide (Config.busQueue ≤ (s.port i).rx.length))) = true := by decide +kernel

/-- The hypotheses of BusTraffic are met (part 3 of 6). -/
theorem meets_BusTraffic_3 : (
  (let s : State := busAt wOpen 2
   let port : Sys2Proof.Port := .a
   let i : Fin 2 := 0
   let f : BusFrame := frameFor 0x20 [0xFF, 0x7F, 1, 0]
   let bits : List Bool := stuffed f
   let u : State := endDoze (rxGood s i)
   let p := 0
   decide (i = Port.index port) &&
   decide (portActive s i = true) &&
   decide (hearing s i bits = .good f) &&
   decide (forUs s i f = true) &&
   decide (u = endDoze (rxGood s i)) &&
   decide (f.kind = 0x20) &&
   decide (f.data.length = 4) &&
   decide (bitOf (leAt f.data 2 1) 0 = true) &&
   decide (leAt f.data 0 2 ≠ 0x8000) &&
   decide ((s.sl p).running = true)) &&
  (let s : State := busAt wOpen 2
   let port : Sys2Proof.Port := .a
   let i : Fin 2 := 0
   let f : BusFrame := frameFor 0x20 [0xFF, 0x7F, 1, 0]
   let bits : List Bool := stuffed f
   let u : State := endDoze (rxGood s i)
   let p := 1
   decide (i = Port.index port) &&
   decide (portActive s i = true) &&
   decide (hearing s i bits = .good f) &&
   decide (forUs s i f = true) &&
   decide (u = endDoze (rxGood s i)) &&
   decide (f.kind = 0x20) &&
   decide (f.data.length = 4) &&
   decide (bitOf (leAt f.data 2 1) 0 = true) &&
   decide (leAt f.data 0 2 ≠ 0x8000) &&
   decide ((s.sl p).running = false))) = true := by decide +kernel

/-- The hypotheses of BusTraffic are met (part 4 of 6). -/
theorem meets_BusTraffic_4 : (
  (let s : State := busAt wOpen 2
   let port : Sys2Proof.Port := .a
   let i : Fin 2 := 0
   let f : BusFrame := frameFor 0x20 [0xFF, 0x7F, 0, 0]
   let bits : List Bool := stuffed f
   let u : State := endDoze (rxGood s i)
   decide (i = Port.index port) &&
   decide (portActive s i = true) &&
   decide (hearing s i bits = .good f) &&
   decide (forUs s i f = true) &&
   decide (u = endDoze (rxGood s i)) &&
   decide (f.kind = 0x20) &&
   decide (f.data.length ≠ 4 ∨ bitOf (leAt f.data 2 1) 0 = false ∨ leAt f.data 0 2 = 0x8000)) &&
  (let s : State := busAt wOpen 2
   let port : Sys2Proof.Port := .a
   let i : Fin 2 := 0
   let f : BusFrame := frameFor 0x20 [0x00, 0x80, 1, 0]
   let bits : List Bool := stuffed f
   let u : State := endDoze (rxGood s i)
   decide (i = Port.index port) &&
   decide (portActive s i = true) &&
   decide (hearing s i bits = .good f) &&
   decide (forUs s i f = true) &&
   decide (u = endDoze (rxGood s i)) &&
   decide (f.kind = 0x20) &&
   decide (f.data.length ≠ 4 ∨ bitOf (leAt f.data 2 1) 0 = false ∨ leAt f.data 0 2 = 0x8000)) &&
  (let s : State := busAt wOpen 2
   let port : Sys2Proof.Port := .a
   let i : Fin 2 := 0
   let f : BusFrame := frameFor 0x20 [0x00, 0x00, 1]
   let bits : List Bool := stuffed f
   let u : State := endDoze (rxGood s i)
   decide (i = Port.index port) &&
   decide (portActive s i = true) &&
   decide (hearing s i bits = .good f) &&
   decide (forUs s i f = true) &&
   decide (u = endDoze (rxGood s i)) &&
   decide (f.kind = 0x20) &&
   decide (f.data.length ≠ 4 ∨ bitOf (leAt f.data 2 1) 0 = false ∨ leAt f.data 0 2 = 0x8000))) = true := by decide +kernel

/-- The hypotheses of BusTraffic are met (part 5 of 6). -/
theorem meets_BusTraffic_5 : (
  (let s : State := busAt w0 2
   let port : Sys2Proof.Port := .a
   let i : Fin 2 := 0
   let bits : List Bool := stuffed (frameFor 0x80 [1]) ++ [true]
   let e : RxError := .form
   decide (i = Port.index port) &&
   decide (hearing s i bits = .bad e) &&
   decide ((s.port i).cfgNext = none)) &&
  (let s : State := busAt w0 2
   let port : Sys2Proof.Port := .a
   let i : Fin 2 := 0
   let bits : List Bool := (stuffed (frameFor 0x80 [1])).set ((stuffed (frameFor 0x80 [1])).length - 1) true
   let e : RxError := .crc
   decide (i = Port.index port) &&
   decide (hearing s i bits = .bad e)) &&
  (let s : State := w0
   let port : Sys2Proof.Port := .a
   let i : Fin 2 := 0
   decide (i = Port.index port) &&
   decide (portActive s i = false)) &&
  (let s : State := (busAt w0 2).onPort 0 (fun y => { y with xfers := [⟨3, 9, 1, [1]⟩, ⟨4, 9, 1, [1]⟩] })
   let port : Sys2Proof.Port := .a
   let i : Fin 2 := 0
   let node : BitVec 8 := 3
   decide (i = Port.index port) &&
   decide (∃ y ∈ (s.port i).xfers, y.node = node)) &&
  (let s : State := (busAt w0 2).onPort 0 (fun y => { y with xfers := [⟨4, 9, 1, [1]⟩] })
   let port : Sys2Proof.Port := .a
   let i : Fin 2 := 0
   let node : BitVec 8 := 3
   decide (i = Port.index port) &&
   decide (∀ y ∈ (s.port i).xfers, y.node ≠ node)) &&
  (let s : State := (busAt w0 3).onPort 0 (fun y =>
     { y with cfgNext := some (0x80050300, 9, [1, 2]), txq := [{ f := frameFor 0x80 [1] }], rx := [(frameFor 0x80 [], 0)] })
   let port : Sys2Proof.Port := .a
   let i : Fin 2 := 0
   let w : Word := 0x80050300
   let n : Nat := 9
   let head : List Byte := [1, 2]
   decide (i = Port.index port) &&
   decide ((s.port i).cfgNext = some (w, n, head)) &&
   decide (s.runningOf n = none) &&
   decide (answerWaits (s.port i) head = false))) = true := by decide +kernel

/-- The hypotheses of BusTraffic are met (part 6 of 6). -/
theorem meets_BusTraffic_6 : (
  (let s : State := ((busAt w0 2).onPort 0 (fun y => { y with cfgNext := some (0, 9, [1, 2]) })).onJ (fun y =>
     { y with running := [{ x := porchCmd 0x0704 [] }] })
   let port : Sys2Proof.Port := .a
   let i : Fin 2 := 0
   let w : Word := 0
   let n : Nat := 9
   let head : List Byte := [1, 2]
   decide (i = Port.index port) &&
   decide ((s.port i).cfgNext = some (w, n, head)) &&
   decide ((s.runningOf n).isSome = true ∨ answerWaits (s.port i) head = true))) = true := by decide +kernel

/-- The hypotheses of TimeProtocol are met (part 1 of 7). -/
theorem meets_TimeProtocol_1 : (
  (let s : State := (busAt w0 2).pw F.PCH_TS_STAT_MASTER 3
   let port : Sys2Proof.Port := .a
   let i : Fin 2 := 0
   let f : BusFrame := frameFor 0x10 [7, 0]
   let bits : List Bool := stuffed f
   decide (i = Port.index port) &&
   decide (sendsSync s i = true) &&
   decide (portActive s i = true) &&
   decide (hearing s i bits = .good f) &&
   decide (forUs s i f = true) &&
   decide (f.kind = 0x10) &&
   decide (f.data.length = 2) &&
   decide (isMaster s i = true) &&
   decide (f.src.toNat < nodeOf s i) &&
   decide (s.srcPort ≠ some i)) &&
  (let s : State := w0
   let port : Sys2Proof.Port := .a
   let i : Fin 2 := 0
   decide (i = Port.index port) &&
   decide (sendsSync s i = false) &&
   decide (portActive s i = false) &&
   decide ((s.port i).slave.reqDue = false ∨ s.srcPort ≠ some i ∨ portActive s i = false) &&
   decide (s.porchRuns = false ∨ s.srcPort ≠ some i)) &&
  (let s : State := ((busAt w0 2).pw F.PCH_TS_STAT_SRC 1).pw F.FB_TSYNC_STAT_MASTER 3 0
   let port : Sys2Proof.Port := .a
   let i : Fin 2 := 0
   let f : BusFrame := frameFor 0x10 [7, 0]
   let bits : List Bool := stuffed f
   decide (i = Port.index port) &&
   decide (sendsSync s i = false) &&
   decide (portActive s i = true) &&
   decide (hearing s i bits = .good f) &&
   decide (forUs s i f = true) &&
   decide (f.kind = 0x10) &&
   decide (f.data.length = 2) &&
   decide (s.porchRuns = true) &&
   decide (s.srcPort = some i))) = true := by decide +kernel

/-- The hypotheses of TimeProtocol are met (part 2 of 7). -/
theorem meets_TimeProtocol_2 : (
  (let s : State := (((busAt w0 2).pw F.PCH_TS_STAT_SRC 1).pw F.FB_TSYNC_STAT_MASTER 3 0).onSlave 0 (fun y =>
     { y with count := 15, masters := [{ node := 3, last := 0 }, { node := 9, last := 0 }] })
   let port : Sys2Proof.Port := .a
   let i : Fin 2 := 0
   let f : BusFrame := frameFor 0x10 [7, 0]
   let bits : List Bool := stuffed f
   decide (i = Port.index port) &&
   decide (portActive s i = true) &&
   decide (hearing s i bits = .good f) &&
   decide (forUs s i f = true) &&
   decide (f.kind = 0x10) &&
   decide (f.data.length = 2) &&
   decide (s.srcPort = some i) &&
   decide (∀ m ∈ (s.port i).slave.masters, f.src.toNat ≤ m.node) &&
   decide ((s.port i).slave.count = 15)) &&
  (let s : State := ((((busAt w0 2).pw F.PCH_TS_STAT_SRC 1).pw F.FB_TSYNC_STAT_MASTER 3 0).onSlave 0 (fun y =>
     { y with sync := some (7, 5) })).onCl (fun y => { y with trusted := true })
   let port : Sys2Proof.Port := .a
   let i : Fin 2 := 0
   let f : BusFrame := frameFor 0x11 [7, 0, 1, 0, 0, 0, 0, 0, 0, 0, 0, 0, 0, 0, 0, 0]
   let bits : List Bool := stuffed f
   let seq : Nat := 7
   let t1 : Rat := stampOf f
   let t2 : Rat := 5
   let th : Int := Config.toUnits ((t2 - t1 - medianRat (s.port i).slave.delays) * 100000000)
   decide (i = Port.index port) &&
   decide (portActive s i = true) &&
   decide (hearing s i bits = .good f) &&
   decide (forUs s i f = true) &&
   decide (f.kind = 0x11) &&
   decide (f.data.length = 16) &&
   decide (s.srcPort = some i) &&
   decide (s.pg F.FB_TSYNC_STAT_MASTER i.val = f.src.toNat) &&
   decide ((s.port i).slave.sync = some (seq, t2)) &&
   decide (seq = leAt f.data 0 2) &&
   decide (bitOf (leAt f.data 2 1) 0 = true) &&
   decide (s.trusted = true) &&
   decide (-secFine < th) &&
   decide (th < secFine) &&
   decide (-secFine < s.time.slew - th) &&
   decide (s.time.slew - th < secFine))) = true := by decide +kernel

/-- The hypotheses of TimeProtocol are met (part 3 of 7). -/
theorem meets_TimeProtocol_3 : (
  (let s : State := (((busAt w0 2).pw F.PCH_TS_STAT_SRC 1).pw F.FB_TSYNC_STAT_MASTER 3 0).onSlave 0 (fun y =>
     { y with sync := some (8, 5) })
   let port : Sys2Proof.Port := .a
   let i : Fin 2 := 0
   let f : BusFrame := frameFor 0x11 [7, 0, 1, 0, 0, 0, 0, 0, 0, 0, 0, 0, 0, 0, 0, 0]
   let bits : List Bool := stuffed f
   let seq : Nat := 8
   let t2 : Rat := 5
   decide (i = Port.index port) &&
   decide (portActive s i = true) &&
   decide (hearing s i bits = .good f) &&
   decide (forUs s i f = true) &&
   decide (f.kind = 0x11) &&
   decide (f.data.length = 16) &&
   decide (s.srcPort = some i) &&
   decide (s.pg F.FB_TSYNC_STAT_MASTER i.val = f.src.toNat) &&
   decide ((s.port i).slave.sync = some (seq, t2)) &&
   decide (seq ≠ leAt f.data 0 2)) &&
  (let s : State := (busAt w0 2).pw F.PCH_TS_STAT_MASTER 3
   let port : Sys2Proof.Port := .a
   let i : Fin 2 := 0
   let f : BusFrame := frameFor 0x12 [7, 0, 0, 0]
   let bits : List Bool := stuffed f
   decide (i = Port.index port) &&
   decide (portActive s i = true) &&
   decide (hearing s i bits = .good f) &&
   decide (forUs s i f = true) &&
   decide (f.kind = 0x12) &&
   decide (isMaster s i = true) &&
   decide (f.data.length = 4) &&
   decide (f.dst.toNat = nodeOf s i))) = true := by decide +kernel

/-- The hypotheses of TimeProtocol are met (part 4 of 7). -/
theorem meets_TimeProtocol_4 : (
  (let s : State := (((busAt w0 2).pw F.PCH_TS_STAT_SRC 1).pw F.FB_TSYNC_STAT_MASTER 3 0).onSlave 0 (fun y =>
     { y with req := some (7, 0), pair := some (6, 0, 10) })
   let port : Sys2Proof.Port := .a
   let i : Fin 2 := 0
   let f : BusFrame := frameFor 0x13 [7, 0, 5, 0, 0, 0, 0, 0, 0, 0, 0, 0, 0, 0, 0, 0]
   let bits : List Bool := stuffed f
   let seq : Nat := 7
   let n : Nat := 6
   let t1 : Rat := 0
   let t2 : Rat := 10
   let t3 : Rat := 0
   let d : Rat := ((t2 - t1) + (stampOf f - t3)) / 2
   decide (i = Port.index port) &&
   decide (portActive s i = true) &&
   decide (hearing s i bits = .good f) &&
   decide (forUs s i f = true) &&
   decide (f.kind = 0x13) &&
   decide (f.data.length = 16) &&
   decide (s.srcPort = some i) &&
   decide (leAt f.data 2 1 = nodeOf s i) &&
   decide (s.pg F.FB_TSYNC_STAT_MASTER i.val = f.src.toNat) &&
   decide ((s.port i).slave.req = some (seq, t3)) &&
   decide ((s.port i).slave.pair = some (n, t1, t2)) &&
   decide (seq = leAt f.data 0 2) &&
   decide (0 ≤ d) &&
   decide (d ≤ 5))) = true := by decide +kernel

/-- The hypotheses of TimeProtocol are met (part 5 of 7). -/
theorem meets_TimeProtocol_5 : (
  (let s : State := (((busAt w0 2).pw F.PCH_TS_STAT_SRC 1).pw F.FB_TSYNC_STAT_MASTER 3 0).onSlave 0 (fun y =>
     { y with req := some (7, 0), pair := some (6, 0, 0) })
   let port : Sys2Proof.Port := .a
   let i : Fin 2 := 0
   let f : BusFrame := frameFor 0x13 [7, 0, 5, 0, 0, 0, 0, 0, 0, 0, 0, 0, 0, 0, 0, 0]
   let bits : List Bool := stuffed f
   let seq : Nat := 7
   let n : Nat := 6
   let t1 : Rat := 0
   let t2 : Rat := 0
   let t3 : Rat := 0
   decide (i = Port.index port) &&
   decide (portActive s i = true) &&
   decide (hearing s i bits = .good f) &&
   decide (forUs s i f = true) &&
   decide (f.kind = 0x13) &&
   decide (f.data.length = 16) &&
   decide (s.srcPort = some i) &&
   decide (leAt f.data 2 1 = nodeOf s i) &&
   decide (s.pg F.FB_TSYNC_STAT_MASTER i.val = f.src.toNat) &&
   decide ((s.port i).slave.req = some (seq, t3)) &&
   decide ((s.port i).slave.pair = some (n, t1, t2)) &&
   decide (seq = leAt f.data 0 2))) = true := by decide +kernel

/-- The hypotheses of TimeProtocol are met (part 6 of 7). -/
theorem meets_TimeProtocol_6 : (
  (let s : State := (((busAt w0 2).pw F.PCH_TS_STAT_SRC 1).pw F.FB_TSYNC_STAT_MASTER 3 0).onSlave 0 (fun y =>
     { y with req := some (7, 0), pair := some (6, 0, 12) })
   let port : Sys2Proof.Port := .a
   let i : Fin 2 := 0
   let f : BusFrame := frameFor 0x13 [7, 0, 5, 0, 0, 0, 0, 0, 0, 0, 0, 0, 0, 0, 0, 0]
   let bits : List Bool := stuffed f
   let seq : Nat := 7
   let n : Nat := 6
   let t1 : Rat := 0
   let t2 : Rat := 12
   let t3 : Rat := 0
   let d : Rat := ((t2 - t1) + (stampOf f - t3)) / 2
   decide (i = Port.index port) &&
   decide (portActive s i = true) &&
   decide (hearing s i bits = .good f) &&
   decide (forUs s i f = true) &&
   decide (f.kind = 0x13) &&
   decide (f.data.length = 16) &&
   decide (s.srcPort = some i) &&
   decide (leAt f.data 2 1 = nodeOf s i) &&
   decide (s.pg F.FB_TSYNC_STAT_MASTER i.val = f.src.toNat) &&
   decide ((s.port i).slave.req = some (seq, t3)) &&
   decide ((s.port i).slave.pair = some (n, t1, t2)) &&
   decide (seq = leAt f.data 0 2) &&
   decide (d < 0 ∨ 5 < d)) &&
  (let s : State := busAt w0 2
   let port : Sys2Proof.Port := .a
   let i : Fin 2 := 0
   let bits : List Bool := stuffed (frameFor 0x80 [1]) ++ [true]
   let e : RxError := .form
   decide (i = Port.index port) &&
   decide (hearing s i bits = .bad e)) &&
  (let y := (7, 5)
   let s : State := (((busAt w0 2).pw F.PCH_TS_STAT_SRC 1).pw F.FB_TSYNC_STAT_MASTER 3 0).onSlave 0 (fun y =>
     { y with reqDue := true, sync := some (7, 5) })
   let port : Sys2Proof.Port := .a
   let i : Fin 2 := 0
   decide (i = Port.index port) &&
   decide ((s.port i).slave.reqDue = true) &&
   decide (s.srcPort = some i) &&
   decide (portActive s i = true) &&
   decide ((s.port i).slave.sync = some y))) = true := by decide +kernel

/-- The hypotheses of TimeProtocol are met (part 7 of 7). -/
theorem meets_TimeProtocol_7 : (
  (let s : State := (((busAt w0 2).pw F.PCH_TS_STAT_SRC 1).pw F.FB_TSYNC_STAT_MASTER 3 0).pwb F.FB_TSYNC_STAT_LOCK true 0
   let port : Sys2Proof.Port := .a
   let i : Fin 2 := 0
   decide (i = Port.index port) &&
   decide (s.porchRuns = true) &&
   decide (s.srcPort = some i) &&
   decide (s.pb F.FB_TSYNC_STAT_LOCK i.val = true) &&
   decide (s.pb F.PCH_TS_STAT_HOLD = false))) = true := by decide +kernel

/-- The hypotheses of HouseTimeWork are met (part 1 of 5). -/
theorem meets_HouseTimeWork_1 : (
  (let s : State := w0
   let p : Phys := 0
   decide (s.time.pend = []) &&
   decide (s.time.slew = 0) &&
   decide ((s.sl p).running = true) &&
   decide (s.porchRuns = true) &&
   decide (s.time.aligned = false) &&
   decide (s.srcPort = none ∨ s.pb F.PCH_TS_STAT_LOCK = false ∨ s.time.lockAll = false) &&
   decide (s.porchRuns = false ∨ s.pb F.PCH_TS_STAT_ALIGN_PEND = false ∨ s.cellar.locked = true)) &&
  (let s : State := (w0.onTs (fun y => { y with pend := [{ offset := 100000000, alarm := true, lseq := some 9 }] })).onJ
     (fun y => { y with running := [{ x := porchCmd 0x0402 [] }] })
   let q : PendStep := { offset := 100000000, alarm := true, lseq := some 9 }
   let l : List PendStep := []
   let p := 0
   decide (s.time.pend = q :: l) &&
   decide (0 ≤ s.fine + q.offset) &&
   decide (s.fine + q.offset < 2 ^ 64 * usFine) &&
   decide ((s.sl p).running = true)) &&
  (let s : State := (w0.onTs (fun y => { y with us := 3600000000, slew := 5 })).onTs (fun y =>
     { y with pend := [{ offset := -360000000000000000, alarm := true, hour := some false, keepSlew := true, trust := true }] })
   let q : PendStep := { offset := -360000000000000000, alarm := true, hour := some false, keepSlew := true, trust := true }
   let l : List PendStep := []
   let f := false
   decide (s.time.pend = q :: l) &&
   decide (0 ≤ s.fine + q.offset) &&
   decide (s.fine + q.offset < 2 ^ 64 * usFine) &&
   decide (q.hour = some f)) &&
  (let s : State := (w0.onTs (fun y => { y with pend := [{ offset := 100000000, alarm := true, lseq := some 9 }] })).onJ
     (fun y => { y with running := [{ x := porchCmd 0x0402 [] }] })
   let q : PendStep := { offset := 100000000, alarm := true, lseq := some 9 }
   let l : List PendStep := []
   let p := 64
   decide (s.time.pend = q :: l) &&
   decide (0 ≤ s.fine + q.offset) &&
   decide (s.fine + q.offset < 2 ^ 64 * usFine) &&
   decide ((s.sl p).running = false))) = true := by decide +kernel

/-- The hypotheses of HouseTimeWork are met (part 2 of 5). -/
theorem meets_HouseTimeWork_2 : (
  (let s : State := (w0.onTs (fun y => { y with pend := [{ offset := 100000000, alarm := true, lseq := some 9 }] })).onJ
     (fun y => { y with running := [{ x := porchCmd 0x0402 [] }] })
   let q : PendStep := { offset := 100000000, alarm := true, lseq := some 9 }
   let l : List PendStep := []
   let n := 9
   let r := { x := porchCmd 0x0402 [] }
   decide (s.time.pend = q :: l) &&
   decide (0 ≤ s.fine + q.offset) &&
   decide (s.fine + q.offset < 2 ^ 64 * usFine) &&
   decide (q.lseq = some n) &&
   decide (s.runningOf n = some r) &&
   decide (r.internal = false) &&
   decide (markersOf s n = [])) &&
  (let s : State := w0.onTs (fun y => { y with slew := -5, us := 1 })
   decide (s.time.slew ≠ 0) &&
   decide (0 ≤ s.fine + s.time.slew) &&
   decide (s.fine + s.time.slew < 2 ^ 64 * usFine)) &&
  (let s : State := w0.onTs (fun y => { y with aligned := true })
   let p : Phys := 0
   decide ((s.sl p).running = true) &&
   decide (s.porchRuns = true) &&
   decide (s.time.aligned = true) &&
   decide ((s.sl p).time.aligned = false)) &&
  (let s : State := (w0.onTs (fun y => { y with aligned := true })).onSl 0 (fun y =>
     { y with time := { y.time with aligned := true, epoch := 100100000, lock := true } })
   let p : Phys := 0
   let gain : Int := 0
   let u : State := driftBase s p gain
   let diff : Int := sliceDiff u p
   decide ((s.sl p).running = true) &&
   decide (s.porchRuns = true) &&
   decide (s.time.aligned = true) &&
   decide ((s.sl p).time.aligned = true) &&
   decide (diff < -1000 ∨ 1000 < diff) &&
   decide ((s.sl p).time.lock = true))) = true := by decide +kernel

/-- The hypotheses of HouseTimeWork are met (part 3 of 5). -/
theorem meets_HouseTimeWork_3 : (
  (let s : State := (w0.onTs (fun y => { y with aligned := true })).onSl 0 (fun y =>
     { y with time := { y.time with aligned := true, epoch := -100100000, lock := true } })
   let p : Phys := 0
   let gain : Int := 0
   let u : State := driftBase s p gain
   let diff : Int := sliceDiff u p
   decide ((s.sl p).running = true) &&
   decide (s.porchRuns = true) &&
   decide (s.time.aligned = true) &&
   decide ((s.sl p).time.aligned = true) &&
   decide (diff < -1000 ∨ 1000 < diff)) &&
  (let s : State := (w0.onTs (fun y => { y with aligned := true })).onSl 0 (fun y =>
     { y with time := { y.time with aligned := true, epoch := 0, lock := true } })
   let p : Phys := 0
   let gain : Int := 1001
   let u : State := driftBase s p gain
   let diff : Int := sliceDiff u p
   decide ((s.sl p).running = true) &&
   decide (s.porchRuns = true) &&
   decide (s.time.aligned = true) &&
   decide ((s.sl p).time.aligned = true) &&
   decide (diff < -1000 ∨ 1000 < diff)) &&
  (let s : State := (w0.onTs (fun y => { y with aligned := true })).onSl 0 (fun y =>
     { y with time := { y.time with aligned := true, epoch := 5000000, run := 15 } })
   let p : Phys := 0
   let gain : Int := 0
   let u : State := driftBase s p gain
   let diff : Int := sliceDiff u p
   decide ((s.sl p).running = true) &&
   decide (s.porchRuns = true) &&
   decide (s.time.aligned = true) &&
   decide ((s.sl p).time.aligned = true) &&
   decide (-50 ≤ diff) &&
   decide (diff ≤ 50))) = true := by decide +kernel

/-- The hypotheses of HouseTimeWork are met (part 4 of 5). -/
theorem meets_HouseTimeWork_4 : (
  (let s : State := (w0.onTs (fun y => { y with aligned := true })).onSl 0 (fun y =>
     { y with time := { y.time with aligned := true, epoch := -5000000, run := 15 } })
   let p : Phys := 0
   let gain : Int := 0
   let u : State := driftBase s p gain
   let diff : Int := sliceDiff u p
   decide ((s.sl p).running = true) &&
   decide (s.porchRuns = true) &&
   decide (s.time.aligned = true) &&
   decide ((s.sl p).time.aligned = true) &&
   decide (-50 ≤ diff) &&
   decide (diff ≤ 50)) &&
  (let s : State := (w0.onTs (fun y => { y with aligned := true })).onSl 0 (fun y =>
     { y with time := { y.time with aligned := true, epoch := -3000000 } })
   let p : Phys := 0
   let gain : Int := 60
   let u : State := driftBase s p gain
   let diff : Int := sliceDiff u p
   decide ((s.sl p).running = true) &&
   decide (s.porchRuns = true) &&
   decide (s.time.aligned = true) &&
   decide ((s.sl p).time.aligned = true) &&
   decide (-50 ≤ diff) &&
   decide (diff ≤ 50)) &&
  (let s : State := (w0.onTs (fun y => { y with aligned := true })).onSl 0 (fun y =>
     { y with time := { y.time with aligned := true, epoch := 5100000, lock := true, run := 3 } })
   let p : Phys := 0
   let gain : Int := 0
   let u : State := driftBase s p gain
   let diff : Int := sliceDiff u p
   decide ((s.sl p).running = true) &&
   decide (s.porchRuns = true) &&
   decide (s.time.aligned = true) &&
   decide ((s.sl p).time.aligned = true) &&
   decide (50 < diff.natAbs) &&
   decide (diff.natAbs ≤ 1000))) = true := by decide +kernel

/-- The hypotheses of HouseTimeWork are met (part 5 of 5). -/
theorem meets_HouseTimeWork_5 : (
  (let s : State := (w0.onTs (fun y => { y with aligned := true })).onSl 0 (fun y =>
     { y with time := { y.time with aligned := true, epoch := -100000000, lock := true, run := 3 } })
   let p : Phys := 0
   let gain : Int := 0
   let u : State := driftBase s p gain
   let diff : Int := sliceDiff u p
   decide ((s.sl p).running = true) &&
   decide (s.porchRuns = true) &&
   decide (s.time.aligned = true) &&
   decide ((s.sl p).time.aligned = true) &&
   decide (50 < diff.natAbs) &&
   decide (diff.natAbs ≤ 1000)) &&
  (let s : State := w0.onTs (fun y => { y with us := 200 })
   decide (s.porchRuns = true) &&
   decide (100 * usFine < (calFine s.cellar - s.fine).natAbs)) &&
  (let s : State := (w0.pwb F.PCH_TS_STAT_ALIGN_PEND true).onTs (fun y => { y with us := 5097600123456 })
   decide (s.porchRuns = true) &&
   decide (s.pb F.PCH_TS_STAT_ALIGN_PEND = true) &&
   decide (s.cellar.locked = false)) &&
  (let s : State := (w0.pwb F.PCH_TS_STAT_ALIGN_PEND true).onCl (fun y => { y with locked := true })
   decide (s.porchRuns = false ∨ s.pb F.PCH_TS_STAT_ALIGN_PEND = false ∨ s.cellar.locked = true))) = true := by decide +kernel

/-- The hypotheses of CellarWork are met. -/
theorem meets_CellarWork : (
  (let s : State := w0
   let mv : Nat := 2499
   decide (s.cellar.invalid = false) &&
   decide (calSeconds s.cellar + 1 < 400 * 31556952) &&
   decide (s.porchRuns = true) &&
   decide (s.cellar.below31 = true ∨ s.cellar.locked = false) &&
   decide (mv < 2500)) &&
  (let s : State := w0.onCl (fun y => { y with month := 2, day := 28, hour := 23, min := 59, sec := 59 })
   decide (s.cellar.invalid = false) &&
   decide (calSeconds s.cellar + 1 < 400 * 31556952)) &&
  (let s : State := w0.onCl (fun y =>
     { y with year := 1, month := 12, day := 31, hour := 23, min := 59, sec := 59, sub := 32767 })
   decide (s.cellar.invalid = false) &&
   decide (calSeconds s.cellar + 1 < 400 * 31556952)) &&
  (let s : State := w0.onCl (fun y =>
     { y with year := 4, month := 2, day := 29, hour := 23, min := 59, sec := 59, stopped := true })
   decide (s.cellar.invalid = false) &&
   decide (calSeconds s.cellar + 1 < 400 * 31556952)) &&
  (let s : State := w0.onCl (fun y =>
     { y with year := 399, month := 12, day := 31, hour := 23, min := 59, sec := 59, trusted := true })
   decide (s.cellar.invalid = false) &&
   decide (s.cellar.year = 399) &&
   decide (s.cellar.month = 12) &&
   decide (s.cellar.day = 31) &&
   decide (s.cellar.hour = 23) &&
   decide (s.cellar.min = 59) &&
   decide (s.cellar.sec = 59) &&
   decide (s.porchRuns = true)) &&
  (let s : State := w0.onLd (fun y => { y with state := 2 })
   decide (s.porchRuns = false)) &&
  (let s : State := w0.onCl (fun y => { y with locked := true, below31 := true })
   decide (s.cellar.below31 = true ∨ s.cellar.locked = false)) &&
  (let s : State := w0.onCl (fun y => { y with locked := true })
   decide (s.cellar.below31 = false) &&
   decide (s.cellar.locked = true)) &&
  (let s : State := w0.onCl (fun y => { y with locked := true, onCell := true })
   decide (s.cellar.below31 = false) &&
   decide (s.cellar.locked = true) &&
   decide (s.cellar.onCell = true)) &&
  (let s : State := w0
   let mv : Nat := 2500
   decide (s.porchRuns = true) &&
   decide (2500 ≤ mv))) = true := by decide +kernel

/-- The hypotheses of FramesCrossTheWire are met. -/
theorem meets_FramesCrossTheWire : (
  (let f : BusFrame := ⟨4, 1, 3, 5, true, List.replicate 32 0⟩
   let fastOk : Bool := true
   decide (f.data.length ≤ 32) &&
   decide ((f.fast = true → fastOk = true))) &&
  (let f : BusFrame := ⟨0, 0, 0, 0, false, []⟩
   let fastOk : Bool := false
   decide (f.data.length ≤ 32) &&
   decide ((f.fast = true → fastOk = true)))) = true := by decide +kernel

/-! ### Statements whose hypotheses speak of a step -/

/-- A state of R569 and the step from it (StepKeepsStateLegal). -/
theorem meets_StepKeepsStateLegal : State.reset.modst.legal ∧ step State.reset = .next (tick State.reset) := by
  refine ⟨?_, rfl⟩
  constructor <;> decide +kernel

/-- A migration of zone 0 to the spare slice 64, its old slice failed. -/
def move : Repair := { lseq := 9, opcode := 0x0601, zone := 0, old := 0, target := 64, planned := false, held := true }
/-- Zone 0 ready for it. -/
def moving : State :=
  ((w0.onSl 0 (fun x => { x with running := false, life := .failed, ckpt := some { time := 0, zone := x.z } })).onSl 64
    (fun x => { x with life := .moving })).onUp (fun u => { u with repair := some move })

/-- MIGRATION_HOLD moves the zone, so that the map changes (MapMovesOnlyInRepair). -/
theorem meets_MapMovesOnlyInRepair :
    exec (.migrationHold []) moving = .next (takeOver moving move) ∧ (takeOver moving move).map ≠ moving.map := by
  have h1 : moving.upkeep.repair = some move := by decide +kernel
  have h2 : moving.porchRuns = true := by decide +kernel
  have h3 : (moving.sl move.target).life = .moving := by decide +kernel
  have h4 : (moving.sl move.old).life = .failed := by decide +kernel
  have h5 : ({ move with planned := false } : Repair) = move := rfl
  refine ⟨?_, ?_⟩
  · simp [exec, execMigrationHold, go, migrationHold, holdAndSwap, h1, h2, h3, h4, h5]
  · rw [takeOver_map]
    decide +kernel

/-- BYPASS changes the test access port, which holds IDCODE at reset (PortOnlyByItsRows). -/
theorem meets_PortOnlyByItsRows :
    (match exec .bypass State.reset with
      | .next t => decide (t.tap ≠ State.reset.tap)
      | _ => false) = true := by decide +kernel

/-! ### Well-formed commands -/

/-- A payload of so many zero bytes. -/
def zeros (n : Nat) : List Byte := List.replicate n 0
/-- A NOP command with a payload of so many bytes. -/
def longNop (n : Nat) : Instr := .noOperation .spi 1 1 (zeros n)
/-- So many dominant levels of a bus frame. -/
def longFrame (n : Nat) : List Bool := List.replicate n false

/-- The longest payload and the last LSEQ are allowed, one more of either is not (R322, R337). -/
theorem test_wf_execution :
    ((Instr.zoneMode ⟨2 ^ 32 - 1, 1, 1, 0x0101, 1, zeros 1020⟩).wf, (Instr.zoneMode ⟨2 ^ 32, 1, 1, 0x0101, 1, zeros 4⟩).wf,
      (Instr.zoneMode ⟨1, 1, 1, 0x0101, 1, zeros 1021⟩).wf, (longNop 1020).wf, (longNop 1021).wf)
      = (true, false, false, true, false) := by decide +kernel

/-- Bursts of the link carry 1 to 64 words, those of SPI 1 to 16 (R395, R406). -/
theorem test_wf_bursts :
    ([0, 1, 64, 65].map (fun n => (Instr.linkRead 7 false 0 n).wf),
      [0, 1, 64, 65].map (fun n => (Instr.linkWrite 7 false 0 (List.replicate n 0)).wf),
      [0, 1, 16, 17].map (fun n => (Instr.spiRead 0 n).wf),
      [0, 1, 16, 17].map (fun n => (Instr.spiWrite 0 (List.replicate n 0)).wf))
      = ([false, true, true, false], [false, true, true, false], [false, true, true, false],
        [false, true, true, false]) := by decide +kernel

/-- An envelope has at most 1,040 bytes (R395). -/
theorem test_wf_envelopes :
    [1040, 1041].map (fun n => ((Instr.linkCommand 7 false { bytes := zeros n }).wf, (Instr.spiCommand { bytes := zeros n }).wf))
      = [(true, true), (false, false)] := by decide +kernel

/-- The stuffed part of a bus frame has at most 324 levels and 81 stuff bits (R417, R418). -/
theorem test_wf_frames :
    [405, 406].map (fun n => [Instr.busCommandSegment .a (longFrame n), .hostFrame .a (longFrame n) 0, .outdoor .a (longFrame n),
      .sync .a (longFrame n) 0, .followUp .a (longFrame n), .delayReq .a (longFrame n) 0, .delayResp .a (longFrame n),
      .otherFrameReceived .a (longFrame n)].map Instr.wf)
      = [List.replicate 8 true, List.replicate 8 false] := by decide +kernel

/-- Measured values stay within what their converters and counters hold. -/
theorem test_wf_values :
    ([33022, 33023, -33024, -33025].map (fun c => (Instr.conversionComplete 0 0 { rawA := c }).wf),
      [33022, 33023].map (fun c => (Instr.conversionComplete 0 0 { rawA := 0, rawB := c }).wf),
      [0xFFFF, 0x10000].map (fun c => ((Instr.humidityUpdate 0 c 0).wf, (Instr.humidityUpdate 0 0 c).wf)),
      [6, 7].map (fun a => (Instr.learnerUpdate 0 0 a 6).wf), [4095, 4096].map (fun v => (Instr.cellMeasure v).wf))
      = ([true, false, true, false], [true, false], [(true, true), (false, false)], [true, false], [true, false]) := by
  decide +kernel

/-! ### Values the manual works out -/

/-- The CRC-32 of R8 over "123456789" is the value the manual prints. -/
theorem test_crc_check_value : crc32 [0x31, 0x32, 0x33, 0x34, 0x35, 0x36, 0x37, 0x38, 0x39] = 0xCBF43926 := by decide +kernel

/-- The electrical meter of zone Z17 stands at 0x0122_4000 in the alias and at 0x0032_4000 on S17 (R48). -/
theorem test_views_of_zone_17 :
    (viewAddr (.zone 17) 0x104000, viewAddr (.phys 17) 0x104000) = (0x01224000, 0x00324000) := by decide +kernel

/-- Zone 17's registers of the damp-sensor example (R80, R90, R96). -/
def dampRegs (f : RegFile) : RegFile :=
  [(R.ZI_TCFG_n, 0x23200067), (R.ZI_T_n, 0x90030898), (R.ZI_THR_n, 0x00035B60), (R.ZI_TRES_n, 0x00109107),
    (R.ZI_TNOISE_n, 0x0319010F)].foldl (fun (f : RegFile) (x : Reg × Word) => f.putWord x.1 x.2 2) f
/-- Slice 17 running with them. -/
def damp : State :=
  State.reset.onSl 17 (fun x => { x with running := true, z := { x.z with regs := dampRegs x.z.regs } })

/-- ZI_TCFG_3 of the example (T3 is input 2 from 0): TYPE 2, ROLE 3, FILT 2 and LEAD 103. -/
theorem test_damp_configuration :
    [F.ZI_TCFG_n_TYPE, F.ZI_TCFG_n_ROLE, F.ZI_TCFG_n_FILT, F.ZI_TCFG_n_LEAD].map (fun f => damp.g 17 f 2) = [2, 3, 2, 103] := by
  decide +kernel

/-- The example's link: UP at width 4, 0x0124 packets freed. -/
def dampLink (s : State) : State :=
  s.onLk (fun k => { k with state := 4, active := 0xF, width := 4, crtot := 0x0124 })

/-- The burst over Z17's sensor answers the bytes the manual prints, CRC apart: four words, CREDITS 1, CRTOT 0x0125. -/
theorem test_damp_burst :
    (match exec (.linkRead 0x2C false 0x012210C4 4) (dampLink damp) with
      | .next t => (match t.lastOut with
        | some (.packet l) => (List.range 37).map (fun k => (l.getD (k % 4) []).getD (k / 4) .pad)
        | _ => [])
      | _ => []) = .stp :: ([0x80, 0x2C, 0x1C, 0x00, 0x01, 0x00, 0x25, 0x01, 0xC4, 0x10, 0x22, 0x01, 0x04, 0x00, 0x00, 0x00,
        0x00, 0x00, 0x00, 0x00, 0x98, 0x08, 0x03, 0x90, 0x60, 0x5B, 0x03, 0x00, 0x07, 0x91, 0x10, 0x00, 0x0F, 0x01, 0x19,
        0x03].map Sym.data) := by
  decide +kernel

/-- The example's request of 20 bytes fills 6 symbol times of four lanes (R389): STP leads lane 0, two PAD end lanes 2 and 3. -/
theorem test_damp_symbol_times :
    (onLanes 0xF (List.replicate 20 0)).map List.length = [6, 6, 6, 6] ∧
      (onLanes 0xF (List.replicate 20 0)).map List.head? = [some .stp, some (.data 0), some (.data 0), some (.data 0)] ∧
      (onLanes 0xF (List.replicate 20 0)).map List.getLast? = [some (.data 0), some .end_, some .pad, some .pad] := by
  decide +kernel

/-- Two COM in a row are K28.5 at both disparities (R388), and D21.5 is the alternating group. -/
theorem test_code_groups :
    lineLevels false [.com, .com, .data 0xB5] = levels 10 0b0011111010 ++ levels 10 0b1100000101 ++ levels 10 0b1010101010 := by
  decide +kernel

/-- An AO in its limit at 4.80 V applies 48.00 % (R293): AO1 of zone Z17 on 0 to 10 V. -/
theorem test_ao_in_its_limit :
    ((measureOut ((damp.w 17 F.ZO_CFG_j_HI 100 0).onOut 17 0 (fun o => { o with req := 6000, held := false })) 17 0 4800
      true).out 17 0).applied = 4800 := by
  decide +kernel

/-- The module's ANSWER_LATE of the arbitration example: its ID, its first ten bit times with the stuff bit at bit time 8, and the
286 bit times it lasts without stuff bits and intermission (R417, R418, R425). -/
theorem test_wire_of_the_arbitration_example :
    (fun f : BusFrame => (frameId f, (stuffed f).take 10, (frameLevels f).length + 10)) ⟨4, 3, 0x21, 0x42, false, zeros 26⟩
      = (0x4032142, [false, false, true, false, false, false, false, false, true, false], 286) := by decide +kernel

/-- One step takes the front command and keeps the rest. -/
theorem test_step_takes_front :
    (match step { State.reset with pending := [.bypass, .idcode] } with
      | .next t => t.pending
      | _ => []) = [.idcode] := by decide +kernel

end Sys2Proof.Tests
end

namespace Sys2Proof.Machine
open Host

/-! ### What a row of the opcode table can reach

`exec` is one `match` with an arm a row, and nearly every arm leaves the held parts of the state (Laws/Held.lean) alone. The
classification `reachOf` names the rows that may change one of them; `exec_reaches` says once, for every row, that
no other held part moves. -/

/-- The held part of the state that a command may change. -/
inductive Reach where
  | nothing | modst | map | tap

/-- What of the held parts is the same before and after a command of this reach. -/
def Reach.keeps : Reach → Held → Held → Prop
  | .nothing, h, h' => h' = h
  | .modst, h, h' => h'.butModst = h.butModst
  | .map, h, h' => h'.butMap = h.butMap
  | .tap, h, h' => h'.pending = h.pending ∧ h'.map = h.map ∧ h'.modst = h.modst

@[simp] theorem Reach.keeps_nothing (h h' : Held) : Reach.nothing.keeps h h' ↔ h' = h := Iff.rfl
@[simp] theorem Reach.keeps_modst (h h' : Held) : Reach.modst.keeps h h' ↔ h'.butModst = h.butModst := Iff.rfl

theorem Reach.keeps_refl (r : Reach) (h : Held) : r.keeps h h := by
  cases r
  case tap => exact ⟨rfl, rfl, rfl⟩
  all_goals rfl

/-- Only a command that reaches the test access port can change it. -/
theorem Reach.keeps_tap_eq {r : Reach} {h h' : Held} (hr : r ≠ .tap) (hk : r.keeps h h') : h'.tap = h.tap := by
  cases r with
  | nothing => exact congrArg Held.tap hk
  | modst => exact congrArg (·.2.2) hk
  | map => exact congrArg (·.2.2) hk
  | tap => exact absurd rfl hr

/-- The held part that a row may change: the module state for the rows that may run a replay, enter a state, reset or test the
module (R380, R558, R569), the map for MIGRATION_HOLD (R523), the test access port for its own four rows (R7). -/
def reachOf : Instr → Reach
  | .moduleState _ | .moduleReset _ | .builtInTest _ _ _ | .engineTakeover _ | .startUp _ | .holdupTimeout
  | .handshakeAnswer _ _ | .wakeEvent _ _ | .wakeTimerExpiry _ | .mramScrub _ _ _ => .modst
  | .migrationHold _ => .map
  | .bypass | .idcode | .samplePreload _ | .extest _ => .tap
  | _ => .nothing

theorem eq_of_reachOf_tap {c : Instr} (h : reachOf c = .tap) :
    c = .bypass ∨ c = .idcode ∨ (∃ w, c = .samplePreload w) ∨ (∃ w, c = .extest w) := by
  unfold reachOf at h
  split at h <;> simp at h ⊢

/-! ### The shapes of an arm -/

/-- An outcome goes on to a state that differs from `s` in no held part but the one reached. -/
def Reaches (r : Reach) (s : State) (o : Outcome State Fault Refusal) : Prop :=
  ∃ t, o = .next t ∧ r.keeps s.held t.held

namespace Reaches
variable {r : Reach} {s t : State} {f : State → State}

theorem go (h : r.keeps s.held t.held) : Reaches r s (Machine.go t) := ⟨t, rfl, h⟩

theorem goIf {c : Prop} [Decidable c] (h : r.keeps s.held t.held) : Reaches r s (Machine.go (if c then t else s)) := by
  split
  · exact .go h
  · exact .go (r.keeps_refl _)

theorem goUnless {c : Prop} [Decidable c] (h : r.keeps s.held t.held) : Reaches r s (Machine.go (if c then s else t)) := by
  split
  · exact .go (r.keeps_refl _)
  · exact .go h

theorem onRunning {p : Phys} (h : ∀ s, r.keeps s.held (f s).held) : Reaches r s (Machine.onRunning s p f) :=
  goIf (h s)

theorem onPorch {x : Exec} (h : ∀ s, r.keeps s.held (f s).held) : Reaches r s (Machine.onPorch s x f) :=
  goIf (h s)

end Reaches

/-! ### The test access port (R7) -/

theorem loadTap_shiftOut_reaches (s : State) (f : Tap → Tap) (w : Word) :
    Reach.tap.keeps s.held (shiftOut (loadTap s f) w).held := by
  rw [shiftOut_held, loadTap]
  split <;> exact ⟨rfl, rfl, rfl⟩

theorem loadTap_shiftOut_powered {s : State} (hs : s.supply.powered = true) (f : Tap → Tap) (w : Word) :
    shiftOut (loadTap s f) w = { s with tap := f s.tap, emitted := s.emitted ++ [.tdo w] } := by
  simp [shiftOut, loadTap, hs, State.emit]

section PoweredPort
variable {s : State} (hs : s.supply.powered = true)
include hs

theorem exec_bypass_powered : exec .bypass s = .next { s with
    tap := { s.tap with instr := .bypass, driven := none }, emitted := s.emitted ++ [.tdo 0] } :=
  congrArg Outcome.next (loadTap_shiftOut_powered hs _ _)

theorem exec_idcode_powered : exec .idcode s = .next { s with
    tap := { s.tap with instr := .idcode, driven := none }, emitted := s.emitted ++ [.tdo Config.idcode] } :=
  congrArg Outcome.next (loadTap_shiftOut_powered hs _ _)

/-- The word shifted out is the next free one (notes/assumptions/5). -/
theorem exec_samplePreload_powered (w : BitVec 32) : exec (.samplePreload w) s = .next { s with
    tap := { instr := .samplePreload, boundary := w, driven := none }, emitted := s.emitted ++ [.tdo s.fresh.1],
    free := s.free + 1 } :=
  congrArg Outcome.next (loadTap_shiftOut_powered (s := s.fresh.2) hs _ _)

/-- The word shifted out is the next free one (notes/assumptions/5). -/
theorem exec_extest_powered (w : BitVec 32) : exec (.extest w) s = .next { s with
    tap := { instr := .extest, boundary := w, driven := some w }, emitted := s.emitted ++ [.tdo s.fresh.1],
    free := s.free + 1 } :=
  congrArg Outcome.next (loadTap_shiftOut_powered (s := s.fresh.2) hs _ _)

end PoweredPort

/-- Settles O9, by the equation of each row. -/
theorem testPortInstructions : Obligations.TestPortInstructions := by
  intro s w hs
  refine ⟨⟨_, exec_bypass_powered hs, rfl, rfl, ?_, rfl, rfl⟩, ⟨_, exec_idcode_powered hs, rfl, rfl, ?_, rfl, rfl⟩,
    ⟨_, s.fresh.1, exec_samplePreload_powered hs w, rfl, rfl, rfl, ?_, ?_, rfl, rfl⟩,
    ⟨_, s.fresh.1, exec_extest_powered hs w, rfl, rfl, ?_, ?_, rfl, rfl⟩⟩ <;>
  simp [State.lastOut]

/-! ### Every row -/

/-- Every row answers a next state, and of the held parts it changes at most the one that `reachOf` names. The rows are taken
by the shape of their arm: one access of the host; a zone command; an operation of a running slice; a command of the porch;
any other operation of the block; rows whose operation depends on what the row carries; and the rows that do change a held
part. -/
theorem exec_reaches (c : Instr) (s : State) : Reaches (reachOf c) s (exec c s) := by
  cases c with
  | readClear | pgTsLoRead | pchSrcIdRead | ziTRead | zcEntLoRead | zcUrgLoRead | zcTsNowRead | zeStatRead
  | zeHarmStatRead | zeAccTsLoRead | zeDmdRead | zeCapDataRead | zhStatRead | zhAccTsLoRead | zlStatRead | zlModelRead
  | schAlmRead | zpStatRead | zoStatRead | zkStatRead | zkEvtLoRead | hlStatRead | fbRxHdrRead | fbStatRead
  | clrSubsecRead | pchTsNowLoRead | pchTsStepRead | zxNowLoRead | pwrCenStatRead | pwrSupplyRead | clrWakeEvtLoRead
  | thStatRead | zwStatRead | pchStateRead | pchBitRead => exact .go (hostRead_held ..)
  | registerWrite | errorAcknowledge | guestbookQuery | larderEntryCopy | windowLoad | diagNow | sequenceHostTrigger
  | sequenceDisable | captureArm | captureHostTrigger | captureStop | overcurrentClear | outputRelease | linkRetrain
  | txSend | txCancel | knock | calendarLoad | landingLogCopy | pathRecordCopy | collectorEntryCopy =>
    exact .go (hostWrite_held ..)
  | setLock | clearLock | setSeal | clearSeal | draughtUnlock => exact .go (hostLock_held ..)
  | zoneInputsConfiguration | zoneMode | zoneSetpoints | loopConfiguration | actuatorMap | manualOutputLevels
  | outputConfiguration | panelConfiguration | relayPulse | electricalConfiguration | electricalCalibration
  | heatAndFlowConfiguration | autotuneStart | autotuneAbort | timeZoneRule | weeklyEvents | exceptionDates | tariffBands
  | policyConfiguration | occupancyLearnerReset | demandReset | waveformCapture => exact .go (zoneCommand_held ..)
  | pulseEnd | checkpoint | meterPosting | humidityUpdate | prdRawEdge | prdEdgeAccepted | praSample | praInactive
  | praLevelFault | presenceStuck | diagWindowEnd | diagOffSegmentEnd | sequenceTrigger | conversionComplete
  | sequenceActiveTimeout | trimUpdate | skewUpdate | calConvergeTimeout | windowPublish | fastDriverSwitch | flowPulse
  | flowRateTimeout | flowOvr | leakHourCheck | loopTick | timedModeExpiry | sensorLossTimeout | modelStep | alarmFire
  | occHoldExpiry | learnerUpdate | tariffExpiry | planStart | planComplete | planOverrun | aoLimitTimeout
  | doOvercurrentTrip | doRetry | doOpenLoad | aoReadbackMismatch | tachPulse | fanStall | keyScan | keyLong | keyStuck
  | keyRepeat | encoderEdge | disciplineMessage =>
    apply Reaches.onRunning (r := .nothing)
    simp
  | sourceRelease | journalConfiguration | busPortConfiguration | testError =>
    apply Reaches.onPorch (r := .nothing)
    simp
  | intervalLength | recordAcknowledge | setHouseTime | adjustHouseTime | hourShift | timeSource | rateTrim
  | powerStateRequest | migrateZone | sliceSelfTest | hallwayCalibration | sliceMapChange | repairPolicy | mramBankReturn
  | noOperation | inboxHandover | finalResultWrite | tickApply | census | censusRetry | censusFinal | intervalClose
  | ilenTakeEffect | windowCopyDone | sliceRegulatorTrip | powerLossWarning | supplyOutOfRange | precharge
  | urgentRequest | outdoorStale | linkTrainingSet | detectTimeout | trainingTimeout | noLaneTimeout | linkRead
  | linkWrite | linkCommand | creditReturn | spiRead | spiWrite | spiCommand | fetchLate | spiAbandon | busCommandSegment
  | xferTimeout | frameTxEnd | probeSend | integrationComplete | busOffRecovery | dominantTimeout | hostFrame | outdoor
  | syncSend | sync | followUp | followUpTimeout | delayReqSend | delayReq | delayResp | syncLost | yieldEnd
  | busPortReconfigure | oscillatorStop | trimWindow | railLockout | railSwitchover | railRecover | railReconnect
  | cellMeasure | retentionRecovery | calendarTick | stepEdge | calendarRewrite | handshakeDelayRetry | handshakeTimeout
  | entryBoundaryDefer | entryBoundaryAbort | wakeEventDelivery | dieSensorSample | heartbeatMiss | sramUncorrectable
  | sramScrub | spareDailySelfTest | repairStart | pathRecalibration | pathExpiry | collectorFlush | stressAccumulate
  | wearEvaluation | laneSymbolError | frameReceiveError | otherFrameReceived | sliceClockCalibrationFailed
  | slewComplete =>
    apply Reaches.go (r := .nothing)
    simp
  | chatterClear _ input | inputPulseRejected _ input =>
    apply Reaches.onRunning (r := .nothing)
    intro t
    cases input <;> simp
  | autotuneStepTimeout p =>
    apply Reaches.onRunning (r := .nothing)
    intro t
    cases (t.lp p).tune <;> simp
  | spiRequestError why | packetDiscarded why =>
    apply Reaches.go (r := .nothing)
    cases why <;> simp
  | moduleState | moduleReset | builtInTest =>
    apply Reaches.onPorch (r := .modst)
    simp
  | startUp | holdupTimeout | handshakeAnswer | wakeEvent | mramScrub =>
    apply Reaches.go (r := .modst)
    simp
  | wakeTimerExpiry =>
    apply Reaches.goUnless (r := .modst)
    simp
  | engineTakeover role => cases role <;> exact .go (engineLost_butModst s)
  | migrationHold => exact .go (migrationHold_butMap ..)
  | bypass | idcode | samplePreload | extest => exact .go (loadTap_shiftOut_reaches ..)

/-- Settles O8: a row that moves the test access port has that reach, and only its four rows have it. -/
theorem portOnlyByItsRows : Obligations.PortOnlyByItsRows := by
  intro c s t ht hne
  obtain ⟨t', ht', hk⟩ := exec_reaches c s
  obtain rfl : t' = t := Outcome.next.inj (ht'.symm.trans ht)
  exact eq_of_reachOf_tap (by_contra fun hc => hne (Reach.keeps_tap_eq hc hk))

end Sys2Proof.Machine

namespace Sys2Proof.Machine
open Host

/-! ### The zone-to-slice map (R22, R48, R523) -/

/-- Only a command that reaches the map can change it. -/
theorem Reach.keeps_map_eq {r : Reach} {h h' : Held} (hr : r ≠ .map) (hk : r.keeps h h') : h'.map = h.map := by
  cases r with
  | nothing => exact congrArg Held.map hk
  | modst => exact congrArg (·.2.1) hk
  | map => exact absurd rfl hr
  | tap =>
    obtain ⟨-, hmap, -⟩ := hk
    exact hmap

theorem eq_of_reachOf_map {c : Instr} (h : reachOf c = .map) : ∃ l, c = .migrationHold l := by
  unfold reachOf at h
  split at h <;> simp at h ⊢

/-- Settles O7: a row that moves the map has that reach, and only MIGRATION_HOLD has it. -/
theorem mapMovesOnlyInRepair : Obligations.MapMovesOnlyInRepair := by
  intro c s t ht hne
  obtain ⟨t', ht', hk⟩ := exec_reaches c s
  obtain rfl : t' = t := Outcome.next.inj (ht'.symm.trans ht)
  exact eq_of_reachOf_map (by_contra fun hc => hne (Reach.keeps_map_eq hc hk))

/-! ### The block as delivered (R22, R518) -/

theorem deliveredSlice_nil (z : Zone) : (deliveredSlice [] z).val = z.val := by simp [deliveredSlice]

theorem delivered_nil_spare {p : Phys} (h : 64 ≤ p.val) : (Slice.delivered [] p).life = .spare := by
  have hnone : ∀ z : Zone, deliveredSlice [] z ≠ p := fun z hz => by
    have := deliveredSlice_nil z
    rw [hz] at this
    omega
  simp [Slice.delivered, hnone]

theorem delivered_nil_serving {p : Phys} (h : p.val < 64) : (Slice.delivered [] p).life = .serving := by
  have hhome : deliveredSlice [] ⟨p.val, h⟩ = p := Fin.ext (deliveredSlice_nil ⟨p.val, h⟩)
  have : ∃ z : Zone, deliveredSlice [] z = p := ⟨_, hhome⟩
  simp [Slice.delivered, this]

@[simp] theorem reset_sliceOf (z : Zone) : State.reset.sliceOf z = deliveredSlice [] z := by
  simp [State.sliceOf, State.reset, State.delivered]

@[simp] theorem reset_sl (p : Phys) : State.reset.sl p = Slice.delivered [] p := by
  simp [State.sl, State.reset, State.delivered]

/-- Settles O3: each part by what the factory repair map without a mapped-out slice gives. -/
theorem resetIsFactory : Obligations.ResetIsFactory := by
  refine ⟨rfl, rfl, fun z => ?_, fun p h => ?_, fun p h => ?_, rfl, rfl, reset_regs_wf⟩
  · rw [reset_sliceOf, deliveredSlice_nil]
  · rw [reset_sl, delivered_nil_spare h]
  · rw [reset_sl, delivered_nil_serving h]

end Sys2Proof.Machine

namespace Sys2Proof.Machine
open Host

/-! ### What an event or an error entry leaves alone

Raising an event (R61), posting an error entry (R75) or sending an output touches page headers, the collector and the outputs
alone. One equation an operation says so; `sameBut` gives the fields, and `simp` reads each of them off. -/

/-- The fields of the porch that hardly any operation of a slice or a page touches. -/
abbrev State.sameRest (t s : State) : Prop :=
  t.time = s.time ∧ t.cellar = s.cellar ∧ t.landing = s.landing ∧ t.census = s.census ∧ t.supply = s.supply ∧
  t.thermal = s.thermal ∧ t.store = s.store ∧ t.modst = s.modst ∧ t.link = s.link ∧ t.spi = s.spi ∧ t.ports = s.ports ∧
  t.map = s.map ∧ t.zones = s.zones ∧ t.latch = s.latch

/-- All but page headers, collector and outputs. -/
abbrev State.sameButPages (t s : State) : Prop :=
  t.sameRest s ∧ t.journal = s.journal ∧ t.upkeep = s.upkeep ∧ t.regs = s.regs ∧ t.slices = s.slices ∧ t.free = s.free

/-- A state without its page headers, its collector and its outputs. -/
def State.quiet (s : State) : State := { s with hdrs := [], coll := {}, emitted := [] }

theorem sameButPages_of_quiet {s t : State} (h : t.quiet = s.quiet) : t.sameButPages s :=
  ⟨⟨(congrArg State.time h :), (congrArg State.cellar h :), (congrArg State.landing h :), (congrArg State.census h :),
    (congrArg State.supply h :), (congrArg State.thermal h :), (congrArg State.store h :), (congrArg State.modst h :),
    (congrArg State.link h :), (congrArg State.spi h :), (congrArg State.ports h :), (congrArg State.map h :), (congrArg State.zones h :),
    (congrArg State.latch h :)⟩,
   (congrArg State.journal h :), (congrArg State.upkeep h :), (congrArg State.regs h :), (congrArg State.slices h :), (congrArg State.free h :)⟩

theorem quiet_ite (c : Prop) [Decidable c] (a b : State) : (if c then a else b).quiet = if c then a.quiet else b.quiet := by
  split <;> rfl

theorem quiet_foldl {α : Type} (f : State → α → State) (h : ∀ s a, (f s a).quiet = s.quiet) (l : List α) (s : State) :
    (l.foldl f s).quiet = s.quiet := by
  induction l generalizing s with
  | nil => rfl
  | cons a l ih => rw [List.foldl_cons, ih, h]

@[simp] theorem setHdr_quiet (s : State) (g : Nat) (h : Hdr) : (s.setHdr g h).quiet = s.quiet := rfl
@[simp] theorem touch_quiet (s : State) (g : Nat) : (s.touch g).quiet = s.quiet := rfl
@[simp] theorem emit_quiet (s : State) (e : Emit) : (s.emit e).quiet = s.quiet := rfl
@[simp] theorem repulse_quiet (b : State) (h : Hdr) (n : Nat) (l : Fin 2) (s : State) :
    (repulse b h n l s).quiet = s.quiet := by simp [repulse, quiet_ite]
@[simp] theorem setIsrFrom_quiet (b s : State) (g n : Nat) : (setIsrFrom b s g n).quiet = s.quiet := by simp [setIsrFrom]
@[simp] theorem setIsr_quiet (s : State) (g n : Nat) : (s.setIsr g n).quiet = s.quiet := setIsrFrom_quiet ..
@[simp] theorem evtP_quiet (s : State) (g b : Nat) : (s.evtP g b).quiet = s.quiet := setIsr_quiet ..
@[simp] theorem evt_quiet (s : State) (p : Phys) (u b : Nat) : (s.evt p u b).quiet = s.quiet := setIsr_quiet ..
@[simp] theorem evtIf_quiet (s : State) (c : Bool) (p : Phys) (u b : Nat) : (s.evtIf c p u b).quiet = s.quiet := by
  simp [State.evtIf, quiet_ite]
@[simp] theorem notePwrs_quiet (s : State) (l : List Nat) : (s.notePwrs l).quiet = s.quiet :=
  quiet_foldl _ (fun _ _ => setIsr_quiet ..) _ _
@[simp] theorem noteBusy_quiet (b : State) (p : Phys) (s : State) : (noteBusy b p s).quiet = s.quiet := by
  simp [noteBusy, quiet_ite]
@[simp] theorem noteSum_quiet (b s : State) : (noteSum b s).quiet = s.quiet := by simp [noteSum, quiet_ite]
@[simp] theorem log_quiet (s : State) (g : Nat) (e : Word) : (s.log g e).quiet = s.quiet := by
  unfold State.log
  split <;> rfl
@[simp] theorem post_quiet (s : State) (g : Nat) (e : Word) : (s.post g e).quiet = s.quiet := by simp [State.post, quiet_ite]
@[simp] theorem errP_quiet (s : State) (g c e : Nat) : (s.errP g c e).quiet = s.quiet := post_quiet ..
@[simp] theorem err_quiet (s : State) (p : Phys) (u c e : Nat) : (s.err p u c e).quiet = s.quiet := post_quiet ..

@[simp] theorem emit_same (s : State) (e : Emit) : (s.emit e).sameButPages s := sameButPages_of_quiet rfl
@[simp] theorem evtP_same (s : State) (g b : Nat) : (s.evtP g b).sameButPages s := sameButPages_of_quiet (by simp)
@[simp] theorem evtIf_same (s : State) (c : Bool) (p : Phys) (u b : Nat) : (s.evtIf c p u b).sameButPages s :=
  sameButPages_of_quiet (by simp)
@[simp] theorem notePwrs_same (s : State) (l : List Nat) : (s.notePwrs l).sameButPages s := sameButPages_of_quiet (by simp)
@[simp] theorem errP_same (s : State) (g c e : Nat) : (s.errP g c e).sameButPages s := sameButPages_of_quiet (by simp)

end Sys2Proof.Machine

namespace Sys2Proof.Machine
open Host

/-! ### Bit fields (R12, R15) -/

/-- A word with a field replaced: what stands above it, the field, what stands below it. -/
theorem putField_toNat (w : Word) {hi lo : Nat} (v : Nat) (hlo : lo ≤ hi) (hhi : hi < 32) :
    (putField w hi lo v).toNat =
      2 ^ lo * (2 ^ (hi + 1 - lo) * (w.toNat / 2 ^ (hi + 1)) + v % 2 ^ (hi + 1 - lo)) + w.toNat % 2 ^ lo := by
  obtain ⟨n, hn⟩ : ∃ n, hi + 1 = lo + n := ⟨hi + 1 - lo, by omega⟩
  have hv : v % 2 ^ n < 2 ^ n := Nat.mod_lt _ (Nat.two_pow_pos n)
  have hr : w.toNat % 2 ^ lo < 2 ^ lo := Nat.mod_lt _ (Nat.two_pow_pos lo)
  have htop : w.toNat / 2 ^ (lo + n) < 2 ^ (32 - (lo + n)) := by
    rw [Nat.div_lt_iff_lt_mul (Nat.two_pow_pos _), ← Nat.pow_add]
    convert w.isLt using 2
    omega
  have hsplit : w.toNat = 2 ^ lo * (2 ^ n * (w.toNat / 2 ^ (lo + n)) + w.toNat / 2 ^ lo % 2 ^ n) + w.toNat % 2 ^ lo := by
    rw [Nat.pow_add, ← Nat.div_div_eq_div_mul, Nat.div_add_mod, Nat.div_add_mod]
  have hall : (2 : Nat) ^ 32 = 2 ^ lo * (2 ^ n * 2 ^ (32 - (lo + n))) := by
    rw [← Nat.pow_add, ← Nat.pow_add]
    congr 1
    omega
  have hsum : w.toNat - w.toNat / 2 ^ lo % 2 ^ n * 2 ^ lo + v % 2 ^ n * 2 ^ lo =
      2 ^ lo * (2 ^ n * (w.toNat / 2 ^ (lo + n)) + v % 2 ^ n) + w.toNat % 2 ^ lo := by
    generalize w.toNat / 2 ^ (lo + n) = a at *
    generalize w.toNat / 2 ^ lo % 2 ^ n = f at *
    have : w.toNat - f * 2 ^ lo = 2 ^ lo * (2 ^ n * a) + w.toNat % 2 ^ lo := by
      have : w.toNat = 2 ^ lo * (2 ^ n * a) + f * 2 ^ lo + w.toNat % 2 ^ lo := by
        conv_lhs => rw [hsplit]
        ring
      omega
    rw [this]
    ring
  simp only [putField, fieldOf, BitVec.toNat_ofNat, Nat.shiftRight_eq_div_pow, hn, Nat.add_sub_cancel_left, hsum]
  refine Nat.mod_eq_of_lt ?_
  rw [hall]
  calc 2 ^ lo * (2 ^ n * (w.toNat / 2 ^ (lo + n)) + v % 2 ^ n) + w.toNat % 2 ^ lo
      < 2 ^ lo * (2 ^ n * (w.toNat / 2 ^ (lo + n)) + v % 2 ^ n + 1) := by rw [Nat.mul_succ]; omega
    _ ≤ 2 ^ lo * (2 ^ n * (w.toNat / 2 ^ (lo + n) + 1)) := by
      refine Nat.mul_le_mul_left _ ?_
      rw [Nat.mul_succ]
      omega
    _ ≤ 2 ^ lo * (2 ^ n * 2 ^ (32 - (lo + n))) :=
      Nat.mul_le_mul_left _ (Nat.mul_le_mul_left _ htop)

theorem fieldOf_putField_same (w : Word) {hi lo : Nat} (v : Nat) (hlo : lo ≤ hi) (hhi : hi < 32) :
    fieldOf (putField w hi lo v) hi lo = v % 2 ^ (hi + 1 - lo) := by
  have hr : w.toNat % 2 ^ lo < 2 ^ lo := Nat.mod_lt _ (Nat.two_pow_pos lo)
  rw [fieldOf, putField_toNat w v hlo hhi, Nat.shiftRight_eq_div_pow, Nat.mul_add_div (Nat.two_pow_pos lo),
    Nat.div_eq_of_lt hr, Nat.add_zero, Nat.mul_add_mod, Nat.mod_mod]

/-- A field wholly below a replaced one. -/
theorem fieldOf_putField_below (w : Word) {hi lo hi' lo' : Nat} (v : Nat) (hlo : lo ≤ hi) (hhi : hi < 32)
    (hbelow : hi' < lo) : fieldOf (putField w hi lo v) hi' lo' = fieldOf w hi' lo' := by
  have hmod : ∀ x : Nat, x / 2 ^ lo' % 2 ^ (hi' + 1 - lo') = x % 2 ^ lo / 2 ^ lo' % 2 ^ (hi' + 1 - lo') := fun x => by
    refine Nat.eq_of_testBit_eq fun i => ?_
    simp only [Nat.testBit_mod_two_pow, Nat.testBit_div_two_pow]
    by_cases h : i < hi' + 1 - lo'
    · simp [h, show i + lo' < lo by omega]
    · simp [h]
  rw [fieldOf, fieldOf, putField_toNat w v hlo hhi, Nat.shiftRight_eq_div_pow, Nat.shiftRight_eq_div_pow, hmod,
    Nat.mul_add_mod, Nat.mod_mod, ← hmod]

/-- A field of a register file read after it is written. -/
theorem nat_putNat_same (f : RegFile) (x : Fld) (v i : Nat) (hlo : x.lo ≤ x.hi) (hhi : x.hi < 32) :
    (f.putNat x v i).nat x i = v % 2 ^ (x.hi + 1 - x.lo) := by
  rw [RegFile.nat, RegFile.putNat, rfGet_put, fieldOf_putField_same _ _ hlo hhi]

theorem satTo_lt (n v : Nat) : satTo n v < 2 ^ n := by
  have := Nat.two_pow_pos n
  unfold satTo
  omega

/-- A counter after it is increased (R55). -/
theorem nat_bump_same (f : RegFile) (x : Fld) (i n : Nat) (hlo : x.lo ≤ x.hi) (hhi : x.hi < 32) :
    (f.bump x i n).nat x i = satTo (x.hi + 1 - x.lo) (f.nat x i + n) := by
  rw [RegFile.bump, nat_putNat_same _ _ _ _ hlo hhi, Nat.mod_eq_of_lt (satTo_lt ..)]

end Sys2Proof.Machine

namespace Sys2Proof.Machine
open Host

/-! ### Slices, porch registers and the journal after the base operations -/

/-- All but the slices. -/
abbrev State.sameButSlices (t s : State) : Prop :=
  t.sameRest s ∧ t.journal = s.journal ∧ t.upkeep = s.upkeep ∧ t.regs = s.regs ∧ t.free = s.free ∧ t.hdrs = s.hdrs ∧
  t.coll = s.coll ∧ t.emitted = s.emitted

/-- All but the registers of the porch. -/
abbrev State.sameButRegs (t s : State) : Prop :=
  t.sameRest s ∧ t.journal = s.journal ∧ t.upkeep = s.upkeep ∧ t.slices = s.slices ∧ t.free = s.free ∧ t.hdrs = s.hdrs ∧
  t.coll = s.coll ∧ t.emitted = s.emitted

/-- All but the journal. -/
abbrev State.sameButJournal (t s : State) : Prop :=
  t.sameRest s ∧ t.regs = s.regs ∧ t.upkeep = s.upkeep ∧ t.slices = s.slices ∧ t.free = s.free ∧ t.hdrs = s.hdrs ∧
  t.coll = s.coll ∧ t.emitted = s.emitted

/-- All but repair and upkeep, the MRAM banks among them. -/
abbrev State.sameButUpkeep (t s : State) : Prop :=
  t.sameRest s ∧ t.regs = s.regs ∧ t.journal = s.journal ∧ t.slices = s.slices ∧ t.free = s.free ∧ t.hdrs = s.hdrs ∧
  t.coll = s.coll ∧ t.emitted = s.emitted

/-- All but the slices, page headers, collector and outputs. -/
abbrev State.sameButSlicesPages (t s : State) : Prop :=
  t.sameRest s ∧ t.journal = s.journal ∧ t.upkeep = s.upkeep ∧ t.regs = s.regs ∧ t.free = s.free

@[simp] theorem setSl_same (s : State) (p : Phys) (x : Slice) : (s.setSl p x).sameButSlices s := by repeat' constructor
@[simp] theorem onSl_same (s : State) (p : Phys) (f : Slice → Slice) : (s.onSl p f).sameButSlices s := setSl_same ..
@[simp] theorem onZ_same (s : State) (p : Phys) (f : ZoneState → ZoneState) : (s.onZ p f).sameButSlices s := setSl_same ..
@[simp] theorem onR_same (s : State) (p : Phys) (f : RegFile → RegFile) : (s.onR p f).sameButSlices s := setSl_same ..
@[simp] theorem w_same (s : State) (p : Phys) (x : Fld) (v i : Nat) : (s.w p x v i).sameButSlices s := setSl_same ..
@[simp] theorem wb_same (s : State) (p : Phys) (x : Fld) (b : Bool) (i : Nat) : (s.wb p x b i).sameButSlices s :=
  setSl_same ..
@[simp] theorem bump_same (s : State) (p : Phys) (x : Fld) (n i : Nat) : (s.bump p x n i).sameButSlices s := setSl_same ..
@[simp] theorem wWord_same' (s : State) (p : Phys) (r : Reg) (w : Word) (i : Nat) : (s.wWord p r w i).sameButSlices s :=
  setSl_same ..
@[simp] theorem pw_same (s : State) (x : Fld) (v i : Nat) : (s.pw x v i).sameButRegs s := by repeat' constructor
@[simp] theorem pbump_same (s : State) (x : Fld) (n i : Nat) : (s.pbump x n i).sameButRegs s := by repeat' constructor
@[simp] theorem onJ_same (s : State) (f : Journal → Journal) : (s.onJ f).sameButJournal s := by repeat' constructor
@[simp] theorem onUp_same (s : State) (f : Upkeep → Upkeep) : (s.onUp f).sameButUpkeep s := by repeat' constructor
@[simp] theorem wrote_same (s : State) (d : DurItem) : (s.wrote d).sameButUpkeep s := by repeat' constructor

@[simp] theorem onJ_journal (s : State) (f : Journal → Journal) : (s.onJ f).journal = f s.journal := rfl
@[simp] theorem pw_regs (s : State) (x : Fld) (v i : Nat) : (s.pw x v i).regs = s.regs.putNat x v i := rfl
@[simp] theorem pbump_regs (s : State) (x : Fld) (n i : Nat) : (s.pbump x n i).regs = s.regs.bump x i n := rfl

/-- A part of the state that every step of a fold leaves alone. -/
theorem foldl_part {α β : Type} (part : State → β) (f : State → α → State) (h : ∀ s a, part (f s a) = part s) (l : List α)
    (s : State) : part (l.foldl f s) = part s := by
  induction l generalizing s with
  | nil => rfl
  | cons a l ih => rw [List.foldl_cons, ih, h]

/-- A state without its slices, page headers, collector and outputs: what an operation of a slice leaves alone. -/
def State.still (s : State) : State := { s.quiet with slices := Vector.replicate 68 {} }

theorem sameButSlicesPages_of_still {s t : State} (h : t.still = s.still) : t.sameButSlicesPages s :=
  ⟨⟨(congrArg State.time h :), (congrArg State.cellar h :), (congrArg State.landing h :), (congrArg State.census h :),
    (congrArg State.supply h :), (congrArg State.thermal h :), (congrArg State.store h :), (congrArg State.modst h :),
    (congrArg State.link h :), (congrArg State.spi h :), (congrArg State.ports h :), (congrArg State.map h :),
    (congrArg State.zones h :), (congrArg State.latch h :)⟩,
   (congrArg State.journal h :), (congrArg State.upkeep h :), (congrArg State.regs h :), (congrArg State.free h :)⟩

theorem still_of_quiet {s t : State} (h : t.quiet = s.quiet) : t.still = s.still := by
  rw [State.still, h]
  rfl

theorem still_ite (c : Prop) [Decidable c] (a b : State) : (if c then a else b).still = if c then a.still else b.still := by
  split <;> rfl

@[simp] theorem setSl_still (s : State) (p : Phys) (x : Slice) : (s.setSl p x).still = s.still := rfl
@[simp] theorem onSl_still (s : State) (p : Phys) (f : Slice → Slice) : (s.onSl p f).still = s.still := rfl
@[simp] theorem onZ_still (s : State) (p : Phys) (f : ZoneState → ZoneState) : (s.onZ p f).still = s.still := rfl
@[simp] theorem onR_still (s : State) (p : Phys) (f : RegFile → RegFile) : (s.onR p f).still = s.still := rfl
@[simp] theorem w_still (s : State) (p : Phys) (x : Fld) (v i : Nat) : (s.w p x v i).still = s.still := rfl
@[simp] theorem wb_still (s : State) (p : Phys) (x : Fld) (b : Bool) (i : Nat) : (s.wb p x b i).still = s.still := rfl
@[simp] theorem bump_still (s : State) (p : Phys) (x : Fld) (n i : Nat) : (s.bump p x n i).still = s.still := rfl
@[simp] theorem wWord_still (s : State) (p : Phys) (r : Reg) (w : Word) (i : Nat) : (s.wWord p r w i).still = s.still := rfl
@[simp] theorem err_still (s : State) (p : Phys) (u c e : Nat) : (s.err p u c e).still = s.still := still_of_quiet (by simp)

/-! ### The end of DOZE (R485) -/

@[simp] theorem setSliceClock_still (s : State) (p : Phys) (mhz : Nat) : (setSliceClock s p mhz).still = s.still := by
  simp [setSliceClock, still_ite]

@[simp] theorem setClocks_still (s : State) : (setClocks s).still = s.still :=
  foldl_part State.still _ (fun s p => by simp [still_ite]) _ _

@[simp] theorem setClocks_same (s : State) : (setClocks s).sameButSlicesPages s := sameButSlicesPages_of_still (by simp)

/-- What a change of the power state leaves alone. -/
@[simp] theorem setPower_keeps (s : State) (st : Nat) : (setPower s st).journal = s.journal ∧ (setPower s st).regs = s.regs := by
  unfold setPower
  split
  · exact ⟨rfl, rfl⟩
  · dsimp only
    split <;> simp [porchSettings, State.onLd]

@[simp] theorem endDoze_keeps (s : State) : (endDoze s).journal = s.journal ∧ (endDoze s).regs = s.regs := by
  unfold endDoze
  split
  · simp [State.onCl]
  · exact ⟨rfl, rfl⟩

/-! ### BUSY_RETRY (R326, R328, R356) -/

theorem spiRespond_eq (s : State) (op : Nat) (body : List Byte) : spiRespond s op body = s.emit (.spi (spiFrame op body)) := rfl

/-- What BUSY_RETRY over SPI does: it answers, counts, and leaves journal and slices alone. -/
structure busyAnswered (s t : State) (source : BitVec 16) (seq : BitVec 32) (reason : Nat) : Prop where
  journal : t.journal = s.journal
  slices  : t.slices = s.slices
  out     : t.lastOut = some (.spi (spiFrame 3 (answerBytes source seq resBusy 0 reason 0 0)))
  count   : t.pg F.PCH_DSP_CNT_2_BUSY = satTo 8 (s.pg F.PCH_DSP_CNT_2_BUSY + 1)

theorem refuse_busy (s : State) (source : BitVec 16) (seq : BitVec 32) (reason : Nat) :
    busyAnswered s (refuse s .spi 0 source seq resBusy reason) source seq reason := by
  have hcnt : (s.regs.bump F.PCH_DSP_CNT_2_BUSY 0 1).nat F.PCH_DSP_CNT_2_BUSY 0 =
      satTo 8 (s.regs.nat F.PCH_DSP_CNT_2_BUSY 0 + 1) := nat_bump_same _ _ _ _ (by decide) (by decide)
  constructor <;> simp [refuse, sendAnswer, spiRespond_eq, State.lastOut, State.pg, hcnt]

/-! ### The ladder of R580 for an envelope that passes every check -/

section Ladder
variable {s : State} {x : Exec} {r : OpRow}

theorem judgeRoom_passes (hslot : (slotOf s x.source).isSome = true ∨ (freeSlotNo s).isSome = true)
    (hroom : larderRoom s x.len = true) (hbook : bookRoom s = true) (path : Path) (dest : Nat) (k : State → State) :
    judgeRoom s x path dest k = k s := by
  have hno : ¬ ((slotOf s x.source).isNone = true ∧ (freeSlotNo s).isNone = true) := by
    simp only [Option.isNone_iff_eq_none]
    rintro ⟨h1, h2⟩
    simp [h1, h2] at hslot
  simp only [judgeRoom, Bool.and_eq_true, if_neg hno, hroom, hbook, Bool.not_true, Bool.false_eq_true, if_false]

theorem judgeState_passes (hst : stateOk s r x = true) (hcon : contentOk s x = true) (hsl : slicesOk s x = true)
    (hlk : locksOk s r x = true) (hcf : conflictFree s x = true) (path : Path) (dest : Nat) (k : State → State) :
    judgeState s r x path dest k = judgeRoom s x path dest k := by
  simp [judgeState, hst, hcon, hsl, hlk, hcf]

theorem judgeBook_passes (hnew : bookEntry s x.source x.seq.toNat = none)
    (hhwm : ∀ h, hwmOf s x.source = some h → h < x.seq.toNat) (path : Path) (dest : Nat) (crc : BitVec 32)
    (k : State → State) : judgeBook s r x path dest crc k = judgeState s r x path dest k := by
  unfold judgeBook
  rw [hnew]
  dsimp only
  split
  · next h hh => rw [if_neg (Nat.not_le_of_lt (hhwm h hh))]
  · rfl

end Ladder

/-- An envelope that passes every check comes to what follows the checks (R580). -/
theorem judge_passes {s : State} {b : List Byte} {x : Exec} (h : passes s b x) (path : Path) (dest : Nat)
    (k : State → Exec → BitVec 32 → State) :
    judge s b path dest k = k s x (BitVec.ofNat 32 (leAt b (b.length - 4) 4)) := by
  obtain ⟨hcrc, ⟨hmin, hmax⟩, hx, ⟨hreplay, htake⟩, ⟨hs0, hs1, hq0⟩, ⟨r, hrow, hlen, hmask, hst, hlk⟩, ⟨hcon, hsl, hcf⟩,
    ⟨hnew, hhwm⟩, ⟨hslot, hroom, hbook⟩, -⟩ := h
  have hbody : ¬ ((b.take (b.length - 4)).length < 16 ∨ 1036 < (b.take (b.length - 4)).length) := by
    rw [List.length_take]
    omega
  have hbad : ¬ (x.source = 0 ∨ x.source = 0xFFFF ∨ x.seq = 0) := by tauto
  have hrest := (judgeBook_passes (r := r) hnew hhwm path dest (BitVec.ofNat 32 (leAt b (b.length - 4) 4))
    (fun s => k s x (BitVec.ofNat 32 (leAt b (b.length - 4) 4)))).trans
    ((judgeState_passes hst hcon hsl hlk hcf path dest _).trans (judgeRoom_passes hslot hroom hbook path dest _))
  rw [hx, carried] at hrest hrow hlen hmask hbad
  simp only [judge, judgeForm, hcrc, hreplay, htake, hbody, hbad, hrow, hlen, hmask, Bool.not_true, Bool.false_eq_true,
    if_false]
  rw [hx, carried]
  exact hrest

/-- A commit that the commits before it make late is answered BUSY_RETRY (R36, R331). -/
theorem commit_late {s : State} (h : acceptLimit s < max 8 s.journal.ahead) (fails : List ReadBack) (x : Exec)
    (path : Path) (dest : Nat) (crc : BitVec 32) :
    commit s fails x path dest crc = refuse s.freshNat.2.freshNat.2 path dest x.source x.seq resBusy 0x0044 := by
  have hlate : ∀ d slow, acceptLate s d slow = true := fun d slow => by
    have : acceptLimit s < commitEnd s d := h.trans_le (Nat.le_add_right _ d)
    simp [acceptLate, this]
  simp [commit, hlate]

/-- Settles O54, by the row of R580 at which each envelope ends. -/
theorem busyAnswers : Obligations.BusyAnswers := by
  intro s b x hruns hcrc hx
  have hexec : exec (.spiCommand b) s = .next (dispatch (endDoze s) b .spi 0) := by
    show execSpiCommand b s = _
    simp [execSpiCommand, hruns, go]
  obtain ⟨hjournal0, hregs0⟩ := endDoze_keeps s
  have busy : ∀ (d : State) (reason : Nat), d.journal = s.journal → d.regs = s.regs → d.slices = (endDoze s).slices →
      dispatch (endDoze s) b .spi 0 = refuse d .spi 0 x.source x.seq resBusy reason →
      ∃ t, exec (.spiCommand b) s = .next t ∧ t.journal = s.journal ∧ t.slices = (endDoze s).slices ∧
        t.lastOut = some (.spi (spiFrame 3 (answerBytes x.source x.seq resBusy 0 reason 0 0))) ∧
        t.pg F.PCH_DSP_CNT_2_BUSY = satTo 8 (s.pg F.PCH_DSP_CNT_2_BUSY + 1) := by
    intro d reason hj hr hs hd
    obtain ⟨hjournal, hslices, hout, hcount⟩ := refuse_busy d x.source x.seq reason
    refine ⟨_, hexec.trans (congrArg _ hd), hjournal.trans hj, hslices.trans hs, hout, ?_⟩
    rw [hcount, State.pg, State.pg, hr]
  refine ⟨fun hreplay => ?_, fun hreplay htake => ?_, fun hpass hlate => ?_⟩
  · refine busy (endDoze s) 0x0043 hjournal0 hregs0 rfl ?_
    simp [dispatch, judge, hcrc, hreplay, hx, carried]
  · refine busy (endDoze s) 0x0042 hjournal0 hregs0 rfl ?_
    simp [dispatch, judge, hcrc, hreplay, htake, hx, carried]
  · rw [← hjournal0] at hlate
    exact busy (endDoze s).freshNat.2.freshNat.2 0x0044 hjournal0 hregs0 rfl
      ((judge_passes hpass .spi 0 _).trans (commit_late hlate ..))

end Sys2Proof.Machine

namespace Sys2Proof.Machine
open Host

/-! ### An envelope that no bank holds (R330, R342; notes/assumptions/160) -/

@[simp] theorem refuse_spi_journal (s : State) (dest : Nat) (source : BitVec 16) (seq : BitVec 32) (result reason : Nat) :
    (refuse s .spi dest source seq result reason).journal = s.journal := by
  simp [refuse, sendAnswer, spiRespond_eq, apply_ite State.journal]

@[simp] theorem duplicate_spi_journal (s : State) (dest : Nat) (source : BitVec 16) (seq : BitVec 32) (e : GbEntry) :
    (duplicate s .spi dest source seq e).journal = s.journal := by
  simp [duplicate, sendAnswer, spiRespond_eq]

section Unheld
variable {s : State} {x : Exec} {dest : Nat}

/-- What the ladder of R580 refuses leaves the journal alone. -/
theorem judgeRoom_journal {k : State → State} (hk : (k s).journal = s.journal) :
    (judgeRoom s x .spi dest k).journal = s.journal := by
  unfold judgeRoom
  repeat' split
  all_goals simp [hk]

theorem judgeState_journal {r : OpRow} {k : State → State} (hk : (k s).journal = s.journal) :
    (judgeState s r x .spi dest k).journal = s.journal := by
  unfold judgeState
  dsimp only
  repeat' split
  all_goals simp [judgeRoom_journal hk]

theorem judgeBook_journal {r : OpRow} {crc : BitVec 32} {k : State → State} (hk : (k s).journal = s.journal) :
    (judgeBook s r x .spi dest crc k).journal = s.journal := by
  unfold judgeBook
  repeat' split
  all_goals simp [judgeState_journal hk]

theorem judge_journal {b : List Byte} {k : State → Exec → BitVec 32 → State} (hk : ∀ x crc, (k s x crc).journal = s.journal) :
    (judge s b .spi dest k).journal = s.journal := by
  unfold judge judgeForm
  dsimp only
  repeat' split
  any_goals simp
  exact judgeBook_journal (hk ..)

theorem dispatch_journal_of_no_bank (hbanks : s.upkeep.banks.any (fun b => b.ok) = false) (b : List Byte) :
    (dispatch s { bytes := b } .spi dest).journal = s.journal := by
  refine judge_journal fun x crc => ?_
  have hany : s.freshNat.2.freshNat.2.upkeep.banks.any (fun b => b.ok) = false := hbanks
  simp only [commit, List.foldl_nil, hany]
  split <;> simp <;> rfl

end Unheld

/-- A module in FACTORY, its replay done, with both MRAM banks out of service (R342). -/
def unbanked : State :=
  { State.reset with journal := { replay := false }, upkeep := { banks := Vector.replicate 2 { ok := false } } }

theorem unbanked_no_bank : unbanked.upkeep.banks.any (fun b => b.ok) = false := by simp [unbanked]

theorem unbanked_inTime : max 8 unbanked.journal.ahead + commitMost unbanked ≤ acceptLimit unbanked := by
  have hlimit : acceptLimit unbanked = 60 := rfl
  have hmost : commitMost unbanked = 25 := by
    have hbanks : unbanked.upkeep.banks.all (fun b => b.ok) = false := by simp [unbanked]
    simp [commitMost, hbanks, hlimit]
  rw [hlimit, hmost]
  decide

theorem unbanked_noOp : (noOp unbanked .spi 1 1 []).journal = unbanked.journal := by
  have hd : (dispatch unbanked { bytes := envelopeBytes 1 1 0x7F00 0 [] } .spi 0).journal = unbanked.journal :=
    dispatch_journal_of_no_bank unbanked_no_bank _
  have hrun : (dispatch unbanked { bytes := envelopeBytes 1 1 0x7F00 0 [] } .spi 0).runningOf unbanked.journal.next = none := by
    rw [State.runningOf, hd]
    rfl
  simp only [noOp, finalResult, hrun, hd]

/-- Refutes O38: the premises of its last clause hold while both MRAM banks are out of service, and then no NO_OPERATION is
accepted: the commit finds no bank to write (notes/assumptions/160) and the guestbook stays empty. -/
theorem not_journalWork : ¬ Obligations.JournalWork := by
  rintro ⟨-, -, -, hnop⟩
  have hruns : unbanked.porchRuns = true := rfl
  obtain ⟨t, e, ht, he, -⟩ := hnop unbanked .spi 1 1 [] hruns rfl rfl (Nat.zero_le _) rfl (by simp) (by simp) (by simp)
    (Nat.zero_le _) rfl nofun (.inr rfl) rfl rfl rfl rfl unbanked_inTime rfl
  have hexec : exec (.noOperation .spi 1 1 []) unbanked = .next (noOp unbanked .spi 1 1 []) := by
    show execNoOperation .. = _
    rw [execNoOperation, if_pos hruns, go]
  obtain rfl : noOp unbanked .spi 1 1 [] = t := Outcome.next.inj (hexec.symm.trans ht)
  rw [unbanked_noOp] at he
  exact List.not_mem_nil he

end Sys2Proof.Machine

namespace Sys2Proof.Machine
open Host

/-! ### The registers that hold images (R358)

The effect of a configuration beside its images writes measured, derived and status registers of the zone, never one that
holds an image; so what the images set still stands when the effect is complete. -/

/-- The address ranges of the slice registers that images and setpoints set (R367, R369, R372, R374). -/
def imageRanges : List (Nat × Nat) :=
  [(0x101044, 0x10104C), (0x101058, 0x101058),
   (0x101080, 0x101080), (0x101094, 0x10109C), (0x1010A0, 0x1010A0), (0x1010B4, 0x1010BC),
   (0x1010C0, 0x1010C0), (0x1010D4, 0x1010DC), (0x1010E0, 0x1010E0), (0x1010F4, 0x1010FC),
   (0x104044, 0x10404C), (0x104060, 0x10407C), (0x105044, 0x10505C), (0x106050, 0x106058), (0x106060, 0x106090),
   (0x107044, 0x10704C), (0x108044, 0x10804C), (0x108100, 0x108FFC), (0x109044, 0x109044), (0x109100, 0x1093FC),
   (0x10A048, 0x10A04C), (0x10A060, 0x10A070), (0x10B044, 0x10B050)]

/-- Whether a slice register holds an image or a setpoint. -/
def isImage (a : Nat) : Bool := imageRanges.any (fun r => decide (r.1 ≤ a) && decide (a ≤ r.2))

theorem notImage_T (n : Fin 4) : isImage (R.ZI_T_n.at n.val) = false := by revert n; decide
theorem notImage_THR (n : Fin 4) : isImage (R.ZI_THR_n.at n.val) = false := by revert n; decide
theorem notImage_TRES (n : Fin 4) : isImage (R.ZI_TRES_n.at n.val) = false := by revert n; decide
theorem notImage_TNOISE (n : Fin 4) : isImage (R.ZI_TNOISE_n.at n.val) = false := by revert n; decide
theorem notImage_ZO_OUT (j : Fin 5) : isImage (R.ZO_OUT_j.at j.val) = false := by revert j; decide
theorem notImage_ENT (n : Fin 4) : isImage (R.ZC_ENT_CFG_k.at (8 + n.val)) = false := by revert n; decide

theorem notImage_OCC {k : Nat} (hk : k < 168) : isImage (R.ZP_OCC_w.at k) = false := by
  have hat : R.ZP_OCC_w.at k = 0x107300 + 4 * k := rfl
  simp only [isImage, imageRanges, hat, List.any_cons, List.any_nil, Bool.or_false, Bool.or_eq_false_iff,
    Bool.and_eq_false_iff, decide_eq_false_iff_not]
  omega

/-! ### Effects confined to the zone of a slice -/

/-- What an effect on the zone of slice `p` leaves of the slice: its inbox, TAKEN and the registers that hold images. -/
structure ImagesKept (p : Phys) (s t : State) : Prop where
  inbox  : (t.sl p).inbox = (s.sl p).inbox
  taken  : (t.z p).taken = (s.z p).taken
  images : ∀ a, isImage a = true → rfGet (t.z p).regs a = rfGet (s.z p).regs a

theorem ImagesKept.trans {p : Phys} {s t u : State} (h : ImagesKept p s t) (k : ImagesKept p t u) : ImagesKept p s u :=
  ⟨k.inbox.trans h.inbox, k.taken.trans h.taken, fun a ha => (k.images a ha).trans (h.images a ha)⟩

/-- But for the mark that its checkpoint is due, slice `p` is as it was. -/
theorem ImagesKept.of_cr {p : Phys} {s t : State} (h : t.cr p = s.cr p) : ImagesKept p s t := by
  have hz : t.z p = s.z p := (congrArg Slice.z h :)
  exact ⟨(congrArg Slice.inbox h :), by rw [hz], fun a _ => by rw [hz]⟩

/-- An effect that also leaves the porch alone. -/
structure Confined (p : Phys) (s t : State) : Prop extends ImagesKept p s t where
  still  : t.still = s.still

namespace Confined
variable {p : Phys} {s t u : State}

theorem refl (p : Phys) (s : State) : Confined p s s := ⟨.of_cr rfl, rfl⟩

theorem trans (h : Confined p s t) (k : Confined p t u) : Confined p s u :=
  ⟨h.toImagesKept.trans k.toImagesKept, k.still.trans h.still⟩

theorem of_quiet (h : Confined p s t) (hq : u.quiet = t.quiet) : Confined p s u :=
  h.trans ⟨.of_cr (cr_of_slices (congrArg State.slices hq :) p), still_of_quiet hq⟩

theorem evt (h : Confined p s t) {q : Phys} {n b : Nat} : Confined p s (t.evt q n b) := h.of_quiet (by simp)
theorem evtIf (h : Confined p s t) {c : Bool} {q : Phys} {n b : Nat} : Confined p s (t.evtIf c q n b) := h.of_quiet (by simp)
theorem evtP (h : Confined p s t) {g b : Nat} : Confined p s (t.evtP g b) := h.of_quiet (by simp)
theorem err (h : Confined p s t) {q : Phys} {n c e : Nat} : Confined p s (t.err q n c e) := h.of_quiet (by simp)

theorem errIf (h : Confined p s t) {b : Bool} {q : Phys} {n c e : Nat} :
    Confined p s (if b then t.err q n c e else t) := by
  split
  · exact h.err
  · exact h

theorem onZ (h : Confined p s t) {f : ZoneState → ZoneState} (htaken : ∀ z, (f z).taken = z.taken)
    (hregs : ∀ z a, isImage a = true → rfGet (f z).regs a = rfGet z.regs a) : Confined p s (t.onZ p f) :=
  h.trans ⟨⟨by simp [State.onZ], by simp [htaken], fun a ha => by simp [hregs _ a ha]⟩, rfl⟩

/-- A part of the zone state beside its registers and TAKEN. -/
theorem onPart (h : Confined p s t) {f : ZoneState → ZoneState} (htaken : ∀ z, (f z).taken = z.taken := by intro; rfl)
    (hregs : ∀ z, (f z).regs = z.regs := by intro; rfl) : Confined p s (t.onZ p f) :=
  h.onZ htaken (fun z a _ => by rw [hregs])

theorem onInp (h : Confined p s t) {f : Inputs → Inputs} : Confined p s (t.onInp p f) := h.onPart
theorem onT (h : Confined p s t) {n : Fin 4} {f : TempIn → TempIn} : Confined p s (t.onT p n f) := h.onInp
theorem onOuts (h : Confined p s t) {f : Outs → Outs} : Confined p s (t.onOuts p f) := h.onPart
theorem onMt (h : Confined p s t) {f : Meter → Meter} : Confined p s (t.onMt p f) := h.onPart
theorem onSc (h : Confined p s t) {f : Sched → Sched} : Confined p s (t.onSc p f) := h.onPart
theorem onLp (h : Confined p s t) {f : Loop → Loop} : Confined p s (t.onLp p f) := h.onPart

theorem onR (h : Confined p s t) {f : RegFile → RegFile}
    (hregs : ∀ r a, isImage a = true → rfGet (f r) a = rfGet r a) : Confined p s (t.onR p f) :=
  h.onZ (fun _ => rfl) (fun z a ha => hregs z.regs a ha)

theorem wWord (h : Confined p s t) {r : Reg} {w : Word} {i : Nat} (hr : isImage (r.at i) = false) :
    Confined p s (t.wWord p r w i) :=
  h.onR fun f a ha => rfGet_put_ne _ _ _ _ (by rintro rfl; simp [hr] at ha)

theorem w (h : Confined p s t) {x : Fld} {v i : Nat} (hx : isImage (x.at i) = false) : Confined p s (t.w p x v i) :=
  h.onR fun f a ha => rfGet_put_ne _ _ _ _ (by rintro rfl; simp [hx] at ha)

theorem wb (h : Confined p s t) {x : Fld} {b : Bool} {i : Nat} (hx : isImage (x.at i) = false) :
    Confined p s (t.wb p x b i) := h.w hx

theorem bump (h : Confined p s t) {x : Fld} {n i : Nat} (hx : isImage (x.at i) = false) :
    Confined p s (t.bump p x n i) := h.w hx

theorem wbEvt (h : Confined p s t) {x : Fld} {b : Bool} {n e i : Nat} (hx : isImage (x.at i) = false) :
    Confined p s (t.wbEvt p x b n e i) := by
  unfold State.wbEvt
  split
  · exact h
  · exact (h.wb hx).evt

theorem foldl {α : Type} {f : State → α → State} (l : List α) (h : Confined p s t)
    (hf : ∀ t, ∀ a ∈ l, Confined p t (f t a)) : Confined p s (l.foldl f t) := by
  induction l generalizing t with
  | nil => exact h
  | cons a l ih =>
    exact ih (h.trans (hf t a List.mem_cons_self)) fun t b hb => hf t b (List.mem_cons_of_mem a hb)

theorem ite {c : Prop} [Decidable c] (ht : Confined p s t) (hu : Confined p s u) :
    Confined p s (if c then t else u) := by split <;> assumption

end Confined

section Inputs
variable (p : Phys) (s : State)

theorem confined_syncT (n : Fin 4) : Confined p s (s.syncT p n) :=
  (((Confined.refl p s).w rfl).w rfl).w rfl

theorem confined_showExc (n : Fin 4) : Confined p s (showExc s p n) := (Confined.refl p s).w (notImage_T n)

theorem confined_dropDew (n : Fin 4) : Confined p s (dropDew s p n) :=
  .ite (((Confined.refl p s).w rfl).wb rfl) (.refl p s)

theorem confined_startWindow (n : Fin 4) (off : Bool) : Confined p s (startWindow s p n off) := by
  refine Confined.trans ?_ (confined_showExc p _ n)
  exact .ite ((Confined.refl p s).onT.wb (notImage_T n)) (Confined.refl p s).onT

theorem confined_endOff (n : Fin 4) : Confined p s (endOff s p n) := by
  refine Confined.trans ?_ (confined_showExc p _ n)
  exact (Confined.refl p s).onT.wb (notImage_T n)

theorem confined_disableHumidity : Confined p s (disableHumidity s p) :=
  .ite (((((Confined.refl p s).w rfl).w rfl).wb rfl).wb rfl).onInp.evtIf (.refl p s)

theorem confined_retypeInput (n : Fin 4) : Confined p s (retypeInput s p n) := by
  have hregs : ∀ (r : RegFile) (a : Nat), isImage a = true → rfGet ((((r.putWord R.ZI_T_n (regReset (R.ZI_T_n.at n)) n).putWord
      R.ZI_THR_n 0x80000000#32 n).putWord R.ZI_TRES_n 0 n).putWord R.ZI_TNOISE_n 0 n) a = rfGet r a := fun r a ha => by
    have ne {b : Nat} (hb : isImage b = false) : b ≠ a := by rintro rfl; simp [hb] at ha
    simp only [RegFile.putWord]
    rw [rfGet_put_ne _ _ _ _ (ne (notImage_TNOISE n)), rfGet_put_ne _ _ _ _ (ne (notImage_TRES n)),
      rfGet_put_ne _ _ _ _ (ne (notImage_THR n)), rfGet_put_ne _ _ _ _ (ne (notImage_T n))]
  exact ((((Confined.refl p s).onT.onR hregs).trans (confined_syncT p _ n)).trans (confined_dropDew p _ n)).evtIf.evtIf

theorem confined_newInput (was : State) (n : Fin 4) : Confined p s (newInput was s p n) := by
  have retyped (c : Prop) [Decidable c] : Confined p s (if c then s else retypeInput s p n) :=
    .ite (.refl p s) (confined_retypeInput p s n)
  have diagnosed (t : State) (h : Confined p s t) (c d e : Bool) (off : Bool) : Confined p s
      (if c then (if d then t else startWindow t p n off) else if e then endOff t p n else t) :=
    .ite (.ite h (h.trans (confined_startWindow ..))) (.ite (h.trans (confined_endOff ..)) h)
  refine Confined.trans (diagnosed _ ?_ ..) (confined_showExc p _ n)
  exact .ite (retyped _) (retyped _).onT

theorem confined_formPresence : Confined p s (formPresence s p) := by
  unfold formPresence
  exact (Confined.ite (((Confined.refl p s).wb rfl).wb rfl).onPart (((Confined.refl p s).wb rfl).wb rfl)).evtIf

theorem confined_turnPrd : Confined p s (turnPrd s p) := by
  unfold turnPrd
  exact ((Confined.refl p s).wb rfl).onInp

theorem confined_buildEntries : Confined p s (buildEntries s p) :=
  .foldl _ (.refl p s) fun t n _ => (Confined.refl p t).wWord (notImage_ENT n)

theorem confined_restartFilters : Confined p s (restartFilters s p) := (Confined.refl p s).onInp

/-- All that 0x0101 does beside its images (R367). -/
theorem confined_newInputs (x : Exec) : Confined p (takeImages s p x) (newInputs s p x) := by
  have h2 : Confined p (takeImages s p x) _ :=
    (Confined.foldl (List.finRange 4) (.refl p _) fun t n _ => confined_newInput p t s n).trans (confined_restartFilters ..)
  refine (Confined.trans ?_ (confined_formPresence ..)).trans (confined_buildEntries ..)
  refine Confined.trans ?_ (confined_disableHumidity ..)
  exact .ite h2 (h2.trans (confined_turnPrd ..))

end Inputs

/-! ### Outputs, meter, heat (R173, R198, R299) -/

section Outputs
variable (p : Phys) (s : State)

theorem confined_syncHold : Confined p s (syncHold s p) := (((Confined.refl p s).w rfl).w rfl).wb rfl

theorem confined_onOut (j : Out) (f : OutSt → OutSt) : Confined p s (s.onOut p j f) := by
  have h2 : Confined p s (syncHold ((s.onOuts p (fun x => { x with o := x.o.set j.val (f (s.out p j)) j.isLt })).wWord p
      R.ZO_OUT_j (f (s.out p j)).word j) p) :=
    Confined.trans ((Confined.refl p s).onOuts.wWord (notImage_ZO_OUT j)) (confined_syncHold ..)
  exact (Confined.ite h2.evtIf.evtIf.evtIf h2.evtIf.evtIf.evtIf.evtP).evtIf

theorem confined_refreshOut (j : Out) : Confined p s (refreshOut s p j) := by
  have h := confined_onOut p s j
  exact .ite (.refl p s) (.ite (.ite ((h _).bump rfl) ((h _).bump rfl)) (h _))

theorem confined_driveSafe (j : Out) : Confined p s (driveSafe s p j) :=
  (confined_onOut p s j _).trans (confined_refreshOut ..)

theorem confined_redriveOutputs : Confined p s (redriveOutputs s p) :=
  (Confined.foldl _ (.refl p s) fun t j _ => .ite (confined_driveSafe p t j) (confined_refreshOut p t j)).trans
    (confined_syncHold ..)

theorem confined_flagInterval (b : Nat) : Confined p s (flagInterval s p b) := (Confined.refl p s).onPart

theorem confined_noteCal (x : Exec) : Confined p s (noteCal s p x) := by
  refine Confined.err (.trans ?_ (confined_flagInterval ..))
  exact ((Confined.refl p s).wb rfl).onMt

theorem confined_noteHeatCfg (x : Exec) : Confined p s (noteHeatCfg s p x) :=
  ((Confined.ite (confined_flagInterval p s _) (.refl p s)).trans (confined_flagInterval ..)).evt.err

end Outputs

/-! ### Schedule, tariff, planner (R259 to R285) -/

section Schedule
variable (p : Phys) (s : State)

theorem confined_setSchedState (v : Nat) : Confined p s (setSchedState s p v) :=
  .ite (.refl p s) ((Confined.refl p s).w rfl).evt

theorem confined_setBand (b : Option Nat) : Confined p s (setBand s p b) :=
  (((((Confined.refl p s).w rfl).w rfl).w rfl).w rfl).evtIf

theorem confined_setDay : Confined p s (setDay s p) :=
  (((((Confined.refl p s).w rfl).wb rfl).w rfl).wb rfl).evtIf

theorem confined_reevaluate : Confined p s (reevaluate s p) :=
  .ite (((((Confined.refl p s).wbEvt rfl).trans (confined_setDay ..)).trans (confined_setSchedState ..)).trans
      (confined_setBand ..))
    ((confined_setSchedState ..).trans (confined_setBand ..))

theorem confined_judgeTariff : Confined p s (judgeTariff s p) := by
  unfold judgeTariff
  exact (((((Confined.refl p s).wb rfl).wb rfl).wbEvt rfl).wbEvt rfl).onSc.errIf.errIf

theorem confined_setBin (b v : Nat) (hb : b < 672) : Confined p s (setBin s p b v) :=
  (Confined.refl p s).wWord (notImage_OCC (by omega))

theorem confined_resetBins : Confined p s (resetBins s p) :=
  .foldl _ (.refl p s) fun t b hb => confined_setBin p t b _ (List.mem_range.mp hb)

theorem confined_planTrigger : Confined p s (planTrigger s p) :=
  .ite (.ite ((Confined.refl p s).onSc.bump rfl) (Confined.refl p s).onSc) (.refl p s)

theorem confined_trustFlag (x : Fld) (b trig : Bool) (hx : isImage (x.at 0) = false) : Confined p s (trustFlag s p x b trig) :=
  .ite (((Confined.refl p s).wbEvt hx).trans (confined_planTrigger ..)) ((Confined.refl p s).wbEvt hx)

theorem confined_judgeMeters : Confined p s (judgeMeters s p) := by
  refine .foldl _ (.refl p s) fun t c _ => ?_
  dsimp only
  refine Confined.errIf (Confined.onSc (.trans (Confined.w (.refl p t) ?_) (confined_trustFlag _ _ _ _ _ ?_)))
  · cases c <;> rfl
  · cases c <;> rfl

end Schedule

end Sys2Proof.Machine

namespace Sys2Proof.Machine
open Host

/-! ### Markers (R338) -/

theorem filterMap_smPut_of_nil {α β : Type} (f : Nat × α → Option β) (m : SMap α) (k : Nat) (a : α)
    (h : m.filterMap f = []) : (smPut m k a).filterMap f = (f (k, a)).toList := by
  induction m with
  | nil => cases hf : f (k, a) <;> simp [smPut, hf]
  | cons c m ih =>
    obtain ⟨j, b⟩ := c
    have hc : f (j, b) = none := List.filterMap_eq_nil_iff.mp h _ List.mem_cons_self
    have hm : m.filterMap f = [] := by rwa [List.filterMap_cons_none hc] at h
    unfold smPut
    split
    · cases hf : f (k, a) <;> simp [hf, hm]
    · split
      · cases hf : f (k, a) <;> simp [hf, hc, hm]
      · rw [List.filterMap_cons_none hc, ih hm]

/-- What a change of the fill leaves of the journal. -/
abbrev Journal.sameEntries (k j : Journal) : Prop :=
  k.larder = j.larder ∧ k.next = j.next ∧ k.slots = j.slots ∧ k.book = j.book ∧ k.running = j.running ∧
  k.porchQ = j.porchQ ∧ k.handover = j.handover ∧ k.replay = j.replay ∧ k.opened = j.opened

@[simp] theorem askCheckpoints_still (s : State) : (askCheckpoints s).still = s.still := by
  unfold askCheckpoints
  repeat' split
  · exact foldl_part State.still _ (fun s z => by simp [still_ite]) _ _
  all_goals rfl

@[simp] theorem askCheckpoints_same (s : State) : (askCheckpoints s).sameButSlicesPages s :=
  sameButSlicesPages_of_still (by simp)

theorem journal_of_still {s t : State} (h : t.still = s.still) : t.journal = s.journal := (congrArg State.journal h :)

/-- What the fill rules of R341 leave of the journal. -/
@[simp] theorem fillRules_same (s : State) : (fillRules s).journal.sameEntries s.journal := by
  unfold fillRules Journal.sameEntries
  dsimp only
  split_ifs <;> simp

theorem onSl_ckptDue (s : State) (p q : Phys) (h : (s.sl p).ckptDue = true) :
    ((s.onSl q (fun x => { x with ckptDue := true })).sl p).ckptDue = true := by
  rw [State.onSl, sl_setSl]
  split
  · rfl
  · exact h

/-- A checkpoint that is due stays due when the larder's fill asks for others (R341). -/
theorem askCheckpoints_ckptDue (s : State) (p : Phys) (h : (s.sl p).ckptDue = true) :
    ((askCheckpoints s).sl p).ckptDue = true := by
  have hfold (c : State → Zone → Bool) (l : List Zone) : ∀ s : State, (s.sl p).ckptDue = true →
      ((l.foldl (fun (s : State) (z : Zone) =>
        if c s z then s.onSl (s.sliceOf z) (fun x => { x with ckptDue := true }) else s) s).sl p).ckptDue = true := by
    induction l with
    | nil => exact fun _ h => h
    | cons z l ih =>
      refine fun s h => ih _ ?_
      show ((if c s z then _ else s).sl p).ckptDue = true
      split
      · exact onSl_ckptDue s p _ h
      · exact h
  unfold askCheckpoints
  split
  · split
    · exact hfold (fun s z => _) _ _ h
    · exact h
  · exact h

theorem sl_of_slices {s t : State} (h : t.slices = s.slices) (p : Phys) : t.sl p = s.sl p := by rw [State.sl, h]; rfl

theorem fillRules_slices (s : State) :
    (fillRules s).slices = if 4096 ≤ s.fill then (askCheckpoints s).slices else s.slices := by
  unfold fillRules
  dsimp only
  split_ifs <;> simp_all

theorem fillRules_ckptDue (s : State) (p : Phys) (h : (s.sl p).ckptDue = true) : ((fillRules s).sl p).ckptDue = true := by
  have hs := fillRules_slices s
  split at hs
  · rw [sl_of_slices hs]
    exact askCheckpoints_ckptDue s p h
  · rwa [sl_of_slices hs]

/-! ### A command taken for the first time (R338, R343) -/

/-- A command of a host is under way and no marker of it stands yet. -/
structure Unmarked (s : State) (x : Exec) : Prop where
  open_ : ∃ r, s.runningOf x.lseq = some r ∧ r.x = x ∧ r.internal = false
  fresh : markersOf s x.lseq = []
  held  : s.journal.handover = []

theorem Unmarked.of_journal {s t : State} {x : Exec} (h : Unmarked s x) (hj : t.journal = s.journal) : Unmarked t x := by
  obtain ⟨hopen, hfresh, hheld⟩ := h
  exact ⟨by rwa [State.runningOf, hj], by rwa [markersOf, hj], by rwa [hj]⟩

theorem markersOf_of_larder {s t : State} (h : t.journal.larder = s.journal.larder) (n : Nat) :
    markersOf t n = markersOf s n := by rw [markersOf, h, markersOf]

theorem runningOf_of_running {s t : State} (h : t.journal.running = s.journal.running) (n : Nat) :
    t.runningOf n = s.runningOf n := by rw [State.runningOf, h, State.runningOf]

@[simp] theorem fillRules_markersOf (s : State) (n : Nat) : markersOf (fillRules s) n = markersOf s n :=
  markersOf_of_larder (by simp) n

@[simp] theorem fillRules_runningOf (s : State) (n : Nat) : (fillRules s).runningOf n = s.runningOf n :=
  runningOf_of_running (by simp) n

@[simp] theorem addEntry_runningOf (s : State) (i : LdItem) (n : Nat) : (addEntry s i).runningOf n = s.runningOf n :=
  runningOf_of_running (by simp [addEntry]) n

@[simp] theorem addEntry_handover (s : State) (i : LdItem) : (addEntry s i).journal.handover = s.journal.handover := by
  simp [addEntry]

/-- The markers of a head that has none, after an entry of the larder. -/
theorem markersOf_addEntry {s : State} {n : Nat} (h : markersOf s n = []) (src : BitVec 16) (q : BitVec 32) (op : BitVec 16)
    (hd z : Nat) (po f : Bool) (r re : Nat) (v : Word) :
    markersOf (addEntry s ⟨src, .mark q op hd z po f r re v⟩) n = if hd = n then [(z, po, r, re, v)] else [] := by
  have hl : (addEntry s ⟨src, .mark q op hd z po f r re v⟩).journal.larder =
    smPut s.journal.larder s.journal.next ⟨src, .mark q op hd z po f r re v⟩ := by simp [addEntry]
  rw [markersOf, hl, filterMap_smPut_of_nil _ _ _ _ h]
  dsimp only
  split <;> rfl

theorem releaseItems_sublist (s : State) (m : SMap LdItem) : (releaseItems s m).Sublist m := by
  induction m with
  | nil => exact List.Sublist.slnil
  | cons c m ih =>
    unfold releaseItems
    split
    · exact ih.cons c
    · exact List.Sublist.refl _

theorem markersOf_releaseLarder {s : State} {n : Nat} (h : markersOf s n = []) : markersOf (releaseLarder s) n = [] := by
  rw [releaseLarder, fillRules_markersOf]
  exact List.sublist_nil.mp (h ▸ (releaseItems_sublist s s.journal.larder).filterMap _)

/-- The end of an internal command leaves another command under way. -/
theorem Unmarked.endInternal {s : State} {x : Exec} (h : Unmarked s x) {r : Running} (hr : r.x.lseq ≠ x.lseq) (f : Bool) :
    Unmarked (endInternal s r f) x := by
  obtain ⟨hopen, hfresh, hheld⟩ := h
  unfold Machine.endInternal
  split
  · refine ⟨?_, markersOf_releaseLarder hfresh, ?_⟩
    · have hp : (fun a : Running => decide (a.x.lseq != r.x.lseq ∧ a.x.lseq == x.lseq)) = fun a => a.x.lseq == x.lseq := by
        funext a
        by_cases ha : a.x.lseq = x.lseq <;> simp [ha, hr.symm]
      rw [State.runningOf] at hopen
      rwa [releaseLarder, fillRules_runningOf, State.runningOf, onJ_journal, onJ_journal, List.find?_filter, hp]
    · simpa [releaseLarder] using hheld
  · exact ⟨hopen, hfresh, hheld⟩

/-- A marker of another command. -/
theorem Unmarked.markZone {s : State} {x : Exec} (h : Unmarked s x) {n : Nat} (hn : n ≠ x.lseq) (z : Zone) (r re : Nat)
    (v : Word) : Unmarked (markZone s n z r re v) x := by
  unfold Machine.markZone
  split
  · exact h
  · next r hr =>
    have hr' : r.x.lseq = n := by simpa using List.find?_some hr
    split
    · exact h
    · refine Unmarked.endInternal ?_ (hr' ▸ hn) _
      obtain ⟨hopen, hfresh, hheld⟩ := h
      exact ⟨by simpa using hopen, by simp [markersOf_addEntry hfresh, hn], by simpa using hheld⟩

/-- What the DONE marker of a zone does. -/
structure Done (s t : State) (x : Exec) (z : Zone) (v : Word) : Prop where
  marker : t.zoneMarker x.lseq z = some (resDone, 0, v)
  held   : t.journal.handover = []
  due    : ∀ p, (s.sl p).ckptDue = true → (t.sl p).ckptDue = true

theorem done_doneZone {s : State} {x : Exec} (h : Unmarked s x) (z : Zone) (v : Word) : Done s (doneZone s x z v) x z v := by
  obtain ⟨⟨r, hr, hrx, hint⟩, hfresh, hheld⟩ := h
  have hnew : marked s x.lseq z.val = false := by simp [marked, hfresh]
  have heq : ∃ f, doneZone s x z v = fillRules (addEntry s
      ⟨r.x.source, .mark r.x.seq r.x.opcode x.lseq z.val false f resDone 0 v⟩) :=
    ⟨completes s r.x z.val, by simp [doneZone, markZone, hr, hnew, endInternal, hint, hrx]⟩
  obtain ⟨f, heq⟩ := heq
  rw [heq]
  refine ⟨?_, by simpa using hheld, fun p hp => ?_⟩
  · simp [State.zoneMarker, markersOf_addEntry hfresh]
  · refine fillRules_ckptDue _ p ?_
    rwa [sl_of_slices (t := addEntry s _) (s := s) (by simp [addEntry])]

end Sys2Proof.Machine

namespace Sys2Proof.Machine
open Host

/-! ### Words put into a register file (R358) -/

theorem rfGet_putWords_of_ne (l : List (Nat × Word)) (f : RegFile) (a : Nat) (h : ∀ e ∈ l, e.1 ≠ a) :
    rfGet (putWords f l) a = rfGet f a := by
  induction l generalizing f with
  | nil => rfl
  | cons c l ih =>
    rw [putWords, List.foldl_cons, ← putWords, ih _ fun e he => h e (List.mem_cons_of_mem c he),
      rfGet_put_ne _ _ _ _ (h c List.mem_cons_self)]

/-- A word that the list alone puts at its address stands there afterwards. -/
theorem rfGet_putWords (l : List (Nat × Word)) (f : RegFile) (c : Nat × Word) (hc : c ∈ l)
    (huniq : ∀ e ∈ l, e.1 = c.1 → e = c) : rfGet (putWords f l) c.1 = c.2 := by
  induction l generalizing f with
  | nil => cases hc
  | cons d l ih =>
    rw [putWords, List.foldl_cons, ← putWords]
    by_cases hl : c ∈ l
    · exact ih _ hl fun e he => huniq e (List.mem_cons_of_mem d he)
    · have hd : c = d := (List.mem_cons.mp hc).resolve_right hl
      rw [rfGet_putWords_of_ne, hd, rfGet_put]
      rintro e he hea
      exact hl (huniq e (List.mem_cons_of_mem d he) hea ▸ he)

/-! ### Where images stand (R367 to R374) -/

theorem byte_lt (x : Exec) (o : Nat) : x.byte o < 256 := by
  unfold Exec.byte leAt
  cases x.payload.drop o with
  | nil => decide
  | cons b l => simpa [leNat] using b.isLt

theorem isImage_exception {i : Nat} (hi : i < 512) : isImage (R.SCH_EXC_m.at i) = true := by
  have hat : R.SCH_EXC_m.at i = 0x108200 + 4 * i := rfl
  refine List.any_eq_true.mpr ⟨(0x108100, 0x108FFC), by decide, ?_⟩
  rw [hat, Bool.and_eq_true, decide_eq_true_eq, decide_eq_true_eq]
  omega

/-- The opcodes whose payload is images alone (R367 to R374). -/
def imageOps : List Nat :=
  [0x0101, 0x0104, 0x0105, 0x0107, 0x0108, 0x0110, 0x0111, 0x0112, 0x0201, 0x0202, 0x0203, 0x0210, 0x0211]

theorem isImage_imagesOf {op : Nat} (hop : op ∈ imageOps) (x : Exec) : ∀ c ∈ imagesOf op x, isImage c.2 = true := by
  simp only [imageOps, List.mem_cons, List.not_mem_nil, or_false] at hop
  rcases hop with rfl | rfl | rfl | rfl | rfl | rfl | rfl | rfl | rfl | rfl | rfl | rfl | rfl
  case inr.inr.inr.inr.inr.inr.inr.inr.inr.inr.inl =>
    intro c hc
    simp only [imagesOf, imageList, List.mem_map, List.mem_zipIdx_iff_getElem?, List.getElem?_map, Option.map_eq_some_iff] at hc
    obtain ⟨⟨a, k⟩, ⟨i, hi, rfl⟩, rfl⟩ := hc
    have hi' : i < x.byte 1 := List.mem_range.mp (List.mem_of_getElem? hi)
    have h0 := byte_lt x 0
    have h1 := byte_lt x 1
    exact isImage_exception (by omega)
  all_goals exact List.all_eq_true.mp (show _ = true by rfl)

theorem isImage_imageWords {x : Exec} (hop : x.opcode.toNat ∈ imageOps) :
    ∀ c ∈ imageWords x.opcode.toNat x, isImage c.1 = true := by
  rintro c hc
  obtain ⟨d, hd, rfl⟩ := List.mem_map.mp hc
  exact isImage_imagesOf hop x d hd

/-! ### A command taken by the slice of its zone (R343 to R345) -/

/-- The state in which the effect of a command finds its slice: the command has left the inbox and TAKEN covers it. -/
def taking (s : State) (p : Phys) (x : Exec) : State :=
  raiseTaken (s.onSl p (fun y => { y with inbox := y.inbox.filter (fun i => i.lseq != x.lseq) })) p x.lseq

@[simp] theorem taking_still (s : State) (p : Phys) (x : Exec) : (taking s p x).still = s.still := rfl

theorem taking_z (s : State) (p : Phys) (x : Exec) :
    (taking s p x).z p = { s.z p with taken := max (s.z p).taken x.lseq } := by
  rw [taking, raiseTaken, z_onZ, State.z, sl_onSl]
  rfl

theorem takeList_later (s : State) (p : Phys) (z : Zone) (n : Nat) (l : List Exec) (h : ∀ y ∈ l, n < y.lseq) :
    takeList s p z (some n) l = s := by
  cases l with
  | nil => rfl
  | cons y l => simp [takeList, Nat.not_le.mpr (h y List.mem_cons_self)]

theorem deliver_nothing {s : State} (h : s.journal.handover = []) : deliver s = s := by
  simp [deliver, h, deliverList, State.onJ]
  rw [← h]

section Taken
variable {s u : State} {x : Exec} {z : Zone} {p : Phys} (h : aboutToTake s x z p)
include h

theorem aboutToTake_unmarked : Unmarked s x := ⟨h.open_, h.fresh, h.held⟩

theorem zoneCommand_eq_deliver : zoneCommand s x = deliver (takeNew (taking s p x) p z x) := by
  obtain ⟨halone, hserves, hserved, hruns, ⟨rest, hin, hlater⟩, -, hfresh, -, hplain, -⟩ := h
  have hnew : markResult s x.lseq z = none := by simp [markResult, hfresh]
  have hripe : ripe (s.slNow p) x = true := by simp [ripe, hplain]
  simp only [zoneCommand, halone, List.foldl_cons, List.foldl_nil, ← hserves, hruns, hin, List.any_cons, beq_self_eq_true,
    Bool.true_or, Bool.and_self, if_true, takeInbox, hserved, takeList, hripe, le_refl, decide_true]
  rw [takeList_later _ _ _ _ _ hlater, takeOne, hnew, taking]

/-- What a slice that takes a configuration does beside its effect. -/
theorem zoneCommand_of_configEffect (hu : configEffect (taking s p x) p x = some u)
    (hin : (u.sl p).inbox = ((taking s p x).sl p).inbox) (htaken : (u.z p).taken = ((taking s p x).z p).taken)
    (hun : Unmarked u x) :
    ∃ t, zoneCommand s x = t ∧ hasTaken s t x p ∧ t.zoneMarker x.lseq z = some (resDone, 0, 0) ∧
      (t.sl p).ckptDue = true ∧ t.z p = u.z p := by
  have heq := zoneCommand_eq_deliver h
  rw [takeNew, hu] at heq
  dsimp only at heq
  obtain ⟨hmarker, hheld, hdue⟩ := done_doneZone (z := z) (v := 0) (hun.of_journal (t := ckptSoon u p) rfl)
  rw [deliver_nothing hheld] at heq
  have hcr : (doneZone (ckptSoon u p) x z 0).cr p = u.cr p := by
    rw [doneZone_cr, ckptSoon, cr_onSl]
    exact fun _ => rfl
  have hz : (doneZone (ckptSoon u p) x z 0).z p = u.z p := (congrArg Slice.z hcr :)
  have hinbox : ((doneZone (ckptSoon u p) x z 0).sl p).inbox = (u.sl p).inbox := (congrArg Slice.inbox hcr :)
  refine ⟨_, heq, ⟨?_, ?_, fun q hq => ?_⟩, hmarker, hdue p ?_, hz⟩
  · rw [hinbox, hin]
    simp [taking, raiseTaken, State.onZ]
  · rw [hz, htaken, taking_z]
  · show (doneZone (ckptSoon u p) x z 0).cr q = s.cr q
    rw [doneZone_cr, ckptSoon_cr_ne _ _ _ hq, configEffect_cr_ne _ _ _ _ hu _ hq, taking, raiseTaken_cr_ne _ _ _ _ hq,
      State.onSl_cr_ne _ _ _ _ hq]
  · simp [ckptSoon]

end Taken

/-! ### What each configuration does (R358, R367 to R374) -/

/-- Every image opcode puts its images into the registers of the zone and then does what leaves them there. -/
theorem configEffect_images {x : Exec} (hop : x.opcode.toNat ∈ imageOps) (s : State) (p : Phys) :
    ∃ f u, configEffect s p x = some u ∧ Confined p (takeImages (s.onR p f) p x) u := by
  have hid : s.onR p id = s := by
    show s.setSl p (s.sl p) = s
    simp [State.setSl, State.sl]
  have plain {u : State} (hu : configEffect s p x = some u) (hc : Confined p (takeImages s p x) u) :
      ∃ f u, configEffect s p x = some u ∧ Confined p (takeImages (s.onR p f) p x) u := ⟨id, u, hu, by rwa [hid]⟩
  have planned {t u : State} (hc : Confined p t u) : Confined p t (planTrigger u p) := hc.trans (confined_planTrigger ..)
  have hcases := hop
  simp only [imageOps, List.mem_cons, List.not_mem_nil, or_false] at hcases
  rcases hcases with ho | ho | ho | ho | ho | ho | ho | ho | ho | ho | ho | ho | ho
  · exact plain (by simp only [configEffect, ho]) (confined_newInputs ..)
  · exact plain (by simp only [configEffect, ho]) (.refl ..)
  · exact plain (by simp only [configEffect, ho]) (.refl ..)
  · exact plain (by simp only [configEffect, ho]) (confined_redriveOutputs ..)
  · exact plain (by simp only [configEffect, ho]) (.refl ..)
  · exact plain (by simp only [configEffect, ho]; rfl) (confined_noteCal ..)
  · exact ⟨_, _, by simp only [configEffect, ho]; rfl, confined_noteCal ..⟩
  · exact plain (by simp only [configEffect, ho]; rfl) (confined_noteHeatCfg ..)
  · exact plain (by simp only [configEffect, ho]) (planned (confined_reevaluate ..))
  · refine plain (by simp only [configEffect, ho]; rfl) (planned (.trans (.ite (.refl ..) ?_) (confined_reevaluate ..)))
    exact (Confined.refl ..).onSc.trans (confined_resetBins ..)
  · exact plain (by simp only [configEffect, ho]) (planned (confined_reevaluate ..))
  · exact plain (by simp only [configEffect, ho]) (planned ((confined_judgeTariff ..).trans (confined_reevaluate ..)))
  · exact plain (by simp only [configEffect, ho]) (planned (confined_judgeMeters ..))

/-- The images of a configuration that a slice has taken. -/
theorem images_taken {s : State} {x : Exec} {z : Zone} {p : Phys} (h : aboutToTake s x z p)
    (hop : x.opcode.toNat ∈ imageOps) :
    ∃ t, zoneCommand s x = t ∧ hasTaken s t x p ∧ t.zoneMarker x.lseq z = some (resDone, 0, 0) ∧ (t.sl p).ckptDue = true ∧
      ∀ c ∈ imageWords x.opcode.toNat x, (∀ e ∈ imageWords x.opcode.toNat x, e.1 = c.1 → e = c) →
        rfGet (t.z p).regs c.1 = c.2 := by
  obtain ⟨f, u, hu, hc⟩ := configEffect_images hop (taking s p x) p
  have hstill : u.still = s.still := by simpa [takeImages] using hc.still
  obtain ⟨t, ht, htaken, hmarker, hdue, hz⟩ := zoneCommand_of_configEffect h hu
    (hc.inbox.trans (by simp [takeImages, State.onR, State.onZ]))
    (hc.taken.trans (by simp [takeImages, State.onR]))
    ((aboutToTake_unmarked h).of_journal (journal_of_still hstill))
  refine ⟨t, ht, htaken, hmarker, hdue, fun c hcm huniq => ?_⟩
  rw [hz, hc.images _ (isImage_imageWords hop c hcm), takeImages, z_onR]
  exact rfGet_putWords _ _ c hcm huniq

/-- The manual levels of 0x0106 (R370). -/
theorem manual_taken {s : State} {x : Exec} {z : Zone} {p : Phys} (h : aboutToTake s x z p) (hop : x.opcode = 0x0106) :
    ∃ t, zoneCommand s x = t ∧ hasTaken s t x p ∧ t.zoneMarker x.lseq z = some (resDone, 0, 0) ∧ (t.sl p).ckptDue = true ∧
      ∀ j : Fin 5, (t.lp p).manual[j] = x.u16 (2 * j.val) := by
  let u := (taking s p x).onLp p fun l => { l with manual := Vector.ofFn fun j : Fin 5 => x.u16 (2 * j.val) }
  have hu : configEffect (taking s p x) p x = some u := by simp [configEffect, hop, u]
  have hc : Confined p (taking s p x) u := (Confined.refl p (taking s p x)).onLp
  obtain ⟨t, ht, htaken, hmarker, hdue, hz⟩ := zoneCommand_of_configEffect h hu hc.inbox hc.taken
    ((aboutToTake_unmarked h).of_journal rfl)
  refine ⟨t, ht, htaken, hmarker, hdue, fun j => ?_⟩
  rw [State.lp, hz]
  simp [u, State.onLp]

/-! ### Setpoints (R369) -/

theorem leNat_lt (l : List Byte) : leNat l < 256 ^ l.length := by
  induction l with
  | nil => decide
  | cons b l ih =>
    have := b.isLt
    rw [leNat, List.length_cons, Nat.pow_succ]
    omega

theorem leAt_lt (l : List Byte) (o n : Nat) : leAt l o n < 256 ^ n :=
  (leNat_lt _).trans_le (Nat.pow_le_pow_right (by decide) (List.length_take_le ..))

theorem fieldOf_lt (w : Word) (hi lo : Nat) : fieldOf w hi lo < 2 ^ (hi + 1 - lo) := Nat.mod_lt _ (Nat.two_pow_pos _)

theorem keepOr_lt {keep v now n : Nat} (hv : v < n) (hnow : now < n) : keepOr keep v now < n := by
  unfold keepOr
  split <;> assumption

/-- A word made of two halves. -/
theorem fields_of_halves {a b : Nat} (ha : a < 2 ^ 16) (hb : b < 2 ^ 16) :
    fieldOf (BitVec.ofNat 32 (a * 2 ^ 16 + b)) 31 16 = a ∧ fieldOf (BitVec.ofNat 32 (a * 2 ^ 16 + b)) 15 0 = b := by
  simp only [fieldOf, BitVec.toNat_ofNat, Nat.shiftRight_eq_div_pow]
  omega

/-- A word made of a half and two bytes. -/
theorem fields_of_half_and_bytes {a b c : Nat} (ha : a < 2 ^ 16) (hb : b < 2 ^ 8) (hc : c < 2 ^ 8) :
    fieldOf (BitVec.ofNat 32 (a * 2 ^ 16 + b * 2 ^ 8 + c)) 31 16 = a ∧
      fieldOf (BitVec.ofNat 32 (a * 2 ^ 16 + b * 2 ^ 8 + c)) 7 0 = c := by
  simp only [fieldOf, BitVec.toNat_ofNat, Nat.shiftRight_eq_div_pow]
  omega

/-- The setpoint registers that 0x0103 sets, field by field. -/
theorem setpoints_put (f : RegFile) (x : Exec) :
    (putWords f (setpointWords f x)).nat F.ZL_SP_COMF_HEAT = keepOr 0x8000 (x.u16 0) (f.nat F.ZL_SP_COMF_HEAT) ∧
    (putWords f (setpointWords f x)).nat F.ZL_SP_COMF_COOL = keepOr 0x8000 (x.u16 2) (f.nat F.ZL_SP_COMF_COOL) ∧
    (putWords f (setpointWords f x)).nat F.ZL_SP_ECO_HEAT = keepOr 0x8000 (x.u16 4) (f.nat F.ZL_SP_ECO_HEAT) ∧
    (putWords f (setpointWords f x)).nat F.ZL_SP_ECO_COOL = keepOr 0x8000 (x.u16 6) (f.nat F.ZL_SP_ECO_COOL) ∧
    (putWords f (setpointWords f x)).nat F.ZL_SP_MISC_FROST = keepOr 0x8000 (x.u16 8) (f.nat F.ZL_SP_MISC_FROST) ∧
    (putWords f (setpointWords f x)).nat F.ZL_SP_MISC_PANEL_LIM =
      keepOr 0xFF (x.byte 11) (f.nat F.ZL_SP_MISC_PANEL_LIM) := by
  have half (o : Nat) (fd : Fld) (h : fd.hi + 1 - fd.lo = 16) : keepOr 0x8000 (x.u16 o) (f.nat fd) < 2 ^ 16 :=
    keepOr_lt (leAt_lt ..) (h ▸ fieldOf_lt ..)
  have byte (k o : Nat) (fd : Fld) (h : fd.hi + 1 - fd.lo = 8) : keepOr k (x.byte o) (f.nat fd) < 2 ^ 8 :=
    keepOr_lt (leAt_lt ..) (h ▸ fieldOf_lt ..)
  have word (c : Nat × Word) (hc : c ∈ setpointWords f x) : rfGet (putWords f (setpointWords f x)) c.1 = c.2 := by
    have hnodup : ((setpointWords f x).map Prod.fst).Nodup :=
      (by decide : [0x106050, 0x106054, 0x106058, 0x10605C].Nodup)
    exact rfGet_putWords _ _ c hc fun e he heq => List.inj_on_of_nodup_map hnodup he hc heq
  have hcomf := word _ (List.mem_cons_self ..)
  have heco := word _ (List.mem_cons_of_mem _ (List.mem_cons_self ..))
  have hmisc := word _ (List.mem_cons_of_mem _ (List.mem_cons_of_mem _ (List.mem_cons_self ..)))
  obtain ⟨hch, hcc⟩ := fields_of_halves (half 0 F.ZL_SP_COMF_HEAT rfl) (half 2 F.ZL_SP_COMF_COOL rfl)
  obtain ⟨heh, hec⟩ := fields_of_halves (half 4 F.ZL_SP_ECO_HEAT rfl) (half 6 F.ZL_SP_ECO_COOL rfl)
  obtain ⟨hfr, hpl⟩ := fields_of_half_and_bytes (half 8 F.ZL_SP_MISC_FROST rfl) (byte 0xFF 10 F.ZL_SP_MISC_BOOST rfl)
    (byte 0xFF 11 F.ZL_SP_MISC_PANEL_LIM rfl)
  exact ⟨(congrArg (fieldOf · 31 16) hcomf).trans hch, (congrArg (fieldOf · 15 0) hcomf).trans hcc,
    (congrArg (fieldOf · 31 16) heco).trans heh, (congrArg (fieldOf · 15 0) heco).trans hec,
    (congrArg (fieldOf · 31 16) hmisc).trans hfr, (congrArg (fieldOf · 7 0) hmisc).trans hpl⟩

/-- A tune's slice once the tune has ended with result FAULT (R241), before its marker. -/
def tuneStopped (s : State) (p : Phys) (reason : Nat) : State :=
  noteBusy s p ((((((((s.w p F.ZL_TUNE_STAT_RESULT 3).w p F.ZL_TUNE_STAT_STEP 0).w p F.ZL_TUNE_STAT_REASON reason).wb p
    F.ZL_STAT_TUNING false).onLp p (fun l => { l with tune := none })).evt p 6 EVT.ZL_TUNE).err p 6 reason 0x4C02))

theorem tuneFault_eq (s : State) (p : Phys) (n reason : Nat) : tuneFault s p n reason =
    (s.zoneOf p).elim (tuneStopped s p reason) (fun z => markZone (tuneStopped s p reason) n z resFault reason 0) := by
  unfold tuneFault
  cases s.zoneOf p <;> rfl

theorem confined_tuneStopped (s : State) (p : Phys) (reason : Nat) : Confined p s (tuneStopped s p reason) :=
  ((((((((Confined.refl p s).w rfl).w rfl).w rfl).wb rfl).onLp).evt).err).of_quiet (noteBusy_quiet ..)

/-- The end of a tune that an effect displaces (R241) leaves images, inbox and TAKEN, and another command unmarked. -/
theorem failTune_keeps {s : State} {p : Phys} {x : Exec} (h : Unmarked s x)
    (hne : ∀ u, (s.lp p).tune = some u → u.lseq ≠ x.lseq) (reason : Nat) :
    ImagesKept p s (failTune s p reason) ∧ Unmarked (failTune s p reason) x := by
  unfold failTune
  split
  · next u hu =>
    have hc := confined_tuneStopped s p reason
    have hun := h.of_journal (journal_of_still hc.still)
    rw [tuneFault_eq]
    cases s.zoneOf p with
    | none => exact ⟨hc.toImagesKept, hun⟩
    | some z => exact ⟨hc.toImagesKept.trans (.of_cr (markZone_cr ..)), hun.markZone (hne u hu) ..⟩
  · exact ⟨.of_cr rfl, h⟩

/-- The setpoints of 0x0103 (R369). -/
theorem setpoints_taken {s : State} {x : Exec} {z : Zone} {p : Phys} (h : aboutToTake s x z p) (hop : x.opcode = 0x0103) :
    ∃ t, zoneCommand s x = t ∧ hasTaken s t x p ∧ t.zoneMarker x.lseq z = some (resDone, 0, 0) ∧ (t.sl p).ckptDue = true ∧
      ∀ fd : Fld, isImage (fd.at 0) = true →
        t.g p fd = (putWords (s.z p).regs (setpointWords (s.z p).regs x)).nat fd := by
  obtain ⟨v, hv⟩ : ∃ v, v = (taking s p x).onR p (fun f => putWords f (setpointWords f x)) := ⟨_, rfl⟩
  have hvz : v.z p = { s.z p with
      taken := max (s.z p).taken x.lseq, regs := putWords (s.z p).regs (setpointWords (s.z p).regs x) } := by
    rw [hv, State.onR, z_onZ, taking_z]
  have hvin : (v.sl p).inbox = ((taking s p x).sl p).inbox := by simp [hv, State.onR, State.onZ]
  have hvjournal : v.journal = s.journal := by rw [hv]; rfl
  obtain ⟨hkept, hun⟩ := failTune_keeps ((aboutToTake_unmarked h).of_journal hvjournal)
    (fun u hu => h.notTune u (by rwa [State.lp, hvz] at hu)) 6
  have hc := confined_planTrigger p (failTune v p 6)
  have hall := hkept.trans hc.toImagesKept
  have hu : configEffect (taking s p x) p x = some (planTrigger (failTune v p 6) p) := by simp [configEffect, hop, hv]
  obtain ⟨t, ht, htaken, hmarker, hdue, hz⟩ := zoneCommand_of_configEffect h hu (hall.inbox.trans hvin)
    (hall.taken.trans (by rw [hvz, taking_z])) (hun.of_journal (journal_of_still hc.still))
  refine ⟨t, ht, htaken, hmarker, hdue, fun fd hfd => ?_⟩
  rw [State.g, hz, RegFile.nat, hall.images _ hfd, hvz, RegFile.nat]

/-- Settles O25, from the effect of each configuration on the registers of its slice. -/
theorem configurationOpcodes : Obligations.ConfigurationOpcodes := by
  intro s x z p h
  refine ⟨fun i op hi hop => ?_, fun hop => ?_, fun hop => ?_⟩
  · have hexec : exec i s = .next (zoneCommand s x) ∧ x.opcode.toNat ∈ imageOps := by
      subst hop
      simp only [List.mem_cons, Prod.mk.injEq, List.not_mem_nil, or_false] at hi
      rcases hi with ⟨rfl, ho⟩ | ⟨rfl, ho⟩ | ⟨rfl, ho⟩ | ⟨rfl, ho⟩ | ⟨rfl, ho⟩ | ⟨rfl, ho⟩ | ⟨rfl, ho⟩ | ⟨rfl, ho⟩ |
        ⟨rfl, ho⟩ | ⟨rfl, ho⟩ | ⟨rfl, ho⟩ | ⟨rfl, ho⟩ | ⟨rfl, ho⟩ <;> exact ⟨rfl, by rw [ho]; decide⟩
    obtain ⟨hexec, himage⟩ := hexec
    obtain ⟨t, rfl, hrest⟩ := images_taken h himage
    exact ⟨_, hexec, hrest⟩
  · obtain ⟨t, rfl, htaken, hmarker, hdue, hread⟩ := setpoints_taken h hop
    obtain ⟨hch, hcc, heh, hec, hfr, hpl⟩ := setpoints_put (s.z p).regs x
    refine ⟨_, rfl, htaken, hmarker, hdue, fun hk => ?_, fun hk => ?_, fun hk => ?_, fun hk => ?_, fun hk => ?_,
      fun hk => ?_, fun hk => ?_⟩
    · rw [hread _ (by decide), hch, keepOr, if_neg hk]
    · rw [hread _ (by decide), hch, keepOr, if_pos hk]
      rfl
    · rw [hread _ (by decide), hcc, keepOr, if_neg hk]
    · rw [hread _ (by decide), heh, keepOr, if_neg hk]
    · rw [hread _ (by decide), hec, keepOr, if_neg hk]
    · rw [hread _ (by decide), hfr, keepOr, if_neg hk]
    · rw [hread _ (by decide), hpl, keepOr, if_neg hk]
  · obtain ⟨t, rfl, hrest⟩ := manual_taken h hop
    exact ⟨_, rfl, hrest⟩

end Sys2Proof.Machine

namespace Sys2Proof.Machine
open Host

/-! ### What pages and collector hear (R61, R77)

An operation may add interrupt bits and error entries and takes none away. -/

/-- Interrupt bits, entries of the collector's buffer and lost arrivals only become more; the log stays. -/
structure Grows (s t : State) : Prop where
  isr  : ∀ page bit, s.isrBit page bit = true → t.isrBit page bit = true
  buf  : ∀ x ∈ s.coll.buf, x ∈ t.coll.buf
  next : s.coll.next ≤ t.coll.next
  lost : s.coll.lost ≤ t.coll.lost
  log  : t.coll.log = s.coll.log

theorem Grows.refl (s : State) : Grows s s := ⟨fun _ _ h => h, fun _ h => h, le_rfl, le_rfl, rfl⟩

theorem Grows.trans {s t u : State} (h : Grows s t) (k : Grows t u) : Grows s u :=
  ⟨fun g b hb => k.isr g b (h.isr g b hb), fun x hx => k.buf x (h.buf x hx), h.next.trans k.next, h.lost.trans k.lost,
    k.log.trans h.log⟩

theorem Grows.silent {s t u : State} (h : Grows s t) (hh : u.hdrs = t.hdrs) (hc : u.coll = t.coll) : Grows s u := by
  refine h.trans ⟨fun g b hb => ?_, ?_, ?_, ?_, ?_⟩
  · rwa [State.isrBit, State.hdr, hh]
  all_goals simp [hc]

theorem hdr_setHdr_ite (s : State) (g g' : Nat) (h : Hdr) : (s.setHdr g h).hdr g' = if g = g' then h else s.hdr g' := by
  split
  · next hg => rw [← hg, hdr_setHdr]
  · next hg => rw [hdr_setHdr_ne _ _ _ _ hg]

theorem hdr_repulse (b : State) (h : Hdr) (n : Nat) (l : Fin 2) (s : State) (g : Nat) : (repulse b h n l s).hdr g = s.hdr g := by
  unfold repulse
  split <;> rfl

theorem coll_repulse (b : State) (h : Hdr) (n : Nat) (l : Fin 2) (s : State) : (repulse b h n l s).coll = s.coll := by
  unfold repulse
  split <;> rfl

/-- The header of a page after interrupt bits of a page are set. -/
theorem isrBit_setIsrFrom (b s : State) (g n g' i : Nat) :
    (setIsrFrom b s g n).isrBit g' i = (s.isrBit g' i || (decide (g = g') && (BitVec.ofNat 32 n).getLsbD i)) := by
  simp only [setIsrFrom, State.isrBit, hdr_repulse, hdr_setHdr_ite]
  by_cases hg : g = g' <;> simp [hg]

theorem grows_setIsrFrom (b s : State) (g n : Nat) : Grows s (setIsrFrom b s g n) :=
  ⟨fun g' i h => by rw [isrBit_setIsrFrom, h, Bool.true_or],
    by simp [setIsrFrom, coll_repulse, State.setHdr], by simp [setIsrFrom, coll_repulse, State.setHdr],
    by simp [setIsrFrom, coll_repulse, State.setHdr], by simp [setIsrFrom, coll_repulse, State.setHdr]⟩

theorem grows_evtP (s : State) (g b : Nat) : Grows s (s.evtP g b) := grows_setIsrFrom ..
theorem grows_evt (s : State) (p : Phys) (u b : Nat) : Grows s (s.evt p u b) := grows_setIsrFrom ..

theorem coll_setIsrFrom (b s : State) (g n : Nat) : (setIsrFrom b s g n).coll = s.coll := by
  simp [setIsrFrom, coll_repulse, State.setHdr]

theorem coll_noteSum (b s : State) : (noteSum b s).coll = s.coll := by
  unfold noteSum
  split
  · rfl
  · exact coll_setIsrFrom ..

theorem grows_noteSum (b s : State) : Grows s (noteSum b s) := by
  unfold noteSum
  split
  · exact .refl s
  · exact grows_evtP ..

theorem getLsbD_two_pow_self {n b : Nat} (hb : b < n) : (BitVec.ofNat n (2 ^ b)).getLsbD b = true := by
  rw [BitVec.getLsbD_ofNat, Nat.testBit_two_pow_self, Bool.and_true, decide_eq_true hb]

/-- The interrupt bit that an event sets. -/
theorem isrBit_evtP (s : State) (g : Nat) {b : Nat} (hb : b < 32) : (s.evtP g b).isrBit g b = true := by
  have hbit := getLsbD_two_pow_self hb
  rw [State.evtP, State.setIsr, isrBit_setIsrFrom, hbit]
  simp

theorem arrive_isr (h : Hdr) (e : Word) : (arrive h e).1.isr = h.isr := by
  unfold arrive
  dsimp only
  split_ifs <;> rfl

theorem grows_log (s : State) (g : Nat) (e : Word) : Grows s (s.log g e) := by
  unfold State.log
  split
  · exact ⟨fun _ _ h => h, fun x hx => List.mem_append_left _ hx, Nat.le_succ _, le_rfl, rfl⟩
  · exact ⟨fun _ _ h => h, fun _ h => h, le_rfl, Nat.le_succ _, rfl⟩

/-- An entry that arrives is told (R77, R513). -/
theorem told_log (s : State) (g : Nat) (e : Word) : told s (s.log g e) g e := by
  unfold State.log
  split
  · exact .inl ⟨_, List.mem_append_right _ (List.mem_singleton_self _), rfl, rfl, le_rfl⟩
  · exact .inr (Nat.lt_succ_self _)

/-- A post up to its entry in the collector. -/
theorem post_eq_log (s : State) (g : Nat) (e : Word) : ∃ t, s.post g e = t.log g e ∧ Grows s t ∧ t.coll = s.coll := by
  have ha : Grows s (s.setHdr g (arrive (s.hdr g) e).1) := by
    refine ⟨fun g' b h => ?_, fun _ h => h, le_rfl, le_rfl, rfl⟩
    rw [State.isrBit, hdr_setHdr_ite]
    split
    · next hg => rwa [arrive_isr, hg]
    · exact h
  refine ⟨_, rfl, .trans ?_ (grows_noteSum ..), (coll_noteSum ..).trans ?_⟩
  · split
    · exact ha
    · exact ha.trans (grows_setIsrFrom ..)
  · split
    · rfl
    · exact coll_setIsrFrom ..

theorem grows_post (s : State) (g : Nat) (e : Word) : Grows s (s.post g e) := by
  obtain ⟨t, ht, hg, -⟩ := post_eq_log s g e
  exact ht ▸ hg.trans (grows_log ..)

theorem grows_errP (s : State) (g c e : Nat) : Grows s (s.errP g c e) := grows_post ..
theorem grows_err (s : State) (p : Phys) (u c e : Nat) : Grows s (s.err p u c e) := grows_post ..

theorem told.of_grows {s t u v : State} {g : Nat} {e : Word} (hst : Grows s t) (h : told t u g e) (huv : Grows u v) :
    told s v g e := by
  rcases h with ⟨x, hx, he, hg, hn⟩ | hl
  · exact .inl ⟨x, huv.buf x hx, he, hg, hst.next.trans hn⟩
  · exact .inr (hst.lost.trans_lt (hl.trans_le huv.lost))

/-- An error entry told between a state before it and one after it. -/
theorem toldCode_errP {s t u : State} {g c e : Nat} (hst : Grows s t) (htu : Grows (t.errP g c e) u) : toldCode s u g c e := by
  obtain ⟨v, hv, hg, -⟩ := post_eq_log t g (entryOf c e)
  have hlog : told v (t.errP g c e) g (entryOf c e) := by
    rw [State.errP, hv]
    exact told_log ..
  exact told.of_grows (hst.trans hg) hlog htu

/-! ### Notes on a closing interval (R167, R276, R278)

What a closed interval leaves on the meter and planner pages of its slice touches neither the open interval nor the count of
its cycles. -/

/-- The slice `p` keeps its open interval and the count of its pairs; porch and other slices stay. -/
structure Booked (p : Phys) (s t : State) : Prop where
  still  : t.still = s.still
  grows  : Grows s t
  runs   : (t.sl p).running = (s.sl p).running
  ival   : (t.z p).ival = (s.z p).ival
  pairs  : (t.mt p).pairs = (s.mt p).pairs
  others : ∀ q, q ≠ p → t.cr q = s.cr q

namespace Booked
variable {p : Phys} {s t u : State}

theorem refl (p : Phys) (s : State) : Booked p s s := ⟨rfl, .refl s, rfl, rfl, rfl, fun _ _ => rfl⟩

theorem trans (h : Booked p s t) (k : Booked p t u) : Booked p s u :=
  ⟨k.still.trans h.still, h.grows.trans k.grows, k.runs.trans h.runs, k.ival.trans h.ival, k.pairs.trans h.pairs,
    fun q hq => (k.others q hq).trans (h.others q hq)⟩

theorem loud (h : Booked p s t) (hq : u.quiet = t.quiet) (hg : Grows t u) : Booked p s u := by
  have hs : u.slices = t.slices := (congrArg State.slices hq :)
  refine h.trans ⟨still_of_quiet hq, hg, by rw [sl_of_slices hs], ?_, ?_, fun q _ => cr_of_slices hs q⟩
  · rw [State.z, sl_of_slices hs, State.z]
  · rw [State.mt, State.z, sl_of_slices hs, State.mt, State.z]

theorem evt (h : Booked p s t) {q : Phys} {n b : Nat} : Booked p s (t.evt q n b) := h.loud (by simp) (grows_evt ..)
theorem err (h : Booked p s t) {q : Phys} {n c e : Nat} : Booked p s (t.err q n c e) := h.loud (by simp) (grows_err ..)

theorem errIf (h : Booked p s t) {b : Bool} {q : Phys} {n c e : Nat} :
    Booked p s (if b then t.err q n c e else t) := by
  split
  · exact h.err
  · exact h

theorem onZ (h : Booked p s t) {f : ZoneState → ZoneState} (hival : ∀ z, (f z).ival = z.ival := by intro; rfl)
    (hpairs : ∀ z, (f z).meter.pairs = z.meter.pairs := by intro; rfl) : Booked p s (t.onZ p f) :=
  h.trans ⟨rfl, (Grows.refl t).silent rfl rfl, by simp [State.onZ], by rw [z_onZ, hival], by rw [State.mt, z_onZ, hpairs]; rfl,
    fun q hq => State.onZ_cr_ne _ _ _ _ hq⟩

theorem onMt (h : Booked p s t) {f : Meter → Meter} (hpairs : ∀ m, (f m).pairs = m.pairs := by intro; rfl) :
    Booked p s (t.onMt p f) := h.onZ (fun _ => rfl) (fun z => hpairs z.meter)
theorem onSc (h : Booked p s t) {f : Sched → Sched} : Booked p s (t.onSc p f) := h.onZ
theorem onR (h : Booked p s t) {f : RegFile → RegFile} : Booked p s (t.onR p f) := h.onZ
theorem w (h : Booked p s t) {x : Fld} {v i : Nat} : Booked p s (t.w p x v i) := h.onR
theorem wb (h : Booked p s t) {x : Fld} {b : Bool} {i : Nat} : Booked p s (t.wb p x b i) := h.onR
theorem bump (h : Booked p s t) {x : Fld} {n i : Nat} : Booked p s (t.bump p x n i) := h.onR
theorem wWord (h : Booked p s t) {r : Reg} {w : Word} {i : Nat} : Booked p s (t.wWord p r w i) := h.onR

theorem ite {c : Prop} [Decidable c] (ht : Booked p s t) (hu : Booked p s u) : Booked p s (if c then t else u) := by
  split <;> assumption

theorem foldl {α : Type} {f : State → α → State} (l : List α) (h : Booked p s t)
    (hf : ∀ t a, Booked p t (f t a)) : Booked p s (l.foldl f t) := by
  induction l generalizing t with
  | nil => exact h
  | cons a l ih => exact ih (h.trans (hf t a))

end Booked

section Notes
variable (s : State) (p : Phys)

theorem booked_wbEvt (x : Fld) (b : Bool) (n e i : Nat) : Booked p s (s.wbEvt p x b n e i) :=
  .ite (.refl p s) (Booked.refl p s).wb.evt

theorem booked_planTrigger : Booked p s (planTrigger s p) :=
  .ite (.ite (Booked.refl p s).onSc.bump (Booked.refl p s).onSc) (.refl p s)

theorem booked_trustFlag (x : Fld) (b trig : Bool) : Booked p s (trustFlag s p x b trig) :=
  .ite ((booked_wbEvt ..).trans (booked_planTrigger ..)) (booked_wbEvt ..)

theorem booked_judgeMeters : Booked p s (judgeMeters s p) := by
  refine .foldl _ (.refl p s) fun t c => ?_
  exact ((Booked.refl p t).w.trans (booked_trustFlag ..)).onSc.errIf

theorem booked_learnPower (c : Closing) (fl : BitVec 16) (v : Vector Nat 7) : Booked p s (learnPower s p c fl v) :=
  .ite (.refl p s) ((Booked.refl p s).onSc.trans (booked_judgeMeters ..))

theorem booked_priceInterval (c : Closing) (fl : BitVec 16) (v : Vector Nat 7) : Booked p s (priceInterval s p c fl v) :=
  .ite (Booked.refl p s).bump (.ite (Booked.refl p s).bump.onSc.bump (Booked.refl p s).bump.onSc)

theorem booked_showSynth : Booked p s (showSynth s p) := (Booked.refl p s).w

theorem booked_showDemand (c : Closing) (imp exp : Nat) : Booked p s (showDemand s p c imp exp) := by
  refine .ite (Booked.onR (Booked.wWord ?_)).evt ?_
  all_goals exact (Booked.refl p s).wWord.w.w.trans (booked_showSynth ..)

/-! ### The meter cut at a boundary (R38) -/

theorem booked_fillShare (older : Option Nat) (dt pw qw sw : Rat) : Booked p s (fillShare s p older dt pw qw sw) := by
  unfold fillShare
  refine (Booked.refl p s).onMt fun m => ?_
  split
  · rfl
  · split <;> rfl

theorem booked_noteFill (dt : Rat) : Booked p s (noteFill s p dt) := (booked_showSynth s p).err

theorem booked_fillUpTo (n : Nat) : Booked p s (fillUpTo s p n) := by
  unfold fillUpTo
  split
  · exact .refl p s
  · exact (booked_fillShare s p ..).onMt.trans (booked_noteFill ..)

theorem booked_cutMeter (n : Nat) : Booked p s (cutMeter s p n).1 := by
  unfold cutMeter
  dsimp only
  split
  · exact booked_fillUpTo s p n
  · dsimp only
    exact (booked_fillUpTo s p n).onMt

end Notes

end Sys2Proof.Machine

namespace Sys2Proof.Machine
open Host

/-! ### The record store (R204 to R206) -/

@[simp] theorem onRs_store (s : State) (f : RecStore → RecStore) : (s.onRs f).store = f s.store := rfl
@[simp] theorem onRs_slices (s : State) (f : RecStore → RecStore) : (s.onRs f).slices = s.slices := rfl

/-- What an operation of the record store leaves alone. -/
structure StoreOnly (s t : State) : Prop where
  slices : t.slices = s.slices
  map    : t.map = s.map
  grows  : Grows s t

namespace StoreOnly
variable {s t u : State}

theorem refl (s : State) : StoreOnly s s := ⟨rfl, rfl, .refl s⟩

theorem trans (h : StoreOnly s t) (k : StoreOnly t u) : StoreOnly s u :=
  ⟨k.slices.trans h.slices, k.map.trans h.map, h.grows.trans k.grows⟩

theorem onRs (h : StoreOnly s t) {f : RecStore → RecStore} : StoreOnly s (t.onRs f) :=
  h.trans ⟨rfl, rfl, (Grows.refl t).silent rfl rfl⟩

theorem pbump (h : StoreOnly s t) {x : Fld} {n i : Nat} : StoreOnly s (t.pbump x n i) :=
  h.trans ⟨rfl, rfl, (Grows.refl t).silent rfl rfl⟩

theorem wrote (h : StoreOnly s t) {d : DurItem} : StoreOnly s (t.wrote d) :=
  h.trans ⟨by simp, by simp, (Grows.refl t).silent (by simp) (by simp)⟩

theorem evtP (h : StoreOnly s t) {g b : Nat} : StoreOnly s (t.evtP g b) :=
  h.trans ⟨by simp, by simp, grows_evtP ..⟩

theorem errP (h : StoreOnly s t) {g c e : Nat} : StoreOnly s (t.errP g c e) :=
  h.trans ⟨by simp, by simp, grows_errP ..⟩

theorem foldl {α : Type} {f : State → α → State} (l : List α) (h : StoreOnly s t)
    (hf : ∀ t a, StoreOnly t (f t a)) : StoreOnly s (l.foldl f t) := by
  induction l generalizing t with
  | nil => exact h
  | cons a l ih => exact ih (h.trans (hf t a))

theorem sl (h : StoreOnly s t) (p : Phys) : t.sl p = s.sl p := sl_of_slices h.slices p
theorem z (h : StoreOnly s t) (p : Phys) : t.z p = s.z p := by rw [State.z, h.sl, State.z]
theorem cr (h : StoreOnly s t) (p : Phys) : t.cr p = s.cr p := cr_of_slices h.slices p
theorem sliceOf (h : StoreOnly s t) (z : Zone) : t.sliceOf z = s.sliceOf z := by rw [State.sliceOf, h.map, State.sliceOf]

end StoreOnly

/-- The store's warning changes nothing else of the store. -/
theorem storeWarn_spec (s : State) : StoreOnly s (storeWarn s) ∧ ∃ w, (storeWarn s).store = { s.store with warned := w } := by
  unfold storeWarn
  dsimp only
  split_ifs
  · exact ⟨(StoreOnly.refl s).onRs.evtP.errP, true, by simp⟩
  · exact ⟨(StoreOnly.refl s).onRs.evtP, false, by simp⟩
  · exact ⟨.refl s, s.store.warned, rfl⟩

/-- A repair rewrites copies of records, no record. -/
theorem repairRecords_spec (s : State) (a b : Nat) :
    StoreOnly s (repairRecords s a b) ∧ (repairRecords s a b).store = s.store := by
  have hstep (s : State) (n : Nat) : StoreOnly s (repairRecord s n) ∧ (repairRecord s n).store = s.store := by
    unfold repairRecord
    split
    · exact ⟨(StoreOnly.refl s).wrote.pbump.errP, by simp⟩
    · exact ⟨.refl s, rfl⟩
  constructor
  · refine .foldl _ (.refl s) fun t r => ?_
    split
    · exact (hstep t r.seq).1
    · exact .refl t
  · refine foldl_part State.store _ (fun t r => ?_) _ _
    split
    · exact (hstep t r.seq).2
    · rfl

/-- The records of a chain with the sequence numbers after `last` (R203, R204). -/
def chainRecs (last : Nat) (z : Zone) (iv : Interval) (len flags synth : Nat) (q : Vector Nat 7) : List Rec :=
  (List.range (chainLength q)).map fun k => { seq := last + 1 + k, words := recWords z iv len flags synth q k }

/-- A chain written (R204): its records are appended and RS_NEW is told. -/
theorem writeChain_spec (s : State) (z : Zone) (iv : Interval) (len flags synth : Nat) (q : Vector Nat 7) :
    StoreOnly s (writeChain s z iv len flags synth q) ∧
    (writeChain s z iv len flags synth q).isrBit 4 EVT.RS_NEW = true ∧
    ∃ w, (writeChain s z iv len flags synth q).store = { s.store with
      recs := s.store.recs ++ chainRecs s.store.lastSeq z iv len flags synth q,
      lastSeq := s.store.lastSeq + chainLength q, warned := w } := by
  let s1 := s.onRs fun x => { x with
    recs := x.recs ++ chainRecs x.lastSeq z iv len flags synth q, lastSeq := x.lastSeq + chainLength q }
  let s2 := (List.range (chainLength q)).foldl
    (fun (s : State) k => s.wrote (.record (s1.store.lastSeq - chainLength q + 1 + k))) s1
  let s3 := if 1 < chainLength q then s2.pbump F.PCH_RS_CNT_CHAINS else s2
  have heq : writeChain s z iv len flags synth q = storeWarn (s3.evtP 4 EVT.RS_NEW) := rfl
  have h2 : StoreOnly s s2 := .foldl _ (StoreOnly.refl s).onRs fun t k => (StoreOnly.refl t).wrote
  have hs2 : s2.store = s1.store := foldl_part State.store _ (fun _ _ => by simp) _ _
  have h3 : StoreOnly s s3 ∧ s3.store = s1.store := by
    show StoreOnly s (if _ then _ else _) ∧ (if _ then _ else _ : State).store = _
    split
    · exact ⟨h2.pbump, by simpa using hs2⟩
    · exact ⟨h2, hs2⟩
  obtain ⟨h3, hs3⟩ := h3
  obtain ⟨hw, w, hwarn⟩ := storeWarn_spec (s3.evtP 4 EVT.RS_NEW)
  rw [heq]
  refine ⟨h3.evtP.trans hw, hw.grows.isr _ _ (isrBit_evtP _ _ (by decide)), w, ?_⟩
  rw [hwarn, show (s3.evtP 4 EVT.RS_NEW).store = s3.store by simp, hs3]
  rfl

end Sys2Proof.Machine

namespace Sys2Proof.Machine
open Host

/-! ### An interval that closes (R38, R200) -/

theorem lenAt_of_still {s t : State} (h : t.still = s.still) (b : Nat) : lenAt t b = lenAt s b := by
  obtain ⟨⟨-, -, -, -, -, -, hstore, -⟩, -, -, hregs, -⟩ := sameButSlicesPages_of_still h
  rw [lenAt, State.pg, State.pg, hstore, hregs, lenAt, State.pg, State.pg]

theorem booked_cutAtBound (s : State) (p : Phys) : Booked p s (cutAtBound s p).1 := booked_cutMeter ..

section Closing
variable (s : State) (p : Phys) (z : Zone) (len next : Nat) (flags : List Nat)

/-- What a slice passes to the store when its interval closes. -/
theorem closingOf_spec :
    (closingOf s p z len next flags).zone = z ∧
    (closingOf s p z len next flags).iv = (s.z p).ival ∧
    (closingOf s p z len next flags).nxt.opened = true ∧
    (closingOf s p z len next flags).nxt.no = (s.z p).ival.no + 1 ∧
    (closingOf s p z len next flags).nxt.start = next ∧
    (closingOf s p z len next flags).nxt.bound = next + lenAt s next ∧
    (closingOf s p z len next flags).elec.isSome = !(cutAtBound s p).2 := by
  have hcut := booked_cutAtBound s p
  refine ⟨rfl, hcut.ival, rfl, congrArg (·.no + 1) hcut.ival, rfl, congrArg (next + ·) (lenAt_of_still hcut.still _), ?_⟩
  show (if (cutAtBound s p).2 then none else some _ : Option (Vector Acc 7)).isSome = _
  cases (cutAtBound s p).2 <;> rfl

/-- The slice once its interval has closed and before the store takes it. -/
def closedSlice (c : Closing) : State := freshNotes ((cutAtBound s p).1.onZ p (fun x => { x with ival := c.nxt })) p

theorem closeIval_eq : closeIval s p z len next flags =
    (closedSlice s p (closingOf s p z len next flags)).onRs
      (fun r => { r with wait := r.wait ++ [closingOf s p z len next flags] }) := by
  rw [closeIval, closedSlice]

theorem closedSlice_still (c : Closing) : (closedSlice s p c).still = s.still := by
  rw [← (booked_cutAtBound s p).still]
  simp [closedSlice, freshNotes, State.onSc, State.onMt]

theorem closedSlice_spec (c : Closing) : Grows s (closedSlice s p c) ∧
    ((closedSlice s p c).sl p).running = (s.sl p).running ∧ ((closedSlice s p c).z p).ival = c.nxt ∧
    ((closedSlice s p c).mt p).pairs = 0 ∧ ∀ q, q ≠ p → (closedSlice s p c).cr q = s.cr q := by
  obtain ⟨hstill, hgrows, hruns, -, -, hothers⟩ := booked_cutAtBound s p
  unfold closedSlice
  generalize (cutAtBound s p).1 = a at *
  refine ⟨hgrows.silent ?_ ?_, ?_, ?_, ?_, fun q hq => ?_⟩
  · simp [freshNotes, State.onSc, State.onMt]
  · simp [freshNotes, State.onSc, State.onMt]
  · rw [← hruns]
    simp [freshNotes, State.wb, State.onR, State.onSc, State.onMt, State.onZ]
  · simp [freshNotes, State.wb, State.onR, State.onSc, State.onMt]
  · simp [freshNotes, State.wb, State.onR, State.onSc, State.mt, State.onMt]
  · rw [← hothers q hq]
    simp [freshNotes, State.onSc, State.onMt, hq]

end Closing

theorem fits_of_store {s t : State} (hlast : t.store.lastSeq = s.store.lastSeq) (hacked : t.store.acked = s.store.acked)
    (q : Vector Nat 7) : fits t q = fits s q := by
  rw [fits, RecStore.fill, hlast, hacked, fits, RecStore.fill]

theorem store_of_still {s t : State} (h : t.still = s.still) : t.store = s.store := (congrArg State.store h :)

section OnOpen
variable {s : State} {z : Zone} {p : Phys} (hp : s.sliceOf z = p) (no : Nat) (f : Interval → Interval)

theorem onOpen_still : (onOpen s z no f).still = s.still := by rw [onOpen, onZ_still]

theorem onOpen_grows : Grows s (onOpen s z no f) := by
  rw [onOpen]
  exact (Grows.refl s).silent (by simp) (by simp)

include hp

/-- The open interval of a zone changed where it follows interval number `no`. -/
theorem onOpen_z (hno : (s.z p).ival.no = no + 1) :
    (onOpen s z no f).z p = { s.z p with ival := f (s.z p).ival } := by
  rw [onOpen, hp, z_onZ, if_pos hno]

theorem onOpen_cr (q : Phys) (hq : q ≠ p) : (onOpen s z no f).cr q = s.cr q := by
  rw [onOpen, hp, State.onZ_cr_ne _ _ _ _ hq]

end OnOpen

/-- The notes on a closing that is written (R168, R276, R278). -/
def noted (s : State) (p : Phys) (c : Closing) (v : Vector Nat 7) : State :=
  priceInterval (learnPower (showDemand s p c v[0] v[1]) p c (closeFlags c) v) p c (closeFlags c) v

theorem booked_noted (s : State) (p : Phys) (c : Closing) (v : Vector Nat 7) : Booked p s (noted s p c v) :=
  ((booked_showDemand ..).trans (booked_learnPower ..)).trans (booked_priceInterval ..)

/-- The store once a closing is written: what the closing leaves behind, nothing of its zone merged. -/
def leftBehind (s : State) (c : Closing) (r : RecStore) : RecStore := { r with
  merged := r.merged &&& ~~~(BitVec.ofNat 64 (2 ^ c.zone.val)),
  after := smPut r.after c.zone.val {
    iv := { c.nxt with carry := carries c.iv c.ends }, acc := c.elec.getD (s.mt (s.sliceOf c.zone)).acc, heat := c.heat,
    time := c.time } }

theorem writeClosing_of_fits {s : State} {c : Closing} (hfit : fits s (quotients c.iv c.ends) = true) :
    writeClosing s c [] = (onOpen ((noted (writeChain s c.zone c.iv (min c.len 65535) (closeFlags c).toNat
      (synthUnits c.synth) (quotients c.iv c.ends)) (s.sliceOf c.zone) c (fieldRises c.iv c.ends)).onRs (leftBehind s c))
      c.zone c.iv.no (fun i => { i with carry := carries c.iv c.ends }), []) := by
  unfold writeClosing noted leftBehind
  exact if_pos hfit

/-- A closing written alone that fits the store (R203, R204). -/
theorem writeClosing_alone_fits {s : State} {c : Closing} {p : Phys} (hp : s.sliceOf c.zone = p)
    (hno : (s.z p).ival.no = c.iv.no + 1) (hfit : fits s (quotients c.iv c.ends) = true) :
    ∃ t, writeClosing s c [] = (t, []) ∧
    t.store.recs = s.store.recs ++ chainRecs s.store.lastSeq c.zone c.iv (min c.len 65535) (closeFlags c).toNat
      (synthUnits c.synth) (quotients c.iv c.ends) ∧
    t.store.lastSeq = s.store.lastSeq + chainLength (quotients c.iv c.ends) ∧
    t.isrBit 4 EVT.RS_NEW = true ∧ (t.z p).ival = { (s.z p).ival with carry := carries c.iv c.ends } ∧
    (t.mt p).pairs = (s.mt p).pairs ∧ ∀ q, q ≠ p → t.cr q = s.cr q := by
  have heq := writeClosing_of_fits hfit
  obtain ⟨hstore, hnew, w, hw⟩ := writeChain_spec s c.zone c.iv (min c.len 65535) (closeFlags c).toNat (synthUnits c.synth)
    (quotients c.iv c.ends)
  rw [hp] at heq
  generalize writeChain s c.zone c.iv (min c.len 65535) (closeFlags c).toNat (synthUnits c.synth)
    (quotients c.iv c.ends) = a at *
  have hnotes := booked_noted a p c (fieldRises c.iv c.ends)
  generalize noted a p c (fieldRises c.iv c.ends) = b at *
  have hbd : StoreOnly b (b.onRs (leftBehind s c)) := (StoreOnly.refl b).onRs
  have hds : (b.onRs (leftBehind s c)).store = leftBehind s c b.store := rfl
  generalize b.onRs (leftBehind s c) = d at *
  obtain ⟨⟨-, -, -, -, -, -, hbstore, -, -, -, -, hbmap, -⟩, -⟩ := sameButSlicesPages_of_still hnotes.still
  have hzd : (d.z p).ival = (s.z p).ival := by rw [hbd.z, hnotes.ival, hstore.z]
  have hpd : d.sliceOf c.zone = p := by rw [hbd.sliceOf, ← hp, State.sliceOf, hbmap, hstore.map, State.sliceOf]
  have hz := onOpen_z hpd c.iv.no (fun i => { i with carry := carries c.iv c.ends }) (by rw [hzd, hno])
  have hcr := onOpen_cr hpd c.iv.no (fun i => { i with carry := carries c.iv c.ends })
  have hgrows := onOpen_grows (s := d) (z := c.zone) c.iv.no (fun i => { i with carry := carries c.iv c.ends })
  have hts := store_of_still (onOpen_still (s := d) (z := c.zone) c.iv.no (fun i => { i with carry := carries c.iv c.ends }))
  generalize onOpen d c.zone c.iv.no (fun i => { i with carry := carries c.iv c.ends }) = t at *
  refine ⟨t, heq, ?_, ?_, ?_, ?_, ?_, fun q hq => ?_⟩
  · rw [hts, hds, leftBehind, hbstore, hw]
  · rw [hts, hds, leftBehind, hbstore, hw]
  · exact hgrows.isr _ _ (hbd.grows.isr _ _ (hnotes.grows.isr _ _ hnew))
  · rw [hz, hzd]
  · rw [State.mt, hz, hbd.z, ← State.mt, hnotes.pairs, State.mt, hstore.z, ← State.mt]
  · rw [hcr q hq, hbd.cr, hnotes.others q hq, hstore.cr]

/-- An interval that takes the one after it in (R206). -/
def joined (c : Closing) (n : Interval) : Interval :=
  { c.iv with no := n.no, merged := true, bound := n.bound, flags := c.iv.flags ||| n.flags }

/-- What a merged closing gives back to the open interval of its slice (R167, R276, R278). -/
def givenBack (s : State) (p : Phys) (c : Closing) : State :=
  (s.onMt p (fun m => { m with
    synth := m.synth + c.synth, pairs := m.pairs + c.pairs, qinc := m.qinc || c.qinc,
    clipped := m.clipped || c.clipped })).onSc p (fun x => { x with
    sumUh := x.sumUh + c.sumUh, sumUc := x.sumUc + c.sumUc, sumN := x.sumN + c.sumN,
    priceBad := x.priceBad || c.priceBad })

/-- The store with zone `z` marked merged. -/
def markMerged (z : Zone) (r : RecStore) : RecStore := { r with merged := r.merged ||| BitVec.ofNat 64 (2 ^ z.val) }

theorem writeClosing_of_not_fits {s : State} {c : Closing} (hfit : fits s (quotients c.iv c.ends) = false)
    (hmerged : s.store.merged = 0) (hno : (s.z (s.sliceOf c.zone)).ival.no = c.iv.no + 1) :
    writeClosing s c [] = (givenBack (onOpen ((s.onRs (markMerged c.zone)).errP 4 0 0x8302) c.zone c.iv.no (joined c))
      (s.sliceOf c.zone) c, []) := by
  unfold writeClosing
  refine (if_neg (by simp [hfit])).trans ?_
  unfold mergeBack givenBack joined markMerged
  dsimp only [onNextWait]
  rw [if_pos hmerged]
  exact if_pos hno

theorem givenBack_still (s : State) (p : Phys) (c : Closing) : (givenBack s p c).still = s.still := by
  simp [givenBack, State.onSc, State.onMt]

theorem givenBack_spec (s : State) (p : Phys) (c : Closing) :
    Grows s (givenBack s p c) ∧ ((givenBack s p c).z p).ival = (s.z p).ival ∧
    ∀ q, q ≠ p → (givenBack s p c).cr q = s.cr q :=
  ⟨(Grows.refl s).silent (by simp [givenBack, State.onSc, State.onMt]) (by simp [givenBack, State.onSc, State.onMt]),
    by simp [givenBack, State.onSc, State.onMt], fun q hq => by simp [givenBack, State.onSc, State.onMt, hq]⟩

/-- A closing alone that does not fit the store (R206): its interval goes on, merged into the one that followed. -/
theorem writeClosing_alone_merges {s : State} {c : Closing} {p : Phys} (hp : s.sliceOf c.zone = p)
    (hno : (s.z p).ival.no = c.iv.no + 1) (hfit : fits s (quotients c.iv c.ends) = false) (hmerged : s.store.merged = 0) :
    ∃ t, writeClosing s c [] = (t, []) ∧ t.store.recs = s.store.recs ∧ t.store.lastSeq = s.store.lastSeq ∧
    t.store.merged.getLsbD c.zone.val = true ∧ toldCode s t 4 0 0x8302 ∧
    (t.z p).ival = joined c (s.z p).ival ∧ ∀ q, q ≠ p → t.cr q = s.cr q := by
  have heq := writeClosing_of_not_fits hfit hmerged (hp ▸ hno)
  rw [hp] at heq
  have hsd : StoreOnly s (s.onRs (markMerged c.zone)) := (StoreOnly.refl s).onRs
  have hds : (s.onRs (markMerged c.zone)).store = markMerged c.zone s.store := rfl
  generalize s.onRs (markMerged c.zone) = d at *
  have hse : StoreOnly s (d.errP 4 0 0x8302) := hsd.errP
  have hes : (d.errP 4 0 0x8302).store = d.store := by simp
  have htold {u : State} (hu : Grows (d.errP 4 0 0x8302) u) : toldCode s u 4 0 0x8302 := toldCode_errP hsd.grows hu
  generalize d.errP 4 0 0x8302 = e at *
  have hpe : e.sliceOf c.zone = p := (hse.sliceOf _).trans hp
  have hz := onOpen_z hpe c.iv.no (joined c) (by rw [hse.z, hno])
  have hcr := onOpen_cr hpe c.iv.no (joined c)
  have hgrows := onOpen_grows (s := e) (z := c.zone) c.iv.no (joined c)
  have hts := store_of_still (onOpen_still (s := e) (z := c.zone) c.iv.no (joined c))
  generalize onOpen e c.zone c.iv.no (joined c) = t at *
  obtain ⟨hgu, hival, hothers⟩ := givenBack_spec t p c
  have hus := (store_of_still (givenBack_still t p c)).trans (hts.trans (hes.trans hds))
  generalize givenBack t p c = u at *
  refine ⟨u, heq, by rw [hus]; rfl, by rw [hus]; rfl, ?_, htold (hgrows.trans hgu), ?_, fun q hq => ?_⟩
  · rw [hus, markMerged, BitVec.getLsbD_or, getLsbD_two_pow_self c.zone.isLt, Bool.or_true]
  · rw [hival, hz, hse.z]
  · rw [hothers q hq, hcr q hq, hse.cr]

/-! ### Closing at the boundary (R200, R204) -/

theorem foldl_beyond {f : State → Zone → State} {z : Zone} (l : List Zone) (hl : ∀ y ∈ l, z < y) (s : State) :
    l.foldl (fun s y => if y ≤ z then f s y else s) s = s := by
  induction l with
  | nil => rfl
  | cons a l ih =>
    rw [List.foldl_cons, if_neg (not_le.mpr (hl a List.mem_cons_self))]
    exact ih fun y hy => hl y (List.mem_cons_of_mem a hy)

/-- A fold over the zones up to one, where the zones below it change nothing. -/
theorem foldl_upTo {f : State → Zone → State} {s : State} {z : Zone} (hbelow : ∀ y, y < z → f s y = s) (l : List Zone)
    (hl : l.Pairwise (· < ·)) (hz : z ∈ l) : l.foldl (fun s y => if y ≤ z then f s y else s) s = f s z := by
  induction l with
  | nil => cases hz
  | cons a l ih =>
    obtain ⟨hlater, hl⟩ := List.pairwise_cons.mp hl
    rw [List.foldl_cons]
    rcases List.mem_cons.mp hz with rfl | hz
    · rw [if_pos le_rfl]
      exact foldl_beyond l hlater _
    · have ha : a < z := hlater z hz
      rw [if_pos ha.le, hbelow a ha]
      exact ih hl hz

/-- With nothing merged and nothing due below it, only the zone's own interval closes (R206). -/
theorem intervalClose_eq {s : State} {z : Zone} {t : Nat} (hon : s.storeOn = true) (hmerged : s.store.merged = 0)
    (ht : (if (s.sl (s.sliceOf z)).running then s.slNow (s.sliceOf z) else s.now) = t)
    (hdue : (s.sl (s.sliceOf z)).running = true →
      (s.z (s.sliceOf z)).ival.opened = true ∧ (s.z (s.sliceOf z)).ival.bound * minuteUs ≤ t)
    (hbelow : ∀ y : Zone, y < z → closeZone s y t = s) :
    StoreOnly (writeWaiting (closeZone s z t)) (intervalClose s z) ∧
    (intervalClose s z).store = (writeWaiting (closeZone s z t)).store := by
  have hd : (if (s.sl (s.sliceOf z)).running then (s.z (s.sliceOf z)).ival.opened &&
      decide ((s.z (s.sliceOf z)).ival.bound * minuteUs ≤ t) else true) = true := by
    split
    · next h => simp [hdue h]
    · rfl
  have hnone : mergedZones s = [] := by simp [mergedZones, hmerged]
  have hfold := foldl_upTo (f := fun s y => closeZone s y t) hbelow _ (List.sortedLT_finRange 64).pairwise (List.mem_finRange z)
  have heq : intervalClose s z = repairRecords (writeWaiting (closeZone s z t))
      ((writeWaiting (closeZone s z t)).store.acked + 1) (writeWaiting (closeZone s z t)).store.lastSeq := by
    simp only [intervalClose, ht, hon, hd, hnone, List.foldl_nil, hfold, Bool.not_true, Bool.or_self, Bool.false_eq_true,
      if_false]
  rw [heq]
  exact repairRecords_spec ..

theorem writeWaiting_ready {s t : State} {c : Closing} (hwait : s.store.wait = [c]) (helec : c.elec.isSome = true)
    (hw : writeClosing s c [] = (t, [])) : writeWaiting s = t.onRs (fun r => { r with wait := [] }) := by
  rw [writeWaiting, hwait]
  show writeReady s 1 [c] = _
  rw [writeReady, if_pos helec, hw]
  rfl

theorem writeWaiting_open {s : State} {c : Closing} (hwait : s.store.wait = [c]) (helec : c.elec.isSome = false)
    (hruns : (s.sl (s.sliceOf c.zone)).running = true) :
    writeWaiting s = s.onRs (fun r => { r with wait := [c] }) := by
  rw [writeWaiting, hwait]
  show writeReady s 1 [c] = _
  rw [writeReady, if_neg (by simp [helec]), if_pos hruns]

/-- A running slice whose interval is due, with nothing waiting, merged or due below it. -/
structure DueAlone (s : State) (z : Zone) (p : Phys) : Prop where
  on     : s.storeOn = true
  merged : s.store.merged = 0
  wait   : s.store.wait = []
  serves : s.sliceOf z = p
  runs   : (s.sl p).running = true
  opened : (s.z p).ival.opened = true
  single : (s.z p).ival.merged = false
  due    : (s.z p).ival.bound * minuteUs ≤ s.slNow p
  below  : ∀ y : Zone, y < z → closeZone s y (s.slNow p) = s

/-- The closing that a slice passes at its boundary. -/
def dueClosing (s : State) (z : Zone) (p : Phys) : Closing :=
  closingOf s p z ((s.z p).ival.bound - (s.z p).ival.start) (max (s.z p).ival.bound (boundAt s (s.slNow p))) []

section Due
variable {s : State} {z : Zone} {p : Phys} (h : DueAlone s z p)
include h

theorem closeZone_due : closeZone s z (s.slNow p) = (closedSlice s p (dueClosing s z p)).onRs
    (fun r => { r with wait := r.wait ++ [dueClosing s z p] }) := by
  obtain ⟨-, -, -, hserves, hruns, hopened, hsingle, hdue, -⟩ := h
  have hd : (!(s.z p).ival.opened || decide (s.slNow p < (s.z p).ival.bound * minuteUs)) = false := by
    simp [hopened, hdue]
  have hnd : ¬ ((!(s.z p).ival.opened || decide (s.slNow p < (s.z p).ival.bound * minuteUs)) = true) := by simp [hd]
  rw [closeZone, hserves, if_pos hruns, closeDue, if_neg hnd]
  dsimp only
  rw [if_neg (by simp [hsingle]), closeIval_eq, dueClosing]

/-- The state in which the store finds the closing. -/
theorem closeZone_due_spec : ∃ a, closeZone s z (s.slNow p) = a ∧ a.store = { s.store with wait := [dueClosing s z p] } ∧
    a.sliceOf z = p ∧ Grows s a ∧ (a.sl p).running = true ∧ (a.z p).ival = (dueClosing s z p).nxt ∧ (a.mt p).pairs = 0 ∧
    ∀ q, q ≠ p → a.cr q = s.cr q := by
  have heq := closeZone_due h
  obtain ⟨-, -, hwait, hserves, hruns, -, -, -, -⟩ := h
  obtain ⟨hgrows, hrun, hival, hpairs, hothers⟩ := closedSlice_spec s p (dueClosing s z p)
  obtain ⟨⟨-, -, -, -, -, -, hstore, -, -, -, -, hmap, -⟩, -⟩ :=
    sameButSlicesPages_of_still (closedSlice_still s p (dueClosing s z p))
  generalize closedSlice s p (dueClosing s z p) = d at *
  have hda : StoreOnly d (d.onRs (fun r => { r with wait := r.wait ++ [dueClosing s z p] })) := (StoreOnly.refl d).onRs
  refine ⟨_, heq, ?_, ?_, hgrows.trans hda.grows, ?_, ?_, ?_, fun q hq => ?_⟩
  · rw [onRs_store, hstore, hwait]
    rfl
  · rw [hda.sliceOf, ← hserves, State.sliceOf, hmap, State.sliceOf]
  · rw [hda.sl, hrun, hruns]
  · rw [hda.z, hival]
  · rw [State.mt, hda.z, ← State.mt, hpairs]
  · rw [hda.cr, hothers q hq]

theorem intervalClose_due :
    StoreOnly (writeWaiting (closeZone s z (s.slNow p))) (intervalClose s z) ∧
    (intervalClose s z).store = (writeWaiting (closeZone s z (s.slNow p))).store := by
  obtain ⟨hon, hmerged, -, hserves, hruns, hopened, -, hdue, hbelow⟩ := h
  subst hserves
  exact intervalClose_eq hon hmerged (if_pos hruns) (fun _ => ⟨hopened, hdue⟩) hbelow

/-- The interval closes and its chain is written (R200, R203, R204). -/
theorem intervalClose_written (hcut : (cutAtBound s p).2 = false)
    (hfit : fits s (quotients (dueClosing s z p).iv (dueClosing s z p).ends) = true) :
    ∃ t, intervalClose s z = t ∧
      t.store.lastSeq = s.store.lastSeq + chainLength (quotients (dueClosing s z p).iv (dueClosing s z p).ends) ∧
      t.store.wait = [] ∧
      t.store.recs = s.store.recs ++ chainRecs s.store.lastSeq z (dueClosing s z p).iv (min (dueClosing s z p).len 65535)
        (closeFlags (dueClosing s z p)).toNat (synthUnits (dueClosing s z p).synth)
        (quotients (dueClosing s z p).iv (dueClosing s z p).ends) ∧
      (t.z p).ival = { (dueClosing s z p).nxt with carry := carries (dueClosing s z p).iv (dueClosing s z p).ends } ∧
      (t.mt p).pairs = 0 ∧ t.isrBit 4 EVT.RS_NEW = true ∧ othersKept s t p := by
  obtain ⟨hend, hendStore⟩ := intervalClose_due h
  obtain ⟨a, ha, hstore, hserves, -, -, hival, hpairs, hothers⟩ := closeZone_due_spec h
  obtain ⟨hzone, hiv, -, hno, -, -, helec⟩ := closingOf_spec s p z ((s.z p).ival.bound - (s.z p).ival.start)
    (max (s.z p).ival.bound (boundAt s (s.slNow p))) []
  rw [← dueClosing] at hzone hiv hno helec
  generalize dueClosing s z p = c at *
  subst hzone
  obtain ⟨b, hb, hrecs, hlast, hnew, hbival, hbpairs, hbothers⟩ := writeClosing_alone_fits hserves
    (by rw [hival, hno, hiv]) ((fits_of_store (by rw [hstore]) (by rw [hstore]) _).trans hfit)
  rw [ha, writeWaiting_ready (by rw [hstore]) (by rw [helec, hcut]; rfl) hb] at hend hendStore
  have hbend : StoreOnly b (intervalClose s c.zone) := (StoreOnly.refl b).onRs.trans hend
  rw [hstore] at hrecs hlast
  refine ⟨_, rfl, ?_, ?_, ?_, ?_, ?_, hbend.grows.isr _ _ hnew, fun q hq => ?_⟩
  · rw [hendStore, onRs_store, hlast]
  · rw [hendStore, onRs_store]
  · rw [hendStore, onRs_store, hrecs]
  · rw [hbend.z, hbival, hival]
  · rw [State.mt, hbend.z, ← State.mt, hbpairs, hpairs]
  · exact (hbend.cr q).trans ((hbothers q hq).trans (hothers q hq))

/-- The interval does not fit the store and goes on merged (R206). -/
theorem intervalClose_mergedOn (hcut : (cutAtBound s p).2 = false)
    (hfit : fits s (quotients (dueClosing s z p).iv (dueClosing s z p).ends) = false) :
    ∃ t, intervalClose s z = t ∧ t.store.recs = s.store.recs ∧ t.store.lastSeq = s.store.lastSeq ∧
      (t.z p).ival = joined (dueClosing s z p) (dueClosing s z p).nxt ∧
      t.store.merged.getLsbD z.val = true ∧ toldCode s t 4 0 0x8302 ∧ othersKept s t p := by
  obtain ⟨hend, hendStore⟩ := intervalClose_due h
  obtain ⟨a, ha, hstore, hserves, hgrows, -, hival, -, hothers⟩ := closeZone_due_spec h
  obtain ⟨hzone, hiv, -, hno, -, -, helec⟩ := closingOf_spec s p z ((s.z p).ival.bound - (s.z p).ival.start)
    (max (s.z p).ival.bound (boundAt s (s.slNow p))) []
  rw [← dueClosing] at hzone hiv hno helec
  generalize dueClosing s z p = c at *
  subst hzone
  obtain ⟨b, hb, hrecs, hlast, hmerged, htold, hbival, hbothers⟩ := writeClosing_alone_merges hserves
    (by rw [hival, hno, hiv]) ((fits_of_store (by rw [hstore]) (by rw [hstore]) _).trans hfit)
    (by rw [hstore]; exact h.merged)
  rw [ha, writeWaiting_ready (by rw [hstore]) (by rw [helec, hcut]; rfl) hb] at hend hendStore
  have hbend : StoreOnly b (intervalClose s c.zone) := (StoreOnly.refl b).onRs.trans hend
  rw [hstore] at hrecs hlast
  refine ⟨_, rfl, ?_, ?_, ?_, ?_, told.of_grows hgrows htold hbend.grows, fun q hq => ?_⟩
  · rw [hendStore, onRs_store, hrecs]
  · rw [hendStore, onRs_store, hlast]
  · rw [hbend.z, hbival, hival]
  · rw [hendStore, onRs_store]
    exact hmerged
  · exact (hbend.cr q).trans ((hbothers q hq).trans (hothers q hq))

/-- A meter cycle straddles the boundary: the closed interval waits for its end (R163). -/
theorem intervalClose_waits (hcut : (cutAtBound s p).2 = true) :
    ∃ t, intervalClose s z = t ∧ t.store.recs = s.store.recs ∧ t.store.lastSeq = s.store.lastSeq ∧
      t.store.wait = [dueClosing s z p] ∧ (t.z p).ival = (dueClosing s z p).nxt ∧ othersKept s t p := by
  obtain ⟨hend, hendStore⟩ := intervalClose_due h
  obtain ⟨a, ha, hstore, hserves, -, hruns, hival, -, hothers⟩ := closeZone_due_spec h
  obtain ⟨hzone, -, -, -, -, -, helec⟩ := closingOf_spec s p z ((s.z p).ival.bound - (s.z p).ival.start)
    (max (s.z p).ival.bound (boundAt s (s.slNow p))) []
  rw [← dueClosing] at hzone helec
  generalize dueClosing s z p = c at *
  subst hzone
  rw [ha, writeWaiting_open (by rw [hstore]) (by rw [helec, hcut]; rfl) (by rw [hserves, hruns])] at hend hendStore
  have haend : StoreOnly a (intervalClose s c.zone) := (StoreOnly.refl a).onRs.trans hend
  refine ⟨_, rfl, ?_, ?_, ?_, ?_, fun q hq => ?_⟩
  · rw [hendStore, onRs_store, hstore]
  · rw [hendStore, onRs_store, hstore]
  · rw [hendStore, onRs_store]
  · rw [haend.z, hival]
  · exact (haend.cr q).trans (hothers q hq)

end Due

end Sys2Proof.Machine

namespace Sys2Proof.Machine
open Host

/-! ### An interval that the porch closes (R200) -/

theorem chainLength_pos (q : Vector Nat 7) : 0 < chainLength q := by
  have hmax (l : List Nat) : ∀ n, 0 < n → 0 < l.foldl (fun n v => max n ((v + 65534) / 65535)) n := by
    induction l with
    | nil => exact fun _ h => h
    | cons v l ih => exact fun n h => ih _ (lt_max_of_lt_left h)
  exact hmax _ 1 Nat.one_pos

/-- The checkpoint of a slice that serves no longer, with its interval and meter as the porch leaves them. -/
def keptDark (s : State) (p : Phys) (c : Ckpt) (i : Interval) : State :=
  (s.onSl p (fun x => { x with
    z := { x.z with ival := i },
    ckpt := some { c with zone := { c.zone with ival := i, meter := c.zone.meter } } })).wrote (.ckpt p false)

/-- The interval of a checkpoint with the mark that power or the slice was lost. -/
def outageOf (iv : Interval) : Interval := { iv with flags := iv.flags ||| flagBits [flOutage] }

/-- What the porch passes to the store for a dark slice. -/
def darkClosing (s : State) (z : Zone) (c : Ckpt) : Closing :=
  { zone := z, iv := outageOf c.zone.ival, nxt := outageOf c.zone.ival,
    len := if c.zone.ival.merged then boundAt s s.now - c.zone.ival.start else c.zone.ival.bound - c.zone.ival.start,
    time := s.now, heat := c.zone.heat.acc, elec := some c.zone.meter.acc, synth := c.zone.meter.synth,
    pairs := c.zone.meter.pairs, qinc := c.zone.meter.qinc, clipped := c.zone.meter.clipped }

/-- What a checkpoint counts at the end of its interval. -/
def ckptCounts (c : Ckpt) : Vector Nat 11 := countsOf c.zone.meter.acc c.zone.heat.acc

/-- The interval of a checkpoint once the porch has closed it: no other opens. -/
def darkClosed (c : Ckpt) : Interval :=
  { c.zone.ival with opened := false, no := c.zone.ival.no + 1, base := ckptCounts c,
                     carry := carries c.zone.ival (ckptCounts c), flags := 0, merged := false }

/-- The interval of a checkpoint that goes on merged up to a boundary. -/
def darkMerged (c : Ckpt) (bound : Nat) : Interval := { outageOf c.zone.ival with merged := true, bound := bound }

/-- The store with zone `z` no longer merged. -/
def unmark (z : Zone) (r : RecStore) : RecStore := { r with merged := r.merged &&& ~~~(BitVec.ofNat 64 (2 ^ z.val)) }

/-- A zone whose slice does not run and whose checkpoint's interval is due, with nothing waiting, merged or due below it. -/
structure DarkAlone (s : State) (z : Zone) (p : Phys) (c : Ckpt) : Prop where
  on     : s.storeOn = true
  merged : s.store.merged = 0
  wait   : s.store.wait = []
  serves : s.sliceOf z = p
  stops  : (s.sl p).running = false
  ckpt   : s.ckptOf p = some c
  after  : smFind s.store.after z.val = none
  post   : s.postingOf p = none
  opened : c.zone.ival.opened = true
  due    : c.zone.ival.bound * minuteUs ≤ s.now
  below  : ∀ y : Zone, y < z → closeZone s y s.now = s

section Dark
variable {s : State} {z : Zone} {p : Phys} {c : Ckpt} (h : DarkAlone s z p c)
include h

theorem closeZone_dark : closeZone s z s.now =
    if fits s (quotients c.zone.ival (ckptCounts c)) then
      keptDark ((writeChain s z (outageOf c.zone.ival) (min (darkClosing s z c).len 65535)
        (closeFlags (darkClosing s z c)).toNat (synthUnits c.zone.meter.synth)
        (quotients c.zone.ival (ckptCounts c))).onRs (unmark z)) p c (darkClosed c)
    else keptDark ((s.onRs (markMerged z)).errP 4 0 0x8302) p c
      (darkMerged c (c.zone.ival.bound + lenAt s c.zone.ival.bound)) := by
  obtain ⟨-, hmerged, -, hserves, hstops, hckpt, hafter, hpost, hopened, hdue, -⟩ := h
  have hnd : ¬ ((!c.zone.ival.opened || decide (s.now < c.zone.ival.bound * minuteUs)) = true) := by simp [hopened, hdue]
  have hc : afterRecord s z c = c := by rw [afterRecord, hafter]
  rw [closeZone, hserves, if_neg (by simp [hstops]), closeDark, hserves, hckpt, Option.map_some, hc]
  dsimp only
  rw [if_neg hnd, hpost, if_pos hmerged]
  rfl

omit h in
/-- What the porch leaves of a dark slice's checkpoint. -/
theorem keptDark_spec (t : State) (i : Interval) : ((keptDark t p c i).sl p).ckpt = some { c with
      zone := { c.zone with ival := i, meter := c.zone.meter } } ∧
    (keptDark t p c i).store = t.store ∧ Grows t (keptDark t p c i) ∧ ∀ q, q ≠ p → (keptDark t p c i).cr q = t.cr q := by
  refine ⟨?_, by simp [keptDark], (Grows.refl t).silent (by simp [keptDark]) (by simp [keptDark]),
    fun q hq => by simp [keptDark, hq]⟩
  have hs : (keptDark t p c i).slices = (t.onSl p (fun x => { x with
    z := { x.z with ival := i },
    ckpt := some { c with zone := { c.zone with ival := i, meter := c.zone.meter } } })).slices := by simp [keptDark]
  rw [sl_of_slices hs, sl_onSl]

theorem intervalClose_dark {t : State} (ht : closeZone s z s.now = t) (hwait : t.store.wait = []) :
    StoreOnly t (intervalClose s z) ∧ (intervalClose s z).store = { t.store with wait := [] } := by
  obtain ⟨hon, hmerged, -, hserves, hstops, -, -, -, -, -, hbelow⟩ := h
  subst hserves
  obtain ⟨hend, hstore⟩ := intervalClose_eq hon hmerged (if_neg (by simp [hstops])) (fun hr => by simp [hstops] at hr) hbelow
  have hw : writeWaiting t = t.onRs (fun r => { r with wait := [] }) := by
    rw [writeWaiting, hwait]
    rfl
  rw [ht, hw] at hend hstore
  exact ⟨(StoreOnly.refl t).onRs.trans hend, hstore⟩

omit h in
/-- A closing of the porch is flagged OUTAGE in the first record of its chain (R200, R201). -/
theorem outage_flagged (len synth : Nat) (q : Vector Nat 7) : ((recWords z (outageOf c.zone.ival) len
    (closeFlags (darkClosing s z c)).toNat synth q 0)[1]).getLsbD flOutage = true := by
  have hfl : (closeFlags (darkClosing s z c)).getLsbD flOutage = true := by
    have : (flagBits [flOutage]).getLsbD flOutage = true := by decide
    simp only [closeFlags, darkClosing, outageOf, BitVec.getLsbD_or, this, Bool.or_true, Bool.true_or]
  have hword : ∀ f : BitVec 16, (BitVec.ofNat 32 (len * 2 ^ 16 + f.toNat)).getLsbD flOutage = f.getLsbD flOutage := by
    intro f
    have hdiv : (len * 2 ^ 16 + f.toNat) / 2 ^ 2 % 2 = f.toNat / 2 ^ 2 % 2 := by omega
    rw [BitVec.getLsbD_ofNat, BitVec.getLsbD, Nat.testBit_eq_decide_div_mod_eq, Nat.testBit_eq_decide_div_mod_eq]
    simp only [flOutage, hdiv]
    rfl
  exact (hword _).trans hfl

/-- The porch closes the interval of a dark slice (R200). -/
theorem intervalClose_dark_written (hfit : fits s (quotients c.zone.ival (ckptCounts c)) = true) :
    ∃ t k r, intervalClose s z = t ∧ (t.sl p).ckpt = some k ∧ k.zone.ival.opened = false ∧
      t.store.lastSeq = s.store.lastSeq + chainLength (quotients c.zone.ival (ckptCounts c)) ∧ r ∈ t.store.recs ∧
      r.seq = s.store.lastSeq + 1 ∧ (r.words[1]).getLsbD flOutage = true ∧ othersKept s t p := by
  have heq := closeZone_dark h
  rw [if_pos hfit] at heq
  obtain ⟨hchain, -, w, hw⟩ := writeChain_spec s z (outageOf c.zone.ival) (min (darkClosing s z c).len 65535)
    (closeFlags (darkClosing s z c)).toNat (synthUnits c.zone.meter.synth) (quotients c.zone.ival (ckptCounts c))
  have hflag := outage_flagged (s := s) (z := z) (c := c) (min (darkClosing s z c).len 65535)
    (synthUnits c.zone.meter.synth) (quotients c.zone.ival (ckptCounts c))
  generalize closeFlags (darkClosing s z c) = fl at *
  generalize writeChain s z (outageOf c.zone.ival) (min (darkClosing s z c).len 65535)
    fl.toNat (synthUnits c.zone.meter.synth) (quotients c.zone.ival (ckptCounts c)) = a at *
  obtain ⟨hckpt, hstore, -, hothers⟩ := keptDark_spec (p := p) (c := c) (a.onRs (unmark z)) (darkClosed c)
  obtain ⟨hend, hendStore⟩ := intervalClose_dark h heq (by rw [hstore, onRs_store, hw]; exact h.wait)
  rw [hstore, onRs_store, hw] at hendStore
  refine ⟨_, _, { seq := s.store.lastSeq + 1 + 0, words := _ }, rfl, (congrArg Slice.ckpt (hend.sl p)).trans hckpt, rfl, by rw [hendStore, unmark],
    ?_, rfl, hflag, fun q hq => ?_⟩
  · rw [hendStore, unmark]
    refine List.mem_append_right _ (List.mem_map.mpr ⟨0, ?_, rfl⟩)
    exact List.mem_range.mpr (chainLength_pos _)
  · exact (hend.cr q).trans ((hothers q hq).trans (((StoreOnly.refl a).onRs.cr q).trans (hchain.cr q)))

/-- A dark slice's interval that does not fit is merged (R206). -/
theorem intervalClose_dark_merged (hfit : fits s (quotients c.zone.ival (ckptCounts c)) = false) :
    ∃ t k, intervalClose s z = t ∧ (t.sl p).ckpt = some k ∧ k.zone.ival.opened = true ∧ k.zone.ival.merged = true ∧
      t.store.recs = s.store.recs ∧ t.store.merged.getLsbD z.val = true ∧ toldCode s t 4 0 0x8302 ∧ othersKept s t p := by
  have heq := closeZone_dark h
  rw [if_neg (by simp [hfit])] at heq
  have hsd : StoreOnly s (s.onRs (markMerged z)) := (StoreOnly.refl s).onRs
  have hse : StoreOnly s ((s.onRs (markMerged z)).errP 4 0 0x8302) := hsd.errP
  have hes : ((s.onRs (markMerged z)).errP 4 0 0x8302).store = markMerged z s.store := by simp
  obtain ⟨hckpt, hstore, hgrows, hothers⟩ := keptDark_spec (p := p) (c := c) ((s.onRs (markMerged z)).errP 4 0 0x8302)
    (darkMerged c (c.zone.ival.bound + lenAt s c.zone.ival.bound))
  obtain ⟨hend, hendStore⟩ := intervalClose_dark h heq (by rw [hstore, hes]; exact h.wait)
  rw [hstore, hes] at hendStore
  refine ⟨_, _, rfl, (congrArg Slice.ckpt (hend.sl p)).trans hckpt, h.opened, rfl, by rw [hendStore]; rfl, ?_,
    toldCode_errP hsd.grows (hgrows.trans hend.grows), fun q hq => ?_⟩
  · rw [hendStore, markMerged, BitVec.getLsbD_or, getLsbD_two_pow_self z.isLt, Bool.or_true]
  · exact (hend.cr q).trans ((hothers q hq).trans (hse.cr q))

end Dark

/-! ### Interval length and window (R199, R207) -/

/-- A new interval length counts from now on (R199). -/
theorem ilen_taken (s : State) : (s.pw F.PCH_RS_CFG_ILEN (s.pg F.PCH_RS_CFG_ILEN_NEXT)).pg F.PCH_RS_CFG_ILEN =
      s.pg F.PCH_RS_CFG_ILEN_NEXT ∧
    (s.pw F.PCH_RS_CFG_ILEN (s.pg F.PCH_RS_CFG_ILEN_NEXT)).pg F.PCH_RS_CFG_ILEN_NEXT = s.pg F.PCH_RS_CFG_ILEN_NEXT := by
  constructor
  · rw [State.pg, pw_regs, nat_putNat_same _ _ _ _ (by decide) (by decide)]
    exact Nat.mod_eq_of_lt (fieldOf_lt ..)
  · have hput : rfGet (s.regs.putNat F.PCH_RS_CFG_ILEN (s.pg F.PCH_RS_CFG_ILEN_NEXT)) (F.PCH_RS_CFG_ILEN_NEXT.at 0) =
      putField (rfGet s.regs (F.PCH_RS_CFG_ILEN.at 0)) 31 26 (s.pg F.PCH_RS_CFG_ILEN_NEXT) := rfGet_put ..
    rw [State.pg, pw_regs, RegFile.nat, hput]
    exact fieldOf_putField_below _ _ (by decide) (by decide) (by decide)

/-- A window copy done (R207). -/
theorem windowDone_spec {s : State} (hbusy : s.store.winBusy = true) : ∃ t, windowDone s = t ∧
    t.store = { s.store with
      winBusy := false, winValid := true, winFirst := max s.store.winReq (s.store.acked + 1),
      win := (s.store.recs.filter (fun x => decide (max s.store.winReq (s.store.acked + 1) ≤ x.seq) &&
        decide (x.seq ≤ s.store.winTail))).take Config.windowSize } ∧
    t.slices = s.slices ∧ t.isrBit 4 EVT.RS_WIN_READY = true := by
  refine ⟨_, rfl, ?_⟩
  unfold windowDone
  rw [if_neg (by simp [hbusy])]
  exact ⟨by simp, by simp, isrBit_evtP _ _ (by decide)⟩

/-- Settles O40, from the frame of each part of a closing. -/
theorem intervalsAndRecords : Obligations.IntervalsAndRecords := by
  intro s
  have hexec (z : Zone) : exec (.intervalClose z) s = .next (intervalClose s z) := rfl
  refine ⟨fun z p b c q hon hmerged hwait hp hruns hopened hsingle hdue hbelow hb hc hq => ?_, fun z hoff => ?_,
    fun z p hp hruns hnot => ?_, fun z p c q hon hmerged hwait hp hstops hckpt hafter hpost hopened hdue hbelow hq => ?_, ?_,
    fun hbusy => ?_⟩
  · have h : DueAlone s z p := ⟨hon, hmerged, hwait, hp.symm, hruns, hopened, hsingle, hdue, hbelow⟩
    have hiv : c.iv = (s.z p).ival := by
      obtain ⟨-, hiv, -⟩ := closingOf_spec s p z ((s.z p).ival.bound - (s.z p).ival.start) b []
      rwa [← hc] at hiv
    obtain ⟨-, -, hnxtOpened, -, hstart, hbound, -⟩ := closingOf_spec s p z ((s.z p).ival.bound - (s.z p).ival.start) b []
    have hcd : c = dueClosing s z p := by rw [hc, hb, dueClosing]
    rw [← hc] at hnxtOpened hstart hbound
    subst hq
    refine ⟨fun hcut hfit => ?_, fun hcut hfit => ?_, fun hcut => ?_⟩
    · obtain ⟨t, ht, hlast, hw, hrecs, hival, hpairs, hnew, hothers⟩ := intervalClose_written h hcut (hcd ▸ hfit)
      rw [← hcd] at hlast hrecs hival
      exact ⟨t, ht ▸ hexec z, hlast, hw, hrecs, hival, by rw [hival]; exact hnxtOpened,
        by rw [hival]; exact hstart, hpairs, hnew, hothers⟩
    · obtain ⟨t, ht, hrecs, hlast, hival, hmark, htold, hothers⟩ := intervalClose_mergedOn h hcut (hcd ▸ hfit)
      rw [← hcd] at hival
      exact ⟨t, ht ▸ hexec z, hrecs, hlast, by rw [hival]; rfl, by rw [hival]; exact hbound,
        by rw [hival, joined, hiv], hmark, htold, hothers⟩
    · obtain ⟨t, ht, hrecs, hlast, hw, hival, hothers⟩ := intervalClose_waits h hcut
      rw [← hcd] at hw hival
      exact ⟨t, ht ▸ hexec z, hrecs, hlast, hw, hival, hothers⟩
  · have heq : intervalClose s z = s := by simp [intervalClose, hoff]
    rw [hexec, heq]
  · subst hp
    have heq : intervalClose s z = s := by
      rcases hnot with h | h
      · simp [intervalClose, hruns, h]
      · simp [intervalClose, hruns, Nat.not_le.mpr h]
    rw [hexec, heq]
  · have h : DarkAlone s z p c := ⟨hon, hmerged, hwait, hp.symm, hstops, hckpt, hafter, hpost, hopened, hdue, hbelow⟩
    subst hq
    refine ⟨fun hfit => ?_, fun hfit => ?_⟩
    · obtain ⟨t, k, r, rfl, hrest⟩ := intervalClose_dark_written h hfit
      exact ⟨_, k, r, hexec z, hrest⟩
    · obtain ⟨t, k, rfl, hrest⟩ := intervalClose_dark_merged h hfit
      exact ⟨_, k, hexec z, hrest⟩
  · obtain ⟨hilen, hnext⟩ := ilen_taken s
    have htake : exec .ilenTakeEffect s = .next (s.pw F.PCH_RS_CFG_ILEN (s.pg F.PCH_RS_CFG_ILEN_NEXT)) := rfl
    exact ⟨_, htake, hilen, hnext, by simp, by simp⟩
  · obtain ⟨t, ht, hstore, hslices, hnew⟩ := windowDone_spec hbusy
    have hdone : exec .windowCopyDone s = .next (windowDone s) := rfl
    exact ⟨t, ht ▸ hdone, by rw [hstore], by rw [hstore], by rw [hstore], by rw [hstore]; rfl, by rw [hstore], hslices, hnew⟩

end Sys2Proof.Machine

namespace Sys2Proof.Machine
open Host

/-! ### A slice after operations on pages -/

@[simp] theorem evtP_sl (s : State) (g b : Nat) (q : Phys) : (s.evtP g b).sl q = s.sl q := sl_of_slices (by simp) q
@[simp] theorem evtIf_sl (s : State) (c : Bool) (p : Phys) (u b : Nat) (q : Phys) : (s.evtIf c p u b).sl q = s.sl q :=
  sl_of_slices (by simp) q

section Core
variable {s t : State} {p : Phys} (h : t.cr p = s.cr p)
include h

theorem running_of_cr : (t.sl p).running = (s.sl p).running := (congrArg Slice.running h :)
theorem posting_of_cr : (t.sl p).posting = (s.sl p).posting := (congrArg Slice.posting h :)
theorem time_of_cr : (t.sl p).time = (s.sl p).time := (congrArg Slice.time h :)
theorem z_of_cr : t.z p = s.z p := (congrArg Slice.z h :)

end Core

/-! ### An operation on every slice -/

/-- A fold over slices, each step on its own slice, under an invariant: a slice not visited keeps its core, a visited one has it
from its own step. -/
theorem foldl_each {f : State → Phys → State} (I : State → Prop) (hI : ∀ t p, I t → I (f t p))
    (hne : ∀ t p q, q ≠ p → (f t p).cr q = t.cr q) (l : List Phys) (hl : l.Nodup) (s : State) (hs : I s) :
    I (l.foldl f s) ∧ (∀ p ∉ l, (l.foldl f s).cr p = s.cr p) ∧
    ∀ p ∈ l, ∃ t, I t ∧ t.cr p = s.cr p ∧ (l.foldl f s).cr p = (f t p).cr p := by
  induction l generalizing s with
  | nil => exact ⟨hs, fun _ _ => rfl, fun p hp => by cases hp⟩
  | cons a l ih =>
    obtain ⟨ha, hl⟩ := List.nodup_cons.mp hl
    obtain ⟨hend, hout, hin⟩ := ih hl (f s a) (hI s a hs)
    refine ⟨hend, fun p hp => ?_, fun p hp => ?_⟩
    · obtain ⟨hpa, hpl⟩ := List.ne_and_not_mem_of_not_mem_cons hp
      exact (hout p hpl).trans (hne s a p hpa)
    · by_cases hpa : p = a
      · subst hpa
        exact ⟨s, hs, rfl, hout p ha⟩
      · obtain ⟨t, ht, hcr, hf⟩ := hin p ((List.mem_cons.mp hp).resolve_left hpa)
        exact ⟨t, ht, hcr.trans (hne s a p hpa), hf⟩

theorem eachSlice_spec {f : State → Phys → State} (I : State → Prop) (hI : ∀ t p, I t → I (f t p))
    (hne : ∀ t p q, q ≠ p → (f t p).cr q = t.cr q) (s : State) (hs : I s) :
    I (eachSlice s f) ∧ ∀ p, ∃ t, I t ∧ t.cr p = s.cr p ∧ (eachSlice s f).cr p = (f t p).cr p := by
  obtain ⟨hend, -, hin⟩ := foldl_each I hI hne _ (List.nodup_finRange 68) s hs
  exact ⟨hend, fun p => hin p (List.mem_finRange p)⟩

/-! ### Outputs off (R43, R555) -/

theorem sl_onOut (s : State) (p : Phys) (j : Out) (f : OutSt → OutSt) : (s.onOut p j f).sl p =
    (syncHold ((s.onOuts p (fun x => { x with o := x.o.set j.val (f (s.out p j)) j.isLt })).wWord p R.ZO_OUT_j
      (f (s.out p j)).word j) p).sl p := by
  unfold State.onOut
  dsimp only
  rw [evtIf_sl]
  split
  · rw [evtIf_sl, evtIf_sl, evtIf_sl]
  · rw [evtP_sl, evtIf_sl, evtIf_sl, evtIf_sl]

theorem out_onOut (s : State) (p : Phys) (j k : Out) (f : OutSt → OutSt) :
    (s.onOut p j f).out p k = if j = k then f (s.out p j) else s.out p k := by
  have h : (s.onOut p j f).out p k = ((s.z p).outs.o.set j.val (f (s.out p j)) j.isLt)[k] := by
    rw [State.out, State.z, sl_onOut]
    simp [syncHold, State.w, State.wb, State.onR, State.onOuts, State.wWord, State.onZ, State.z]
  rw [h]
  simp only [Fin.getElem_fin, Vector.getElem_set, Fin.ext_iff]
  rfl

@[simp] theorem onOut_posting (s : State) (p : Phys) (j : Out) (f : OutSt → OutSt) :
    ((s.onOut p j f).sl p).posting = (s.sl p).posting := by
  rw [sl_onOut]
  simp [syncHold, State.w, State.wb, State.onR, State.onOuts, State.wWord, State.onZ]

/-- An output that drives nothing and is not held. -/
def OutSt.off (o : OutSt) : Prop := o.applied = 0 ∧ o.held = false

@[simp] theorem dropOutputs_cr_ne (s : State) (p q : Phys) (hq : q ≠ p) : (dropOutputs s p).cr q = s.cr q := by
  simp [dropOutputs, cr_foldl, hq]

theorem dropOutputs_off (s : State) (p : Phys) (k : Out) : ((dropOutputs s p).out p k).off := by
  have hfold (l : List Out) : ∀ s : State, k ∈ l ∨ (s.out p k).off → ((l.foldl (fun (s : State) (j : Out) =>
      s.onOut p j (fun o => { o with held := false, match_ := false, applied := 0, drvOn := false, pin := 0 })) s).out p k).off := by
    induction l with
    | nil => exact fun s h => h.resolve_left (by simp)
    | cons j l ih =>
      refine fun s h => ih _ ?_
      rw [out_onOut]
      by_cases hj : j = k
      · rw [if_pos hj]
        exact .inr ⟨rfl, rfl⟩
      · rw [if_neg hj]
        exact h.imp_left fun hk => (List.mem_cons.mp hk).resolve_left (Ne.symm hj)
  exact hfold _ s (.inl (List.mem_finRange k))

@[simp] theorem dropOutputs_posting (s : State) (p : Phys) : ((dropOutputs s p).sl p).posting = (s.sl p).posting :=
  foldl_part (fun t : State => (t.sl p).posting) _ (fun t j => by simp) _ s

/-- What a change of supply leaves of a slice. -/
theorem changeSupply_same (x : Slice) (pw : SlicePower) (mhz band : Nat) :
    (changeSupply x pw mhz band).z = x.z ∧ (changeSupply x pw mhz band).posting = x.posting ∧
    (changeSupply x pw mhz band).running = x.running := by
  have hfold (l : List SupplyStep) : ∀ x : Slice, (l.foldl supplyStep x).z = x.z ∧
      (l.foldl supplyStep x).posting = x.posting ∧ (l.foldl supplyStep x).running = x.running := by
    induction l with
    | nil => exact fun x => ⟨rfl, rfl, rfl⟩
    | cons d l ih =>
      intro x
      obtain ⟨hz, hp, hr⟩ := ih (supplyStep x d)
      cases d <;> exact ⟨hz, hp, hr⟩
  unfold changeSupply
  exact hfold _ x

@[simp] theorem unpowerSlice_cr_ne (s : State) (p q : Phys) (hq : q ≠ p) : (unpowerSlice s p).cr q = s.cr q := by
  simp [unpowerSlice, hq]

theorem unpowerSlice_spec (s : State) (p : Phys) : ((unpowerSlice s p).sl p).running = false ∧
    ((unpowerSlice s p).sl p).posting = (s.sl p).posting ∧ ∀ k, ((unpowerSlice s p).out p k).off := by
  obtain ⟨hz, hpost, hrun⟩ := changeSupply_same { (dropOutputs s p).sl p with running := false, clamped := true } .off 0
    s.thermal.band
  refine ⟨?_, ?_, fun k => ?_⟩
  · rw [unpowerSlice, sl_onSl, hrun]
  · rw [unpowerSlice, sl_onSl, hpost, dropOutputs_posting]
  · have hzp : (unpowerSlice s p).z p = (dropOutputs s p).z p := by
      rw [State.z, unpowerSlice, sl_onSl, hz, State.z]
    rw [State.out, hzp, ← State.out]
    exact dropOutputs_off s p k

/-! ### The collector's log -/

/-- The collector's log, which only a flush changes. -/
def State.ecLog (s : State) : List LogEntry := s.coll.log

theorem ecLog_of_grows {s t : State} (h : Grows s t) : t.ecLog = s.ecLog := h.log

@[simp] theorem evtIf_ecLog (s : State) (c : Bool) (p : Phys) (u b : Nat) : (s.evtIf c p u b).ecLog = s.ecLog := by
  unfold State.evtIf
  split
  · exact ecLog_of_grows (grows_evt ..)
  · rfl

@[simp] theorem evtP_ecLog (s : State) (g b : Nat) : (s.evtP g b).ecLog = s.ecLog := ecLog_of_grows (grows_evtP ..)
@[simp] theorem errP_ecLog (s : State) (g c e : Nat) : (s.errP g c e).ecLog = s.ecLog := ecLog_of_grows (grows_errP ..)

theorem ecLog_ite (c : Prop) [Decidable c] (a b : State) : (if c then a else b).ecLog = if c then a.ecLog else b.ecLog := by
  split <;> rfl

theorem ecLog_of_coll {s t : State} (h : t.coll = s.coll) : t.ecLog = s.ecLog := congrArg Collector.log h

@[simp] theorem onSl_ecLog (s : State) (p : Phys) (f : Slice → Slice) : (s.onSl p f).ecLog = s.ecLog := ecLog_of_coll (by simp)
@[simp] theorem onOuts_ecLog (s : State) (p : Phys) (f : Outs → Outs) : (s.onOuts p f).ecLog = s.ecLog :=
  ecLog_of_coll (by simp [State.onOuts])
@[simp] theorem wWord_ecLog (s : State) (p : Phys) (r : Reg) (w : Word) (i : Nat) : (s.wWord p r w i).ecLog = s.ecLog :=
  ecLog_of_coll (by simp)
@[simp] theorem syncHold_ecLog (s : State) (p : Phys) : (syncHold s p).ecLog = s.ecLog :=
  ecLog_of_coll (by simp [syncHold])

@[simp] theorem onOut_ecLog (s : State) (p : Phys) (j : Out) (f : OutSt → OutSt) : (s.onOut p j f).ecLog = s.ecLog := by
  simp [State.onOut, ecLog_ite]

@[simp] theorem dropOutputs_ecLog (s : State) (p : Phys) : (dropOutputs s p).ecLog = s.ecLog :=
  foldl_part State.ecLog _ (fun _ _ => by simp) _ s

@[simp] theorem unpowerSlice_ecLog (s : State) (p : Phys) : (unpowerSlice s p).ecLog = s.ecLog := by
  simp [unpowerSlice]

@[simp] theorem setLink_ecLog (s : State) (n : Nat) (l : BitVec 4) : (setLink s n l).ecLog = s.ecLog := by
  have h (f : Link → Link) : (s.onLk f).ecLog = s.ecLog := rfl
  simp [setLink, ecLog_ite, h]

/-! ### The module without power (R43, R555) -/

theorem setLink_slices (s : State) (n : Nat) (l : BitVec 4) : (setLink s n l).slices = s.slices := by
  have h (f : Link → Link) : (s.onLk f).slices = s.slices := rfl
  unfold setLink
  dsimp only
  split_ifs <;> simp [h]

/-- The porch without power, its slices already stopped (R43, R555). -/
def porchOff (a : State) (cause : WarnCause) : State :=
  let s2 := (setLink (a.clampBlocks (.hallway :: porchBlocks)) 0 0#4).onJ
    (fun j => { j with opened := false, replay := true, takeLeft := 0, ahead := 0 })
  ({ s2 with ports := s2.ports.map (fun (x : PortSt) => { x with state := 0, alone := false }) } : State).onSu (fun u => { u with
    powered := false, started := false, railOn := false, charging := false, precharged := false, cause := warnCode cause,
    pdet1 := u.pdet1 || cause == .pdetS1, pdet2 := u.pdet2 || cause == .pdetS2, inputOff := cause == .high })

theorem powerOff_eq (s : State) (c : WarnCause) : powerOff s c = porchOff (eachSlice s unpowerSlice) c := by
  rw [powerOff, porchOff]

section PorchOff
variable (a : State) (c : WarnCause)

theorem porchOff_supply : (porchOff a c).supply.powered = false ∧ (porchOff a c).supply.started = false ∧
    (porchOff a c).supply.railOn = false ∧ (porchOff a c).supply.cause = warnCode c := ⟨rfl, rfl, rfl, rfl⟩

theorem porchOff_journal : (porchOff a c).journal.opened = false ∧ (porchOff a c).journal.replay = true := ⟨rfl, rfl⟩

theorem porchOff_slices : (porchOff a c).slices = a.slices :=
  (setLink_slices (a.clampBlocks (.hallway :: porchBlocks)) 0 0#4 :)

theorem porchOff_ecLog : (porchOff a c).ecLog = a.ecLog :=
  (setLink_ecLog (a.clampBlocks (.hallway :: porchBlocks)) 0 0#4 :)

end PorchOff

theorem powerOff_spec (s : State) (c : WarnCause) : (powerOff s c).ecLog = s.ecLog ∧
    ∀ p, ((powerOff s c).sl p).running = false ∧ ((powerOff s c).sl p).posting = (s.sl p).posting ∧
      ∀ k, ((powerOff s c).out p k).off := by
  obtain ⟨hlog, hall⟩ := eachSlice_spec (f := unpowerSlice) (fun t => t.ecLog = s.ecLog)
    (fun t p h => (unpowerSlice_ecLog t p).trans h) (fun t p q hq => unpowerSlice_cr_ne t p q hq) s rfl
  rw [powerOff_eq]
  generalize eachSlice s unpowerSlice = a at *
  refine ⟨(porchOff_ecLog a c).trans hlog, fun p => ?_⟩
  obtain ⟨t, -, hcr, hown⟩ := hall p
  obtain ⟨hrun, hpost, hoff⟩ := unpowerSlice_spec t p
  have hsl : (porchOff a c).cr p = (unpowerSlice t p).cr p := (cr_of_slices (porchOff_slices a c) p).trans hown
  refine ⟨(running_of_cr hsl).trans hrun, ((posting_of_cr hsl).trans hpost).trans (posting_of_cr hcr), fun k => ?_⟩
  rw [State.out, z_of_cr hsl]
  exact hoff k

end Sys2Proof.Machine

namespace Sys2Proof.Machine
open Host

/-! ### The log buffer at power loss (R514) -/

theorem mem_keepLast_concat {α : Type} {n : Nat} (hn : 0 < n) (l : List α) (x : α) : x ∈ keepLast n (l ++ [x]) := by
  have hk : (l ++ [x]).length - n ≤ l.length := by simp; omega
  rw [keepLast, List.drop_append_of_le_length hk]
  exact List.mem_append_right _ (List.mem_singleton_self x)

/-- An error entry of the porch ends the collector's buffer where it has room. -/
theorem errP_buf (s : State) (g c e : Nat) (h : s.coll.buf.length < Config.collectorBuffer) :
    ∃ x, (s.errP g c e).coll.buf = s.coll.buf ++ [x] ∧ x.page = g ∧ x.entry = entryOf c e := by
  obtain ⟨t, ht, -, hcoll⟩ := post_eq_log s g (entryOf c e)
  rw [State.errP, ht, State.log, hcoll, if_pos h]
  exact ⟨_, rfl, rfl, rfl⟩

theorem errP_log (s : State) (g c e : Nat) : (s.errP g c e).coll.log = s.coll.log := errP_ecLog s g c e

theorem flushCollector_slices (s : State) : (flushCollector s).slices = s.slices := by
  unfold flushCollector
  dsimp only
  split
  · rw [(pbump_same ..).2.2.2.1]
  · rw [(errP_same ..).2.2.2.2.1, (pbump_same ..).2.2.2.1, (pbump_same ..).2.2.2.1]

theorem flushCollector_time (s : State) : (flushCollector s).time = s.time := by
  unfold flushCollector
  dsimp only
  split <;> simp

theorem flushCollector_log (s : State) : (flushCollector s).coll.log = appendLog s.coll.log s.coll.buf := by
  unfold flushCollector
  dsimp only
  split
  · simp
  · simp [errP_log]

/-- The end of the buffer stands in the log after a flush. -/
theorem mem_flushCollector_log {s : State} {l : List LogEntry} {x : LogEntry} (h : s.coll.buf = l ++ [x]) :
    x ∈ (flushCollector s).coll.log := by
  rw [flushCollector_log, appendLog, h, ← List.append_assoc]
  exact mem_keepLast_concat (by decide) _ x

/-! ### Nothing to force (R39) -/

theorem onRs_noWait {s : State} (h : s.store.wait = []) : s.onRs (fun r => { r with wait := [] }) = s := by
  rw [State.onRs, ← h]

theorem writeZone_noWait {s : State} (h : s.store.wait = []) (z : Zone) : writeZone s z = s := by
  have hready : writeReady s 0 [] = s := onRs_noWait h
  have happ : s.onRs (fun r => { r with wait := r.wait ++ [] }) = s := by simp [State.onRs]
  simp only [writeZone, h, List.filter_nil, List.length_nil, hready, happ, writeWaiting]

theorem forceClosings_noWait {s : State} (h : s.store.wait = []) (p : Phys) : forceClosings s p = s := by
  unfold forceClosings
  split
  · rfl
  · rw [if_neg (by simp [h]), writeZone_noWait h]

theorem eachSlice_idle {f : State → Phys → State} {s : State} (h : ∀ p, f s p = s) : eachSlice s f = s := by
  have hl (l : List Phys) : l.foldl f s = s := by
    induction l with
    | nil => rfl
    | cons p l ih => rw [List.foldl_cons, h, ih]
  exact hl _

/-! ### Postings and checkpoints at power loss (R43) -/

@[simp] theorem onBank_same (s : State) (b : Fin 2) (f : Bank → Bank) : (s.onBank b f).sameButUpkeep s := onUp_same ..

@[simp] theorem wroteGen_same (s : State) (a b : DurItem) : (s.wroteGen a b).sameButUpkeep s := by
  unfold State.wroteGen State.sameButUpkeep State.sameRest
  split <;> simp

@[simp] theorem wroteGen_sl (s : State) (a b : DurItem) (p : Phys) : (s.wroteGen a b).sl p = s.sl p :=
  sl_of_slices (by simp) p

@[simp] theorem postMeter_cr_time (s : State) (p : Phys) : (postMeter s p).time = s.time ∧ (postMeter s p).coll = s.coll := by
  simp [postMeter, State.onMt]

/-- The posting that a slice leaves (R166, R382). -/
theorem postMeter_posting (s : State) (p : Phys) : ∃ x, ((postMeter s p).sl p).posting = some x ∧ x.time = s.slNow p := by
  have h : ((postMeter s p).sl p).posting.map Posting.time = some (s.slNow p) := by
    unfold postMeter
    dsimp only
    rw [State.onMt, State.onZ, sl_onSl, wroteGen_sl, sl_onSl]
    rfl
  exact Option.map_eq_some_iff.mp h

theorem askCheckpoints_coll (s : State) : (askCheckpoints s).coll = s.coll := by
  unfold askCheckpoints
  split
  · split
    · refine foldl_part State.coll _ (fun t z => ?_) _ _
      split <;> simp
    · rfl
  · rfl

theorem fillRules_ecLog (s : State) : (fillRules s).ecLog = s.ecLog := by
  have ha : (askCheckpoints s).ecLog = s.ecLog := ecLog_of_coll (askCheckpoints_coll s)
  have hj (t : State) (f : Journal → Journal) : (t.onJ f).ecLog = t.ecLog := ecLog_of_coll (by simp)
  have hb (t : State) (x : Fld) (n i : Nat) : (t.pbump x n i).ecLog = t.ecLog := ecLog_of_coll (by simp)
  unfold fillRules
  dsimp only
  split_ifs <;> simp [ha, hj, hb]

theorem fillRules_time (s : State) : (fillRules s).time = s.time := by
  unfold fillRules
  dsimp only
  split_ifs <;> simp

/-- What a slice with power posts and checkpoints at power loss. -/
def commitSlice (s : State) (p : Phys) : State :=
  if (s.sl p).running then
    let s1 := postMeter s p
    if (s1.sl p).ckptDue then writeCheckpoint s1 p else s1
  else s

theorem writeCheckpoint_spec (s : State) (p : Phys) : ((writeCheckpoint s p).sl p).posting = (s.sl p).posting ∧
    (writeCheckpoint s p).time = s.time ∧ (writeCheckpoint s p).ecLog = s.ecLog := by
  unfold writeCheckpoint
  dsimp only
  refine ⟨?_, ?_, ?_⟩
  · rw [posting_of_cr (releaseLarder_cr _ p), wroteGen_sl, sl_onSl]
  · rw [releaseLarder, fillRules_time]
    simp
  · rw [releaseLarder, fillRules_ecLog]
    exact ecLog_of_coll (by simp)

theorem commitSlice_spec (s : State) (p : Phys) : (commitSlice s p).time = s.time ∧ (commitSlice s p).ecLog = s.ecLog ∧
    (∀ q, q ≠ p → (commitSlice s p).cr q = s.cr q) ∧
    ((s.sl p).running = true → ∃ x, ((commitSlice s p).sl p).posting = some x ∧ x.time = s.slNow p) := by
  obtain ⟨htime, hcoll⟩ := postMeter_cr_time s p
  obtain ⟨hpost, htime', hlog⟩ := writeCheckpoint_spec (postMeter s p) p
  unfold commitSlice
  dsimp only
  split_ifs with hrun hdue
  · refine ⟨htime'.trans htime, hlog.trans (ecLog_of_coll hcoll), fun q hq => ?_, fun _ => ?_⟩
    · rw [writeCheckpoint_cr_ne _ _ _ hq, postMeter_cr_ne _ _ _ hq]
    · rw [hpost]
      exact postMeter_posting s p
  · exact ⟨htime, ecLog_of_coll hcoll, fun q hq => postMeter_cr_ne _ _ _ hq, fun _ => postMeter_posting s p⟩
  · exact ⟨rfl, rfl, fun _ _ => rfl, fun h => absurd h hrun⟩

theorem slNow_of {s t : State} {p : Phys} (hcr : t.cr p = s.cr p) (htime : t.time = s.time) : t.slNow p = s.slNow p := by
  rw [State.slNow, time_of_cr hcr, State.now, htime, State.slNow, State.now]

/-- The commit on the hold-up, with no command in flight and no interval waiting (R43, R514). -/
theorem holdupCommit_spec {s : State} {w : Warning} (hflight : w.flight = none) (hwait : s.store.wait = []) :
    (s.coll.buf.length < Config.collectorBuffer → ∃ x ∈ (holdupCommit s w).ecLog, x.page = 9 ∧
      x.entry = entryOf (warnCode w.cause) 0x8508) ∧
    ∀ p, (s.sl p).running = true → ∃ x, ((holdupCommit s w).sl p).posting = some x ∧ x.time = s.slNow p := by
  have hforce : eachSlice s (fun s p => if (s.sl p).running then forceClosings s p else s) = s :=
    eachSlice_idle fun p => by rw [forceClosings_noWait hwait, ite_self]
  have hwrite : writeWaiting s = s := by
    rw [writeWaiting, hwait]
    exact onRs_noWait hwait
  obtain ⟨e, he⟩ : ∃ e, e = s.errP 9 (warnCode w.cause) 0x8508 := ⟨_, rfl⟩
  obtain ⟨d, hd⟩ : ∃ d, d = flushCollector e := ⟨_, rfl⟩
  have heq : holdupCommit s w = eachSlice d commitSlice := by
    rw [hd, he]
    unfold holdupCommit commitSlice
    rw [hflight]
    dsimp only
    rw [hforce, hwrite]
  obtain ⟨⟨-, hlog⟩, hall⟩ := eachSlice_spec (f := commitSlice) (fun t => t.time = d.time ∧ t.ecLog = d.ecLog)
    (fun t p h => by
      obtain ⟨htime, hlog, -, -⟩ := commitSlice_spec t p
      exact ⟨htime.trans h.1, hlog.trans h.2⟩)
    (fun t p q hq => (commitSlice_spec t p).2.2.1 q hq) d ⟨rfl, rfl⟩
  rw [heq]
  refine ⟨fun hroom => ?_, fun p hrun => ?_⟩
  · obtain ⟨x, hbuf, hpage, hentry⟩ := errP_buf s 9 (warnCode w.cause) 0x8508 hroom
    refine ⟨x, ?_, hpage, hentry⟩
    rw [hlog, hd]
    exact mem_flushCollector_log (he ▸ hbuf)
  · obtain ⟨t, ⟨htime, -⟩, hcr, hown⟩ := hall p
    have hde : d.cr p = s.cr p := by
      rw [hd, cr_of_slices (flushCollector_slices e), he, State.errP_cr]
    have hdt : d.time = s.time := by
      rw [hd, flushCollector_time, he]
      simp
    obtain ⟨-, -, -, hpost⟩ := commitSlice_spec t p
    obtain ⟨x, hx, hxt⟩ := hpost ((running_of_cr (hcr.trans hde)).trans hrun)
    exact ⟨x, (posting_of_cr hown).trans hx, hxt.trans (slNow_of (hcr.trans hde) (htime.trans hdt))⟩

/-! ### The pads at the sill, the calendar (R43, R463) -/

/-- What holding the pads leaves alone. -/
theorem sillHold_spec (s : State) : (sillHold s).still = s.still ∧ (sillHold s).coll = s.coll ∧
    ∀ p, ((sillHold s).sl p).running = (s.sl p).running ∧ (sillHold s).slNow p = s.slNow p := by
  refine ⟨?_, ?_, fun p => ?_⟩
  · exact foldl_part State.still _ (fun t p => by simp [State.onOuts]) _ s
  · exact foldl_part State.coll _ (fun t p => by simp [State.onOuts]) _ s
  · have htime : (sillHold s).time = s.time := foldl_part State.time _ (fun t p => by simp [State.onOuts]) _ s
    have hslice : ((sillHold s).sl p).running = (s.sl p).running ∧ ((sillHold s).sl p).time = (s.sl p).time := by
      have hone (t : State) (q : Phys) (f : Outs → Outs) : ((t.onOuts q f).sl p).running = (t.sl p).running ∧
          ((t.onOuts q f).sl p).time = (t.sl p).time := by
        rw [State.onOuts, State.onZ, State.onSl, sl_setSl]
        split
        · next h => subst h; exact ⟨rfl, rfl⟩
        · exact ⟨rfl, rfl⟩
      exact ⟨foldl_part (fun t : State => (t.sl p).running) _ (fun t q => (hone t q _).1) _ s,
        foldl_part (fun t : State => (t.sl p).time) _ (fun t q => (hone t q _).2) _ s⟩
    refine ⟨hslice.1, ?_⟩
    rw [State.slNow, hslice.2, State.now, htime, State.slNow, State.now]

theorem onCl_slices (s : State) (f : Cellar → Cellar) : (s.onCl f).slices = s.slices := rfl
theorem onCl_ecLog (s : State) (f : Cellar → Cellar) : (s.onCl f).ecLog = s.ecLog := rfl

theorem noteCalinv_spec (b s : State) : (noteCalinv b s).slices = s.slices ∧ (noteCalinv b s).ecLog = s.ecLog := by
  unfold noteCalinv
  split
  · exact ⟨rfl, rfl⟩
  · exact ⟨by simp, evtP_ecLog ..⟩

theorem writeCalendar_spec (s : State) (v : Int) :
    (writeCalendar s v).slices = s.slices ∧ (writeCalendar s v).ecLog = s.ecLog := by
  unfold writeCalendar
  dsimp only
  obtain ⟨hs, hl⟩ := noteCalinv_spec s (s.onCl _)
  exact ⟨hs.trans (onCl_slices ..), hl.trans (onCl_ecLog ..)⟩

theorem timeSave_spec (s : State) : (timeSave s).slices = s.slices ∧ (timeSave s).ecLog = s.ecLog := by
  unfold timeSave
  dsimp only
  rw [onCl_slices, onCl_ecLog]
  split
  · exact writeCalendar_spec ..
  · exact ⟨rfl, rfl⟩

/-- The rail off and the pads held at the sill. -/
def railOff (s : State) : State := sillHold (s.onSu (fun u => { u with railOn := false }))

/-- What they leave for the commit: acceptance, supply and store as they were. -/
theorem railOff_spec (s : State) : (railOff s).journal = s.journal ∧ (railOff s).supply.powered = s.supply.powered ∧
    (railOff s).store = s.store ∧ (railOff s).landing = s.landing ∧ (railOff s).coll = s.coll ∧
    ∀ p, ((railOff s).sl p).running = (s.sl p).running ∧ (railOff s).slNow p = s.slNow p := by
  obtain ⟨hstill, hcoll, hslices⟩ := sillHold_spec (s.onSu (fun u => { u with railOn := false }))
  obtain ⟨⟨-, -, hlanding, -, hsupply, -, hstore, -⟩, hjournal, -⟩ := sameButSlicesPages_of_still hstill
  have hpowered : (railOff s).supply.powered = s.supply.powered := by rw [railOff, hsupply, State.onSu]
  exact ⟨hjournal, hpowered, hstore, hlanding, hcoll, hslices⟩

/-- The last steps of a power-loss warning: house time saved where the porch still runs, then the module without power. -/
def lossEnds (s : State) (c : WarnCause) : State :=
  powerOff ((if s.porchRuns && s.supply.started then timeSave s else s).onCl (fun c => { c with slewKept := 0 })) c

theorem lossEnds_spec (s : State) (c : WarnCause) : (lossEnds s c).ecLog = s.ecLog ∧
    ∀ p, ((lossEnds s c).sl p).posting = (s.sl p).posting := by
  unfold lossEnds
  obtain ⟨hs, hl⟩ : (if s.porchRuns && s.supply.started then timeSave s else s).slices = s.slices ∧
      (if s.porchRuns && s.supply.started then timeSave s else s).ecLog = s.ecLog := by
    split
    · exact timeSave_spec s
    · exact ⟨rfl, rfl⟩
  generalize (if s.porchRuns && s.supply.started then timeSave s else s) = a at *
  obtain ⟨hlog, hall⟩ := powerOff_spec (a.onCl (fun c => { c with slewKept := 0 })) c
  refine ⟨hlog.trans ((onCl_ecLog ..).trans hl), fun p => ?_⟩
  obtain ⟨-, hpost, -⟩ := hall p
  rw [hpost, sl_of_slices ((onCl_slices ..).trans hs)]

/-- What a warning commits: nothing before acceptance has opened. -/
def committed (s : State) (w : Warning) : State :=
  if s.journal.opened && s.porchRuns then holdupCommit (abandonEntry s) w else s

theorem powerLoss_eq {s : State} (hpow : s.supply.powered = true) (w : Warning) :
    powerLoss s w = lossEnds (committed (railOff s) w) w.cause := by
  unfold powerLoss
  rw [if_neg (by simp [hpow])]
  rfl

theorem committed_eq {s : State} (hopen : s.journal.opened = true) (hruns : s.porchRuns = true)
    (hentry : s.landing.entry = none) (w : Warning) : committed s w = holdupCommit s w := by
  have ha : abandonEntry s = s := by rw [abandonEntry, hentry]
  rw [committed, hopen, hruns, ha]
  rfl

/-- A power-loss warning once acceptance was open, with no command in flight (R43, R514). -/
theorem powerLoss_commits {s : State} {w : Warning} (hpow : s.supply.powered = true) (hopen : s.journal.opened = true)
    (hruns : s.porchRuns = true) (hentry : s.landing.entry = none) (hflight : w.flight = none)
    (hwait : s.store.wait = []) :
    (s.coll.buf.length < 64 → ∃ x ∈ (powerLoss s w).ecLog, x.page = 9 ∧ x.entry = entryOf (warnCode w.cause) 0x8508) ∧
    ∀ p, (s.sl p).running = true → ∃ x, ((powerLoss s w).sl p).posting = some x ∧ x.time = s.slNow p := by
  have heq := powerLoss_eq hpow w
  obtain ⟨hjournal, hpowered, hstore, hlanding, hcoll, hslices⟩ := railOff_spec s
  have hruns' : (railOff s).porchRuns = true := by rwa [State.porchRuns, hpowered, hlanding]
  rw [committed_eq (by rw [hjournal, hopen]) hruns' (by rw [hlanding, hentry])] at heq
  obtain ⟨hlog, hpost⟩ := holdupCommit_spec (s := railOff s) hflight (by rw [hstore, hwait])
  obtain ⟨hendLog, hendPost⟩ := lossEnds_spec (holdupCommit (railOff s) w) w.cause
  rw [heq, hendLog]
  refine ⟨fun hroom => hlog (by rwa [hcoll]), fun p hrun => ?_⟩
  obtain ⟨hrun', hnow⟩ := hslices p
  rw [hendPost, ← hnow]
  exact hpost p (hrun'.trans hrun)

/-- A power-loss warning of a powered module (R43, R552). -/
theorem powerLoss_stops {s : State} (hpow : s.supply.powered = true) (w : Warning) :
    ((powerLoss s w).supply.powered = false ∧ (powerLoss s w).supply.started = false ∧
      (powerLoss s w).supply.railOn = false ∧ (powerLoss s w).supply.cause = warnCode w.cause) ∧
    ((powerLoss s w).journal.opened = false ∧ (powerLoss s w).journal.replay = true) ∧
    (∀ p, ((powerLoss s w).sl p).running = false) ∧ ∀ p k, ((powerLoss s w).out p k).off := by
  rw [powerLoss_eq hpow, lossEnds]
  generalize (if (committed (railOff s) w).porchRuns && (committed (railOff s) w).supply.started then
    timeSave (committed (railOff s) w) else committed (railOff s) w).onCl (fun c => { c with slewKept := 0 }) = a
  obtain ⟨-, hall⟩ := powerOff_spec a w.cause
  rw [powerOff_eq] at hall ⊢
  refine ⟨porchOff_supply .., porchOff_journal .., fun p => ?_, fun p => ?_⟩
  · obtain ⟨hrun, -, -⟩ := hall p
    exact hrun
  · obtain ⟨-, -, hoff⟩ := hall p
    exact hoff

end Sys2Proof.Machine

namespace Sys2Proof.Machine
open Host

/-! ### Supply and acceptance (R43, R346, R553)

What START_UP runs between the restart of the porch and the opening of acceptance changes neither the supply nor acceptance. One
equation an operation. -/

/-- Supply, acceptance and replay. -/
structure Gate where
  supply : Supply
  opened : Bool
  replay : Bool

/-- Supply, acceptance and replay of a state. -/
def State.gate (s : State) : Gate := ⟨s.supply, s.journal.opened, s.journal.replay⟩

@[simp] theorem gate_mk (pe ti ce la cn su th jo st up mo co li sp po ta ma zo sl hd re lt em fr) :
    (State.mk pe ti ce la cn su th jo st up mo co li sp po ta ma zo sl hd re lt em fr).gate = ⟨su, jo.opened, jo.replay⟩ := rfl
@[simp] theorem gate_eta (s : State) : (⟨s.supply, s.journal.opened, s.journal.replay⟩ : Gate) = s.gate := rfl

/-- An operation applied under a condition. -/
@[simp] theorem gate_ite (c : Prop) [Decidable c] (a b : State) :
    (if c then a else b).gate = if c then a.gate else b.gate := by split <;> rfl

/-- A fold of operations that leave supply and acceptance alone. -/
@[simp] theorem gate_foldl {α : Type} (f : State → α → State) (h : ∀ s a, (f s a).gate = s.gate) (l : List α) (s : State) :
    (l.foldl f s).gate = s.gate := by
  induction l generalizing s with
  | nil => rfl
  | cons a l ih => rw [List.foldl_cons, ih, h]

/-- The same of a fold that carries a value beside the state. -/
@[simp] theorem gate_foldl_fst {α β : Type} (f : State × β → α → State × β) (h : ∀ c a, (f c a).1.gate = c.1.gate)
    (l : List α) (c : State × β) : (l.foldl f c).1.gate = c.1.gate := by
  induction l generalizing c with
  | nil => rfl
  | cons a l ih => rw [List.foldl_cons, ih, h]

@[simp] theorem State.setSl_gate (s : State) (p : Phys) (x : Slice) : (State.setSl s p x).gate = s.gate := by
  simp [State.setSl]

@[simp] theorem State.onSl_gate (s : State) (p : Phys) (f : Slice → Slice) : (State.onSl s p f).gate = s.gate := by
  simp [State.onSl]

@[simp] theorem State.onZ_gate (s : State) (p : Phys) (f : ZoneState → ZoneState) : (State.onZ s p f).gate = s.gate := by
  simp [State.onZ]

@[simp] theorem State.onR_gate (s : State) (p : Phys) (f : RegFile → RegFile) : (State.onR s p f).gate = s.gate := by
  simp [State.onR]

@[simp] theorem State.w_gate (s : State) (p : Phys) (x : Fld) (v : Nat) (i : Nat) : (State.w s p x v i).gate = s.gate := by
  simp [State.w]

@[simp] theorem State.wi_gate (s : State) (p : Phys) (x : Fld) (v : Int) (i : Nat) : (State.wi s p x v i).gate = s.gate := by
  simp [State.wi]

@[simp] theorem State.wb_gate (s : State) (p : Phys) (x : Fld) (b : Bool) (i : Nat) :
    (State.wb s p x b i).gate = s.gate := by
  simp [State.wb]

@[simp] theorem State.bump_gate (s : State) (p : Phys) (x : Fld) (by_ : Nat) (i : Nat) :
    (State.bump s p x by_ i).gate = s.gate := by
  simp [State.bump]

@[simp] theorem State.wWord_gate (s : State) (p : Phys) (r : Reg) (v : Word) (i : Nat) :
    (State.wWord s p r v i).gate = s.gate := by
  simp [State.wWord]

@[simp] theorem State.pw_gate (s : State) (x : Fld) (v : Nat) (i : Nat) : (State.pw s x v i).gate = s.gate := by
  simp [State.pw]

@[simp] theorem State.pwb_gate (s : State) (x : Fld) (b : Bool) (i : Nat) : (State.pwb s x b i).gate = s.gate := by
  simp [State.pwb]

@[simp] theorem State.pbump_gate (s : State) (x : Fld) (by_ : Nat) (i : Nat) : (State.pbump s x by_ i).gate = s.gate := by
  simp [State.pbump]

@[simp] theorem State.emit_gate (s : State) (e : Emit) : (State.emit s e).gate = s.gate := by
  simp [State.emit]

@[simp] theorem State.freshNat_gate (s : State) : (State.freshNat s).2.gate = s.gate := by
  simp [State.freshNat]

@[simp] theorem State.setHdr_gate (s : State) (page : Nat) (h : Hdr) : (State.setHdr s page h).gate = s.gate := by
  simp [State.setHdr]

@[simp] theorem State.onHdr_gate (s : State) (page : Nat) (f : Hdr → Hdr) : (State.onHdr s page f).gate = s.gate := by
  simp [State.onHdr]

@[simp] theorem State.touch_gate (s : State) (page : Nat) : (State.touch s page).gate = s.gate := by
  simp [State.touch]

@[simp] theorem repulse_gate (before : State) (h : Hdr) (bits : Nat) (l : Fin 2) (s : State) :
    (repulse before h bits l s).gate = s.gate := by
  simp [repulse]

@[simp] theorem setIsrFrom_gate (before : State) (s : State) (page : Nat) (bits : Nat) :
    (setIsrFrom before s page bits).gate = s.gate := by
  simp [setIsrFrom]

@[simp] theorem State.setIsr_gate (s : State) (page : Nat) (bits : Nat) : (State.setIsr s page bits).gate = s.gate := by
  simp [State.setIsr]

@[simp] theorem State.notePwrs_gate (s : State) (l : List Nat) : (State.notePwrs s l).gate = s.gate := by
  simp [State.notePwrs]

@[simp] theorem noteBusy_gate (before : State) (p : Phys) (s : State) : (noteBusy before p s).gate = s.gate := by
  simp [noteBusy]

@[simp] theorem notePorchBusy_gate (before : State) (s : State) : (notePorchBusy before s).gate = s.gate := by
  simp [notePorchBusy]

@[simp] theorem State.evtP_gate (s : State) (page : Nat) (bit : Nat) : (State.evtP s page bit).gate = s.gate := by
  simp [State.evtP]

@[simp] theorem State.evt_gate (s : State) (p : Phys) (sub : Nat) (bit : Nat) : (State.evt s p sub bit).gate = s.gate := by
  simp [State.evt]

@[simp] theorem State.evtIf_gate (s : State) (c : Bool) (p : Phys) (sub : Nat) (bit : Nat) :
    (State.evtIf s c p sub bit).gate = s.gate := by
  simp [State.evtIf]

@[simp] theorem noteSum_gate (before : State) (s : State) : (noteSum before s).gate = s.gate := by
  simp [noteSum]

@[simp] theorem State.log_gate (s : State) (page : Nat) (e : Word) : (State.log s page e).gate = s.gate := by
  simp [State.log]

@[simp] theorem State.post_gate (s : State) (page : Nat) (e : Word) : (State.post s page e).gate = s.gate := by
  simp [State.post]

@[simp] theorem State.errP_gate (s : State) (page : Nat) (ctx : Nat) (code : Nat) :
    (State.errP s page ctx code).gate = s.gate := by
  simp [State.errP]

@[simp] theorem State.err_gate (s : State) (p : Phys) (sub : Nat) (ctx : Nat) (code : Nat) :
    (State.err s p sub ctx code).gate = s.gate := by
  simp [State.err]

@[simp] theorem noteDraught_gate (before : State) (s : State) : (noteDraught before s).gate = s.gate := by
  simp [noteDraught]

@[simp] theorem State.clearDraught_gate (s : State) : (State.clearDraught s).gate = s.gate := by
  simp [State.clearDraught]

@[simp] theorem State.wbEvt_gate (s : State) (p : Phys) (x : Fld) (b : Bool) (sub : Nat) (bit : Nat) (i : Nat) :
    (State.wbEvt s p x b sub bit i).gate = s.gate := by
  simp [State.wbEvt]

@[simp] theorem State.onUp_gate (s : State) (f : Upkeep → Upkeep) : (State.onUp s f).gate = s.gate := by
  simp [State.onUp]

@[simp] theorem State.onBank_gate (s : State) (b : Fin 2) (f : Bank → Bank) : (State.onBank s b f).gate = s.gate := by
  simp [State.onBank]

@[simp] theorem State.wrote_gate (s : State) (d : DurItem) : (State.wrote s d).gate = s.gate := by
  simp [State.wrote]

@[simp] theorem State.spoil_gate (s : State) (x : BadItem) : (State.spoil s x).gate = s.gate := by
  simp [State.spoil]

@[simp] theorem State.onInp_gate (s : State) (p : Phys) (f : Inputs → Inputs) : (State.onInp s p f).gate = s.gate := by
  simp [State.onInp]

@[simp] theorem restartFilters_gate (s : State) (p : Phys) : (restartFilters s p).gate = s.gate := by
  simp [restartFilters]

@[simp] theorem spoilWindows_gate (s : State) (p : Phys) : (spoilWindows s p).gate = s.gate := by
  simp [spoilWindows]

@[simp] theorem holdReadings_gate (s : State) (p : Phys) : (holdReadings s p).gate = s.gate := by
  simp [holdReadings]

@[simp] theorem State.onJ_gate (s : State) (f : Journal → Journal) :
    (State.onJ s f).gate = ⟨s.supply, (f s.journal).opened, (f s.journal).replay⟩ := rfl

@[simp] theorem addEntry_gate (s : State) (i : LdItem) : (addEntry s i).gate = s.gate := by
  simp [addEntry]

@[simp] theorem askCheckpoints_gate (s : State) : (askCheckpoints s).gate = s.gate := by
  unfold askCheckpoints
  (repeat' split) <;> simp

@[simp] theorem fillRules_gate (s : State) : (fillRules s).gate = s.gate := by
  simp [fillRules]

@[simp] theorem releaseLarder_gate (s : State) : (releaseLarder s).gate = s.gate := by
  simp [releaseLarder]

@[simp] theorem endInternal_gate (s : State) (r : Running) (final : Bool) : (endInternal s r final).gate = s.gate := by
  simp [endInternal]

@[simp] theorem markZone_gate (s : State) (lseq : Nat) (z : Zone) (result : Nat) (reason : Nat) (value : Word) :
    (markZone s lseq z result reason value).gate = s.gate := by
  unfold markZone
  (repeat' split) <;> simp

@[simp] theorem markPorch_gate (s : State) (lseq : Nat) (result : Nat) (reason : Nat) (value : Word) :
    (markPorch s lseq result reason value).gate = s.gate := by
  unfold markPorch
  (repeat' split) <;> simp

@[simp] theorem State.onQueue_gate (s : State) (f : List Exec → List Exec) : (State.onQueue s f).gate = s.gate := by
  simp [State.onQueue]

@[simp] theorem drainNops_gate (s : State) : (drainNops s).gate = s.gate := by
  simp [drainNops]

@[simp] theorem storeFinal_gate (s : State) (lseq : Nat) : (storeFinal s lseq).gate = s.gate := by
  simp [storeFinal]

@[simp] theorem placeZones_gate (s : State) (h : Handing) (blocked : BitVec 64) :
    (placeZones s h blocked).1.gate = s.gate := by
  unfold placeZones
  refine gate_foldl_fst _ (fun c a => ?_) _ _
  simp only []
  split <;> simp

@[simp] theorem deliverList_gate (s : State) (blocked : BitVec 64) (l : List Handing) :
    (deliverList s blocked l).1.gate = s.gate := by
  induction l generalizing s blocked with
  | nil => rfl
  | cons h l ih => simp [deliverList, ih]

@[simp] theorem deliver_gate (s : State) : (deliver s).gate = s.gate := by
  simp [deliver]

@[simp] theorem State.onOuts_gate (s : State) (p : Phys) (f : Outs → Outs) : (State.onOuts s p f).gate = s.gate := by
  simp [State.onOuts]

@[simp] theorem syncHold_gate (s : State) (p : Phys) : (syncHold s p).gate = s.gate := by
  simp [syncHold]

@[simp] theorem State.onOut_gate (s : State) (p : Phys) (j : Out) (f : OutSt → OutSt) :
    (State.onOut s p j f).gate = s.gate := by
  simp [State.onOut]

@[simp] theorem endPulse_gate (s : State) (p : Phys) (j : Out) (result : Nat) (reason : Nat) :
    (endPulse s p j result reason).gate = s.gate := by
  unfold endPulse
  (repeat' split) <;> simp

@[simp] theorem holdOutputs_gate (s : State) (p : Phys) : (holdOutputs s p).gate = s.gate := by
  simp [holdOutputs]

@[simp] theorem takeHeld_gate (s : State) (p : Phys) : (takeHeld s p).gate = s.gate := by
  simp [takeHeld]

@[simp] theorem setLife_gate (s : State) (p : Phys) (st : SliceState) (cause : Nat) :
    (setLife s p st cause).gate = s.gate := by
  simp [setLife]

@[simp] theorem stopSliceTo_gate (s : State) (p : Phys) (pw : SlicePower) : (stopSliceTo s p pw).gate = s.gate := by
  simp [stopSliceTo]

@[simp] theorem stopSlice_gate (s : State) (p : Phys) : (stopSlice s p).gate = s.gate := by
  simp [stopSlice]

@[simp] theorem failSlice_gate (s : State) (p : Phys) (code : Nat) (cause : Nat) :
    (failSlice s p code cause).gate = s.gate := by
  simp [failSlice]

@[simp] theorem State.onCv_gate (s : State) (p : Phys) (f : Conv → Conv) : (State.onCv s p f).gate = s.gate := by
  simp [State.onCv]

@[simp] theorem State.onSeq_gate (s : State) (p : Phys) (q : Fin 4) (f : SeqSt → SeqSt) :
    (State.onSeq s p q f).gate = s.gate := by
  simp [State.onSeq]

@[simp] theorem syncConv_gate (s : State) (p : Phys) : (syncConv s p).gate = s.gate := by
  simp [syncConv]

@[simp] theorem restartCal_gate (s : State) (p : Phys) : (restartCal s p).gate = s.gate := by
  simp [restartCal]

@[simp] theorem syncTrims_gate (s : State) (p : Phys) : (syncTrims s p).gate = s.gate := by
  simp [syncTrims]

@[simp] theorem takeBand_gate (s : State) (p : Phys) : (takeBand s p).gate = s.gate := by
  simp [takeBand]

@[simp] theorem startPass_gate (s : State) (p : Phys) (q : Fin 4) (edge : Option Nat) :
    (startPass s p q edge).gate = s.gate := by
  simp [startPass]

@[simp] theorem settle_gate (s : State) (p : Phys) : (settle s p).gate = s.gate := by
  simp [settle]

@[simp] theorem dropTrigger_gate (s : State) (p : Phys) (q : Fin 4) : (dropTrigger s p q).gate = s.gate := by
  simp [dropTrigger]

@[simp] theorem acceptTrigger_gate (s : State) (p : Phys) (q : Fin 4) (edge : Option Nat) :
    (acceptTrigger s p q edge).gate = s.gate := by
  simp [acceptTrigger]

@[simp] theorem startTimer_gate (s : State) (p : Phys) (q : Fin 4) : (startTimer s p q).gate = s.gate := by
  simp [startTimer]

@[simp] theorem finishEnding_gate (s : State) (p : Phys) (q : Fin 4) : (finishEnding s p q).gate = s.gate := by
  simp [finishEnding]

@[simp] theorem seqDisabled_gate (s : State) (p : Phys) (q : Fin 4) : (seqDisabled s p q).gate = s.gate := by
  simp [seqDisabled]

@[simp] theorem firmwareSeqs_gate (s : State) (p : Phys) (on : Bool) : (firmwareSeqs s p on).gate = s.gate := by
  simp [firmwareSeqs]

@[simp] theorem restartSequences_gate (s : State) (p : Phys) : (restartSequences s p).gate = s.gate := by
  simp [restartSequences]

@[simp] theorem buildEntries_gate (s : State) (p : Phys) : (buildEntries s p).gate = s.gate := by
  simp [buildEntries]

@[simp] theorem setSliceClock_gate (s : State) (p : Phys) (mhz : Nat) : (setSliceClock s p mhz).gate = s.gate := by
  simp [setSliceClock]

@[simp] theorem refreshOut_gate (s : State) (p : Phys) (j : Out) : (refreshOut s p j).gate = s.gate := by
  simp [refreshOut]

@[simp] theorem State.onMt_gate (s : State) (p : Phys) (f : Meter → Meter) : (State.onMt s p f).gate = s.gate := by
  simp [State.onMt]

@[simp] theorem State.onCap_gate (s : State) (p : Phys) (f : Capture → Capture) : (State.onCap s p f).gate = s.gate := by
  simp [State.onCap]

@[simp] theorem fillShare_gate (s : State) (p : Phys) (older : Option Nat) (dt : Rat) (pw : Rat) (qw : Rat) (sw : Rat) :
    (fillShare s p older dt pw qw sw).gate = s.gate := by
  simp [fillShare]

@[simp] theorem showSynth_gate (s : State) (p : Phys) : (showSynth s p).gate = s.gate := by
  simp [showSynth]

@[simp] theorem noteFill_gate (s : State) (p : Phys) (dt : Rat) : (noteFill s p dt).gate = s.gate := by
  simp [noteFill]

@[simp] theorem fillUpTo_gate (s : State) (p : Phys) (at_ : Nat) : (fillUpTo s p at_).gate = s.gate := by
  unfold fillUpTo
  (repeat' split) <;> simp

@[simp] theorem showUnlocked_gate (s : State) (p : Phys) : (showUnlocked s p).gate = s.gate := by
  simp [showUnlocked]

@[simp] theorem endCycle_gate (s : State) (p : Phys) (f : Nat) : (endCycle s p f).gate = s.gate := by
  simp [endCycle]

@[simp] theorem cutMeter_gate (s : State) (p : Phys) (at_ : Nat) : (cutMeter s p at_).1.gate = s.gate := by
  unfold cutMeter
  simp only []
  (repeat' split) <;> simp

@[simp] theorem syncCap_gate (s : State) (p : Phys) : (syncCap s p).gate = s.gate := by
  simp [syncCap]

@[simp] theorem setSq0_gate (s : State) (p : Phys) (fast : Option Nat) : (setSq0 s p fast).gate = s.gate := by
  unfold setSq0
  (repeat' split) <;> simp

@[simp] theorem endWait_gate (s : State) (p : Phys) : (endWait s p).gate = s.gate := by
  unfold endWait
  (repeat' split) <;> simp

@[simp] theorem capAbort_gate (s : State) (p : Phys) : (capAbort s p).gate = s.gate := by
  simp [capAbort]

@[simp] theorem restartMeter_gate (s0 : State) (p : Phys) : (restartMeter s0 p).gate = s0.gate := by
  simp [restartMeter]

@[simp] theorem resumeMeter_gate (s : State) (p : Phys) (ck : Nat) (post : Option Posting) (fills : Bool) :
    (resumeMeter s p ck post fills).gate = s.gate := by
  unfold resumeMeter
  (repeat' split) <;> simp

@[simp] theorem driveSafe_gate (s : State) (p : Phys) (j : Out) : (driveSafe s p j).gate = s.gate := by
  simp [driveSafe]

@[simp] theorem flagInterval_gate (s : State) (p : Phys) (bit : Nat) : (flagInterval s p bit).gate = s.gate := by
  simp [flagInterval]

@[simp] theorem State.onSc_gate (s : State) (p : Phys) (f : Sched → Sched) : (State.onSc s p f).gate = s.gate := by
  simp [State.onSc]

@[simp] theorem setSchedState_gate (s : State) (p : Phys) (v : Nat) : (setSchedState s p v).gate = s.gate := by
  simp [setSchedState]

@[simp] theorem setBand_gate (s : State) (p : Phys) (b : Option Nat) : (setBand s p b).gate = s.gate := by
  simp [setBand]

@[simp] theorem setDay_gate (s : State) (p : Phys) : (setDay s p).gate = s.gate := by
  simp [setDay]

@[simp] theorem reevaluate_gate (s : State) (p : Phys) : (reevaluate s p).gate = s.gate := by
  simp [reevaluate]

@[simp] theorem judgeTariff_gate (s : State) (p : Phys) : (judgeTariff s p).gate = s.gate := by
  simp [judgeTariff]

@[simp] theorem fireAlarm_gate (s : State) (p : Phys) (key : Nat × Nat) (at_ : Nat) (late : Bool) :
    (fireAlarm s p key at_ late).gate = s.gate := by
  simp [fireAlarm]

@[simp] theorem State.onLp_gate (s : State) (p : Phys) (f : Loop → Loop) : (State.onLp s p f).gate = s.gate := by
  simp [State.onLp]

@[simp] theorem startPlan_gate (s : State) (p : Phys) : (startPlan s p).gate = s.gate := by
  simp [startPlan]

@[simp] theorem planTrigger_gate (s : State) (p : Phys) : (planTrigger s p).gate = s.gate := by
  simp [planTrigger]

@[simp] theorem dropPlan_gate (s : State) (p : Phys) : (dropPlan s p).gate = s.gate := by
  simp [dropPlan]

@[simp] theorem trustFlag_gate (s : State) (p : Phys) (x : Fld) (b : Bool) (trig : Bool) :
    (trustFlag s p x b trig).gate = s.gate := by
  simp [trustFlag]

@[simp] theorem judgeMeters_gate (s : State) (p : Phys) : (judgeMeters s p).gate = s.gate := by
  simp [judgeMeters]

@[simp] theorem applyTrust_gate (s : State) (p : Phys) : (applyTrust s p).gate = s.gate := by
  simp [applyTrust]

@[simp] theorem alarmsForward_gate (s : State) (p : Phys) (old : Nat) (new : Nat) :
    (alarmsForward s p old new).gate = s.gate := by
  simp [alarmsForward]

@[simp] theorem alarmsStep_gate (s : State) (p : Phys) (old : Nat) (new : Nat) : (alarmsStep s p old new).gate = s.gate := by
  simp [alarmsStep]

@[simp] theorem tuneFault_gate (s : State) (p : Phys) (lseq : Nat) (reason : Nat) :
    (tuneFault s p lseq reason).gate = s.gate := by
  unfold tuneFault
  (repeat' split) <;> simp

@[simp] theorem failTune_gate (s : State) (p : Phys) (reason : Nat) : (failTune s p reason).gate = s.gate := by
  unfold failTune
  (repeat' split) <;> simp

@[simp] theorem showMode_gate (s : State) (p : Phys) : (showMode s p).gate = s.gate := by
  simp [showMode]

@[simp] theorem endTimed_gate (s : State) (p : Phys) : (endTimed s p).gate = s.gate := by
  simp [endTimed]

@[simp] theorem resumeLoops_gate (s : State) (p : Phys) (elapsed : Option Nat) :
    (resumeLoops s p elapsed).gate = s.gate := by
  unfold resumeLoops
  simp only []
  (repeat' split) <;> simp

@[simp] theorem showCensus_gate (s : State) (c : Census) (mixed : Bool) (rollback : Bool) :
    (showCensus s c mixed rollback).gate = s.gate := by
  simp [showCensus]

@[simp] theorem tellModes_gate (s : State) (c : Census) (rollback : Bool) : (tellModes s c rollback).gate = s.gate := by
  simp [tellModes]

@[simp] theorem endCensus_gate (s : State) (lseq : Nat) : (endCensus s lseq).gate = s.gate := by
  simp [endCensus]

@[simp] theorem State.onRs_gate (s : State) (f : RecStore → RecStore) : (State.onRs s f).gate = s.gate := by
  simp [State.onRs]

@[simp] theorem storeWarn_gate (s : State) : (storeWarn s).gate = s.gate := by
  simp [storeWarn]

@[simp] theorem writeChain_gate (s : State) (z : Zone) (iv : Interval) (len : Nat) (flags : Nat) (synth : Nat) (q : Vector Nat 7) :
    (writeChain s z iv len flags synth q).gate = s.gate := by
  simp [writeChain]

@[simp] theorem freshNotes_gate (s : State) (p : Phys) : (freshNotes s p).gate = s.gate := by
  simp [freshNotes]

@[simp] theorem openInterval_gate (s : State) (p : Phys) (flags : List Nat) (carry : Vector Nat 7) :
    (openInterval s p flags carry).gate = s.gate := by
  simp [openInterval]

@[simp] theorem showDemand_gate (s : State) (p : Phys) (c : Closing) (imp : Nat) (exp : Nat) :
    (showDemand s p c imp exp).gate = s.gate := by
  simp [showDemand]

@[simp] theorem priceInterval_gate (s : State) (p : Phys) (c : Closing) (flags : BitVec 16) (v : Vector Nat 7) :
    (priceInterval s p c flags v).gate = s.gate := by
  simp [priceInterval]

@[simp] theorem learnPower_gate (s : State) (p : Phys) (c : Closing) (flags : BitVec 16) (v : Vector Nat 7) :
    (learnPower s p c flags v).gate = s.gate := by
  simp [learnPower]

@[simp] theorem cutAtBound_gate (s : State) (p : Phys) : (cutAtBound s p).1.gate = s.gate := by
  simp [cutAtBound]

@[simp] theorem closeIval_gate (s : State) (p : Phys) (z : Zone) (len : Nat) (next : Nat) (flags : List Nat) :
    (closeIval s p z len next flags).gate = s.gate := by
  simp [closeIval]

@[simp] theorem onOpen_gate (s : State) (z : Zone) (no : Nat) (f : Interval → Interval) :
    (onOpen s z no f).gate = s.gate := by
  simp [onOpen]

@[simp] theorem takeCut_gate (s : State) (z : Zone) (e : Vector Acc 7) (synth : Rat) :
    (takeCut s z e synth).gate = s.gate := by
  unfold takeCut
  (repeat' split) <;> simp

@[simp] theorem mergeBack_gate (s : State) (c : Closing) (l : List Closing) : (mergeBack s c l).1.gate = s.gate := by
  unfold mergeBack
  simp only []
  (repeat' split) <;> simp

@[simp] theorem writeClosing_gate (s : State) (c : Closing) (l : List Closing) : (writeClosing s c l).1.gate = s.gate := by
  unfold writeClosing
  simp only []
  (repeat' split) <;> simp

@[simp] theorem writeReady_gate (s : State) (n : Nat) (l : List Closing) : (writeReady s n l).gate = s.gate := by
  induction n generalizing s l with
  | zero => simp [writeReady]
  | succ n ih =>
    cases l with
    | nil => simp [writeReady]
    | cons c l =>
      unfold writeReady
      (repeat' split) <;> simp [ih]

@[simp] theorem writeWaiting_gate (s : State) : (writeWaiting s).gate = s.gate := by
  simp [writeWaiting]

@[simp] theorem writeZone_gate (s : State) (z : Zone) : (writeZone s z).gate = s.gate := by
  simp [writeZone]

@[simp] theorem settleClosings_gate (s : State) (p : Phys) : (settleClosings s p).gate = s.gate := by
  unfold settleClosings
  (repeat' split) <;> simp

@[simp] theorem ivalResume_gate (s : State) (p : Phys) (moved : Bool) : (ivalResume s p moved).gate = s.gate := by
  unfold ivalResume
  (repeat' split) <;> simp

@[simp] theorem State.onTs_gate (s : State) (f : TimeSvc → TimeSvc) : (State.onTs s f).gate = s.gate := by
  simp [State.onTs]

@[simp] theorem State.onCl_gate (s : State) (f : Cellar → Cellar) : (State.onCl s f).gate = s.gate := by
  simp [State.onCl]

@[simp] theorem eachSlice_gate (s : State) (f : State → Phys → State) (hf : ∀ x0 x1, (f x0 x1).gate = x0.gate) :
    (eachSlice s f).gate = s.gate := by
  unfold eachSlice
  exact gate_foldl _ (fun s a => hf s a) _ _

@[simp] theorem State.onLd_gate (s : State) (f : Landing → Landing) : (State.onLd s f).gate = s.gate := by
  simp [State.onLd]

@[simp] theorem porchSettings_gate (s : State) : (porchSettings s).gate = s.gate := by
  simp [porchSettings]

@[simp] theorem State.putFine_gate (s : State) (v : Int) : (State.putFine s v).gate = s.gate := by
  simp [State.putFine]

@[simp] theorem setSlew_gate (s : State) (v : Int) : (setSlew s v).gate = s.gate := by
  simp [setSlew]

@[simp] theorem setSource_gate (s : State) (lock : Bool) (hold : Bool) : (setSource s lock hold).gate = s.gate := by
  simp [setSource]

@[simp] theorem refreshRate_gate (s : State) : (refreshRate s).gate = s.gate := by
  simp [refreshRate]

@[simp] theorem payOwed_gate (s : State) : (payOwed s).gate = s.gate := by
  unfold payOwed
  simp only []
  (repeat' split) <;> simp

@[simp] theorem timeStart_gate (s : State) : (timeStart s).gate = s.gate := by
  simp [timeStart]

@[simp] theorem restartPorts_gate (s : State) : (restartPorts s).gate = s.gate := by
  unfold restartPorts
  refine gate_foldl _ (fun s a => ?_) _ _
  simp

@[simp] theorem handAgain_gate (s : State) (p : Phys) (z : Zone) : (handAgain s p z).gate = s.gate := by
  simp [handAgain]

@[simp] theorem loadZone_gate (s : State) (p : Phys) (k : Ckpt) (gone : Nat) (pads : Outs) :
    (loadZone s p k gone pads).gate = s.gate := by
  simp [loadZone]

@[simp] theorem endOneTime_gate (s : State) (p : Phys) (z : Zone) (c : ZoneState) (live : Capture) :
    (endOneTime s p z c live).gate = s.gate := by
  unfold endOneTime
  simp only [capAbort_gate, failTune_gate, gate_ite, State.onMt_gate, ite_self]
  refine gate_foldl _ (fun s a => ?_) _ _
  split <;> simp

@[simp] theorem resumeSched_gate (s : State) (p : Phys) (t0 : Nat) : (resumeSched s p t0).gate = s.gate := by
  simp [resumeSched]

@[simp] theorem restartInputs_gate (s : State) (p : Phys) : (restartInputs s p).gate = s.gate := by
  simp [restartInputs]

@[simp] theorem restartConverters_gate (s : State) (p : Phys) : (restartConverters s p).gate = s.gate := by
  simp [restartConverters]

@[simp] theorem resumeZone_gate (s : State) (p : Phys) (k : ResumeKind) (t0 : Nat) (post : Option Posting) :
    (resumeZone s p k t0 post).gate = s.gate := by
  unfold resumeZone
  (repeat' split) <;> simp

@[simp] theorem unclamp_gate (s : State) (p : Phys) : (unclamp s p).gate = s.gate := by
  simp [unclamp]

@[simp] theorem reloadSlice_gate (s : State) (p : Phys) (z : Zone) (k : ResumeKind) (c : Option Ckpt) (pads : Outs) (live : Capture) (post : Option Posting) :
    (reloadSlice s p z k c pads live post).gate = s.gate := by
  simp [reloadSlice]

@[simp] theorem restartSlice_gate (s0 : State) (p : Phys) (k : ResumeKind) : (restartSlice s0 p k).gate = s0.gate := by
  unfold restartSlice
  (repeat' split) <;> simp

@[simp] theorem startRecords_gate (s : State) : (startRecords s).gate = s.gate := by
  simp [startRecords]

@[simp] theorem abortCaptures_gate (s : State) : (abortCaptures s).gate = s.gate := by
  simp [abortCaptures]

@[simp] theorem abandonRepair_gate (s : State) : (abandonRepair s).gate = s.gate := by
  unfold abandonRepair
  (repeat' split) <;> simp

@[simp] theorem mendColumns_gate (s : State) (p : Phys) : (mendColumns s p).gate = s.gate := by
  simp [mendColumns]

@[simp] theorem recordTest_gate (s : State) (p : Phys) (bits : BitVec 11) (full : Bool) :
    (recordTest s p bits full).gate = s.gate := by
  simp [recordTest]

@[simp] theorem quickTest_gate (s : State) (p : Phys) (bits : BitVec 11) : (quickTest s p bits).gate = s.gate := by
  unfold quickTest
  simp only []
  (repeat' split) <;> simp

@[simp] theorem quickTests_gate (s : State) (found : List (Phys × BitVec 11)) : (quickTests s found).gate = s.gate := by
  simp [quickTests]

@[simp] theorem itemCtx_gate (s : State) (d : DurItem) : (itemCtx s d).2.gate = s.gate := by
  unfold itemCtx
  (repeat' split) <;> simp

@[simp] theorem loseItem_gate (s : State) (d : DurItem) : (loseItem s d).gate = s.gate := by
  unfold loseItem
  cases d <;> simp

@[simp] theorem replayItem_gate (s : State) (d : DurItem) : (replayItem s d).gate = s.gate := by
  simp [replayItem]

@[simp] theorem replayCopies_gate (s : State) : (replayCopies s).gate = s.gate := by
  simp [replayCopies]

@[simp] theorem replayResults_gate (s : State) : (replayResults s).gate = s.gate := by
  simp [replayResults]

@[simp] theorem replayPorch_gate (rep : Option Nat) (c : State × Nat) (r : Running) :
    (replayPorch rep c r).1.gate = c.1.gate := by
  unfold replayPorch
  simp only []
  (repeat' split) <;> simp

@[simp] theorem replayCensus_gate (s : State) (c : Census) : (replayCensus s c).gate = s.gate := by
  simp [replayCensus]

@[simp] theorem replaySteps_gate (s : State) : (replaySteps s).1.gate = s.gate := by
  simp [replaySteps]

@[simp] theorem openAcceptance_gate (s : State) : (openAcceptance s).gate = ⟨s.supply, true, false⟩ := by
  simp [openAcceptance]

@[simp] theorem State.onSu_gate (s : State) (f : Supply → Supply) :
    (State.onSu s f).gate = ⟨f s.supply, s.journal.opened, s.journal.replay⟩ := rfl

@[simp] theorem changeState_gate (s : State) (st : Nat) : (changeState s st).gate = s.gate := by
  unfold changeState
  dsimp only
  (repeat' split) <;> simp

@[simp] theorem noteReplay_gate (s : State) (lost : Bool) (n durMs : Nat) : (noteReplay s lost n durMs).gate = s.gate := by
  simp [noteReplay]

@[simp] theorem replayRun_gate (s : State) (bad : List BadItem) (durMs : Nat) : (replayRun s bad durMs).gate = s.gate := by
  simp [replayRun]

@[simp] theorem resumeState_gate (s : State) : (resumeState s).gate = s.gate := by
  unfold resumeState
  split
  · exact changeState_gate s 1
  · rfl

@[simp] theorem porchStarts_gate (s : State) : (porchStarts s).gate = s.gate := by
  simp [porchStarts]

@[simp] theorem restartUnits_gate (s : State) : (restartUnits s).gate = ⟨s.supply, false, true⟩ := by
  simp [restartUnits]

@[simp] theorem restartRegs_gate (s : State) : (restartRegs s).gate = s.gate := by
  simp [restartRegs]

@[simp] theorem restartHdrs_gate (s : State) : (restartHdrs s).gate = s.gate := by
  simp [restartHdrs]

@[simp] theorem restartPorch_gate (s : State) : (restartPorch s).gate = ⟨s.supply, false, true⟩ := by
  have h : (restartHdrs (restartRegs s)).gate = s.gate := by simp
  rw [restartPorch, restartUnits_gate, show (restartHdrs (restartRegs s)).supply = s.supply from congrArg Gate.supply h]

@[simp] theorem restartSliceMem_gate (s : State) (p : Phys) (o : Outs) : (restartSliceMem s p o).gate = s.gate := by
  simp [restartSliceMem]

@[simp] theorem safePads_gate (s : State) (p : Phys) : (safePads s p).gate = s.gate := by
  simp [safePads]

end Sys2Proof.Machine

namespace Sys2Proof.Machine
open Host

/-! ### What reaches the collector (R513)

The collector takes entries and loses none while acceptance is opened and the module changes its state. -/

/-- Arrivals of a collector still stand in a later one. -/
structure Hears (c d : Collector) : Prop where
  buf  : ∀ x ∈ c.buf, x ∈ d.buf
  next : c.next ≤ d.next
  lost : c.lost ≤ d.lost

theorem Hears.refl (c : Collector) : Hears c c := ⟨fun _ h => h, le_rfl, le_rfl⟩
theorem Hears.trans {c d e : Collector} (h : Hears c d) (k : Hears d e) : Hears c e :=
  ⟨fun x hx => k.buf x (h.buf x hx), h.next.trans k.next, h.lost.trans k.lost⟩
/-- The same from an earlier state with this collector. -/
theorem Hears.after {s t u : State} (k : Hears t.coll u.coll) (h : t.coll = s.coll) : Hears s.coll u.coll := h ▸ k
theorem Hears.of_eq {s t : State} (h : t.coll = s.coll) : Hears s.coll t.coll := h ▸ .refl _
theorem Grows.hears {s t : State} (h : Grows s t) : Hears s.coll t.coll := ⟨h.buf, h.next, h.lost⟩

/-- Entries that are still heard stay told. -/
theorem told.of_hears {s t u : State} {g : Nat} {e : Word} (h : told s t g e) (k : Hears t.coll u.coll) : told s u g e := by
  rcases h with ⟨x, hx, he, hg, hn⟩ | hl
  · exact .inl ⟨x, k.buf x hx, he, hg, hn⟩
  · exact .inr (hl.trans_le k.lost)

/-- A fold of operations that are all heard. -/
theorem hears_foldl {α : Type} (f : State → α → State) (h : ∀ s a, Hears s.coll (f s a).coll) (l : List α) (s : State) :
    Hears s.coll (l.foldl f s).coll := by
  induction l generalizing s with
  | nil => exact .refl _
  | cons a l ih => exact (h s a).trans (ih _)

/-- A fold of operations that leave the collector alone. -/
theorem coll_foldl {α : Type} (f : State → α → State) (h : ∀ s a, (f s a).coll = s.coll) (l : List α) (s : State) :
    (l.foldl f s).coll = s.coll := by
  induction l generalizing s with
  | nil => rfl
  | cons a l ih => rw [List.foldl_cons, ih, h]

theorem coll_ite (c : Prop) [Decidable c] (a b : State) : (if c then a else b).coll = if c then a.coll else b.coll := by
  split <;> rfl

@[simp] theorem coll_onZ (s : State) (p : Phys) (f : ZoneState → ZoneState) : (s.onZ p f).coll = s.coll := rfl
@[simp] theorem coll_onR (s : State) (p : Phys) (f : RegFile → RegFile) : (s.onR p f).coll = s.coll := rfl
@[simp] theorem coll_wb (s : State) (p : Phys) (x : Fld) (b : Bool) (i : Nat) : (s.wb p x b i).coll = s.coll := rfl
@[simp] theorem coll_wWord (s : State) (p : Phys) (r : Reg) (w : Word) (i : Nat) : (s.wWord p r w i).coll = s.coll := rfl
@[simp] theorem coll_onCap (s : State) (p : Phys) (f : Capture → Capture) : (s.onCap p f).coll = s.coll := rfl
@[simp] theorem coll_onOuts (s : State) (p : Phys) (f : Outs → Outs) : (s.onOuts p f).coll = s.coll := rfl
@[simp] theorem coll_onInp (s : State) (p : Phys) (f : Inputs → Inputs) : (s.onInp p f).coll = s.coll := rfl
@[simp] theorem coll_onCv (s : State) (p : Phys) (f : Conv → Conv) : (s.onCv p f).coll = s.coll := rfl
@[simp] theorem coll_onSeq (s : State) (p : Phys) (q : Fin 4) (f : SeqSt → SeqSt) : (s.onSeq p q f).coll = s.coll := rfl
@[simp] theorem coll_onJ (s : State) (f : Journal → Journal) : (s.onJ f).coll = s.coll := rfl
@[simp] theorem coll_touch (s : State) (g : Nat) : (s.touch g).coll = s.coll := rfl
@[simp] theorem coll_evtP (s : State) (g b : Nat) : (s.evtP g b).coll = s.coll := coll_setIsrFrom ..
@[simp] theorem coll_evt (s : State) (p : Phys) (u b : Nat) : (s.evt p u b).coll = s.coll := coll_setIsrFrom ..

@[simp] theorem coll_evtIf (s : State) (c : Bool) (p : Phys) (u b : Nat) : (s.evtIf c p u b).coll = s.coll := by
  simp [State.evtIf, coll_ite]

@[simp] theorem coll_addEntry (s : State) (i : LdItem) : (addEntry s i).coll = s.coll := rfl

@[simp] theorem coll_noteBusy (b : State) (p : Phys) (s : State) : (noteBusy b p s).coll = s.coll := by
  simp [noteBusy, coll_ite]

@[simp] theorem coll_notePorchBusy (b s : State) : (notePorchBusy b s).coll = s.coll :=
  coll_foldl _ (fun s g => by simp [coll_ite]) _ s

@[simp] theorem coll_onQueue (s : State) (f : List Exec → List Exec) : (s.onQueue f).coll = s.coll := by
  simp [State.onQueue]

@[simp] theorem coll_clearDraught (s : State) : s.clearDraught.coll = s.coll := by
  simp [State.clearDraught, noteDraught, coll_ite]

@[simp] theorem coll_askCheckpoints (s : State) : (askCheckpoints s).coll = s.coll := by
  unfold askCheckpoints
  split
  · split
    · exact coll_foldl _ (fun s z => by simp [coll_ite]) _ s
    · rfl
  · rfl

/-! The porch's own part: entries, rules of the larder, commands that end. -/

theorem hears_errP (s : State) (g c e : Nat) : Hears s.coll (s.errP g c e).coll := (grows_errP ..).hears
theorem hears_err (s : State) (p : Phys) (u c e : Nat) : Hears s.coll (s.err p u c e).coll := (grows_err ..).hears

theorem hears_fillRules (s : State) : Hears s.coll (fillRules s).coll := by
  unfold fillRules
  dsimp only
  generalize hs1 : (if decide (4096 ≤ s.fill) then _ else _ : State) = s1
  have hc : s1.coll = s.coll := by
    rw [← hs1]
    (repeat' split) <;> simp
  split
  · exact (hears_errP ..).after (by simp [hc])
  · split <;> exact .of_eq (by simp [hc])

theorem hears_endInternal (s : State) (r : Running) (final : Bool) : Hears s.coll (endInternal s r final).coll := by
  unfold endInternal
  split
  · exact (hears_fillRules _).after (by simp)
  · exact .refl _

theorem hears_markPorch (s : State) (l r n : Nat) (v : Word) : Hears s.coll (markPorch s l r n v).coll := by
  unfold markPorch
  split
  · exact .refl _
  · split
    · exact .trans ((hears_fillRules _).after (coll_addEntry ..)) (hears_endInternal ..)
    · exact .refl _

theorem hears_drainNops (s : State) : Hears s.coll (drainNops s).coll :=
  (hears_foldl _ (fun s _ => hears_markPorch s ..) _ _).after (coll_onQueue ..)

theorem hears_openAcceptance (s : State) : Hears s.coll (openAcceptance s).coll :=
  .trans ((hears_errP ..).after (by simp)) (hears_drainNops _)

/-! What a change of state does to the slices: captures end, intervals open. -/

@[simp] theorem coll_wbEvt (s : State) (p : Phys) (x : Fld) (v : Bool) (u b i : Nat) : (s.wbEvt p x v u b i).coll = s.coll := by
  simp [State.wbEvt, coll_ite]

@[simp] theorem coll_takeBand (s : State) (p : Phys) : (takeBand s p).coll = s.coll := by
  simp [takeBand, coll_ite, syncTrims, restartCal, spoilWindows, State.wi]

@[simp] theorem coll_startPass (s : State) (p : Phys) (q : Fin 4) (e : Option Nat) : (startPass s p q e).coll = s.coll := by
  simp [startPass]

theorem coll_syncConv (s : State) (p : Phys) : (syncConv s p).coll = s.coll :=
  (coll_foldl _ (fun _ _ => coll_onR ..) _ _).trans (coll_onR ..)

@[simp] theorem coll_settle (s : State) (p : Phys) : (settle s p).coll = s.coll := by
  rw [settle, coll_syncConv, coll_onCv]

@[simp] theorem coll_startTimer (s : State) (p : Phys) (q : Fin 4) : (startTimer s p q).coll = s.coll := rfl

theorem hears_dropTrigger (s : State) (p : Phys) (q : Fin 4) : Hears s.coll (dropTrigger s p q).coll :=
  (hears_err ..).after (by simp)

theorem hears_acceptTrigger (s : State) (p : Phys) (q : Fin 4) (e : Option Nat) : Hears s.coll (acceptTrigger s p q e).coll := by
  unfold acceptTrigger
  dsimp only
  split_ifs
  · exact hears_dropTrigger ..
  · exact hears_dropTrigger ..
  · exact .refl _
  · exact .of_eq (by simp)

theorem hears_finishEnding (s : State) (p : Phys) (q : Fin 4) : Hears s.coll (finishEnding s p q).coll := by
  unfold finishEnding
  dsimp only
  split_ifs
  · exact (hears_acceptTrigger ..).after (by simp)
  · exact .of_eq (by simp)
  · exact .refl _

theorem hears_seqDisabled (s : State) (p : Phys) (q : Fin 4) : Hears s.coll (seqDisabled s p q).coll :=
  .trans ((hears_finishEnding ..).after (by simp)) (.of_eq (coll_settle ..))

theorem hears_firmwareSeqs (s : State) (p : Phys) (on : Bool) : Hears s.coll (firmwareSeqs s p on).coll := by
  unfold firmwareSeqs
  refine hears_foldl _ (fun t q => ?_) _ s
  cases on
  · exact (hears_seqDisabled ..).after (coll_wb ..)
  · exact .of_eq ((coll_startTimer ..).trans (coll_wb ..))

@[simp] theorem coll_setSq0 (s : State) (p : Phys) (f : Option Nat) : (setSq0 s p f).coll = s.coll := by
  cases f <;> simp [setSq0]

@[simp] theorem coll_onOut (s : State) (p : Phys) (j : Out) (f : OutSt → OutSt) : (s.onOut p j f).coll = s.coll := by
  simp [State.onOut, coll_ite, syncHold]

@[simp] theorem coll_refreshOut (s : State) (p : Phys) (j : Out) : (refreshOut s p j).coll = s.coll := by
  simp [refreshOut, coll_ite]

@[simp] theorem coll_endWait (s : State) (p : Phys) : (endWait s p).coll = s.coll := by
  unfold endWait
  split <;> simp

theorem coll_syncCap (s : State) (p : Phys) : (syncCap s p).coll = s.coll := coll_onR ..

theorem hears_capAbort (s : State) (p : Phys) : Hears s.coll (capAbort s p).coll := by
  unfold capAbort
  dsimp only
  generalize hs1 : (endWait s p).onCap p _ = s1
  have hc : s1.coll = s.coll := by rw [← hs1, coll_onCap, coll_endWait]
  split
  · refine .trans ?_ ((hears_err ..).trans (.of_eq (coll_noteBusy ..)))
    rw [coll_syncCap]
    split
    · rw [coll_wb]
      exact (hears_firmwareSeqs ..).after (by rw [coll_setSq0, hc])
    · exact .of_eq hc
  · exact .refl _

theorem hears_abortCaptures (s : State) : Hears s.coll (abortCaptures s).coll := by
  refine hears_foldl _ (fun s p => ?_) _ s
  split
  · exact hears_capAbort ..
  · exact .refl _

@[simp] theorem coll_startRecords (s : State) : (startRecords s).coll = s.coll := by
  refine coll_foldl _ (fun s p => ?_) _ s
  split <;> rfl

theorem hears_changeState (s : State) (st : Nat) : Hears s.coll (changeState s st).coll := by
  unfold changeState
  dsimp only
  split
  · exact .refl _
  · generalize hs1 : (State.errP _ 0 _ 0x1004) = s1
    have h1 : Hears s.coll s1.coll := by
      rw [← hs1]
      exact (hears_errP ..).after (by simp)
    refine h1.trans ((hears_abortCaptures s1).trans ?_)
    split
    · exact .of_eq (coll_startRecords _)
    · exact .refl _

/-- The state that a change of state leaves (R569). -/
theorem changeState_state (s : State) {st : Nat} (h : st ≤ 4) : (changeState s st).modst.state = st := by
  unfold changeState
  dsimp only
  split
  · next hor => exact hor.resolve_right (by omega)
  · change (State.held _).modst.state = st
    split <;> simp

end Sys2Proof.Machine

namespace Sys2Proof.Machine
open Host

/-! ### Loss and return of the supply (R43, R552, R553, R554, R557) -/

/-- Acceptance opened for the hold-up found: supply, acceptance and replay. -/
theorem openWithHoldup_gate (s : State) : (openWithHoldup s).gate = ⟨s.supply, true, false⟩ := by
  unfold openWithHoldup
  dsimp only
  split
  · rw [changeState_gate, openAcceptance_gate, show (s.errP 9 _ _).supply = s.supply from congrArg Gate.supply (State.errP_gate ..)]
  · exact openAcceptance_gate s

theorem openWithHoldup_low {s : State} (h : s.supply.capUf < 60) :
    openWithHoldup s = changeState (openAcceptance (s.errP 9 s.supply.capUf 0x8509)) 4 := if_pos h

/-- A weak hold-up puts the module in RECOVERY and is told. -/
theorem openWithHoldup_recovery {s : State} (h : s.supply.capUf < 60) :
    (openWithHoldup s).modst.state = 4 ∧ toldCode s (openWithHoldup s) 9 s.supply.capUf 0x8509 := by
  rw [openWithHoldup_low h]
  exact ⟨changeState_state _ le_rfl, told.of_hears (toldCode_errP (.refl s) (.refl _))
    ((hears_openAcceptance _).trans (hears_changeState ..))⟩

/-- VIN within 18 … 32 V (R552). -/
theorem supplyRange_within {s : State} (hp : s.supply.powered = true) {vin : Nat} (hlo : 18000 ≤ vin) (hhi : vin ≤ 32000) :
    supplyRange s vin = { s with supply := { s.supply with vin := vin, range := false } } := by
  simp [supplyRange, hp, hlo, hhi, State.onSu]

/-- VIN within 16.5 … 36 V but out of 18 … 32 V (R552). -/
theorem supplyRange_outside {s : State} (hp : s.supply.powered = true) {vin : Nat} (hlo : 16500 ≤ vin) (hhi : vin ≤ 36000)
    (hout : vin < 18000 ∨ 32000 < vin) :
    (supplyRange s vin).supply.vin = vin ∧ (supplyRange s vin).supply.range = true ∧ (supplyRange s vin).slices = s.slices ∧
      (s.supply.range = false → toldCode s (supplyRange s vin) 9 (vin / 100) 0x450A) := by
  have hin : ¬(18000 ≤ vin ∧ vin ≤ 32000) := by omega
  cases hr : s.supply.range
  case true => simp [supplyRange, hp, hin, hr, State.onSu]
  case false =>
    have ht : supplyRange s vin =
        ((s.onSu fun u => { u with vin := vin }).onSu fun u => { u with range := true }).errP 9 (vin / 100) 0x450A := by
      simp [supplyRange, hp, hin, hr, hlo, hhi]
    generalize hu : ((s.onSu fun u => { u with vin := vin }).onSu fun u => { u with range := true }) = u at ht
    have hs : u.supply = { s.supply with vin := vin, range := true } := by rw [← hu]; rfl
    have hsl : u.slices = s.slices := by rw [← hu]; rfl
    have hg : Grows s u := hu ▸ (Grows.refl s).silent rfl rfl
    have he : (u.errP 9 (vin / 100) 0x450A).supply = u.supply := congrArg Gate.supply (State.errP_gate ..)
    rw [ht, he, hs]
    exact ⟨rfl, rfl, (by simp [hsl]), fun _ => toldCode_errP hg (.refl _)⟩

/-- The supply that a start-up finds (R553). -/
def startSupply (u : Supply) (x : StartInfo) : Supply :=
  { u with
    powered := true, started := true, range := false, pdet1 := false, pdet2 := false, inputOff := false, railOn := true,
    capUf := x.capUf, low := decide (x.capUf < 60), charging := x.capUf == 0,
    holdupMv := if x.capUf = 0 then 0 else 36000, durMs := satTo 16 x.durMs }

/-- A start-up to the end of its replay. -/
def replayed (s : State) (x : StartInfo) : State :=
  replayRun (quickTests (porchStarts (eachSlice (restartPorch (s.onSu fun u => startSupply u x)) safePads)) x.tests) x.bad
    x.replayMs

theorem replayed_gate (s : State) (x : StartInfo) : (replayed s x).gate = ⟨startSupply s.supply x, false, true⟩ := by
  simp [replayed, State.onSu]

theorem startUp_eq {s : State} (h : s.supply.powered = false ∨ s.supply.started = false ∨ s.landing.state = 4) (x : StartInfo) :
    startUp s x = if x.capUf = 0 then replayed s x else openWithHoldup (replayed s x) := by
  have hc : ¬(s.supply.powered && s.supply.started && s.landing.state != 4) = true := by
    rcases h with h | h | h <;> simp [h]
  unfold startUp
  rw [if_neg hc]
  rfl

/-- A start-up of a module not started (R553). -/
theorem startUp_starts {s : State} (h : s.supply.powered = false ∨ s.supply.started = false ∨ s.landing.state = 4)
    (x : StartInfo) : (startUp s x).supply = startSupply s.supply x ∧
      (x.capUf ≠ 0 → (startUp s x).journal.opened = true ∧ (startUp s x).journal.replay = false) ∧
      (x.capUf ≠ 0 → x.capUf < 60 → (startUp s x).modst.state = 4) ∧
      (x.capUf = 0 → (startUp s x).journal.opened = false) := by
  have hg := replayed_gate s x
  have hs : (replayed s x).supply = startSupply s.supply x := congrArg Gate.supply hg
  rw [startUp_eq h]
  by_cases h0 : x.capUf = 0
  · rw [if_pos h0]
    exact ⟨hs, fun hn => absurd h0 hn, fun hn => absurd h0 hn, fun _ => congrArg Gate.opened hg⟩
  · rw [if_neg h0]
    have ho := openWithHoldup_gate (replayed s x)
    refine ⟨(congrArg Gate.supply ho).trans hs, fun _ => ⟨congrArg Gate.opened ho, congrArg Gate.replay ho⟩, fun _ hlow => ?_,
      fun hz => absurd hz h0⟩
    have hlow' : (replayed s x).supply.capUf < 60 := by rw [hs]; exact hlow
    exact (openWithHoldup_recovery hlow').1

/-- The hold-up found charged late (R553). -/
theorem holdupLate_opens {s : State} (hst : s.supply.started = true) (hch : s.supply.charging = true)
    (hcl : s.journal.opened = false) : (holdupLate s).journal.opened = true ∧ (holdupLate s).supply.charging = false ∧
      (s.supply.capUf < 60 → (holdupLate s).modst.state = 4 ∧ toldCode s (holdupLate s) 9 s.supply.capUf 0x8509) := by
  have hl : holdupLate s = openWithHoldup (s.onSu fun u => { u with charging := false }) := by
    simp [holdupLate, hst, hch, hcl]
  have hg := openWithHoldup_gate (s.onSu fun u => { u with charging := false })
  rw [hl]
  refine ⟨congrArg Gate.opened hg, ?_, fun hlow => openWithHoldup_recovery (s := s.onSu fun u => { u with charging := false }) hlow⟩
  exact congrArg (fun g => g.supply.charging) hg

theorem prechargeInput_charges {s : State} (h : s.supply.powered = false) :
    prechargeInput s = { s with supply := { s.supply with precharged := true } } := by
  simp [prechargeInput, h, State.onSu]

/-- Settles O41, clause by clause: the power-loss warning by what it commits and what it stops, the start-up by what its replay
leaves of supply and acceptance. -/
theorem supplyAndStart : Obligations.SupplyAndStart := by
  unfold Obligations.SupplyAndStart
  intro s
  refine ⟨fun hp w => ?loss, fun hp vin => ⟨fun hlo hhi => ?within, fun hlo hhi hout => ?outside⟩, fun h x => ?start,
    fun hst hch hcl => ?late, fun hp => ?charge⟩
  case loss =>
    obtain ⟨⟨hpow, hsta, hrail, hcause⟩, ⟨hcl, hrep⟩, hstop, hoff⟩ := powerLoss_stops hp w
    exact ⟨powerLoss s w, rfl, hpow, hsta, hrail, hcause, hcl, hrep, hstop, hoff,
      fun hopen hruns hentry hflight hwait => powerLoss_commits hp hopen hruns hentry hflight hwait⟩
  case within => exact congrArg Outcome.next (supplyRange_within hp hlo hhi)
  case outside => exact ⟨supplyRange s vin, rfl, supplyRange_outside hp hlo hhi hout⟩
  case start =>
    obtain ⟨hsu, hopen, hrec, hwait⟩ := startUp_starts h x
    refine ⟨startUp s x, rfl, by rw [hsu]; rfl, by rw [hsu]; rfl, fun hn => ?_, hrec, fun hz => ⟨hwait hz, ?_⟩⟩
    · obtain ⟨ho, hr⟩ := hopen hn
      exact ⟨ho, hr, by rw [hsu]; simp [startSupply, hn]⟩
    · rw [hsu]
      simp [startSupply, hz]
  case late => exact ⟨holdupLate s, rfl, holdupLate_opens hst hch hcl⟩
  case charge => exact congrArg Outcome.next (prechargeInput_charges hp)

end Sys2Proof.Machine

namespace Sys2Proof.Machine
open Host

/-! ### One step (R55, R343) -/

theorem step_idle {s : State} (h : s.pending = []) : step s = .next (tick s) := by
  rw [step, h]

theorem step_front {s : State} {c : Instr} {rest : List Instr} (h : s.pending = c :: rest) :
    step s = exec c { s with pending := rest } := by
  rw [step, h]

/-- Whatever a command may reach, the commands that wait stay. -/
theorem Reach.keeps_pending_eq {r : Reach} {h h' : Held} (hk : r.keeps h h') : h'.pending = h.pending := by
  cases r with
  | nothing => exact congrArg Held.pending hk
  | modst => exact congrArg (·.1) hk
  | map => exact congrArg (·.1) hk
  | tap =>
    obtain ⟨hpending, -, -⟩ := hk
    exact hpending

/-- Settles O6: a tick leaves the empty queue alone, and a command taken from the queue leaves the rest of it alone. -/
theorem stepTakesTheFront : Obligations.StepTakesTheFront := by
  intro s
  cases hq : s.pending with
  | nil => exact ⟨tick s, step_idle hq, (congrArg Held.pending (tick_held s)).trans hq⟩
  | cons c rest =>
    obtain ⟨t, ht, hk⟩ := exec_reaches c { s with pending := rest }
    exact ⟨t, (step_front hq).trans ht, Reach.keeps_pending_eq hk⟩

/-- Settles O1. -/
theorem stepRunsFrontCommand : Obligations.StepRunsFrontCommand :=
  fun _ _ _ => step_front rfl

end Sys2Proof.Machine

namespace Sys2Proof.Machine
open Host

/-! ### Accesses of the host (R44 to R56)

One equation says what a read or a write of the host comes to where it completes OK, one what it comes to otherwise; the rows
that access registers cite these. -/

@[simp] theorem lastOut_emit (s : State) (e : Emit) : (s.emit e).lastOut = some e := by simp [State.lastOut]

section Access
variable {s : State} {a : Nat} {pl : Place}

theorem readAt_ok (h : readStatus s a = .ok) (hp : s.place a = some pl) : readAt s a = (.ok, readOk s pl (a % 4096)) := by
  rw [readAt, h, hp]

/-- A read that does not complete OK returns 0 and changes nothing (R51). -/
theorem readAt_refused (h : readStatus s a ≠ .ok) : readAt s a = (readStatus s a, 0, s) := by
  unfold readAt
  split
  · next hok _ => exact absurd hok h
  · rfl

theorem writeAt_ok (h : writeStatus s a = .ok) (hp : s.place a = some pl) (v : Word) (i : Hint) :
    writeAt s a v i = writeOk s pl (a % 4096) v i := by
  rw [writeAt, h, hp]

theorem writeAt_refused (h : writeStatus s a ≠ .ok) (v : Word) (i : Hint) : writeAt s a v i = (writeStatus s a, s) := by
  unfold writeAt
  split
  · next hok _ => exact absurd hok h
  · rfl

/-- An access that completes OK names a place. -/
theorem place_of_writeStatus_ok (h : writeStatus s a = .ok) : ∃ pl, s.place a = some pl := by
  unfold writeStatus at h
  split at h
  · cases h
  · split at h
    · cases h
    · exact ⟨_, ‹_›⟩

theorem readStatus_misaligned (h : a % 4 ≠ 0) : readStatus s a = .align := if_pos h
theorem writeStatus_misaligned (h : a % 4 ≠ 0) : writeStatus s a = .align := if_pos h

section Host
variable {d : State} (hr : s.porchRuns = true) (hd : d = endDoze s)
include hr hd

theorem hostRead_eq (a : Nat) : hostRead s a = (readAt d a).2.2.emit (.access (readAt d a).1 (readAt d a).2.1) := by
  subst hd
  exact if_pos hr

theorem hostWrite_eq (a : Nat) (v : Word) (i : Hint) :
    hostWrite s a v i = (writeAt d a v i).2.emit (.access (writeAt d a v i).1 0) := by
  subst hd
  exact if_pos hr

/-- A read of the host that completes OK puts out the word read. -/
theorem hostRead_ok (h : readStatus d a = .ok) (hp : d.place a = some pl) :
    hostRead s a = (readOk d pl (a % 4096)).2.emit (.access .ok (readOk d pl (a % 4096)).1) := by
  rw [hostRead_eq hr hd, readAt_ok h hp]

theorem hostRead_refused (h : readStatus d a ≠ .ok) : hostRead s a = d.emit (.access (readStatus d a) 0) := by
  rw [hostRead_eq hr hd, readAt_refused h]

/-- A write of the host that its locks and its block do not stop puts out the status its effect gives. -/
theorem hostWrite_ok (h : writeStatus d a = .ok) (hp : d.place a = some pl) (v : Word) (i : Hint) :
    hostWrite s a v i = (writeOk d pl (a % 4096) v i).2.emit (.access (writeOk d pl (a % 4096) v i).1 0) := by
  rw [hostWrite_eq hr hd, writeAt_ok h hp]

theorem hostWrite_refused (h : writeStatus d a ≠ .ok) (v : Word) (i : Hint) :
    hostWrite s a v i = d.emit (.access (writeStatus d a) 0) := by
  rw [hostWrite_eq hr hd, writeAt_refused h]

end Host

end Access

theorem exec_registerWrite (addr v : Word) (s : State) : exec (.registerWrite addr v) s = .next (hostWrite s addr.toNat v) := rfl
theorem exec_readClear (addr : Word) (s : State) : exec (.readClear addr) s = .next (hostRead s addr.toNat) := rfl

/-- Settles O10: a misaligned access is judged ALIGN before all else, and so does nothing. -/
theorem misalignedAccess : Obligations.MisalignedAccess := by
  intro s addr v hr ha
  have hread : readStatus (endDoze s) addr.toNat = .align := readStatus_misaligned ha
  have hwrite : writeStatus (endDoze s) addr.toNat = .align := writeStatus_misaligned ha
  constructor
  · refine ⟨_, exec_registerWrite .., ?_⟩
    rw [hostWrite_refused hr rfl (by simp [hwrite]), hwrite]
    exact ⟨lastOut_emit .., rfl, rfl, rfl, rfl⟩
  · refine ⟨_, exec_readClear .., ?_⟩
    rw [hostRead_refused hr rfl (by simp [hread]), hread]
    exact ⟨lastOut_emit .., rfl, rfl, rfl, rfl⟩

end Sys2Proof.Machine

namespace Sys2Proof.Machine
open Host

/-! ### Registers read with their latches and RC fields (R53, R183) -/

/-- The word that a read leaves in a register with RC fields (R53). -/
def rcWord (e : RegDef) (a : Nat) (w : Word) : Word := (w &&& ~~~ BitVec.ofNat 32 e.rc) ||| (regReset a &&& BitVec.ofNat 32 e.rc)

theorem rcWord_of_rc_zero {e : RegDef} (h : e.rc = 0) (a : Nat) (w : Word) : rcWord e a w = w := by
  rw [rcWord, h, BitVec.and_zero, BitVec.or_zero, BitVec.not_zero, BitVec.and_allOnes]

theorem rfGet_clearRc {e : RegDef} {a : Nat} (h : regAt a = some e) (f : RegFile) :
    rfGet (clearRc f a) a = rcWord e a (rfGet f a) := by
  rw [clearRc, h]
  dsimp only
  split
  · next h0 => rw [rcWord_of_rc_zero h0]
  · exact rfGet_put ..

theorem rfGet_clearRc_ne {a b : Nat} (h : b ≠ a) (f : RegFile) : rfGet (clearRc f a) b = rfGet f b := by
  unfold clearRc
  split
  · dsimp only
    split
    · rfl
    · exact rfGet_put_ne _ _ _ _ h.symm
  · rfl

theorem rfGet_takeEntryB_ne {a b : Nat} (h : b ≠ a + 0x100) (f : RegFile) : rfGet (takeEntryB a f) b = rfGet f b := by
  unfold takeEntryB
  split
  · exact rfGet_clearRc_ne h f
  · rfl

/-- A latch after a list of registers is latched: the word shown for one that is listed, else as it was. -/
theorem rfGet_latched (shown : Nat → Word) (l : List Nat) (f : RegFile) (g : Nat) :
    rfGet ((l.map (fun g => (g, shown g))).foldl (fun f c => rfPut f c.1 c.2) f) g = if g ∈ l then shown g else rfGet f g := by
  induction l generalizing f with
  | nil => rfl
  | cons k l ih =>
    rw [List.map_cons, List.foldl_cons, ih]
    by_cases hl : g ∈ l
    · simp [hl]
    · by_cases hk : g = k
      · simp [hk]
      · simp [hl, hk, rfGet_put_ne f k g (shown k) (Ne.symm hk)]

/-- What the read of register `a` of slice `p` does beside its word (R53, R141, R183). -/
structure SliceTaken (s t : State) (p : Phys) (a : Nat) : Prop where
  latched : ∀ g ∈ sliceGroup a, rfGet (t.z p).latch g = sliceShown s p g
  cleared : ∀ e, regAt a = some e → rfGet (t.z p).regs a = rcWord e a (rfGet (s.z p).regs a)
  kept    : ∀ b, b ≠ a → b ≠ a + 0x100 → rfGet (t.z p).regs b = rfGet (s.z p).regs b
  others  : ∀ q, q ≠ p → t.sl q = s.sl q
  porch   : t.regs = s.regs
  headers : t.hdrs = s.hdrs
  outputs : t.emitted = s.emitted

/-- The word that a slice register reads: its latched copy where it reads through one (R183). -/
def sliceWord (s : State) (p : Phys) (a : Nat) : Word := if sliceLatched a then rfGet (s.z p).latch a else sliceShown s p a

section SliceRead
variable {a : Nat} (hcap : a ≠ R.ZE_CAP_DATA.at 0) (hevt : a ≠ R.ZK_EVT_LO.at 0)
include hcap hevt

/-- The read of a slice register that no FIFO stands behind. -/
theorem sliceRead_plain (s : State) (p : Phys) : sliceRead s p a = (sliceWord s p a,
    (s.latchZW p ((sliceGroup a).map (fun g => (g, sliceShown s p g)))).onR p
      (fun f => takeEntryB a (if isEntryB a then f else clearRc f a))) := by
  rw [sliceRead, if_neg hcap, if_neg hevt]
  rfl

theorem sliceRead_word (s : State) (p : Phys) : (sliceRead s p a).1 = sliceWord s p a := by
  rw [sliceRead_plain hcap hevt]

theorem sliceRead_taken (hB : isEntryB a = false) (s : State) (p : Phys) : SliceTaken s (sliceRead s p a).2 p a := by
  rw [sliceRead_plain hcap hevt]
  simp only [hB, Bool.false_eq_true, if_false]
  have hregs (f : RegFile → RegFile) (l : List (Nat × Word)) : ((((s.latchZW p l).onR p f).z p).regs) = f (s.z p).regs := by
    rw [z_onR, State.latchZW, z_onZ]
  refine ⟨fun g hg => ?_, fun e he => ?_, fun b hba hbb => ?_, fun q hq => ?_, rfl, rfl, rfl⟩
  · rw [State.onR, z_onZ, State.latchZW, z_onZ]
    exact (rfGet_latched (sliceShown s p) _ _ g).trans (if_pos hg)
  · rw [hregs, rfGet_takeEntryB_ne (by omega), rfGet_clearRc he]
  · rw [hregs, rfGet_takeEntryB_ne hbb, rfGet_clearRc_ne hba]
  · exact (sl_setSl_ne _ _ _ _ hq).trans (sl_setSl_ne _ _ _ _ hq)

end SliceRead

theorem readOk_slice {off : Nat} (h : 0x40 ≤ off) (s : State) (p : Phys) (sub : Nat) (z : Option Zone) :
    readOk s (.slice p sub z) off = sliceRead s p (keyOf (.slice p sub z) off) := if_neg (by omega)

theorem readOk_porch {off : Nat} (h : 0x40 ≤ off) (s : State) (page : Nat) :
    readOk s (.porch page) off = porchRead s page off := if_neg (by omega)

/-- Settles O11: a refused read changes nothing; one that completes OK does what a read of a slice register does. -/
theorem readClearsOnlyWhenOk : Obligations.ReadClearsOnlyWhenOk := by
  refine ⟨fun s a h => readAt_refused h, ?_⟩
  rintro s p sub a z e addr d hr hd hst hpl hoff rfl hcap hevt hB he
  obtain ⟨-, hcleared, hkept, hothers, hporch, hheaders, -⟩ := sliceRead_taken hcap hevt hB d p
  refine ⟨_, exec_readClear .., ?_⟩
  rw [hostRead_ok hr hd hst hpl, readOk_slice hoff, sliceRead_word hcap hevt]
  exact ⟨lastOut_emit .., hcleared e he, hkept, hothers, hporch, hheaders⟩

/-! ### Registers written (R51, R53) -/

theorem rfGet_storeReg {e : RegDef} {a : Nat} (h : regAt a = some e) (f : RegFile) (v : Word) :
    rfGet (storeReg f a v) a = storeWord e a (rfGet f a) v := by
  rw [storeReg, h]
  exact rfGet_put ..

theorem rfGet_storeReg_ne {a b : Nat} (h : b ≠ a) (f : RegFile) (v : Word) : rfGet (storeReg f a v) b = rfGet f b := by
  unfold storeReg
  split
  · exact rfGet_put_ne _ _ _ _ h.symm
  · rfl

theorem occupied_header (pl : Place) {off : Nat} (h : off < 0x38) : occupied pl off = true := if_pos h

theorem occupied_register {pl : Place} {off : Nat} (hoff : 0x40 ≤ off) (h : (regAt (keyOf pl off)).isSome = true) :
    occupied pl off = true := by
  unfold occupied
  rw [if_neg (by omega), if_neg (by omega)]
  split
  · rfl
  · rfl
  · rfl
  · exact h

/-- The write of a register outside the header: the word is stored and its page changes (R65). -/
theorem writeOk_register {pl : Place} {off : Nat} (hoff : 0x40 ≤ off) (h : (regAt (keyOf pl off)).isSome = true) (s : State)
    (v : Word) (i : Hint) : writeOk s pl off v i = (.ok, (registerStore s pl off v i).touch (pageOf pl)) := by
  simp [writeOk, occupied_register hoff h, show ¬ off < 0x40 by omega]

theorem sliceAction_none {a : Nat} (h : a ∉ [R.ZI_CTRL.at 0, R.ZC_CTRL.at 0, R.ZE_CAP_CTRL.at 0, R.ZO_CTRL.at 0])
    (h3 : isSeq3 a = false) (s0 s : State) (p : Phys) (v : Word) : sliceAction s0 s p a v = s := by
  simp only [List.mem_cons, List.not_mem_nil, or_false, not_or] at h
  obtain ⟨hzi, hzc, hze, hzo⟩ := h
  rw [sliceAction, if_neg hzi, if_neg hzc, h3, if_neg Bool.false_ne_true, if_neg hze, if_neg hzo]

theorem porchAction_none {a : Nat} (h : a ∉ [R.HWY_CAL_SEL.at 0, R.PWR_LOG_SEL.at 0, R.PCH_EC_SEL.at 0, R.PCH_LD_SEL.at 0,
    R.PCH_GB_Q_SEQ.at 0, R.PCH_RS_WIN_SEQ.at 0, R.HL_CTRL.at 0, R.FB_CTRL.at 0, R.FB_CTRL.at 1, R.CLR_CTRL.at 0,
    R.CLR_TRUST.at 0]) (s : State) (v : Word) (i : Hint) : porchAction s a v i = s := by
  simp only [List.mem_cons, List.not_mem_nil, or_false, not_or] at h
  obtain ⟨h1, h2, h3, h4, h5, h6, h7, h8, h9, h10, h11⟩ := h
  simp only [porchAction, h1, h2, h3, h4, h5, h6, h7, h8, h9, h10, h11, if_false]

/-- The page that an address of a porch place names. -/
theorem porch_page_of_place {s : State} {a page : Nat} (h : s.place a = some (.porch page)) : page = a / 4096 := by
  unfold State.place at h
  split at h <;> simp_all

@[simp] theorem sl_emit (s : State) (e : Emit) (q : Phys) : (s.emit e).sl q = s.sl q := rfl
@[simp] theorem z_emit (s : State) (e : Emit) (q : Phys) : (s.emit e).z q = s.z q := rfl
@[simp] theorem sl_touch (s : State) (g : Nat) (q : Phys) : (s.touch g).sl q = s.sl q := rfl
@[simp] theorem z_touch (s : State) (g : Nat) (q : Phys) : (s.touch g).z q = s.z q := rfl
@[simp] theorem touch_regs (s : State) (g : Nat) : (s.touch g).regs = s.regs := rfl
@[simp] theorem touch_slices (s : State) (g : Nat) : (s.touch g).slices = s.slices := rfl

theorem sl_onR_ne {p q : Phys} (h : q ≠ p) (s : State) (f : RegFile → RegFile) : (s.onR p f).sl q = s.sl q :=
  sl_setSl_ne _ _ _ _ h

/-- Settles O12: the word is stored in the file of the slice, or of the porch, that holds the register. -/
theorem registerWriteStores : Obligations.RegisterWriteStores := by
  constructor
  · rintro s p sub a z e addr v d hr hd hst hpl hoff rfl he hno h3
    have hsome : (regAt (keyOf (.slice p sub z) (addr.toNat % 4096))).isSome = true := by rw [he]; rfl
    have hstored : hostWrite s addr.toNat v = ((d.onR p
        (fun f => storeReg f (keyOf (.slice p sub z) (addr.toNat % 4096)) v)).touch (slicePage p sub)).emit (.access .ok 0) := by
      rw [hostWrite_ok hr hd hst hpl, writeOk_register hoff hsome, registerStore, sliceAction_none hno h3]
      rfl
    refine ⟨_, exec_registerWrite .., ?_⟩
    rw [hstored]
    refine ⟨lastOut_emit .., ?_, fun b hb => ?_, fun q hq => ?_, rfl⟩
    · rw [z_emit, z_touch, z_onR, rfGet_storeReg he]
    · rw [z_emit, z_touch, z_onR, rfGet_storeReg_ne hb]
    · rw [sl_emit, sl_touch, sl_onR_ne hq]
  · rintro s page e addr v d hr hd hst hpl hoff he hno
    have hkey : keyOf (.porch page) (addr.toNat % 4096) = addr.toNat := by
      rw [keyOf, porch_page_of_place hpl]
      omega
    have hsome : (regAt (keyOf (.porch page) (addr.toNat % 4096))).isSome = true := by rw [hkey, he]; rfl
    have hstored : hostWrite s addr.toNat v = (State.touch { d with regs := storeReg d.regs addr.toNat v } page).emit (.access .ok 0) := by
      rw [hostWrite_ok hr hd hst hpl, writeOk_register hoff hsome, registerStore, hkey, porchAction_none hno]
      rfl
    refine ⟨_, exec_registerWrite .., ?_⟩
    rw [hstored]
    exact ⟨lastOut_emit .., rfGet_storeReg he .., fun b hb => rfGet_storeReg_ne hb .., rfl⟩

end Sys2Proof.Machine

namespace Sys2Proof.Machine
open Host

/-! ### The order of errors on a page (R75) -/

theorem holds_iff (h : Hdr) (e : Word) : h.holds e = true ↔ e = h.err ∨ ∃ x ∈ h.queue, x.word = e := by
  simp [Hdr.holds]

theorem sevOf_le (e : Word) : sevOf e ≤ 15 := Nat.lt_succ_iff.mp (Nat.mod_lt _ (by decide))

/-- The least severity of a list, from one it starts with: a bound, and reached by that one or by an entry. -/
theorem foldl_minSev (q : List ErrEntry) (m : Nat) : q.foldl (fun m e => min m (sevOf e.word)) m ≤ m ∧
    (∀ x ∈ q, q.foldl (fun m e => min m (sevOf e.word)) m ≤ sevOf x.word) ∧
    (q.foldl (fun m e => min m (sevOf e.word)) m = m ∨
      ∃ x ∈ q, sevOf x.word = q.foldl (fun m e => min m (sevOf e.word)) m) := by
  induction q generalizing m with
  | nil => simp
  | cons c q ih =>
    obtain ⟨hm, hq, hreached⟩ := ih (min m (sevOf c.word))
    simp only [List.foldl_cons, List.mem_cons, forall_eq_or_imp, exists_eq_or_imp]
    refine ⟨hm.trans (min_le_left ..), ⟨hm.trans (min_le_right ..), hq⟩, ?_⟩
    rcases hreached with h | h
    · rw [h]
      rcases min_choice m (sevOf c.word) with h | h
      · exact .inl h
      · exact .inr (.inl h.symm)
    · exact .inr (.inr h)

theorem minSev_le {q : List ErrEntry} {x : ErrEntry} (h : x ∈ q) : minSev q ≤ sevOf x.word := by
  obtain ⟨-, hle, -⟩ := foldl_minSev q 15
  exact hle x h

theorem exists_minSev {q : List ErrEntry} (h : q ≠ []) : ∃ x ∈ q, sevOf x.word = minSev q := by
  obtain ⟨-, hle, h15 | hx⟩ := foldl_minSev q 15
  · obtain ⟨x, hx⟩ := List.exists_mem_of_ne_nil q h
    exact ⟨x, hx, le_antisymm ((sevOf_le _).trans h15.ge) (hle x hx)⟩
  · exact hx

theorem leaves_iff (q : List ErrEntry) (e : ErrEntry) : leaves q e = true ↔
    sevOf e.word = minSev q ∧ ∀ x ∈ q, sevOf x.word = minSev q → x.nth ≤ e.nth := by
  simp [leaves, imp_iff_not_or]

/-- Some entry leaves a queue: of those of the lowest severity the one that came last. -/
theorem exists_leaves {q : List ErrEntry} (h : q ≠ []) : ∃ x ∈ q, leaves q x = true := by
  obtain ⟨y, hy, hmin⟩ := exists_minSev h
  have hne : (q.toFinset.filter (fun x => sevOf x.word = minSev q)).Nonempty := ⟨y, by simp [hy, hmin]⟩
  obtain ⟨x, hx, hlast⟩ := Finset.exists_max_image _ ErrEntry.nth hne
  simp only [Finset.mem_filter, List.mem_toFinset] at hx hlast
  exact ⟨x, hx.1, (leaves_iff q x).mpr ⟨hx.2, fun z hz hzmin => hlast z ⟨hz, hzmin⟩⟩⟩

/-- What leaves a full queue (R75, last row). -/
theorem dropLowest_spec {q : List ErrEntry} (h : q ≠ []) : ∃ (a b : List ErrEntry) (x : ErrEntry),
    q = a ++ x :: b ∧ dropLowest q = a ++ b ∧ (∀ y ∈ q, sevOf x.word ≤ sevOf y.word) ∧
    (∀ y ∈ q, sevOf y.word = sevOf x.word → y.nth ≤ x.nth) := by
  obtain ⟨y, hy, hly⟩ := exists_leaves h
  obtain ⟨x, a, b, -, hx, hq, hdrop⟩ := List.exists_of_eraseP hy hly
  obtain ⟨hmin, hlast⟩ := (leaves_iff q x).mp hx
  exact ⟨a, b, x, hq, hdrop, fun y hy => hmin ▸ minSev_le hy, fun y hy hs => hlast y hy (hs.trans hmin)⟩

section Arrival
variable {h : Hdr} {e : Word}

theorem arrive_held (hh : h.holds e = true) : arrive h e = ({ h with rep := satTo 4 (h.rep + 1) }, 0) := if_pos hh

section New
variable (hh : h.holds e = false)
include hh

theorem arrive_first (h0 : h.err = 0) :
    arrive h e = ({ h with err := e, errNth := h.arrivals, arrivals := h.arrivals + 1 }, 4) := by
  simp [arrive, hh, h0]

section Shown
variable (h0 : h.err ≠ 0)
include h0

/-- A page that shows another entry queues one of the two (R75). -/
theorem arrive_shown : arrive h e =
    let h1 : Hdr × Nat :=
      if sevOf e ≤ sevOf h.err then ({ h with queue := h.queue ++ [⟨e, h.arrivals⟩], arrivals := h.arrivals + 1 }, 2)
      else ({ h with err := e, errNth := h.arrivals, queue := h.shown :: h.queue, arrivals := h.arrivals + 1 }, 4)
    if h1.1.queue.length = 5 then
      ({ h1.1 with queue := dropLowest h1.1.queue, ovf := satTo 8 (h1.1.ovf + 1) }, h1.2 + 8)
    else h1 := by
  unfold arrive
  exact (if_neg (by simp [hh])).trans (if_neg h0)

theorem arrive_below (hq : h.queue.length < 4) (hs : sevOf e ≤ sevOf h.err) :
    arrive h e = ({ h with queue := h.queue ++ [⟨e, h.arrivals⟩], arrivals := h.arrivals + 1 }, 2) := by
  simp [arrive_shown hh h0, hs, hq.ne]

theorem arrive_above (hq : h.queue.length < 4) (hs : sevOf h.err < sevOf e) :
    arrive h e = ({ h with err := e, errNth := h.arrivals, queue := ⟨h.err, h.errNth⟩ :: h.queue,
                           arrivals := h.arrivals + 1 }, 4) := by
  simp [arrive_shown hh h0, hs.not_ge, hq.ne, Hdr.shown]

/-- The five entries that stand against one another where the queue is full. -/
def fiveOf (h : Hdr) (e : Word) : List ErrEntry :=
  if sevOf e ≤ sevOf h.err then h.queue ++ [⟨e, h.arrivals⟩] else ⟨h.err, h.errNth⟩ :: h.queue

theorem arrive_full (hq : h.queue.length = 4) :
    (arrive h e).1.queue = dropLowest (fiveOf h e) ∧ (arrive h e).1.ovf = satTo 8 (h.ovf + 1) ∧
    (arrive h e).1.err = (if sevOf e ≤ sevOf h.err then h.err else e) ∧
    (arrive h e).2 = (if sevOf e ≤ sevOf h.err then 10 else 12) := by
  by_cases hs : sevOf e ≤ sevOf h.err <;> simp [arrive_shown hh h0, fiveOf, hs, hq, Hdr.shown]

end Shown
end New

theorem fiveOf_length (h : Hdr) (e : Word) : (fiveOf h e).length = h.queue.length + 1 := by
  unfold fiveOf
  split <;> simp

theorem fiveOf_ne_nil (h : Hdr) (e : Word) : fiveOf h e ≠ [] := List.ne_nil_of_length_eq_add_one (fiveOf_length h e)

end Arrival

/-- The queue of a page never holds more than four entries (R75). -/
theorem arrive_queue_le {h : Hdr} (hq : h.queue.length ≤ 4) (e : Word) : (arrive h e).1.queue.length ≤ 4 := by
  cases hh : h.holds e with
  | true => rwa [arrive_held hh]
  | false =>
    by_cases h0 : h.err = 0
    · rwa [arrive_first hh h0]
    · rcases hq.lt_or_eq with hlt | heq
      · rcases le_or_gt (sevOf e) (sevOf h.err) with hs | hs
        · rw [arrive_below hh h0 hlt hs]
          simpa using hlt
        · rw [arrive_above hh h0 hlt hs]
          simpa using hlt
      · obtain ⟨a, b, x, hfive, hdrop, -⟩ := dropLowest_spec (fiveOf_ne_nil h e)
        have hlen := fiveOf_length h e
        obtain ⟨hqueue, -, -, -⟩ := arrive_full hh h0 heq
        rw [hqueue, hdrop]
        simp only [hfive, List.length_append, List.length_cons] at hlen ⊢
        omega

/-- Settles O14, row by row of R75. -/
theorem errorOrderOnAPage : Obligations.ErrorOrderOnAPage := by
  intro h e hq
  refine ⟨arrive_queue_le hq e, holds_iff h e, arrive_held, arrive_first, arrive_below, arrive_above, fun hh h0 hfull => ?_⟩
  obtain ⟨hqueue, hovf, herr, hbits⟩ := arrive_full hh h0 hfull
  obtain ⟨a, b, x, hfive, hdrop, hmin, hlast⟩ := dropLowest_spec (fiveOf_ne_nil h e)
  exact ⟨hovf, hbits, herr, fiveOf h e, a, b, x, rfl, hfive, hqueue.trans hdrop, hmin, hlast⟩

end Sys2Proof.Machine

namespace Sys2Proof.Machine
open Host

/-! ### Header registers read and written (R48, R56) -/

theorem hdrAddr_page (page : Page) {off : Nat} (h : off < 4096) : hdrAddr page off / 4096 = page.toNat := by
  unfold hdrAddr
  omega

theorem hdrAddr_off (page : Page) {off : Nat} (h : off < 4096) : hdrAddr page off % 4096 = off := by
  unfold hdrAddr
  omega

theorem slicePage_of_pageKind {page : Nat} {p : Phys} {sub : Nat} (h : pageKind page = .slice p sub) :
    slicePage p sub = page := by
  unfold pageKind at h
  split_ifs at h
  cases h
  simp only [slicePage]
  omega

/-- The page of a place is the physical page of the page named (R48). -/
theorem pageOf_place {s : State} {a : Nat} {pl : Place} (h : s.place a = some pl) : pageOf pl = s.physPage (a / 4096) := by
  unfold State.place at h
  unfold State.physPage
  split at h
  case h_4 p sub hk =>
    cases h
    rw [hk]
    exact slicePage_of_pageKind hk
  case h_6 => cases h
  all_goals
    next hk =>
      cases h
      rw [hk]
      rfl

theorem exists_place {s : State} {a : Nat} (h : pageKind (a / 4096) ≠ .unmapped) : ∃ pl, s.place a = some pl := by
  unfold State.place
  split
  case h_6 hk => exact absurd hk h
  all_goals exact ⟨_, rfl⟩

theorem writeOk_header {off : Nat} (h : off < 0x38) (s : State) (pl : Place) (v : Word) (i : Hint) : writeOk s pl off v i =
    if (headerWrite s (pageOf pl) off v).1 = .ok then (.ok, (headerWrite s (pageOf pl) off v).2.touch (pageOf pl))
    else headerWrite s (pageOf pl) off v := by
  simp [writeOk, occupied_header pl h, show off < 0x40 by omega]

theorem readOk_header {off : Nat} (h : off < 0x40) (s : State) (pl : Place) : readOk s pl off =
    (headerWord s pl off, s.onHdr (pageOf pl) (fun x => headerTaken x off)) := if_pos h

section Header
variable {s d : State} {page : Page} {g off : Nat} (hr : s.porchRuns = true) (hd : d = endDoze s)
  (hg : g = d.physPage page.toNat)
include hr hd hg

section Write
variable (hoff : off < 0x38) (hst : writeStatus d (hdrAddr page off) = .ok)
include hoff hst

theorem hostWrite_header (v : Word) : hostWrite s (hdrAddr page off) v =
    if (headerWrite d g off v).1 = .ok then ((headerWrite d g off v).2.touch g).emit (.access .ok 0)
    else (headerWrite d g off v).2.emit (.access (headerWrite d g off v).1 0) := by
  obtain ⟨pl, hpl⟩ := place_of_writeStatus_ok hst
  have hpage : pageOf pl = g := by rw [pageOf_place hpl, hdrAddr_page page (by omega), hg]
  rw [hostWrite_ok hr hd hst hpl, hdrAddr_off page (by omega), writeOk_header hoff, hpage]
  split <;> rfl

theorem hostWrite_header_ok {v : Word} {t : State} (h : headerWrite d g off v = (.ok, t)) :
    hostWrite s (hdrAddr page off) v = (t.touch g).emit (.access .ok 0) := by
  rw [hostWrite_header hr hd hg hoff hst, h, if_pos rfl]

theorem hostWrite_header_mismatch {v : Word} {t : State} (h : headerWrite d g off v = (.mismatch, t)) :
    hostWrite s (hdrAddr page off) v = t.emit (.access .mismatch 0) := by
  rw [hostWrite_header hr hd hg hoff hst, h, if_neg (show ¬ Status.mismatch = .ok by decide)]

end Write

/-- The read of a header register from 0x0C on. -/
theorem hostRead_header (hlo : 0x0C ≤ off) (hhi : off < 0x40) (h4 : off % 4 = 0) (hk : pageKind page.toNat ≠ .unmapped) :
    hostRead s (hdrAddr page off) =
      (d.onHdr g (fun x => headerTaken x off)).emit (.access .ok ((d.hdr g).word off)) := by
  obtain ⟨pl, hpl⟩ := exists_place (s := d) (a := hdrAddr page off) (by rwa [hdrAddr_page page (by omega)])
  have hpage : pageOf pl = g := by rw [pageOf_place hpl, hdrAddr_page page (by omega), hg]
  have hst : readStatus d (hdrAddr page off) = .ok := by
    have h4' : hdrAddr page off % 4 = 0 := by
      unfold hdrAddr
      omega
    simp [readStatus, h4', hpl, hdrAddr_off page (show off < 4096 by omega), hhi]
  have hword : headerWord d pl off = (d.hdr (pageOf pl)).word off := by
    unfold headerWord
    split
    case h_6 => rfl
    all_goals omega
  rw [hostRead_ok hr hd hst hpl, hdrAddr_off page (by omega), readOk_header hhi, hword, hpage]

end Header

/-! ### What an event or a change of time leaves of a page header (R61, R65) -/

theorem hdr_onHdr (s : State) (g : Nat) (f : Hdr → Hdr) : (s.onHdr g f).hdr g = f (s.hdr g) := hdr_setHdr ..

section Part
variable {β : Type} (f : Hdr → β) (hf : ∀ h i t, f { h with isr := i, ts := t } = f h)
include hf

/-- A part of a header beside its events and its time stamp. -/
theorem part_touch (s : State) (g g' : Nat) : f ((s.touch g).hdr g') = f (s.hdr g') := by
  rw [State.touch, State.onHdr, hdr_setHdr_ite]
  split
  · next hg =>
    rw [← hg]
    exact hf (s.hdr g) (s.hdr g).isr s.now
  · rfl

theorem part_setIsrFrom (b s : State) (g n g' : Nat) : f ((setIsrFrom b s g n).hdr g') = f (s.hdr g') := by
  simp only [setIsrFrom, hdr_repulse, hdr_setHdr_ite]
  split
  · next hg => rw [hf, hg]
  · rfl

theorem part_noteSum (b s : State) (g : Nat) : f ((noteSum b s).hdr g) = f (s.hdr g) := by
  unfold noteSum
  split
  · rfl
  · exact part_setIsrFrom f hf ..

end Part

@[simp] theorem isrBit_emit (s : State) (e : Emit) (g b : Nat) : (s.emit e).isrBit g b = s.isrBit g b := rfl

@[simp] theorem isrBit_touch (s : State) (g g' b : Nat) : (s.touch g).isrBit g' b = s.isrBit g' b := by
  simp only [State.isrBit, State.touch, State.onHdr, hdr_setHdr_ite]
  split
  · next hg => rw [← hg]
  · rfl

/-! ### The acknowledgement (R76) -/

theorem word_eq_of_fields {v w : Word} (hlo : fieldOf v 15 0 = fieldOf w 15 0) (hhi : fieldOf v 31 16 = fieldOf w 31 16) :
    v = w := by
  refine BitVec.eq_of_toNat_eq ?_
  have hv := v.isLt
  have hw := w.isLt
  simp only [fieldOf, Nat.shiftRight_eq_div_pow] at hlo hhi
  omega

@[simp] theorem ackErr_quiet (s : State) (g : Nat) : (s.ackErr g).quiet = s.quiet := by
  unfold State.ackErr
  dsimp only
  split <;> simp

/-- What the acknowledgement leaves on display and in the queue. -/
theorem ackErr_empty {s : State} {g : Nat} (h : (s.hdr g).queue = []) :
    ((s.ackErr g).hdr g).err = 0 ∧ ((s.ackErr g).hdr g).queue = [] := by
  have hack : s.ackErr g = noteSum s ((s.setHdr g { s.hdr g with err := 0 }).touch g) := by
    unfold State.ackErr
    dsimp only
    rw [h]
  rw [hack, part_noteSum Hdr.err (fun _ _ _ => rfl), part_noteSum Hdr.queue (fun _ _ _ => rfl),
    part_touch Hdr.err (fun _ _ _ => rfl), part_touch Hdr.queue (fun _ _ _ => rfl), hdr_setHdr]
  exact ⟨rfl, h⟩

theorem ackErr_queued {s : State} {g : Nat} {e : ErrEntry} {q : List ErrEntry} (h : (s.hdr g).queue = e :: q) :
    ((s.ackErr g).hdr g).err = e.word ∧ ((s.ackErr g).hdr g).queue = q ∧ (s.ackErr g).isrBit g 2 = true := by
  have hack : s.ackErr g =
      noteSum s (setIsrFrom s (s.setHdr g { s.hdr g with err := e.word, errNth := e.nth, queue := q }) g 4) := by
    unfold State.ackErr
    dsimp only
    rw [h]
  refine ⟨?_, ?_, ?_⟩
  · rw [hack, part_noteSum Hdr.err (fun _ _ _ => rfl), part_setIsrFrom Hdr.err (fun _ _ _ => rfl), hdr_setHdr]
  · rw [hack, part_noteSum Hdr.queue (fun _ _ _ => rfl), part_setIsrFrom Hdr.queue (fun _ _ _ => rfl), hdr_setHdr]
  · rw [hack]
    refine (grows_noteSum ..).isr g 2 ?_
    rw [isrBit_setIsrFrom]
    simp

theorem exec_errorAcknowledge (page : Page) (v : Word) (s : State) :
    exec (.errorAcknowledge page v) s = .next (hostWrite s (hdrAddr page 0x18) v) := rfl

/-- Settles O13: the displayed entry is judged, then the queue's head moves up. -/
theorem acknowledgeMovesTheQueue : Obligations.AcknowledgeMovesTheQueue := by
  intro s page v d g hr hd hg hst
  refine ⟨fun h0 hcode hctx => ?_, fun h => ?_⟩
  · have hv : v = (d.hdr g).err := word_eq_of_fields hcode hctx
    have hw : headerWrite d g 0x18 v = (.ok, d.ackErr g) := if_neg (not_or.mpr ⟨h0, not_not.mpr hv⟩)
    obtain ⟨-, -, -, hregs, hslices, -⟩ := sameButPages_of_quiet (ackErr_quiet d g)
    refine ⟨_, exec_errorAcknowledge .., ?_⟩
    rw [hostWrite_header_ok hr hd hg (by decide) hst hw]
    simp only [emit_slices, emit_regs, hdr_emit, isrBit_emit, isrBit_touch, part_touch Hdr.err (fun _ _ _ => rfl),
      part_touch Hdr.queue (fun _ _ _ => rfl)]
    exact ⟨lastOut_emit .., hslices, hregs, ackErr_empty, fun e q => ackErr_queued⟩
  · have hw : headerWrite d g 0x18 v = (.mismatch, d) := if_pos h
    rw [exec_errorAcknowledge, hostWrite_header_mismatch hr hd hg (by decide) hst hw]

/-! ### The snapshot of PG_TS (R65) -/

theorem endDoze_of_run {s : State} (h : s.landing.state = 0) : endDoze s = s := if_neg (by omega)

theorem physPage_of_map {s t : State} (h : t.map = s.map) (page : Nat) : t.physPage page = s.physPage page := by
  unfold State.physPage State.sliceOf
  rw [h]

/-- Settles O16: the read of the low word keeps the high word in the header, and the read of the high word takes it from there. -/
theorem timeStampSnapshot : Obligations.TimeStampSnapshot := by
  intro s page d g hr hd hg hk
  have hlo : hostRead s (hdrAddr page 0x30) = (d.onHdr g (fun x => headerTaken x 0x30)).emit
      (.access .ok (BitVec.ofNat 32 (d.hdr g).ts)) :=
    hostRead_header hr hd hg (by decide) (by decide) (by decide) hk
  have hsnap : ((hostRead s (hdrAddr page 0x30)).hdr g).tsSnap = some (BitVec.ofNat 32 ((d.hdr g).ts / 2 ^ 32)) := by
    rw [hlo, hdr_emit, hdr_onHdr]
    rfl
  have hmap : (hostRead s (hdrAddr page 0x30)).map = d.map := by
    rw [hlo]
    rfl
  refine ⟨hostRead s (hdrAddr page 0x30), rfl, ?_, hsnap, ?_, ?_, ?_⟩
  · rw [hlo, lastOut_emit]
  · rw [hlo]
    rfl
  · rw [hlo]
    rfl
  · rintro u h ⟨hru, hrun, hum, rfl, husnap⟩
    have hgu : g = u.physPage page.toNat := by rw [physPage_of_map (hum.trans hmap), hg]
    have haddr : (BitVec.ofNat 32 (hdrAddr page 0x34)).toNat = hdrAddr page 0x34 := by
      have := page.isLt
      rw [BitVec.toNat_ofNat]
      unfold hdrAddr
      omega
    have hhi := hostRead_header (off := 0x34) hru (endDoze_of_run hrun).symm hgu (by decide) (by decide) (by decide) hk
    have hword : (u.hdr g).word 0x34 = BitVec.ofNat 32 ((d.hdr g).ts / 2 ^ 32) := by
      simp only [Hdr.word, husnap, hsnap]
    refine ⟨_, exec_readClear .., ?_⟩
    rw [haddr, hhi, hword, hdr_emit, hdr_onHdr]
    exact ⟨lastOut_emit .., rfl⟩

end Sys2Proof.Machine

namespace Sys2Proof.Machine
open Host

/-! ### Slice registers through a view (R45 to R48) -/

theorem pageKind_slicePage (p : Phys) {sub : Nat} (h : sub ≤ 0x0D) : pageKind (slicePage p sub) = .slice p sub := by
  have hp := p.isLt
  have hsub : (slicePage p sub - 0x100) % 0x20 = sub := by
    unfold slicePage
    omega
  have hslice : (slicePage p sub - 0x100) / 0x20 = p.val := by
    unfold slicePage
    omega
  have hrange : 0x100 ≤ slicePage p sub ∧ slicePage p sub < 0x100 + 68 * 0x20 := by
    unfold slicePage
    omega
  unfold pageKind
  rw [if_neg (by omega), if_neg (by omega), if_neg (by omega), dif_pos hrange, if_pos (by omega)]
  simp only [hsub, hslice]

theorem pageKind_alias (z : Zone) {sub : Nat} (h : sub ≤ 0x0D) : pageKind (0x1000 + z.val * 0x20 + sub) = .zone z sub := by
  have hz := z.isLt
  have hsub : (0x1000 + z.val * 0x20 + sub - 0x1000) % 0x20 = sub := by omega
  have hzone : (0x1000 + z.val * 0x20 + sub - 0x1000) / 0x20 = z.val := by omega
  unfold pageKind
  rw [if_neg (by omega), if_neg (by omega), if_neg (by omega), dif_neg (by omega), dif_pos (by omega), if_pos (by omega)]
  simp only [hsub, hzone]

/-- The zone that a view names. -/
def viewZone : View → Option Zone
  | .phys _ => none
  | .zone z => some z

theorem place_viewAddr (s : State) (v : View) {a : Nat} (hlo : 0x100000 ≤ a) (hhi : a < 0x10E000) :
    s.place (viewAddr v a) = some (.slice (s.viewSlice v) (a / 4096 - 0x100) (viewZone v)) := by
  unfold State.place
  cases v with
  | phys p =>
    have hpage : viewAddr (.phys p) a / 4096 = slicePage p (a / 4096 - 0x100) := by
      simp only [viewAddr, slicePage]
      omega
    rw [hpage, pageKind_slicePage p (by omega)]
    rfl
  | zone z =>
    have hpage : viewAddr (.zone z) a / 4096 = 0x1000 + z.val * 0x20 + (a / 4096 - 0x100) := by
      simp only [viewAddr]
      omega
    rw [hpage, pageKind_alias z (by omega)]
    rfl

theorem viewAddr_off (v : View) (a : Nat) : viewAddr v a % 4096 = a % 4096 := by
  cases v <;> simp only [viewAddr] <;> omega

theorem viewAddr_aligned (v : View) {a : Nat} (h : a % 4 = 0) : viewAddr v a % 4 = 0 := by
  cases v <;> simp only [viewAddr] <;> omega

/-- The registers of an open view answer (R49, R70). -/
theorem viewOpen_place {s : State} {v : View} (h : s.viewOpen v = true) (sub : Nat) :
    placeMoving s (.slice (s.viewSlice v) sub (viewZone v)) = false ∧ placeDark s (.slice (s.viewSlice v) sub (viewZone v)) = false := by
  unfold State.viewOpen at h
  rw [Bool.and_eq_true] at h
  obtain ⟨hrun, hopen⟩ := h
  refine ⟨?_, by simp [placeDark, State.dark, hrun]⟩
  cases v with
  | phys p => rfl
  | zone z => simpa [placeMoving, viewZone] using hopen

/-- A register of a slice, by its address in S00, that no FIFO stands behind and that shows its own value. -/
abbrev plainSliceReg (a : Nat) : Prop :=
  (0x100000 ≤ a ∧ a < 0x10E000 ∧ a % 4 = 0 ∧ 0x40 ≤ a % 4096) ∧ a ≠ R.ZE_CAP_DATA.at 0 ∧ a ≠ R.ZK_EVT_LO.at 0 ∧
  isEntryB a = false ∧ sliceLatched a = false

/-- A read of the host through an open view. -/
theorem hostRead_view {s d : State} {v : View} {a : Nat} (hr : s.porchRuns = true) (hd : d = endDoze s)
    (hopen : d.viewOpen v = true) (ha : plainSliceReg a) : ∃ t, SliceTaken d t (d.viewSlice v) a ∧
      hostRead s (viewAddr v a) = t.emit (.access .ok (sliceShown d (d.viewSlice v) a)) := by
  obtain ⟨⟨hlo, hhi, h4, hoff⟩, hcap, hevt, hB, hlatched⟩ := ha
  have hpl := place_viewAddr d v hlo hhi
  obtain ⟨hmoving, hdark⟩ := viewOpen_place hopen (a / 4096 - 0x100)
  have hst : readStatus d (viewAddr v a) = .ok := by
    simp [readStatus, viewAddr_aligned v h4, hpl, hmoving, hdark]
  have hkey : keyOf (.slice (d.viewSlice v) (a / 4096 - 0x100) (viewZone v)) (a % 4096) = a := by
    simp only [keyOf]
    omega
  refine ⟨_, sliceRead_taken hcap hevt hB d _, ?_⟩
  rw [hostRead_ok hr hd hst hpl, viewAddr_off, readOk_slice hoff, hkey, sliceRead_word hcap hevt, sliceWord,
    if_neg (ne_true_of_eq_false hlatched)]

/-- The rows that read a named register of a slice, with the register's address in S00. -/
def sliceReadRows (v : View) (n : Fin 4) (k : Fin 32) (cool : Bool) : List (Instr × Nat) :=
  [(.ziTRead v n, R.ZI_T_n.at n.val), (.zcEntLoRead v k, R.ZC_ENT_k_LO.at k.val),
   (.zcUrgLoRead v, R.ZC_URG_LO.at 0), (.zcTsNowRead v, R.ZC_TS_NOW.at 0), (.zeStatRead v, R.ZE_STAT.at 0),
   (.zeHarmStatRead v, R.ZE_HARM_STAT.at 0), (.zeAccTsLoRead v, R.ZE_ACC_TS_LO.at 0), (.zeDmdRead v, R.ZE_DMD.at 0),
   (.zhStatRead v, R.ZH_STAT.at 0), (.zhAccTsLoRead v, R.ZH_ACC_TS_LO.at 0), (.zlStatRead v, R.ZL_STAT.at 0),
   (.zlModelRead v cool, if cool then R.ZL_MODEL_C_1.at 0 else R.ZL_MODEL_H_1.at 0), (.schAlmRead v, R.SCH_ALM.at 0),
   (.zpStatRead v, R.ZP_STAT.at 0), (.zoStatRead v, R.ZO_STAT.at 0), (.zkStatRead v, R.ZK_STAT.at 0),
   (.zxNowLoRead v, R.ZX_NOW_LO.at 0), (.zwStatRead v, R.ZW_STAT.at 0)]

theorem plainSliceReg_temperature : ∀ n : Fin 4, plainSliceReg (R.ZI_T_n.at n.val) := by decide
theorem plainSliceReg_entry : ∀ k : Fin 32, plainSliceReg (R.ZC_ENT_k_LO.at k.val) := by decide
theorem plainSliceReg_model : ∀ cool : Bool, plainSliceReg (if cool then R.ZL_MODEL_C_1.at 0 else R.ZL_MODEL_H_1.at 0) := by
  decide

/-- Each of these rows is one read through its view, of a register that shows its own value. -/
theorem sliceReadRows_read (s : State) (v : View) (n : Fin 4) (k : Fin 32) (cool : Bool) : ∀ r ∈ sliceReadRows v n k cool,
    exec r.1 s = .next (hostRead s (viewAddr v r.2)) ∧ plainSliceReg r.2 := by
  simp only [sliceReadRows, List.forall_mem_cons]
  refine ⟨⟨rfl, plainSliceReg_temperature n⟩, ⟨rfl, plainSliceReg_entry k⟩, ⟨rfl, by decide⟩, ⟨rfl, by decide⟩,
    ⟨rfl, by decide⟩, ⟨rfl, by decide⟩, ⟨rfl, by decide⟩, ⟨rfl, by decide⟩, ⟨rfl, by decide⟩, ⟨rfl, by decide⟩,
    ⟨rfl, by decide⟩, ⟨rfl, plainSliceReg_model cool⟩, ⟨rfl, by decide⟩, ⟨rfl, by decide⟩, ⟨rfl, by decide⟩,
    ⟨rfl, by decide⟩, ⟨rfl, by decide⟩, ⟨rfl, by decide⟩, List.forall_mem_nil _⟩

/-- Settles O17: each row is one read through its view, and does what the read of a slice register does. -/
theorem sliceRegisterReads : Obligations.SliceRegisterReads := by
  rintro s v n k cool i a d p hrow hr hd rfl hopen
  obtain ⟨hexec, ha⟩ := sliceReadRows_read s v n k cool (i, a) hrow
  obtain ⟨t, ⟨hlatched, hcleared, hkept, hothers, hporch, hheaders, hout⟩, hread⟩ := hostRead_view hr hd hopen ha
  refine ⟨_, hexec, ?_⟩
  rw [hread]
  exact ⟨by rw [emit_emitted, hout], hlatched, hcleared, hkept, hothers, hporch, hheaders⟩

/-! ### Registers of the porch and the cellar (R46, R183) -/

/-- Whether a page is one of the porch, the cellar or the hallway. -/
def PageKind.onPorch : PageKind → Bool
  | .porch | .cellar | .hallway => true
  | _ => false

theorem place_onPorch {s : State} {a : Nat} (h : (pageKind (a / 4096)).onPorch = true) :
    s.place a = some (.porch (a / 4096)) := by
  unfold State.place
  generalize pageKind (a / 4096) = k at h
  cases k with
  | porch | cellar | hallway => rfl
  | slice | zone | unmapped => cases h

/-- A register of the porch, the cellar or the hallway that no FIFO stands behind and that shows its own value. -/
abbrev plainPorchReg (a : Nat) : Prop :=
  ((pageKind (a / 4096)).onPorch = true ∧ 0x40 ≤ a % 4096) ∧ porchLatched a = false ∧ a ≠ R.CLR_WAKE_EVT_LO.at 0 ∧
  a ≠ R.CLR_SUPPLY.at 0 ∧ a ≠ R.FB_RX_HDR.at 0 ∧ a ≠ R.FB_RX_HDR.at 1 ∧ a ≠ R.PWR_SUPPLY.at 0

/-- What the read of such a register does beside its word (R53, R183). -/
structure PorchTaken (s t : State) (a : Nat) : Prop where
  latched : ∀ g ∈ porchGroup a, rfGet t.latch g = porchShown s (g / 4096) (g % 4096)
  cleared : ∀ e, regAt a = some e → rfGet t.regs a = rcWord e a (rfGet s.regs a)
  kept    : ∀ b, b ≠ a → rfGet t.regs b = rfGet s.regs b
  slices  : t.slices = s.slices
  headers : t.hdrs = s.hdrs
  outputs : t.emitted = s.emitted

theorem porchRead_plain {a : Nat} (ha : plainPorchReg a) (s : State) : porchRead s (a / 4096) (a % 4096) =
    (porchShown s (a / 4096) (a % 4096),
      { s.latchPW ((porchGroup a).map (fun g => (g, porchShown s (g / 4096) (g % 4096)))) with regs := clearRc s.regs a }) := by
  obtain ⟨-, hlatched, hwake, hcell, hrxA, hrxB, hsup⟩ := ha
  have hkey : a / 4096 * 4096 + a % 4096 = a := Nat.div_add_mod' a 4096
  unfold porchRead
  simp only [hkey, hwake, hcell, hrxA, hrxB, hsup, hlatched, if_false, Bool.false_eq_true]
  rfl

theorem porchRead_taken {a : Nat} (ha : plainPorchReg a) (s : State) :
    PorchTaken s (porchRead s (a / 4096) (a % 4096)).2 a := by
  rw [porchRead_plain ha]
  exact ⟨fun g hg => (rfGet_latched (fun g => porchShown s (g / 4096) (g % 4096)) _ _ g).trans (if_pos hg),
    fun e he => rfGet_clearRc he _, fun b hb => rfGet_clearRc_ne hb _, rfl, rfl, rfl⟩

/-- A read of the host from a page that answers. -/
theorem hostRead_porch {s d : State} {a : Nat} (hr : s.porchRuns = true) (hd : d = endDoze s) (hst : readStatus d a = .ok)
    (ha : plainPorchReg a) : ∃ t, PorchTaken d t a ∧
      hostRead s a = t.emit (.access .ok (porchShown d (a / 4096) (a % 4096))) := by
  have ⟨⟨hpage, hoff⟩, _⟩ := ha
  refine ⟨_, porchRead_taken ha d, ?_⟩
  rw [hostRead_ok hr hd hst (place_onPorch hpage), readOk_porch hoff, porchRead_plain ha]

/-- The rows that read a named register of the porch or the cellar. -/
def porchReadRows (port : Sys2Proof.Port) : List (Instr × Nat) :=
  [(.pchSrcIdRead, R.PCH_SRC_ID.at 0), (.hlStatRead, R.HL_STAT.at 0),
   (.fbStatRead port, R.FB_STAT.at (Port.index port).val), (.clrSubsecRead, R.CLR_SUBSEC.at 0),
   (.pchTsNowLoRead, R.PCH_TS_NOW_LO.at 0), (.pchTsStepRead, R.PCH_TS_STEP.at 0),
   (.pwrCenStatRead, R.PWR_CEN_STAT.at 0), (.thStatRead, R.TH_STAT.at 0), (.pchStateRead, R.PCH_STATE.at 0),
   (.pchBitRead, R.PCH_BIT.at 0)]

theorem plainPorchReg_bus (port : Sys2Proof.Port) : plainPorchReg (R.FB_STAT.at (Port.index port).val) := by
  cases port <;> decide

theorem porchReadRows_read (s : State) (port : Sys2Proof.Port) : ∀ r ∈ porchReadRows port,
    exec r.1 s = .next (hostRead s r.2) ∧ plainPorchReg r.2 := by
  simp only [porchReadRows, List.forall_mem_cons]
  exact ⟨⟨rfl, by decide⟩, ⟨rfl, by decide⟩, ⟨rfl, plainPorchReg_bus port⟩, ⟨rfl, by decide⟩, ⟨rfl, by decide⟩,
    ⟨rfl, by decide⟩, ⟨rfl, by decide⟩, ⟨rfl, by decide⟩, ⟨rfl, by decide⟩, ⟨rfl, by decide⟩, List.forall_mem_nil _⟩

/-- Settles O18: each row is one read of a page that answers, and does what the read of a porch register does. -/
theorem porchRegisterReads : Obligations.PorchRegisterReads := by
  intro s port i a d hrow hr hd hst
  obtain ⟨hexec, ha⟩ := porchReadRows_read s port (i, a) hrow
  obtain ⟨t, ⟨hlatched, hcleared, hkept, hslices, hheaders, hout⟩, hread⟩ := hostRead_porch hr hd hst ha
  refine ⟨_, hexec, ?_⟩
  rw [hread]
  exact ⟨by rw [emit_emitted, hout], hlatched, hcleared, hkept, hslices, hheaders⟩

end Sys2Proof.Machine

namespace Sys2Proof.Machine
open Host

/-! ### What leaves the locks of every page alone (R64 to R69) -/

/-- The locks of a page with its count of bad keys (R66). -/
def Hdr.locks (h : Hdr) : Bool × Bool × Bool × Nat := (h.lock, h.sealOn, h.draughtUnl, h.badKey)

/-- The locks of every page are as they were. -/
structure locksKept (s t : State) : Prop where
  page : ∀ g, (t.hdr g).locks = (s.hdr g).locks

namespace locksKept
variable {s t u : State}

theorem refl (s : State) : locksKept s s := ⟨fun _ => rfl⟩
theorem trans (h : locksKept s t) (k : locksKept t u) : locksKept s u :=
  ⟨fun g => (k.page g).trans (h.page g)⟩
theorem of_hdrs (h : t.hdrs = s.hdrs) : locksKept s t :=
  ⟨fun g => by rw [State.hdr, h, State.hdr]⟩

theorem ite {c : Prop} [Decidable c] (ht : locksKept s t) (hu : locksKept s u) : locksKept s (if c then t else u) := by
  split
  · exact ht
  · exact hu

theorem foldl {α : Type} (f : State → α → State) (h : ∀ s a, locksKept s (f s a)) (l : List α) (s : State) :
    locksKept s (l.foldl f s) := by
  induction l generalizing s with
  | nil => exact .refl s
  | cons a l ih => exact (h s a).trans (ih _)

end locksKept

theorem locksKept_setIsrFrom (b s : State) (g n : Nat) : locksKept s (setIsrFrom b s g n) :=
  ⟨part_setIsrFrom Hdr.locks (fun _ _ _ => rfl) b s g n⟩
theorem locksKept_noteSum (b s : State) : locksKept s (noteSum b s) :=
  ⟨part_noteSum Hdr.locks (fun _ _ _ => rfl) b s⟩
theorem locksKept_touch (s : State) (g : Nat) : locksKept s (s.touch g) :=
  ⟨part_touch Hdr.locks (fun _ _ _ => rfl) s g⟩
theorem locksKept_evtP (s : State) (g b : Nat) : locksKept s (s.evtP g b) := locksKept_setIsrFrom ..

theorem arrive_locks (h : Hdr) (e : Word) : (arrive h e).1.locks = h.locks := by
  unfold arrive
  dsimp only
  split_ifs <;> rfl

theorem locksKept_setHdr {s : State} {g : Nat} {h : Hdr} (hl : h.locks = (s.hdr g).locks) : locksKept s (s.setHdr g h) := by
  refine ⟨fun g' => ?_⟩
  rw [hdr_setHdr_ite]
  split
  · next hg => rw [hl, hg]
  · rfl

theorem locksKept_log (s : State) (g : Nat) (e : Word) : locksKept s (s.log g e) := by
  unfold State.log
  exact .ite (.of_hdrs rfl) (.of_hdrs rfl)

theorem locksKept_post (s : State) (g : Nat) (e : Word) : locksKept s (s.post g e) :=
  ((locksKept_setHdr (arrive_locks ..)).trans (.ite (.refl _) (locksKept_setIsrFrom ..))).trans
    ((locksKept_noteSum ..).trans (locksKept_log ..))

theorem locksKept_errP (s : State) (g c e : Nat) : locksKept s (s.errP g c e) := locksKept_post ..

theorem locksKept_err (s : State) (p : Phys) (u c e : Nat) : locksKept s (s.err p u c e) := locksKept_post ..
theorem locksKept_setSl (s : State) (p : Phys) (x : Slice) : locksKept s (s.setSl p x) := .of_hdrs rfl
theorem locksKept_onSl (s : State) (p : Phys) (f : Slice → Slice) : locksKept s (s.onSl p f) := locksKept_setSl ..
theorem locksKept_w (s : State) (p : Phys) (x : Fld) (v i : Nat) : locksKept s (s.w p x v i) := locksKept_setSl ..
theorem locksKept_wb (s : State) (p : Phys) (x : Fld) (b : Bool) (i : Nat) : locksKept s (s.wb p x b i) := locksKept_setSl ..

theorem locksKept_setSliceClock (s : State) (p : Phys) (mhz : Nat) : locksKept s (setSliceClock s p mhz) := by
  unfold setSliceClock
  dsimp only
  refine .ite (.trans ?settings (locksKept_err ..)) ?settings
  exact (((locksKept_onSl ..).trans (locksKept_w ..)).trans (locksKept_w ..)).trans (locksKept_wb ..)

theorem locksKept_setPower (s : State) (st : Nat) : locksKept s (setPower s st) := by
  unfold setPower
  dsimp only
  refine .ite (.refl s) (.trans ?_ (.trans (.foldl _ (fun _ _ => locksKept_setIsrFrom ..) _ _) (locksKept_evtP ..)))
  refine .ite (.trans ?_ (.foldl _ (fun s p => .ite (locksKept_setSliceClock ..) (.refl s)) _ _)) ?_
  · exact .of_hdrs rfl
  · exact .of_hdrs rfl

/-- The end of a DOZE leaves the locks alone (R485). -/
theorem locksKept_endDoze (s : State) : locksKept s (endDoze s) :=
  .ite ((locksKept_setPower s 0).trans (.of_hdrs rfl)) (.refl s)

theorem endDoze_map (s : State) : (endDoze s).map = s.map := congrArg Held.map (endDoze_held s)

/-! ### The word written to PG_LOCK (R66, R67) -/

/-- PG_LOCK as it is written: the key, then SEAL, LOCK and DRAUGHT_UNL. -/
def lockValue (key : BitVec 16) (sealTo lockTo unl : Bool) : Word :=
  BitVec.ofNat 32 (key.toNat * 2 ^ 16 + (bit1 sealTo * 4 + bit1 lockTo * 2 + bit1 unl))

section Fields
variable (key : BitVec 16) (sealTo lockTo unl : Bool)

theorem bit1_lt (b : Bool) : bit1 b < 2 := by cases b <;> decide

theorem lockValue_toNat : (lockValue key sealTo lockTo unl).toNat =
    key.toNat * 65536 + (bit1 sealTo * 4 + bit1 lockTo * 2 + bit1 unl) := by
  have hk := key.isLt
  have hs := bit1_lt sealTo
  have hl := bit1_lt lockTo
  have hu := bit1_lt unl
  rw [lockValue, BitVec.toNat_ofNat]
  omega

theorem fieldOf_lockValue : fieldOf (lockValue key sealTo lockTo unl) 31 16 = key.toNat ∧
    fieldOf (lockValue key sealTo lockTo unl) 2 2 = bit1 sealTo ∧ fieldOf (lockValue key sealTo lockTo unl) 1 1 = bit1 lockTo ∧
    fieldOf (lockValue key sealTo lockTo unl) 0 0 = bit1 unl := by
  have hk := key.isLt
  have hs := bit1_lt sealTo
  have hl := bit1_lt lockTo
  have hu := bit1_lt unl
  simp only [fieldOf, lockValue_toNat, Nat.shiftRight_eq_div_pow]
  omega

theorem keyWord_eq_append {n : Nat} (h : n < 2 ^ 16) : BitVec.ofNat 32 (key.toNat * 2 ^ 16 + n) = key ++ BitVec.ofNat 16 n := by
  have hk := key.isLt
  refine BitVec.eq_of_toNat_eq ?_
  rw [BitVec.toNat_append, BitVec.toNat_ofNat, BitVec.toNat_ofNat, Nat.mod_eq_of_lt h, ← Nat.shiftLeft_add_eq_or_of_lt h,
    Nat.shiftLeft_eq]
  omega

/-- The three bits that a write of PG_LOCK names. -/
def lockBits (sealTo lockTo unl : Bool) : BitVec 16 := BitVec.ofNat 16 (bit1 sealTo * 4 + bit1 lockTo * 2 + bit1 unl)

theorem lockValue_eq_append : lockValue key sealTo lockTo unl = key ++ lockBits sealTo lockTo unl := by
  have hs := bit1_lt sealTo
  have hl := bit1_lt lockTo
  have hu := bit1_lt unl
  exact keyWord_eq_append key (by omega)

theorem lockValue_or {sealTo' lockTo' unl' : Bool} {m : Nat} (hm : m < 2 ^ 16)
    (h : lockBits sealTo lockTo unl ||| BitVec.ofNat 16 m = lockBits sealTo' lockTo' unl') :
    lockValue key sealTo lockTo unl ||| BitVec.ofNat 32 m = lockValue key sealTo' lockTo' unl' := by
  have hb : BitVec.ofNat 32 m = (0#16) ++ BitVec.ofNat 16 m := by simpa using keyWord_eq_append 0#16 hm
  rw [lockValue_eq_append, lockValue_eq_append, hb, BitVec.or_append, h, BitVec.or_zero]

theorem lockValue_and_not {sealTo' lockTo' unl' : Bool} {m : Nat} (hm : m < 2 ^ 16)
    (h : lockBits sealTo lockTo unl &&& ~~~ BitVec.ofNat 16 m = lockBits sealTo' lockTo' unl') :
    lockValue key sealTo lockTo unl &&& ~~~ BitVec.ofNat 32 m = lockValue key sealTo' lockTo' unl' := by
  have hb : BitVec.ofNat 32 m = (0#16) ++ BitVec.ofNat 16 m := by simpa using keyWord_eq_append 0#16 hm
  rw [lockValue_eq_append, lockValue_eq_append, hb, BitVec.not_append, BitVec.and_append, h, BitVec.not_zero,
    BitVec.and_allOnes]

end Fields

end Sys2Proof.Machine

namespace Sys2Proof.Machine
open Host

/-! ### A write of PG_LOCK judged and granted (R67, R578) -/

/-- Whether a write of PG_LOCK is granted: a write that asks for a change needs the key and the module state of each change, one
that asks for none needs key 0 (R67). -/
def lockAllows (h : Hdr) (st : Nat) (key : BitVec 16) (sealTo lockTo unl : Bool) : Bool :=
  if lockTo != h.lock || sealTo != h.sealOn || unl then
    (lockTo == h.lock || lockTo || key == 0x6D2E)
      && (sealTo == h.sealOn || (key == 0x5EA1 && (st == 1 || (st == 4 && !sealTo))))
      && (!unl || (key == 0x5A3C && (st == 1 || st == 3)))
  else key == 0

/-- The header stored by a granted write of PG_LOCK. -/
def lockStored (s : State) (g : Nat) (sealTo lockTo unl : Bool) : State :=
  s.setHdr g { s.hdr g with lock := lockTo, sealOn := sealTo, draughtUnl := (s.hdr g).draughtUnl || unl }

/-- It with the error that tells of an unlock of the draught registers (R578). -/
def lockUnlocked (s : State) (g : Nat) (sealTo lockTo unl : Bool) : State :=
  if unl && !(s.hdr g).draughtUnl then (lockStored s g sealTo lockTo unl).errP 0 g 0x1F01
  else lockStored s g sealTo lockTo unl

/-- It with the error that tells of a change of SEAL: the state after a granted write of PG_LOCK (R67). -/
def lockGranted (s : State) (g : Nat) (sealTo lockTo unl : Bool) : State :=
  if sealTo == (s.hdr g).sealOn then lockUnlocked s g sealTo lockTo unl
  else (lockUnlocked s g sealTo lockTo unl).errP 0 g (if sealTo then 0x1005 else 0x1006)

theorem beq_toNat (k c : BitVec 16) : (k.toNat == c.toNat) = (k == c) := by
  rw [Bool.eq_iff_iff, beq_iff_eq, beq_iff_eq, BitVec.toNat_inj]

theorem bit1_beq_one (b : Bool) : (bit1 b == 1) = b := by cases b <;> rfl

theorem lockWrite_eq (s : State) (g : Nat) (key : BitVec 16) (sealTo lockTo unl : Bool) :
    lockWrite s g (lockValue key sealTo lockTo unl) =
      if lockAllows (s.hdr g) s.modst.state key sealTo lockTo unl then (.ok, lockGranted s g sealTo lockTo unl)
      else (.mismatch, s.onHdr g (fun h => { h with badKey := satTo 8 (h.badKey + 1) })) := by
  obtain ⟨hkey, hseal, hlock, hunl⟩ := fieldOf_lockValue key sealTo lockTo unl
  have h0 : (key.toNat == 0) = (key == 0) := beq_toNat key 0
  have h1 : (key.toNat == 0x6D2E) = (key == 0x6D2E) := beq_toNat key 0x6D2E
  have h2 : (key.toNat == 0x5EA1) = (key == 0x5EA1) := beq_toNat key 0x5EA1
  have h3 : (key.toNat == 0x5A3C) = (key == 0x5A3C) := beq_toNat key 0x5A3C
  unfold lockWrite
  simp only [hkey, hseal, hlock, hunl, bit1_beq_one, h0, h1, h2, h3]
  unfold lockAllows
  cases lockTo != (s.hdr g).lock || sealTo != (s.hdr g).sealOn || unl <;>
    simp only [Bool.true_and, Bool.false_and, Bool.not_true, Bool.not_false, Bool.or_false, Bool.false_or, if_true, if_false,
      Bool.false_eq_true] <;> rfl

theorem headerWrite_lock (s : State) (g : Nat) (v : Word) : headerWrite s g 0x20 v = lockWrite s g v := rfl

section Rows
variable (h : Hdr) (st : Nat) (key : BitVec 16)

theorem lockAllows_setLock : lockAllows h st key h.sealOn true false = true ↔ h.lock = false ∨ key = 0 := by
  cases hl : h.lock <;> simp [lockAllows, hl]

theorem lockAllows_clearLock : lockAllows h st key h.sealOn false false = true ↔
    (h.lock = true ∧ key = 0x6D2E) ∨ (h.lock = false ∧ key = 0) := by
  cases hl : h.lock <;> simp [lockAllows, hl]

theorem lockAllows_setSeal : lockAllows h st key true h.lock false = true ↔
    (h.sealOn = false ∧ key = 0x5EA1 ∧ st = 1) ∨ (h.sealOn = true ∧ key = 0) := by
  cases hs : h.sealOn <;> simp [lockAllows, hs]

theorem lockAllows_clearSeal : lockAllows h st key false h.lock false = true ↔
    (h.sealOn = true ∧ key = 0x5EA1 ∧ (st = 1 ∨ st = 4)) ∨ (h.sealOn = false ∧ key = 0) := by
  cases hs : h.sealOn <;> simp [lockAllows, hs]

theorem lockAllows_unlock : lockAllows h st key h.sealOn h.lock true = true ↔ key = 0x5A3C ∧ (st = 1 ∨ st = 3) := by
  simp [lockAllows]

end Rows

/-! ### What a granted write changes -/

section Granted
variable (s : State) (g : Nat) (sealTo lockTo unl : Bool)

theorem lockGranted_kept : locksKept (lockStored s g sealTo lockTo unl) (lockGranted s g sealTo lockTo unl) := by
  have hunl : locksKept (lockStored s g sealTo lockTo unl) (lockUnlocked s g sealTo lockTo unl) :=
    .ite (locksKept_errP ..) (.refl _)
  exact .ite hunl (hunl.trans (locksKept_errP ..))

theorem lockGranted_quiet : (lockGranted s g sealTo lockTo unl).quiet = s.quiet := by
  simp [lockGranted, lockUnlocked, lockStored, quiet_ite]

theorem grows_setHdr_of_isr {h : Hdr} (hi : h.isr = (s.hdr g).isr) : Grows s (s.setHdr g h) := by
  refine ⟨fun g' b hb => ?_, fun _ hx => hx, le_rfl, le_rfl, rfl⟩
  rw [State.isrBit, hdr_setHdr_ite]
  split
  · next hg => rwa [hi, hg]
  · exact hb

theorem grows_touch : Grows s (s.touch g) := grows_setHdr_of_isr s g rfl
theorem grows_emit (e : Emit) : Grows s (s.emit e) := (Grows.refl s).silent rfl rfl

theorem grows_ite {c : Prop} [Decidable c] {s t u : State} (ht : Grows s t) (hu : Grows s u) : Grows s (if c then t else u) := by
  split
  · exact ht
  · exact hu

/-- The locks after a granted write of PG_LOCK, at its end. -/
theorem lockGranted_locksSet : locksSet s (((lockGranted s g sealTo lockTo unl).touch g).emit (.access .ok 0)) g lockTo sealTo
    ((s.hdr g).draughtUnl || unl) := by
  have hlocks := (lockGranted_kept s g sealTo lockTo unl).trans (locksKept_touch _ g)
  obtain ⟨-, -, -, hregs, hslices, -⟩ := sameButPages_of_quiet (lockGranted_quiet s g sealTo lockTo unl)
  refine ⟨lastOut_emit .., ?_, fun g' hg' => ?_, by rwa [emit_slices, touch_slices], by rwa [emit_regs, touch_regs]⟩
  · rw [hdr_emit]
    have h := hlocks.page g
    rw [lockStored, hdr_setHdr] at h
    simpa [Hdr.locks] using h
  · rw [hdr_emit]
    have h := hlocks.page g'
    rw [lockStored, hdr_setHdr_ne _ _ _ _ hg'.symm] at h
    simpa [Hdr.locks] using h

theorem grows_lockStored : Grows s (lockStored s g sealTo lockTo unl) := grows_setHdr_of_isr s g rfl

/-- A change of SEAL is told on page 0 (R67). -/
theorem lockGranted_tells_seal (hne : sealTo ≠ (s.hdr g).sealOn) :
    toldCode s (((lockGranted s g sealTo lockTo unl).touch g).emit (.access .ok 0)) 0 g (if sealTo then 0x1005 else 0x1006) := by
  have hunl : Grows s (lockUnlocked s g sealTo lockTo unl) :=
    grows_ite ((grows_lockStored ..).trans (grows_errP ..)) (grows_lockStored ..)
  have hseal : lockGranted s g sealTo lockTo unl =
      (lockUnlocked s g sealTo lockTo unl).errP 0 g (if sealTo then 0x1005 else 0x1006) :=
    if_neg (by rwa [beq_iff_eq])
  rw [hseal]
  exact toldCode_errP hunl ((grows_touch ..).trans (grows_emit ..))

/-- An unlock of the draught registers is told on page 0 (R578). -/
theorem lockGranted_tells_unlock (hunl : (s.hdr g).draughtUnl = false) :
    toldCode s (((lockGranted s g sealTo lockTo true).touch g).emit (.access .ok 0)) 0 g 0x1F01 := by
  have htold : lockUnlocked s g sealTo lockTo true = (lockStored s g sealTo lockTo true).errP 0 g 0x1F01 :=
    if_pos (by rw [hunl]; rfl)
  have hseal : Grows (lockUnlocked s g sealTo lockTo true) (lockGranted s g sealTo lockTo true) :=
    grows_ite (.refl _) (grows_errP ..)
  rw [htold] at hseal
  exact toldCode_errP (grows_lockStored ..) (hseal.trans ((grows_touch ..).trans (grows_emit ..)))

end Granted

/-! ### The rows of R67 -/

theorem lockBits_on (sealOn lock : Bool) : lockBits sealOn lock false ||| 2 = lockBits sealOn true false ∧
    lockBits sealOn lock false ||| 4 = lockBits true lock false ∧ lockBits sealOn lock false ||| 1 = lockBits sealOn lock true := by
  cases sealOn <;> cases lock <;> decide

theorem lockBits_off (sealOn lock : Bool) : lockBits sealOn lock false &&& ~~~ 2 = lockBits sealOn false false ∧
    lockBits sealOn lock false &&& ~~~ 4 = lockBits false lock false := by
  cases sealOn <;> cases lock <;> decide

section LockRow
variable {s d : State} {page : Page} {g : Nat} (hd : d = endDoze s) (hg : g = d.physPage page.toNat)
include hd hg

/-- PG_LOCK as the host writes it back, before the bit that the row names. -/
theorem lockNow_word (key : BitVec 16) : BitVec.ofNat 32 (key.toNat * 2 ^ 16 + lockNow s page) =
    lockValue key (d.hdr g).sealOn (d.hdr g).lock false := by
  have hmap : s.physPage page.toNat = g := by
    rw [hg, hd]
    exact (physPage_of_map (endDoze_map s) _).symm
  have hlocks := (locksKept_endDoze s).page g
  rw [← hd] at hlocks
  simp only [Hdr.locks, Prod.mk.injEq] at hlocks
  obtain ⟨hlock, hseal, -⟩ := hlocks
  simp only [lockNow, hmap, lockValue, hlock, hseal]
  rfl

theorem hostLock_on {key : BitVec 16} {m : Nat} {sealTo lockTo unl : Bool} (hm : m < 2 ^ 16)
    (h : lockBits (d.hdr g).sealOn (d.hdr g).lock false ||| BitVec.ofNat 16 m = lockBits sealTo lockTo unl) :
    hostLock s page key m true = hostWrite s (hdrAddr page 0x20) (lockValue key sealTo lockTo unl) := by
  simp only [hostLock, if_true, lockNow_word hd hg, lockValue_or key _ _ _ hm h]

theorem hostLock_off {key : BitVec 16} {m : Nat} {sealTo lockTo unl : Bool} (hm : m < 2 ^ 16)
    (h : lockBits (d.hdr g).sealOn (d.hdr g).lock false &&& ~~~ BitVec.ofNat 16 m = lockBits sealTo lockTo unl) :
    hostLock s page key m false = hostWrite s (hdrAddr page 0x20) (lockValue key sealTo lockTo unl) := by
  simp only [hostLock, Bool.false_eq_true, if_false, lockNow_word hd hg, lockValue_and_not key _ _ _ hm h]

variable (hr : s.porchRuns = true) (hst : writeStatus d (hdrAddr page 0x20) = .ok)
include hr hst

section Granted
variable {key : BitVec 16} {sealTo lockTo unl : Bool}

theorem hostWrite_lock_granted (ha : lockAllows (d.hdr g) d.modst.state key sealTo lockTo unl = true) :
    hostWrite s (hdrAddr page 0x20) (lockValue key sealTo lockTo unl) =
      ((lockGranted d g sealTo lockTo unl).touch g).emit (.access .ok 0) :=
  hostWrite_header_ok hr hd hg (by decide) hst (by rw [headerWrite_lock, lockWrite_eq, if_pos ha])

theorem hostWrite_lock_sets (ha : lockAllows (d.hdr g) d.modst.state key sealTo lockTo unl = true) :
    locksSet d (hostWrite s (hdrAddr page 0x20) (lockValue key sealTo lockTo unl)) g lockTo sealTo
      ((d.hdr g).draughtUnl || unl) := by
  rw [hostWrite_lock_granted hd hg hr hst ha]
  exact lockGranted_locksSet ..

theorem hostWrite_lock_tells_seal (ha : lockAllows (d.hdr g) d.modst.state key sealTo lockTo unl = true)
    (hne : sealTo ≠ (d.hdr g).sealOn) : toldCode d (hostWrite s (hdrAddr page 0x20) (lockValue key sealTo lockTo unl)) 0 g
      (if sealTo then 0x1005 else 0x1006) := by
  rw [hostWrite_lock_granted hd hg hr hst ha]
  exact lockGranted_tells_seal _ _ _ _ _ hne

theorem hostWrite_lock_tells_unlock (ha : lockAllows (d.hdr g) d.modst.state key sealTo lockTo true = true)
    (hunl : (d.hdr g).draughtUnl = false) :
    toldCode d (hostWrite s (hdrAddr page 0x20) (lockValue key sealTo lockTo true)) 0 g 0x1F01 := by
  rw [hostWrite_lock_granted hd hg hr hst ha]
  exact lockGranted_tells_unlock _ _ _ _ hunl

theorem hostWrite_lock_refused (ha : ¬lockAllows (d.hdr g) d.modst.state key sealTo lockTo unl = true) :
    keyRefused d (hostWrite s (hdrAddr page 0x20) (lockValue key sealTo lockTo unl)) g :=
  hostWrite_header_mismatch hr hd hg (by decide) hst (by rw [headerWrite_lock, lockWrite_eq, if_neg ha])

end Granted
end LockRow

/-- Settles O15: what each row writes, then by the keys and states of R67 whether it is granted. -/
theorem lockKeys : Obligations.LockKeys := by
  rintro s page key d g h hr hd hg rfl hst
  obtain ⟨hlockOn, hsealOn, hunlOn⟩ := lockBits_on (d.hdr g).sealOn (d.hdr g).lock
  obtain ⟨hlockOff, hsealOff⟩ := lockBits_off (d.hdr g).sealOn (d.hdr g).lock
  have hset := hostLock_on (key := key) (m := 2) hd hg (by decide) hlockOn
  have hclear := hostLock_off (key := key) (m := 2) hd hg (by decide) hlockOff
  have hsetSeal := hostLock_on (key := key) (m := 4) hd hg (by decide) hsealOn
  have hclearSeal := hostLock_off (key := key) (m := 4) hd hg (by decide) hsealOff
  have hunlock := hostLock_on (key := key) (m := 1) hd hg (by decide) hunlOn
  have sets {a b c : Bool} := hostWrite_lock_sets (key := key) (sealTo := a) (lockTo := b) (unl := c) hd hg hr hst
  have refused {a b c : Bool} := hostWrite_lock_refused (key := key) (sealTo := a) (lockTo := b) (unl := c) hd hg hr hst
  refine ⟨fun hk => ⟨_, rfl, ?setLock⟩, fun hl hk => ⟨_, rfl, ?setLockNo⟩, fun hk => ⟨_, rfl, ?clearLock⟩,
    fun hk => ⟨_, rfl, ?clearLockNo⟩, fun hs hk hm => ⟨_, rfl, ?setSeal⟩, fun hs hk => ⟨_, rfl, ?setSealSame⟩,
    fun hk => ⟨_, rfl, ?setSealNo⟩, fun hs hk hm => ⟨_, rfl, ?clearSeal⟩, fun hs hk => ⟨_, rfl, ?clearSealSame⟩,
    fun hk => ⟨_, rfl, ?clearSealNo⟩, fun hk hm => ⟨_, rfl, ?unlock⟩, fun hk => ⟨_, rfl, ?unlockNo⟩⟩
  case setLock => simpa [hset] using sets ((lockAllows_setLock ..).mpr hk)
  case setLockNo =>
    rw [hset]
    exact refused (by rw [lockAllows_setLock]; grind)
  case clearLock => simpa [hclear] using sets ((lockAllows_clearLock ..).mpr hk)
  case clearLockNo =>
    rw [hclear]
    exact refused (by rw [lockAllows_clearLock]; grind)
  case setSeal =>
    have ha := (lockAllows_setSeal (d.hdr g) d.modst.state key).mpr (.inl ⟨hs, hk, hm⟩)
    rw [hsetSeal]
    exact ⟨by simpa using sets ha, hostWrite_lock_tells_seal hd hg hr hst ha (by simp [hs])⟩
  case setSealSame => simpa [hsetSeal] using sets ((lockAllows_setSeal ..).mpr (.inr ⟨hs, hk⟩))
  case setSealNo =>
    rw [hsetSeal]
    exact refused (by rw [lockAllows_setSeal]; grind)
  case clearSeal =>
    have ha := (lockAllows_clearSeal (d.hdr g) d.modst.state key).mpr (.inl ⟨hs, hk, hm⟩)
    rw [hclearSeal]
    exact ⟨by simpa using sets ha, hostWrite_lock_tells_seal hd hg hr hst ha (by simp [hs])⟩
  case clearSealSame => simpa [hclearSeal] using sets ((lockAllows_clearSeal ..).mpr (.inr ⟨hs, hk⟩))
  case clearSealNo =>
    rw [hclearSeal]
    exact refused (by rw [lockAllows_clearSeal]; grind)
  case unlock =>
    have ha := (lockAllows_unlock (d.hdr g) d.modst.state key).mpr ⟨hk, hm⟩
    rw [hunlock]
    exact ⟨by simpa using sets ha, hostWrite_lock_tells_unlock hd hg hr hst ha⟩
  case unlockNo =>
    rw [hunlock]
    exact refused (by rw [lockAllows_unlock]; grind)

end Sys2Proof.Machine

namespace Sys2Proof.Machine
open Host

/-! ### The end of DOZE beside the slices (R485) -/

theorem grows_foldl {α : Type} (f : State → α → State) (h : ∀ s a, Grows s (f s a)) (l : List α) (s : State) :
    Grows s (l.foldl f s) := by
  induction l generalizing s with
  | nil => exact .refl s
  | cons a l ih => exact (h s a).trans (ih _)

theorem grows_setSl (s : State) (p : Phys) (x : Slice) : Grows s (s.setSl p x) := (Grows.refl s).silent rfl rfl
theorem grows_onSl (s : State) (p : Phys) (f : Slice → Slice) : Grows s (s.onSl p f) := grows_setSl ..
theorem grows_w (s : State) (p : Phys) (x : Fld) (v i : Nat) : Grows s (s.w p x v i) := grows_setSl ..
theorem grows_wb (s : State) (p : Phys) (x : Fld) (b : Bool) (i : Nat) : Grows s (s.wb p x b i) := grows_setSl ..

theorem grows_setSliceClock (s : State) (p : Phys) (mhz : Nat) : Grows s (setSliceClock s p mhz) := by
  unfold setSliceClock
  dsimp only
  refine grows_ite (.trans ?settings (grows_err ..)) ?settings
  exact (((grows_onSl ..).trans (grows_w ..)).trans (grows_w ..)).trans (grows_wb ..)

theorem grows_setClocks (s : State) : Grows s (setClocks s) :=
  grows_foldl _ (fun s _ => grows_ite (grows_setSliceClock ..) (.refl s)) _ s

/-- A change of the power state up to the events that tell of it. -/
def powerSet (s : State) (st : Nat) : State :=
  let s1 := porchSettings (s.onLd (fun l => { l with state := st }))
  if s.landing.state ≤ 1 ∧ st ≤ 1 then setClocks s1 else s1

theorem setPower_eq {s : State} {st : Nat} (h : s.landing.state ≠ st) : setPower s st =
    ((powerSet s st).notePwrs (porchPages ++ (powerSet s st).runningPages)).evtP 9 EVT.PWR_STATE := if_neg h

theorem grows_setPower {s : State} {st : Nat} (h : s.landing.state ≠ st) : Grows s (setPower s st) := by
  have hset : Grows s (porchSettings (s.onLd (fun l => { l with state := st }))) := (Grows.refl s).silent rfl rfl
  have hpower : Grows s (powerSet s st) := grows_ite (hset.trans (grows_setClocks _)) hset
  rw [setPower_eq h]
  exact hpower.trans (.trans (grows_foldl _ (fun _ _ => grows_setIsrFrom ..) _ _) (grows_evtP ..))

theorem endDoze_of_doze {s : State} (h : s.landing.state = 1) :
    endDoze s = (setPower s 0).onCl (fun c => { c with timer := 0 }) := if_pos h

theorem endDoze_of_not_doze {s : State} (h : s.landing.state ≠ 1) : endDoze s = s := if_neg h

theorem grows_endDoze (s : State) : Grows s (endDoze s) := by
  by_cases h : s.landing.state = 1
  · rw [endDoze_of_doze h]
    exact (grows_setPower (by omega)).silent rfl rfl
  · rw [endDoze_of_not_doze h]
    exact .refl s

theorem powerSet_rest (s : State) (st : Nat) : (powerSet s st).supply = s.supply ∧ (powerSet s st).spi = s.spi ∧
    (powerSet s st).landing.state = st := by
  unfold powerSet
  dsimp only
  split <;> simp [porchSettings, State.onLd]

/-- The end of DOZE leaves supply and SPI alone, and the porch runs on. -/
theorem endDoze_rest (s : State) : (endDoze s).supply = s.supply ∧ (endDoze s).spi = s.spi ∧
    (endDoze s).landing.state ≤ s.landing.state := by
  by_cases h : s.landing.state = 1
  · obtain ⟨hsupply, hspi, hstate⟩ := powerSet_rest s 0
    rw [endDoze_of_doze h, setPower_eq (by omega)]
    simp [State.onCl, hsupply, hspi, hstate]
  · rw [endDoze_of_not_doze h]
    exact ⟨rfl, rfl, le_rfl⟩

theorem endDoze_runs {s : State} (h : s.porchRuns = true) : (endDoze s).porchRuns = true := by
  obtain ⟨hsupply, -, hstate⟩ := endDoze_rest s
  simp only [State.porchRuns, Bool.and_eq_true, decide_eq_true_eq] at h ⊢
  exact ⟨by rw [hsupply, h.1], hstate.trans h.2⟩

end Sys2Proof.Machine

namespace Sys2Proof.Machine
open Host

/-! ### Bursts of the SPI fallback (R396, R406) -/

section Spi
variable {s : State}

theorem spiRespond_lastOut (s : State) (op : Nat) (body : List Byte) :
    (spiRespond s op body).lastOut = some (.spi (spiFrame op body)) := lastOut_emit ..

theorem spiBurst_dark (h : s.porchRuns = false) (n op : Nat) (f : State → List Byte × State) : spiBurst s n op f = s := by
  simp [spiBurst, h]

theorem spiBurst_badCount (h : s.porchRuns = true) {n : Nat} (hn : n = 0 ∨ 16 < n) (op : Nat) (f : State → List Byte × State) :
    spiBurst s n op f = spiRespond (endDoze s) 0xFF (leBytes 4 3) := by
  simp [spiBurst, h, hn]

theorem spiBurst_answered (h : s.porchRuns = true) {n : Nat} (h1 : 1 ≤ n) (h16 : n ≤ 16) (op : Nat)
    (f : State → List Byte × State) : spiBurst s n op f = spiRespond (f (endDoze s)).2 op (f (endDoze s)).1 := by
  have hn : ¬(n = 0 ∨ 16 < n) := by omega
  simp only [spiBurst, h, Bool.not_true, Bool.false_eq_true, if_false, hn]

/-- The payload of the answer to a single read: its status and its word. -/
theorem readPayload_single (s : State) (a : Word) : (readPayload s a 1).1 =
    burstHead a 1 ++ [BitVec.ofNat 8 (statusCode (readAt s a.toNat).1), 0, 0, 0] ++ leBytes 4 (readAt s a.toNat).2.1.toNat := by
  simp [readPayload, readBurst, statusArea, List.range_succ]

end Spi
end Sys2Proof.Machine

namespace Sys2Proof.Machine
open Host

/-! ### Read-backs that fail in a commit (R330, R342) -/

theorem onBank_upkeep (s : State) (b : Fin 2) (f : Bank → Bank) : (s.onBank b f).upkeep =
    { s.upkeep with banks := s.upkeep.banks.set b.val (f s.upkeep.banks[b]) b.isLt } := rfl

@[simp] theorem onBank_journal (s : State) (b : Fin 2) (f : Bank → Bank) : (s.onBank b f).journal = s.journal := rfl

@[simp] theorem bankOut_journal (s : State) (b : Fin 2) : (bankOut s b).journal = s.journal := by
  unfold bankOut
  split <;> simp

theorem bankOut_upkeep (s : State) (b : Fin 2) : (bankOut s b).upkeep =
    if (s.bank b).ok then (s.onBank b (fun k => { k with ok := false })).upkeep else s.upkeep := by
  unfold bankOut
  split <;> simp

@[simp] theorem remapRow_journal (s : State) (b : Fin 2) (row : Fin 8192) : (remapRow s b row).journal = s.journal := by
  unfold remapRow
  split <;> simp

@[simp] theorem readBackFails_journal (s : State) (f : ReadBack) : (readBackFails s f).journal = s.journal := by
  unfold readBackFails
  dsimp only
  split_ifs <;> simp

section Upkeep
variable {s t : State} (h : t.upkeep = s.upkeep)
include h

theorem bank_congr (b : Fin 2) : t.bank b = s.bank b := by rw [State.bank, h, State.bank]

theorem onBank_congr (b : Fin 2) (f : Bank → Bank) : (t.onBank b f).upkeep = (s.onBank b f).upkeep := by
  rw [onBank_upkeep, onBank_upkeep, h]

theorem bankOut_congr (b : Fin 2) : (bankOut t b).upkeep = (bankOut s b).upkeep := by
  rw [bankOut_upkeep, bankOut_upkeep, bank_congr h, onBank_congr h, h]

theorem remapRow_congr (b : Fin 2) (row : Fin 8192) : (remapRow t b row).upkeep = (remapRow s b row).upkeep := by
  unfold remapRow
  rw [bank_congr h]
  split
  · exact bankOut_congr h b
  · simp [onBank_congr h]

/-- What a read-back that fails does to the banks depends on nothing else. -/
theorem readBackFails_congr (f : ReadBack) : (readBackFails t f).upkeep = (readBackFails s f).upkeep := by
  unfold readBackFails
  rw [bank_congr h]
  split
  · exact h
  · dsimp only
    split
    · exact bankOut_congr (remapRow_congr h ..) _
    · exact remapRow_congr h ..

end Upkeep

theorem foldl_readBackFails_congr {s t : State} (h : t.upkeep = s.upkeep) (l : List ReadBack) :
    (l.foldl readBackFails t).upkeep = (l.foldl readBackFails s).upkeep := by
  induction l generalizing s t with
  | nil => exact h
  | cons f l ih => exact ih (readBackFails_congr h f)

/-! ### What an acceptance commit writes in the journal (R330 to R335) -/

/-- Guestbook, slots and commands under way. -/
def Journal.rolls (j : Journal) : List GbEntry × SMap Slot × List Running := (j.book, j.slots, j.running)

theorem rolls_foldl {α : Type} (f : State → α → State) (h : ∀ s a, (f s a).journal.rolls = s.journal.rolls) (l : List α)
    (s : State) : (l.foldl f s).journal.rolls = s.journal.rolls := foldl_part (fun s => s.journal.rolls) f h l s

@[simp] theorem addEntry_rolls (s : State) (i : LdItem) : (addEntry s i).journal.rolls = s.journal.rolls := by
  simp [addEntry, Journal.rolls]

@[simp] theorem fillRules_rolls (s : State) : (fillRules s).journal.rolls = s.journal.rolls := by simp [Journal.rolls]

@[simp] theorem onQueue_rolls (s : State) (f : List Exec → List Exec) : (s.onQueue f).journal.rolls = s.journal.rolls := by
  refine rolls_foldl _ (fun s g => ?_) _ _
  split <;> rfl

@[simp] theorem writeEntries_rolls (s : State) (x : Exec) (path : Path) (crc : BitVec 32) :
    (writeEntries s x path crc).journal.rolls = s.journal.rolls :=
  (rolls_foldl _ (fun _ _ => addEntry_rolls ..) _ _).trans (addEntry_rolls ..)

@[simp] theorem writeMaster_rolls (s : State) (x : Exec) : (writeMaster s x).journal.rolls = s.journal.rolls := by
  refine rolls_foldl _ (fun s z => ?_) _ _
  dsimp only
  split <;> simp

@[simp] theorem queueCommand_rolls (s : State) (x : Exec) : (queueCommand s x).journal.rolls = s.journal.rolls := by
  unfold queueCommand
  dsimp only
  split_ifs
  · exact onQueue_rolls ..
  · rfl
  · rfl

/-- A source keeps its slot when the slot is written again (R333). -/
theorem find?_smPut {α : Type} {p : Nat × α → Bool} {m : SMap α} {k : Nat} {a : α} (hp : p (k, a) = true)
    (h : ∀ c, m.find? p = some c → c.1 = k) : (smPut m k a).find? p = some (k, a) := by
  induction m with
  | nil => simp [smPut, hp]
  | cons c m ih =>
    obtain ⟨j, b⟩ := c
    unfold smPut
    split
    · simp [hp]
    · split
      · simp [hp]
      · next hne _ =>
        cases hj : p (j, b) with
        | true => exact absurd (h (j, b) (by simp [hj])).symm hne
        | false =>
          rw [List.find?_cons_of_neg (by simp [hj])] at h ⊢
          exact ih h

/-- The HWM of a source in a store of slots (R333). -/
theorem hwmOf_eq (s : State) (source : BitVec 16) : hwmOf s source =
    ((s.journal.slots.find? (fun c => c.2.source == source)).map (fun c => c.1)).bind
      (fun k => (smFind s.journal.slots k).map (fun x => x.hwm)) := by
  unfold hwmOf slotOf
  cases s.journal.slots.find? (fun c => c.2.source == source) <;> rfl

theorem hwmOf_of_slots {s t : State} (h : t.journal.slots = s.journal.slots) (source : BitVec 16) :
    hwmOf t source = hwmOf s source := by
  rw [hwmOf_eq, hwmOf_eq, h]

theorem hwmOf_smPut {s : State} {x : Exec} {k : Nat} {m : SMap Slot}
    (hs : s.journal.slots = smPut m k { source := x.source, hwm := x.seq.toNat })
    (h : ∀ c, m.find? (fun c => c.2.source == x.source) = some c → c.1 = k) : hwmOf s x.source = some x.seq.toNat := by
  rw [hwmOf_eq, hs, find?_smPut (by simp) h]
  simp

/-- What the writing of a slot leaves in the journal: the source's HWM is the SEQ, guestbook and commands stay. -/
theorem writeSlot_spec (s : State) (x : Exec) : hwmOf (writeSlot s x).1 x.source = some x.seq.toNat ∧
    (writeSlot s x).1.journal.book = s.journal.book ∧ (writeSlot s x).1.journal.running = s.journal.running := by
  unfold writeSlot
  dsimp only
  split
  · next k hk =>
    refine ⟨hwmOf_smPut (k := k) (m := s.journal.slots) (by simp) fun c hc => ?_, by simp, by simp⟩
    simpa [slotOf, hc] using hk
  · next hk =>
    refine ⟨hwmOf_smPut (k := (freeSlotNo s).getD 0) (m := s.journal.slots) (by simp) fun c hc => ?_, by simp, by simp⟩
    simp [slotOf, hc] at hk

end Sys2Proof.Machine

namespace Sys2Proof.Machine
open Host

/-! ### Outputs once sent (notes/assumptions/12) -/

/-- The outputs of a state stand at the front of those of a later one. -/
structure Says (s t : State) : Prop where
  out : s.emitted <+: t.emitted

namespace Says
variable {s t u : State}

theorem refl (s : State) : Says s s := ⟨List.prefix_rfl⟩
theorem trans (h : Says s t) (k : Says t u) : Says s u := ⟨h.out.trans k.out⟩
theorem of_eq (h : t.emitted = s.emitted) : Says s t := ⟨h ▸ List.prefix_rfl⟩
theorem mem (h : Says s t) {e : Emit} (he : e ∈ s.emitted) : e ∈ t.emitted := h.out.subset he

theorem ite {c : Prop} [Decidable c] (ht : Says s t) (hu : Says s u) : Says s (if c then t else u) := by
  split
  · exact ht
  · exact hu

theorem foldl {α : Type} (f : State → α → State) (h : ∀ s a, Says s (f s a)) (l : List α) (s : State) :
    Says s (l.foldl f s) := by
  induction l generalizing s with
  | nil => exact .refl s
  | cons a l ih => exact (h s a).trans (ih _)

end Says

theorem says_emit (s : State) (e : Emit) : Says s (s.emit e) := ⟨List.prefix_append ..⟩
theorem says_repulse (b : State) (h : Hdr) (n : Nat) (l : Fin 2) (s : State) : Says s (repulse b h n l s) :=
  .ite (says_emit ..) (.refl s)
theorem says_setHdr (s : State) (g : Nat) (h : Hdr) : Says s (s.setHdr g h) := .of_eq rfl
theorem says_touch (s : State) (g : Nat) : Says s (s.touch g) := says_setHdr ..
theorem says_setIsrFrom (b s : State) (g n : Nat) : Says s (setIsrFrom b s g n) :=
  ((says_setHdr ..).trans (says_repulse ..)).trans (says_repulse ..)
theorem says_evtP (s : State) (g b : Nat) : Says s (s.evtP g b) := says_setIsrFrom ..
theorem says_noteSum (b s : State) : Says s (noteSum b s) := .ite (.refl s) (says_evtP ..)

theorem says_log (s : State) (g : Nat) (e : Word) : Says s (s.log g e) := by
  unfold State.log
  exact .ite (.of_eq rfl) (.of_eq rfl)

theorem says_post (s : State) (g : Nat) (e : Word) : Says s (s.post g e) :=
  ((says_setHdr ..).trans (.ite (.refl _) (says_setIsrFrom ..))).trans ((says_noteSum ..).trans (says_log ..))

theorem says_errP (s : State) (g c e : Nat) : Says s (s.errP g c e) := says_post ..
theorem says_onJ (s : State) (f : Journal → Journal) : Says s (s.onJ f) := .of_eq rfl
theorem says_pbump (s : State) (x : Fld) (n i : Nat) : Says s (s.pbump x n i) := .of_eq rfl
theorem says_addEntry (s : State) (i : LdItem) : Says s (addEntry s i) := .of_eq rfl
theorem says_onSl (s : State) (p : Phys) (f : Slice → Slice) : Says s (s.onSl p f) := .of_eq rfl

theorem says_askCheckpoints (s : State) : Says s (askCheckpoints s) := by
  unfold askCheckpoints
  repeat' split
  · exact .foldl _ (fun s _ => .ite (says_onSl ..) (.refl s)) _ s
  · exact .refl s
  · exact .refl s

theorem says_fillRules (s : State) : Says s (fillRules s) := by
  unfold fillRules
  dsimp only
  generalize hs1 : (if decide (4096 ≤ s.fill) = true then _ else _ : State) = s1
  have h1 : Says s s1 := by
    rw [← hs1]
    refine .ite (.trans (says_askCheckpoints s) (.ite (.refl _) ?_)) (.ite ((says_onJ ..).trans (says_evtP ..)) (.refl s))
    exact ((says_onJ ..).trans (says_pbump ..)).trans (says_evtP ..)
  refine .ite (h1.trans ?_) (.ite (h1.trans ((says_onJ ..).trans (says_evtP ..))) h1)
  exact ((says_onJ ..).trans (says_evtP ..)).trans (says_errP ..)

theorem says_endInternal (s : State) (r : Running) (final : Bool) : Says s (endInternal s r final) :=
  .ite (((says_onJ ..).trans (says_onJ ..)).trans (says_fillRules _)) (.refl s)

theorem says_markPorch (s : State) (n r re : Nat) (v : Word) : Says s (markPorch s n r re v) := by
  unfold markPorch
  split
  · exact .refl s
  · exact .ite (((says_addEntry ..).trans (says_fillRules _)).trans (says_endInternal ..)) (.refl s)

theorem says_onQueue (s : State) (f : List Exec → List Exec) : Says s (s.onQueue f) :=
  (says_onJ ..).trans (.foldl _ (fun s _ => .ite (.refl s) (says_touch ..)) _ _)

theorem says_drainNops (s : State) : Says s (drainNops s) :=
  (says_onQueue ..).trans (.foldl _ (fun _ _ => says_markPorch ..) _ _)

theorem grows_pbump (s : State) (x : Fld) (n i : Nat) : Grows s (s.pbump x n i) := (Grows.refl s).silent rfl rfl

/-! ### A command under way while the porch executes no-operations (R343, R382) -/

/-- A command of a host is under way. -/
def underway (s : State) (x : Exec) : Prop := ∃ r, s.runningOf x.lseq = some r ∧ r.x = x ∧ r.internal = false

theorem underway_of_running {s t : State} {x : Exec} (h : underway s x) (hr : t.journal.running = s.journal.running) :
    underway t x := by
  rwa [underway, runningOf_of_running hr]

/-- Guestbook and slots. -/
def Journal.entries (j : Journal) : List GbEntry × SMap Slot := (j.book, j.slots)

theorem entries_of_rolls {s t : State} (h : t.journal.rolls = s.journal.rolls) : t.journal.entries = s.journal.entries :=
  Prod.ext (congrArg (·.1) h :) (congrArg (·.2.1) h :)

theorem running_of_rolls {s t : State} (h : t.journal.rolls = s.journal.rolls) : t.journal.running = s.journal.running :=
  (congrArg (·.2.2) h :)

/-- What the execution of no-operations leaves: guestbook and slots, and a host's command under way. -/
structure Carries (s t : State) (x : Exec) : Prop where
  entries : t.journal.entries = s.journal.entries
  run     : underway s x → underway t x

namespace Carries
variable {s t u : State} {x : Exec}

theorem of_rolls (h : t.journal.rolls = s.journal.rolls) : Carries s t x :=
  ⟨entries_of_rolls h, fun hx => underway_of_running hx (running_of_rolls h)⟩

theorem refl (s : State) (x : Exec) : Carries s s x := of_rolls rfl
theorem trans (h : Carries s t x) (k : Carries t u x) : Carries s u x :=
  ⟨k.entries.trans h.entries, fun hx => k.run (h.run hx)⟩

theorem foldl {α : Type} (f : State → α → State) (h : ∀ s a, Carries s (f s a) x) (l : List α) (s : State) :
    Carries s (l.foldl f s) x := by
  induction l generalizing s with
  | nil => exact .refl s x
  | cons a l ih => exact (h s a).trans (ih _)

end Carries

/-- An internal command that ends takes no command of a host with it. -/
theorem carries_endInternal {s : State} {r : Running} (hr : s.runningOf r.x.lseq = some r) (x : Exec) (final : Bool) :
    Carries s (endInternal s r final) x := by
  unfold endInternal
  split
  · next hint =>
    refine ⟨?_, ?_⟩
    · rw [releaseLarder, entries_of_rolls (fillRules_rolls _)]
      rfl
    · rintro ⟨r0, hr0, hx, hhost⟩
      have hne : r.x.lseq ≠ x.lseq := fun he => by
        obtain rfl : r = r0 := Option.some.inj (hr.symm.trans (he ▸ hr0))
        simp [hhost] at hint
      have hp : (fun a : Running => decide (a.x.lseq != r.x.lseq ∧ a.x.lseq == x.lseq)) = fun a => a.x.lseq == x.lseq := by
        funext a
        by_cases ha : a.x.lseq = x.lseq <;> simp [ha, hne.symm]
      refine ⟨r0, ?_, hx, hhost⟩
      rw [State.runningOf] at hr0
      rwa [releaseLarder, fillRules_runningOf, State.runningOf, onJ_journal, onJ_journal, List.find?_filter, hp]
  · exact .refl s x

theorem carries_markPorch (s : State) (x : Exec) (n r re : Nat) (v : Word) : Carries s (markPorch s n r re v) x := by
  unfold markPorch
  split
  · exact .refl s x
  · next k hk =>
    split
    · have hn : k.x.lseq = n := by simpa using List.find?_some hk
      refine .trans (.of_rolls ((fillRules_rolls _).trans (addEntry_rolls ..))) (carries_endInternal ?_ x true)
      rw [fillRules_runningOf, addEntry_runningOf, hn, hk]
    · exact .refl s x

theorem carries_drainNops (s : State) (x : Exec) : Carries s (drainNops s) x :=
  .trans (.of_rolls (onQueue_rolls ..)) (.foldl _ (fun _ _ => carries_markPorch ..) _ _)

/-! ### Acceptance (R36, R330 to R335) -/

@[simp] theorem evictOne_running (s : State) : (evictOne s).journal.running = s.journal.running := by
  unfold evictOne
  split <;> rfl

/-- What a command stored in the banks adds to guestbook, slots and commands under way. -/
theorem storeCommand_rolls (s : State) (x : Exec) (path : Path) (dest : Nat) (crc : BitVec 32) :
    let u := (writeSlot (writeEntries (evictOne s) x path crc) x).1.journal
    ∃ e : GbEntry, (e.seq = x.seq.toNat ∧ e.lseq = x.lseq ∧ e.path = some path ∧ e.dest = dest) ∧
      (storeCommand s x (some path) path dest crc).journal.rolls =
        (u.book ++ [e], u.slots, u.running ++ [{ x := x, path := some path }]) := by
  let slot := (writeSlot (writeEntries (evictOne s) x path crc) x).2
  refine ⟨{ slot, seq := x.seq.toNat, crc, lseq := x.lseq, path := some path, dest }, ⟨rfl, rfl, rfl, rfl⟩, ?_⟩
  unfold storeCommand
  dsimp only
  rw [fillRules_rolls, queueCommand_rolls, writeMaster_rolls]
  simp [Journal.rolls, slot]

/-- A command that is stored has its guestbook entry, its source's HWM is its SEQ, and it is under way. -/
theorem storeCommand_accepts {s : State} {x : Exec} (hnew : s.runningOf x.lseq = none) (path : Path) (dest : Nat)
    (crc : BitVec 32) :
    (∃ e ∈ (storeCommand s x (some path) path dest crc).journal.book,
      e.seq = x.seq.toNat ∧ e.lseq = x.lseq ∧ e.path = some path ∧ e.dest = dest) ∧
    hwmOf (storeCommand s x (some path) path dest crc) x.source = some x.seq.toNat ∧
    underway (storeCommand s x (some path) path dest crc) x := by
  obtain ⟨e, he, hrolls⟩ := storeCommand_rolls s x path dest crc
  obtain ⟨hhwm, -, hrun⟩ := writeSlot_spec (writeEntries (evictOne s) x path crc) x
  rw [running_of_rolls (writeEntries_rolls ..), evictOne_running] at hrun
  simp only [Journal.rolls, Prod.mk.injEq] at hrolls
  obtain ⟨hbook, hslots, hrunning⟩ := hrolls
  refine ⟨⟨e, by simp [hbook], he⟩, (hwmOf_of_slots hslots _).trans hhwm, { x := x, path := some path }, ?_, rfl, rfl⟩
  rw [State.runningOf] at hnew
  simp [State.runningOf, hrunning, hrun, hnew]

theorem hasAccepted_of_carries {s t : State} {x : Exec} {path : Path} {dest : Nat} (h : Carries s t x)
    (hbook : ∃ e ∈ s.journal.book, e.seq = x.seq.toNat ∧ e.lseq = x.lseq ∧ e.path = some path ∧ e.dest = dest)
    (hhwm : hwmOf s x.source = some x.seq.toNat) (hrun : underway s x) : hasAccepted t x path dest := by
  obtain ⟨r, hr, hx, hhost⟩ := h.run hrun
  have hentries := h.entries
  simp only [Journal.entries, Prod.mk.injEq] at hentries
  obtain ⟨hb, hs⟩ := hentries
  refine ⟨by rwa [hb], (hwmOf_of_slots hs _).trans hhwm, r, ?_, hx, hhost⟩
  exact List.mem_of_find?_eq_some hr

@[simp] theorem noteTime_journal (s : State) : (noteTime s).journal = s.journal := by simp [noteTime, State.freshNat]

/-- The acceptance of a command over the SPI fallback. -/
theorem accept_spi {s : State} {x : Exec} (hnew : s.runningOf x.lseq = none) (crc : BitVec 32) :
    hasAccepted (accept s x .spi 0 crc) x .spi 0 ∧
      Emit.spi (spiFrame 3 (acceptedBytes x)) ∈ (accept s x .spi 0 crc).emitted := by
  have hnew' : (noteTime s).runningOf x.lseq = none := (runningOf_of_running (by simp) _).trans hnew
  obtain ⟨hbook, hhwm, hrun⟩ := storeCommand_accepts hnew' .spi 0 crc
  have haccept : accept s x .spi 0 crc =
      drainNops ((storeCommand (noteTime s) x (some .spi) .spi 0 crc).emit (.spi (spiFrame 3 (acceptedBytes x)))) := rfl
  rw [haccept]
  refine ⟨hasAccepted_of_carries (carries_drainNops _ x) hbook hhwm hrun, (says_drainNops _).mem ?_⟩
  simp

/-- A commit that is in time and that a bank holds accepts its command (R36, R330, R331). -/
theorem commit_accepts {s : State} {fails : List ReadBack} (htime : max 8 s.journal.ahead + commitMost s ≤ acceptLimit s)
    (hdraught : s.draughtPages = 0) (hbank : (fails.foldl readBackFails s).upkeep.banks.any (fun b => b.ok) = true)
    (x : Exec) (path : Path) (dest : Nat) (crc : BitVec 32) :
    ∃ u : State, u.journal.running = s.journal.running ∧ commit s fails x path dest crc = accept u x path dest crc := by
  have hin : ∀ slow, acceptLate s (s.freshNat.1 % (commitMost s + 1)) slow = false := fun slow => by
    have hd : s.freshNat.1 % (commitMost s + 1) < commitMost s + 1 := Nat.mod_lt _ (Nat.succ_pos _)
    have hend : ¬acceptLimit s < commitEnd s (s.freshNat.1 % (commitMost s + 1)) := by
      unfold commitEnd
      omega
    simp [acceptLate, hend, hdraught]
  have hbank' : (fails.foldl readBackFails s.freshNat.2.freshNat.2).upkeep.banks.any (fun b => b.ok) = true := by
    rw [foldl_readBackFails_congr (s := s) (t := s.freshNat.2.freshNat.2) rfl fails]
    exact hbank
  have hjournal : (fails.foldl readBackFails s.freshNat.2.freshNat.2).journal = s.journal :=
    foldl_part State.journal _ (fun _ _ => readBackFails_journal ..) _ _
  unfold commit
  dsimp only
  rw [hin, if_neg Bool.false_ne_true, if_pos hbank']
  generalize fails.foldl readBackFails s.freshNat.2.freshNat.2 = u at hjournal
  refine ⟨u.onJ (fun j => { j with ahead := commitEnd s (s.freshNat.1 % (commitMost s + 1)) }), ?_, rfl⟩
  rw [onJ_journal, hjournal]

end Sys2Proof.Machine

namespace Sys2Proof.Machine
open Host

/-! ### The rows of the SPI fallback (R406 to R408) -/

section SpiRows
variable {s : State}

theorem exec_spiRead (a : Word) (n : Nat) (s : State) :
    exec (.spiRead a n) s = .next (spiBurst s n 1 (fun s => readPayload s a n)) := rfl

theorem exec_spiWrite (a : Word) (l : List Word) (s : State) :
    exec (.spiWrite a l) s = .next (spiBurst s l.length 2 (fun s => writePayload s a l)) := rfl

/-- Without the porch no row of the SPI fallback does anything. -/
theorem spi_dark (h : s.porchRuns = false) : (∀ (a : Word) (n : Nat), exec (.spiRead a n) s = .next s) ∧
    (∀ (a : Word) (d : List Word), exec (.spiWrite a d) s = .next s) ∧
    (∀ b : Envelope, exec (.spiCommand b) s = .next s) ∧ exec .fetchLate s = .next s ∧
    (∀ c : Bool, exec (.spiAbandon c) s = .next s) ∧ ∀ w : SpiError, exec (.spiRequestError w) s = .next s := by
  refine ⟨fun a n => ?_, fun a d => ?_, fun b => ?_, ?_, fun c => ?_, fun w => ?_⟩
  · rw [exec_spiRead, spiBurst_dark h]
  · rw [exec_spiWrite, spiBurst_dark h]
  · show execSpiCommand b s = _
    simp [execSpiCommand, h, go]
  · show execFetchLate s = _
    simp [execFetchLate, h, go]
  · show execSpiAbandon c s = _
    simp [execSpiAbandon, h, go]
  · show execSpiRequestError w s = _
    simp [execSpiRequestError, h, go]

section Runs
variable (h : s.porchRuns = true)
include h

theorem exec_spiCommand_runs (b : Envelope) : exec (.spiCommand b) s = .next (dispatch (endDoze s) b .spi 0) := by
  show execSpiCommand b s = _
  rw [execSpiCommand, if_pos h, go]

theorem exec_fetchLate_runs : exec .fetchLate s = .next (spiRespond
    { endDoze s with spi := { late := (endDoze s).spi.late.drop 1 } } 4 ((endDoze s).spi.late.head?.getD [])) := by
  show execFetchLate s = _
  rw [execFetchLate, if_pos h, go]

theorem exec_spiAbandon_runs (c : Bool) : exec (.spiAbandon c) s =
    .next (if c then (endDoze s).pbump F.HL_SPI_CNT_ABANDONED else endDoze s) := by
  show execSpiAbandon c s = _
  simp [execSpiAbandon, h, endDoze_runs h, go]

/-- The number of a request error and what it leaves before its error response (R407). -/
theorem exec_spiRequestError_runs (w : SpiError) : exec (.spiRequestError w) s = .next (match w with
    | .crc => spiRespond (((endDoze s).pbump F.HL_SPI_CNT_CRC_ERR).errP 0xC 0 0x4107) 0xFF (leBytes 4 1)
    | .badOp => spiRespond (endDoze s) 0xFF (leBytes 4 2)
    | .badLen => spiRespond (endDoze s) 0xFF (leBytes 4 3)) := by
  show execSpiRequestError w s = _
  simp only [execSpiRequestError, h, endDoze_runs h, if_true, Bool.not_true, Bool.false_eq_true, if_false]
  cases w <;> rfl

/-- An envelope that passes every check in time is accepted and answered. -/
theorem spiCommand_accepts {b : Envelope} {x : Exec} (hx : acceptable (endDoze s) b.bytes x)
    (hbank : bankStays (endDoze s) b) : ∃ t, exec (.spiCommand b) s = .next t ∧ hasAccepted t x .spi 0 ∧
      Emit.spi (spiFrame 3 (acceptedBytes x)) ∈ t.emitted := by
  obtain ⟨hpass, htime, hdraught⟩ := hx
  obtain ⟨u, hu, hcommit⟩ := commit_accepts htime hdraught hbank x .spi 0
    (BitVec.ofNat 32 (leAt b.bytes (b.bytes.length - 4) 4))
  have hnew : u.runningOf x.lseq = none := by
    rw [runningOf_of_running hu, hpass.form]
    exact hpass.once
  refine ⟨_, exec_spiCommand_runs h b, ?_⟩
  rw [dispatch, judge_passes hpass, hcommit]
  exact accept_spi hnew _

/-- An envelope whose CRC fails is told and not answered. -/
theorem spiCommand_badCrc {b : Envelope} (hb : envelopeOk b.bytes = false) : ∃ t, exec (.spiCommand b) s = .next t ∧
    t.journal = s.journal ∧ t.slices = (endDoze s).slices ∧ toldCode s t 2 1 0x4001 := by
  have hd : dispatch (endDoze s) b .spi 0 = ((endDoze s).pbump F.PCH_DSP_CNT_2_ENV_ERR).errP 2 1 0x4001 := by
    rw [dispatch, judge, hb]
    rfl
  refine ⟨_, exec_spiCommand_runs h b, ?_⟩
  rw [hd]
  exact ⟨by simp, by simp, toldCode_errP ((grows_endDoze s).trans (grows_pbump ..)) (.refl _)⟩

/-- An abandoned request that was complete counts. -/
theorem spiAbandon_counts : ∃ t, exec (.spiAbandon true) s = .next t ∧ t.slices = (endDoze s).slices ∧
    t.journal = s.journal ∧ t.pg F.HL_SPI_CNT_ABANDONED = satTo 8 (s.pg F.HL_SPI_CNT_ABANDONED + 1) := by
  obtain ⟨hjournal, hregs⟩ := endDoze_keeps s
  refine ⟨_, exec_spiAbandon_runs h true, rfl, hjournal, ?_⟩
  rw [if_pos rfl, State.pg, State.pg, pbump_regs, hregs]
  exact nat_bump_same _ _ _ _ (by decide) (by decide)

/-- A request error draws its error response; a CRC error counts and is told. -/
theorem spiRequestError_responds {w : SpiError} {code : Nat}
    (hw : (w = .crc ∧ code = 1) ∨ (w = .badOp ∧ code = 2) ∨ (w = .badLen ∧ code = 3)) :
    ∃ t, exec (.spiRequestError w) s = .next t ∧ t.lastOut = some (.spi (spiFrame 0xFF (leBytes 4 code))) ∧
      t.slices = (endDoze s).slices ∧ t.journal = s.journal ∧ (w = .crc → toldCode s t 0xC 0 0x4107 ∧
        t.pg F.HL_SPI_CNT_CRC_ERR = satTo 16 (s.pg F.HL_SPI_CNT_CRC_ERR + 1)) := by
  obtain ⟨hjournal, -⟩ := endDoze_keeps s
  refine ⟨_, exec_spiRequestError_runs h w, ?_⟩
  obtain ⟨rfl, rfl⟩ | ⟨rfl, rfl⟩ | ⟨rfl, rfl⟩ := hw
  · refine ⟨spiRespond_lastOut .., by simp [spiRespond_eq], by simp [spiRespond_eq], fun _ => ⟨?_, ?_⟩⟩
    · exact toldCode_errP ((grows_endDoze s).trans (grows_pbump ..)) (grows_emit ..)
    · have hcount : (s.regs.bump F.HL_SPI_CNT_CRC_ERR 0 1).nat F.HL_SPI_CNT_CRC_ERR 0 =
          satTo 16 (s.regs.nat F.HL_SPI_CNT_CRC_ERR 0 + 1) := nat_bump_same _ _ _ _ (by decide) (by decide)
      simp [spiRespond_eq, State.pg, hcount]
  · exact ⟨spiRespond_lastOut .., rfl, hjournal, nofun⟩
  · exact ⟨spiRespond_lastOut .., rfl, hjournal, nofun⟩

end Runs
end SpiRows

/-- Settles O53, row by row of the SPI fallback. -/
theorem spiFallback : Obligations.SpiFallback := by
  intro s
  refine ⟨spi_dark, fun h => ⟨fun a n h1 h16 => ?read, fun a l h1 h16 => ?write, fun a n hn => ?badCount,
    fun b x hx hbank => spiCommand_accepts h hx hbank, fun b hb => spiCommand_badCrc h hb, ?late, spiAbandon_counts h,
    exec_spiAbandon_runs h false, fun w code hw => spiRequestError_responds h hw⟩⟩
  case read =>
    refine ⟨_, (exec_spiRead a n s).trans (congrArg _ (spiBurst_answered h h1 h16 ..)), spiRespond_lastOut .., rfl, rfl, ?_⟩
    rintro rfl
    rw [spiRespond_lastOut, readPayload_single]
  case write =>
    exact ⟨_, (exec_spiWrite a l s).trans (congrArg _ (spiBurst_answered h h1 h16 ..)), spiRespond_lastOut .., rfl, rfl⟩
  case badCount =>
    obtain ⟨hjournal, -⟩ := endDoze_keeps s
    exact ⟨_, (exec_spiRead a n s).trans (congrArg _ (spiBurst_badCount h hn ..)), spiRespond_lastOut .., rfl, hjournal⟩
  case late =>
    obtain ⟨-, hspi, -⟩ := endDoze_rest s
    refine ⟨_, exec_fetchLate_runs h, ?_, ?_⟩
    · rw [← hspi]
      rfl
    · rw [spiRespond_lastOut, hspi]

end Sys2Proof.Machine

namespace Sys2Proof.Machine
open Host

/-! ### Fields beside a written one (R12, R15) -/

/-- A field wholly above a replaced one. -/
theorem fieldOf_putField_above (w : Word) {hi lo hi' lo' : Nat} (v : Nat) (hlo : lo ≤ hi) (hhi : hi < 32) (habove : hi < lo') :
    fieldOf (putField w hi lo v) hi' lo' = fieldOf w hi' lo' := by
  obtain ⟨n, hn⟩ : ∃ n, hi + 1 = lo + n := ⟨hi + 1 - lo, by omega⟩
  obtain ⟨m, rfl⟩ : ∃ m, lo' = hi + 1 + m := ⟨lo' - (hi + 1), by omega⟩
  have hv : v % 2 ^ n < 2 ^ n := Nat.mod_lt _ (Nat.two_pow_pos n)
  have hr : w.toNat % 2 ^ lo < 2 ^ lo := Nat.mod_lt _ (Nat.two_pow_pos lo)
  have htop : (putField w hi lo v).toNat / 2 ^ (hi + 1) = w.toNat / 2 ^ (hi + 1) := by
    rw [putField_toNat w v hlo hhi, hn, Nat.add_sub_cancel_left, Nat.pow_add, ← Nat.div_div_eq_div_mul _ (2 ^ lo),
      Nat.mul_add_div (Nat.two_pow_pos lo), Nat.div_eq_of_lt hr, Nat.add_zero, Nat.mul_add_div (Nat.two_pow_pos n),
      Nat.div_eq_of_lt hv, Nat.add_zero]
  rw [fieldOf, fieldOf, Nat.shiftRight_eq_div_pow, Nat.shiftRight_eq_div_pow, Nat.pow_add, ← Nat.div_div_eq_div_mul,
    htop, Nat.div_div_eq_div_mul]

/-- Whether field `y` number `j` shares no bit with field `x` number `i`, which stands in a word: its register is another
one, or it lies wholly below or above. -/
def Fld.apart (x : Fld) (i : Nat) (y : Fld) (j : Nat) : Bool :=
  decide (x.lo ≤ x.hi ∧ x.hi < 32) && decide (x.at i ≠ y.at j ∨ y.hi < x.lo ∨ x.hi < y.lo)

/-- Whether a field stands in a word, and whether it is one bit of it. -/
def Fld.inWord (x : Fld) : Bool := decide (x.lo ≤ x.hi ∧ x.hi < 32)
def Fld.oneBit (x : Fld) : Bool := decide (x.lo = x.hi ∧ x.hi < 32)

section Fields
variable (f : RegFile) {x y : Fld} {i j : Nat}

/-- A field read after another one is written. -/
theorem nat_putNat_apart (h : x.apart i y j = true) (v : Nat) : (f.putNat x v i).nat y j = f.nat y j := by
  simp only [Fld.apart, Bool.and_eq_true, decide_eq_true_eq] at h
  obtain ⟨⟨hlo, hhi⟩, hapart⟩ := h
  by_cases hat : x.at i = y.at j
  · rw [RegFile.nat, RegFile.putNat, RegFile.nat, ← hat, rfGet_put]
    rcases hapart with hne | hbelow | habove
    · exact absurd hat hne
    · exact fieldOf_putField_below _ _ hlo hhi hbelow
    · exact fieldOf_putField_above _ _ hlo hhi habove
  · rw [RegFile.nat, RegFile.putNat, RegFile.nat, rfGet_put_ne _ _ _ _ hat]

theorem nat_putNat_fit (h : x.inWord = true) (v : Nat) : (f.putNat x v i).nat x i = x.fit v := by
  simp only [Fld.inWord, decide_eq_true_eq] at h
  exact nat_putNat_same f x v i h.1 h.2

theorem bit_putNat_bit1 (h : x.oneBit = true) (b : Bool) : (f.putNat x (bit1 b) i).bit x i = b := by
  simp only [Fld.oneBit, decide_eq_true_eq] at h
  rw [RegFile.bit, nat_putNat_same f x _ i (by omega) h.2, ← h.1, Nat.add_sub_cancel_left]
  cases b <;> rfl

theorem bit_putNat_apart (h : x.apart i y j = true) (v : Nat) : (f.putNat x v i).bit y j = f.bit y j := by
  rw [RegFile.bit, nat_putNat_apart f h, RegFile.bit]

theorem nat_putWord_ne {r : Reg} (h : r.at i ≠ x.at j) (w : Word) : (f.putWord r w i).nat x j = f.nat x j := by
  rw [RegFile.nat, RegFile.putWord, rfGet_put_ne _ _ _ _ h, RegFile.nat]

theorem fit_satTo (x : Fld) (v : Nat) : x.fit (satTo (x.hi + 1 - x.lo) v) = satTo (x.hi + 1 - x.lo) v :=
  Nat.mod_eq_of_lt (satTo_lt ..)

end Fields

/-! ### The zone of a slice after the operations on it -/

section Zone
variable (s : State) (p : Phys)

/-- The zone of a slice depends on the slices alone. -/
theorem z_of_slices {s t : State} (h : t.slices = s.slices) (p : Phys) : t.z p = s.z p := by
  rw [State.z, sl_of_slices h, State.z]

theorem z_of_quiet {s t : State} (h : t.quiet = s.quiet) (p : Phys) : t.z p = s.z p :=
  z_of_slices (congrArg State.slices h :) p

@[simp] theorem z_evt (q : Phys) (u b : Nat) : (s.evt q u b).z p = s.z p := z_of_quiet (by simp) p
@[simp] theorem z_evtIf (c : Bool) (q : Phys) (u b : Nat) : (s.evtIf c q u b).z p = s.z p := z_of_quiet (by simp) p
@[simp] theorem z_err (q : Phys) (u c e : Nat) : (s.err q u c e).z p = s.z p := z_of_quiet (by simp) p

@[simp] theorem z_w (x : Fld) (v i : Nat) : (s.w p x v i).z p = { s.z p with regs := (s.z p).regs.putNat x v i } := z_onZ ..
@[simp] theorem z_wb (x : Fld) (b : Bool) (i : Nat) : (s.wb p x b i).z p =
    { s.z p with regs := (s.z p).regs.putNat x (bit1 b) i } := z_onZ ..
@[simp] theorem z_bump (x : Fld) (n i : Nat) : (s.bump p x n i).z p =
    { s.z p with regs := (s.z p).regs.putNat x (satTo (x.hi + 1 - x.lo) ((s.z p).regs.nat x i + n)) i } := z_onZ ..
@[simp] theorem z_wWord (r : Reg) (v : Word) (i : Nat) : (s.wWord p r v i).z p =
    { s.z p with regs := (s.z p).regs.putWord r v i } := z_onZ ..
@[simp] theorem z_onInp (f : Inputs → Inputs) : (s.onInp p f).z p = { s.z p with inp := f (s.z p).inp } := z_onZ ..
@[simp] theorem z_onT (n : Fin 4) (f : TempIn → TempIn) : (s.onT p n f).z p =
    { s.z p with inp := { (s.z p).inp with t := (s.z p).inp.t.set n.val (f (s.tIn p n)) n.isLt } } := z_onZ ..
@[simp] theorem z_onOuts (f : Outs → Outs) : (s.onOuts p f).z p = { s.z p with outs := f (s.z p).outs } := z_onZ ..
@[simp] theorem z_onPn (f : Panel → Panel) : (s.onPn p f).z p = { s.z p with panel := f (s.z p).panel } := z_onZ ..
@[simp] theorem z_onHt (f : Heat → Heat) : (s.onHt p f).z p = { s.z p with heat := f (s.z p).heat } := z_onZ ..

end Zone

end Sys2Proof.Machine

namespace Sys2Proof.Machine
open Host

/-! ### Effects on a running slice -/

theorem onRunning_runs {s : State} {p : Phys} (h : (s.sl p).running = true) (f : State → State) : onRunning s p f = .next (f s) := by
  rw [onRunning, if_pos h]
  rfl

/-- An effect that leaves the state as it is. -/
theorem onRunning_keeps {s : State} {f : State → State} (h : f s = s) (p : Phys) : onRunning s p f = .next s := by
  rw [onRunning, h, ite_self]
  rfl

@[simp] theorem slUs_onZ (s : State) (p : Phys) (f : ZoneState → ZoneState) : (s.onZ p f).slUs p = s.slUs p := by
  simp [State.slUs, State.base, State.onZ]

@[simp] theorem slUs_wb (s : State) (p : Phys) (x : Fld) (b : Bool) (i : Nat) : (s.wb p x b i).slUs p = s.slUs p := slUs_onZ ..

theorem slUs_of_quiet {s t : State} (h : t.quiet = s.quiet) (p : Phys) : t.slUs p = s.slUs p := by
  have hs : t.slices = s.slices := (congrArg State.slices h :)
  rw [State.slUs, State.base, sl_of_slices hs, State.slUs, State.base]

/-! ### The chatter rule (R94) -/

section Chatter
variable (c : Chat) (now n : Nat)

theorem reject_rejects : (c.reject now n).1.rejects = within1s now c.rejects ++ [now] := rfl

theorem trans1_rejects : (c.trans1 now n).1.rejects = c.rejects := rfl

/-- A transition after a cleared declaration declares nothing. -/
theorem trans1_cleared (hn : 0 < n) : (c.cleared.trans1 now n).1.on = false ∧ (c.cleared.trans1 now n).2 = false := by
  simp [Chat.trans1, Chat.cleared, within1s, Nat.not_lt.mpr (Nat.succ_le_of_lt hn)]

end Chatter

/-! ### Zone presence and the CHATTER declaration (R92, R94) -/

section Presence
variable (s : State) (p : Phys)

/-- Presence formed anew writes PRES, PRES_FALLBACK and the planner's hold. -/
theorem formPresence_regs : ((formPresence s p).z p).regs = ((s.z p).regs.putNat F.ZI_STAT_PRES
    (bit1 (presenceOf (s.g p F.ZI_PRES_CFG_MODE) (s.z p).inp.prdIn (s.z p).inp.praIn (s.gb p F.ZI_PRES_PRD_ACC)
      (s.gb p F.ZI_PRES_PRA_ACT)).1)).putNat F.ZI_STAT_PRES_FALLBACK
    (bit1 (presenceOf (s.g p F.ZI_PRES_CFG_MODE) (s.z p).inp.prdIn (s.z p).inp.praIn (s.gb p F.ZI_PRES_PRD_ACC)
      (s.gb p F.ZI_PRES_PRA_ACT)).2) := by
  unfold formPresence
  dsimp only
  rw [z_evtIf]
  split <;> simp

@[simp] theorem formPresence_inp : ((formPresence s p).z p).inp = (s.z p).inp := by
  unfold formPresence
  dsimp only
  rw [z_evtIf]
  split <;> simp

/-- A field that presence does not write. -/
theorem formPresence_nat {x : Fld} {i : Nat} (h : (F.ZI_STAT_PRES.apart 0 x i && F.ZI_STAT_PRES_FALLBACK.apart 0 x i) = true) :
    ((formPresence s p).z p).regs.nat x i = (s.z p).regs.nat x i := by
  rw [Bool.and_eq_true] at h
  rw [formPresence_regs, nat_putNat_apart _ h.2, nat_putNat_apart _ h.1]

theorem formPresence_bit {x : Fld} {i : Nat} (h : (F.ZI_STAT_PRES.apart 0 x i && F.ZI_STAT_PRES_FALLBACK.apart 0 x i) = true) :
    ((formPresence s p).z p).regs.bit x i = (s.z p).regs.bit x i := by
  rw [RegFile.bit, formPresence_nat s p h, RegFile.bit]

@[simp] theorem formPresence_slUs : (formPresence s p).slUs p = s.slUs p := by
  unfold formPresence
  dsimp only
  rw [slUs_of_quiet (evtIf_quiet ..)]
  split <;> simp

theorem grows_onZ (f : ZoneState → ZoneState) : Grows s (s.onZ p f) := grows_onSl ..
theorem grows_onInp (f : Inputs → Inputs) : Grows s (s.onInp p f) := grows_onZ ..
theorem grows_bump (x : Fld) (n i : Nat) : Grows s (s.bump p x n i) := grows_setSl ..

theorem grows_evtIf (c : Bool) (q : Phys) (u b : Nat) : Grows s (s.evtIf c q u b) := by
  unfold State.evtIf
  exact grows_ite (grows_evt ..) (.refl s)

theorem grows_formPresence : Grows s (formPresence s p) := by
  have hset (a b : Bool) : Grows s ((s.wb p F.ZI_STAT_PRES a).wb p F.ZI_STAT_PRES_FALLBACK b) :=
    (grows_wb ..).trans (grows_wb ..)
  unfold formPresence
  exact (grows_ite ((hset _ _).trans (grows_onZ ..)) (hset _ _)).trans (grows_evtIf ..)

/-- The flag that shows the declaration of PRA or PRD. -/
def chatFlag (pra : Bool) : Fld := if pra then F.ZI_STAT_CHAT_PRA else F.ZI_STAT_CHAT_PRD

theorem declareChatter_eq (pra : Bool) : declareChatter s p pra =
    formPresence ((((s.wb p (chatFlag pra) true).bump p F.ZI_PRES_CNT_CHAT_CNT).evt p 1 EVT.ZI_CHATTER).err p 1 (bit1 pra)
      0x1906) p := by cases pra <;> rfl

@[simp] theorem declareChatter_inp (pra : Bool) : ((declareChatter s p pra).z p).inp = (s.z p).inp := by
  simp [declareChatter_eq]

/-- What a declaration writes: its flag, CHAT_CNT, and presence. -/
def chatterFields : List Fld :=
  [F.ZI_STAT_CHAT_PRA, F.ZI_STAT_CHAT_PRD, F.ZI_PRES_CNT_CHAT_CNT, F.ZI_STAT_PRES, F.ZI_STAT_PRES_FALLBACK]

theorem declareChatter_nat {x : Fld} {i : Nat} (h : (chatterFields.all fun y => y.apart 0 x i) = true) (pra : Bool) :
    ((declareChatter s p pra).z p).regs.nat x i = (s.z p).regs.nat x i := by
  simp only [chatterFields, List.all_cons, List.all_nil, Bool.and_true, Bool.and_eq_true] at h
  obtain ⟨hpra, hprd, hcnt, hpres, hfall⟩ := h
  have hflag : (chatFlag pra).apart 0 x i = true := by cases pra <;> assumption
  rw [declareChatter_eq, formPresence_nat _ _ (by rw [hpres, hfall]; rfl)]
  simp [nat_putNat_apart _ hcnt, nat_putNat_apart _ hflag]

end Presence

/-! ### Humidity (R88, R89, R98) -/

section Humidity
variable (s : State) (p : Phys)

/-- A published reading: RH and HVALID, and what there is of a dew point. -/
theorem publishHumidity_eq (rh : Rat) : ∃ (dew : Nat) (valid : Bool), publishHumidity s p rh =
    (((s.w p F.ZI_HUM_RH (Config.toUnits (clampRat 0 100 rh * 100)).toNat).wb p F.ZI_STAT_HVALID true).w p F.ZI_HUM_DEW dew).wb p
      F.ZI_STAT_DVALID valid := by
  unfold publishHumidity
  dsimp only
  split
  · split
    · exact ⟨_, _, rfl⟩
    · exact ⟨_, _, rfl⟩
  · exact ⟨_, _, rfl⟩

variable (cap leak : Nat)

/-- CAP and LEAK shown, and the free value of a compensated reading without a valid TREF taken (R89, R109). -/
def capShown : State :=
  let s0 := (s.w p F.ZI_HUM_CAP_LEAK (satTo 16 leak)).w p F.ZI_HUM_CAP_CAP (satTo 16 cap)
  if s.gb p F.ZI_HUM_CFG_2_TCOMP && (s.tref p).isNone then { s0 with free := s0.free + 1 } else s0

@[simp] theorem capShown_z : (capShown s p cap leak).z p = { s.z p with
    regs := ((s.z p).regs.putNat F.ZI_HUM_CAP_LEAK (satTo 16 leak)).putNat F.ZI_HUM_CAP_CAP (satTo 16 cap) } := by
  have h : (capShown s p cap leak).slices =
      ((s.w p F.ZI_HUM_CAP_LEAK (satTo 16 leak)).w p F.ZI_HUM_CAP_CAP (satTo 16 cap)).slices := by
    unfold capShown
    dsimp only
    split <;> rfl
  rw [z_of_slices h]
  simp

theorem grows_capShown : Grows s (capShown s p cap leak) := by
  have h : Grows s ((s.w p F.ZI_HUM_CAP_LEAK (satTo 16 leak)).w p F.ZI_HUM_CAP_CAP (satTo 16 cap)) := (grows_w ..).trans (grows_w ..)
  exact grows_ite (h.silent rfl rfl) h

theorem capShown_coll : (capShown s p cap leak).coll = s.coll := by
  unfold capShown
  dsimp only
  split <;> rfl

variable {s p cap leak}

theorem humidityMeasure_disabled (h : s.g p F.ZI_HUM_CFG_1_S = 0) : humidityMeasure s p cap leak = s := if_pos h

section Enabled
variable (hS : s.g p F.ZI_HUM_CFG_1_S ≠ 0) (hwhole : (s.z p).inp.humBroken = false)
include hS hwhole

theorem humidityMeasure_good (hc : humidityCause cap leak (humidityOf s p cap) = 0) : humidityMeasure s p cap leak =
    publishHumidity ((capShown s p cap leak).onInp p fun i => { i with humBad := 0, humGood := i.humGood + 1 }) p
      (humidityOf s p cap) := by
  simp only [humidityMeasure, if_neg hS, if_pos hc, hwhole, Bool.false_eq_true, if_false]
  rfl

theorem humidityMeasure_withheld (hc : humidityCause cap leak (humidityOf s p cap) ≠ 0) (hbad : (s.z p).inp.humBad < 2) :
    humidityMeasure s p cap leak =
      (capShown s p cap leak).onInp p fun i => { i with humBad := i.humBad + 1, humGood := 0 } := by
  simp only [humidityMeasure, if_neg hS, if_neg hc, hwhole, Bool.false_eq_true, if_false, if_neg (show ¬ 3 ≤ (s.z p).inp.humBad + 1 by omega)]
  rfl

/-- The registers and the input as a declaration of the humidity sensor leaves them (R98). -/
def humidityDeclared (s : State) (p : Phys) (cause : Nat) : State :=
  let s3 := (s.onInp p fun i => { i with humBad := i.humBad + 1, humGood := 0 }).onInp p fun i =>
    { i with humBroken := true, humFault := cause }
  (((s3.w p F.ZI_HUM_RH 0xFFFF).w p F.ZI_HUM_DEW 0x8000).wb p F.ZI_STAT_HVALID false).wb p F.ZI_STAT_DVALID false

theorem humidityMeasure_breaks (hc : humidityCause cap leak (humidityOf s p cap) ≠ 0) (hbad : 2 ≤ (s.z p).inp.humBad) :
    humidityMeasure s p cap leak =
      ((humidityDeclared (capShown s p cap leak) p (humidityCause cap leak (humidityOf s p cap))).evt p 1 EVT.ZI_HUM_BRK).err p 1 0
        (0x892F + humidityCause cap leak (humidityOf s p cap)) := by
  simp only [humidityMeasure, if_neg hS, if_neg hc, hwhole, Bool.false_eq_true, if_false, if_pos (show 3 ≤ (s.z p).inp.humBad + 1 by omega)]
  rfl

end Enabled

theorem grows_humidityDeclared (cause : Nat) : Grows s (humidityDeclared s p cause) :=
  (grows_onInp ..).trans ((grows_onInp ..).trans ((grows_w ..).trans ((grows_w ..).trans ((grows_wb ..).trans (grows_wb ..)))))

theorem humidity_good_shown (hS : s.g p F.ZI_HUM_CFG_1_S ≠ 0) (hwhole : (s.z p).inp.humBroken = false)
    (hc : humidityCause cap leak (humidityOf s p cap) = 0) {t : State} (ht : t = humidityMeasure s p cap leak) :
    t.g p F.ZI_HUM_CAP_CAP = satTo 16 cap ∧ t.g p F.ZI_HUM_CAP_LEAK = satTo 16 leak ∧
    t.g p F.ZI_HUM_RH = F.ZI_HUM_RH.fit (Config.toUnits (clampRat 0 100 (humidityOf s p cap) * 100)).toNat ∧
    t.gb p F.ZI_STAT_HVALID = true ∧ (t.z p).inp.humBad = 0 := by
  obtain ⟨dew, valid, hpub⟩ := publishHumidity_eq ((capShown s p cap leak).onInp p fun i =>
    { i with humBad := 0, humGood := i.humGood + 1 }) p (humidityOf s p cap)
  rw [ht, humidityMeasure_good hS hwhole hc, hpub]
  simp (disch := decide) [State.g, State.gb, nat_putNat_apart, nat_putNat_fit, bit_putNat_apart, bit_putNat_bit1]
  exact ⟨fit_satTo F.ZI_HUM_CAP_CAP cap, fit_satTo F.ZI_HUM_CAP_LEAK leak⟩

theorem humidity_breaks_shown (hS : s.g p F.ZI_HUM_CFG_1_S ≠ 0) (hwhole : (s.z p).inp.humBroken = false)
    (hc : humidityCause cap leak (humidityOf s p cap) ≠ 0) (hbad : 2 ≤ (s.z p).inp.humBad) {t : State}
    (ht : t = humidityMeasure s p cap leak) : t.g p F.ZI_HUM_RH = 0xFFFF ∧ t.gb p F.ZI_STAT_HVALID = false ∧
    (t.z p).inp.humBroken = true ∧ t.isrBit (slicePage p 1) EVT.ZI_HUM_BRK = true ∧
    toldCode s t (slicePage p 1) 0 (0x892F + humidityCause cap leak (humidityOf s p cap)) := by
  rw [ht, humidityMeasure_breaks hS hwhole hc hbad]
  have hgrows := (grows_capShown s p cap leak).trans
    (grows_humidityDeclared (p := p) (cause := humidityCause cap leak (humidityOf s p cap)))
  refine ⟨?_, ?_, ?_, (grows_err ..).isr _ _ (isrBit_evtP _ _ (by decide)), toldCode_errP (hgrows.trans (grows_evt ..)) (.refl _)⟩
  · simp (disch := decide) [State.g, humidityDeclared, nat_putNat_apart, nat_putNat_fit]
    rfl
  · simp (disch := decide) [State.gb, humidityDeclared, bit_putNat_apart, bit_putNat_bit1]
  · simp [humidityDeclared]

end Humidity

/-! ### PRD (R90, R93 to R95) -/

section Declared
variable (s : State) (p : Phys) (c pra : Bool)

theorem declaredIf_inp : ((if c then declareChatter s p pra else s).z p).inp = (s.z p).inp := by
  split
  · exact declareChatter_inp ..
  · rfl

variable {x : Fld} {i : Nat} (h : (chatterFields.all fun y => y.apart 0 x i) = true)
include h

theorem declaredIf_nat : ((if c then declareChatter s p pra else s).z p).regs.nat x i = (s.z p).regs.nat x i := by
  split
  · exact declareChatter_nat s p h pra
  · rfl

theorem declaredIf_bit : ((if c then declareChatter s p pra else s).z p).regs.bit x i = (s.z p).regs.bit x i := by
  rw [RegFile.bit, declaredIf_nat s p c pra h, RegFile.bit]

end Declared

section Prd
variable (s : State) (p : Phys) (level : Bool)

/-- The rejection of a reversal, and the declaration that it may bring (R94). -/
def prdReverted (s : State) (p : Phys) : State :=
  let c := (s.z p).inp.prdChat.reject (s.slUs p) 8
  let s1 := s.onInp p fun i => { i with prdPend := false, prdChat := c.1 }
  if c.2 then declareChatter s1 p false else s1

theorem prdRaw_eq {act : Bool} (h : act = (level != s.gb p F.ZI_PRES_CFG_PRD_POL)) : prdRaw s p level =
    if act ≠ (s.z p).inp.prdFilt then (s.wb p F.ZI_PRES_PRD_RAW act).onInp p fun i => { i with prdPend := true }
    else if (s.z p).inp.prdPend then prdReverted (s.wb p F.ZI_PRES_PRD_RAW act) p
    else s.wb p F.ZI_PRES_PRD_RAW act := by
  subst h
  simp only [prdRaw, prdReverted, bne_iff_ne]
  simp [State.wb, State.onR]

theorem prdReverted_inp : ((prdReverted s p).z p).inp = { (s.z p).inp with
    prdPend := false, prdChat := ((s.z p).inp.prdChat.reject (s.slUs p) 8).1 } := by
  simp [prdReverted, declaredIf_inp]

theorem prdReverted_bit {x : Fld} {i : Nat} (h : (chatterFields.all fun y => y.apart 0 x i) = true) :
    ((prdReverted s p).z p).regs.bit x i = (s.z p).regs.bit x i := by
  rw [prdReverted, declaredIf_bit _ _ _ _ h, z_onInp]

/-- PRD_RAW shows the active level and the filter follows it; a reversal counts as one rejection (R90, R94). -/
theorem prdRaw_spec {act : Bool} (hact : act = (level != s.gb p F.ZI_PRES_CFG_PRD_POL)) {t : State} (ht : t = prdRaw s p level) :
    t.gb p F.ZI_PRES_PRD_RAW = act ∧ t.gb p F.ZI_PRES_PRD_ACC = s.gb p F.ZI_PRES_PRD_ACC ∧
    (t.z p).inp.prdPend = (act != (s.z p).inp.prdFilt) ∧
    (act = (s.z p).inp.prdFilt → (s.z p).inp.prdPend = true →
      (t.z p).inp.prdChat.rejects = within1s (s.slUs p) (s.z p).inp.prdChat.rejects ++ [s.slUs p]) := by
  rw [ht, prdRaw_eq s p level hact]
  split
  next hne => simp (disch := decide) [State.gb, bit_putNat_apart, bit_putNat_bit1, hne]
  next heq =>
    rw [not_not] at heq
    split
    next hpend =>
      simp (disch := decide) [State.gb, prdReverted_bit, prdReverted_inp, bit_putNat_apart, bit_putNat_bit1, heq, reject_rejects]
    next hpend => simp (disch := decide) [State.gb, bit_putNat_apart, bit_putNat_bit1, heq, hpend]

/-- What PRD's filter passes, and the stuck declaration that a break ends (R90, R93, R95). -/
theorem passPrd_inp : ((passPrd s p level).z p).inp = { (s.z p).inp with
    prdPend := false, prdFilt := level, prdSince := if level then some (s.base p : Int) else none
    prdStuck := (s.z p).inp.prdStuck && level } := by
  unfold passPrd
  cases level <;> cases hstuck : (s.z p).inp.prdStuck <;> simp [hstuck]

theorem passPrd_nat {x : Fld} {i : Nat} (h : F.ZI_STAT_STUCK_PRD.apart 0 x i = true) :
    ((passPrd s p level).z p).regs.nat x i = (s.z p).regs.nat x i := by
  unfold passPrd
  dsimp only
  split
  · simp [nat_putNat_apart _ h]
  · simp

theorem passPrd_bit {x : Fld} {i : Nat} (h : F.ZI_STAT_STUCK_PRD.apart 0 x i = true) :
    ((passPrd s p level).z p).regs.bit x i = (s.z p).regs.bit x i := by
  rw [RegFile.bit, passPrd_nat s p level h, RegFile.bit]

/-- The accepted state of PRD with its activation counted, before presence is formed (R90). -/
def prdTurned (s : State) (p : Phys) (level : Bool) : State :=
  let s2 := (s.wb p F.ZI_PRES_PRD_ACC level).onInp p fun i =>
    { i with prdChat := ((s.z p).inp.prdChat.trans1 (s.slUs p) 4).1 }
  if level then s2.bump p F.ZI_PRES_CNT_ACT_CNT else s2

theorem acceptPrd_eq : acceptPrd s p level = formPresence
    (if ((s.z p).inp.prdChat.trans1 (s.slUs p) 4).2 then declareChatter (prdTurned s p level) p false
      else prdTurned s p level) p := rfl

theorem prdTurned_inp : ((prdTurned s p level).z p).inp = { (s.z p).inp with
    prdChat := ((s.z p).inp.prdChat.trans1 (s.slUs p) 4).1 } := by
  cases level <;> simp [prdTurned]

theorem acceptPrd_inp : ((acceptPrd s p level).z p).inp = { (s.z p).inp with
    prdChat := ((s.z p).inp.prdChat.trans1 (s.slUs p) 4).1 } := by
  rw [acceptPrd_eq, formPresence_inp, declaredIf_inp, prdTurned_inp]

theorem acceptPrd_acc : ((acceptPrd s p level).z p).regs.bit F.ZI_PRES_PRD_ACC = level := by
  rw [acceptPrd_eq, formPresence_bit _ _ (by decide), declaredIf_bit _ _ _ _ (by decide)]
  cases level <;> simp (disch := decide) [prdTurned, bit_putNat_apart, bit_putNat_bit1]

theorem acceptPrd_counts : ((acceptPrd s p true).z p).regs.nat F.ZI_PRES_CNT_ACT_CNT =
    satTo 16 ((s.z p).regs.nat F.ZI_PRES_CNT_ACT_CNT + 1) := by
  rw [acceptPrd_eq, formPresence_nat _ _ (by decide), declaredIf_nat _ _ _ _ (by decide)]
  simp (disch := decide) [prdTurned, nat_putNat_apart, nat_putNat_fit, fit_satTo]
  rfl

/-- An accepted edge of PRD, in CHATTER and without it (R90, R94, R95). -/
theorem prdAccept_eq (hpend : (s.z p).inp.prdPend = true) : prdAccept s p =
    if (s.z p).inp.prdChat.on then formPresence (passPrd s p (s.gb p F.ZI_PRES_PRD_RAW)) p
    else acceptPrd (passPrd s p (s.gb p F.ZI_PRES_PRD_RAW)) p (s.gb p F.ZI_PRES_PRD_RAW) := by
  simp only [prdAccept, hpend, if_true]

/-- The filter's part of the inputs, whether the edge is accepted or not. -/
theorem prdAccept_filter (hpend : (s.z p).inp.prdPend = true) : ((prdAccept s p).z p).inp.prdPend = false ∧
    ((prdAccept s p).z p).inp.prdFilt = s.gb p F.ZI_PRES_PRD_RAW ∧
    (s.gb p F.ZI_PRES_PRD_RAW = false → ((prdAccept s p).z p).inp.prdStuck = false) := by
  rw [prdAccept_eq s p hpend]
  split
  · rw [formPresence_inp, passPrd_inp]
    exact ⟨rfl, rfl, fun h => by rw [h, Bool.and_false]⟩
  · rw [acceptPrd_inp, passPrd_inp]
    exact ⟨rfl, rfl, fun h => by rw [h, Bool.and_false]⟩

theorem prdAccept_accepts (hpend : (s.z p).inp.prdPend = true) (hon : (s.z p).inp.prdChat.on = false) :
    (prdAccept s p).gb p F.ZI_PRES_PRD_ACC = s.gb p F.ZI_PRES_PRD_RAW ∧ (s.gb p F.ZI_PRES_PRD_RAW = true →
      (prdAccept s p).g p F.ZI_PRES_CNT_ACT_CNT = satTo 16 (s.g p F.ZI_PRES_CNT_ACT_CNT + 1)) := by
  rw [prdAccept_eq s p hpend, hon, if_neg Bool.false_ne_true]
  refine ⟨acceptPrd_acc .., fun hraw => ?_⟩
  rw [hraw, State.g, acceptPrd_counts, passPrd_nat _ _ _ (by decide), State.g]

theorem prdAccept_keeps (hpend : (s.z p).inp.prdPend = true) (hon : (s.z p).inp.prdChat.on = true) :
    (prdAccept s p).gb p F.ZI_PRES_PRD_ACC = s.gb p F.ZI_PRES_PRD_ACC := by
  rw [prdAccept_eq s p hpend, hon, if_pos rfl, State.gb, formPresence_bit _ _ (by decide), passPrd_bit _ _ _ (by decide), State.gb]

end Prd

/-! ### PRA (R91, R93, R94) -/

section Pra
variable (s : State) (p : Phys)

theorem praDc_inp (dc : Nat) : ∃ b, ((praDc s p dc).z p).inp = { (s.z p).inp with praBroken := b } := by
  unfold praDc
  dsimp only
  split
  · exact ⟨false, by simp⟩
  · exact ⟨(s.z p).inp.praBroken, by simp⟩

theorem praDc_nat {x : Fld} {i dc : Nat} (h : (F.ZI_STAT_PRES.apart 0 x i && F.ZI_STAT_PRES_FALLBACK.apart 0 x i) = true) :
    ((praDc s p dc).z p).regs.nat x i = ((s.z p).regs.putNat F.ZI_PRES_PRA_DC (satTo 16 dc)).nat x i := by
  unfold praDc
  dsimp only
  split
  · rw [formPresence_nat _ _ h]
    simp
  · simp

theorem praDc_slUs (dc : Nat) : (praDc s p dc).slUs p = s.slUs p := by
  unfold praDc
  dsimp only
  split <;> simp [State.w, State.onR, State.onInp]

variable (high : Bool) (ms : Nat)

theorem praCompare_inp : ((praCompare s p high ms).z p).inp = { (s.z p).inp with
    praHigh := high, praOver := if high && (s.z p).inp.praHigh then (s.z p).inp.praOver + ms else 0
    praShow := (s.z p).inp.praShow - ms
    praChat := if high = (s.z p).inp.praHigh then (s.z p).inp.praChat else ((s.z p).inp.praChat.reject (s.slUs p) 8).1 } := by
  unfold praCompare
  dsimp only
  by_cases hsame : high = (s.z p).inp.praHigh
  · simp [hsame]
  · simp [hsame, declaredIf_inp]

theorem praCompare_nat {x : Fld} {i : Nat} (h : ((F.ZI_PRES_PRA_MOTION :: chatterFields).all fun y => y.apart 0 x i) = true) :
    ((praCompare s p high ms).z p).regs.nat x i = (s.z p).regs.nat x i := by
  simp only [List.all_cons, Bool.and_eq_true] at h
  obtain ⟨hmotion, hchat⟩ := h
  unfold praCompare
  dsimp only
  split
  · rw [declaredIf_nat _ _ _ _ hchat]
    simp [nat_putNat_apart _ hmotion]
  · simp [nat_putNat_apart _ hmotion]

/-- PRA active and shown, the event counted, before presence is formed (R91). -/
def praMoved (s : State) (p : Phys) : State :=
  let s1 := s.onInp p fun i => { i with
    praChat := ((s.z p).inp.praChat.trans1 (s.slUs p) 4).1, praShow := 100
    praSince := match i.praSince with | some t => some t | none => some (s.base p : Int) }
  ((s1.wb p F.ZI_PRES_PRA_ACT true).wb p F.ZI_PRES_PRA_MOTION true).bump p F.ZI_PRES_CNT_ACT_CNT

theorem praMotion_eq : praMotion s p = formPresence
    (if ((s.z p).inp.praChat.trans1 (s.slUs p) 4).2 then declareChatter (praMoved s p) p true else praMoved s p) p := rfl

theorem praMotion_rejects : ((praMotion s p).z p).inp.praChat.rejects = (s.z p).inp.praChat.rejects := by
  rw [praMotion_eq, formPresence_inp, declaredIf_inp]
  simp [praMoved, trans1_rejects]

theorem praMotion_nat {x : Fld} {i : Nat} (h : ((F.ZI_STAT_PRES :: F.ZI_STAT_PRES_FALLBACK :: chatterFields).all fun y => y.apart 0 x i) = true) :
    ((praMotion s p).z p).regs.nat x i = ((praMoved s p).z p).regs.nat x i := by
  simp only [List.all_cons, Bool.and_eq_true] at h
  obtain ⟨hpres, hfall, hchat⟩ := h
  rw [praMotion_eq, formPresence_nat _ _ (by rw [hpres, hfall]; rfl), declaredIf_nat _ _ _ _ hchat]

/-- A sample compared with the threshold, before it is known whether its excursion is a motion event. -/
def praJudged (s : State) (p : Phys) (dc : Nat) (high : Bool) (ms : Nat) : State := praCompare (praDc s p dc) p high ms

variable {high ms} {dc : Nat} {band : Int}

theorem praJudged_over : ((praJudged s p dc high ms).z p).inp.praOver =
    if high && (s.z p).inp.praHigh then (s.z p).inp.praOver + ms else 0 := by
  obtain ⟨b, hb⟩ := praDc_inp s p dc
  rw [praJudged, praCompare_inp, hb]

theorem praJudged_chat : ((praJudged s p dc high ms).z p).inp.praChat =
    if high = (s.z p).inp.praHigh then (s.z p).inp.praChat else ((s.z p).inp.praChat.reject (s.slUs p) 8).1 := by
  obtain ⟨b, hb⟩ := praDc_inp s p dc
  rw [praJudged, praCompare_inp, praDc_slUs, hb]

theorem praJudged_dc : ((praJudged s p dc high ms).z p).regs.nat F.ZI_PRES_PRA_DC = satTo 16 dc := by
  rw [praJudged, praCompare_nat _ _ _ _ (by decide), praDc_nat _ _ (by decide), nat_putNat_fit _ (by decide)]
  exact fit_satTo F.ZI_PRES_PRA_DC dc

/-- A field that neither the level shown nor the comparison writes. -/
theorem praJudged_nat {x : Fld} {i : Nat} (h : ((F.ZI_PRES_PRA_DC :: F.ZI_PRES_PRA_MOTION :: chatterFields).all
    fun y => y.apart 0 x i) = true) : ((praJudged s p dc high ms).z p).regs.nat x i = (s.z p).regs.nat x i := by
  have h' := h
  simp only [List.all_cons, chatterFields, List.all_nil, Bool.and_true, Bool.and_eq_true] at h'
  obtain ⟨hdc, hmotion, -, -, -, hpres, hfall⟩ := h'
  simp only [List.all_cons, Bool.and_eq_true] at h
  rw [praJudged, praCompare_nat _ _ _ _ (by simp only [List.all_cons, h, Bool.and_true]), praDc_nat _ _ (by rw [hpres, hfall]; rfl),
    nat_putNat_apart _ hdc]

theorem praTake_eq (hhigh : high = decide (s.praThr p < band.natAbs)) : praTake s p dc band ms =
    if decide ((s.z p).inp.praOver < 100) && decide (100 ≤ ((praJudged s p dc high ms).z p).inp.praOver) &&
        !((praJudged s p dc high ms).z p).inp.praChat.on then praMotion (praJudged s p dc high ms) p
      else praJudged s p dc high ms := by
  subst hhigh
  rfl

/-- An excursion that has now lasted 100 ms is a motion event (R91). -/
theorem praTake_motion (hhigh : high = decide (s.praThr p < band.natAbs)) (hover : (s.z p).inp.praOver < 100)
    (hnow : 100 ≤ ((praJudged s p dc high ms).z p).inp.praOver) (hon : ((praJudged s p dc high ms).z p).inp.praChat.on = false) :
    praTake s p dc band ms = praMotion (praJudged s p dc high ms) p := by
  rw [praTake_eq s p hhigh]
  exact if_pos (by rw [decide_eq_true hover, decide_eq_true hnow, hon]; rfl)

theorem praTake_still (hhigh : high = decide (s.praThr p < band.natAbs))
    (h : 100 ≤ (s.z p).inp.praOver ∨ ((praJudged s p dc high ms).z p).inp.praOver < 100) :
    praTake s p dc band ms = praJudged s p dc high ms := by
  rw [praTake_eq s p hhigh]
  refine if_neg ?_
  rw [Bool.and_eq_true, Bool.and_eq_true, decide_eq_true_eq, decide_eq_true_eq]
  rintro ⟨⟨hover, hnow⟩, -⟩
  omega

theorem praTake_cases (hhigh : high = decide (s.praThr p < band.natAbs)) :
    praTake s p dc band ms = praMotion (praJudged s p dc high ms) p ∨ praTake s p dc band ms = praJudged s p dc high ms := by
  rw [praTake_eq s p hhigh]
  exact ite_eq_or_eq ..

theorem praTake_rejects (hhigh : high = decide (s.praThr p < band.natAbs)) :
    ((praTake s p dc band ms).z p).inp.praChat.rejects = ((praJudged s p dc high ms).z p).inp.praChat.rejects := by
  rcases praTake_cases s p hhigh with h | h <;> rw [h]
  exact praMotion_rejects ..

theorem praTake_dc : ((praTake s p dc band ms).z p).regs.nat F.ZI_PRES_PRA_DC = satTo 16 dc := by
  rcases praTake_cases s p (dc := dc) (ms := ms) rfl with h | h <;> rw [h]
  · rw [praMotion_nat _ _ (by decide)]
    simp (disch := decide) [praMoved, nat_putNat_apart, praJudged_dc]
  · exact praJudged_dc ..

/-- A motion event makes PRA active, shows it and counts it (R91). -/
theorem praMotion_shows : ((praMotion s p).z p).regs.bit F.ZI_PRES_PRA_ACT = true ∧
    ((praMotion s p).z p).regs.bit F.ZI_PRES_PRA_MOTION = true ∧
    ((praMotion s p).z p).regs.nat F.ZI_PRES_CNT_ACT_CNT = satTo 16 ((s.z p).regs.nat F.ZI_PRES_CNT_ACT_CNT + 1) := by
  refine ⟨?_, ?_, ?_⟩
  · rw [RegFile.bit, praMotion_nat _ _ (by decide), ← RegFile.bit]
    simp (disch := decide) [praMoved, bit_putNat_apart, bit_putNat_bit1]
  · rw [RegFile.bit, praMotion_nat _ _ (by decide), ← RegFile.bit]
    simp (disch := decide) [praMoved, bit_putNat_apart, bit_putNat_bit1]
  · rw [praMotion_nat _ _ (by decide)]
    simp (disch := decide) [praMoved, nat_putNat_apart, nat_putNat_fit, fit_satTo]
    rfl

/-- 120 s without a motion event (R91, R93, R94). -/
theorem praIdle_spec : ((praIdle s p).z p).inp.praStuck = false ∧
    ((praIdle s p).z p).regs.bit F.ZI_PRES_PRA_ACT = ((s.z p).inp.praChat.on && (s.z p).regs.bit F.ZI_PRES_PRA_ACT) := by
  unfold praIdle
  dsimp only
  rw [formPresence_inp, formPresence_bit _ _ (by decide)]
  cases hon : (s.z p).inp.praChat.on <;> cases hstuck : (s.z p).inp.praStuck <;>
    simp (disch := decide) [hstuck, bit_putNat_apart, bit_putNat_bit1]

theorem praLevel_declares (hwhole : (s.z p).inp.praBroken = false) (hout : praOut (s.g p F.ZI_PRES_PRA_DC) = true) :
    praLevel s p = formPresence ((s.onInp p fun i => { i with praBroken := true }).err p 1 1 0x8907) p := by
  simp [praLevel, hwhole, hout]

theorem praLevel_stays (h : (s.z p).inp.praBroken = true ∨ praOut (s.g p F.ZI_PRES_PRA_DC) = false) : praLevel s p = s :=
  if_pos (by rw [Bool.or_eq_true, Bool.not_eq_true']; exact h)

end Pra

/-! ### Stuck inputs (R93) -/

section Stuck
variable (s : State) (p : Phys) (pra : Bool)

/-- The stuck declaration of PRA or PRD and its flag. -/
def stuckMarked (s : State) (p : Phys) (pra : Bool) : State :=
  if pra then (s.onInp p fun i => { i with praStuck := true }).wb p F.ZI_STAT_STUCK_PRA true
  else (s.onInp p fun i => { i with prdStuck := true }).wb p F.ZI_STAT_STUCK_PRD true

theorem stuckPresence_stays (h : stuckDue s p pra = false) : stuckPresence s p pra = s := by
  simp [stuckPresence, h]

variable {s p pra}

theorem stuckPresence_declares (h : stuckDue s p pra = true)
    (hnew : (if pra then (s.z p).inp.praStuck else (s.z p).inp.prdStuck) = false) : stuckPresence s p pra =
      formPresence ((((stuckMarked s p pra).bump p F.ZI_PRES_CNT_STUCK_CNT).evt p 1 EVT.ZI_STUCK).err p 1 (bit1 pra) 0x4905) p := by
  simp only [stuckPresence, h, hnew, Bool.not_false, Bool.and_true, if_true]
  rfl

/-- What the declaration says of either input (R93). -/
theorem stuckPresence_shows (h : stuckDue s p pra = true)
    (hnew : (if pra then (s.z p).inp.praStuck else (s.z p).inp.prdStuck) = false) {t : State} (ht : t = stuckPresence s p pra) :
    (if pra then (t.z p).inp.praStuck else (t.z p).inp.prdStuck) = true ∧
    t.gb p (if pra then F.ZI_STAT_STUCK_PRA else F.ZI_STAT_STUCK_PRD) = true ∧
    t.g p F.ZI_PRES_CNT_STUCK_CNT = satTo 8 (s.g p F.ZI_PRES_CNT_STUCK_CNT + 1) ∧
    toldCode s t (slicePage p 1) (bit1 pra) 0x4905 := by
  have hmark : Grows s (stuckMarked s p pra) :=
    grows_ite ((grows_onInp ..).trans (grows_wb ..)) ((grows_onInp ..).trans (grows_wb ..))
  have hcount (n : Nat) : F.ZI_PRES_CNT_STUCK_CNT.fit (satTo 8 n) = satTo 8 n := fit_satTo F.ZI_PRES_CNT_STUCK_CNT n
  rw [ht, stuckPresence_declares h hnew]
  refine ⟨?_, ?_, ?_, toldCode_errP (hmark.trans ((grows_bump ..).trans (grows_evt ..))) (grows_formPresence ..)⟩
  · cases pra <;> simp [stuckMarked]
  · cases pra <;> rw [State.gb, formPresence_bit _ _ (by decide)] <;>
      simp (disch := decide) [stuckMarked, bit_putNat_apart, bit_putNat_bit1]
  · rw [State.g, formPresence_nat _ _ (by decide)]
    cases pra <;> simp (disch := decide) [stuckMarked, nat_putNat_apart, nat_putNat_fit, State.g] <;> exact hcount _

end Stuck

/-- Settles O42, input by input, from what each measurement, edge, sample and timeout leaves of the zone. -/
theorem humidityAndPresence : Obligations.HumidityAndPresence := by
  intro s p hrun
  refine ⟨fun cap leak hS => ?off, fun cap leak hS hwhole => ⟨fun hc => ?good, fun hc hbad => ?withheld, fun hc hbad => ?breaks⟩,
    fun level act hact => ?raw, fun hpend => ?accepted, fun dc band ms high hhigh => ?sample, ?idle, fun hwhole hout => ?level,
    fun h => ?levelKept, fun hdue hnew => ?stuckPrd, fun hdue hnew => ?stuckPra, fun pra hdue => ?notDue⟩
  case off => exact onRunning_keeps (f := (humidityMeasure · p cap leak)) (humidityMeasure_disabled hS) p
  case good =>
    exact ⟨_, onRunning_runs hrun (humidityMeasure · p cap leak), humidityMeasure_cr_ne _ _ _ _, humidity_good_shown hS hwhole hc rfl⟩
  case withheld =>
    refine ⟨_, onRunning_runs hrun (humidityMeasure · p cap leak), humidityMeasure_cr_ne _ _ _ _, ?_⟩
    rw [humidityMeasure_withheld hS hwhole hc hbad]
    simp (disch := decide) [State.g, nat_putNat_apart, hwhole, capShown_coll]
  case breaks =>
    refine ⟨_, onRunning_runs hrun (humidityMeasure · p cap leak), humidityMeasure_cr_ne _ _ _ _, ?_⟩
    exact humidity_breaks_shown hS hwhole hc hbad rfl
  case raw =>
    obtain ⟨hraw, hacc, hpend, hrejects⟩ := prdRaw_spec s p level hact rfl
    refine ⟨_, onRunning_runs hrun (prdRaw · p level), prdRaw_cr_ne _ _ _, hraw, hacc, fun hne => ?_, fun heq => ?_, hrejects⟩
    · rw [hpend, bne_iff_ne]
      exact hne
    · rw [hpend, heq, bne_self_eq_false]
  case accepted =>
    obtain ⟨hpend', hfilt, hstuck⟩ := prdAccept_filter s p hpend
    exact ⟨_, onRunning_runs hrun (prdAccept · p), prdAccept_cr_ne _ _, hpend', hfilt, prdAccept_accepts s p hpend,
      prdAccept_keeps s p hpend, hstuck⟩
  case sample =>
    refine ⟨_, onRunning_runs hrun (praTake · p dc band ms), praTake_cr_ne _ _ _ _ _, praTake_dc .., fun hcross => ?_,
      fun h hwas hover hnow hon => ?_, fun h => ?_⟩
    · rw [praTake_rejects s p hhigh, praJudged_chat, if_neg hcross, reject_rejects]
    · have hlong : ((praJudged s p dc high ms).z p).inp.praOver = (s.z p).inp.praOver + ms := by
        rw [praJudged_over, h, hwas]
        rfl
      have hquiet : ((praJudged s p dc high ms).z p).inp.praChat.on = false := by
        rw [praJudged_chat, if_pos (h.trans hwas.symm), hon]
      rw [praTake_motion s p hhigh hover (hlong ▸ hnow) hquiet]
      obtain ⟨hact, hmotion, hcount⟩ := praMotion_shows (praJudged s p dc high ms) p
      exact ⟨hact, hmotion, hcount.trans (by rw [praJudged_nat _ _ (by decide), State.g])⟩
    · have hstill : 100 ≤ (s.z p).inp.praOver ∨ ((praJudged s p dc high ms).z p).inp.praOver < 100 := by
        rw [praJudged_over]
        rcases h with h | h | h | h
        · simp [h]
        · simp [h]
        · exact .inl h
        · right
          split <;> omega
      rw [praTake_still s p hhigh hstill, State.gb, RegFile.bit, praJudged_nat _ _ (by decide), State.gb, RegFile.bit]
  case idle =>
    obtain ⟨hstuck, hact⟩ := praIdle_spec s p
    refine ⟨_, onRunning_runs hrun (praIdle · p), praIdle_cr_ne _ _, hstuck, fun hon => ?_, fun hon => ?_⟩
    · rw [State.gb, hact, hon, Bool.false_and]
    · rw [State.gb, hact, hon, Bool.true_and, State.gb]
  case level =>
    refine ⟨_, onRunning_runs hrun (praLevel · p), praLevel_cr_ne _ _, ?_⟩
    rw [praLevel_declares s p hwhole hout]
    exact ⟨by simp, toldCode_errP (grows_onInp ..) (grows_formPresence ..)⟩
  case levelKept => exact onRunning_keeps (f := (praLevel · p)) (praLevel_stays s p h) p
  case stuckPrd => exact ⟨_, onRunning_runs hrun (stuckPresence · p false), stuckPresence_cr_ne _ _ _, stuckPresence_shows hdue hnew rfl⟩
  case stuckPra => exact ⟨_, onRunning_runs hrun (stuckPresence · p true), stuckPresence_cr_ne _ _ _, stuckPresence_shows hdue hnew rfl⟩
  case notDue => exact onRunning_keeps (f := (stuckPresence · p pra)) (stuckPresence_stays s p pra hdue) p

end Sys2Proof.Machine

namespace Sys2Proof.Machine
open Host

/-! ### The end of CHATTER on the presence inputs (R94, R95) -/

section ClearPresence
variable (s : State) (p : Phys)

/-- PRD as the end of its declaration leaves it, before a differing level is accepted (R94, R95). -/
def prdCleared (s : State) (p : Phys) (act : Bool) : State :=
  let s1 := (s.onInp p fun i => { i with prdChat := i.prdChat.cleared, prdPend := false }).wb p F.ZI_PRES_PRD_RAW act
  let s2 := (s1.wb p F.ZI_STAT_CHAT_PRD false).evt p 1 EVT.ZI_CHATTER
  if act = (s.z p).inp.prdFilt then s2 else passPrd s2 p act

variable {s p} {raw act : Bool}

theorem clearPrdChatter_eq (hon : (s.z p).inp.prdChat.on = true) (hact : act = (raw != s.gb p F.ZI_PRES_CFG_PRD_POL)) :
    clearPrdChatter s p raw = if act = s.gb p F.ZI_PRES_PRD_ACC then formPresence (prdCleared s p act) p
      else acceptPrd (prdCleared s p act) p act := by
  subst hact
  exact if_pos hon

theorem prdCleared_chat : ((prdCleared s p act).z p).inp.prdChat = (s.z p).inp.prdChat.cleared := by
  unfold prdCleared
  dsimp only
  split
  · simp
  · rw [passPrd_inp]
    simp

theorem prdCleared_bits : ((prdCleared s p act).z p).regs.bit F.ZI_PRES_PRD_RAW = act ∧
    ((prdCleared s p act).z p).regs.bit F.ZI_STAT_CHAT_PRD = false ∧
    ((prdCleared s p act).z p).regs.bit F.ZI_PRES_PRD_ACC = (s.z p).regs.bit F.ZI_PRES_PRD_ACC := by
  unfold prdCleared
  dsimp only
  split <;> simp (disch := decide) [passPrd_bit, bit_putNat_apart, bit_putNat_bit1]

/-- An accepted level that brings no declaration with it. -/
theorem acceptPrd_quiet (level : Bool) (h : ((s.z p).inp.prdChat.trans1 (s.slUs p) 4).2 = false) :
    acceptPrd s p level = formPresence (prdTurned s p level) p := by
  rw [acceptPrd_eq, h, if_neg Bool.false_ne_true]

theorem prdTurned_bit {x : Fld} {i : Nat} (h : (F.ZI_PRES_PRD_ACC.apart 0 x i && F.ZI_PRES_CNT_ACT_CNT.apart 0 x i) = true) (level : Bool) :
    ((prdTurned s p level).z p).regs.bit x i = (s.z p).regs.bit x i := by
  rw [Bool.and_eq_true] at h
  cases level <;> simp [prdTurned, bit_putNat_apart _ h.1, bit_putNat_apart _ h.2]

theorem clearPrdChatter_shows (hon : (s.z p).inp.prdChat.on = true) (hact : act = (raw != s.gb p F.ZI_PRES_CFG_PRD_POL)) {t : State}
    (ht : t = clearPrdChatter s p raw) : (t.z p).inp.prdChat.on = false ∧ t.gb p F.ZI_STAT_CHAT_PRD = false ∧
      t.gb p F.ZI_PRES_PRD_RAW = act ∧ t.gb p F.ZI_PRES_PRD_ACC = act := by
  obtain ⟨hraw, hflag, hacc⟩ := prdCleared_bits (s := s) (p := p) (act := act)
  rw [ht, clearPrdChatter_eq hon hact]
  split
  next hsame =>
    simp (disch := decide) [State.gb, formPresence_bit, prdCleared_chat, hraw, hflag, hacc, Chat.cleared]
    exact hsame.symm
  next hdiff =>
    have hquiet := trans1_cleared (s.z p).inp.prdChat ((prdCleared s p act).slUs p) 4 (by decide)
    rw [← prdCleared_chat (act := act)] at hquiet
    obtain ⟨hoff, hnone⟩ := hquiet
    refine ⟨?_, ?_, ?_, acceptPrd_acc ..⟩
    · rw [acceptPrd_inp]
      exact hoff
    · rw [acceptPrd_quiet _ hnone, State.gb, formPresence_bit _ _ (by decide), prdTurned_bit (by decide), hflag]
    · rw [acceptPrd_quiet _ hnone, State.gb, formPresence_bit _ _ (by decide), prdTurned_bit (by decide), hraw]

theorem clearPraChatter_shows (hon : (s.z p).inp.praChat.on = true) {t : State} (ht : t = clearPraChatter s p) :
    (t.z p).inp.praChat.on = false ∧ t.gb p F.ZI_STAT_CHAT_PRA = false ∧ t.gb p F.ZI_PRES_PRA_ACT = false := by
  rw [ht, clearPraChatter, if_pos hon]
  simp (disch := decide) [State.gb, formPresence_bit, bit_putNat_apart, bit_putNat_bit1, Chat.cleared]

end ClearPresence

/-! ### Flow inputs, tachometer and encoder (R94, R191, R297, R312) -/

section Pulses
variable (s : State) (p : Phys)

/-- A bit of a field replaced, as the field's new value. -/
def withBit (v i : Nat) (b : Bool) : Nat :=
  let off := if bitOf v i then v - 2 ^ i else v
  if b then off + 2 ^ i else off

theorem wBitOf_eq_w (x : Fld) (i : Nat) (b : Bool) (n : Nat) : s.wBitOf p x i b n = s.w p x (withBit (s.g p x n) i b) n := rfl

variable (n : Fin 2)

theorem fl_onFl (f : FlowIn → FlowIn) : ((s.onFl p n f).ht p).fl[n] = f (s.ht p).fl[n] := by
  simp [State.onFl, State.ht]

theorem showFlowFlag_ht (x : Fld) (b : Bool) : (showFlowFlag s p x n b).ht p = s.ht p := by
  simp [showFlowFlag, State.ht, wBitOf_eq_w]

theorem flagInterval_z (b : Nat) : (flagInterval s p b).z p = { s.z p with
    ival := { (s.z p).ival with flags := (s.z p).ival.flags ||| BitVec.ofNat 16 (2 ^ b) } } := z_onZ ..

/-- The declaration of a flow input leaves its rejections as they are. -/
theorem flowChatter_rejects : ((flowChatter s p n).ht p).fl[n].chat.rejects = (s.ht p).fl[n].chat.rejects := by
  have hflag (t : State) (c : Prop) [Decidable c] (b : Nat) : (if c then flagInterval t p b else t).ht p = t.ht p := by
    split
    · rw [State.ht, flagInterval_z, State.ht]
    · rfl
  have hbump (t : State) (x : Fld) : (t.bump p x).ht p = t.ht p := by simp [State.ht]
  unfold flowChatter
  dsimp only
  rw [State.ht, z_err, ← State.ht, hflag, hbump, showFlowFlag_ht, fl_onFl]

theorem flowReject_rejects : ((flowReject s p n).ht p).fl[n].chat.rejects =
    within1s (s.slUs p) (s.ht p).fl[n].chat.rejects ++ [s.slUs p] := by
  unfold flowReject
  dsimp only
  split
  · rw [flowChatter_rejects, fl_onFl, reject_rejects]
  · rw [fl_onFl, reject_rejects]

theorem clearFlowChatter_clears (h : (s.ht p).fl[n].chat.on = true) : ((clearFlowChatter s p n).ht p).fl[n].chat.on = false := by
  rw [clearFlowChatter, if_pos h, showFlowFlag_ht, fl_onFl]
  rfl

theorem tachReject_rejects : ((tachReject s p).z p).outs.tach.rejects =
    within1s (s.slUs p) (s.z p).outs.tach.rejects ++ [s.slUs p] := by
  unfold tachReject
  dsimp only
  split <;> simp [reject_rejects]

theorem clearTachChatter_clears (h : (s.z p).outs.tach.on = true) : ((clearTachChatter s p).z p).outs.tach.on = false ∧
    (clearTachChatter s p).gb p F.ZO_TACH_CHAT = false := by
  rw [clearTachChatter, if_pos h]
  simp (disch := decide) [State.gb, bit_putNat_bit1, Chat.cleared]

theorem encoderReject_rejects : ((encoderReject s p).pn p).encChat.rejects =
    within1s (s.slUs p) (s.pn p).encChat.rejects ++ [s.slUs p] := by
  unfold encoderReject
  dsimp only
  split <;> simp [State.pn, encoderChatter, reject_rejects]

theorem clearEncoderChatter_clears (h : (s.pn p).encChat.on = true) : ((clearEncoderChatter s p).pn p).encChat.on = false ∧
    (clearEncoderChatter s p).gb p F.ZK_STAT_ENC_CHAT = false := by
  rw [clearEncoderChatter, if_pos h]
  simp (disch := decide) [State.pn, State.gb, bit_putNat_bit1, Chat.cleared]

end Pulses

/-! ### Keys (R305, R308) -/

section Keys
variable (s : State) (p : Phys) (k : Fin 16)

/-- A panel event is queued or counted; the keys stay. -/
theorem panelEvent_panel (type key : Nat) : ∃ l, (panelEvent s p type key).pn p = { s.pn p with evts := l } := by
  unfold panelEvent
  dsimp only
  split
  · exact ⟨_, by rw [State.pn, z_evt, z_onPn]; rfl⟩
  · exact ⟨(s.pn p).evts, by simp [State.pn]⟩

theorem pressKey_panel : (pressKey s p k).pn p = s.pn p := by
  have hreq (r : PanelReq) : (panelReq s p r).pn p = s.pn p := by rw [State.pn, panelReq, z_onZ]; rfl
  unfold pressKey
  split
  · exact hreq _
  · exact hreq _
  · exact hreq _
  · exact hreq _
  · rfl

theorem syncKeys_panel : (syncKeys s p).pn p = s.pn p := by simp [syncKeys, State.pn]

theorem keyChatter_panel : (keyChatter s p k).pn p = s.pn p := by simp [keyChatter, State.pn, wBitOf_eq_w]

/-- The panel with a changed key accepted, before its event and its function (R305). -/
def keyTurned (s : State) (p : Phys) (k : Fin 16) (pressed : Bool) : State :=
  let bit : BitVec 16 := BitVec.ofNat 16 (2 ^ k.val)
  (s.onPn p fun y => { y with acc := if pressed then y.acc ||| bit else y.acc &&& ~~~bit }).onKey p k fun y =>
    { y with cnt := 0, chat := ((s.key p k).chat.trans1 (s.slUs p) 20).1, long := false, stuck := false }

theorem acceptKey_panel (pressed : Bool) : ∃ l, (acceptKey s p k pressed).pn p = { (keyTurned s p k pressed).pn p with evts := l } := by
  have hstuck (t : State) (c : Prop) [Decidable c] : (if c then (t.wBitOf p F.ZK_FLAGS_STUCK k.val false).evt p 0xB EVT.ZK_STUCK
      else t).pn p = t.pn p := by
    split <;> simp [State.pn, wBitOf_eq_w]
  have hpress (t : State) (c : Prop) [Decidable c] : (if c then pressKey t p k else t).pn p = t.pn p := by
    split
    · exact pressKey_panel t p k
    · rfl
  have hchat (t : State) (c : Prop) [Decidable c] : (if c then keyChatter t p k else t).pn p = t.pn p := by
    split
    · exact keyChatter_panel t p k
    · rfl
  unfold acceptKey
  dsimp only
  rw [hchat, hpress]
  obtain ⟨l, hl⟩ := panelEvent_panel (if (s.key p k).stuck then ((keyTurned s p k pressed).wBitOf p F.ZK_FLAGS_STUCK k.val false).evt p 0xB
    EVT.ZK_STUCK else keyTurned s p k pressed) p (if pressed then 0 else 1) k.val
  rw [hstuck] at hl
  exact ⟨l, hl⟩

theorem keyTurned_chat (pressed : Bool) : ((keyTurned s p k pressed).pn p).keys[k].chat =
    ((s.key p k).chat.trans1 (s.slUs p) 20).1 := by
  simp [keyTurned, State.onKey, State.pn]

theorem keyTurned_acc (pressed : Bool) : ((keyTurned s p k pressed).pn p).acc.getLsbD k.val = pressed := by
  have hbit := getLsbD_two_pow_self k.isLt
  have hacc : ((keyTurned s p k pressed).pn p).acc = if pressed then (s.pn p).acc ||| BitVec.ofNat 16 (2 ^ k.val)
      else (s.pn p).acc &&& ~~~BitVec.ofNat 16 (2 ^ k.val) := by simp only [keyTurned, State.onKey, State.pn, z_onPn]
  rw [hacc]
  cases pressed
  · rw [if_neg Bool.false_ne_true, BitVec.getLsbD_and, BitVec.getLsbD_not, hbit, Bool.not_true, Bool.and_false, Bool.and_false]
  · rw [if_pos rfl, BitVec.getLsbD_or, hbit, Bool.or_true]

/-- A key whose declaration has ended, before a differing raw state is accepted (R94, R308). -/
def keyQuieted (s : State) (p : Phys) (k : Fin 16) : State :=
  ((s.onKey p k fun y => { y with chat := y.chat.cleared, cnt := 0 }).wBitOf p F.ZK_FLAGS_CHAT k.val false).evt p 0xB EVT.ZK_CHAT

theorem keyQuieted_panel : (keyQuieted s p k).pn p = { s.pn p with
    keys := (s.pn p).keys.set k.val { s.key p k with chat := (s.key p k).chat.cleared, cnt := 0 } k.isLt } := by
  simp [keyQuieted, State.pn, State.onKey, State.key, wBitOf_eq_w]

/-- The end of a key's declaration: its accepted state becomes its raw state (R94, R308). -/
theorem clearKeyChatter_shows {raw : Bool} (hon : (s.key p k).chat.on = true) {t : State} (ht : t = clearKeyChatter s p k raw) :
    (t.key p k).chat.on = false ∧ (t.pn p).acc.getLsbD k.val = raw := by
  have hchat : ((keyQuieted s p k).key p k).chat = (s.key p k).chat.cleared := by simp [State.key, keyQuieted_panel]
  have heq : clearKeyChatter s p k raw = if raw = (s.pn p).acc.getLsbD k.val then keyQuieted s p k
      else syncKeys (acceptKey (keyQuieted s p k) p k raw) p := if_pos hon
  rw [ht, heq]
  split
  next hsame => exact ⟨by rw [hchat]; rfl, by rw [keyQuieted_panel, hsame]⟩
  next hdiff =>
    obtain ⟨l, hl⟩ := acceptKey_panel (keyQuieted s p k) p k raw
    rw [State.key, syncKeys_panel, hl]
    refine ⟨?_, keyTurned_acc (keyQuieted s p k) p k raw⟩
    rw [keyTurned_chat, hchat]
    exact (trans1_cleared _ _ _ (by decide)).1

end Keys

/-! ### Excitation and diagnosis windows (R96, R97, R111) -/

section Diagnosis
variable (s : State) (p : Phys)

theorem rfGet_putNat_ne (f : RegFile) {x : Fld} {i a : Nat} (h : x.at i ≠ a) (v : Nat) : rfGet (f.putNat x v i) a = rfGet f a :=
  rfGet_put_ne _ _ _ _ h

theorem tIn_onT (n m : Fin 4) (f : TempIn → TempIn) : (s.onT p n f).tIn p m = if n = m then f (s.tIn p n) else s.tIn p m := by
  by_cases h : n = m
  · subst h
    simp [State.tIn]
  · simp [State.tIn, h, show ¬ n.val = m.val from fun e => h (Fin.ext e)]

theorem tIn_of_inp {s t : State} (h : (t.z p).inp = (s.z p).inp) (n : Fin 4) : t.tIn p n = s.tIn p n := by
  rw [State.tIn, h, State.tIn]

/-- The current that IEXC_ACT shows (R112). -/
def shownExc (s : State) (p : Phys) (n : Fin 4) : Nat :=
  if (s.tIn p n).off then 0 else excitation (s.g p F.ZI_TCFG_n_TYPE n) (s.g p F.ZI_TCFG_n_IEXC n) (s.tIn p n).range

variable (n : Fin 4)

theorem showExc_z : (showExc s p n).z p = { s.z p with regs := (s.z p).regs.putNat F.ZI_T_n_IEXC_ACT (shownExc s p n) n } :=
  z_w s p F.ZI_T_n_IEXC_ACT (shownExc s p n) n

theorem showExc_coll : (showExc s p n).coll = s.coll := rfl

/-- The state of a window's start before the current is shown. -/
def windowSet (s : State) (p : Phys) (n : Fin 4) (off : Bool) : State :=
  let s1 := s.onT p n fun i => { i with off := off, spoiled := false }
  if off && s.gb p F.ZI_T_n_VALID n then s1.wb p F.ZI_T_n_HELD true n else s1

theorem startWindow_eq (off : Bool) : startWindow s p n off = showExc (windowSet s p n off) p n := rfl

theorem startWindow_coll (off : Bool) : (startWindow s p n off).coll = s.coll := by
  rw [startWindow_eq, showExc_coll, windowSet, coll_ite, coll_wb, ite_self]
  rfl

theorem startWindow_tIn (off : Bool) (m : Fin 4) : (startWindow s p n off).tIn p m =
    if n = m then { s.tIn p n with off := off, spoiled := false } else s.tIn p m := by
  have hset : (windowSet s p n off).tIn p m = (s.onT p n fun i => { i with off := off, spoiled := false }).tIn p m := by
    unfold windowSet
    dsimp only
    split <;> simp [State.tIn]
  have hexc : (startWindow s p n off).tIn p m = (windowSet s p n off).tIn p m := by
    rw [startWindow_eq, State.tIn, showExc_z, State.tIn]
  rw [hexc, hset, tIn_onT]

/-- A window's start writes ZI_T_n alone. -/
theorem startWindow_regs (off : Bool) {a : Nat} (h : R.ZI_T_n.at n ≠ a) :
    rfGet ((startWindow s p n off).z p).regs a = rfGet (s.z p).regs a := by
  have hexc : F.ZI_T_n_IEXC_ACT.at n ≠ a := h
  have hheld : F.ZI_T_n_HELD.at n ≠ a := h
  have hset : rfGet ((windowSet s p n off).z p).regs a = rfGet (s.z p).regs a := by
    unfold windowSet
    dsimp only
    split
    · simp only [z_wb, z_onT, rfGet_putNat_ne _ hheld]
    · rw [z_onT]
  simp only [startWindow_eq, showExc_z, rfGet_putNat_ne _ hexc, hset]

theorem syncT_inp : ((s.syncT p n).z p).inp = (s.z p).inp := by simp [State.syncT, wBitOf_eq_w]

theorem syncT_regs {a : Nat} (h : R.ZI_STAT.at 0 ≠ a) : rfGet ((s.syncT p n).z p).regs a = rfGet (s.z p).regs a := by
  have hvalid : F.ZI_STAT_TVALID.at 0 ≠ a := h
  have hsettle : F.ZI_STAT_TSETTLE.at 0 ≠ a := h
  have hnoisy : F.ZI_STAT_TNOISY.at 0 ≠ a := h
  simp only [State.syncT, wBitOf_eq_w, z_w]
  rw [rfGet_putNat_ne _ hnoisy, rfGet_putNat_ne _ hsettle, rfGet_putNat_ne _ hvalid]

theorem z_errIf (c : Bool) (u x e : Nat) : (if c then s.err p u x e else s).z p = s.z p := by
  split
  · exact z_err ..
  · rfl

theorem noise_ne_T (n : Fin 4) : R.ZI_T_n.at n ≠ R.ZI_TNOISE_n.at n := by revert n; decide
theorem stat_ne_noise (n : Fin 4) : R.ZI_STAT.at 0 ≠ R.ZI_TNOISE_n.at n := by revert n; decide

variable (noise r k : Rat)

theorem diagWindow_off (h : s.diagnosed p n = false) : diagWindow s p n noise r k = s := by
  rw [diagWindow, h]
  rfl

variable {s p n noise r k}

theorem diagWindow_discarded (hd : s.diagnosed p n = true) (h : (s.tIn p n).spoiled = true ∨ (s.tIn p n).broken = true) : ∃ off,
    diagWindow s p n noise r k = startWindow (s.onT p n fun i => { i with windows := (s.tIn p n).windows + 1 }) p n off := by
  refine ⟨offDue s p n ((s.tIn p n).windows + 1), ?_⟩
  rw [diagWindow, hd]
  exact if_pos ((Bool.or_eq_true ..).mpr h)

/-- A window that is judged: the state before the next window starts. -/
theorem diagWindow_judged (hd : s.diagnosed p n = true) (hs : (s.tIn p n).spoiled = false) (hb : (s.tIn p n).broken = false) :
    ∃ u off, diagWindow s p n noise r k = startWindow u p n off ∧ (u.tIn p n).windows = (s.tIn p n).windows + 1 ∧
      (u.z p).regs.word R.ZI_TNOISE_n n = BitVec.ofNat 32 (noiseRatio noise r k * 2 ^ 16 + (s.tIn p n).rhoOff) := by
  simp only [diagWindow, hd, hs, hb, Bool.not_true, Bool.false_eq_true, if_false, Bool.or_false]
  refine ⟨_, _, rfl, ?_, ?_⟩
  · rw [State.tIn, z_evtIf, z_errIf, z_errIf, syncT_inp]
    simp [State.tIn]
  · rw [z_evtIf, z_errIf, z_errIf, RegFile.word, syncT_regs _ _ _ (stat_ne_noise n), z_wb]
    refine (rfGet_putNat_ne (x := F.ZI_T_n_NOISY) _ (noise_ne_T n) _).trans ?_
    rw [z_wWord]
    exact rfGet_put ..

/-- A window that ends counts, and the next one starts sound; a discarded one stores nothing (R96). -/
theorem diagWindow_spec (hd : s.diagnosed p n = true) {t : State} (ht : t = diagWindow s p n noise r k) :
    (t.tIn p n).windows = (s.tIn p n).windows + 1 ∧ (t.tIn p n).spoiled = false ∧
    ((s.tIn p n).spoiled = true ∨ (s.tIn p n).broken = true →
      (t.z p).regs.word R.ZI_TNOISE_n n = (s.z p).regs.word R.ZI_TNOISE_n n ∧ t.coll = s.coll) ∧
    ((s.tIn p n).spoiled = false → (s.tIn p n).broken = false →
      (t.z p).regs.word R.ZI_TNOISE_n n = BitVec.ofNat 32 (noiseRatio noise r k * 2 ^ 16 + (s.tIn p n).rhoOff)) := by
  by_cases h : (s.tIn p n).spoiled = true ∨ (s.tIn p n).broken = true
  · obtain ⟨off, hw⟩ := diagWindow_discarded (noise := noise) (r := r) (k := k) hd h
    rw [ht, hw, startWindow_tIn, if_pos rfl, tIn_onT, if_pos rfl]
    refine ⟨rfl, rfl, fun _ => ⟨?_, startWindow_coll ..⟩, fun hs hb => ?_⟩
    · rw [RegFile.word, startWindow_regs _ _ _ _ (noise_ne_T n), z_onT, RegFile.word]
    · simp [hs, hb] at h
  · simp only [not_or, Bool.not_eq_true] at h
    obtain ⟨hs, hb⟩ := h
    obtain ⟨u, off, hw, hcount, hstored⟩ := diagWindow_judged (noise := noise) (r := r) (k := k) hd hs hb
    rw [ht, hw, startWindow_tIn, if_pos rfl]
    refine ⟨hcount, rfl, fun h => by simp [hs, hb] at h, fun _ _ => ?_⟩
    rw [RegFile.word, startWindow_regs _ _ _ _ (noise_ne_T n)]
    exact hstored

/-! The end of an off segment. -/

/-- An off segment that has ended, before the current is shown. -/
def offEnded (s : State) (p : Phys) (n : Fin 4) : State :=
  (s.onT p n fun i => { i with off := false }).wb p F.ZI_T_n_HELD (s.gb p F.ZI_T_n_VALID n && decide (0 < (s.tIn p n).badRun)) n

theorem offEnded_tIn : (offEnded s p n).tIn p n = { s.tIn p n with off := false } := by
  have hinp : ((offEnded s p n).z p).inp = ((s.onT p n fun i => { i with off := false }).z p).inp := by
    rw [offEnded, z_wb]
  rw [tIn_of_inp p hinp, tIn_onT, if_pos rfl]

theorem endOff_eq : endOff s p n = showExc (offEnded s p n) p n := rfl

theorem endOff_tIn : (endOff s p n).tIn p n = { s.tIn p n with off := false } := by
  have hinp : ((endOff s p n).z p).inp = ((offEnded s p n).z p).inp := by rw [endOff_eq, showExc_z]
  rw [tIn_of_inp p hinp, offEnded_tIn]

theorem noise_ne_type (n : Fin 4) : R.ZI_TNOISE_n.at n ≠ F.ZI_TCFG_n_TYPE.at n := by revert n; decide
theorem noise_ne_iexc (n : Fin 4) : R.ZI_TNOISE_n.at n ≠ F.ZI_TCFG_n_IEXC.at n := by revert n; decide
theorem type_apart_held (n : Fin 4) : F.ZI_T_n_HELD.apart n F.ZI_TCFG_n_TYPE n = true := by revert n; decide
theorem iexc_apart_held (n : Fin 4) : F.ZI_T_n_HELD.apart n F.ZI_TCFG_n_IEXC n = true := by revert n; decide

theorem endOff_current : (endOff s p n).g p F.ZI_T_n_IEXC_ACT n = F.ZI_T_n_IEXC_ACT.fit
    (excitation (s.g p F.ZI_TCFG_n_TYPE n) (s.g p F.ZI_TCFG_n_IEXC n) (s.tIn p n).range) := by
  rw [State.g, endOff_eq, showExc_z, nat_putNat_fit _ (by decide), shownExc, offEnded_tIn, if_neg Bool.false_ne_true]
  simp only [offEnded, State.g, z_wb, z_onT, nat_putNat_apart _ (type_apart_held n), nat_putNat_apart _ (iexc_apart_held n)]

variable (s p n noise r k)

theorem diagOff_none (h : (s.tIn p n).off = false) : diagOff s p n noise r k = s := by
  rw [diagOff, h]
  rfl

variable {s p n}

/-- The off ratio of a sound window stored beside the on ratio (R96). -/
def offStored (s : State) (p : Phys) (n : Fin 4) (rho : Nat) : State :=
  (s.onT p n fun i => { i with rhoOff := rho }).wWord p R.ZI_TNOISE_n
    (BitVec.ofNat 32 (fieldOf ((s.z p).regs.word R.ZI_TNOISE_n n) 31 16 * 2 ^ 16 + rho)) n

/-- The end of an off segment: in a sound window its ratio is stored first (R96). -/
theorem diagOff_ends (h : (s.tIn p n).off = true) : ∃ u, diagOff s p n noise r k = endOff u p n ∧
    u.tIn p n = { s.tIn p n with rhoOff := if (s.tIn p n).spoiled || (s.tIn p n).broken then (s.tIn p n).rhoOff else noiseRatio noise r k } ∧
    u.g p F.ZI_TCFG_n_TYPE n = s.g p F.ZI_TCFG_n_TYPE n ∧ u.g p F.ZI_TCFG_n_IEXC n = s.g p F.ZI_TCFG_n_IEXC n := by
  cases hbad : (s.tIn p n).spoiled || (s.tIn p n).broken
  · refine ⟨offStored s p n (noiseRatio noise r k), ?_, ?_, ?_, ?_⟩
    · simp only [diagOff, h, hbad, Bool.not_true, Bool.false_eq_true, if_false]
      rfl
    · rw [tIn_of_inp p (s := s.onT p n fun i => { i with rhoOff := noiseRatio noise r k }) (by rw [offStored, z_wWord]), tIn_onT,
        if_pos rfl]
      rfl
    · simp only [offStored, State.g, z_wWord, z_onT, nat_putWord_ne _ (noise_ne_type n)]
    · simp only [offStored, State.g, z_wWord, z_onT, nat_putWord_ne _ (noise_ne_iexc n)]
  · refine ⟨s, ?_, rfl, rfl, rfl⟩
    rw [diagOff, h]
    exact if_pos hbad

end Diagnosis

/-- Settles O43, input by input. -/
theorem chatterAndDiagnosis : Obligations.ChatterAndDiagnosis := by
  intro s p hrun
  refine ⟨fun raw hon => ?prd, fun raw hon => ?pra, fun n raw hon => ?flow, fun raw hon => ?tach, fun k raw hon => ?key,
    fun raw hon => ?encoder, fun n => ?flowPulse, ?tachPulse, ?encoderPulse, fun n noise r k =>
    ⟨fun hd => ?noWindow, fun hd => ?window, fun hoff => ?noSegment, fun hoff => ?segment⟩⟩
  case prd =>
    exact ⟨_, onRunning_runs hrun (clearPrdChatter · p raw), clearPrdChatter_cr_ne _ _ _, clearPrdChatter_shows hon rfl rfl⟩
  case pra => exact ⟨_, onRunning_runs hrun (clearPraChatter · p), clearPraChatter_cr_ne _ _, clearPraChatter_shows hon rfl⟩
  case flow => exact ⟨_, onRunning_runs hrun (clearFlowChatter · p n), clearFlowChatter_cr_ne _ _ _, clearFlowChatter_clears s p n hon⟩
  case tach => exact ⟨_, onRunning_runs hrun (clearTachChatter · p), clearTachChatter_cr_ne _ _, clearTachChatter_clears s p hon⟩
  case key => exact ⟨_, onRunning_runs hrun (clearKeyChatter · p k raw), clearKeyChatter_cr_ne _ _ _ _, clearKeyChatter_shows s p k hon rfl⟩
  case encoder =>
    exact ⟨_, onRunning_runs hrun (clearEncoderChatter · p), clearEncoderChatter_cr_ne _ _, clearEncoderChatter_clears s p hon⟩
  case flowPulse => exact ⟨_, onRunning_runs hrun (flowReject · p n), flowReject_cr_ne _ _ _, flowReject_rejects s p n⟩
  case tachPulse => exact ⟨_, onRunning_runs hrun (tachReject · p), tachReject_cr_ne _ _, tachReject_rejects s p⟩
  case encoderPulse => exact ⟨_, onRunning_runs hrun (encoderReject · p), encoderReject_cr_ne _ _, encoderReject_rejects s p⟩
  case noWindow => exact onRunning_keeps (f := (diagWindow · p n noise r k)) (diagWindow_off s p n noise r k hd) p
  case window =>
    exact ⟨_, onRunning_runs hrun (diagWindow · p n noise r k), diagWindow_cr_ne _ _ _ _ _ _, diagWindow_spec hd rfl⟩
  case noSegment => exact onRunning_keeps (f := (diagOff · p n noise r k)) (diagOff_none s p n noise r k hoff) p
  case segment =>
    obtain ⟨u, hends, hu, htype, hiexc⟩ := diagOff_ends (noise := noise) (r := r) (k := k) hoff
    refine ⟨_, onRunning_runs hrun (diagOff · p n noise r k), diagOff_cr_ne _ _ _ _ _ _, ?_⟩
    rw [hends, endOff_tIn, endOff_current, hu, htype, hiexc]
    exact ⟨rfl, rfl, rfl⟩

end Sys2Proof.Machine

namespace Sys2Proof.Machine
open Host

/-! ### Writes of action registers (R51, R53)

A register whose fields are all write-only keeps its word; what the write starts finds the slice as it was. -/

/-- Slice `p` with a word written to the register at `a`. -/
def stored (s : State) (p : Phys) (a : Nat) (v : Word) : State := s.onR p fun f => storeReg f a v

/-- A register of a slice outside the header that the maps name. -/
abbrev ViewReg (a : Nat) : Prop := (0x100000 ≤ a ∧ a < 0x10E000 ∧ 0x40 ≤ a % 4096) ∧ (regAt a).isSome = true

/-- A write through a view that completes OK: the word stored, what it starts, the page's time stamp. -/
theorem hostWrite_view {s d : State} {v : View} {a : Nat} {p : Phys} (hr : s.porchRuns = true) (hd : d = endDoze s)
    (hp : p = d.viewSlice v) (ha : ViewReg a) (hst : writeStatus d (viewAddr v a) = .ok) (w : Word) : hostWrite s (viewAddr v a) w =
      ((sliceAction d (stored d p a w) p a w).touch (slicePage p (a / 4096 - 0x100))).emit (.access .ok 0) := by
  obtain ⟨⟨hlo, hhi, hoff⟩, hreg⟩ := ha
  have hkey : keyOf (.slice (d.viewSlice v) (a / 4096 - 0x100) (viewZone v)) (a % 4096) = a := by
    simp only [keyOf]
    omega
  rw [hostWrite_ok hr hd hst (place_viewAddr d v hlo hhi), viewAddr_off, writeOk_register hoff (by rw [hkey]; exact hreg),
    registerStore, hkey, hp]
  rfl

/-- Whether the register at an address only starts actions. -/
def actionReg (a : Nat) : Bool :=
  match regAt a with
  | some e => decide (rwMaskAt e a = 0) && decide (e.w1c = 0)
  | none => false

theorem rfGet_storeReg_action {a : Nat} (h : actionReg a = true) (f : RegFile) (v : Word) (b : Nat) :
    rfGet (storeReg f a v) b = rfGet f b := by
  by_cases hb : b = a
  · subst hb
    unfold actionReg at h
    split at h
    next e he =>
      simp only [Bool.and_eq_true, decide_eq_true_eq] at h
      obtain ⟨hrw, hw1c⟩ := h
      rw [rfGet_storeReg he, storeWord, hrw, hw1c]
      simp only [BitVec.zero_and, BitVec.and_zero, BitVec.or_zero, BitVec.not_zero, BitVec.and_allOnes]
    next => cases h
  · exact rfGet_storeReg_ne hb f v

section Stored
variable (s : State) (p : Phys) {a : Nat} (v : Word)

theorem stored_z : (stored s p a v).z p = { s.z p with regs := storeReg (s.z p).regs a v } := z_onZ ..

theorem stored_mt : (stored s p a v).mt p = s.mt p := by rw [State.mt, stored_z, State.mt]
theorem stored_seq (q : Fin 4) : (stored s p a v).seq p q = s.seq p q := by rw [State.seq, State.cv, stored_z, State.seq, State.cv]
theorem stored_tIn (n : Fin 4) : (stored s p a v).tIn p n = s.tIn p n := by rw [State.tIn, stored_z, State.tIn]

variable (h : actionReg a = true)
include h

theorem stored_nat (x : Fld) (i : Nat) : (stored s p a v).g p x i = s.g p x i := by
  rw [State.g, stored_z, RegFile.nat, rfGet_storeReg_action h, State.g, RegFile.nat]

theorem stored_bit (x : Fld) (i : Nat) : (stored s p a v).gb p x i = s.gb p x i := congrArg (· == 1) (stored_nat s p v h x i)

theorem stored_word (r : Reg) (i : Nat) : ((stored s p a v).z p).regs.word r i = (s.z p).regs.word r i := by
  rw [RegFile.word, stored_z, rfGet_storeReg_action h, RegFile.word]

theorem stored_diagnosed (n : Fin 4) : (stored s p a v).diagnosed p n = s.diagnosed p n := by
  simp only [State.diagnosed, stored_nat s p v h, stored_bit s p v h]

theorem stored_isLimit (n : Fin 4) : (stored s p a v).isLimit p n = s.isLimit p n := by
  simp only [State.isLimit, stored_nat s p v h]

theorem stored_takesTrigger (q : Fin 4) : takesTrigger (stored s p a v) p q .host = takesTrigger s p q .host := by
  simp only [takesTrigger, stored_nat s p v h, stored_bit s p v h]

theorem stored_badRange (q : Fin 4) : badRange (stored s p a v) p q = badRange s p q := by
  simp only [badRange, stored_nat s p v h]

end Stored

/-- A write of an action register that completes OK: the outcome of what it starts, as the host finds it. -/
theorem hostWrite_acts {s d u : State} {v : View} {a : Nat} {p : Phys} {w : Word} (hr : s.porchRuns = true) (hd : d = endDoze s)
    (hp : p = d.viewSlice v) (ha : ViewReg a) (hst : writeStatus d (viewAddr v a) = .ok)
    (hu : sliceAction d (stored d p a w) p a w = u) (hkept : ∀ q ≠ p, u.cr q = (stored d p a w).cr q) :
    ∃ t, hostWrite s (viewAddr v a) w = t ∧ t.lastOut = some (.access .ok 0) ∧ othersKept d t p ∧ t.z p = u.z p ∧
      ∀ g b, t.isrBit g b = u.isrBit g b := by
  refine ⟨_, hostWrite_view hr hd hp ha hst w, lastOut_emit .., fun q hq => ?_, ?_, fun g b => ?_⟩
  · have hcr : u.cr q = d.cr q := (hkept q hq).trans (State.onR_cr_ne _ _ _ _ hq)
    rw [hu]
    exact hcr
  · rw [hu, z_emit, z_touch]
  · rw [hu, isrBit_emit, isrBit_touch]

section Actions
variable (s0 s : State) (p : Phys) (w : Word)

theorem sliceAction_diagNow : sliceAction s0 s p (R.ZI_CTRL.at 0) 0x10 = diagNowEffect s p := rfl
theorem sliceAction_trigger : sliceAction s0 s p (R.ZC_CTRL.at 0) 0x8 = seqTrigger s p 3 .host := rfl
theorem sliceAction_seq3 : sliceAction s0 s p (R.ZC_SEQ_q.at 3) w = seq3Written s0 s p := rfl
theorem sliceAction_capture : sliceAction s0 s p (R.ZE_CAP_CTRL.at 0) w = capControl s p w := rfl

end Actions

/-! ### DIAG_NOW (R111) -/

section DiagNow
variable (s : State) (p : Phys)

/-- DIAG_NOW on one input. -/
def diagStep (s : State) (p : Phys) (n : Fin 4) : State := if s.diagnosed p n then startWindow s p n (!s.isLimit p n) else s

theorem diagNowEffect_eq : diagNowEffect s p = (List.finRange 4).foldl (fun s n => diagStep s p n) s := rfl

theorem diag_ne_T (n : Fin 4) : R.ZI_T_n.at n ≠ R.ZI_DIAG_CFG.at 0 := by revert n; decide
theorem tcfg_ne_T (n m : Fin 4) : R.ZI_T_n.at n ≠ R.ZI_TCFG_n.at m := by revert n m; decide

/-- A window's start changes neither which inputs are diagnosed nor which are limits. -/
theorem startWindow_config (n m : Fin 4) (off : Bool) : (startWindow s p n off).diagnosed p m = s.diagnosed p m ∧
    (startWindow s p n off).isLimit p m = s.isLimit p m := by
  have hdiag : rfGet ((startWindow s p n off).z p).regs (F.ZI_DIAG_CFG_EN.at 0) = rfGet (s.z p).regs (F.ZI_DIAG_CFG_EN.at 0) :=
    startWindow_regs _ _ _ _ (diag_ne_T n)
  have htype : rfGet ((startWindow s p n off).z p).regs (F.ZI_TCFG_n_TYPE.at m) = rfGet (s.z p).regs (F.ZI_TCFG_n_TYPE.at m) :=
    startWindow_regs _ _ _ _ (tcfg_ne_T n m)
  have hrole : rfGet ((startWindow s p n off).z p).regs (F.ZI_TCFG_n_ROLE.at m) = rfGet (s.z p).regs (F.ZI_TCFG_n_ROLE.at m) :=
    startWindow_regs _ _ _ _ (tcfg_ne_T n m)
  simp only [State.diagnosed, State.isLimit, State.gb, State.g, RegFile.bit, RegFile.nat, hdiag, htype, hrole, and_self]

theorem diagStep_config (n m : Fin 4) : (diagStep s p n).diagnosed p m = s.diagnosed p m ∧
    (diagStep s p n).isLimit p m = s.isLimit p m := by
  unfold diagStep
  split
  · exact startWindow_config ..
  · exact ⟨rfl, rfl⟩

theorem diagStep_tIn (n m : Fin 4) : (diagStep s p n).tIn p m =
    if n = m ∧ s.diagnosed p m = true then { s.tIn p m with off := !s.isLimit p m, spoiled := false } else s.tIn p m := by
  unfold diagStep
  cases hd : s.diagnosed p n
  · rw [if_neg Bool.false_ne_true, if_neg]
    rintro ⟨rfl, htrue⟩
    rw [hd] at htrue
    cases htrue
  · rw [if_pos rfl, startWindow_tIn]
    by_cases hnm : n = m
    · subst hnm
      rw [if_pos rfl, if_pos ⟨rfl, hd⟩]
    · rw [if_neg hnm, if_neg fun h => hnm h.1]

/-- The windows that a list of inputs starts. -/
theorem foldl_diagStep_tIn (l : List (Fin 4)) (m : Fin 4) (hd : s.diagnosed p m = true) :
    (l.foldl (fun s n => diagStep s p n) s).tIn p m =
      if m ∈ l then { s.tIn p m with off := !s.isLimit p m, spoiled := false } else s.tIn p m := by
  induction l generalizing s with
  | nil => rfl
  | cons n l ih =>
    obtain ⟨hdiag, hlimit⟩ := diagStep_config s p n m
    rw [List.foldl_cons, ih _ (hdiag.trans hd), hlimit, diagStep_tIn]
    by_cases hm : m ∈ l
    · by_cases hn : n = m <;> simp [hm, hn, hd]
    · by_cases hn : n = m
      · simp [hn, hd]
      · simp [hm, hn, Ne.symm hn]

theorem diagNowEffect_tIn {m : Fin 4} (hd : s.diagnosed p m = true) :
    (diagNowEffect s p).tIn p m = { s.tIn p m with off := !s.isLimit p m, spoiled := false } := by
  rw [diagNowEffect_eq, foldl_diagStep_tIn s p _ m hd, if_pos (List.mem_finRange m)]

end DiagNow

/-! ### Arbitration leaves ACTIVE and PENDING (R127) -/

/-- Two engines with the same ACTIVE and PENDING flags. -/
structure SameFlags (c d : Conv) : Prop where
  flags : ∀ q : Fin 4, d.seqs[q].act = c.seqs[q].act ∧ d.seqs[q].pend = c.seqs[q].pend

section Flags
variable {c d e : Conv}

theorem SameFlags.refl (c : Conv) : SameFlags c c := ⟨fun _ => ⟨rfl, rfl⟩⟩

theorem SameFlags.trans (h : SameFlags c d) (k : SameFlags d e) : SameFlags c e := ⟨fun q => by
  obtain ⟨hact, hpend⟩ := h.flags q
  obtain ⟨kact, kpend⟩ := k.flags q
  exact ⟨kact.trans hact, kpend.trans hpend⟩⟩

theorem SameFlags.of_seqs (h : d.seqs = c.seqs) : SameFlags c d := ⟨fun _ => by rw [h]; exact ⟨rfl, rfl⟩⟩

theorem sameFlags_markBegun (c : Conv) (q : Fin 4) (k : Nat) : SameFlags c (markBegun c q k) := ⟨fun r => by
  by_cases h : q = r
  · subst h
    simp [markBegun]
  · simp [markBegun, show ¬ q.val = r.val from fun e => h (Fin.ext e)]⟩

theorem grantEntry_seqs (env : ArbEnv) (q : Fin 4) (c : Conv) (x : EntRun) (a b : Bool) :
    (grantEntry env q c x a b).2.1.seqs = c.seqs := by
  unfold grantEntry
  dsimp only
  split_ifs <;> rfl

theorem grantUrgent_seqs (env : ArbEnv) (c : Conv) (u : Urgent) (t0 : Nat) : (grantUrgent env c u t0).seqs = c.seqs := by
  unfold grantUrgent
  dsimp only
  split <;> rfl

theorem urgentFirst_seqs (env : ArbEnv) (c : Conv) : (urgentFirst env c).seqs = c.seqs := by
  unfold urgentFirst
  split
  · split_ifs
    · rfl
    · exact grantUrgent_seqs ..
    · rfl
    · exact grantUrgent_seqs ..
    · rfl
  · rfl

theorem sameFlags_grantSeq (env : ArbEnv) (q : Fin 4) (l : List EntRun) (c : Conv) (a b : Bool) :
    SameFlags c (grantSeq env q l c a b).1 := by
  induction l generalizing c a b with
  | nil => exact .refl c
  | cons x l ih =>
    have hgrant : SameFlags c (grantEntry env q c x a b).2.1 := .of_seqs (grantEntry_seqs ..)
    unfold grantSeq
    dsimp only
    split
    · exact ih ..
    · split
      · exact hgrant.trans ((sameFlags_markBegun ..).trans (ih ..))
      · split
        · exact hgrant.trans (ih ..)
        · exact hgrant

/-- What arbitration does for one sequence, with the converters still free. -/
def arbitrateSeq (env : ArbEnv) (x : Conv × Bool × Bool) (q : Fin 4) : Conv × Bool × Bool :=
  let sq := x.1.seqs[q]
  if sq.act && !sq.ending && (q != 3 || env.sq3) then grantSeq env q sq.live x.1 x.2.1 x.2.2 else x

theorem arbitrate_eq (env : ArbEnv) (c : Conv) : arbitrate env c = ((List.finRange 4).foldl (arbitrateSeq env)
    (urgentFirst env c, (urgentFirst env c).a.isFree && !(urgentFirst env c).urgHold,
      (urgentFirst env c).b.isFree && !(urgentFirst env c).urgHold)).1 := rfl

theorem sameFlags_foldl (env : ArbEnv) (l : List (Fin 4)) (x : Conv × Bool × Bool) :
    SameFlags x.1 (l.foldl (arbitrateSeq env) x).1 := by
  induction l generalizing x with
  | nil => exact .refl _
  | cons q l ih =>
    refine SameFlags.trans ?_ (ih _)
    unfold arbitrateSeq
    dsimp only
    split
    · exact sameFlags_grantSeq ..
    · exact .refl _

theorem sameFlags_arbitrate (env : ArbEnv) (c : Conv) : SameFlags c (arbitrate env c) := by
  rw [arbitrate_eq]
  exact (SameFlags.of_seqs (urgentFirst_seqs env c)).trans
    (sameFlags_foldl env (List.finRange 4) (urgentFirst env c, _, _))

end Flags

/-! ### The trigger and the end of SQ3 (R122 to R124) -/

section Seq3
variable (s : State) (p : Phys)

@[simp] theorem z_onCv (f : Conv → Conv) : (s.onCv p f).z p = { s.z p with conv := f (s.z p).conv } := z_onZ ..

theorem seq_onSeq (q : Fin 4) (f : SeqSt → SeqSt) : (s.onSeq p q f).seq p q = f (s.seq p q) := by
  simp [State.onSeq, State.seq, State.cv]

theorem z_onSeq_regs (q : Fin 4) (f : SeqSt → SeqSt) : ((s.onSeq p q f).z p).regs = (s.z p).regs := by
  rw [State.onSeq, z_onCv]

theorem onR_conv (f : RegFile → RegFile) : ((s.onR p f).z p).conv = (s.z p).conv := by rw [State.onR, z_onZ]

theorem syncConv_conv : ((syncConv s p).z p).conv = (s.z p).conv := by
  unfold syncConv
  exact (foldl_part (fun t => (t.z p).conv) _ (fun _ _ => onR_conv ..) _ _).trans (onR_conv ..)

theorem settle_flags (q : Fin 4) : ((settle s p).seq p q).act = (s.seq p q).act ∧ ((settle s p).seq p q).pend = (s.seq p q).pend := by
  have hconv : ((settle s p).z p).conv = arbitrate (arbEnv s p) (s.z p).conv := by rw [settle, syncConv_conv, z_onCv]
  rw [State.seq, State.cv, hconv]
  exact (sameFlags_arbitrate (arbEnv s p) (s.z p).conv).flags q

theorem syncConv_en : ((syncConv s p).z p).regs.bit F.ZC_SEQ_q_EN 3 = (s.z p).regs.bit F.ZC_SEQ_q_EN 3 := by
  unfold syncConv
  refine (foldl_part (fun t => (t.z p).regs.bit F.ZC_SEQ_q_EN 3) _ (fun t q => ?_) _ _).trans ?_
  · rw [z_onR]
    fin_cases q <;> simp (disch := decide) [RegFile.putBit, bit_putNat_apart]
  · rw [z_onR]
    simp (disch := decide) [bit_putNat_apart]

theorem settle_en : ((settle s p).z p).regs.bit F.ZC_SEQ_q_EN 3 = (s.z p).regs.bit F.ZC_SEQ_q_EN 3 := by
  rw [settle, syncConv_en, z_onCv]

theorem dropTrigger_conv (q : Fin 4) : ((dropTrigger s p q).z p).conv = (s.z p).conv := by simp [dropTrigger]

variable {s p}

theorem acceptTrigger_eq {q : Fin 4} (h : badRange s p q = false) (e : Option Nat) : acceptTrigger s p q e =
    if (s.seq p q).act then
      if (s.seq p q).pend then dropTrigger s p q else s.onSeq p q (fun x => { x with pend := true })
    else startPass s p q e := by
  rw [acceptTrigger, h]
  rfl

theorem startPass_act (q : Fin 4) (e : Option Nat) : ((startPass s p q e).seq p q).act = true := by
  rw [startPass]
  exact congrArg SeqSt.act (seq_onSeq ..)

/-- An accepted trigger starts an idle sequence, and is latched by an active one that has none latched (R123). -/
theorem acceptTrigger_flags {q : Fin 4} (h : badRange s p q = false) (e : Option Nat) : ((acceptTrigger s p q e).seq p q).act = true ∧
    ((s.seq p q).act = true → (s.seq p q).pend = false → ((acceptTrigger s p q e).seq p q).pend = true) := by
  have hdrop : (dropTrigger s p q).seq p q = s.seq p q := by rw [State.seq, State.cv, dropTrigger_conv, State.seq, State.cv]
  rw [acceptTrigger_eq h]
  cases hact : (s.seq p q).act
  · exact ⟨startPass_act q e, nofun⟩
  · cases hpend : (s.seq p q).pend
    · simp [seq_onSeq, hact]
    · simp [hdrop, hact]

theorem hostTrigger_flags (ht : takesTrigger s p 3 .host = true) (hb : badRange s p 3 = false) {t : State}
    (h : t = seqTrigger s p 3 .host) : (t.seq p 3).act = true ∧
      ((s.seq p 3).act = true → (s.seq p 3).pend = false → (t.seq p 3).pend = true) := by
  have heq : seqTrigger s p 3 .host = settle (acceptTrigger s p 3 none) p := if_pos ht
  obtain ⟨hact, hpend⟩ := acceptTrigger_flags hb none
  obtain ⟨sact, spend⟩ := settle_flags (acceptTrigger s p 3 none) p 3
  rw [h, heq, sact, spend]
  exact ⟨hact, hpend⟩


theorem finishEnding_idle {q : Fin 4} (h : (s.seq p q).pend = false) : ((finishEnding s p q).seq p q).pend = false ∧
    ((finishEnding s p q).z p).regs = (s.z p).regs := by
  unfold finishEnding
  dsimp only
  split
  · rw [h, if_neg Bool.false_ne_true, seq_onSeq, z_onSeq_regs]
    exact ⟨rfl, rfl⟩
  · exact ⟨h, rfl⟩

/-- The end of a sequence drops its latched trigger and leaves EN as it is written (R124). -/
theorem seqDisabled_shows {t : State} (h : t = seqDisabled s p 3) :
    t.gb p F.ZC_SEQ_q_EN 3 = s.gb p F.ZC_SEQ_q_EN 3 ∧ (t.seq p 3).pend = false := by
  have hpend (x : SeqSt) : (if x.act then { x with pend := false, ending := true } else { x with pend := false }).pend = false := by
    split <;> rfl
  have hidle : ((s.onSeq p 3 fun x => if x.act then { x with pend := false, ending := true } else { x with pend := false }).seq p
      3).pend = false := by rw [seq_onSeq, hpend]
  obtain ⟨hfinished, hregs⟩ := finishEnding_idle hidle
  rw [h, seqDisabled, State.gb, settle_en, hregs, z_onSeq_regs, (settle_flags ..).2, State.gb]
  exact ⟨rfl, hfinished⟩

theorem seq3Written_disabled {was : State} (hwas : was.gb p F.ZC_SEQ_q_EN 3 = true) (h : s.gb p F.ZC_SEQ_q_EN 3 = false) :
    seq3Written was s p = seqDisabled s p 3 := by
  simp [seq3Written, hwas, h]

theorem fieldOf_top (w : Word) : fieldOf w 31 31 = bit1 (w.getLsbD 31) := by
  rw [BitVec.getLsbD, Nat.testBit_eq_decide_div_mod_eq, fieldOf, Nat.shiftRight_eq_div_pow, bit1]
  simp only [decide_eq_true_eq]
  split <;> omega

/-- The definition of ZC_SEQ_3 (R152). -/
def seq3Def : RegDef := ⟨0x102080, 0x10, 4, 0x18C0000, 0xFFFF8000, 0, 0, 0⟩

theorem regAt_seq3 : regAt (R.ZC_SEQ_q.at 3) = some seq3Def := by decide
theorem rwMaskAt_seq3 : rwMaskAt seq3Def (R.ZC_SEQ_q.at 3) = 0xFFFF8000 := by decide

/-- A word with bit 31 clear stored in ZC_SEQ_3 clears EN. -/
theorem stored_disables (s : State) (p : Phys) (w : Word) :
    (stored s p (R.ZC_SEQ_q.at 3) (w &&& 0x7FFFFFFF)).gb p F.ZC_SEQ_q_EN 3 = false := by
  have hword (old : Word) : (storeWord seq3Def (R.ZC_SEQ_q.at 3) old (w &&& 0x7FFFFFFF)).getLsbD 31 = false := by
    rw [storeWord, rwMaskAt_seq3]
    simp
  have hfield : (stored s p (R.ZC_SEQ_q.at 3) (w &&& 0x7FFFFFFF)).g p F.ZC_SEQ_q_EN 3 =
      fieldOf (storeWord seq3Def (R.ZC_SEQ_q.at 3) (rfGet (s.z p).regs (R.ZC_SEQ_q.at 3)) (w &&& 0x7FFFFFFF)) 31 31 := by
    rw [State.g, stored_z, ← rfGet_storeReg regAt_seq3]
    rfl
  rw [fieldOf_top, hword] at hfield
  exact congrArg (· == 1) hfield

end Seq3

/-! ### What leaves the meter alone

The converters' sequences, bands and held readings change neither the meter nor a bit that is set. -/

/-- The meter of a slice stays, and nothing told is taken away. -/
structure MeterKept (p : Phys) (s t : State) : Prop where
  meter : (t.z p).meter = (s.z p).meter
  grows : Grows s t

section MeterKept
variable {p : Phys} {s t u : State}

theorem MeterKept.refl (p : Phys) (s : State) : MeterKept p s s := ⟨rfl, .refl s⟩

theorem MeterKept.trans (h : MeterKept p s t) (k : MeterKept p t u) : MeterKept p s u :=
  ⟨k.meter.trans h.meter, h.grows.trans k.grows⟩

theorem MeterKept.ite {c : Prop} [Decidable c] (h : MeterKept p s t) (k : MeterKept p s u) : MeterKept p s (if c then t else u) := by
  split
  · exact h
  · exact k

theorem MeterKept.foldl {α : Type} (f : State → α → State) (h : ∀ s a, MeterKept p s (f s a)) (l : List α) (s : State) :
    MeterKept p s (l.foldl f s) := by
  induction l generalizing s with
  | nil => exact .refl p s
  | cons a l ih => exact (h s a).trans (ih _)

variable (p s)

theorem meterKept_onZ {f : ZoneState → ZoneState} (h : ∀ z, (f z).meter = z.meter) : MeterKept p s (s.onZ p f) :=
  ⟨by rw [z_onZ, h], grows_onZ ..⟩

theorem meterKept_onR (f : RegFile → RegFile) : MeterKept p s (s.onR p f) := meterKept_onZ p s fun _ => rfl
theorem meterKept_w (x : Fld) (v i : Nat) : MeterKept p s (s.w p x v i) := meterKept_onR ..
theorem meterKept_wb (x : Fld) (b : Bool) (i : Nat) : MeterKept p s (s.wb p x b i) := meterKept_onR ..
theorem meterKept_wWord (r : Reg) (w : Word) (i : Nat) : MeterKept p s (s.wWord p r w i) := meterKept_onR ..
theorem meterKept_bump (x : Fld) (n i : Nat) : MeterKept p s (s.bump p x n i) := meterKept_onR ..
theorem meterKept_onInp (f : Inputs → Inputs) : MeterKept p s (s.onInp p f) := meterKept_onZ p s fun _ => rfl
theorem meterKept_onCv (f : Conv → Conv) : MeterKept p s (s.onCv p f) := meterKept_onZ p s fun _ => rfl
theorem meterKept_onSeq (q : Fin 4) (f : SeqSt → SeqSt) : MeterKept p s (s.onSeq p q f) := meterKept_onCv ..
theorem meterKept_evt (n b : Nat) : MeterKept p s (s.evt p n b) := ⟨by rw [z_evt], grows_evt ..⟩
theorem meterKept_err (n c e : Nat) : MeterKept p s (s.err p n c e) := ⟨by rw [z_err], grows_err ..⟩

theorem meterKept_wbEvt (x : Fld) (b : Bool) (n e i : Nat) : MeterKept p s (s.wbEvt p x b n e i) :=
  .ite (.refl p s) ((meterKept_wb ..).trans (meterKept_evt ..))

theorem meterKept_noteBusy (before : State) : MeterKept p s (noteBusy before p s) :=
  .ite (.refl p s) ⟨by rw [z_touch], grows_touch ..⟩

theorem meterKept_trims (f : Vector Trims 6 → Vector Trims 6) : MeterKept p s (s.onSl p fun x => { x with trims := f x.trims }) :=
  ⟨by simp [State.z], grows_onSl ..⟩

theorem meterKept_restartCal : MeterKept p s (restartCal s p) := by
  unfold restartCal
  exact ((meterKept_onCv ..).trans (meterKept_trims ..)).trans (meterKept_wbEvt ..)

theorem meterKept_syncTrims : MeterKept p s (syncTrims s p) :=
  (((((meterKept_w ..).trans (meterKept_w ..)).trans (meterKept_w ..)).trans (meterKept_w ..)).trans
    (meterKept_wbEvt ..)).trans (meterKept_wbEvt ..)

theorem meterKept_takeBand : MeterKept p s (takeBand s p) :=
  .ite (.refl p s) ((((((meterKept_onCv ..).trans (meterKept_onInp ..)).trans (meterKept_w ..)).trans (meterKept_evt ..)).trans
    (meterKept_restartCal ..)).trans (meterKept_syncTrims ..))

theorem meterKept_startPass (q : Fin 4) (e : Option Nat) : MeterKept p s (startPass s p q e) := by
  unfold startPass
  exact (meterKept_takeBand ..).trans (meterKept_onSeq ..)

theorem meterKept_dropTrigger (q : Fin 4) : MeterKept p s (dropTrigger s p q) :=
  ((meterKept_bump ..).trans (meterKept_evt ..)).trans (meterKept_err ..)

theorem meterKept_acceptTrigger (q : Fin 4) (e : Option Nat) : MeterKept p s (acceptTrigger s p q e) :=
  .ite (meterKept_dropTrigger ..) (.ite (.ite (meterKept_dropTrigger ..) (meterKept_onSeq ..)) (meterKept_startPass ..))

theorem meterKept_finishEnding (q : Fin 4) : MeterKept p s (finishEnding s p q) :=
  .ite (.ite ((meterKept_onSeq ..).trans (meterKept_acceptTrigger ..)) (meterKept_onSeq ..)) (.refl p s)

theorem meterKept_settle : MeterKept p s (settle s p) :=
  ((meterKept_onCv ..).trans (meterKept_onR ..)).trans (.foldl _ (fun _ _ => meterKept_onR ..) _ _)

theorem meterKept_seqDisabled (q : Fin 4) : MeterKept p s (seqDisabled s p q) :=
  ((meterKept_onSeq ..).trans (meterKept_finishEnding ..)).trans (meterKept_settle ..)

theorem meterKept_firmwareSeqs (on : Bool) : MeterKept p s (firmwareSeqs s p on) :=
  .foldl _ (fun _ _ => (meterKept_wb ..).trans (.ite (meterKept_onSeq ..) (meterKept_seqDisabled ..))) _ _

theorem meterKept_setSq0 (fast : Option Nat) : MeterKept p s (setSq0 s p fast) := by
  cases fast with
  | none => exact (meterKept_wWord ..).trans (meterKept_wWord ..)
  | some ch => exact (meterKept_wWord ..).trans (meterKept_w ..)

theorem meterKept_holdReadings : MeterKept p s (holdReadings s p) :=
  .foldl _ (fun _ _ => .ite (meterKept_wb ..) (.refl ..)) _ _

theorem meterKept_syncCap : MeterKept p s (syncCap s p) := by
  unfold syncCap
  exact meterKept_onR ..

end MeterKept

/-! ### Capture (R176, R177) -/

section Capture
variable {s : State} {p : Phys}

theorem onCap_mt (s : State) (p : Phys) (f : Capture → Capture) : ((s.onCap p f).mt p).cap = f (s.mt p).cap := by
  simp [State.onCap, State.onMt, State.mt]

theorem capArm_idle (h1 : (s.mt p).cap.state ≠ 1) (h2 : (s.mt p).cap.state ≠ 2) : ((capArm s p).mt p).cap.state = 1 ∧
    ((capArm s p).mt p).cap.words = [] ∧ ((capArm s p).mt p).cap.cfg = (s.z p).regs.word R.ZE_CAP_CFG := by
  have hidle : ¬ ((s.mt p).cap.state = 1 ∨ (s.mt p).cap.state = 2) := not_or.mpr ⟨h1, h2⟩
  unfold capArm
  dsimp only
  rw [if_neg hidle, State.mt, (meterKept_noteBusy ..).meter, (meterKept_syncCap ..).meter, ← State.mt, onCap_mt]
  exact ⟨rfl, rfl, rfl⟩

theorem capArm_busy (h : (s.mt p).cap.state = 1 ∨ (s.mt p).cap.state = 2) : capArm s p = s.bump p F.ZE_CAP_STAT_CAP_DROP := if_pos h

/-- An armed capture of which the trigger has come, before registers and sequences follow (R177, R179). -/
def captureTriggered (s : State) (p : Phys) : State :=
  let m := (s.mt p).cap
  let fast := capMode m.cfg != 0
  let ok := fast && fastAllowed s p
  (s.onCap p fun c => { c with
    state := 2, trigAt := m.words.length, fast := ok, down := fast && !ok, accV := [], accI := [], satV := false,
    satI := false }).evt p 4 EVT.ZE_CAP_TRIG

theorem capTrigger_kept (h : (s.mt p).cap.state = 1) : MeterKept p (captureTriggered s p) (capTrigger s p) := by
  unfold capTrigger
  dsimp only
  rw [if_neg (not_not.mpr h)]
  refine .trans (.trans (meterKept_onR ..) (.trans (.ite (meterKept_err ..) (.refl ..)) (.ite ?fast (.refl ..)))) (meterKept_syncCap ..)
  exact (((meterKept_firmwareSeqs ..).trans (meterKept_holdReadings ..)).trans (meterKept_setSq0 ..)).trans (meterKept_wb ..)

theorem capTrigger_armed (h : (s.mt p).cap.state = 1) : ((capTrigger s p).mt p).cap.state = 2 ∧
    ((capTrigger s p).mt p).cap.trigAt = (s.mt p).cap.words.length ∧
    (capTrigger s p).isrBit (slicePage p 4) EVT.ZE_CAP_TRIG = true := by
  obtain ⟨hmeter, hgrows⟩ := capTrigger_kept h
  rw [State.mt, hmeter, captureTriggered, z_evt, ← State.mt, onCap_mt]
  exact ⟨rfl, rfl, hgrows.isr _ _ (isrBit_evtP _ _ (by decide))⟩

/-- A capture that has ended, before registers and sequences follow (R176). -/
def captureEnded (s : State) (p : Phys) : State :=
  ((endWait s p).onCap p fun c => { c with state := 3, fast := false }).evt p 4 EVT.ZE_CAP_DONE

theorem capDone_kept (s : State) (p : Phys) : MeterKept p (captureEnded s p) (capDone s p) :=
  ((MeterKept.ite (((meterKept_setSq0 ..).trans (meterKept_firmwareSeqs ..)).trans (meterKept_wb ..)) (.refl ..)).trans
    (meterKept_syncCap ..)).trans (meterKept_noteBusy ..)

theorem capStop_ends (h : (s.mt p).cap.state = 1 ∨ (s.mt p).cap.state = 2) : ((capStop s p).mt p).cap.state = 3 ∧
    (capStop s p).isrBit (slicePage p 4) EVT.ZE_CAP_DONE = true := by
  have hdone : capStop s p = capDone s p := if_pos h
  obtain ⟨hmeter, hgrows⟩ := capDone_kept s p
  rw [hdone, State.mt, hmeter, captureEnded, z_evt, ← State.mt, onCap_mt]
  exact ⟨rfl, hgrows.isr _ _ (isrBit_evtP _ _ (by decide))⟩

/-! The writes of ZE_CAP_CTRL. -/

theorem capControl_arm (s : State) (p : Phys) : capControl s p 1 = capArm s p := rfl
theorem capControl_stop (s : State) (p : Phys) : capControl s p 4 = capStop s p := rfl

theorem capControl_trigger (h : capSrc (s.mt p).cap.cfg = 0) : capControl s p 2 = capTrigger s p := if_pos ⟨rfl, h⟩

end Capture

/-- Settles O20, action by action: each finds the slice as it was, the written register apart. -/
theorem sliceHostActions : Obligations.SliceHostActions := by
  intro s v w d p hr hd hp
  have hmt (x : Word) : (stored d p (R.ZE_CAP_CTRL.at 0) x).mt p = d.mt p := stored_mt d p x
  refine ⟨fun hst => ?diagNow, fun hst htakes hrange => ?trigger, fun hst hen => ?disable, fun hst =>
    ⟨fun h1 h2 => ?arm, fun hbusy => ?drop, fun harmed hsrc => ?capture, fun hbusy => ?stop⟩⟩
  case diagNow =>
    have haction : actionReg (R.ZI_CTRL.at 0) = true := by decide
    obtain ⟨t, ht, hout, hothers, hz, -⟩ := hostWrite_acts hr hd hp (by decide) hst (sliceAction_diagNow ..)
      (diagNowEffect_cr_ne _ p)
    refine ⟨t, congrArg Host.Outcome.next ht, hout, hothers, fun n hn => ?_⟩
    have hwindow := diagNowEffect_tIn _ p ((stored_diagnosed d p 0x10 haction n).trans hn)
    rw [stored_tIn, stored_isLimit d p _ haction, State.tIn, ← hz] at hwindow
    rw [hwindow]
    exact ⟨rfl, rfl⟩
  case trigger =>
    have haction : actionReg (R.ZC_CTRL.at 0) = true := by decide
    obtain ⟨t, ht, hout, hothers, hz, -⟩ := hostWrite_acts hr hd hp (by decide) hst (sliceAction_trigger ..)
      (seqTrigger_cr_ne _ p 3 .host)
    have hflags := hostTrigger_flags ((stored_takesTrigger d p 0x8 haction 3).trans htakes)
      ((stored_badRange d p 0x8 haction 3).trans hrange) rfl
    rw [stored_seq, State.seq, State.cv, ← hz] at hflags
    exact ⟨t, congrArg Host.Outcome.next ht, hout, hothers, hflags⟩
  case disable =>
    obtain ⟨t, ht, hout, hothers, hz, -⟩ := hostWrite_acts hr hd hp (by decide) hst
      (sliceAction_seq3 d _ p (w &&& 0x7FFFFFFF)) (seq3Written_cr_ne _ _ p)
    have hoff := stored_disables d p w
    obtain ⟨hshown, hpend⟩ := seqDisabled_shows (seq3Written_disabled hen hoff)
    rw [State.gb, ← hz] at hshown
    rw [State.seq, State.cv, ← hz] at hpend
    exact ⟨t, congrArg Host.Outcome.next ht, hout, hothers, hshown.trans hoff, hpend⟩
  case arm =>
    obtain ⟨t, ht, hout, hothers, hz, -⟩ := hostWrite_acts hr hd hp (by decide) hst
      ((sliceAction_capture ..).trans (capControl_arm ..)) (capArm_cr_ne _ p)
    rw [← hmt 1] at h1 h2
    have harm := capArm_idle h1 h2
    rw [stored_word d p 1 (by decide), State.mt, ← hz] at harm
    exact ⟨t, congrArg Host.Outcome.next ht, hout, hothers, harm⟩
  case drop =>
    obtain ⟨t, ht, hout, hothers, hz, -⟩ := hostWrite_acts hr hd hp (by decide) hst
      ((sliceAction_capture ..).trans (capControl_arm ..)) (capArm_cr_ne _ p)
    rw [← hmt 1] at hbusy
    rw [capArm_busy hbusy, z_bump] at hz
    refine ⟨t, congrArg Host.Outcome.next ht, hout, hothers, ?_, ?_⟩
    · rw [State.mt, hz, ← State.mt, hmt]
    · rw [State.g, hz, nat_putNat_fit _ (by decide), fit_satTo, ← State.g, stored_nat d p 1 (by decide)]
  case capture =>
    rw [← hmt 2] at harmed hsrc
    obtain ⟨t, ht, hout, hothers, hz, hisr⟩ := hostWrite_acts hr hd hp (by decide) hst
      ((sliceAction_capture ..).trans (capControl_trigger hsrc)) (capTrigger_cr_ne _ p)
    have htriggered := capTrigger_armed harmed
    rw [hmt, ← hisr, State.mt, ← hz] at htriggered
    exact ⟨t, congrArg Host.Outcome.next ht, hout, hothers, htriggered⟩
  case stop =>
    obtain ⟨t, ht, hout, hothers, hz, hisr⟩ := hostWrite_acts hr hd hp (by decide) hst
      ((sliceAction_capture ..).trans (capControl_stop ..)) (capStop_cr_ne _ p)
    rw [← hmt 4] at hbusy
    have hended := capStop_ends hbusy
    rw [← hisr, State.mt, ← hz] at hended
    exact ⟨t, congrArg Host.Outcome.next ht, hout, hothers, hended⟩

end Sys2Proof.Machine

namespace Sys2Proof.Machine
open Host

/-! ### What leaves the results of a slice alone (R139 to R142)

Of all that a slice does only the end of a conversion writes its page of results. What else an operation leaves alone differs:
one beside the converters' engine leaves the engine and all of the slice beside its zone, a trigger of one sequence leaves the
others and the urgent conversions, arbitration leaves every sequence but the marks of its entries that have begun. -/

/-- Whether an address stands on the page of results (R139). -/
def onResults (a : Nat) : Bool := decide (a / 4096 = 0x103)

theorem rfGet_rfPut_off {a b : Nat} (ha : onResults a = true) (hb : onResults b = false) (f : RegFile)
    (w : Word) : rfGet (rfPut f b w) a = rfGet f a := rfGet_put_ne _ _ _ _ (by rintro rfl; rw [hb] at ha; cases ha)

/-- A part of the state and the results of slice `p` stay, and nothing told is taken away. -/
structure ResultsKept {β : Type} (part : State → β) (p : Phys) (s t : State) : Prop where
  part  : part t = part s
  regs  : ∀ a, onResults a = true → rfGet (t.z p).regs a = rfGet (s.z p).regs a
  grows : Grows s t

/-- A slice without its zone state but for the converters, and without the mark that its checkpoint is due. -/
def Slice.body (x : Slice) : Slice := { x with z := { conv := x.z.conv }, ckptDue := false }

/-- The record store and slice `p` but for its zone state beside the converters: what all operations but those of the engine leave
alone. -/
def aside (p : Phys) (s : State) : RecStore × Slice := (s.store, (s.sl p).body)

namespace ResultsKept
variable {β γ : Type} {part : State → β} {p : Phys} {s t u : State}

theorem refl : ResultsKept part p s s := ⟨rfl, fun _ _ => rfl, .refl s⟩

theorem trans (h : ResultsKept part p s t) (k : ResultsKept part p t u) : ResultsKept part p s u :=
  ⟨k.part.trans h.part, fun a ha => (k.regs a ha).trans (h.regs a ha), h.grows.trans k.grows⟩

theorem map (h : ResultsKept part p s t) (g : β → γ) : ResultsKept (fun s => g (part s)) p s t :=
  ⟨congrArg g h.part, h.regs, h.grows⟩

theorem ite {c : Prop} [Decidable c] (ht : ResultsKept part p s t) (hu : ResultsKept part p s u) :
    ResultsKept part p s (if c then t else u) := by split <;> assumption

theorem foldl {α : Type} {f : State → α → State} (l : List α) (h : ResultsKept part p s t)
    (hf : ∀ t a, ResultsKept part p t (f t a)) : ResultsKept part p s (l.foldl f t) := by
  induction l generalizing t with
  | nil => exact h
  | cons a l ih => exact ih (h.trans (hf t a))

/-! Beside the engine. -/

/-- A change elsewhere than in the core of the slice and the record store. -/
theorem beside (h : ResultsKept (aside p) p s t) (hcr : u.cr p = t.cr p) (hstore : u.store = t.store) (hg : Grows t u) :
    ResultsKept (aside p) p s u := by
  have hbody : (u.sl p).body = (t.sl p).body := (congrArg Slice.body hcr :)
  exact h.trans ⟨by rw [aside, aside, hstore, hbody], fun a _ => by rw [z_of_cr hcr], hg⟩

theorem loud (h : ResultsKept (aside p) p s t) (hq : u.quiet = t.quiet) (hg : Grows t u) : ResultsKept (aside p) p s u :=
  h.beside (cr_of_slices (congrArg State.slices hq :) p) (congrArg State.store hq :) hg

theorem evt (h : ResultsKept (aside p) p s t) {q : Phys} {n b : Nat} : ResultsKept (aside p) p s (t.evt q n b) :=
  h.loud (by simp) (grows_evt ..)
theorem evtIf (h : ResultsKept (aside p) p s t) {c : Bool} {q : Phys} {n b : Nat} :
    ResultsKept (aside p) p s (t.evtIf c q n b) := h.loud (by simp) (grows_evtIf ..)
theorem evtP (h : ResultsKept (aside p) p s t) {g b : Nat} : ResultsKept (aside p) p s (t.evtP g b) :=
  h.loud (by simp) (grows_evtP ..)
theorem err (h : ResultsKept (aside p) p s t) {q : Phys} {n c e : Nat} : ResultsKept (aside p) p s (t.err q n c e) :=
  h.loud (by simp) (grows_err ..)
theorem errP (h : ResultsKept (aside p) p s t) {g c e : Nat} : ResultsKept (aside p) p s (t.errP g c e) :=
  h.loud (by simp) (grows_errP ..)
theorem noteBusy (h : ResultsKept (aside p) p s t) {b : State} {q : Phys} : ResultsKept (aside p) p s (noteBusy b q t) :=
  h.loud (by simp) (grows_ite (.refl _) (grows_touch ..))
theorem onJ (h : ResultsKept (aside p) p s t) {f : Journal → Journal} : ResultsKept (aside p) p s (t.onJ f) :=
  h.beside rfl rfl ((Grows.refl t).silent rfl rfl)
theorem wrote (h : ResultsKept (aside p) p s t) {d : DurItem} : ResultsKept (aside p) p s (t.wrote d) :=
  h.beside rfl rfl ((Grows.refl t).silent rfl rfl)
theorem pbump (h : ResultsKept (aside p) p s t) {x : Fld} {n i : Nat} : ResultsKept (aside p) p s (t.pbump x n i) :=
  h.beside rfl rfl ((Grows.refl t).silent rfl rfl)

theorem errIf (h : ResultsKept (aside p) p s t) {c : Prop} [Decidable c] {q : Phys} {n x e : Nat} :
    ResultsKept (aside p) p s (if c then t.err q n x e else t) := .ite h.err h

/-- A change of any slice that leaves its body and its results alone. -/
theorem onSl (h : ResultsKept (aside p) p s t) {q : Phys} {f : Slice → Slice}
    (hbody : ∀ x, (f x).body = x.body := by intro; rfl)
    (hregs : ∀ x a, onResults a = true → rfGet (f x).z.regs a = rfGet x.z.regs a := by intros; rfl) :
    ResultsKept (aside p) p s (t.onSl q f) := by
  by_cases hq : p = q
  · subst hq
    refine h.trans ⟨?_, fun a ha => ?_, grows_onSl ..⟩
    · rw [aside, aside, sl_onSl, hbody]
      rfl
    · rw [State.z, sl_onSl, hregs _ a ha]
      rfl
  · exact h.beside (State.onSl_cr_ne _ _ _ _ hq) rfl (grows_onSl ..)

theorem onZ (h : ResultsKept (aside p) p s t) {q : Phys} {f : ZoneState → ZoneState}
    (hconv : ∀ z, (f z).conv = z.conv := by intro; rfl)
    (hregs : ∀ z a, onResults a = true → rfGet (f z).regs a = rfGet z.regs a := by intros; rfl) :
    ResultsKept (aside p) p s (t.onZ q f) :=
  h.onSl (fun x => by simp only [Slice.body, hconv]) (fun x a ha => hregs x.z a ha)

theorem onInp (h : ResultsKept (aside p) p s t) {q : Phys} {f : Inputs → Inputs} :
    ResultsKept (aside p) p s (t.onInp q f) := h.onZ
theorem onT (h : ResultsKept (aside p) p s t) {q : Phys} {n : Fin 4} {f : TempIn → TempIn} :
    ResultsKept (aside p) p s (t.onT q n f) := h.onInp
theorem onHt (h : ResultsKept (aside p) p s t) {q : Phys} {f : Heat → Heat} : ResultsKept (aside p) p s (t.onHt q f) := h.onZ
theorem onOuts (h : ResultsKept (aside p) p s t) {q : Phys} {f : Outs → Outs} :
    ResultsKept (aside p) p s (t.onOuts q f) := h.onZ
theorem onMt (h : ResultsKept (aside p) p s t) {q : Phys} {f : Meter → Meter} : ResultsKept (aside p) p s (t.onMt q f) := h.onZ
theorem onCap (h : ResultsKept (aside p) p s t) {q : Phys} {f : Capture → Capture} : ResultsKept (aside p) p s (t.onCap q f) :=
  h.onMt
theorem onSc (h : ResultsKept (aside p) p s t) {q : Phys} {f : Sched → Sched} : ResultsKept (aside p) p s (t.onSc q f) := h.onZ

theorem onR (h : ResultsKept (aside p) p s t) {q : Phys} {f : RegFile → RegFile}
    (hf : ∀ r a, onResults a = true → rfGet (f r) a = rfGet r a) : ResultsKept (aside p) p s (t.onR q f) :=
  h.onZ (fun _ => rfl) (fun z a ha => hf z.regs a ha)

theorem wWord (h : ResultsKept (aside p) p s t) {q : Phys} {r : Reg} {w : Word} {i : Nat}
    (hr : onResults (r.at i) = false := by rfl) : ResultsKept (aside p) p s (t.wWord q r w i) :=
  h.onR fun f _ ha => rfGet_rfPut_off ha hr f _

theorem w (h : ResultsKept (aside p) p s t) {q : Phys} {x : Fld} {v i : Nat} (hx : onResults (x.at i) = false := by rfl) :
    ResultsKept (aside p) p s (t.w q x v i) := h.onR fun f _ ha => rfGet_rfPut_off ha hx f _

theorem wi (h : ResultsKept (aside p) p s t) {q : Phys} {x : Fld} {v : Int} {i : Nat}
    (hx : onResults (x.at i) = false := by rfl) : ResultsKept (aside p) p s (t.wi q x v i) :=
  h.onR fun f _ ha => rfGet_rfPut_off ha hx f _

theorem wb (h : ResultsKept (aside p) p s t) {q : Phys} {x : Fld} {b : Bool} {i : Nat}
    (hx : onResults (x.at i) = false := by rfl) : ResultsKept (aside p) p s (t.wb q x b i) := h.w hx

theorem bump (h : ResultsKept (aside p) p s t) {q : Phys} {x : Fld} {n i : Nat} (hx : onResults (x.at i) = false := by rfl) :
    ResultsKept (aside p) p s (t.bump q x n i) := h.onR fun f _ ha => rfGet_rfPut_off ha hx f _

theorem wbEvt (h : ResultsKept (aside p) p s t) {q : Phys} {x : Fld} {b : Bool} {n e i : Nat}
    (hx : onResults (x.at i) = false := by rfl) : ResultsKept (aside p) p s (t.wbEvt q x b n e i) := .ite h (h.wb hx).evt

end ResultsKept

/-! ### Markers and the larder (R338, R341) -/

section Marker
variable {p : Phys} (s : State)

theorem kept_askCheckpoints : ResultsKept (aside p) p s (askCheckpoints s) := by
  unfold askCheckpoints
  split
  · split
    · exact .foldl _ .refl fun t z => .ite (ResultsKept.onSl .refl) .refl
    · exact .refl
  · exact .refl

theorem kept_fillRules : ResultsKept (aside p) p s (fillRules s) := by
  unfold fillRules
  dsimp only
  have ask := kept_askCheckpoints (p := p) s
  refine .ite (ResultsKept.errP (.evtP (.onJ ?_))) (.ite (ResultsKept.evtP (.onJ ?_)) ?_)
  all_goals exact .ite (.ite ask ask.onJ.pbump.evtP) (.ite (ResultsKept.refl.onJ.evtP) .refl)

theorem kept_endInternal (r : Running) (final : Bool) : ResultsKept (aside p) p s (endInternal s r final) :=
  .ite (.trans (.onJ (.onJ .refl)) (kept_fillRules _)) .refl

theorem kept_markZone (n : Nat) (z : Zone) (r re : Nat) (v : Word) : ResultsKept (aside p) p s (markZone s n z r re v) := by
  unfold markZone
  split
  · exact .refl
  · refine .ite .refl (.trans (.trans (.wrote (.onJ .refl)) (kept_fillRules _)) (kept_endInternal ..))

end Marker

/-! ### Outputs (R292 to R295, R300, R301, R371) -/

section Outputs
variable {p : Phys} (s : State) (q : Phys) (j : Out)

theorem offResults_ZO_OUT : onResults (R.ZO_OUT_j.at j.val) = false := by revert j; decide
theorem offResults_ZO_MEAS : onResults (R.ZO_MEAS_j.at j.val) = false := by revert j; decide

theorem kept_syncHold : ResultsKept (aside p) p s (syncHold s q) := (ResultsKept.refl.w.w).wb

theorem kept_onOut (f : OutSt → OutSt) : ResultsKept (aside p) p s (s.onOut q j f) := by
  have h : ResultsKept (aside p) p s (syncHold ((s.onOuts q (fun x =>
      { x with o := x.o.set j.val (f (s.out q j)) j.isLt })).wWord q R.ZO_OUT_j (f (s.out q j)).word j) q) :=
    .trans (.wWord (.onOuts .refl) (offResults_ZO_OUT j)) (kept_syncHold ..)
  exact (ResultsKept.ite h.evtIf.evtIf.evtIf h.evtIf.evtIf.evtIf.evtP).evtIf

theorem kept_refreshOut : ResultsKept (aside p) p s (refreshOut s q j) := by
  have h := kept_onOut (p := p) s q j
  exact .ite .refl (.ite (.ite (h _).bump (h _).bump) (h _))

theorem kept_endPulse (r re : Nat) : ResultsKept (aside p) p s (endPulse s q j r re) := by
  unfold endPulse
  split
  · dsimp only
    split
    · exact .trans (.noteBusy (.onZ (kept_onOut ..))) (kept_markZone ..)
    · exact .noteBusy (.onZ (kept_onOut ..))
  · exact .refl

theorem kept_holdOutputs : ResultsKept (aside p) p s (holdOutputs s q) :=
  .foldl _ .refl fun t j => (kept_endPulse t q j ..).trans (kept_onOut ..)

theorem kept_measureOut (v : Nat) (lim : Bool) : ResultsKept (aside p) p s (measureOut s q j v lim) := by
  have h0 : ResultsKept (aside p) p s (s.w q F.ZO_MEAS_j_VAL (satTo 16 v) j) := .w .refl (offResults_ZO_MEAS j)
  have h1 (f : OutSt → OutSt) := h0.trans (kept_onOut _ q j f)
  unfold measureOut
  dsimp only
  refine .ite h0 (.ite (.ite ?_ ?_) (.ite (.ite ?_ (h1 _)) (h1 _)))
  · exact (h1 _).errIf.trans (kept_onOut ..)
  · exact (h1 _).errIf.trans (kept_refreshOut ..)
  · exact (((h1 _).err.trans (kept_refreshOut ..)).trans (kept_endPulse ..)).trans (kept_refreshOut ..)

theorem kept_outConversion (x : ConvDone) (d : ConvData) : ResultsKept (aside p) p s (outConversion s q x d) := by
  have one (t : State) (ch : Nat) (code : Int) (lim : Bool) : ResultsKept (aside p) p t
      (match measuredBy ch code with | some (j, v) => measureOut t q j v lim | none => t) := by
    split
    · exact kept_measureOut ..
    · exact .refl
  unfold outConversion
  dsimp only
  split
  · exact .ite (.ite ((one ..).trans (one ..)) (one ..)) .refl
  · exact .refl

end Outputs

end Sys2Proof.Machine

namespace Sys2Proof.Machine
open Host

/-! ### Readings (R80 to R85, R98, R195) -/

section Readings
variable {p : Phys} (s : State) (n : Fin 4)

/-- The fields of ZI_T_n stand elsewhere. -/
theorem offResults_ZI_T {x : Fld} (h : (x.key, x.stride) = (R.ZI_T_n.key, R.ZI_T_n.stride) := by rfl) :
    onResults (x.at n.val) = false := by
  obtain ⟨hkey, hstride⟩ := Prod.mk.inj h
  rw [Fld.at, hkey, hstride]
  revert n
  decide

theorem offResults_ZI_THR : onResults (R.ZI_THR_n.at n.val) = false := by revert n; decide
theorem offResults_ZI_TRES : onResults (R.ZI_TRES_n.at n.val) = false := by revert n; decide
theorem offResults_ZI_TNOISE : onResults (R.ZI_TNOISE_n.at n.val) = false := by revert n; decide

theorem kept_syncT : ResultsKept (aside p) p s (s.syncT p n) := ResultsKept.refl.w.w.w

theorem kept_showExc : ResultsKept (aside p) p s (showExc s p n) := .w .refl (offResults_ZI_T n)

theorem kept_declareBroken (c : Nat) : ResultsKept (aside p) p s (declareBroken s p n c) := by
  have hT {x : Fld} := @offResults_ZI_T n x
  refine .err (.evt (.ite (ResultsKept.wb (.w ?_)) ?_))
  all_goals exact .trans (.wWord (.wb (.w (.w (.wb (.wb (.onT .refl) hT) hT) hT) hT) hT) (offResults_ZI_THR n)) (kept_syncT ..)

theorem kept_badReading (c : Nat) : ResultsKept (aside p) p s (badReading s p n c) := by
  have hT {x : Fld} := @offResults_ZI_T n x
  have h1 {f : TempIn → TempIn} : ResultsKept (aside p) p s (s.onT p n f) := .onT .refl
  exact .ite (.ite (h1.w hT) (h1.w hT).err) (.ite (h1.trans (kept_declareBroken ..)) (.ite (h1.wb hT) h1))

theorem kept_publishReading (t r : Rat) (b : Bool) : ResultsKept (aside p) p s (publishReading s p n t r b) := by
  have hT {x : Fld} := @offResults_ZI_T n x
  unfold publishReading
  refine .trans (.onR (.onR .refl fun f a ha => ?_) fun f a ha => ?_) (kept_syncT ..)
  · simp only [RegFile.putInt, RegFile.putBit, RegFile.putNat]
    iterate 5 rw [rfGet_rfPut_off ha (offResults_ZI_T n)]
  · simp only [RegFile.putWord]
    rw [rfGet_rfPut_off ha (offResults_ZI_TRES n), rfGet_rfPut_off ha (offResults_ZI_THR n)]

theorem kept_goodReading (t r : Rat) (b : Bool) : ResultsKept (aside p) p s (goodReading s p n t r b) := by
  have h1 {f : TempIn → TempIn} : ResultsKept (aside p) p s (s.onT p n f) := .onT .refl
  exact .ite (.ite (h1.onT.trans (kept_publishReading ..)).evt h1) (h1.trans (kept_publishReading ..))

theorem kept_endSettling : ResultsKept (aside p) p s (endSettling s p n) :=
  .ite (.trans (.wb .refl (offResults_ZI_T n)) (kept_syncT ..)) .refl

theorem kept_moveRange (r : Option Rat) : ResultsKept (aside p) p s (moveRange s p n r) := by
  unfold moveRange
  split
  · exact .ite (.onT .refl) .refl
  · exact .refl

theorem kept_showSeries (r : Option Rat) : ResultsKept (aside p) p s (showSeries s p n r) := by
  unfold showSeries
  split
  · exact .wWord .refl (offResults_ZI_TNOISE n)
  · exact .refl

theorem kept_takeReading (b : Bool) (x : Reading) : ResultsKept (aside p) p s (takeReading s p n b x) := by
  have h1 := (kept_moveRange (p := p) s n x.ohm).trans (kept_showSeries _ n x.rs)
  exact .ite (h1.trans (kept_goodReading ..)) (h1.trans ((kept_badReading ..).trans (kept_endSettling ..)))

theorem kept_inputReading (band : Nat) (x : InputSample) : ResultsKept (aside p) p s (inputReading s p n band x) := by
  unfold inputReading
  split
  · exact .refl
  · exact .ite (.trans (.onT .refl) (kept_endSettling ..)) (.trans (.trans (.onT .refl) (kept_takeReading ..)) (kept_showExc ..))

theorem kept_matchPair (run : Nat) : ResultsKept (aside p) p s (matchPair s p n run) := by
  unfold matchPair
  split
  · exact .ite (.onHt .refl) .refl
  · exact .refl

theorem kept_readingOf (x : Option ConvDone) (r : InputSample) : ResultsKept (aside p) p s (readingOf s p x n r) := by
  unfold readingOf
  cases x with
  | none => exact kept_inputReading ..
  | some c => exact (kept_inputReading ..).trans (kept_matchPair ..)

end Readings

/-! ### The meter's share beside the engine (R157 to R166) -/

section Meter
variable {p : Phys} (s : State)

theorem kept_showSynth (q : Phys) : ResultsKept (aside p) p s (showSynth s q) := ResultsKept.refl.w

theorem kept_fillShare (k : Option Nat) (dt pw qw sw : Rat) : ResultsKept (aside p) p s (fillShare s p k dt pw qw sw) := by
  unfold fillShare
  exact .onMt .refl

theorem kept_noteFill (dt : Rat) : ResultsKept (aside p) p s (noteFill s p dt) := (kept_showSynth s p).err

theorem kept_fillGap (n : Nat) (dt : Rat) : ResultsKept (aside p) p s (fillGap s p n dt) := by
  unfold fillGap
  dsimp only
  split
  · exact ((kept_fillShare ..).trans (kept_fillShare ..)).trans (kept_noteFill ..)
  · exact (kept_fillShare ..).trans (kept_noteFill ..)

theorem kept_fillUpTo (n : Nat) : ResultsKept (aside p) p s (fillUpTo s p n) := by
  unfold fillUpTo
  split
  · exact .refl
  · exact (kept_fillShare ..).onMt.trans (kept_noteFill ..)

theorem kept_integrate (n : Nat) : ResultsKept (aside p) p s (integrate s p n) := by
  have h1 (c : Prop) [Decidable c] {f : Meter → Meter} :
      ResultsKept (aside p) p s (if c then (fillUpTo s p n).onMt p f else s) := .ite (kept_fillUpTo ..).onMt .refl
  exact .ite (h1 _) (.onMt (.ite ((h1 _).trans (kept_fillGap ..)) (h1 _).onMt))

theorem kept_passV (v : Rat) (n : Nat) : ResultsKept (aside p) p s (passV s p v n).1 := by
  unfold passV
  dsimp only
  exact .onMt .refl

theorem kept_passI (v : Rat) (n k : Nat) : ResultsKept (aside p) p s (passI s p v n k).1 := by
  unfold passI
  dsimp only
  exact .onMt .refl

theorem kept_holdPair (n : Nat) (v i : Rat) (a b : Bool) : ResultsKept (aside p) p s (holdPair s p n v i a b) :=
  ResultsKept.refl.onMt

theorem kept_takePair (v i : Rat) (n : Nat) (a b : Bool) : ResultsKept (aside p) p s (takePair s p v i n a b) :=
  ((kept_integrate ..).trans (kept_passV ..)).trans ((kept_passI ..).trans (kept_holdPair ..))

theorem kept_showUnlocked : ResultsKept (aside p) p s (showUnlocked s p) := ResultsKept.refl.wb.wWord.wWord

theorem kept_track (c : CycleData) : ResultsKept (aside p) p s (track s p c) := by
  have h1 {f : Meter → Meter} {b : Bool} {n e : Nat} :
      ResultsKept (aside p) p s ((s.onMt p f).wbEvt p F.ZE_STAT_LOCK b n e) := ResultsKept.refl.onMt.wbEvt
  exact .ite (h1.trans (kept_showUnlocked ..)).err h1

theorem kept_endCycle (n : Nat) : ResultsKept (aside p) p s (endCycle s p n) :=
  .ite (.ite .refl (.onMt .refl)) ResultsKept.refl.onMt.w.wb

theorem kept_cycleEnd (c : Option CycleData) : ResultsKept (aside p) p s (cycleEnd s p c) := by
  unfold cycleEnd
  cases c with
  | none => exact .ite (kept_endCycle ..) .refl
  | some d =>
    have hended (t : State) (n : Nat) : ResultsKept (aside p) p t (track (endCycle t p n) p d) :=
      (kept_endCycle ..).trans (kept_track ..)
    exact .ite (hended ..) (.ite (hended ..) (kept_track ..))

theorem kept_setSq0 (f : Option Nat) : ResultsKept (aside p) p s (setSq0 s p f) := by
  cases f with
  | none => exact ResultsKept.refl.wWord.wWord
  | some c => exact ResultsKept.refl.wWord.w

theorem kept_syncCap : ResultsKept (aside p) p s (syncCap s p) := by
  unfold syncCap
  refine .onR .refl fun f a ha => ?_
  simp only [RegFile.putBit, RegFile.putNat]
  iterate 5 rw [rfGet_rfPut_off ha rfl]

theorem kept_holdReadings : ResultsKept (aside p) p s (holdReadings s p) :=
  .foldl _ .refl fun _ n => .ite (.wb .refl (offResults_ZI_T n)) .refl

theorem kept_endWait : ResultsKept (aside p) p s (endWait s p) := by
  unfold endWait
  split
  · exact (ResultsKept.refl.onCap.trans (kept_onOut ..)).trans (kept_refreshOut ..)
  · exact .refl

end Meter

end Sys2Proof.Machine

namespace Sys2Proof.Machine
open Host

/-! ### The engine's work (R123 to R127)

What arbitration leaves alone: it gives converters to entries and marks them as begun. -/

/-- A sequence without the marks of its entries that have begun. -/
def SeqSt.unbegun (x : SeqSt) : SeqSt := { x with live := x.live.map (fun e => { e with begun := false }) }

/-- Two engines with the same urgent conversions and the same sequences but for the marks of entries that have begun. -/
structure SameWork (c d : Conv) : Prop where
  urg  : d.urg = c.urg
  pend : d.urgPend = c.urgPend
  seqs : ∀ q : Fin 4, d.seqs[q].unbegun = c.seqs[q].unbegun

section Work
variable {c d e : Conv}

theorem SameWork.refl (c : Conv) : SameWork c c := ⟨rfl, rfl, fun _ => rfl⟩

theorem SameWork.trans (h : SameWork c d) (k : SameWork d e) : SameWork c e :=
  ⟨k.urg.trans h.urg, k.pend.trans h.pend, fun q => (k.seqs q).trans (h.seqs q)⟩

theorem SameWork.ite {P : Prop} [Decidable P] (hd : SameWork c d) (he : SameWork c e) : SameWork c (if P then d else e) := by
  split <;> assumption

theorem sameWork_markBegun (c : Conv) (q : Fin 4) (k : Nat) : SameWork c (markBegun c q k) := by
  have hmark (l : List EntRun) : (l.map fun y => if y.k = k then { y with begun := true } else y).map
      (fun e => { e with begun := false }) = l.map fun e => { e with begun := false } := by
    rw [List.map_map]
    refine List.map_congr_left fun y _ => ?_
    simp only [Function.comp]
    split <;> rfl
  refine ⟨rfl, rfl, fun r => ?_⟩
  by_cases h : q = r
  · subst h
    simp only [markBegun, Fin.getElem_fin, Vector.getElem_set_self, SeqSt.unbegun, hmark]
  · simp [markBegun, show ¬ q.val = r.val from fun e => h (Fin.ext e)]

theorem sameWork_grantEntry (env : ArbEnv) (q : Fin 4) (c : Conv) (x : EntRun) (a b : Bool) :
    SameWork c (grantEntry env q c x a b).2.1 := by
  unfold grantEntry
  dsimp only
  split_ifs <;> exact ⟨rfl, rfl, fun _ => rfl⟩

theorem sameWork_grantUrgent (env : ArbEnv) (c : Conv) (u : Urgent) (t0 : Nat) : SameWork c (grantUrgent env c u t0) := by
  unfold grantUrgent
  dsimp only
  split <;> exact ⟨rfl, rfl, fun _ => rfl⟩

theorem sameWork_urgentFirst (env : ArbEnv) (c : Conv) : SameWork c (urgentFirst env c) := by
  unfold urgentFirst
  split
  · exact .ite (.refl c) (.ite (sameWork_grantUrgent ..) (.refl c))
  · exact .refl c

theorem sameWork_grantSeq (env : ArbEnv) (q : Fin 4) (l : List EntRun) (c : Conv) (a b : Bool) :
    SameWork c (grantSeq env q l c a b).1 := by
  induction l generalizing c a b with
  | nil => exact .refl c
  | cons x l ih =>
    have hgrant := sameWork_grantEntry env q c x a b
    unfold grantSeq
    dsimp only
    split
    · exact ih ..
    · split
      · exact hgrant.trans ((sameWork_markBegun ..).trans (ih ..))
      · split
        · exact hgrant.trans (ih ..)
        · exact hgrant

theorem sameWork_arbitrate (env : ArbEnv) (c : Conv) : SameWork c (arbitrate env c) := by
  have hfold (l : List (Fin 4)) : ∀ x : Conv × Bool × Bool, SameWork x.1 (l.foldl (arbitrateSeq env) x).1 := by
    induction l with
    | nil => exact fun x => .refl _
    | cons q l ih =>
      refine fun x => SameWork.trans ?_ (ih _)
      unfold arbitrateSeq
      dsimp only
      split
      · exact sameWork_grantSeq ..
      · exact .refl _
  rw [arbitrate_eq]
  exact (sameWork_urgentFirst env c).trans (hfold _ (urgentFirst env c, _, _))

end Work

/-! ### What engine operations leave alone -/

theorem cv_onCv (s : State) (p : Phys) (f : Conv → Conv) : (s.onCv p f).cv p = f (s.cv p) := by rw [State.cv, z_onCv, State.cv]

/-- The record store and the urgent conversions of slice `p`. -/
def urgents (p : Phys) (s : State) : RecStore × Option Urgent × Option Urgent := (s.store, (s.cv p).urg, (s.cv p).urgPend)

/-- They and the sequences of slice `p` other than `q`. -/
def othersWork (p : Phys) (q : Fin 4) (s : State) : (RecStore × Option Urgent × Option Urgent) × (Fin 4 → SeqSt) :=
  (urgents p s, fun r => if r = q then {} else (s.seq p r).unbegun)

/-- They and all sequences of slice `p`. -/
def work (p : Phys) (s : State) : (RecStore × Option Urgent × Option Urgent) × (Fin 4 → SeqSt) :=
  (urgents p s, fun r => (s.seq p r).unbegun)

/-- The record store and one sequence of slice `p`. -/
def oneSeq (p : Phys) (q : Fin 4) (s : State) : RecStore × SeqSt := (s.store, (s.seq p q).unbegun)

namespace ResultsKept
variable {p : Phys} {q r : Fin 4} {s t : State}

theorem asideWork (h : ResultsKept (aside p) p s t) : ResultsKept (work p) p s t :=
  h.map fun x => ((x.1, x.2.z.conv.urg, x.2.z.conv.urgPend), fun r : Fin 4 => (x.2.z.conv.seqs[r]).unbegun)

theorem workOthers (h : ResultsKept (work p) p s t) : ResultsKept (othersWork p q) p s t :=
  h.map fun x => (x.1, fun r => if r = q then ({} : SeqSt) else x.2 r)

theorem othersUrgents (h : ResultsKept (othersWork p q) p s t) : ResultsKept (urgents p) p s t := h.map Prod.fst

theorem workOne (h : ResultsKept (work p) p s t) : ResultsKept (oneSeq p q) p s t := h.map fun x => (x.1.1, x.2 q)

theorem othersOne (h : ResultsKept (othersWork p q) p s t) (hr : r ≠ q) : ResultsKept (oneSeq p r) p s t := by
  have hone (s : State) : oneSeq p r s = ((othersWork p q s).1.1, (othersWork p q s).2 r) := by
    simp only [othersWork, if_neg hr]
    rfl
  exact ⟨by rw [hone, hone, h.part], h.regs, h.grows⟩

end ResultsKept

section Engine
variable {p : Phys} (s : State) (q : Fin 4)

/-- A change of the engine that leaves a part of the state alone. -/
theorem kept_onCv {β : Type} {part : State → β} {f : Conv → Conv} (h : part (s.onCv p f) = part s) :
    ResultsKept part p s (s.onCv p f) := ⟨h, fun a _ => by rw [z_onCv], grows_onZ ..⟩

theorem kept_arbitrate : ResultsKept (work p) p s (s.onCv p (arbitrate (arbEnv s p))) := by
  obtain ⟨hurg, hpend, hseqs⟩ := sameWork_arbitrate (arbEnv s p) (s.cv p)
  refine kept_onCv s ?_
  simp only [work, urgents, State.seq, cv_onCv, hurg, hpend, hseqs]
  rfl

/-- The fields of ZC_SEQ_STAT_q stand elsewhere. -/
theorem offResults_ZC_SEQ_STAT {x : Fld} (h : (x.key, x.stride) = (R.ZC_SEQ_STAT_q.key, R.ZC_SEQ_STAT_q.stride) := by rfl) :
    onResults (x.at q.val) = false := by
  obtain ⟨hkey, hstride⟩ := Prod.mk.inj h
  rw [Fld.at, hkey, hstride]
  revert q
  decide

theorem kept_syncConv : ResultsKept (aside p) p s (syncConv s p) := by
  unfold syncConv
  refine .foldl _ (.onR .refl fun f a ha => ?_) fun t q => .onR .refl fun f a ha => ?_
  · simp only [RegFile.putNat]
    iterate 5 rw [rfGet_rfPut_off ha rfl]
  · simp only [RegFile.putBit, RegFile.putNat]
    iterate 6 rw [rfGet_rfPut_off ha (offResults_ZC_SEQ_STAT q)]

theorem kept_settle : ResultsKept (work p) p s (settle s p) := (kept_arbitrate s).trans (kept_syncConv _).asideWork

theorem seq_onSeq_ne {r : Fin 4} (h : r ≠ q) (f : SeqSt → SeqSt) : (s.onSeq p q f).seq p r = s.seq p r := by
  simp [State.onSeq, State.seq, State.cv, show ¬ q.val = r.val from fun e => h (Fin.ext e.symm)]

theorem kept_onSeq (f : SeqSt → SeqSt) : ResultsKept (othersWork p q) p s (s.onSeq p q f) := by
  refine kept_onCv s ?_
  have hurg : urgents p (s.onSeq p q f) = urgents p s := by simp [urgents, State.onSeq, State.cv]; rfl
  have hseq (r : Fin 4) : (if r = q then ({} : SeqSt) else ((s.onSeq p q f).seq p r).unbegun) =
      if r = q then {} else (s.seq p r).unbegun := by
    split
    · rfl
    · next hr => rw [seq_onSeq_ne s q hr]
  exact Prod.ext hurg (funext hseq)

theorem kept_spoilWindows : ResultsKept (aside p) p s (spoilWindows s p) := .onInp .refl

theorem kept_syncTrims : ResultsKept (aside p) p s (syncTrims s p) := ResultsKept.refl.w.wi.wi.wi.wbEvt.wbEvt

/-- A change of a slice beside its zone state leaves the work of its engine alone. -/
theorem kept_frame (f : Slice → Slice) (hf : ∀ x, (f x).z = x.z) : ResultsKept (work p) p s (s.onSl p f) := by
  have hz : (s.onSl p f).z p = s.z p := by rw [State.z, sl_onSl, hf, State.z]
  refine ⟨?_, fun a _ => by rw [hz], grows_onSl ..⟩
  simp only [work, urgents, State.seq, State.cv, hz]
  rfl

theorem kept_restartCal : ResultsKept (work p) p s (restartCal s p) := by
  have hconv : ResultsKept (work p) p s (s.onCv p fun c => { c with conv := false }) := by
    refine kept_onCv s ?_
    simp [work, urgents, State.seq, State.cv]
    rfl
  have hcal := hconv.trans (kept_frame _ (fun x => { x with
    trims := x.trims.map (fun t => { t with ofsOk := 0, gainOk := 0, skewOk := 0 }) }) fun _ => rfl)
  exact hcal.trans (ResultsKept.wbEvt .refl).asideWork

theorem kept_takeBand : ResultsKept (work p) p s (takeBand s p) := by
  have hband : ResultsKept (work p) p s (s.onCv p fun c => { c with band := c.bandNext }) := by
    refine kept_onCv s ?_
    simp [work, urgents, State.seq, State.cv]
    rfl
  refine .ite .refl (.trans (.trans ?_ (kept_restartCal _)) (kept_syncTrims _).asideWork)
  exact hband.trans (kept_spoilWindows _).w.evt.asideWork

theorem kept_startPass (e : Option Nat) : ResultsKept (othersWork p q) p s (startPass s p q e) := by
  unfold startPass
  exact (kept_takeBand s).workOthers.trans (kept_onSeq ..)

theorem kept_dropTrigger : ResultsKept (aside p) p s (dropTrigger s p q) := by
  refine .err (.evt (.bump .refl ?_))
  revert q
  decide

theorem kept_acceptTrigger (e : Option Nat) : ResultsKept (othersWork p q) p s (acceptTrigger s p q e) :=
  .ite (kept_dropTrigger ..).asideWork.workOthers
    (.ite (.ite (kept_dropTrigger ..).asideWork.workOthers (kept_onSeq ..)) (kept_startPass ..))

theorem kept_finishEnding : ResultsKept (othersWork p q) p s (finishEnding s p q) :=
  .ite (.ite ((kept_onSeq ..).trans (kept_acceptTrigger ..)) (kept_onSeq ..)) .refl

theorem kept_seqDisabled : ResultsKept (othersWork p q) p s (seqDisabled s p q) :=
  ((kept_onSeq ..).trans (kept_finishEnding ..)).trans (kept_settle _).workOthers

theorem offResults_ZC_SEQ : onResults (F.ZC_SEQ_q_EN.at q.val) = false := by revert q; decide

theorem kept_startTimer : ResultsKept (othersWork p q) p s (startTimer s p q) := kept_onSeq ..

/-- SQ1 and SQ2 stopped or started leave SQ0 alone (R177). -/
theorem kept_firmwareSeqs (on : Bool) : ResultsKept (oneSeq p 0) p s (firmwareSeqs s p on) := by
  have h1 (t : State) (q : Fin 4) (hq : 0 ≠ q) : ResultsKept (oneSeq p 0) p t
      (if on then startTimer (t.wb p F.ZC_SEQ_q_EN on q) p q else seqDisabled (t.wb p F.ZC_SEQ_q_EN on q) p q) :=
    .trans (ResultsKept.refl.wb (offResults_ZC_SEQ q)).asideWork.workOne
      (.ite ((kept_startTimer ..).othersOne hq) ((kept_seqDisabled ..).othersOne hq))
  exact (h1 s 1 (by decide)).trans (h1 _ 2 (by decide))

end Engine

end Sys2Proof.Machine

namespace Sys2Proof.Machine
open Host

/-! ### Urgent conversions (R130, R131) -/

namespace ResultsKept
variable {p : Phys} {s t : State}

theorem asideUrgents (h : ResultsKept (aside p) p s t) : ResultsKept (urgents p) p s t :=
  h.map fun x => (x.1, x.2.z.conv.urg, x.2.z.conv.urgPend)

theorem workUrgents (h : ResultsKept (work p) p s t) : ResultsKept (urgents p) p s t := h.map Prod.fst

variable (h : ResultsKept (urgents p) p s t)
include h

theorem urg : (t.cv p).urg = (s.cv p).urg := congrArg (·.2.1) h.part
theorem urgPend : (t.cv p).urgPend = (s.cv p).urgPend := congrArg (·.2.2) h.part

end ResultsKept

section Urgent
variable (s : State) (p : Phys) (u : Urgent)

/-- A change of the engine beside its urgent conversions. -/
theorem urgents_onCv (f : Conv → Conv) (hurg : (f (s.cv p)).urg = (s.cv p).urg)
    (hpend : (f (s.cv p)).urgPend = (s.cv p).urgPend) : ResultsKept (urgents p) p s (s.onCv p f) := by
  refine kept_onCv s ?_
  rw [urgents, urgents, cv_onCv, hurg, hpend]
  rfl

theorem kept_abortOn (o : Owner) : ResultsKept (urgents p) p s (abortOn s p o) := by
  unfold abortOn
  split
  · refine .trans ?_ (kept_finishEnding ..).othersUrgents
    refine .trans ?_ (urgents_onCv _ _ _ rfl rfl)
    refine .trans ?_ (kept_onSeq ..).othersUrgents
    exact ResultsKept.asideUrgents (.bump .refl)
  · exact .refl

/-- An urgent conversion in the place of those that run (R131). -/
theorem kept_startUrgent : ResultsKept (urgents p) p (s.onCv p fun c => { c with urg := some u }) (startUrgent s p u) := by
  unfold startUrgent
  dsimp only
  split
  · have hgrant (t : State) (env : ArbEnv) (n : Nat) :
        ResultsKept (urgents p) p t (t.onCv p fun c => grantUrgent env c u n) := by
      obtain ⟨hurg, hpend, -⟩ := sameWork_grantUrgent env (t.cv p) u n
      exact urgents_onCv t p _ hurg hpend
    exact .ite .refl ((kept_abortOn ..).trans (hgrant ..))
  · exact .refl

/-- A request at an engine without an urgent conversion is taken at once, at one without a waiting one it waits, and at others
it is dropped (R130). -/
def UrgentAnswered (d t : State) : Prop :=
  ((d.cv p).urg = none → (t.cv p).urg = some u ∧ (t.cv p).urgPend = (d.cv p).urgPend) ∧
  ((d.cv p).urg ≠ none → (d.cv p).urgPend = none → (t.cv p).urg = (d.cv p).urg ∧ (t.cv p).urgPend = some u) ∧
  ((d.cv p).urg ≠ none → (d.cv p).urgPend ≠ none → t.cv p = d.cv p ∧ toldCode d t (slicePage p 2) 0 0x1A20 ∧
    t.g p F.ZC_ABORT_URG_DROP = satTo (F.ZC_ABORT_URG_DROP.hi + 1 - F.ZC_ABORT_URG_DROP.lo) (d.g p F.ZC_ABORT_URG_DROP + 1))

theorem urgentAsk_answers : UrgentAnswered p u s (urgentAsk s p u) := by
  refine ⟨fun hnone => ?starts, fun hruns hnone => ?waits, fun hruns hwaits => ?drops⟩
  case starts =>
    have hkept := (kept_startUrgent s p u).trans (kept_settle _).workUrgents
    rw [urgentAsk, if_pos (Option.isNone_iff_eq_none.mpr hnone), hkept.urg, hkept.urgPend, cv_onCv]
    exact ⟨rfl, rfl⟩
  case waits =>
    have hkept := (kept_settle (s.onCv p fun c => { c with urgPend := some u })).workUrgents (p := p)
    rw [urgentAsk, if_neg (by rwa [Option.isNone_iff_eq_none]), if_pos (Option.isNone_iff_eq_none.mpr hnone), hkept.urg,
      hkept.urgPend, cv_onCv]
    exact ⟨rfl, rfl⟩
  case drops =>
    rw [urgentAsk, if_neg (by rwa [Option.isNone_iff_eq_none]), if_neg (by rwa [Option.isNone_iff_eq_none])]
    refine ⟨?_, toldCode_errP ?_ (.refl _), ?_⟩
    · rw [State.cv, z_err, z_evt, z_bump, State.cv]
    · exact ResultsKept.grows (part := aside p) (.evt (.bump .refl))
    · rw [State.g, z_err, z_evt, z_bump, nat_putNat_fit _ (by decide), fit_satTo, ← State.g]

/-- The answer as a state before and one after the request show it. -/
theorem UrgentAnswered.between {p : Phys} {u : Urgent} {d s t v : State} (h : UrgentAnswered p u s t)
    (hcv : s.cv p = d.cv p) (hcount : s.g p F.ZC_ABORT_URG_DROP = d.g p F.ZC_ABORT_URG_DROP) (hds : Grows d s)
    (hz : v.z p = t.z p) (htv : Grows t v) : UrgentAnswered p u d v := by
  obtain ⟨hstarts, hwaits, hdrops⟩ := h
  have hafter : v.cv p = t.cv p := congrArg ZoneState.conv hz
  have hshown : v.g p F.ZC_ABORT_URG_DROP = t.g p F.ZC_ABORT_URG_DROP := by rw [State.g, hz, State.g]
  rw [hcv] at hstarts hwaits hdrops
  rw [UrgentAnswered, hafter, hshown, ← hcount]
  refine ⟨hstarts, hwaits, fun hruns hpend => ?_⟩
  obtain ⟨hsame, htold, hdrop⟩ := hdrops hruns hpend
  exact ⟨hsame, htold.of_grows hds htv, hdrop⟩

end Urgent

theorem grows_stored (s : State) (p : Phys) (a : Nat) (w : Word) : Grows s (stored s p a w) := by
  rw [stored]
  exact grows_onZ ..

/-- A write of an action register that completes OK: what is told of what it starts. -/
theorem hostWrite_grows {s d u : State} {v : View} {a : Nat} {p : Phys} {w : Word} (hr : s.porchRuns = true) (hd : d = endDoze s)
    (hp : p = d.viewSlice v) (ha : ViewReg a) (hst : writeStatus d (viewAddr v a) = .ok)
    (hu : sliceAction d (stored d p a w) p a w = u) : Grows u (hostWrite s (viewAddr v a) w) := by
  rw [hostWrite_view hr hd hp ha hst, hu]
  exact (grows_touch ..).trans (grows_emit ..)

theorem sliceAction_urgent (s0 s : State) (p : Phys) : sliceAction s0 s p (R.ZC_CTRL.at 0) 0x80 =
    urgentAsk s p { host := true, cfg := (s.z p).regs.word R.ZC_URG_CFG } := rfl

/-- Settles O22: the request of the firmware is answered where it finds the slice, that of the host on the slice with the word
written. -/
theorem urgentRequests : Obligations.UrgentRequests := by
  intro s p cfg d host u hfirm hhost
  cases host with
  | false =>
    obtain ⟨rfl, hrun, rfl⟩ := hfirm rfl
    have hexec : exec (.urgentRequest p false cfg) d = .next (urgentAsk d p { host := false, cfg := cfg }) :=
      congrArg Host.Outcome.next (if_pos hrun)
    exact ⟨_, hexec, urgentAsk_cr_ne d p _, nofun, urgentAsk_answers d p _⟩
  | true =>
    obtain ⟨hd, hr, hst, rfl⟩ := hhost rfl
    have haction : actionReg (R.ZC_CTRL.at 0) = true := by decide
    have hp : p = d.viewSlice (.phys p) := rfl
    obtain ⟨t, ht, hout, hothers, hz, -⟩ := hostWrite_acts hr hd hp (by decide) hst (sliceAction_urgent ..)
      (urgentAsk_cr_ne _ p _)
    have hgrows := hostWrite_grows hr hd hp (by decide) hst (sliceAction_urgent d (stored d p (R.ZC_CTRL.at 0) 0x80) p)
    have hanswers := urgentAsk_answers (stored d p (R.ZC_CTRL.at 0) 0x80) p
      { host := true, cfg := ((stored d p (R.ZC_CTRL.at 0) 0x80).z p).regs.word R.ZC_URG_CFG }
    rw [ht] at hgrows
    have hbetween := hanswers.between (d := d) (by rw [State.cv, stored_z, State.cv]) (stored_nat d p _ haction ..)
      (grows_stored ..) hz hgrows
    rw [stored_word d p _ haction] at hbetween
    exact ⟨t, congrArg Host.Outcome.next ht, hothers, fun _ => hout, hbetween⟩

end Sys2Proof.Machine

namespace Sys2Proof.Machine
open Host

/-! ### Triggers of the sequences (R121 to R123) -/

/-- What a sequence shows of its triggers: ACTIVE, the latched trigger, and whether its pass has made a conversion. -/
def SeqSt.flags (x : SeqSt) : Bool × Bool × Bool := (x.act, x.pend, x.made)

theorem ResultsKept.flags {p : Phys} {s t : State} (h : ResultsKept (work p) p s t) (q : Fin 4) :
    (t.seq p q).flags = (s.seq p q).flags := congrArg (fun w => (w.2 q).flags) h.part

section Trigger
variable (s : State) (p : Phys) (q : Fin 4)

/-- A source's scheduled instant moves the timer of the sequence at most (R122). -/
theorem triggerEdge_ticks (x : TrigSource) :
    (triggerEdge s p q x).2 = s ∨ ∃ n, (triggerEdge s p q x).2 = s.onSeq p q ({ · with tick := n }) := by
  cases x with
  | timer => exact .inr ⟨_, rfl⟩
  | _ => exact .inl rfl

/-- The slice as its timer goes on. -/
structure Ticked (t : State) : Prop where
  flags : (t.seq p q).flags = (s.seq p q).flags
  range : badRange t p q = badRange s p q
  coll  : t.coll = s.coll
  grows : Grows s t

theorem ticked_triggerEdge (x : TrigSource) : Ticked s p q (triggerEdge s p q x).2 := by
  rcases triggerEdge_ticks s p q x with h | ⟨n, h⟩
  · rw [h]
    exact ⟨rfl, rfl, rfl, .refl s⟩
  · rw [h]
    refine ⟨by rw [seq_onSeq]; rfl, ?_, rfl, (kept_onSeq ..).grows⟩
    simp only [badRange, State.g, z_onSeq_regs]
    rfl

variable {s p q}

theorem acceptTrigger_starts (hb : badRange s p q = false) (h : (s.seq p q).act = false)
    (e : Option Nat) : ((acceptTrigger s p q e).seq p q).flags = (true, (s.seq p q).pend, false) := by
  have hband := (kept_takeBand (p := p) s).flags q
  rw [acceptTrigger_eq hb, if_neg (by simp [h]), startPass, seq_onSeq]
  simp only [SeqSt.flags, Prod.mk.injEq] at hband ⊢
  exact ⟨trivial, hband.2.1, trivial⟩

theorem acceptTrigger_latches (hb : badRange s p q = false) (h : (s.seq p q).act = true)
    (hp : (s.seq p q).pend = false) (e : Option Nat) : ((acceptTrigger s p q e).seq p q).act = true ∧
      ((acceptTrigger s p q e).seq p q).pend = true ∧ (acceptTrigger s p q e).coll = s.coll := by
  rw [acceptTrigger_eq hb, if_pos h, if_neg (by simp [hp]), seq_onSeq]
  exact ⟨h, rfl, rfl⟩

theorem acceptTrigger_drops
    (h : badRange s p q = true ∨ ((s.seq p q).act = true ∧ (s.seq p q).pend = true)) (e : Option Nat) :
    acceptTrigger s p q e = dropTrigger s p q := by
  by_cases hb : badRange s p q = true
  · exact if_pos hb
  · obtain ⟨hact, hpend⟩ := h.resolve_left hb
    rw [acceptTrigger_eq (by simpa using hb), if_pos hact, if_pos hpend]

theorem dropTrigger_tells {t : State} (h : Grows (dropTrigger s p q) t) : toldCode s t (slicePage p 2) q.val 0x4A10 ∧
    t.isrBit (slicePage p 2) EVT.ZC_DROP = true := by
  refine ⟨toldCode_errP ((grows_bump ..).trans (grows_evt ..)) h, h.isr _ _ ((grows_err ..).isr _ _ ?_)⟩
  exact isrBit_evtP _ _ (by decide)

/-- What a trigger of the sequence's source does (R123). -/
theorem seqTrigger_eq {x : TrigSource} (h : takesTrigger s p q x = true) : seqTrigger s p q x =
    settle (acceptTrigger (triggerEdge s p q x).2 p q (triggerEdge s p q x).1) p := if_pos h

end Trigger

/-- The trigger clauses of ConverterControl, case by case of what the sequence is at. -/
theorem seqTrigger_spec {s t : State} {p : Phys} {q : Fin 4} {x : TrigSource} (htakes : takesTrigger s p q x = true)
    (ht : t = seqTrigger s p q x) :
    (badRange s p q = false → (s.seq p q).act = false → (t.seq p q).flags = (true, (s.seq p q).pend, false)) ∧
    (badRange s p q = false → (s.seq p q).act = true → (s.seq p q).pend = false →
      (t.seq p q).act = true ∧ (t.seq p q).pend = true ∧ t.coll = s.coll) ∧
    (badRange s p q = true ∨ ((s.seq p q).act = true ∧ (s.seq p q).pend = true) →
      (t.seq p q).flags = (s.seq p q).flags ∧ toldCode s t (slicePage p 2) q.val 0x4A10 ∧
      t.isrBit (slicePage p 2) EVT.ZC_DROP = true) := by
  obtain ⟨hflags, hrange, hcoll, hgrows⟩ := ticked_triggerEdge s p q x
  have hflags' := hflags
  simp only [SeqSt.flags, Prod.mk.injEq] at hflags'
  obtain ⟨hact, hpend, -⟩ := hflags'
  rw [seqTrigger_eq htakes] at ht
  generalize triggerEdge s p q x = e at *
  have hsettle := kept_settle (p := p) (acceptTrigger e.2 p q e.1)
  have hshown : (t.seq p q).flags = ((acceptTrigger e.2 p q e.1).seq p q).flags := ht ▸ hsettle.flags q
  rw [← hrange, ← hact, ← hpend]
  refine ⟨fun hb h => ?_, fun hb h hp => ?_, fun h => ?_⟩
  · rw [hshown, acceptTrigger_starts hb h]
  · obtain ⟨hact', hpend', hcoll'⟩ := acceptTrigger_latches hb h hp e.1
    refine ⟨(congrArg Prod.fst hshown).trans hact', (congrArg (·.2.1) hshown).trans hpend', ?_⟩
    rw [ht, coll_settle, hcoll', hcoll]
  · rw [acceptTrigger_drops h] at ht hshown hsettle
    have hkept := (kept_dropTrigger (p := p) e.2 q).asideWork.flags q
    obtain ⟨htold, hisr⟩ := dropTrigger_tells (ht ▸ hsettle.grows)
    exact ⟨hshown.trans (hkept.trans hflags), told.of_grows hgrows htold (.refl t), hisr⟩

/-! ### Trims (R134 to R137, R515) -/

/-- Slice `p` but for its zone state, and the band its converters work in. -/
def standing (p : Phys) (s : State) : Slice × Nat := ({ s.sl p with z := {}, ckptDue := false }, (s.cv p).band)

namespace ResultsKept
variable {p : Phys} {s t : State}

theorem asideStanding (h : ResultsKept (aside p) p s t) : ResultsKept (standing p) p s t :=
  h.map fun x => ({ x.2 with z := {} }, x.2.z.conv.band)

variable (h : ResultsKept (standing p) p s t)
include h

theorem band : (t.cv p).band = (s.cv p).band := congrArg Prod.snd h.part
theorem life : (t.sl p).life = (s.sl p).life := congrArg (fun x => x.1.life) h.part
theorem running : (t.sl p).running = (s.sl p).running := congrArg (fun x => x.1.running) h.part
theorem trim : t.trim p = s.trim p := by
  have htrims : (t.sl p).trims = (s.sl p).trims := congrArg (fun x => x.1.trims) h.part
  rw [State.trim, State.trimsOf, htrims, h.band, State.trim, State.trimsOf]

end ResultsKept

section Trims
variable {p : Phys} (s : State)

/-- A change of the engine beside its band. -/
theorem standing_onCv (f : Conv → Conv) (h : (f (s.cv p)).band = (s.cv p).band) :
    ResultsKept (standing p) p s (s.onCv p f) := by
  refine kept_onCv s ?_
  rw [standing, standing, cv_onCv, h, State.onCv, State.onZ, sl_onSl]

theorem standing_judgeConv : ResultsKept (standing p) p s (judgeConv s p) :=
  .ite ((standing_onCv s _ rfl).trans (ResultsKept.wbEvt .refl).asideStanding) .refl

/-- The trims of the band in use moved, and nothing else of a slice's standing. -/
structure Trimmed (p : Phys) (f : Trims → Trims) (s t : State) : Prop where
  trim    : t.trim p = f (s.trim p)
  life    : (t.sl p).life = (s.sl p).life
  running : (t.sl p).running = (s.sl p).running
  grows   : Grows s t

variable {s} {t : State} {f : Trims → Trims}

theorem Trimmed.after (h : Trimmed p f s t) {u : State} (k : ResultsKept (standing p) p t u) : Trimmed p f s u :=
  ⟨k.trim.trans h.trim, k.life.trans h.life, k.running.trans h.running, h.grows.trans k.grows⟩

theorem trimmed_onTrims (h : ResultsKept (standing p) p s t) (hb : (s.cv p).band < 6) : Trimmed p f s (onTrims t p f) := by
  rw [← h.band] at hb
  have hset : (onTrims t p f).sl p = { t.sl p with
      trims := (t.sl p).trims.set (t.cv p).band (f (t.sl p).trims[(t.cv p).band]) hb } := by
    rw [onTrims, sl_onSl, dif_pos hb]
  have hband : ((onTrims t p f).cv p).band = (t.cv p).band :=
    (congrArg (fun x : Slice => x.z.conv.band) hset :)
  have hgrows : Grows t (onTrims t p f) := by
    rw [onTrims]
    exact grows_onSl ..
  refine ⟨?_, by rw [hset, ← h.life], by rw [hset, ← h.running], h.grows.trans hgrows⟩
  rw [← h.trim, State.trim, State.trimsOf, hband, hset, State.trim, State.trimsOf]
  simp [hb]

/-- The trims moved, shown and judged (R135, R136). -/
def trimsJudged (t : State) (p : Phys) (f : Trims → Trims) : State := judgeConv (syncTrims (onTrims t p f) p) p

theorem trimmed_judged (h : ResultsKept (standing p) p s t) (hb : (s.cv p).band < 6) : Trimmed p f s (trimsJudged t p f) :=
  ((trimmed_onTrims h hb).after (kept_syncTrims _).asideStanding).after (standing_judgeConv _)

/-! A trim at its limit. -/

theorem changeSupply_trims (x : Slice) (pw : SlicePower) (mhz band : Nat) : (changeSupply x pw mhz band).trims = x.trims := by
  have hfold (l : List SupplyStep) : ∀ x : Slice, (l.foldl supplyStep x).trims = x.trims := by
    induction l with
    | nil => exact fun x => rfl
    | cons d l ih => exact fun x => (ih _).trans (by cases d <;> rfl)
  exact hfold _ x

/-- The trims of the band that a slice's converters work in. -/
def Slice.trim (x : Slice) : Trims := x.trims.toList.getD x.z.conv.band {}

theorem core_running (x : Slice) : x.core.running = x.running := rfl

theorem sl_trim (t : State) (p : Phys) : (t.sl p).trim = t.trim p := rfl

theorem trim_of_cr {x : Slice} (h : t.cr p = x.core) : t.trim p = x.trim := (congrArg Slice.trim h :)

/-- What stopping does to a slice beside its outputs (R500). -/
def Slice.stopped (x : Slice) (band : Nat) : Slice := changeSupply { x with clamped := true, running := false } .off 0 band

theorem stopped_trim (x : Slice) (band : Nat) : (x.stopped band).trim = x.trim ∧ (x.stopped band).running = false := by
  obtain ⟨hz, -, hrun⟩ := changeSupply_same { x with clamped := true, running := false } .off 0 band
  refine ⟨?_, hrun⟩
  rw [Slice.trim, Slice.stopped, hz, changeSupply_trims, Slice.trim]

theorem stopSlice_spec (h : (t.sl p).running = true) : (stopSlice t p).trim p = t.trim p ∧
    ((stopSlice t p).cr p).running = false ∧ Grows t (stopSlice t p) := by
  have hheld := (kept_holdOutputs (p := p) t p).asideStanding
  have hstop : stopSlice t p = ((holdOutputs t p).onSl p (·.stopped t.thermal.band)).notePwrs (slicePages p) := by
    rw [stopSlice, stopSliceTo, if_pos h]
    rfl
  have hsl : (stopSlice t p).cr p = (((holdOutputs t p).sl p).stopped t.thermal.band).core := by
    rw [hstop, State.notePwrs_cr, State.cr, sl_onSl]
  obtain ⟨htrim, hrun⟩ := stopped_trim ((holdOutputs t p).sl p) t.thermal.band
  refine ⟨?_, by rw [hsl, core_running, hrun], ?_⟩
  · rw [trim_of_cr hsl, htrim, sl_trim, hheld.trim]
  · rw [hstop]
    exact (hheld.grows.trans (grows_onSl ..)).trans (grows_foldl _ (fun _ _ => grows_setIsrFrom ..) _ _)

theorem setLife_spec (l : SliceState) (c : Nat) : (setLife t p l c).cr p = { t.sl p with life := l, cause := c }.core ∧
    Grows t (setLife t p l c) := by
  have hset : (t.setSl p { t.sl p with life := l, cause := c }).cr p = { t.sl p with life := l, cause := c }.core := by
    rw [State.cr, sl_setSl_same]
  unfold setLife
  dsimp only
  split
  · exact ⟨hset, grows_setSl ..⟩
  · refine ⟨?_, (grows_setSl ..).trans ((grows_evtP ..).trans (grows_evt ..))⟩
    simpa using hset

/-- The slice fails with the code of trims and cause 6 (R137, R515). -/
theorem trimFail_spec (h : (t.sl p).running = true) : (trimFail t p).trim p = t.trim p ∧ ((trimFail t p).sl p).life = .failed ∧
    ((trimFail t p).sl p).cause = 6 ∧ ((trimFail t p).sl p).running = false ∧ toldCode t (trimFail t p) (slicePage p 2) 0 0x8A12 := by
  have hcr : (t.err p 2 0 0x8A12).cr p = t.cr p := State.err_cr ..
  obtain ⟨htrim, hstopped, hgrows⟩ := stopSlice_spec ((running_of_cr hcr).trans h)
  have hfail : trimFail t p = setLife (stopSlice (t.err p 2 0 0x8A12) p) p .failed 6 := by rw [trimFail, failSlice, if_pos rfl]
  rw [hfail]
  generalize stopSlice (t.err p 2 0 0x8A12) p = u at *
  obtain ⟨hsl, hlife⟩ := setLife_spec (p := p) (t := u) .failed 6
  exact ⟨(trim_of_cr hsl).trans (htrim.trans (trim_of_cr hcr)), (congrArg Slice.life hsl :), (congrArg Slice.cause hsl :),
    (congrArg Slice.running hsl).trans hstopped, toldCode_errP (.refl t) (hgrows.trans hlife)⟩

/-- A trim step ends with the trims moved; one that finds its limit fails the slice (R137). -/
theorem Trimmed.fails (h : Trimmed p f s t) (hrun : (s.sl p).running = true) : (trimFail t p).trim p = f (s.trim p) ∧
    ((trimFail t p).sl p).life = .failed ∧ ((trimFail t p).sl p).cause = 6 ∧ ((trimFail t p).sl p).running = false ∧
    toldCode s (trimFail t p) (slicePage p 2) 0 0x8A12 := by
  obtain ⟨htrim, hlife, hcause, hstopped, htold⟩ := trimFail_spec (h.running.trans hrun)
  exact ⟨htrim.trans h.trim, hlife, hcause, hstopped, told.of_grows h.grows htold (.refl _)⟩

theorem clampInt_within {lo hi i : Int} (hl : lo ≤ i) (hh : i ≤ hi) : clampInt lo hi i = i := by
  rw [clampInt, if_neg (by omega), if_neg (by omega)]

/-- Trims moved by an update of offset and gain to new ones (R135, R137). -/
def gainMoved (a b ofs g : Int) (t : Trims) : Trims :=
  { t with
    ofs := clampInt (-32768) 32767 ofs, gain := clampInt (-50000) 50000 g, gainLim := decide (g < -50000 ∨ 50000 < g)
    ofsOk := if -64 ≤ a ∧ a ≤ 64 then t.ofsOk + 1 else 0
    gainOk := if -100 ≤ b ∧ b ≤ 100 then t.gainOk + 1 else 0 }

/-- The slice with an update of offset and gain made. -/
def gainUpdated (s : State) (p : Phys) (a b : Int) : State :=
  trimsJudged (s.onCv p fun c => { c with ofConv1 := c.ofConv1 - 2 ^ 16 }) p
    (gainMoved a b ((s.trim p).ofs + Config.toUnits ((a : Rat) / 16)) ((s.trim p).gain + Config.toUnits ((b : Rat) / 16)))

theorem trimStep_due {a b g : Int} (hdue : 2 ^ 16 ≤ (s.cv p).ofConv1) (hg : g = (s.trim p).gain + Config.toUnits ((b : Rat) / 16)) :
    trimStep s p a b = if decide (g < -50000 ∨ 50000 < g) && !(s.trim p).gainLim then trimFail (gainUpdated s p a b) p
      else gainUpdated s p a b := by
  rw [trimStep, if_neg (Nat.not_lt.mpr hdue), hg]
  rfl

theorem trimmed_gainUpdated (a b : Int) (hb : (s.cv p).band < 6) : Trimmed p (gainMoved a b
    ((s.trim p).ofs + Config.toUnits ((a : Rat) / 16)) ((s.trim p).gain + Config.toUnits ((b : Rat) / 16))) s (gainUpdated s p a b) :=
  trimmed_judged (standing_onCv s _ rfl) hb

/-- Trims moved by an update of the skew (R135, R137). -/
def skewMoved (e k : Int) (t : Trims) : Trims := { t with skew := k, skewOk := if -2 ≤ e ∧ e ≤ 2 then t.skewOk + 1 else 0 }

/-- The slice once the slope is judged (R134). -/
def slopeJudged (s : State) (p : Phys) (ok : Bool) : State :=
  (s.onCv p fun c => { c with skewAct := ok, ofPairs := c.ofPairs - 2 ^ 20 }).wb p F.ZC_CAL_STAT_SKEW_ACT ok

theorem kept_slopeJudged (s : State) (ok : Bool) : ResultsKept (standing p) p s (slopeJudged s p ok) :=
  (standing_onCv s _ rfl).trans (ResultsKept.wb .refl).asideStanding

theorem skewStep_noSlope (e : Int) (hdue : 2 ^ 20 ≤ (s.cv p).ofPairs) : skewStep s p e false = judgeConv (slopeJudged s p false) p := by
  rw [skewStep, if_neg (Nat.not_lt.mpr hdue)]
  rfl

theorem skewStep_due {e k : Int} (hdue : 2 ^ 20 ≤ (s.cv p).ofPairs)
    (hk : k = clampInt (-256) 255 ((s.trim p).skew + clampInt (-1) 1 e)) : skewStep s p e true =
      if (k = -256 ∨ k = 255) ∧ !(s.trim p).skewLim then trimFail (trimsJudged (slopeJudged s p true) p (skewMoved e k)) p
      else trimsJudged (slopeJudged s p true) p (skewMoved e k) := by
  rw [skewStep, if_neg (Nat.not_lt.mpr hdue), hk]
  rfl

/-- The judgement of CONV shows no slope (R134, R136). -/
theorem judgeConv_skewAct (t : State) : (judgeConv t p).gb p F.ZC_CAL_STAT_SKEW_ACT = t.gb p F.ZC_CAL_STAT_SKEW_ACT := by
  have hwb (u : State) : (u.wbEvt p F.ZC_CAL_STAT_CONV true 2 EVT.ZC_CAL).gb p F.ZC_CAL_STAT_SKEW_ACT =
      u.gb p F.ZC_CAL_STAT_SKEW_ACT := by
    unfold State.wbEvt
    split
    · rfl
    · rw [State.gb, z_evt, z_wb, bit_putNat_apart _ (by decide), State.gb]
  unfold judgeConv
  dsimp only
  split
  · rw [hwb, State.gb, z_onCv, State.gb]
  · rfl

theorem slopeJudged_shows (s : State) (ok : Bool) : (slopeJudged s p ok).gb p F.ZC_CAL_STAT_SKEW_ACT = ok := by
  rw [slopeJudged, State.gb, z_wb, bit_putNat_bit1 _ (by decide)]

end Trims

/-- CAL_CONVERGE_TIMEOUT on a slice (R136). -/
def calTimedOut (s : State) (p : Phys) : State := if (s.cv p).conv then s else s.err p 2 0 0x4A11

/-- A pass told to take too long (R126). -/
def SeqSt.overdue (x : SeqSt) : SeqSt := { x with timedOut := true }

/-- Settles O44, command by command. -/
theorem converterControl : Obligations.ConverterControl := by
  intro s p hrun
  refine ⟨fun q x => ⟨fun h => ?ignored, fun h hb ha => ?starts, fun h hb ha hp => ?latched, fun h hd => ?dropped,
      fun ha ht => ?late⟩,
    fun a b h => ?noGain, fun a b g hdue hb hg => ⟨fun hl hh => ?gain, fun hg' hlim => ?gainFails⟩,
    fun e ok h => ?noSkew, fun e k hdue hb hk => ⟨?noSlope, fun hl hh => ?skew, fun hk' hlim => ?skewFails⟩,
    fun h => ?unconverged, fun h => ?converged⟩
  case ignored => exact onRunning_keeps (f := (seqTrigger · p q x)) (if_neg (by simp [h])) p
  case starts =>
    have hflags := (seqTrigger_spec h rfl).1 hb ha
    simp only [SeqSt.flags, Prod.mk.injEq] at hflags
    obtain ⟨hact, hpend, hmade⟩ := hflags
    exact ⟨_, onRunning_runs hrun (seqTrigger · p q x), seqTrigger_cr_ne s p q x, hact, hmade, hpend⟩
  case latched =>
    exact ⟨_, onRunning_runs hrun (seqTrigger · p q x), seqTrigger_cr_ne s p q x, (seqTrigger_spec h rfl).2.1 hb ha hp⟩
  case dropped =>
    obtain ⟨hflags, htold, hisr⟩ := (seqTrigger_spec h rfl).2.2 hd
    simp only [SeqSt.flags, Prod.mk.injEq] at hflags
    obtain ⟨hact, hpend, -⟩ := hflags
    exact ⟨_, onRunning_runs hrun (seqTrigger · p q x), seqTrigger_cr_ne s p q x, hact, hpend, htold, hisr⟩
  case late =>
    have hexec : exec (.sequenceActiveTimeout p q) s = .next ((s.onSeq p q .overdue).err p 2 q.val 0x4A21) := by
      refine (onRunning_runs hrun _).trans (congrArg Host.Outcome.next (if_pos ?_))
      rw [ha, ht]
      rfl
    have hseq : ((s.onSeq p q .overdue).err p 2 q.val 0x4A21).seq p q = (s.seq p q).overdue := by
      rw [State.seq, State.cv, z_err, ← State.cv, ← State.seq, seq_onSeq]
    exact ⟨_, hexec, fun r hr => (State.err_cr ..).trans (State.onSeq_cr_ne s p q _ r hr), congrArg SeqSt.timedOut hseq,
      toldCode_errP (kept_onSeq ..).grows (.refl _)⟩
  case noGain => exact onRunning_keeps (f := (trimStep · p a b)) (if_pos h) p
  case gain =>
    obtain ⟨htrim, hlife, -, -⟩ := trimmed_gainUpdated a b hb
    have hexec : trimStep s p a b = gainUpdated s p a b := (trimStep_due hdue hg).trans (if_neg (by simp; omega))
    refine ⟨_, onRunning_runs hrun (trimStep · p a b), trimStep_cr_ne s p a b, ?_⟩
    rw [hexec, htrim, hlife]
    exact ⟨(congrArg (clampInt _ _) hg.symm).trans (clampInt_within hl hh), rfl, rfl, rfl⟩
  case gainFails =>
    obtain ⟨htrim, hfailed⟩ := (trimmed_gainUpdated a b hb).fails hrun
    have hexec : trimStep s p a b = trimFail (gainUpdated s p a b) p := (trimStep_due hdue hg).trans (if_pos (by simp [hg', hlim]))
    refine ⟨_, onRunning_runs hrun (trimStep · p a b), trimStep_cr_ne s p a b, ?_⟩
    rw [hexec, htrim]
    exact ⟨congrArg (clampInt _ _) hg.symm, hfailed⟩
  case noSkew => exact onRunning_keeps (f := (skewStep · p e ok)) (if_pos h) p
  case noSlope =>
    have hkept := (kept_slopeJudged s false).trans (standing_judgeConv (p := p) _)
    refine ⟨_, onRunning_runs hrun (skewStep · p e false), skewStep_cr_ne s p e false, ?_⟩
    rw [skewStep_noSlope e hdue, hkept.trim, judgeConv_skewAct, slopeJudged_shows]
    exact ⟨rfl, rfl⟩
  case skew =>
    obtain ⟨htrim, hlife, -, -⟩ := trimmed_judged (f := skewMoved e k) (kept_slopeJudged s true) hb
    have hexec := (skewStep_due hdue hk).trans (if_neg (by simp [hl, hh]))
    refine ⟨_, onRunning_runs hrun (skewStep · p e true), skewStep_cr_ne s p e true, ?_⟩
    rw [hexec, htrim, hlife]
    exact ⟨rfl, rfl, rfl⟩
  case skewFails =>
    obtain ⟨htrim, hlife, hcause, -, htold⟩ := (trimmed_judged (f := skewMoved e k) (kept_slopeJudged s true) hb).fails hrun
    have hexec := (skewStep_due hdue hk).trans (if_pos ⟨hk', by simp [hlim]⟩)
    refine ⟨_, onRunning_runs hrun (skewStep · p e true), skewStep_cr_ne s p e true, ?_⟩
    rw [hexec, htrim]
    exact ⟨rfl, hlife, hcause, htold⟩
  case unconverged =>
    have hexec : exec (.calConvergeTimeout p) s = .next (s.err p 2 0 0x4A11) :=
      (onRunning_runs hrun (calTimedOut · p)).trans (congrArg Host.Outcome.next (if_neg (by simp [h])))
    exact ⟨_, hexec, (congrArg State.slices (err_quiet s p 2 0 0x4A11) :), toldCode_errP (.refl s) (.refl _)⟩
  case converged =>
    exact onRunning_keeps (f := (calTimedOut · p)) (if_pos h) p

end Sys2Proof.Machine

namespace Sys2Proof.Machine
open Host

/-! ### A finished SQ0 conversion and the results (R157, R176 to R181)

A capture stops and starts SQ1 and SQ2 only, so that the passes of SQ0 stand beside what its conversions bring the meter. -/

theorem ResultsKept.asideOne {p : Phys} {q : Fin 4} {s t : State} (h : ResultsKept (aside p) p s t) :
    ResultsKept (oneSeq p q) p s t := h.asideWork.workOne

section Capture
variable {p : Phys} (s : State)

theorem kept_put64 (q : Phys) {lo hi : Reg} (v : Nat) (hlo : onResults (lo.at 0) = false) (hhi : onResults (hi.at 0) = false) :
    ResultsKept (aside p) p s (s.onR q fun r => r.put64 lo hi v) := by
  refine .onR .refl fun f a ha => ?_
  rw [RegFile.put64, RegFile.putWord, RegFile.putWord, rfGet_rfPut_off ha hhi, rfGet_rfPut_off ha hlo]

/-- A capture back to the default sequences, where FAST has changed them (R177). -/
theorem kept_slowAgain (c : Bool) : ResultsKept (oneSeq p 0) p s
    (if c then (firmwareSeqs (setSq0 s p none) p true).wb p F.ZE_STAT_FAST false else s) :=
  .ite (((kept_setSq0 ..).asideOne.trans (kept_firmwareSeqs ..)).trans (ResultsKept.wb .refl).asideOne) .refl

theorem kept_capDone : ResultsKept (oneSeq p 0) p s (capDone s p) :=
  (((kept_endWait s).onCap.evt.asideOne.trans (kept_slowAgain ..)).trans (kept_syncCap _).asideOne).trans
    (ResultsKept.noteBusy .refl).asideOne

theorem kept_capTrigger : ResultsKept (oneSeq p 0) p s (capTrigger s p) := by
  have hts (t : State) : ResultsKept (aside p) p t (t.onR p fun r => r.put64 R.ZE_CAP_TS_LO R.ZE_CAP_TS_HI (s.slNow p)) :=
    kept_put64 t p _ rfl rfl
  have hfast (t : State) (ch : Nat) : ResultsKept (oneSeq p 0) p t
      ((setSq0 (holdReadings (firmwareSeqs t p false) p) p (some ch)).wb p F.ZE_STAT_FAST true) :=
    (kept_firmwareSeqs ..).trans (((kept_holdReadings _).trans (kept_setSq0 ..)).wb).asideOne
  refine .ite .refl (.trans (.trans ?_ (.ite (hfast ..) .refl)) (kept_syncCap _).asideOne)
  exact ((ResultsKept.refl.onCap.evt.trans (hts _)).asideOne).trans (ResultsKept.errIf .refl).asideOne

theorem kept_capStore (l : List Word) : ResultsKept (oneSeq p 0) p s (capStore s p l) :=
  .ite (ResultsKept.refl.onCap.trans (kept_syncCap _)).asideOne
    (.ite (.ite ((ResultsKept.onCap .refl).asideOne.trans (kept_capDone _))
      (ResultsKept.refl.onCap.trans (kept_syncCap _)).asideOne) .refl)

theorem kept_capPair (v i : Int) (a b : Bool) : ResultsKept (oneSeq p 0) p s (capPair s p v i a b) :=
  .ite .refl (.ite ((ResultsKept.onCap .refl).asideOne.trans (kept_capStore ..)) (ResultsKept.onCap .refl).asideOne)

theorem kept_capFast (c : Int) (b : Bool) (n : Nat) : ResultsKept (oneSeq p 0) p s (capFast s p c b n) := by
  have hmark (g : Capture → Capture) (l : List Word) (c : Bool) : ResultsKept (oneSeq p 0) p s
      (endWait (if c then s else capStore (s.onCap p g) p l) p) :=
    (ResultsKept.ite .refl ((ResultsKept.onCap .refl).asideOne.trans (kept_capStore ..))).trans (kept_endWait _).asideOne
  refine .ite .refl (.ite ?_ ?_)
  · exact ((hmark ..).trans (ResultsKept.onCap .refl).asideOne).trans (kept_capStore ..)
  · exact (hmark ..).trans (ResultsKept.onCap .refl).asideOne

theorem kept_capHalf : ResultsKept (oneSeq p 0) p s (capHalf s p) := by
  have hhalf {f : Meter → Meter} {g : Capture → Capture} : ResultsKept (oneSeq p 0) p s ((s.onMt p f).onCap p g) :=
    (ResultsKept.refl.onMt.onCap).asideOne
  unfold capHalf
  dsimp only
  split
  · exact hhalf
  · exact .ite (hhalf.trans (kept_capTrigger _)) hhalf

theorem kept_takeFast (isV : Bool) (c : Int) (b : Bool) (n : Nat) : ResultsKept (oneSeq p 0) p s (takeFast s p isV c b n) := by
  refine .trans (ResultsKept.asideOne (.trans (.onMt (.ite ?_ ?_)) (kept_showSynth ..))) (kept_capFast ..)
  · exact ((kept_integrate ..).trans (kept_passV ..)).trans (kept_holdPair ..)
  · exact ((kept_integrate ..).trans (kept_passI ..)).trans (kept_holdPair ..)

theorem kept_meterTake (x : ConvDone) : ResultsKept (oneSeq p 0) p s (meterTake s p x) :=
  .ite ((kept_takeFast ..).trans (kept_takeFast ..)) (.ite ((kept_takePair ..).asideOne.trans (kept_capPair ..)) .refl)

/-- What a conversion brings the meter leaves the passes of its own sequence and the results alone. -/
theorem kept_meterConversion (x : ConvDone) (d : ConvData) : ResultsKept (oneSeq p x.q) p s (meterConversion s p x d) := by
  by_cases h : x.q = 0
  · rw [meterConversion, if_neg (not_not.mpr h), h]
    exact ((kept_meterTake s x).trans (.ite (kept_capHalf _) .refl)).trans (kept_cycleEnd ..).asideOne
  · rw [meterConversion, if_pos h]
    exact .refl

end Capture

/-! ### Closings and the results (R38, R163, R204, R206) -/

/-- Slice `p` but for its zone state beside the converters. -/
def bodyOf (p : Phys) (s : State) : Slice := (s.sl p).body

namespace ResultsKept
variable {p : Phys} {s t : State}

theorem body (h : ResultsKept (aside p) p s t) : ResultsKept (bodyOf p) p s t := h.map Prod.snd

theorem onRs (h : ResultsKept (bodyOf p) p s t) {f : RecStore → RecStore} : ResultsKept (bodyOf p) p s (t.onRs f) :=
  h.trans ⟨rfl, fun _ _ => rfl, (Grows.refl t).silent rfl rfl⟩

theorem storeOnly (h : ResultsKept (bodyOf p) p s t) {u : State} (k : StoreOnly t u) : ResultsKept (bodyOf p) p s u :=
  h.trans ⟨by rw [bodyOf, k.sl, bodyOf], fun _ _ => by rw [k.z], k.grows⟩

end ResultsKept

section Closings
variable {p : Phys} (s : State) (q : Phys)

theorem kept_planTrigger : ResultsKept (aside p) p s (planTrigger s q) :=
  .ite (.ite ResultsKept.refl.onSc.bump (.onSc .refl)) .refl

theorem kept_trustFlag {x : Fld} (b trig : Bool) (hx : onResults (x.at 0) = false) :
    ResultsKept (aside p) p s (trustFlag s q x b trig) := by
  have hflag : ResultsKept (aside p) p s (s.wbEvt q x b 7 EVT.ZP_TRUST) := ResultsKept.refl.wbEvt hx
  exact .ite (hflag.trans (kept_planTrigger ..)) hflag

theorem kept_judgeMeters : ResultsKept (aside p) p s (judgeMeters s q) := by
  refine .foldl _ .refl fun t c => .errIf (.onSc (.trans (.w .refl ?_) (kept_trustFlag _ _ _ _ ?_)))
  all_goals cases c <;> rfl

theorem kept_learnPower (c : Closing) (fl : BitVec 16) (v : Vector Nat 7) : ResultsKept (aside p) p s (learnPower s q c fl v) :=
  .ite .refl (.trans (.onSc .refl) (kept_judgeMeters ..))

theorem kept_priceInterval (c : Closing) (fl : BitVec 16) (v : Vector Nat 7) :
    ResultsKept (aside p) p s (priceInterval s q c fl v) :=
  .ite (.bump .refl) (.ite ResultsKept.refl.bump.onSc.bump (ResultsKept.refl.bump).onSc)

theorem kept_showDemand (c : Closing) (imp exp : Nat) : ResultsKept (aside p) p s (showDemand s q c imp exp) := by
  have hshown {w : Word} {n k : Nat} : ResultsKept (aside p) p s (showSynth (((s.wWord q R.ZE_DMD w).w q F.ZE_NPAIRS_N n).w q
      F.ZE_SYNTH_LAST k) q) := ResultsKept.refl.wWord.w.w.trans (kept_showSynth ..)
  exact .ite (hshown.wWord.trans (kept_put64 _ _ _ rfl rfl)).evt hshown

theorem kept_onOpen (z : Zone) (no : Nat) (f : Interval → Interval) : ResultsKept (aside p) p s (onOpen s z no f) := by
  unfold onOpen
  exact .onZ .refl (fun _ => by split <;> rfl) (fun _ _ _ => by split <;> rfl)

theorem kept_takeCut (z : Zone) (e : Vector Acc 7) (synth : Rat) : ResultsKept (bodyOf p) p s (takeCut s z e synth) := by
  unfold takeCut
  split
  · exact .refl
  · dsimp only
    split
    · exact (ResultsKept.onRs .refl).trans (kept_onOpen ..).body
    · exact .onRs .refl

theorem kept_mergeBack (c : Closing) (l : List Closing) : ResultsKept (bodyOf p) p s (mergeBack s c l).1 := by
  have hmerged (f : RecStore → RecStore) (c : Prop) [Decidable c] :
      ResultsKept (bodyOf p) p s (if c then (s.onRs f).errP 4 0 0x8302 else s.onRs f) :=
    .ite ((ResultsKept.onRs .refl).trans (ResultsKept.errP .refl).body) (.onRs .refl)
  unfold mergeBack
  dsimp only
  split
  · exact hmerged ..
  · split <;> dsimp only
    · exact (hmerged ..).trans (kept_onOpen ..).onMt.onSc.body
    · exact (hmerged ..).trans (kept_onOpen ..).body

theorem kept_writeChain (z : Zone) (iv : Interval) (len fl syn : Nat) (v : Vector Nat 7) :
    ResultsKept (bodyOf p) p s (writeChain s z iv len fl syn v) := .storeOnly .refl (writeChain_spec ..).1

theorem kept_noted (c : Closing) (v : Vector Nat 7) : ResultsKept (aside p) p s (noted s q c v) :=
  ((kept_showDemand ..).trans (kept_learnPower ..)).trans (kept_priceInterval ..)

theorem kept_writeClosing (c : Closing) (l : List Closing) : ResultsKept (bodyOf p) p s (writeClosing s c l).1 := by
  have hpair {P : Prop} [Decidable P] {x y : State × List Closing} (hx : ResultsKept (bodyOf p) p s x.1)
      (hy : ResultsKept (bodyOf p) p s y.1) : ResultsKept (bodyOf p) p s (if P then x else y).1 := by split <;> assumption
  unfold writeClosing
  refine hpair ?_ (kept_mergeBack ..)
  extract_lets q v fl k s1 s2 nxt s3
  have hwritten : ResultsKept (bodyOf p) p s s3 := (kept_writeChain ..).trans (.onRs (kept_noted s1 q c v).body)
  have hopen (f : Interval → Interval) := hwritten.trans (kept_onOpen s3 c.zone c.iv.no f).body
  split
  · exact hwritten
  · exact hopen fun i => { i with carry := k }

theorem kept_writeReady (n : Nat) (l : List Closing) : ResultsKept (bodyOf p) p s (writeReady s n l) := by
  induction n generalizing s l with
  | zero => exact .onRs .refl
  | succ n ih =>
    cases l with
    | nil => exact .onRs .refl
    | cons c l =>
      unfold writeReady
      dsimp only
      split
      · exact (kept_writeClosing ..).trans (ih ..)
      · split
        · exact .onRs .refl
        · split
          · exact (kept_writeClosing ..).trans (ih ..)
          · exact ih ..

theorem kept_settleClosings : ResultsKept (bodyOf p) p s (settleClosings s q) := by
  have hcuts (t : State) (z : Zone) (l : List (Vector Acc 7 × Rat)) :
      ResultsKept (bodyOf p) p t (l.foldl (fun s c => takeCut s z c.1 c.2) t) := .foldl _ .refl fun _ _ => kept_takeCut ..
  unfold settleClosings
  refine .trans ?_ (kept_writeReady ..)
  split
  · exact (hcuts ..).trans (ResultsKept.onMt .refl).body
  · exact .refl

end Closings

end Sys2Proof.Machine

namespace Sys2Proof.Machine
open Host

/-! ### Results in their registers (R125, R139, R140) -/

theorem imageOf_lt (n : Nat) (i : Int) : imageOf n i < 2 ^ n := by
  have hpos : (0 : Int) < (2 ^ n : Nat) := by positivity
  have hlt := Int.emod_lt_of_pos i hpos
  have hge := Int.emod_nonneg i hpos.ne'
  rw [imageOf]
  omega

/-- The low word of a result holds NEW, the averaging and the code (R140). -/
structure ShowsResult (w : Word) (dec : Nat) (code : Int) : Prop where
  new  : fieldOf w 31 31 = 1
  dec  : fieldOf w 27 24 = dec
  code : fieldOf w 23 0 = imageOf 24 code

theorem showsResult_ofNat {o dec : Nat} (ho : o = 0 ∨ o = 2 ^ 30) (hdec : dec < 16) (code : Int) :
    ShowsResult (BitVec.ofNat 32 (2 ^ 31 + o + dec * 2 ^ 24 + imageOf 24 code)) dec code := by
  have hcode := imageOf_lt 24 code
  constructor <;> simp only [fieldOf, BitVec.toNat_ofNat, Nat.shiftRight_eq_div_pow]
  all_goals
    generalize imageOf 24 code = c at *
    omega

section Result
variable {s : State} {p : Phys}

/-- A result written is on show in its register. -/
theorem writeResult_shows {lo hi : Reg} {i dec : Nat} (hne : hi.at i ≠ lo.at i) (hdec : dec < 16) (code : Int) (flags : Nat)
    (ts : BitVec 24) : ShowsResult (rfGet ((writeResult s p lo hi i dec code flags ts).z p).regs (lo.at i)) dec code := by
  rw [writeResult, z_onR]
  simp only [RegFile.putWord]
  rw [rfGet_put_ne _ _ _ _ hne, rfGet_put]
  refine showsResult_ofNat ?_ hdec code
  split
  · exact .inr rfl
  · exact .inl rfl

theorem writeResult_off {lo hi : Reg} {i dec : Nat} {a : Nat} (hlo : lo.at i ≠ a) (hhi : hi.at i ≠ a) (code : Int) (flags : Nat)
    (ts : BitVec 24) : rfGet ((writeResult s p lo hi i dec code flags ts).z p).regs a = rfGet (s.z p).regs a := by
  rw [writeResult, z_onR]
  simp only [RegFile.putWord]
  rw [rfGet_put_ne _ _ _ _ hhi, rfGet_put_ne _ _ _ _ hlo]

/-- The mean of a finished entry is on show in its register (R125). -/
theorem writeEntry_shows (band : Nat) (e : EntRun) :
    ShowsResult (rfGet ((writeEntry s p band e).z p).regs (R.ZC_ENT_k_LO.at e.k)) (entDec e.cfg) (meanCode e.part.codesA) := by
  have hdec : entDec e.cfg < 16 := lt_of_le_of_lt (min_le_right ..) (by decide)
  have hlo : R.ZC_ENT_k_LO.at e.k = 0x103040 + 8 * e.k := rfl
  have hhi : R.ZC_ENT_k_HI.at e.k = 0x103044 + 8 * e.k := rfl
  have hloB : R.ZC_ENTB_k_LO.at e.k = 0x103140 + 8 * e.k := rfl
  have hhiB : R.ZC_ENTB_k_HI.at e.k = 0x103144 + 8 * e.k := rfl
  have hfirst := writeResult_shows (s := s) (p := p) (lo := R.ZC_ENT_k_LO) (hi := R.ZC_ENT_k_HI) (i := e.k) (by omega) hdec
    (meanCode e.part.codesA)
  unfold writeEntry
  dsimp only
  split
  · rw [writeResult_off (by omega) (by omega)]
    exact hfirst ..
  · exact hfirst ..

theorem onResults_ENT {k : Nat} (hk : k < 32) : onResults (R.ZC_ENT_k_LO.at k) = true := by
  have hlo : R.ZC_ENT_k_LO.at k = 0x103040 + 8 * k := rfl
  rw [hlo, onResults, decide_eq_true_eq]
  omega

end Result

/-! ### After the conversion itself (R118) -/

section After
variable {s u : State} {p : Phys} {adc : Fin 2} {d : ConvData}

/-- The reading that falls on a conversion taken, where there is one. -/
def readingsTaken (u : State) (p : Phys) (x : Option ConvDone) (d : ConvData) : State :=
  match d.reading with
  | some (n, r) => readingOf u p x n r
  | none => u

theorem readingsTaken_spec (u : State) (p : Phys) (x : Option ConvDone) (d : ConvData) :
    ResultsKept (aside p) p u (readingsTaken u p x d) ∧ ∀ q ≠ p, (readingsTaken u p x d).cr q = u.cr q := by
  unfold readingsTaken
  split
  · refine ⟨kept_readingOf .., fun q hq => ?_⟩
    unfold readingOf
    cases x <;> simp [hq]
  · exact ⟨.refl, fun _ _ => rfl⟩

/-- A state to which only closings are still to come, as the conversion left it in a part. -/
structure BeforeClosings {β : Type} (part : State → β) (p : Phys) (u v : State) : Prop where
  kept   : ResultsKept part p u v
  others : ∀ q ≠ p, v.cr q = u.cr q

/-- A conversion of a sequence: what it brings meter, outputs and readings leaves its passes alone. -/
theorem conversion_some {x : ConvDone} (h : convComplete s p adc d = (u, some x)) :
    ∃ v, conversion s p adc d = settleClosings v p ∧ BeforeClosings (oneSeq p x.q) p u v := by
  obtain ⟨hkept, hothers⟩ := readingsTaken_spec (outConversion (meterConversion u p x d) p x d) p (some x) d
  refine ⟨readingsTaken (outConversion (meterConversion u p x d) p x d) p (some x) d, ?_, ?_, fun q hq => ?_⟩
  · rw [conversion, h]
    rfl
  · exact ((kept_meterConversion ..).trans (kept_outConversion ..).asideOne).trans hkept.asideOne
  · rw [hothers q hq, outConversion_cr_ne _ _ _ _ _ hq, meterConversion_cr_ne _ _ _ _ _ hq]

/-- Any other conversion: the reading that falls on it leaves the engine alone. -/
theorem conversion_none (h : convComplete s p adc d = (u, none)) :
    ∃ v, conversion s p adc d = settleClosings v p ∧ BeforeClosings (aside p) p u v := by
  obtain ⟨hkept, hothers⟩ := readingsTaken_spec u p none d
  refine ⟨readingsTaken u p none d, ?_, hkept, hothers⟩
  rw [conversion, h]
  rfl

/-- Where nothing waits for the end of a cycle, there is nothing to close. -/
theorem settleClosings_alone (h : u.store.wait = []) : settleClosings u p = u ∨
    settleClosings u p = u.onMt p ({ · with cuts := [] }) := by
  have hcut (z : Zone) (e : Vector Acc 7) (r : Rat) : takeCut u z e r = u := by
    unfold takeCut
    rw [h]
    rfl
  have hcuts (z : Zone) (l : List (Vector Acc 7 × Rat)) : l.foldl (fun s c => takeCut s z c.1 c.2) u = u := by
    induction l with
    | nil => rfl
    | cons c l ih => rw [List.foldl_cons, hcut, ih]
  have hwrite (t : State) (ht : t.store.wait = []) : writeWaiting t = t := by
    have hstore : (fun r : RecStore => { r with wait := [] }) t.store = t.store := by rw [← ht]
    rw [writeWaiting, ht]
    exact congrArg (fun r => { t with store := r }) hstore
  unfold settleClosings
  split
  · rw [hcuts]
    exact .inr (hwrite _ h)
  · exact .inl (hwrite _ h)

theorem settleClosings_cr_ne (h : u.store.wait = []) {q : Phys} (hq : q ≠ p) : (settleClosings u p).cr q = u.cr q := by
  rcases settleClosings_alone (p := p) h with hs | hs <;> rw [hs]
  exact State.onZ_cr_ne _ _ _ _ hq

end After

end Sys2Proof.Machine

namespace Sys2Proof.Machine
open Host

/-! ### The completion of a sequence's conversion (R116, R123 to R125) -/

section Complete
variable (s : State) (p : Phys) (q : Fin 4)

/-- A pass that may end with a conversion (R123, R124). -/
def passClosed (s : State) (p : Phys) (q : Fin 4) (ending : Bool) : State :=
  if ending then finishEnding s p q else if (s.seq p q).live.isEmpty then endPass s p q else s

theorem urgents_acceptTrigger (e : Option Nat) : ResultsKept (urgents p) p s (acceptTrigger s p q e) :=
  (kept_acceptTrigger ..).othersUrgents

theorem urgents_chainTriggers : ResultsKept (urgents p) p s (chainTriggers s p q) :=
  .foldl _ .refl fun _ _ => .ite (urgents_acceptTrigger ..) .refl

theorem urgents_endPass : ResultsKept (urgents p) p s (endPass s p q) := by
  have hended (f : SeqSt → SeqSt) (g b : Nat) : ResultsKept (urgents p) p s ((s.onSeq p q f).evt p g b) :=
    (kept_onSeq ..).othersUrgents.trans (ResultsKept.evt .refl).asideUrgents
  exact .trans (.ite ((hended ..).trans (urgents_acceptTrigger ..)) (hended ..)) (urgents_chainTriggers ..)

theorem urgents_passClosed (b : Bool) : ResultsKept (urgents p) p s (passClosed s p q b) :=
  .ite (kept_finishEnding ..).othersUrgents (.ite (urgents_endPass ..) .refl)

/-- Whether a conversion of an entry is the first of its pass and fell late (R128). -/
def lateFirst (s : State) (p : Phys) (q : Fin 4) (e : EntRun) : Bool :=
  !(s.seq p q).made && lateBy (if entMode e.cfg = 1 then (s.cv p).b.hold else (s.cv p).a.hold) (s.seq p q).edge

/-- The codes that a conversion brings an entry. -/
def codesOf (s : State) (p : Phys) (q : Fin 4) (e : EntRun) (d : ConvData) : (Int × Bool × Nat) × (Int × Bool × Nat) × Nat :=
  channelCodes s p (s.seq p q).band e.cfg (entMode e.cfg == 3 && bitOf (s.cv p).swaps e.k) d

/-- An entry with the conversion it has made. -/
def entryAdvanced (s : State) (p : Phys) (q : Fin 4) (e : EntRun) (d : ConvData) : EntRun :=
  addConversion e (codesOf s p q e d).1 (codesOf s p q e d).2.1 (codesOf s p q e d).2.2 (lateFirst s p q e)

/-- Whether an entry has all the conversions of its average (R125). -/
def EntRun.full (e : EntRun) : Bool := decide (2 ^ entDec e.cfg ≤ e.part.codesA.length)

/-- The pass of an entry whose average goes on, with the entry as it stands now. -/
def passAdvanced (s : State) (p : Phys) (q : Fin 4) (e e' : EntRun) : State :=
  let s1 := s.onCv p fun c => freeOwner c (.seq q e.k) e.k (entMode e.cfg) (entMode e.cfg == 3 && bitOf (s.cv p).swaps e.k)
  let s2 := if lateFirst s p q e then s1.bump p F.ZC_ABORT_LATE else s1
  s2.onSeq p q fun x => { x with
    made := true, late := if x.made then x.late else lateFirst s p q e,
    live := if e'.full then x.live.filter (fun y => y.k != e.k) else x.live.map (fun y => if y.k = e.k then e' else y) }

theorem seqComplete_eq (e : EntRun) (d : ConvData) : ∃ x, x.q = q ∧ seqComplete s p q e d =
    (settle (passClosed (if (entryAdvanced s p q e d).full then
        writeEntry (passAdvanced s p q e (entryAdvanced s p q e d)) p (s.seq p q).band (entryAdvanced s p q e d)
      else passAdvanced s p q e (entryAdvanced s p q e d)) p q (s.seq p q).ending) p, x) := ⟨_, rfl, rfl⟩

theorem urgents_freed (o : Owner) (k m : Nat) (b : Bool) : ResultsKept (urgents p) p s (s.onCv p (freeOwner · o k m b)) :=
  urgents_onCv s p _ rfl rfl

theorem urgents_passAdvanced (e e' : EntRun) : ResultsKept (urgents p) p s (passAdvanced s p q e e') := by
  have hlate (t : State) (c : Prop) [Decidable c] : ResultsKept (urgents p) p t (if c then t.bump p F.ZC_ABORT_LATE else t) :=
    ResultsKept.asideUrgents (.ite (.bump .refl) .refl)
  unfold passAdvanced
  exact ((urgents_freed ..).trans (hlate ..)).trans (kept_onSeq ..).othersUrgents

variable {s p q} {e : EntRun} {d : ConvData}

theorem passAdvanced_live {e' : EntRun} (h : e'.full = false) : ((passAdvanced s p q e e').seq p q).live =
    (s.seq p q).live.map fun y => if y.k = e.k then e' else y := by
  have hfreed (t : State) (c : Prop) [Decidable c] (n : Nat) : (if c then t.bump p F.ZC_ABORT_LATE n else t).cv p = t.cv p := by
    split
    · rw [State.cv, z_bump, State.cv]
    · rfl
  rw [passAdvanced, seq_onSeq, State.seq, hfreed, State.cv, z_onCv, h]
  rfl

theorem ResultsKept.urgentsStore {t : State} (h : ResultsKept (urgents p) p s t) : t.store = s.store := congrArg Prod.fst h.part

theorem store_writeEntry (band : Nat) : (writeEntry s p band e).store = s.store := by
  unfold writeEntry
  dsimp only
  split <;> rfl

/-- The conversion that fills an entry's average leaves the mean in the entry's register. -/
theorem seqComplete_full (hk : e.k < 32) (h : (entryAdvanced s p q e d).full = true) : ∃ t x, seqComplete s p q e d = (t, x) ∧
    x.q = q ∧ t.store = s.store ∧ ShowsResult (rfGet (t.z p).regs (R.ZC_ENT_k_LO.at e.k)) (entDec e.cfg)
      (meanCode (entryAdvanced s p q e d).part.codesA) := by
  obtain ⟨x, hq, heq⟩ := seqComplete_eq s p q e d
  rw [h, if_pos rfl] at heq
  have hshows := writeEntry_shows (s := passAdvanced s p q e (entryAdvanced s p q e d)) (p := p) (s.seq p q).band
    (entryAdvanced s p q e d)
  have hstore := (store_writeEntry (p := p) (e := entryAdvanced s p q e d) (s.seq p q).band).trans
    (urgents_passAdvanced s p q e (entryAdvanced s p q e d)).urgentsStore
  generalize writeEntry (passAdvanced s p q e (entryAdvanced s p q e d)) p (s.seq p q).band (entryAdvanced s p q e d) = w at *
  have hkept := (urgents_passClosed w p q (s.seq p q).ending).trans (kept_settle _).workUrgents
  refine ⟨_, x, heq, hq, hkept.urgentsStore.trans hstore, ?_⟩
  rw [hkept.regs _ (onResults_ENT hk)]
  exact hshows

/-- A conversion before the last of an entry's average leaves the entry in its pass with what it brought it. -/
theorem seqComplete_partial (hk : e.k < 32) (hlive : e ∈ (s.seq p q).live) (hend : (s.seq p q).ending = false)
    (h : (entryAdvanced s p q e d).full = false) : ∃ t x, seqComplete s p q e d = (t, x) ∧ x.q = q ∧ t.store = s.store ∧
      (∃ f ∈ (t.seq p q).unbegun.live, f.k = e.k ∧ f.part.codesA = (entryAdvanced s p q e d).part.codesA) ∧
      rfGet (t.z p).regs (R.ZC_ENT_k_LO.at e.k) = rfGet (s.z p).regs (R.ZC_ENT_k_LO.at e.k) := by
  obtain ⟨x, hq, heq⟩ := seqComplete_eq s p q e d
  have hpass := urgents_passAdvanced s p q e (entryAdvanced s p q e d)
  have hentries := passAdvanced_live (s := s) (p := p) (q := q) (e := e) h
  have hmem : entryAdvanced s p q e d ∈ ((passAdvanced s p q e (entryAdvanced s p q e d)).seq p q).live := by
    rw [hentries]
    exact List.mem_map.mpr ⟨e, hlive, if_pos rfl⟩
  have hopen : ((passAdvanced s p q e (entryAdvanced s p q e d)).seq p q).live.isEmpty = false := by
    simpa using List.ne_nil_of_mem hmem
  rw [h, if_neg Bool.false_ne_true, hend, passClosed, if_neg Bool.false_ne_true, hopen, if_neg Bool.false_ne_true] at heq
  generalize passAdvanced s p q e (entryAdvanced s p q e d) = w at *
  have hsettle := kept_settle (p := p) w
  have hseq : ((settle w p).seq p q).unbegun = (w.seq p q).unbegun := congrArg (fun x => x.2 q) hsettle.part
  refine ⟨_, x, heq, hq, hsettle.workUrgents.urgentsStore.trans hpass.urgentsStore, ?_, ?_⟩
  · rw [hseq]
    exact ⟨_, List.mem_map.mpr ⟨_, hmem, rfl⟩, rfl, rfl⟩
  · rw [hsettle.regs _ (onResults_ENT hk), hpass.regs _ (onResults_ENT hk)]

end Complete

end Sys2Proof.Machine

namespace Sys2Proof.Machine
open Host

/-! ### The completion of an urgent conversion (R130, R132) -/

section UrgentEnd
variable (s : State) (p : Phys) (d : ConvData)

/-- The urgent conversion that waits takes the place of the one that has ended. -/
def urgentNext (w : State) (p : Phys) (o : Option Urgent) : State :=
  match o with
  | some v => startUrgent (w.onCv p fun c => { c with urgPend := none }) p v
  | none => w

theorem urgentNext_spec {w : State} {o : Option Urgent} (hurg : (w.cv p).urg = none) (hpend : (w.cv p).urgPend = o) :
    ResultsKept State.store p w (urgentNext w p o) ∧ ((urgentNext w p o).cv p).urg = o ∧
      ((urgentNext w p o).cv p).urgPend = none := by
  cases o with
  | none => exact ⟨.refl, hurg, hpend⟩
  | some v =>
    have hstart := kept_startUrgent (w.onCv p fun c => { c with urgPend := none }) p v
    have hset (t : State) (f : Conv → Conv) : ResultsKept State.store p t (t.onCv p f) := kept_onCv t rfl
    have hcv : (((w.onCv p fun c => { c with urgPend := none }).onCv p fun c => { c with urg := some v }).cv p) =
        { w.cv p with urgPend := none, urg := some v } := by
      rw [cv_onCv, cv_onCv]
    exact ⟨((hset ..).trans (hset ..)).trans (hstart.map Prod.fst), hstart.urg.trans (congrArg Conv.urg hcv),
      hstart.urgPend.trans (congrArg Conv.urgPend hcv)⟩

/-- The code of an urgent conversion that ends (R133, R139). -/
def urgentCode (s : State) (p : Phys) (u : Urgent) (d : ConvData) : Int × Bool :=
  clipCode (corrected p (u.conv == 1) (s.cv p).band (s.trim p) (if (u.conv == 1) then (s.cv p).b else (s.cv p).a).now
    (if (u.conv == 1) then d.rawB else d.rawA))

/-- The converter of an urgent conversion freed. -/
def urgentFreed (s : State) (p : Phys) : State :=
  s.onCv p fun c => { freeOwner c .urgent 0 0 false with urg := none, urgHold := false }

/-- The result of a host's urgent conversion written (R132). -/
def urgentShown (s : State) (p : Phys) (u : Urgent) (d : ConvData) : State :=
  (writeResult (urgentFreed s p) p R.ZC_URG_LO R.ZC_URG_HI 0 0 (urgentCode s p u d).1
    (resultFlags false false (urgentCode s p u d).2 (!(s.cv p).conv) u.conv (s.cv p).band)
    (tsOf (if (u.conv == 1) then (s.cv p).b else (s.cv p).a).hold)).evt p 2 EVT.ZC_URG_DONE

theorem urgentComplete_eq {u : Urgent} (h : (s.cv p).urg = some u) : urgentComplete s p d =
    settle (urgentNext (if u.host then urgentShown s p u d else urgentFreed s p) p (s.cv p).urgPend) p := by
  unfold urgentComplete
  dsimp only
  split
  next hnone =>
    rw [h] at hnone
    cases hnone
  next v hsome =>
    rw [h] at hsome
    cases hsome
    rfl

theorem urgentFreed_cv : ((urgentFreed s p).cv p).urg = none ∧ ((urgentFreed s p).cv p).urgPend = (s.cv p).urgPend := by
  rw [urgentFreed, State.cv, z_onCv]
  exact ⟨rfl, rfl⟩

theorem urgentShown_spec (u : Urgent) : (urgentShown s p u d).cv p = (urgentFreed s p).cv p ∧
    (urgentShown s p u d).store = s.store ∧ (urgentShown s p u d).isrBit (slicePage p 2) EVT.ZC_URG_DONE = true ∧
    ShowsResult (rfGet ((urgentShown s p u d).z p).regs (R.ZC_URG_LO.at 0)) 0 (urgentCode s p u d).1 := by
  have hquiet (t : State) (g b : Nat) : (t.evt p g b).store = t.store := (congrArg State.store (evt_quiet t p g b) :)
  refine ⟨?_, hquiet .., isrBit_evtP _ _ (by decide), ?_⟩
  · rw [urgentShown, State.cv, z_evt, writeResult, onR_conv]
    rfl
  · rw [urgentShown, z_evt]
    exact writeResult_shows (by decide) (by decide) _ _ _

/-- A completed urgent conversion gives its place to the one that waits; a host's is on show and told. -/
theorem urgentComplete_spec {u : Urgent} {t : State} (h : (s.cv p).urg = some u) (ht : t = urgentComplete s p d) :
    t.store = s.store ∧ (t.cv p).urg = (s.cv p).urgPend ∧ (t.cv p).urgPend = none ∧
      (u.host = true → ShowsResult (rfGet (t.z p).regs (R.ZC_URG_LO.at 0)) 0 (urgentCode s p u d).1 ∧
        t.isrBit (slicePage p 2) EVT.ZC_URG_DONE = true) := by
  obtain ⟨hurg, hpend⟩ := urgentFreed_cv s p
  obtain ⟨hcv, hstore, hisr, hshows⟩ := urgentShown_spec s p d u
  rw [urgentComplete_eq s p d h] at ht
  have hfound : ((if u.host then urgentShown s p u d else urgentFreed s p).cv p) = (urgentFreed s p).cv p ∧
      (if u.host then urgentShown s p u d else urgentFreed s p).store = s.store := by
    split
    · exact ⟨hcv, hstore⟩
    · exact ⟨rfl, rfl⟩
  obtain ⟨hnext, hnexturg, hnextpend⟩ := urgentNext_spec p (w := if u.host then urgentShown s p u d else urgentFreed s p)
    (by rw [hfound.1, hurg]) (by rw [hfound.1, hpend])
  generalize urgentNext (if u.host then urgentShown s p u d else urgentFreed s p) p (s.cv p).urgPend = w at *
  have hsettle := (kept_settle (p := p) w).workUrgents
  have hkept := hnext.trans (hsettle.map Prod.fst)
  rw [ht]
  refine ⟨hkept.part.trans hfound.2, hsettle.urg.trans hnexturg, hsettle.urgPend.trans hnextpend, fun hhost => ?_⟩
  rw [hhost, if_pos rfl] at hkept
  rw [hkept.regs _ (by decide)]
  exact ⟨hshows, hkept.grows.isr _ _ hisr⟩

end UrgentEnd

/-! ### What a conversion is (R118) -/

section Converts
variable {s u v : State} {p : Phys} {adc : Fin 2} {d : ConvData} {x : Adc}

/-- What the converter was converting for. -/
theorem own_of_converter (hx : x = if adc = 0 then (s.cv p).a else (s.cv p).b) :
    (if adc = 0 then (s.cv p).a.own else (s.cv p).b.own) = x.own := by
  rw [hx, apply_ite Adc.own]

theorem convComplete_none (hx : x = if adc = 0 then (s.cv p).a else (s.cv p).b) (ho : x.own = .none) :
    convComplete s p adc d = (s, none) := by
  unfold convComplete
  dsimp only
  rw [own_of_converter hx, ho]

theorem convComplete_urgent (hx : x = if adc = 0 then (s.cv p).a else (s.cv p).b) (ho : x.own = .urgent) :
    convComplete s p adc d = (urgentComplete s p d, none) := by
  unfold convComplete
  dsimp only
  rw [own_of_converter hx, ho]

theorem convComplete_seq {q : Fin 4} {k : Nat} {e : EntRun} (hx : x = if adc = 0 then (s.cv p).a else (s.cv p).b)
    (ho : x.own = .seq q k) (he : (s.seq p q).live.find? (fun y => y.k == k) = some e) :
    convComplete s p adc d = ((seqComplete s p q e d).1, some (seqComplete s p q e d).2) := by
  have hfound : ((s.cv p).seqs[q]).live.find? (fun y => y.k == k) = some e := he
  unfold convComplete
  dsimp only
  rw [own_of_converter hx, ho]
  dsimp only
  rw [hfound]

/-- A conversion leaves the other slices as they were, where no closing waits. -/
theorem conversion_others (hu : (convComplete s p adc d).1 = u) (hv : ∀ q ≠ p, v.cr q = u.cr q) (hstore : v.store = s.store)
    (h : s.store.wait = []) : othersKept s (settleClosings v p) p := fun q hq => by
  have hcr : (settleClosings v p).cr q = s.cr q := by
    rw [settleClosings_cr_ne (by rw [hstore, h]) hq, hv q hq, ← hu, convComplete_cr_ne _ _ _ _ _ hq]
  exact hcr

/-- A conversion of an entry on show after all that follows it. -/
theorem conversion_keeps {w : State} {x : ConvDone} (h : convComplete s p adc d = (w, some x)) (hstore : w.store = s.store) :
    (s.store.wait = [] → othersKept s (conversion s p adc d) p) ∧
    (∀ a, onResults a = true → rfGet ((conversion s p adc d).z p).regs a = rfGet (w.z p).regs a) ∧
    ((conversion s p adc d).seq p x.q).unbegun = (w.seq p x.q).unbegun := by
  obtain ⟨v, hconv, hkept, hothers⟩ := conversion_some h
  have hclosed := kept_settleClosings (p := p) v p
  have hseq : ((settleClosings v p).seq p x.q).unbegun = (v.seq p x.q).unbegun :=
    (congrArg (fun y : Slice => (y.z.conv.seqs[x.q]).unbegun) hclosed.part :)
  rw [hconv]
  refine ⟨conversion_others (congrArg Prod.fst h) hothers ((congrArg Prod.fst hkept.part).trans hstore),
    fun a ha => (hclosed.regs a ha).trans (hkept.regs a ha), hseq.trans (congrArg Prod.snd hkept.part)⟩

/-- A conversion that is none of a sequence, after all that follows it. -/
theorem conversion_keeps_engine {w : State} (h : convComplete s p adc d = (w, none)) (hstore : w.store = s.store) :
    (s.store.wait = [] → othersKept s (conversion s p adc d) p) ∧
    (∀ a, onResults a = true → rfGet ((conversion s p adc d).z p).regs a = rfGet (w.z p).regs a) ∧
    (conversion s p adc d).cv p = w.cv p ∧ Grows w (conversion s p adc d) := by
  obtain ⟨v, hconv, hkept, hothers⟩ := conversion_none h
  have hbody := hkept.body.trans (kept_settleClosings v p)
  rw [hconv]
  exact ⟨conversion_others (congrArg Prod.fst h) hothers ((congrArg Prod.fst hkept.part).trans hstore), hbody.regs,
    (congrArg (fun y : Slice => y.z.conv) hbody.part :), hbody.grows⟩

theorem setSl_sl (s : State) (p : Phys) : s.setSl p (s.sl p) = s :=
  congrArg (fun v => { s with slices := v }) (Vector.set_getElem_self ..)

/-- A slice without cycles that ended an interval keeps its meter. -/
theorem cuts_gone (h : (s.mt p).cuts = []) : s.onMt p ({ · with cuts := [] }) = s := by
  have hmeter : { (s.sl p).z.meter with cuts := [] } = (s.sl p).z.meter := by rw [← h, State.mt, State.z]
  rw [State.onMt, State.onZ, State.onSl, hmeter]
  exact setSl_sl s p

end Converts

/-- Settles O45, by what the converter was converting for. -/
theorem conversionResults : Obligations.ConversionResults := by
  intro s p adc d x hrun hx
  have hexec : exec (.conversionComplete p adc d) s = .next (conversion s p adc d) :=
    onRunning_runs hrun (conversion · p adc d)
  refine ⟨fun q k e codes hk ho he hcodes => ?seq, fun u one ho hu hone => ?urgent, fun ho hr hw hc => ?idle⟩
  case seq =>
    have hek : e.k = k := by simpa using List.find?_some he
    subst hek
    have hsame : codes = (entryAdvanced s p q e d).part.codesA := hcodes
    have hconv := convComplete_seq (d := d) hx ho he
    refine ⟨fun hfull => ?full, fun hpart hend => ?part⟩
    case full =>
      obtain ⟨t, y, ht, hy, hstore, hshows⟩ := seqComplete_full (s := s) (p := p) (q := q) (e := e) (d := d) hk
        (by rw [EntRun.full, ← hsame]; exact decide_eq_true hfull)
      rw [ht] at hconv
      obtain ⟨hothers, hregs, -⟩ := conversion_keeps hconv hstore
      rw [← hsame, ← hregs _ (onResults_ENT hk)] at hshows
      exact ⟨_, hexec, hothers, beq_iff_eq.mpr hshows.new, hshows.code, hshows.dec⟩
    case part =>
      obtain ⟨t, y, ht, hy, hstore, hlive, hkept⟩ := seqComplete_partial (d := d) hk (List.mem_of_find?_eq_some he) hend
        (by rw [EntRun.full, ← hsame]; exact decide_eq_false (Nat.not_le.mpr hpart))
      rw [ht] at hconv
      obtain ⟨hothers, hregs, hseq⟩ := conversion_keeps hconv hstore
      subst hy
      rw [← hseq, ← hsame] at hlive
      obtain ⟨f, hf, hfk, hfcodes⟩ := hlive
      obtain ⟨g, hg, rfl⟩ := List.mem_map.mp hf
      exact ⟨_, hexec, hothers, ⟨g, hg, hfk, hfcodes⟩, (hregs _ (onResults_ENT hk)).trans hkept⟩
  case urgent =>
    obtain ⟨hstore, hurg, hpend, hhost⟩ := urgentComplete_spec s p d hu rfl
    have hconv := convComplete_urgent (d := d) hx ho
    obtain ⟨hothers, hregs, hcv, hgrows⟩ := conversion_keeps_engine hconv hstore
    refine ⟨_, hexec, hothers, by rw [hcv, hurg], by rw [hcv, hpend], fun hh => ?_⟩
    obtain ⟨hshows, hisr⟩ := hhost hh
    rw [← hregs _ (by decide)] at hshows
    refine ⟨beq_iff_eq.mpr hshows.new, hgrows.isr _ _ hisr, hshows.code.trans ?_⟩
    rw [urgentCode, hone]
    split <;> rfl
  case idle =>
    have hsettle : conversion s p adc d = settleClosings s p := by
      rw [conversion, convComplete_none hx ho, hr]
    have hsame : settleClosings s p = s := (settleClosings_alone hw).elim id fun h => h.trans (cuts_gone hc)
    rw [hexec, hsettle, hsame]

end Sys2Proof.Machine

namespace Sys2Proof.Machine
open Host

/-! ### Markers of any result (R338, R340) -/

/-- The first marker that a zone writes for a command under way stands with its result; the command goes on being known. -/
theorem markZone_marks {s : State} {x : Exec} (h : Unmarked s x) (z : Zone) (r re : Nat) (v : Word) :
    (markZone s x.lseq z r re v).zoneMarker x.lseq z = some (r, re, v) ∧
    (markZone s x.lseq z r re v).journal.handover = [] ∧
    (markZone s x.lseq z r re v).runningOf x.lseq = s.runningOf x.lseq := by
  obtain ⟨⟨a, ha, rfl, hint⟩, hfresh, hheld⟩ := h
  have hnew : marked s a.x.lseq z.val = false := by simp [marked, hfresh]
  have heq : markZone s a.x.lseq z r re v = fillRules (addEntry s
      ⟨a.x.source, .mark a.x.seq a.x.opcode a.x.lseq z.val false (completes s a.x z.val) r re v⟩) := by
    simp [markZone, ha, hnew, endInternal, hint]
  rw [heq]
  exact ⟨by simp [State.zoneMarker, markersOf_addEntry hfresh], by simpa using hheld, by simp⟩

/-! ### A command with its marker taken (R343 to R345) -/

section Taken
variable {s t u : State} {x : Exec} {z : Zone} {p : Phys} (h : aboutToTake s x z p)
include h

/-- A command is taken by its effect, where this leaves the inbox, TAKEN and what the porch holds back. -/
theorem zoneCommand_of_takeNew (ht : takeNew (taking s p x) p z x = t) (hheld : t.journal.handover = [])
    (hin : (t.sl p).inbox = ((taking s p x).sl p).inbox) (htaken : (t.z p).taken = ((taking s p x).z p).taken) :
    zoneCommand s x = t ∧ hasTaken s t x p := by
  refine ⟨by rw [zoneCommand_eq_deliver h, ht, deliver_nothing hheld], ?_, ?_, fun q hq => ?_⟩
  · rw [hin]
    simp [taking, raiseTaken, State.onZ]
  · rw [htaken, taking_z]
  · show t.cr q = s.cr q
    rw [← ht, takeNew_cr_ne _ _ _ _ _ hq, taking, raiseTaken_cr_ne _ _ _ _ hq, State.onSl_cr_ne _ _ _ _ hq]

/-- A command is taken by an effect that ends with its marker. -/
theorem zoneCommand_of_marked {r re : Nat} {v : Word} (ht : takeNew (taking s p x) p z x = markZone u x.lseq z r re v)
    (hin : (u.sl p).inbox = ((taking s p x).sl p).inbox) (htaken : (u.z p).taken = ((taking s p x).z p).taken)
    (hun : Unmarked u x) :
    ∃ t, zoneCommand s x = t ∧ hasTaken s t x p ∧ t.zoneMarker x.lseq z = some (r, re, v) ∧ t.z p = u.z p := by
  obtain ⟨hmarker, hheld, -⟩ := markZone_marks hun z r re v
  have hcr : (markZone u x.lseq z r re v).cr p = u.cr p := markZone_cr ..
  have hinbox : ((markZone u x.lseq z r re v).sl p).inbox = (u.sl p).inbox := (congrArg Slice.inbox hcr :)
  obtain ⟨hzone, hhas⟩ := zoneCommand_of_takeNew h ht hheld (hinbox.trans hin) (by rw [z_of_cr hcr, htaken])
  exact ⟨_, hzone, hhas, hmarker, z_of_cr hcr⟩

end Taken

/-! ### The loop's part under modes, tunes and plans (R216, R241, R275) -/

section Loops
variable (s : State) (p : Phys)

@[simp] theorem z_onLp (f : Loop → Loop) : (s.onLp p f).z p = { s.z p with loop := f (s.z p).loop } := z_onZ ..
@[simp] theorem z_noteBusy (b : State) (q : Phys) : (noteBusy b q s).z p = s.z p := z_of_quiet (noteBusy_quiet ..) p

theorem planTrigger_loop : (planTrigger s p).lp p = s.lp p := by
  simp only [planTrigger, startPlan, State.onSc, State.lp]
  split_ifs <;> simp

/-- A plan's trigger writes the counter of coalesced triggers alone (R275). -/
theorem planTrigger_word {r : Reg} {i : Nat} (h : F.ZP_CNT_COALESCED.at 0 ≠ r.at i) :
    ((planTrigger s p).z p).regs.word r i = (s.z p).regs.word r i := by
  simp only [planTrigger, startPlan, State.onSc]
  split_ifs
  · simp [RegFile.word, rfGet_putNat_ne _ h]
  · simp
  · rfl

theorem tuneStopped_loop (reason : Nat) : (tuneStopped s p reason).lp p = { s.lp p with tune := none } := by
  simp [tuneStopped, State.lp]

theorem failTune_loop (reason : Nat) : (failTune s p reason).lp p = { s.lp p with tune := none } := by
  unfold failTune
  split
  · rw [tuneFault_eq, ← tuneStopped_loop s p reason]
    cases s.zoneOf p with
    | none => rfl
    | some z => exact congrArg ZoneState.loop (z_of_cr (markZone_cr ..))
  · next hnone =>
    rw [← hnone]

/-- The loop's part after a mode command (R218); that a panel boost ends is the model's choice (notes/assumptions/27). -/
theorem applyMode_loop (m : Nat) : (applyMode s p m).lp p = { s.lp p with
    cmd := m, pboost := 0, tune := none,
    prior := if isTimed m && !isTimed (s.lp p).cmd then (s.lp p).cmd else (s.lp p).prior,
    remain := if isTimed m then timedSeconds s p m else 0 } := by
  rw [applyMode, planTrigger_loop, failTune_loop]
  simp [setCommand, showMode, State.lp]

theorem confined_setCommand (m : Nat) : Confined p s (setCommand s p m) :=
  ((((Confined.refl p s).onLp).w rfl).w rfl).wb rfl

/-- A mode command leaves images, inbox and TAKEN, and another command unmarked. -/
theorem applyMode_keeps {x : Exec} (h : Unmarked s x) (hne : ∀ u, (s.lp p).tune = some u → u.lseq ≠ x.lseq) (m : Nat) :
    ImagesKept p s (applyMode s p m) ∧ Unmarked (applyMode s p m) x := by
  have hset := confined_setCommand s p m
  have htune : ((setCommand s p m).lp p).tune = (s.lp p).tune := by simp [setCommand, showMode, State.lp]
  obtain ⟨hkept, hun⟩ := failTune_keeps (h.of_journal (journal_of_still hset.still))
    (fun u hu => hne u (htune ▸ hu)) 6
  have hplan := confined_planTrigger p (failTune (setCommand s p m) p 6)
  exact ⟨(hset.toImagesKept.trans hkept).trans hplan.toImagesKept, hun.of_journal (journal_of_still hplan.still)⟩

end Loops

/-! ### The bins of the learner (R265) -/

section Bins
variable (s : State) (p : Phys)

theorem binAt_of_word {t : State} {b : Nat}
    (h : (t.z p).regs.word R.ZP_OCC_w (b / 4) = (s.z p).regs.word R.ZP_OCC_w (b / 4)) : binAt t p b = binAt s p b := by
  rw [binAt, binAt, h]

/-- A bin written stands as its byte, the other bins stay. -/
theorem binAt_setBin (b c v : Nat) : binAt (setBin s p b v) p c = if c = b then v % 256 else binAt s p c := by
  have hput (w : Word) : ((s.wWord p R.ZP_OCC_w w (b / 4)).z p).regs.word R.ZP_OCC_w (c / 4) =
      if c / 4 = b / 4 then w else (s.z p).regs.word R.ZP_OCC_w (c / 4) := by
    rw [z_wWord]
    split
    · next hw => rw [hw, RegFile.word, RegFile.putWord, rfGet_put]
    · next hw =>
      refine rfGet_put_ne _ _ _ _ ?_
      show 0x107300 + 4 * (b / 4) ≠ 0x107300 + 4 * (c / 4)
      omega
  unfold setBin binAt
  dsimp only
  rw [hput]
  by_cases hcb : c = b
  · subst hcb
    rw [if_pos rfl, if_pos rfl, fieldOf_putField_same _ _ (by omega) (by omega)]
    have hbits : 8 * (c % 4) + 7 + 1 - 8 * (c % 4) = 8 := by omega
    rw [hbits, show 2 ^ 8 = 256 from rfl]
  · rw [if_neg hcb]
    split
    · next hw =>
      rw [hw]
      rcases Nat.lt_or_gt_of_ne (show c % 4 ≠ b % 4 by omega) with hlt | hgt
      · exact fieldOf_putField_below _ _ (by omega) (by omega) (by omega)
      · exact fieldOf_putField_above _ _ (by omega) (by omega) (by omega)
    · rfl

/-- Every bin of a list that is set from the schedule is set to 0 or 255. -/
theorem foldl_setBin_extreme (f : State → Nat → Nat) (hf : ∀ s b, f s b = 0 ∨ f s b = 255) (l : List Nat) (c : Nat)
    (h : c ∈ l ∨ binAt s p c = 0 ∨ binAt s p c = 255) :
    binAt (l.foldl (fun s b => setBin s p b (f s b)) s) p c = 0 ∨
    binAt (l.foldl (fun s b => setBin s p b (f s b)) s) p c = 255 := by
  induction l generalizing s with
  | nil => simpa using h
  | cons b l ih =>
    rw [List.foldl_cons]
    refine ih _ ?_
    rw [binAt_setBin]
    by_cases hcb : c = b
    · right
      rcases hf s b with hv | hv <;> simp [hcb, hv]
    · simpa [hcb] using h

theorem resetBins_extreme {b : Nat} (hb : b < 672) : binAt (resetBins s p) p b = 0 ∨ binAt (resetBins s p) p b = 255 :=
  foldl_setBin_extreme s p (fun s b => if weeklyAt s p (b / 96) (b % 96 * 15) = 1 then 255 else 0)
    (fun s b => by split <;> simp)
    (List.range 672) b (.inl (List.mem_range.mpr hb))

end Bins

@[simp] theorem ckptSoon_z (s : State) (p : Phys) : (ckptSoon s p).z p = s.z p := by rw [State.z, ckptSoon, sl_onSl, State.z]
@[simp] theorem ckptSoon_inbox (s : State) (p : Phys) : ((ckptSoon s p).sl p).inbox = (s.sl p).inbox := by rw [ckptSoon, sl_onSl]
theorem ckptSoon_journal (s : State) (p : Phys) : (ckptSoon s p).journal = s.journal := rfl

/-- The mode of 0x0102 (R368). -/
theorem mode_taken {s : State} {x : Exec} {z : Zone} {p : Phys} (h : aboutToTake s x z p) (hop : x.opcode = 0x0102) :
    ∃ t, zoneCommand s x = t ∧ hasTaken s t x p ∧ t.zoneMarker x.lseq z = some (resDone, 0, 0) ∧
      t.lp p = (applyMode (taking s p x) p (x.byte 0)).lp p := by
  obtain ⟨hkept, hun⟩ := applyMode_keeps (taking s p x) p ((aboutToTake_unmarked h).of_journal rfl)
    (fun u hu => h.notTune u (by rwa [State.lp, taking_z] at hu)) (x.byte 0)
  have ht : takeNew (taking s p x) p z x =
      markZone (ckptSoon (applyMode (taking s p x) p (x.byte 0)) p) x.lseq z resDone 0 0 := by
    simp [takeNew, configEffect, hop, h.plain, doneZone]
  obtain ⟨t, hzone, hhas, hmarker, hz⟩ := zoneCommand_of_marked h ht ((ckptSoon_inbox ..).trans hkept.inbox)
    (by rw [ckptSoon_z, hkept.taken]) (hun.of_journal (ckptSoon_journal ..))
  exact ⟨t, hzone, hhas, hmarker, by rw [State.lp, hz, ckptSoon_z, State.lp]⟩

/-- The learner of 0x0212 (R265). -/
theorem learnerReset_taken {s : State} {x : Exec} {z : Zone} {p : Phys} (h : aboutToTake s x z p) (hop : x.opcode = 0x0212) :
    ∃ t, zoneCommand s x = t ∧ hasTaken s t x p ∧ t.zoneMarker x.lseq z = some (resDone, 0, 0) ∧
      ∀ b, b < 672 → binAt t p b = binAt (resetBins (taking s p x) p) p b := by
  have hu : configEffect (taking s p x) p x = some (planTrigger (resetBins (taking s p x) p) p) := by simp [configEffect, hop]
  have hc := (confined_resetBins p (taking s p x)).trans (confined_planTrigger p _)
  obtain ⟨t, hzone, hhas, hmarker, -, hz⟩ := zoneCommand_of_configEffect h hu hc.inbox hc.taken
    ((aboutToTake_unmarked h).of_journal (journal_of_still hc.still))
  refine ⟨t, hzone, hhas, hmarker, fun b hb => binAt_of_word _ _ ?_⟩
  rw [hz]
  refine planTrigger_word _ _ ?_
  show 0x107070 ≠ 0x107300 + 4 * (b / 4)
  omega

/-- The maximum demand of 0x0303 (R168). -/
theorem demandReset_taken {s : State} {x : Exec} {z : Zone} {p : Phys} (h : aboutToTake s x z p) (hop : x.opcode = 0x0303) :
    ∃ t, zoneCommand s x = t ∧ hasTaken s t x p ∧
      t.zoneMarker x.lseq z = some (resDone, 0, (s.z p).regs.word R.ZE_DMD_MAX) ∧
      t.z p = (clearDemand (taking s p x) p).z p := by
  have hwas : ((taking s p x).z p).regs.word R.ZE_DMD_MAX = (s.z p).regs.word R.ZE_DMD_MAX := by rw [taking_z]
  have ht : takeNew (taking s p x) p z x =
      markZone (clearDemand (taking s p x) p) x.lseq z resDone 0 ((s.z p).regs.word R.ZE_DMD_MAX) := by
    simp [takeNew, configEffect, hop, takeDemandReset, clearDemand, hwas, doneZone]
  have hc : Confined p (taking s p x) (clearDemand (taking s p x) p) :=
    (((Confined.refl ..).wWord rfl).wWord rfl).wWord rfl
  exact zoneCommand_of_marked h ht hc.inbox hc.taken ((aboutToTake_unmarked h).of_journal (journal_of_still hc.still))

theorem clearDemand_shows (s : State) (p : Phys) : ((clearDemand s p).z p).regs.word R.ZE_DMD_MAX = 0 ∧
    ((clearDemand s p).z p).regs.word R.ZE_DMD_MAX_TS_LO = 0 ∧ ((clearDemand s p).z p).regs.word R.ZE_DMD_MAX_TS_HI = 0 ∧
    ((clearDemand s p).z p).meter = (s.z p).meter := by
  simp only [clearDemand, z_wWord, RegFile.word, RegFile.putWord]
  refine ⟨?_, ?_, rfGet_put .., trivial⟩
  · rw [rfGet_put_ne _ _ _ _ (by decide), rfGet_put_ne _ _ _ _ (by decide), rfGet_put]
  · rw [rfGet_put_ne _ _ _ _ (by decide), rfGet_put]

/-- Settles O26, opcode by opcode: what each does to the slice before its marker. That a mode command ends a panel boost is the
model's choice (notes/assumptions/27). -/
theorem modeAndDemandOpcodes : Obligations.ModeAndDemandOpcodes := by
  intro s x z p h
  refine ⟨fun hop => ?_, fun hop => ?_, fun hop => ?_⟩
  · obtain ⟨t, rfl, htaken, hmarker, hloop⟩ := mode_taken h hop
    rw [applyMode_loop] at hloop
    exact ⟨_, rfl, htaken, hmarker, by rw [hloop], by rw [hloop], by rw [hloop], fun htimed => by simp [hloop, htimed]⟩
  · obtain ⟨t, rfl, htaken, hmarker, hbins⟩ := learnerReset_taken h hop
    refine ⟨_, rfl, htaken, hmarker, fun b hb => ?_⟩
    rw [hbins b hb]
    exact resetBins_extreme _ _ hb
  · obtain ⟨t, rfl, htaken, hmarker, hz⟩ := demandReset_taken h hop
    obtain ⟨hmax, hlo, hhi, hmeter⟩ := clearDemand_shows (taking s p x) p
    refine ⟨_, rfl, htaken, hmarker, ?_⟩
    rw [hz]
    exact ⟨hmax, hlo, hhi, hmeter.trans (by rw [taking_z])⟩

end Sys2Proof.Machine

namespace Sys2Proof.Machine
open Host

/-! ### What a checkpoint leaves (R35, R340, R383) -/

/-- A release takes no marker of a command that is under way (R340). -/
theorem markersOf_releaseLarder_running {s : State} {n : Nat} (h : (s.runningOf n).isSome = true) :
    markersOf (releaseLarder s) n = markersOf s n := by
  have hitems (m : SMap LdItem) (f : Nat × LdItem → Option (Nat × Bool × Nat × Nat × Word))
      (hf : ∀ k i, releasable s k i = true → f (k, i) = none) : (releaseItems s m).filterMap f = m.filterMap f := by
    induction m with
    | nil => rfl
    | cons c m ih =>
      obtain ⟨k, i⟩ := c
      unfold releaseItems
      split
      · next hrel => rw [ih, List.filterMap_cons_none (hf k i hrel)]
      · rfl
  rw [releaseLarder, fillRules_markersOf]
  refine hitems s.journal.larder _ fun k i hrel => ?_
  obtain ⟨src, kind⟩ := i
  cases kind with
  | mark q op hd z po f r re v =>
    have hgone : (s.runningOf hd).isNone = true := hrel
    refine if_neg ?_
    rintro rfl
    simp_all
  | _ => rfl

/-- What a checkpoint written for a one-time action leaves: the zone, the inbox, the commands under way with their markers. -/
structure Recorded (p : Phys) (s t : State) : Prop where
  z       : t.z p = s.z p
  inbox   : (t.sl p).inbox = (s.sl p).inbox
  running : ∀ n, t.runningOf n = s.runningOf n
  markers : ∀ n, (s.runningOf n).isSome = true → markersOf t n = markersOf s n
  waiting : t.journal.handover = s.journal.handover

section Recorded
variable {p : Phys} {s t : State}

theorem Recorded.refl (p : Phys) (s : State) : Recorded p s s := ⟨rfl, rfl, fun _ => rfl, fun _ _ => rfl, rfl⟩

theorem Recorded.unmarked (h : Recorded p s t) {x : Exec} (hun : Unmarked s x) : Unmarked t x := by
  obtain ⟨⟨r, hr, hx⟩, hfresh, hheld⟩ := hun
  exact ⟨⟨r, by rw [h.running, hr], hx⟩, by rw [h.markers _ (by simp [hr]), hfresh], by rw [h.waiting, hheld]⟩

theorem Recorded.zoneMarker (h : Recorded p s t) {n : Nat} (hr : (s.runningOf n).isSome = true) (z : Zone) :
    t.zoneMarker n z = s.zoneMarker n z := by rw [State.zoneMarker, h.markers n hr, State.zoneMarker]

theorem recorded_writeCheckpoint (p : Phys) (s : State) : Recorded p s (writeCheckpoint s p) := by
  obtain ⟨w, hw, hsl, hj⟩ : ∃ w, writeCheckpoint s p = releaseLarder w ∧
      ((w.sl p).z = (s.sl p).z ∧ (w.sl p).inbox = (s.sl p).inbox) ∧ w.journal = s.journal :=
    ⟨_, rfl, by rw [wroteGen_sl, sl_onSl]; exact ⟨rfl, rfl⟩, by simp⟩
  have hcr := releaseLarder_cr w p
  have hrun : ∀ n, (releaseLarder w).runningOf n = w.runningOf n := fun n => by
    rw [releaseLarder, fillRules_runningOf, State.runningOf, onJ_journal, State.runningOf]
  rw [hw]
  exact ⟨(z_of_cr hcr).trans hsl.1, (congrArg Slice.inbox hcr :).trans hsl.2,
    fun n => by rw [hrun, State.runningOf, hj, State.runningOf],
    fun n hn => by rw [markersOf_releaseLarder_running (by rwa [State.runningOf, hj]), markersOf, hj, markersOf],
    by simp [releaseLarder, hj]⟩

/-- A checkpoint written where a one-time action runs (R383). -/
def recordedIf (c : Bool) (s : State) (p : Phys) : State := if c then writeCheckpoint s p else s

theorem recorded_recordedIf (c : Bool) (p : Phys) (s : State) : Recorded p s (recordedIf c s p) := by
  unfold recordedIf
  split
  · exact recorded_writeCheckpoint p s
  · exact .refl p s

end Recorded

/-! ### The converters' sequences and a capture beside the images of a zone (R121 to R129, R176 to R179) -/

section Sequences
variable (p : Phys) (s : State)

namespace Confined
variable {p : Phys} {s t : State}

theorem onCv (h : Confined p s t) {f : Conv → Conv} : Confined p s (t.onCv p f) := h.onPart
theorem onSeq (h : Confined p s t) {q : Fin 4} {f : SeqSt → SeqSt} : Confined p s (t.onSeq p q f) := h.onCv
theorem onCap (h : Confined p s t) {f : Capture → Capture} : Confined p s (t.onCap p f) := h.onMt
theorem noteBusy (h : Confined p s t) {b : State} {q : Phys} : Confined p s (noteBusy b q t) := h.of_quiet (noteBusy_quiet ..)
theorem wi (h : Confined p s t) {x : Fld} {v : Int} {i : Nat} (hx : isImage (x.at i) = false) : Confined p s (t.wi p x v i) :=
  h.onR fun _ _ ha => rfGet_put_ne _ _ _ _ (by rintro rfl; simp [hx] at ha)

end Confined

theorem confined_trims (f : Vector Trims 6 → Vector Trims 6) : Confined p s (s.onSl p fun x => { x with trims := f x.trims }) :=
  ⟨⟨by simp, by simp [State.z], fun a _ => by simp [State.z]⟩, rfl⟩

theorem confined_restartCal : Confined p s (restartCal s p) := by
  unfold restartCal
  exact ((Confined.refl p s).onCv.trans (confined_trims ..)).wbEvt rfl

theorem confined_syncTrims : Confined p s (syncTrims s p) :=
  ((((((Confined.refl p s).w rfl).wi rfl).wi rfl).wi rfl).wbEvt rfl).wbEvt rfl

theorem confined_takeBand : Confined p s (takeBand s p) :=
  .ite (.refl p s) ((((((Confined.refl p s).onCv.onInp).w rfl).evt).trans (confined_restartCal ..)).trans (confined_syncTrims ..))

theorem confined_startPass (q : Fin 4) (e : Option Nat) : Confined p s (startPass s p q e) := by
  unfold startPass
  exact (confined_takeBand p s).onSeq

theorem confined_dropTrigger (q : Fin 4) : Confined p s (dropTrigger s p q) := by
  fin_cases q <;> exact (((Confined.refl p s).bump rfl).evt).err

theorem confined_acceptTrigger (q : Fin 4) (e : Option Nat) : Confined p s (acceptTrigger s p q e) :=
  .ite (confined_dropTrigger ..) (.ite (.ite (confined_dropTrigger ..) (Confined.refl p s).onSeq) (confined_startPass ..))

theorem confined_finishEnding (q : Fin 4) : Confined p s (finishEnding s p q) :=
  .ite (.ite ((Confined.refl p s).onSeq.trans (confined_acceptTrigger ..)) (Confined.refl p s).onSeq) (.refl p s)

/-- No field of a sequence's status holds an image. -/
theorem notImage_SEQ_STAT {x : Fld} (h : (x.key, x.stride) = (R.ZC_SEQ_STAT_q.key, R.ZC_SEQ_STAT_q.stride)) (q : Fin 4) :
    isImage (x.at q.val) = false := by
  obtain ⟨hkey, hstride⟩ := Prod.mk.inj h
  rw [Fld.at, hkey, hstride]
  revert q
  decide

theorem notImage_SEQ_EN (q : Fin 4) : isImage (F.ZC_SEQ_q_EN.at q.val) = false := by revert q; decide

theorem rfGet_putNat_of_notImage {x : Fld} {i a : Nat} (hx : isImage (x.at i) = false) (ha : isImage a = true) (f : RegFile)
    (v : Nat) : rfGet (f.putNat x v i) a = rfGet f a := rfGet_putNat_ne f (by rintro rfl; simp [hx] at ha) v

theorem confined_syncConv : Confined p s (syncConv s p) := by
  refine .foldl _ (Confined.onR (.refl p s) fun f a ha => ?_) fun t q _ => Confined.onR (.refl p t) fun f a ha => ?_
  · rw [rfGet_putNat_of_notImage rfl ha, rfGet_putNat_of_notImage rfl ha, rfGet_putNat_of_notImage rfl ha,
      rfGet_putNat_of_notImage rfl ha, rfGet_putNat_of_notImage rfl ha]
  · have hq {x : Fld} (h : (x.key, x.stride) = (R.ZC_SEQ_STAT_q.key, R.ZC_SEQ_STAT_q.stride)) (g : RegFile) (v : Nat) :
        rfGet (g.putNat x v q.val) a = rfGet g a := rfGet_putNat_of_notImage (notImage_SEQ_STAT h q) ha g v
    simp only [RegFile.putBit]
    rw [hq rfl, hq rfl, hq rfl, hq rfl, hq rfl, hq rfl]

theorem confined_settle : Confined p s (settle s p) := (Confined.refl p s).onCv.trans (confined_syncConv ..)

theorem confined_seqDisabled (q : Fin 4) : Confined p s (seqDisabled s p q) :=
  ((Confined.refl p s).onSeq.trans (confined_finishEnding ..)).trans (confined_settle ..)

theorem confined_firmwareSeqs (on : Bool) : Confined p s (firmwareSeqs s p on) :=
  .foldl _ (.refl p s) fun t q _ => ((Confined.refl p t).wb (notImage_SEQ_EN q)).trans
    (.ite (Confined.refl p _).onSeq (confined_seqDisabled ..))

theorem confined_setSq0 (fast : Option Nat) : Confined p s (setSq0 s p fast) := by
  cases fast with
  | none => exact ((Confined.refl p s).wWord rfl).wWord rfl
  | some ch => exact ((Confined.refl p s).wWord rfl).w rfl

theorem confined_holdReadings : Confined p s (holdReadings s p) :=
  .foldl _ (.refl p s) fun t n _ => .ite ((Confined.refl p t).wb (notImage_T n)) (.refl p t)

theorem confined_syncCap : Confined p s (syncCap s p) := by
  unfold syncCap
  refine Confined.onR (.refl p s) fun f a ha => ?_
  simp only [RegFile.putBit]
  rw [rfGet_putNat_of_notImage rfl ha, rfGet_putNat_of_notImage rfl ha, rfGet_putNat_of_notImage rfl ha,
    rfGet_putNat_of_notImage rfl ha, rfGet_putNat_of_notImage rfl ha]

theorem confined_capArm : Confined p s (capArm s p) :=
  .ite ((Confined.refl p s).bump rfl) ((Confined.refl p s).onCap.trans (confined_syncCap ..)).noteBusy

theorem confined_capTrigger : Confined p s (capTrigger s p) := by
  unfold capTrigger
  refine .ite (.refl p s) (.trans (.trans (Confined.onR (Confined.refl p s).onCap.evt fun f a ha => ?_)
    (.trans (.ite (Confined.refl p _).err (.refl p _)) (.ite ?fast (.refl p _)))) (confined_syncCap ..))
  · have hne (r : Reg) (hr : isImage (r.at 0) = false) : r.at 0 ≠ a := by
      rintro rfl
      simp [hr] at ha
    simp only [RegFile.put64, RegFile.putWord]
    rw [rfGet_put_ne _ _ _ _ (hne _ rfl), rfGet_put_ne _ _ _ _ (hne _ rfl)]
  case fast =>
    exact (((confined_firmwareSeqs ..).trans (confined_holdReadings ..)).trans (confined_setSq0 ..)).wb rfl

theorem confined_capRelay (j : Out) : Confined p s (capRelay s p j).1 := by
  unfold capRelay
  dsimp only
  split
  · split
    · exact Confined.onCap (f := fun c => { c with drvWait := some j }) (confined_capTrigger p s)
    · exact confined_capTrigger p s
  · exact .refl p s

end Sequences

/-! ### A pulse on a relay output (R371, R384) -/

section Pulse
variable {s : State} {p : Phys} {x : Exec} {z : Zone} {j : Out}

/-- An output that is not held is driven by its request and flags. -/
theorem out_refreshOut (h : (s.out p j).held = false) : ∃ pin on row, (refreshOut s p j).out p j =
    { s.out p j with applied := appliedOf j (s.out p j), pin := pin, drvOn := on, slewRow := row } := by
  have hbump (t : State) (y : Fld) : (t.bump p y).out p j = t.out p j := by rw [State.out, z_bump, State.out]
  unfold refreshOut
  dsimp only
  rw [if_neg (ne_true_of_eq_false h)]
  split
  · split
    · rw [hbump, out_onOut, if_pos rfl]
      exact ⟨_, _, _, rfl⟩
    · rw [hbump, out_onOut, if_pos rfl]
      exact ⟨_, _, _, rfl⟩
  · rw [out_onOut, if_pos rfl]
    exact ⟨_, _, _, rfl⟩

theorem refreshOut_pulse (s : State) (p : Phys) (j : Out) : ((refreshOut s p j).out p j).pulse = (s.out p j).pulse := by
  cases hheld : (s.out p j).held with
  | true => rw [refreshOut, if_pos hheld]
  | false =>
    obtain ⟨pin, on, row, heq⟩ := out_refreshOut hheld
    rw [heq]

theorem startPulse_onHeld (h : (s.out p j).held = true) (n d : Nat) : startPulse s p z j n d = markZone s n z resFault 1 0 :=
  if_pos h

theorem startPulse_onLatched (h : (s.out p j).held = false) (hl : (s.out p j).latched = true) (n d : Nat) :
    startPulse s p z j n d = markZone s n z resFault 2 0 := by
  rw [startPulse, if_neg (ne_true_of_eq_false h), if_pos hl]

/-- A pulse that starts. -/
theorem startPulse_starts (h : (s.out p j).held = false) (hl : (s.out p j).latched = false) (n d : Nat) :
    Confined p s (startPulse s p z j n d) ∧ ((startPulse s p z j n d).out p j).pulse = some { lseq := n, dur := d } := by
  unfold startPulse
  dsimp only
  rw [if_neg (ne_true_of_eq_false h), if_neg (ne_true_of_eq_false hl)]
  refine ⟨(((confined_capRelay p s j).trans (confined_onOut ..)).trans (confined_refreshOut ..)).noteBusy, ?_⟩
  rw [State.out, z_noteBusy, ← State.out, refreshOut_pulse, out_onOut, if_pos rfl]

/-- No pulse runs on a stage output, so no ceiling ends one. -/
theorem ceilingPulses_idle (h : ∀ k : Out, s.g p F.ZL_ACT_j_FUNC k ≠ 4 ∧ s.g p F.ZL_ACT_j_FUNC k ≠ 5) (cH cC : Rat) :
    ceilingPulses s p cH cC = s := by
  have h3 : s.g p F.ZL_ACT_j_FUNC 3 ≠ 4 ∧ s.g p F.ZL_ACT_j_FUNC 3 ≠ 5 := h 3
  have h4 : s.g p F.ZL_ACT_j_FUNC 4 ≠ 4 ∧ s.g p F.ZL_ACT_j_FUNC 4 ≠ 5 := h 4
  simp [ceilingPulses, h3, h4]

theorem isImage_ACT (k : Out) : isImage (F.ZL_ACT_j_FUNC.at k.val) = true := by revert k; decide

theorem takePulse_eq (hj : j = if x.byte 0 = 3 then 3 else 4)
    (hfunc : ∀ k : Out, (startPulse s p z j x.lseq (x.u16 2)).g p F.ZL_ACT_j_FUNC k ≠ 4 ∧
      (startPulse s p z j x.lseq (x.u16 2)).g p F.ZL_ACT_j_FUNC k ≠ 5) :
    takePulse s p z x = recordedIf ((startPulse s p z j x.lseq (x.u16 2)).out p j).pulse.isSome
      (startPulse s p z j x.lseq (x.u16 2)) p := by
  subst hj
  unfold takePulse
  refine ceilingPulses_idle (fun k => ?_) _ _
  have hz := (recorded_recordedIf ((startPulse s p z (if x.byte 0 = 3 then 3 else 4) x.lseq (x.u16 2)).out p
    (if x.byte 0 = 3 then 3 else 4)).pulse.isSome p (startPulse s p z (if x.byte 0 = 3 then 3 else 4) x.lseq (x.u16 2))).z
  have hk := hfunc k
  rw [State.g, ← hz] at hk
  exact hk

end Pulse

section RelayPulse
variable {s : State} {x : Exec} {z : Zone} {p : Phys} (h : aboutToTake s x z p) (hop : x.opcode = 0x0109) {j : Out}
  (hj : j = if x.byte 0 = 3 then 3 else 4)
  (hfunc : ∀ k : Out, s.g p F.ZL_ACT_j_FUNC k ≠ 4 ∧ s.g p F.ZL_ACT_j_FUNC k ≠ 5)
include h hop hj hfunc

/-- What 0x0109 does once its pulse has started or has been refused. -/
theorem pulse_taken {u : State} (hu : startPulse (taking s p x) p z j x.lseq (x.u16 2) = u) (hk : ImagesKept p (taking s p x) u)
    (hheld : u.journal.handover = []) (hrun : (u.runningOf x.lseq).isSome = true) :
    ∃ t, zoneCommand s x = t ∧ hasTaken s t x p ∧ t.z p = u.z p ∧ t.zoneMarker x.lseq z = u.zoneMarker x.lseq z := by
  have hg (k : Out) : u.g p F.ZL_ACT_j_FUNC k = s.g p F.ZL_ACT_j_FUNC k := by
    rw [State.g, RegFile.nat, hk.images _ (isImage_ACT k), taking_z, State.g, RegFile.nat]
  have ht : takeNew (taking s p x) p z x = recordedIf (u.out p j).pulse.isSome u p := by
    rw [← hu, ← takePulse_eq hj (fun k => by rw [hu, hg]; exact hfunc k)]
    simp [takeNew, configEffect, hop]
  obtain ⟨hz, hin, -, hmarks, hwait⟩ := recorded_recordedIf (u.out p j).pulse.isSome p u
  obtain ⟨hzone, hhas⟩ := zoneCommand_of_takeNew h ht (hwait.trans hheld) (hin.trans hk.inbox) (by rw [hz, hk.taken])
  exact ⟨_, hzone, hhas, hz, (recorded_recordedIf ..).zoneMarker hrun z⟩

/-- A pulse refused at once. -/
theorem pulse_refused {re : Nat} (hu : startPulse (taking s p x) p z j x.lseq (x.u16 2) =
      markZone (taking s p x) x.lseq z resFault re 0) :
    ∃ t, zoneCommand s x = t ∧ hasTaken s t x p ∧ t.zoneMarker x.lseq z = some (resFault, re, 0) := by
  have hun : Unmarked (taking s p x) x := (aboutToTake_unmarked h).of_journal rfl
  obtain ⟨hmarker, hheld, hrun⟩ := markZone_marks hun z resFault re 0
  obtain ⟨t, hzone, hhas, -, hsame⟩ := pulse_taken h hop hj hfunc hu (.of_cr (markZone_cr ..)) hheld (by
    obtain ⟨r, hr, -⟩ := hun.open_
    rw [hrun, hr, Option.isSome_some])
  exact ⟨t, hzone, hhas, hsame.trans hmarker⟩

theorem pulse_held (hheld : (s.out p j).held = true) :
    ∃ t, zoneCommand s x = t ∧ hasTaken s t x p ∧ t.zoneMarker x.lseq z = some (resFault, 1, 0) :=
  pulse_refused h hop hj hfunc (startPulse_onHeld (by rwa [State.out, taking_z]) ..)

theorem pulse_latched (hheld : (s.out p j).held = false) (hlatched : (s.out p j).latched = true) :
    ∃ t, zoneCommand s x = t ∧ hasTaken s t x p ∧ t.zoneMarker x.lseq z = some (resFault, 2, 0) :=
  pulse_refused h hop hj hfunc (startPulse_onLatched (by rwa [State.out, taking_z]) (by rwa [State.out, taking_z]) ..)

theorem pulse_starts (hheld : (s.out p j).held = false) (hlatched : (s.out p j).latched = false) :
    ∃ t, zoneCommand s x = t ∧ hasTaken s t x p ∧ (t.out p j).pulse = some { lseq := x.lseq, dur := x.u16 2 } ∧
      t.zoneMarker x.lseq z = none := by
  obtain ⟨hc, hpulse⟩ := startPulse_starts (s := taking s p x) (p := p) (z := z) (j := j) (by rwa [State.out, taking_z])
    (by rwa [State.out, taking_z]) x.lseq (x.u16 2)
  obtain ⟨⟨r, hr, -⟩, hfresh, hwait⟩ := ((aboutToTake_unmarked h).of_journal (journal_of_still
    (hc.still.trans (taking_still s p x))) : Unmarked (startPulse (taking s p x) p z j x.lseq (x.u16 2)) x)
  obtain ⟨t, hzone, hhas, hz, hmarker⟩ := pulse_taken h hop hj hfunc rfl hc.toImagesKept hwait (by simp [hr])
  exact ⟨t, hzone, hhas, by rw [State.out, hz, ← hpulse, State.out], by rw [hmarker, State.zoneMarker, hfresh]; rfl⟩

end RelayPulse

/-! ### The start and the end of a tune (R241, R373) -/

section Tunes
variable {s : State} {p : Phys} {x : Exec}

/-- Where a tune starts, its first step shows (R241). -/
theorem startTune_starts (hm : ¬ ((s.lp p).mode = 0 ∨ (s.lp p).mode = 5 ∨ (s.lp p).mode = 6 ∨ (roomInputs s p).isEmpty = true)) :
    Confined p s (startTune s p x) ∧
    (∃ u, ((startTune s p x).lp p).tune = some u ∧ u.lseq = x.lseq ∧ u.step = 1 ∧ u.cool = decide (x.byte 0 = 1)) ∧
    (startTune s p x).gb p F.ZL_STAT_TUNING = true ∧ (startTune s p x).g p F.ZL_TUNE_STAT_STEP = 1 := by
  unfold startTune
  dsimp only
  rw [if_neg hm]
  refine ⟨((((((((Confined.refl p s).onLp).w rfl).w rfl).w rfl).w rfl).w rfl).wb rfl).noteBusy, ?_, ?_, ?_⟩
  · rw [State.lp, z_noteBusy]
    simp
  · simp (disch := decide) only [State.gb, z_noteBusy, z_wb, bit_putNat_bit1]
  · simp (disch := decide) only [State.g, z_noteBusy, z_wb, z_w, nat_putNat_apart, nat_putNat_fit]
    rfl

/-- Where the mode or the inputs forbid a tune, it ends at once (R241). -/
theorem startTune_refused (hm : (s.lp p).mode = 0 ∨ (s.lp p).mode = 5 ∨ (s.lp p).mode = 6 ∨ (roomInputs s p).isEmpty = true) :
    ∃ u, startTune s p x = tuneFault u p x.lseq 7 ∧ Confined p s u := by
  unfold startTune
  dsimp only
  rw [if_pos hm]
  exact ⟨_, rfl, ((Confined.refl p s).w rfl).w rfl⟩

end Tunes

section TuneRows
variable {s : State} {x : Exec} {z : Zone} {p : Phys} (h : aboutToTake s x z p)
include h

theorem tune_starts (hop : x.opcode = 0x0120)
    (hm : ¬ ((s.lp p).mode = 0 ∨ (s.lp p).mode = 5 ∨ (s.lp p).mode = 6 ∨ roomInputs s p = [])) :
    ∃ t, zoneCommand s x = t ∧ hasTaken s t x p ∧
      (∃ u, (t.lp p).tune = some u ∧ u.lseq = x.lseq ∧ u.step = 1 ∧ u.cool = decide (x.byte 0 = 1)) ∧
      t.gb p F.ZL_STAT_TUNING = true ∧ t.g p F.ZL_TUNE_STAT_STEP = 1 := by
  obtain ⟨hc, ⟨u, hu, hlseq, hstep, hcool⟩, hshown, hfirst⟩ := startTune_starts (s := taking s p x) (p := p) (x := x)
    (by simpa [State.lp, roomInputs, State.g, State.gb, taking_z] using hm)
  have ht : takeNew (taking s p x) p z x = writeCheckpoint (startTune (taking s p x) p x) p := by
    simp [takeNew, configEffect, hop, takeTune, hu]
  obtain ⟨-, -, hwait⟩ := ((aboutToTake_unmarked h).of_journal (journal_of_still
    (hc.still.trans (taking_still s p x))) : Unmarked (startTune (taking s p x) p x) x)
  obtain ⟨hz, hin, -, -, hheld⟩ := recorded_writeCheckpoint p (startTune (taking s p x) p x)
  obtain ⟨hzone, hhas⟩ := zoneCommand_of_takeNew h ht (hheld.trans hwait) (hin.trans hc.inbox) (by rw [hz, hc.taken])
  refine ⟨_, hzone, hhas, ⟨u, ?_, hlseq, hstep, hcool⟩, ?_, ?_⟩
  · rw [State.lp, hz, ← hu, State.lp]
  · rw [State.gb, hz, ← hshown, State.gb]
  · rw [State.g, hz, ← hfirst, State.g]

theorem tune_refused (hop : x.opcode = 0x0120)
    (hm : (s.lp p).mode = 0 ∨ (s.lp p).mode = 5 ∨ (s.lp p).mode = 6 ∨ roomInputs s p = []) :
    ∃ t, zoneCommand s x = t ∧ hasTaken s t x p ∧ t.zoneMarker x.lseq z = some (resFault, 7, 0) := by
  obtain ⟨u, hu, hc⟩ := startTune_refused (s := taking s p x) (p := p) (x := x)
    (by simpa [State.lp, roomInputs, State.g, State.gb, taking_z] using hm)
  have hstop := hc.trans (confined_tuneStopped u p 7)
  have hserved : u.zoneOf p = some z := by
    have hmap : u.map = s.map := (congrArg State.map (hc.still.trans (taking_still s p x)) :)
    rw [← h.served, State.zoneOf, State.zoneOf, hmap]
  have hfault : startTune (taking s p x) p x = markZone (tuneStopped u p 7) x.lseq z resFault 7 0 := by
    rw [hu, tuneFault_eq, hserved]
    rfl
  have hnone : ((markZone (tuneStopped u p 7) x.lseq z resFault 7 0).lp p).tune = none := by
    rw [State.lp, z_of_cr (markZone_cr ..), ← State.lp, tuneStopped_loop]
  have htune : takeTune (taking s p x) p x = markZone (tuneStopped u p 7) x.lseq z resFault 7 0 := by
    unfold takeTune
    dsimp only
    rw [hfault, hnone]
    rfl
  have ht : takeNew (taking s p x) p z x = markZone (tuneStopped u p 7) x.lseq z resFault 7 0 := by
    simp [takeNew, configEffect, hop, htune]
  obtain ⟨t, hzone, hhas, hmarker, -⟩ := zoneCommand_of_marked h ht hstop.inbox hstop.taken
    ((aboutToTake_unmarked h).of_journal (journal_of_still (hstop.still.trans (taking_still s p x))))
  exact ⟨t, hzone, hhas, hmarker⟩

theorem tune_aborted (hop : x.opcode = 0x0121) :
    ∃ t, zoneCommand s x = t ∧ hasTaken s t x p ∧ (t.lp p).tune = none ∧ t.zoneMarker x.lseq z = some (resDone, 0, 0) := by
  obtain ⟨hkept, hun⟩ := failTune_keeps ((aboutToTake_unmarked h).of_journal rfl : Unmarked (taking s p x) x)
    (fun u hu => h.notTune u (by rwa [State.lp, taking_z] at hu)) 11
  have ht : takeNew (taking s p x) p z x = markZone (failTune (taking s p x) p 11) x.lseq z resDone 0 0 := by
    simp [takeNew, configEffect, hop, takeAbort, doneZone]
  obtain ⟨t, hzone, hhas, hmarker, hz⟩ := zoneCommand_of_marked h ht hkept.inbox hkept.taken hun
  exact ⟨t, hzone, hhas, by rw [State.lp, hz, ← State.lp, failTune_loop], hmarker⟩

end TuneRows

/-! ### The capture of 0x0304 (R176, R375, R383) -/

section CaptureRows
variable {s : State} {x : Exec} {z : Zone} {p : Phys} (h : aboutToTake s x z p) (hop : x.opcode = 0x0304)
include h hop

theorem capture_arms (h1 : (s.mt p).cap.state ≠ 1) (h2 : (s.mt p).cap.state ≠ 2) :
    ∃ t, zoneCommand s x = t ∧ hasTaken s t x p ∧ (t.mt p).cap.state = 1 ∧ (t.mt p).cap.cfg = x.image 0 ∧
      t.zoneMarker x.lseq z = some (resDone, 0, 0) := by
  obtain ⟨v, hv⟩ : ∃ v, v = takeImages (taking s p x) p x := ⟨_, rfl⟩
  have hcap : (v.mt p).cap = (s.mt p).cap := by
    rw [hv, State.mt, takeImages, State.onR, z_onZ, taking_z, State.mt]
  have hcfg : (v.z p).regs.word R.ZE_CAP_CFG = x.image 0 := by
    have himg : imageWords x.opcode.toNat x = [(R.ZE_CAP_CFG.at 0, x.image 0)] := by rw [hop]; rfl
    rw [hv, takeImages, himg, z_onR]
    exact rfGet_put ..
  have htake : (v.sl p).inbox = ((taking s p x).sl p).inbox ∧ (v.z p).taken = ((taking s p x).z p).taken ∧
      v.journal = s.journal := by
    rw [hv]
    exact ⟨by simp [takeImages, State.onR, State.onZ], by simp [takeImages, State.onR], rfl⟩
  obtain ⟨hin, htaken, hj⟩ := htake
  have hc := confined_capArm p v
  obtain ⟨hstate, -, hword⟩ := capArm_idle (s := v) (p := p) (by rwa [hcap]) (by rwa [hcap])
  have hrec := recorded_writeCheckpoint p (capArm v p)
  have hidle : ¬ (((taking s p x).mt p).cap.state = 1 ∨ ((taking s p x).mt p).cap.state = 2) := by
    rw [State.mt, taking_z]
    exact not_or.mpr ⟨h1, h2⟩
  have ht : takeNew (taking s p x) p z x = markZone (writeCheckpoint (capArm v p) p) x.lseq z resDone 0 0 := by
    simp [takeNew, configEffect, hop, takeCapture, hidle, hv, doneZone]
  obtain ⟨t, hzone, hhas, hmarker, hz⟩ := zoneCommand_of_marked h ht ((hrec.inbox.trans hc.inbox).trans hin)
    (by rw [hrec.z, hc.taken, htaken])
    (hrec.unmarked ((aboutToTake_unmarked h).of_journal ((journal_of_still hc.still).trans hj)))
  have hmt : t.mt p = (capArm v p).mt p := by rw [State.mt, hz, hrec.z, State.mt]
  exact ⟨t, hzone, hhas, by rw [hmt, hstate], by rw [hmt, hword, hcfg], hmarker⟩

theorem capture_busy (hbusy : (s.mt p).cap.state = 1 ∨ (s.mt p).cap.state = 2) :
    ∃ t, zoneCommand s x = t ∧ hasTaken s t x p ∧ (t.mt p).cap = (s.mt p).cap ∧
      t.zoneMarker x.lseq z = some (resFault, 1, 0) := by
  have hcap : ((taking s p x).mt p).cap = (s.mt p).cap := by rw [State.mt, taking_z, State.mt]
  have ht : takeNew (taking s p x) p z x = markZone (taking s p x) x.lseq z resFault 1 0 := by
    simp [takeNew, configEffect, hop, takeCapture, hcap, hbusy]
  obtain ⟨t, hzone, hhas, hmarker, hz⟩ := zoneCommand_of_marked h ht rfl rfl ((aboutToTake_unmarked h).of_journal rfl)
  exact ⟨t, hzone, hhas, by rw [← hcap, State.mt, hz, State.mt], hmarker⟩

end CaptureRows

/-- Settles O27, form by form: an action that starts is held as running in a checkpoint, one refused has its FAULT marker. -/
theorem oneTimeActions : Obligations.OneTimeActions := by
  intro s x z p h
  refine ⟨fun j hop hj hfunc => ⟨fun hheld hlatched => ?_, fun hheld => ?_, fun hheld hlatched => ?_⟩,
    fun hop _ => ⟨fun h0 h5 h6 hroom => ?_, fun hm => ?_⟩, fun hop => ?_, fun hop => ⟨fun h1 h2 => ?_, fun hbusy => ?_⟩⟩
  · obtain ⟨t, rfl, hrest⟩ := pulse_starts h hop hj hfunc hheld hlatched
    exact ⟨_, rfl, hrest⟩
  · obtain ⟨t, rfl, hrest⟩ := pulse_held h hop hj hfunc hheld
    exact ⟨_, rfl, hrest⟩
  · obtain ⟨t, rfl, hrest⟩ := pulse_latched h hop hj hfunc hheld hlatched
    exact ⟨_, rfl, hrest⟩
  · obtain ⟨t, rfl, hrest⟩ := tune_starts h hop (by simp [h0, h5, h6, hroom])
    exact ⟨_, rfl, hrest⟩
  · obtain ⟨t, rfl, hhas, hmarker⟩ := tune_refused h hop hm
    exact ⟨_, rfl, hhas, _, hmarker, rfl⟩
  · obtain ⟨t, rfl, hrest⟩ := tune_aborted h hop
    exact ⟨_, rfl, hrest⟩
  · obtain ⟨t, rfl, hrest⟩ := capture_arms h hop h1 h2
    exact ⟨_, rfl, hrest⟩
  · obtain ⟨t, rfl, hrest⟩ := capture_busy h hop hbusy
    exact ⟨_, rfl, hrest⟩

end Sys2Proof.Machine

namespace Sys2Proof.Machine
open Host

/-! ### A window of ten cycles (R162, R169) -/

/-- Whether an address holds a mean of the electrical window (R185). -/
def onWindow (a : Nat) : Bool := decide (0x104080 ≤ a) && decide (a < 0x1040A0)

theorem rfGet_rfPut_offWindow {a b : Nat} (hb : onWindow b = false) (ha : onWindow a = true) (f : RegFile) (w : Word) :
    rfGet (rfPut f b w) a = rfGet f a := rfGet_put_ne _ _ _ _ (by rintro rfl; simp [hb] at ha)

/-- The window's means and the meter stay. -/
structure WindowKept (p : Phys) (s t : State) : Prop where
  regs  : ∀ a, onWindow a = true → rfGet (t.z p).regs a = rfGet (s.z p).regs a
  meter : t.mt p = s.mt p

section WindowKept
variable {p : Phys} {s t u : State}

theorem WindowKept.refl (p : Phys) (s : State) : WindowKept p s s := ⟨fun _ _ => rfl, rfl⟩
theorem WindowKept.trans (h : WindowKept p s t) (k : WindowKept p t u) : WindowKept p s u :=
  ⟨fun a ha => (k.regs a ha).trans (h.regs a ha), k.meter.trans h.meter⟩

theorem WindowKept.ite {c : Prop} [Decidable c] (ht : WindowKept p s t) (hu : WindowKept p s u) :
    WindowKept p s (if c then t else u) := by split <;> assumption

theorem WindowKept.of_z (h : WindowKept p s t) (hz : u.z p = t.z p) : WindowKept p s u :=
  h.trans ⟨fun _ _ => by rw [hz], by rw [State.mt, hz, State.mt]⟩

theorem WindowKept.onR (h : WindowKept p s t) {f : RegFile → RegFile}
    (hf : ∀ r a, onWindow a = true → rfGet (f r) a = rfGet r a) : WindowKept p s (t.onR p f) :=
  h.trans ⟨fun a ha => by rw [z_onR, hf _ a ha], by rw [State.mt, State.onR, z_onZ, State.mt]⟩

theorem WindowKept.wb (h : WindowKept p s t) {x : Fld} {b : Bool} (hx : onWindow (x.at 0) = false) :
    WindowKept p s (t.wb p x b) := h.onR fun r _ ha => rfGet_rfPut_offWindow hx ha r _

end WindowKept

section Window
variable (s : State) (p : Phys)

theorem windowKept_publishClip {x : Fld} (hx : onWindow (x.at 0) = false) (mark : Bool) (code : Nat) :
    WindowKept p s (publishClip s p x mark code) :=
  .ite (((WindowKept.wb (.refl p s) hx).of_z (z_evt ..)).of_z (z_err ..)) (.wb (.refl p s) hx)

/-- A table of words written beyond an address leaves that address. -/
theorem rfGet_table (r : Reg) (word : Rat × Rat → Word) {a : Nat} (h : ∀ i, r.at i ≠ a) (l : List ((Rat × Rat) × Nat))
    (f : RegFile) : rfGet (l.foldl (fun f c => f.putWord r (word c.1) c.2) f) a = rfGet f a := by
  induction l generalizing f with
  | nil => rfl
  | cons c l ih => rw [List.foldl_cons, ih, RegFile.putWord, rfGet_put_ne _ _ _ _ (h c.2)]

/-- The harmonic window is published beside the means (R169, R185). -/
theorem windowKept_publishHarm (start : Nat) (grid : List Rat) : WindowKept p s (publishHarm s p start grid) := by
  unfold publishHarm
  dsimp only
  refine (WindowKept.onR (.refl p s) fun f a ha => ?_).of_z (z_evt ..)
  have hput {b : Nat} (hb : onWindow b = false) (g : RegFile) (w : Word) : rfGet (rfPut g b w) a = rfGet g a :=
    rfGet_rfPut_offWindow hb ha g w
  have htable (r : Reg) (hr : r.stride = 4) (hkey : 0x1040A0 ≤ r.key) (i : Nat) : r.at i ≠ a := by
    have hlt : a < 0x1040A0 := by simpa using (Bool.and_eq_true_iff.mp ha).2
    rw [Reg.at, hr]
    omega
  simp only [RegFile.putBit, RegFile.putNat]
  rw [hput rfl, hput rfl, hput rfl, RegFile.putWord, hput rfl, RegFile.putWord, hput rfl, hput rfl, hput rfl, RegFile.putWord,
    hput rfl, rfGet_table R.ZE_HI_h _ (htable _ rfl (by decide)), rfGet_table R.ZE_HV_h _ (htable _ rfl (by decide))]

/-- The means of a window's cycles in their registers (R162). -/
def windowMeans (m : Meter) (r : RegFile) : RegFile :=
  let mean := fun (f : Cyc → Rat) => meanOf (m.win.map f)
  let r1 := (r.putBit F.ZE_FREQ_VALID m.lock).putNat F.ZE_FREQ_F (regUnits (mean (fun c => (c.freq : Rat))))
  let r2 := (r1.putWord R.ZE_VRMS (BitVec.ofNat 32 (regUnits (mean (fun c => c.vrms) * 1000)))).putWord R.ZE_IRMS
    (BitVec.ofNat 32 (regUnits (mean (fun c => c.irms) * 1000)))
  let r3 := ((r2.putWord R.ZE_P (BitVec.ofInt 32 (Config.toUnits (mean (fun c => c.p) * 1000)))).putWord R.ZE_Q
    (BitVec.ofInt 32 (Config.toUnits (mean (fun c => c.q) * 1000)))).putWord R.ZE_S
    (BitVec.ofNat 32 (regUnits (mean (fun c => c.s) * 1000)))
  (r3.putInt F.ZE_PF_PF (Config.toUnits (mean (fun c => c.pf) * 10000))).putInt F.ZE_PF_DPF
    (Config.toUnits (mean (fun c => c.dpf) * 10000))

theorem windowMeans_shows (m : Meter) (r : RegFile) :
    (windowMeans m r).word R.ZE_VRMS = BitVec.ofNat 32 (regUnits (meanOf (m.win.map (fun c => c.vrms)) * 1000)) ∧
    (windowMeans m r).word R.ZE_IRMS = BitVec.ofNat 32 (regUnits (meanOf (m.win.map (fun c => c.irms)) * 1000)) ∧
    (windowMeans m r).word R.ZE_P = BitVec.ofInt 32 (Config.toUnits (meanOf (m.win.map (fun c => c.p)) * 1000)) ∧
    (windowMeans m r).bit F.ZE_FREQ_VALID = m.lock := by
  have hlock : (windowMeans m r).bit F.ZE_FREQ_VALID = m.lock := by
    simp (disch := decide) only [windowMeans, RegFile.putInt, RegFile.putBit, RegFile.bit, nat_putWord_ne, nat_putNat_apart]
    exact bit_putNat_bit1 _ (by decide) _
  rw [hlock]
  simp (disch := decide) only [windowMeans, RegFile.word, RegFile.putWord, RegFile.putInt, RegFile.putNat, rfGet_put_ne,
    rfGet_put, and_self]

/-- A window of ten cycles published but for its harmonics (R156, R162). -/
def windowClosed (s : State) (p : Phys) : State :=
  let m := s.mt p
  let s1 := s.onR p (windowMeans m)
  let s2 := publishClip (publishClip s1 p F.ZE_STAT_VCLIP m.markV 0x4B02) p F.ZE_STAT_ICLIP m.markI 0x4B03
  let neg := decide (meanOf (m.win.map (fun c => c.p)) < 0)
  (s2.onMt p (fun m => { m with win := [], markV := false, markI := false, signP := neg })).evtIf (neg != m.signP) p 4 EVT.ZE_DIR

theorem windowClosed_spec : ((windowClosed s p).mt p).win = [] ∧
    ∀ a, onWindow a = true → rfGet ((windowClosed s p).z p).regs a = rfGet (windowMeans (s.mt p) (s.z p).regs) a := by
  have hclip (t : State) : WindowKept p t (publishClip (publishClip t p F.ZE_STAT_VCLIP (s.mt p).markV 0x4B02) p
      F.ZE_STAT_ICLIP (s.mt p).markI 0x4B03) :=
    (windowKept_publishClip t p rfl _ _).trans (windowKept_publishClip _ p rfl _ _)
  refine ⟨by simp [windowClosed, State.mt, State.onMt], fun a ha => ?_⟩
  simp only [windowClosed, z_evtIf, State.onMt, z_onZ]
  rw [(hclip _).regs a ha, z_onR]

variable {s p}

theorem publishWindow_closes (grid : List Rat) (h : 10 ≤ (s.mt p).win.length) :
    WindowKept p (windowClosed s p) (publishWindow s p grid) := by
  have heq : publishWindow s p grid = match (s.mt p).win with
      | c :: _ => if (s.mt p).lock && (s.mt p).win.all (fun x => x.tracked) then publishHarm (windowClosed s p) p c.start grid
        else windowClosed s p
      | [] => windowClosed s p := if_neg (Nat.not_lt.mpr h)
  rw [heq]
  split
  · exact .ite (windowKept_publishHarm ..) (.refl ..)
  · exact .refl ..

/-- Ten cycles publish their means, and an empty window begins (R162). -/
theorem publishWindow_shows (grid : List Rat) (h : 10 ≤ (s.mt p).win.length) {t : State} (ht : t = publishWindow s p grid) :
    (t.mt p).win = [] ∧
    (t.z p).regs.word R.ZE_VRMS = BitVec.ofNat 32 (regUnits (meanOf ((s.mt p).win.map (fun c => c.vrms)) * 1000)) ∧
    (t.z p).regs.word R.ZE_IRMS = BitVec.ofNat 32 (regUnits (meanOf ((s.mt p).win.map (fun c => c.irms)) * 1000)) ∧
    (t.z p).regs.word R.ZE_P = BitVec.ofInt 32 (Config.toUnits (meanOf ((s.mt p).win.map (fun c => c.p)) * 1000)) ∧
    t.gb p F.ZE_FREQ_VALID = (s.mt p).lock := by
  obtain ⟨hempty, hclosed⟩ := windowClosed_spec s p
  obtain ⟨hkept, hmeter⟩ := publishWindow_closes grid h
  obtain ⟨hv, hi, hp, hlock⟩ := windowMeans_shows (s.mt p) (s.z p).regs
  have hread (a : Nat) (ha : onWindow a = true) : rfGet (t.z p).regs a = rfGet (windowMeans (s.mt p) (s.z p).regs) a := by
    rw [ht, hkept a ha, hclosed a ha]
  refine ⟨by rw [ht, hmeter, hempty], (hread _ rfl).trans hv, (hread _ rfl).trans hi, (hread _ rfl).trans hp, ?_⟩
  rw [← hlock, State.gb, RegFile.bit, RegFile.nat, hread _ rfl, RegFile.bit, RegFile.nat]

end Window

/-! ### The relay driver that waits for FAST (R178) -/

section Driver
variable (s : State) (p : Phys) (j : Out)

theorem onOut_meter (f : OutSt → OutSt) : (s.onOut p j f).mt p = s.mt p := by
  rw [State.mt, State.z, sl_onOut]
  simp [syncHold, State.w, State.wb, State.onR, State.onOuts, State.wWord, State.onZ, State.mt, State.z]

theorem refreshOut_meter : (refreshOut s p j).mt p = s.mt p := by
  have hbump (t : State) (x : Fld) : (t.bump p x).mt p = t.mt p := by rw [State.mt, z_bump, State.mt]
  unfold refreshOut
  dsimp only
  split_ifs <;> simp only [hbump, onOut_meter]

variable {s p j}

/-- The driver that waited drives its output anew. -/
theorem endWait_switches (h : (s.mt p).cap.drvWait = some j) {t : State} (ht : t = endWait s p) :
    (t.mt p).cap.drvWait = none ∧ (t.out p j).waitCap = false ∧
      ((s.out p j).held = false → (t.out p j).applied = appliedOf j { s.out p j with waitCap := false }) := by
  obtain ⟨u, hu⟩ : ∃ u, u = (s.onCap p (fun c => { c with drvWait := none })).onOut p j (fun o => { o with waitCap := false }) :=
    ⟨_, rfl⟩
  have heq : t = refreshOut u p j := by
    rw [ht, hu, endWait, h]
  have hout : u.out p j = { s.out p j with waitCap := false } := by
    rw [hu, out_onOut, if_pos rfl, State.out, State.onCap, State.onMt, z_onZ, State.out]
  refine ⟨by rw [heq, refreshOut_meter, hu, onOut_meter, onCap_mt], ?_⟩
  cases hheld : (s.out p j).held with
  | true =>
    have hkept : refreshOut u p j = u := if_pos (by rw [hout]; exact hheld)
    rw [heq, hkept, hout]
    exact ⟨rfl, fun hfree => nomatch hfree⟩
  | false =>
    obtain ⟨pin, on, row, hnew⟩ := out_refreshOut (s := u) (p := p) (j := j) (by rw [hout]; exact hheld)
    rw [heq, hnew, hout]
    exact ⟨rfl, fun _ => rfl⟩

theorem endWait_idle (h : (s.mt p).cap.drvWait = none) : endWait s p = s := by rw [endWait, h]

end Driver

/-! ### Flow inputs (R190, R191, R194) -/

/-- What the heat of a pulse leaves: the flow inputs with their rates, the volumes, the water of the hour (R190, R192). -/
structure FlowKept (p : Phys) (s t : State) : Prop where
  fl    : (t.ht p).fl = (s.ht p).fl
  volH  : (t.ht p).acc[2] = (s.ht p).acc[2]
  volW  : (t.ht p).acc[3] = (s.ht p).acc[3]
  water : (t.ht p).water = (s.ht p).water
  rates : ∀ n : Fin 2, t.g p F.ZH_FLOW_n_FLOW n = s.g p F.ZH_FLOW_n_FLOW n

section FlowKept
variable {p : Phys} {s t u : State}

theorem FlowKept.refl (p : Phys) (s : State) : FlowKept p s s := ⟨rfl, rfl, rfl, rfl, fun _ => rfl⟩

theorem FlowKept.trans (h : FlowKept p s t) (k : FlowKept p t u) : FlowKept p s u :=
  ⟨k.fl.trans h.fl, k.volH.trans h.volH, k.volW.trans h.volW, k.water.trans h.water, fun n => (k.rates n).trans (h.rates n)⟩

theorem FlowKept.of_z (h : FlowKept p s t) (hz : u.z p = t.z p) : FlowKept p s u := by
  have hht : u.ht p = t.ht p := congrArg ZoneState.heat hz
  exact h.trans ⟨by rw [hht], by rw [hht], by rw [hht], by rw [hht], fun n => by rw [State.g, hz, State.g]⟩

theorem FlowKept.onR (h : FlowKept p s t) {f : RegFile → RegFile}
    (hf : ∀ r (n : Fin 2), rfGet (f r) (F.ZH_FLOW_n_FLOW.at n) = rfGet r (F.ZH_FLOW_n_FLOW.at n)) : FlowKept p s (t.onR p f) := by
  have hht : (t.onR p f).ht p = t.ht p := by rw [State.ht, State.onR, z_onZ, State.ht]
  exact h.trans ⟨by rw [hht], by rw [hht], by rw [hht], by rw [hht], fun n => by
    rw [State.g, z_onR, RegFile.nat, hf, State.g, RegFile.nat]⟩

/-- No rate of a flow input stands at an address. -/
def offRates (a : Nat) : Bool := (List.finRange 2).all fun n => a != F.ZH_FLOW_n_FLOW.at n

theorem rfGet_rfPut_offRates {a : Nat} (h : offRates a = true) (n : Fin 2) (f : RegFile) (w : Word) :
    rfGet (rfPut f a w) (F.ZH_FLOW_n_FLOW.at n) = rfGet f (F.ZH_FLOW_n_FLOW.at n) :=
  rfGet_put_ne _ _ _ _ (by simpa using List.all_eq_true.mp h n (List.mem_finRange n))

theorem FlowKept.w (h : FlowKept p s t) {x : Fld} {v : Nat} (hx : offRates (x.at 0) = true) : FlowKept p s (t.w p x v) :=
  h.onR fun _ n => rfGet_rfPut_offRates hx n ..
theorem FlowKept.wi (h : FlowKept p s t) {x : Fld} {v : Int} (hx : offRates (x.at 0) = true) : FlowKept p s (t.wi p x v) :=
  h.onR fun _ n => rfGet_rfPut_offRates hx n ..
theorem FlowKept.wb (h : FlowKept p s t) {x : Fld} {b : Bool} (hx : offRates (x.at 0) = true) : FlowKept p s (t.wb p x b) :=
  h.onR fun _ n => rfGet_rfPut_offRates hx n ..
theorem FlowKept.wWord (h : FlowKept p s t) {r : Reg} {w : Word} (hr : offRates (r.at 0) = true) : FlowKept p s (t.wWord p r w) :=
  h.onR fun _ n => rfGet_rfPut_offRates hr n ..

end FlowKept

section Flow
variable (s : State) (p : Phys)

theorem flowKept_showRange (r : Bool × Bool) : FlowKept p s (showRange s p r) := (((FlowKept.refl p s).wb rfl).wb rfl).of_z (z_evtIf ..)
theorem flowKept_showDir (d : Nat) : FlowKept p s (showDir s p d) := ((FlowKept.refl p s).w rfl).of_z (z_evtIf ..)

/-- An accumulator advanced. -/
theorem addHeat_ht {i : Nat} (hi : i < 4) (q : Rat) : (addHeat s p i q).ht p =
    { s.ht p with acc := (s.ht p).acc.set i ((s.ht p).acc[i].add q) hi } := by
  rw [addHeat, dif_pos hi, State.ht, z_onHt, State.ht]

theorem addHeat_regs (i : Nat) (q : Rat) : ((addHeat s p i q).z p).regs = (s.z p).regs := by
  unfold addHeat
  split
  · rw [z_onHt]
  · rfl

/-- The energies stand beside the volumes (R194). -/
theorem flowKept_addHeat {i : Nat} (hi : i < 2) (q : Rat) : FlowKept p s (addHeat s p i q) := by
  have hi4 : i < 4 := by omega
  have hht := addHeat_ht s p hi4 q
  have hacc {k : Nat} (hk : k < 4) (hne : i ≠ k) : ((addHeat s p i q).ht p).acc[k] = (s.ht p).acc[k] := by
    simp only [hht, Vector.getElem_set_ne hi4 hk hne]
  exact ⟨by rw [hht], hacc (by decide) (by omega), hacc (by decide) (by omega), by rw [hht],
    fun n => by rw [State.g, addHeat_regs, State.g]⟩

theorem flowKept_ite {p : Phys} {s t u : State} {c : Prop} [Decidable c] (ht : FlowKept p s t) (hu : FlowKept p s u) :
    FlowKept p s (if c then t else u) := by split <;> assumption

/-- A pulse's energy is booked beside its volume and its rate. -/
theorem flowKept_heatPulse (dv : Rat) (period : Nat) : FlowKept p s (heatPulse s p dv period) := by
  unfold heatPulse
  split
  · exact .refl p s
  · split
    · exact .refl p s
    · split
      · have hadd (c d : Bool) (a b : Rat) : FlowKept p s (if c then addHeat s p 0 a else if d then addHeat s p 1 b else s) :=
          flowKept_ite (flowKept_addHeat s p (by decide) a) (flowKept_ite (flowKept_addHeat s p (by decide) b) (.refl p s))
        exact .trans (((((hadd ..).wi rfl).wi rfl).wWord rfl).wWord rfl |>.trans (flowKept_showDir ..)) (flowKept_showRange ..)
      · exact .refl p s

variable (n : Fin 2)

/-- The rate of a pulse shown (R190). -/
theorem showFlow_rate (vpp period : Nat) : (showFlow s p n vpp period).g p F.ZH_FLOW_n_FLOW n =
    if period = 0 then 0 else regUnits ((vpp : Rat) * 3600000 / (period : Rat)) := by
  have hword (w : Nat) (hw : w < 2 ^ 32) : fieldOf (BitVec.ofNat 32 w) 31 0 = w := by
    simp only [fieldOf, BitVec.toNat_ofNat, Nat.shiftRight_eq_div_pow]
    omega
  rw [showFlow, State.g, z_wWord, RegFile.nat, RegFile.putWord]
  refine (congrArg (fieldOf · 31 0) (rfGet_put ..)).trans (hword _ ?_)
  split
  · decide
  · exact satTo_lt ..

theorem showFlow_ht (vpp period : Nat) : (showFlow s p n vpp period).ht p = s.ht p := by
  rw [showFlow, State.ht, z_wWord, State.ht]

/-- The pulse of a flow input with its period and its rate shown, before its volume is booked (R190). -/
def pulseShown (s : State) (p : Phys) (n : Fin 2) (period : Nat) : State :=
  showFlow (s.onFl p n (fun x => { x with period := period })) p n ((s.z p).regs.word R.ZH_FL_VPP_n n).toNat period

theorem pulseShown_ht (period : Nat) : (pulseShown s p n period).ht p =
    { s.ht p with fl := (s.ht p).fl.set n.val { (s.ht p).fl[n] with period := period } n.isLt } := by
  rw [pulseShown, showFlow_ht]
  simp [State.onFl, State.ht]

theorem pulseShown_period (period : Nat) : ((pulseShown s p n period).ht p).fl[n].period = period := by
  rw [pulseShown_ht]
  simp

variable {s p n} {period : Nat} (hon : (s.ht p).fl[n].chat.on = false)
include hon

theorem flowPulse_heat (hrole : flowRole s p n = 1) : FlowKept p
    (addHeat (pulseShown s p n period) p 2 ((((s.z p).regs.word R.ZH_FL_VPP_n n).toNat : Rat) / 1000)) (flowPulse s p n period) := by
  have heq : flowPulse s p n period = heatPulse
      (addHeat (pulseShown s p n period) p 2 ((((s.z p).regs.word R.ZH_FL_VPP_n n).toNat : Rat) / 1000)) p
      ((((s.z p).regs.word R.ZH_FL_VPP_n n).toNat : Rat) / 1000000) period := by
    rw [flowPulse, if_neg (ne_true_of_eq_false hon), hrole]
    rfl
  rw [heq]
  exact flowKept_heatPulse ..

theorem flowPulse_water (hrole : flowRole s p n = 2) : flowPulse s p n period =
    addHeat ((pulseShown s p n period).onHt p (fun h => { h with water := true })) p 3
      ((((s.z p).regs.word R.ZH_FL_VPP_n n).toNat : Rat) / 1000) := by
  rw [flowPulse, if_neg (ne_true_of_eq_false hon), hrole]
  rfl

theorem flowPulse_plain (h1 : flowRole s p n ≠ 1) (h2 : flowRole s p n ≠ 2) : flowPulse s p n period = pulseShown s p n period := by
  rw [flowPulse, if_neg (ne_true_of_eq_false hon)]
  dsimp only
  split
  · exact absurd ‹_› h1
  · exact absurd ‹_› h2
  · rfl

/-- An accepted pulse of an input not in CHATTER (R190, R191). -/
theorem flowPulse_counts {t : State} (ht : t = flowPulse s p n period) : (t.ht p).fl[n].period = period ∧
    t.g p F.ZH_FLOW_n_FLOW n = (if period = 0 then 0 else
      regUnits ((((s.z p).regs.word R.ZH_FL_VPP_n n).toNat : Rat) * 3600000 / (period : Rat))) ∧
    (flowRole s p n = 2 → (t.ht p).water = true ∧ (t.ht p).acc[3] =
      ((s.ht p).acc[3]).add ((((s.z p).regs.word R.ZH_FL_VPP_n n).toNat : Rat) / 1000)) ∧
    (flowRole s p n = 1 → (t.ht p).acc[2] =
      ((s.ht p).acc[2]).add ((((s.z p).regs.word R.ZH_FL_VPP_n n).toNat : Rat) / 1000)) := by
  have hrate := showFlow_rate (s.onFl p n (fun x => { x with period := period })) p n
    ((s.z p).regs.word R.ZH_FL_VPP_n n).toNat period
  have hshown := pulseShown_period s p n period
  have hht := pulseShown_ht s p n period
  by_cases h1 : flowRole s p n = 1
  · obtain ⟨hfl, hvol, -, -, hrates⟩ := flowPulse_heat hon h1 (period := period)
    refine ⟨?_, ?_, fun h2 => by omega, fun _ => ?_⟩
    · rw [ht, hfl, addHeat_ht _ _ (by decide), hshown]
    · rw [ht, hrates, State.g, addHeat_regs]
      exact hrate
    · rw [ht, hvol, addHeat_ht _ _ (by decide), hht]
      exact Vector.getElem_set_self _
  · by_cases h2 : flowRole s p n = 2
    · have hwater : ((pulseShown s p n period).onHt p (fun h => { h with water := true })).ht p =
          { (pulseShown s p n period).ht p with water := true } := by rw [State.ht, z_onHt, State.ht]
      rw [ht, flowPulse_water hon h2, addHeat_ht _ _ (by decide), hwater]
      refine ⟨hshown, ?_, fun _ => ⟨rfl, ?_⟩, fun h => absurd h h1⟩
      · rw [State.g, addHeat_regs, z_onHt]
        exact hrate
      · rw [hht]
        exact Vector.getElem_set_self _
    · rw [ht, flowPulse_plain hon h1 h2]
      exact ⟨hshown, hrate, fun h => absurd h h2, fun h => absurd h h1⟩

end Flow

/-! ### The rate of a flow input judged (R190, R191) -/

section Rate
variable {s : State} {p : Phys} {n : Fin 2}

theorem flowIdle_shows : (flowIdle s p n).g p F.ZH_FLOW_n_FLOW n = 0 ∧ (flowIdle s p n).ht p = s.ht p := by
  have hzero : (s.wWord p R.ZH_FLOW_n 0 n).g p F.ZH_FLOW_n_FLOW n = 0 := by
    rw [State.g, z_wWord, RegFile.nat, RegFile.putWord]
    exact congrArg (fieldOf · 31 0) (rfGet_put ..)
  have hht : (s.wWord p R.ZH_FLOW_n 0 n).ht p = s.ht p := by rw [State.ht, z_wWord, State.ht]
  unfold flowIdle
  dsimp only
  split
  · have hk := ((FlowKept.refl p (s.wWord p R.ZH_FLOW_n 0 n)).wWord (r := R.ZH_POWER) (w := 0) rfl).trans
      (flowKept_showRange _ p (false, false))
    refine ⟨(hk.rates n).trans hzero, Eq.trans ?_ hht⟩
    simp [showRange, State.ht]
  · exact ⟨hzero, hht⟩

theorem grows_flagInterval (s : State) (p : Phys) (b : Nat) : Grows s (flagInterval s p b) := grows_onZ ..
theorem grows_onHt (s : State) (p : Phys) (f : Heat → Heat) : Grows s (s.onHt p f) := grows_onZ ..
theorem grows_showFlowFlag (s : State) (p : Phys) (x : Fld) (n : Fin 2) (b : Bool) : Grows s (showFlowFlag s p x n b) :=
  (grows_w ..).trans (grows_evtP ..)

/-- CHATTER of a flow input declared, with its error (R191). -/
theorem flowRateJudge_chatters {rate : Nat} (hrate : 3 * s.g p F.ZH_FL_CFG_n_FMAX n < 2 * rate)
    (hon : (s.ht p).fl[n].chat.on = false) {t : State} (ht : t = flowRateJudge s p n rate) :
    (t.ht p).fl[n].chat.on = true ∧ toldCode s t (slicePage p 5) n.val 0x4B22 := by
  have hflag (t : State) (c : Prop) [Decidable c] (b : Nat) : (if c then flagInterval t p b else t).ht p = t.ht p := by
    split
    · rw [State.ht, flagInterval_z, State.ht]
    · rfl
  have hbump (t : State) (x : Fld) : (t.bump p x).ht p = t.ht p := by rw [State.ht, z_bump, State.ht]
  rw [flowRateJudge, if_pos hrate, if_neg (ne_true_of_eq_false hon)] at ht
  rw [ht]
  unfold flowChatter
  dsimp only
  constructor
  · rw [State.ht, z_err, ← State.ht, hflag, hbump, showFlowFlag_ht, fl_onFl]
  · refine toldCode_errP (.trans ?_ (grows_ite (grows_flagInterval ..) (.refl _))) (.refl _)
    exact ((grows_onHt ..).trans (grows_showFlowFlag ..)).trans (grows_bump ..)

/-- A rate above FMAX, with its error (R191). -/
theorem flowRateJudge_over {rate : Nat} (hlow : 2 * rate ≤ 3 * s.g p F.ZH_FL_CFG_n_FMAX n) (hover : s.g p F.ZH_FL_CFG_n_FMAX n < rate)
    (hovr : (s.ht p).fl[n].ovr = false) {t : State} (ht : t = flowRateJudge s p n rate) :
    (t.ht p).fl[n].ovr = true ∧ toldCode s t (slicePage p 5) n.val 0x4B23 := by
  rw [flowRateJudge, if_neg (Nat.not_lt.mpr hlow), if_pos hover, if_neg (ne_true_of_eq_false hovr)] at ht
  rw [ht]
  constructor
  · rw [State.ht, z_err, z_bump, ← State.ht, showFlowFlag_ht, fl_onFl]
  · exact toldCode_errP (((grows_onHt ..).trans (grows_showFlowFlag ..)).trans (grows_bump ..)) (.refl _)

/-- A rate within FMAX ends OVR and tells nothing (R191). -/
theorem flowRateJudge_within {rate : Nat} (hlow : 2 * rate ≤ 3 * s.g p F.ZH_FL_CFG_n_FMAX n) (hin : rate ≤ s.g p F.ZH_FL_CFG_n_FMAX n)
    {t : State} (ht : t = flowRateJudge s p n rate) : (t.ht p).fl[n].ovr = false ∧ t.coll = s.coll := by
  rw [flowRateJudge, if_neg (Nat.not_lt.mpr hlow), if_neg (Nat.not_lt.mpr hin)] at ht
  by_cases hovr : (s.ht p).fl[n].ovr = true
  · rw [if_pos hovr] at ht
    rw [ht]
    refine ⟨by rw [showFlowFlag_ht, fl_onFl], ?_⟩
    rw [showFlowFlag, coll_evt]
    rfl
  · rw [if_neg hovr] at ht
    rw [ht]
    exact ⟨eq_false_of_ne_true hovr, rfl⟩

end Rate

/-! ### The end of a clock hour (R192) -/

section Leak
variable {s : State} {p : Phys}

/-- The hours with water in a row, with the hour that ends. -/
def hoursWet (h : Heat) : Nat := if h.water then h.leakRun + 1 else 0

/-- The hour's water counted and taken back. -/
def hourCounted (s : State) (p : Phys) : State := s.onHt p (fun h => { h with water := false, leakRun := hoursWet (s.ht p) })

theorem hourCounted_ht : (hourCounted s p).ht p = { s.ht p with water := false, leakRun := hoursWet (s.ht p) } := by
  rw [hourCounted, State.ht, z_onHt, State.ht]

/-- LEAK set and shown after the hour is counted. -/
def leakSet (s : State) (p : Phys) (b : Bool) : State :=
  ((hourCounted s p).onHt p (fun h => { h with leak := b })).wbEvt p F.ZH_STAT_LEAK b 5 EVT.ZH_LEAK

theorem leakSet_ht (b : Bool) : (leakSet s p b).ht p =
    { s.ht p with water := false, leakRun := hoursWet (s.ht p), leak := b } := by
  have hht : ((hourCounted s p).onHt p (fun h => { h with leak := b })).ht p = { (hourCounted s p).ht p with leak := b } := by
    rw [State.ht, z_onHt, State.ht]
  rw [leakSet, State.wbEvt]
  split
  · rw [hht, hourCounted_ht]
  · rw [State.ht, z_evt, z_wb, ← State.ht, hht, hourCounted_ht]

theorem leakHour_eq : leakHour s p =
    if !(s.ht p).water || s.g p F.ZH_WCFG_LEAKH == 0 then leakSet s p false
    else if !(s.ht p).leak && decide (s.g p F.ZH_WCFG_LEAKH ≤ hoursWet (s.ht p)) then (leakSet s p true).err p 5 0 0x4B25
    else hourCounted s p := rfl

theorem leakHour_counts : ((leakHour s p).ht p).water = false ∧ ((leakHour s p).ht p).leakRun = hoursWet (s.ht p) := by
  rw [leakHour_eq]
  split
  · rw [leakSet_ht]
    exact ⟨rfl, rfl⟩
  · split
    · rw [State.ht, z_err, ← State.ht, leakSet_ht]
      exact ⟨rfl, rfl⟩
    · rw [hourCounted_ht]
      exact ⟨rfl, rfl⟩

/-- An hour without water ends LEAK. -/
theorem leakHour_dry (h : (s.ht p).water = false) : ((leakHour s p).ht p).leak = false := by
  rw [leakHour_eq, if_pos (by rw [h]; rfl), leakSet_ht]

/-- LEAKH hours with water begin LEAK, with its error. -/
theorem leakHour_leaks (h : (s.ht p).water = true) (hcfg : s.g p F.ZH_WCFG_LEAKH ≠ 0)
    (hrun : s.g p F.ZH_WCFG_LEAKH ≤ (s.ht p).leakRun + 1) (hnew : (s.ht p).leak = false) :
    ((leakHour s p).ht p).leak = true ∧ toldCode s (leakHour s p) (slicePage p 5) 0 0x4B25 := by
  have hwet : hoursWet (s.ht p) = (s.ht p).leakRun + 1 := if_pos h
  rw [leakHour_eq, if_neg (by simp [h, hcfg]), if_pos (by simp [hnew, hwet, hrun])]
  constructor
  · rw [State.ht, z_err, ← State.ht, leakSet_ht]
  · exact toldCode_errP (((grows_onHt ..).trans (grows_onHt ..)).trans
      (grows_ite (.refl _) ((grows_wb ..).trans (grows_evtP ..)))) (.refl _)

end Leak

/-- Settles O46, from what each of the meter's and the flow inputs' events leaves of the zone. -/
theorem meterAndFlow : Obligations.MeterAndFlow := by
  intro s p hrun
  refine ⟨fun grid => ⟨fun hten => ?window, fun hfew => ?fewer⟩, fun j hj => ?driver, fun hnone => ?noDriver,
    fun n period => ⟨fun hon => ?chatter, fun hon => ?pulse⟩, fun n => ?timeout,
    fun n rate => ⟨fun hrate hon => ?above, fun hlow hover hovr => ?ovr, fun hlow hin => ?within⟩, ?leak⟩
  case window =>
    exact ⟨_, onRunning_runs hrun (publishWindow · p grid), publishWindow_cr_ne _ _ _, publishWindow_shows grid hten rfl⟩
  case fewer => exact onRunning_keeps (f := (publishWindow · p grid)) (if_pos hfew) p
  case driver => exact ⟨_, onRunning_runs hrun (endWait · p), endWait_cr_ne _ _, endWait_switches hj rfl⟩
  case noDriver => exact onRunning_keeps (f := (endWait · p)) (endWait_idle hnone) p
  case chatter => exact onRunning_keeps (f := (flowPulse · p n period)) (if_pos hon) p
  case pulse => exact ⟨_, onRunning_runs hrun (flowPulse · p n period), flowPulse_cr_ne _ _ _ _, flowPulse_counts hon rfl⟩
  case timeout => exact ⟨_, onRunning_runs hrun (flowIdle · p n), flowIdle_cr_ne _ _ _, flowIdle_shows⟩
  case above =>
    exact ⟨_, onRunning_runs hrun (flowRateJudge · p n rate), flowRateJudge_cr_ne _ _ _ _, flowRateJudge_chatters hrate hon rfl⟩
  case ovr =>
    exact ⟨_, onRunning_runs hrun (flowRateJudge · p n rate), flowRateJudge_cr_ne _ _ _ _, flowRateJudge_over hlow hover hovr rfl⟩
  case within =>
    exact ⟨_, onRunning_runs hrun (flowRateJudge · p n rate), flowRateJudge_cr_ne _ _ _ _, flowRateJudge_within hlow hin rfl⟩
  case leak =>
    obtain ⟨hwater, hleakRun⟩ := leakHour_counts (s := s) (p := p)
    exact ⟨_, onRunning_runs hrun (leakHour · p), leakHour_cr_ne _ _, hwater, hleakRun, leakHour_dry, leakHour_leaks⟩

end Sys2Proof.Machine

namespace Sys2Proof.Machine
open Host

/-! ### Registers with a FIFO or a pointer behind them (R181, R313, R455, R511, R567) -/

/-- An aligned register of an open view's page answers. -/
theorem readStatus_view {d : State} {v : View} {a : Nat} (hopen : d.viewOpen v = true) (hlo : 0x100000 ≤ a) (hhi : a < 0x10E000)
    (h4 : a % 4 = 0) : readStatus d (viewAddr v a) = .ok := by
  obtain ⟨hmoving, hdark⟩ := viewOpen_place hopen (a / 4096 - 0x100)
  simp [readStatus, viewAddr_aligned v h4, place_viewAddr d v hlo hhi, hmoving, hdark]

/-- A read of the host through an open view is the read of the slice's register. -/
theorem hostRead_sliceRead {s d : State} {v : View} {a : Nat} (hr : s.porchRuns = true) (hd : d = endDoze s)
    (hopen : d.viewOpen v = true) (hlo : 0x100000 ≤ a) (hhi : a < 0x10E000) (h4 : a % 4 = 0) (hoff : 0x40 ≤ a % 4096) :
    hostRead s (viewAddr v a) = (sliceRead d (d.viewSlice v) a).2.emit (.access .ok (sliceRead d (d.viewSlice v) a).1) := by
  have hkey : keyOf (.slice (d.viewSlice v) (a / 4096 - 0x100) (viewZone v)) (a % 4096) = a := by
    simp only [keyOf]
    omega
  rw [hostRead_ok hr hd (readStatus_view hopen hlo hhi h4) (place_viewAddr d v hlo hhi), viewAddr_off, readOk_slice hoff, hkey]

/-- An aligned register of the porch answers, one of the cellar while the cellar is not locked (R59). -/
theorem readStatus_porch {d : State} {a : Nat} (hpage : (pageKind (a / 4096)).onPorch = true) (h4 : a % 4 = 0)
    (hlit : cellarDark d (a / 4096) = false) : readStatus d a = .ok := by
  simp [readStatus, h4, place_onPorch hpage, placeMoving, placeDark, hlit]

/-- A read of the host from a page of the porch or the cellar is the read of its register. -/
theorem hostRead_porchRead {s d : State} {a : Nat} (hr : s.porchRuns = true) (hd : d = endDoze s)
    (hpage : (pageKind (a / 4096)).onPorch = true) (h4 : a % 4 = 0) (hoff : 0x40 ≤ a % 4096) (hlit : cellarDark d (a / 4096) = false) :
    hostRead s a = (porchRead d (a / 4096) (a % 4096)).2.emit (.access .ok (porchRead d (a / 4096) (a % 4096)).1) := by
  rw [hostRead_ok hr hd (readStatus_porch hpage h4 hlit) (place_onPorch hpage), readOk_porch hoff]

theorem cellarDark_low (d : State) {page : Nat} (h : page < 0x40) : cellarDark d page = false := by
  simp [cellarDark, Nat.not_le.mpr h]

theorem cellarDark_unlocked {d : State} (h : d.cellar.locked = false) (page : Nat) : cellarDark d page = false := by
  simp [cellarDark, h]

/-! #### The panel events and the capture (R181, R313) -/

section Slice
variable (s : State) (p : Phys)

theorem sliceRead_panel : sliceRead s p (R.ZK_EVT_LO.at 0) = takePanelEvent s p := rfl
theorem sliceRead_capture : sliceRead s p (R.ZE_CAP_DATA.at 0) = readCapture s p := rfl

theorem z_latchZW (l : List (Nat × Word)) : (s.latchZW p l).z p =
    { s.z p with latch := l.foldl (fun f a => rfPut f a.1 a.2) (s.z p).latch } := z_onZ ..

theorem sl_onZ_ne (f : ZoneState → ZoneState) {q : Phys} (hq : q ≠ p) : (s.onZ p f).sl q = s.sl q := sl_setSl_ne _ _ _ _ hq

theorem takePanelEvent_sl_ne {q : Phys} (hq : q ≠ p) : (takePanelEvent s p).2.sl q = s.sl q := by
  unfold takePanelEvent
  split
  · rfl
  · exact (sl_onZ_ne _ _ _ hq).trans (sl_onZ_ne _ _ _ hq)

variable {s p}

/-- The oldest panel event removed, with its time in the latch (R313). -/
theorem takePanelEvent_oldest {e : PanelEvt} {l : List PanelEvt} (h : (s.z p).panel.evts = e :: l) :
    ((takePanelEvent s p).2.z p).panel.evts = l ∧
    (takePanelEvent s p).1 = BitVec.ofNat 32 (2 ^ 31 + e.type * 2 ^ 28 + e.key * 2 ^ 24 + l.length * 2 ^ 16) ∧
    rfGet ((takePanelEvent s p).2.z p).latch (R.ZK_EVT_HI.at 0) = BitVec.ofNat 32 e.time := by
  rw [takePanelEvent, State.pn, h]
  dsimp only
  rw [z_latchZW, z_onPn]
  exact ⟨rfl, rfl, rfGet_put ..⟩

theorem takePanelEvent_none (h : (s.z p).panel.evts = []) : takePanelEvent s p = (0, s) := by
  rw [takePanelEvent, State.pn, h]

variable (s p)

/-- PTR advanced (R181). -/
def ptrAdvanced : State := s.w p F.ZE_CAP_PTR_PTR ((s.g p F.ZE_CAP_PTR_PTR + 1) % 65536)

/-- A read of ZE_CAP_DATA leaves every slice as the advance of PTR does, but for a free word drawn beside them. -/
theorem readCapture_slices : (readCapture s p).2.slices = (ptrAdvanced s p).slices := by
  unfold readCapture
  dsimp only
  split
  · rfl
  · rfl

theorem readCapture_sl (q : Phys) : (readCapture s p).2.sl q = (ptrAdvanced s p).sl q := by
  rw [State.sl, readCapture_slices, State.sl]

theorem readCapture_ptr : (readCapture s p).2.g p F.ZE_CAP_PTR_PTR = (s.g p F.ZE_CAP_PTR_PTR + 1) % 65536 := by
  rw [State.g, State.z, readCapture_sl, ← State.z, ptrAdvanced, z_w]
  exact (nat_putNat_fit (f := (s.z p).regs) (x := F.ZE_CAP_PTR_PTR) (i := 0) (by decide) _).trans (Nat.mod_mod ..)

theorem readCapture_meter : ((readCapture s p).2.z p).meter = (s.z p).meter := by
  rw [State.z, readCapture_sl, ← State.z, ptrAdvanced, z_w]

theorem readCapture_sl_ne {q : Phys} (hq : q ≠ p) : (readCapture s p).2.sl q = s.sl q := by
  rw [readCapture_sl]
  exact sl_onZ_ne _ _ _ hq

variable {s p}

theorem readCapture_word {x : Word} (h : (s.z p).meter.cap.words[s.g p F.ZE_CAP_PTR_PTR]? = some x) : (readCapture s p).1 = x := by
  rw [readCapture, h]

end Slice

/-! #### The frames of the bus (R455) -/

/-- A latch after words are put at addresses that are all different. -/
theorem rfGet_foldl_mem {l : List (Nat × Word)} (hl : (l.map Prod.fst).Nodup) (f : RegFile) {c : Nat × Word} (hc : c ∈ l) :
    rfGet (l.foldl (fun f a => rfPut f a.1 a.2) f) c.1 = c.2 := by
  induction l generalizing f with
  | nil => cases hc
  | cons k l ih =>
    obtain ⟨hk, hnd⟩ := List.nodup_cons.mp hl
    obtain rfl | hc := List.mem_cons.mp hc
    · have hkeep (l : List (Nat × Word)) (h : c.1 ∉ l.map Prod.fst) (f : RegFile) :
          rfGet (l.foldl (fun f a => rfPut f a.1 a.2) f) c.1 = rfGet f c.1 := by
        induction l generalizing f with
        | nil => rfl
        | cons k l ih =>
          rw [List.map_cons, List.mem_cons, not_or] at h
          rw [List.foldl_cons, ih h.2, rfGet_put_ne _ _ _ _ (Ne.symm h.1)]
      rw [List.foldl_cons, hkeep l hk, rfGet_put]
    · exact ih hnd _ hc

/-- The companions of FB_RX_HDR with their words (R455). -/
def rxCompanions (i : Fin 2) (info lo hi : Nat) (data : List Byte) : List (Nat × Word) :=
  [(R.FB_RX_INFO.at i.val, BitVec.ofNat 32 info), (R.FB_RX_TS_LO.at i.val, BitVec.ofNat 32 lo),
    (R.FB_RX_TS_HI.at i.val, BitVec.ofNat 32 hi)] ++
  (List.range 8).map (fun k => (R.FB_RX_DATA_k.at (fbData i k), wordAt data (4 * k)))

theorem rxCompanions_nodup (i : Fin 2) (info lo hi : Nat) (data : List Byte) :
    ((rxCompanions i info lo hi data).map Prod.fst).Nodup := by
  have haddr : ∀ i : Fin 2, ([R.FB_RX_INFO.at i.val, R.FB_RX_TS_LO.at i.val, R.FB_RX_TS_HI.at i.val] ++
      (List.range 8).map (fun k => R.FB_RX_DATA_k.at (fbData i k))).Nodup := by decide
  exact haddr i

theorem latch_rxCompanions (s : State) (i : Fin 2) (info lo hi : Nat) (data : List Byte) {t : State}
    (ht : t.latch = (s.latchPW (rxCompanions i info lo hi data)).latch) :
    rfGet t.latch (R.FB_RX_INFO.at i.val) = BitVec.ofNat 32 info ∧
    rfGet t.latch (R.FB_RX_TS_LO.at i.val) = BitVec.ofNat 32 lo ∧
    rfGet t.latch (R.FB_RX_TS_HI.at i.val) = BitVec.ofNat 32 hi ∧
    ∀ k, k < 8 → rfGet t.latch (R.FB_RX_DATA_k.at (fbData i k)) = wordAt data (4 * k) := by
  have hput {a : Nat} {w : Word} (h : (a, w) ∈ rxCompanions i info lo hi data) : rfGet t.latch a = w := by
    rw [ht]
    exact rfGet_foldl_mem (rxCompanions_nodup i info lo hi data) _ h
  refine ⟨hput (by simp [rxCompanions]), hput (by simp [rxCompanions]), hput (by simp [rxCompanions]), fun k hk => hput ?_⟩
  exact List.mem_append_right _ (List.mem_map.mpr ⟨k, List.mem_range.mpr hk, rfl⟩)

section Bus
variable {s : State} {i : Fin 2}

theorem porchRead_rxHdr (s : State) (i : Fin 2) :
    porchRead s (R.FB_RX_HDR.at i.val / 4096) (R.FB_RX_HDR.at i.val % 4096) = readRxHdr s i := by
  unfold porchRead
  dsimp only
  rw [Nat.div_add_mod']
  match i with
  | 0 => rw [if_neg (by decide), if_neg (by decide), if_pos (by decide)]
  | 1 => rw [if_neg (by decide), if_neg (by decide), if_neg (by decide), if_pos (by decide)]

theorem readRxHdr_oldest {f : BusFrame} {ts : Nat} {l : List (BusFrame × Nat)} (h : (s.port i).rx = (f, ts) :: l) :
    readRxHdr s i = (rxHdrWord f, (s.onPort i (fun x => { x with rx := l })).latchPW
      (rxCompanions i (f.pri.toNat * 2 ^ 28 + l.length * 2 ^ 16) (ts % 2 ^ 32) (ts / 2 ^ 32) f.data)) := by
  rw [readRxHdr, h]
  rfl

theorem readRxHdr_none (h : (s.port i).rx = []) : readRxHdr s i = (0, s.latchPW (rxCompanions i 0 0 0 [])) := by
  rw [readRxHdr, h]
  rfl

theorem port_onPort (s : State) (i : Fin 2) (f : PortSt → PortSt) : (s.onPort i f).port i = f (s.port i) :=
  Vector.getElem_set_self _

theorem readRxHdr_slices (s : State) (i : Fin 2) : (readRxHdr s i).2.slices = s.slices := by
  cases h : (s.port i).rx with
  | nil => rw [readRxHdr_none h]; rfl
  | cons c l => rw [readRxHdr_oldest h]; rfl

/-- No byte of a frame's data stands in the companions of an empty FIFO. -/
theorem wordAt_nil (o : Nat) : wordAt [] o = 0 := by
  rw [wordAt, leAt, List.drop_nil, List.take_nil]
  rfl

end Bus

/-! #### The wake log and the supply (R511, R567) -/

section Cellar
variable {s : State}

theorem porchRead_wakeEvt (s : State) : porchRead s (R.CLR_WAKE_EVT_LO.at 0 / 4096) (R.CLR_WAKE_EVT_LO.at 0 % 4096) = readWakeEvt s := by
  unfold porchRead
  dsimp only
  rw [Nat.div_add_mod', if_pos rfl]

theorem readWakeEvt_slices (s : State) : (readWakeEvt s).2.slices = s.slices := by
  unfold readWakeEvt
  split <;> rfl

theorem readWakeEvt_oldest {r : WakeRec} {l : List WakeRec} (h : s.cellar.wlog = r :: l) : readWakeEvt s =
    (BitVec.ofNat 32 (2 ^ 31 + r.src % 16 * 2 ^ 27 + r.state % 8 * 2 ^ 24 + satTo 8 l.length * 2 ^ 16 + satTo 16 r.count),
      ({ s with cellar := { s.cellar with wlog := l } }).latchPW [(R.CLR_WAKE_EVT_HI.at 0, lowWord (r.time / 1000))]) := by
  rw [readWakeEvt, h]

theorem latch_single (s : State) (a : Nat) (w : Word) {t : State} (ht : t.latch = (s.latchPW [(a, w)]).latch) : rfGet t.latch a = w := by
  rw [ht]
  exact rfGet_put ..

theorem readWakeEvt_none (h : s.cellar.wlog = []) : readWakeEvt s = (0, s.latchPW [(R.CLR_WAKE_EVT_HI.at 0, 0)]) := by
  rw [readWakeEvt, h]

end Cellar

/-- PWR_SUPPLY of a VIN, a RANGE and an IIN. -/
def supplyWord (vin : Nat) (range : Bool) (iin : Nat) : Word :=
  BitVec.ofNat 32 (vin % 2 ^ 16 * 2 ^ 16 + bit1 range * 2 ^ 15 + iin % 2 ^ 12)

theorem supplyWord_fields (vin : Nat) (range : Bool) (iin : Nat) :
    fieldOf (supplyWord vin range iin) 31 16 = vin % 2 ^ 16 ∧ fieldOf (supplyWord vin range iin) 15 15 = bit1 range := by
  have hrange := bit1_lt range
  simp only [fieldOf, supplyWord, BitVec.toNat_ofNat, Nat.shiftRight_eq_div_pow]
  omega

/-- A read of PWR_SUPPLY: VIN of the range alarm, or a value in range that is free (R567). -/
theorem readSupply_word (s : State) : ∃ vin iin, (readSupply s).1 = supplyWord vin s.supply.range iin ∧
    (s.supply.range = true → vin = s.supply.vin) ∧ (s.supply.range = false → 18000 ≤ vin ∧ vin ≤ 32000) := by
  refine ⟨_, _, rfl, fun h => if_pos h, fun h => ?_⟩
  rw [if_neg (ne_true_of_eq_false h)]
  omega

theorem readSupply_keeps (s : State) : (readSupply s).2.supply = s.supply ∧ (readSupply s).2.slices = s.slices := ⟨rfl, rfl⟩

/-- A porch with companions latched and a register's RC fields taken. -/
def companionsLatched (s : State) (l : List Nat) (shown : Nat → Word) (regs : RegFile) : State :=
  { s.latchPW (l.map (fun g => (g, shown g))) with regs := regs }

theorem companionsLatched_keeps (s : State) (l : List Nat) (shown : Nat → Word) (regs : RegFile) :
    (companionsLatched s l shown regs).supply = s.supply ∧ (companionsLatched s l shown regs).slices = s.slices := ⟨rfl, rfl⟩

theorem companionsLatched_latch (s : State) {l : List Nat} (shown : Nat → Word) (regs : RegFile) {g : Nat} (hg : g ∈ l) :
    rfGet (companionsLatched s l shown regs).latch g = shown g := (rfGet_latched shown l _ g).trans (if_pos hg)

theorem porchRead_supply (s : State) : porchRead s (R.PWR_SUPPLY.at 0 / 4096) (R.PWR_SUPPLY.at 0 % 4096) = ((readSupply s).1,
    companionsLatched (readSupply s).2 (porchGroup (R.PWR_SUPPLY.at 0)) (fun g => porchShown s (g / 4096) (g % 4096))
      (clearRc (readSupply s).2.regs (R.PWR_SUPPLY.at 0))) := by
  unfold porchRead
  dsimp only
  rw [Nat.div_add_mod', if_neg (by decide), if_neg (by decide), if_neg (by decide), if_neg (by decide), if_pos rfl]
  rfl

/-- What the read of PWR_SUPPLY does beside its word: its companions latched (R183). -/
theorem porchRead_supply_latches (s : State) {r : Word × State}
    (hr : r = porchRead s (R.PWR_SUPPLY.at 0 / 4096) (R.PWR_SUPPLY.at 0 % 4096)) : r.1 = (readSupply s).1 ∧
    (∀ g ∈ [R.PWR_HOLDUP.at 0, R.PWR_START.at 0], rfGet r.2.latch g = porchShown s (g / 4096) (g % 4096)) ∧
    r.2.supply = s.supply ∧ r.2.slices = s.slices := by
  rw [porchRead_supply] at hr
  subst hr
  obtain ⟨hsupply, hslices⟩ := readSupply_keeps s
  obtain ⟨hsupply', hslices'⟩ := companionsLatched_keeps (readSupply s).2 (porchGroup (R.PWR_SUPPLY.at 0))
    (fun g => porchShown s (g / 4096) (g % 4096)) (clearRc (readSupply s).2.regs (R.PWR_SUPPLY.at 0))
  exact ⟨rfl, fun g hg => companionsLatched_latch _ _ _ hg, hsupply'.trans hsupply, hslices'.trans hslices⟩

/-- Settles O19, from what each of the five reads takes and latches. Choices of the model that the statement rests on: VIN is a
free value of 18 to 32 V while RANGE is clear (notes/assumptions/100), ZE_CAP_DATA is free beyond the words held
(notes/assumptions/122), the wake log has no bound and STATE is the PSTATE code (notes/assumptions/66 and 72). -/
theorem fifoReads : Obligations.FifoReads := by
  rintro s v port d p i hr hd rfl rfl
  refine ⟨fun hopen => ⟨?panel, ?capture⟩, ?bus, fun hlit => ?wake, ?supply⟩
  case panel =>
    have hread := hostRead_sliceRead (a := R.ZK_EVT_LO.at 0) hr hd hopen (by decide) (by decide) (by decide) (by decide)
    rw [sliceRead_panel] at hread
    refine ⟨_, congrArg Outcome.next hread, fun e l h => ?_, fun h => ?_, fun q hq => takePanelEvent_sl_ne _ _ hq⟩
    · obtain ⟨hevts, hword, htime⟩ := takePanelEvent_oldest h
      exact ⟨hevts, by rw [lastOut_emit, hword], htime⟩
    · rw [takePanelEvent_none h]
      exact ⟨h, lastOut_emit ..⟩
  case capture =>
    have hread := hostRead_sliceRead (a := R.ZE_CAP_DATA.at 0) hr hd hopen (by decide) (by decide) (by decide) (by decide)
    rw [sliceRead_capture] at hread
    exact ⟨_, _, congrArg Outcome.next hread, lastOut_emit .., readCapture_ptr _ _, fun x hx => readCapture_word hx,
      readCapture_meter _ _, fun q hq => readCapture_sl_ne _ _ hq⟩
  case bus =>
    have hread := hostRead_porchRead (a := R.FB_RX_HDR.at (Port.index port).val) hr hd (by cases port <;> decide)
      (by cases port <;> decide) (by cases port <;> decide) (cellarDark_low _ (by cases port <;> decide))
    rw [porchRead_rxHdr] at hread
    refine ⟨_, congrArg Outcome.next hread, readRxHdr_slices .., fun f ts l h => ?_, fun h => ?_⟩
    · rw [readRxHdr_oldest h]
      exact ⟨port_onPort d _ (fun x => { x with rx := l }), lastOut_emit ..,
        latch_rxCompanions (d.onPort _ (fun x => { x with rx := l })) _ _ _ _ _ rfl⟩
    · obtain ⟨hinfo, hlo, hhi, hdata⟩ := latch_rxCompanions d (Port.index port) 0 0 0 [] rfl
      rw [readRxHdr_none h]
      exact ⟨rfl, lastOut_emit .., hinfo, hlo, hhi, fun k hk => (hdata k hk).trans (wordAt_nil _)⟩
  case wake =>
    have hread := hostRead_porchRead (a := R.CLR_WAKE_EVT_LO.at 0) hr hd (by decide) (by decide) (by decide)
      (cellarDark_unlocked hlit _)
    rw [porchRead_wakeEvt] at hread
    refine ⟨_, congrArg Outcome.next hread, readWakeEvt_slices _, fun r l h => ?_, fun h => ?_⟩
    · rw [readWakeEvt_oldest h]
      exact ⟨rfl, lastOut_emit .., latch_single { d with cellar := { d.cellar with wlog := l } } _ _ rfl⟩
    · rw [readWakeEvt_none h]
      exact ⟨rfl, lastOut_emit .., latch_single d _ _ rfl⟩
  case supply =>
    have hread := hostRead_porchRead (a := R.PWR_SUPPLY.at 0) hr hd (by decide) (by decide) (by decide)
      (cellarDark_low _ (by decide))
    obtain ⟨hshown, hlatched, hsupply, hslices⟩ := porchRead_supply_latches d rfl
    obtain ⟨vin, iin, hword, halarm, hfree⟩ := readSupply_word d
    obtain ⟨hvin, hrange⟩ := supplyWord_fields vin d.supply.range iin
    refine ⟨_, _, congrArg Outcome.next hread, lastOut_emit .., fun h hfit => ?_, fun h => ?_, ?_, hlatched, hsupply, hslices⟩
    · rw [hshown, hword, hvin, halarm h, Nat.mod_eq_of_lt hfit]
    · have hin := hfree h
      rw [hshown, hword, hvin]
      omega
    · rw [hshown, hword, hrange]

end Sys2Proof.Machine

namespace Sys2Proof.Machine
open Host

/-! ### A query of the guestbook (R354) -/

/-- A write that completes OK of a register on a page of the porch, the cellar or the hallway: the word is stored, what it
starts follows, and the page changes (R53, R65). -/
theorem hostWrite_onPorch {s d : State} {a : Nat} (hr : s.porchRuns = true) (hd : d = endDoze s)
    (hpage : (pageKind (a / 4096)).onPorch = true) (hoff : 0x40 ≤ a % 4096) (hreg : (regAt a).isSome = true)
    (hst : writeStatus d a = .ok) (v : Word) (i : Hint) : hostWrite s a v i =
      ((porchAction { d with regs := storeReg d.regs a v } a v i).touch (a / 4096)).emit (.access .ok 0) := by
  have hkey : keyOf (.porch (a / 4096)) (a % 4096) = a := Nat.div_add_mod' a 4096
  rw [hostWrite_ok hr hd hst (place_onPorch hpage), writeOk_register hoff (by rwa [hkey]), registerStore, hkey]
  rfl

theorem pg_access (s : State) (g : Nat) (e : Emit) (x : Fld) (i : Nat) : ((s.touch g).emit e).pg x i = s.pg x i := rfl

/-- The answer to a query that finds an entry with RESULT 2^14: RESULT stands from bit 16 on, so it is added to FOUND, and
their carry clears VALID. -/
theorem queryBook_valid_lost {s : State} {n : Word} {e : GbEntry}
    (hfound : bookEntry s (BitVec.ofNat 16 (s.pg F.PCH_GB_Q_SRC_SOURCE)) n.toNat = some e) (hresult : e.result = 2 ^ 14)
    (hreason : e.reason < 2 ^ 16) : (queryBook s n).pg F.PCH_GB_Q_RES_VALID = 0 := by
  obtain ⟨b, hword⟩ : ∃ b : Bool, rfGet (queryBook s n).regs (R.PCH_GB_Q_RES.at 0) =
      BitVec.ofNat 32 (2 ^ 31 + bit1 true * 2 ^ 30 + bit1 b * 2 ^ 29 + (e.result * 2 ^ 16 + e.reason)) :=
    ⟨_, by simp only [queryBook, hfound]; exact rfGet_put ..⟩
  have hbit : bit1 b ≤ 1 := by cases b <;> decide
  show fieldOf (rfGet (queryBook s n).regs (R.PCH_GB_Q_RES.at 0)) 31 31 = 0
  rw [hword, hresult, fieldOf, BitVec.toNat_ofNat, Nat.shiftRight_eq_div_pow, show bit1 true = 1 from rfl]
  omega

/-- A module in FACTORY whose guestbook holds an entry with a RESULT of more than eight bits. -/
def longResult : State :=
  { State.reset with journal := {
      slots := [(0, { source := 0, hwm := 7 })], book := [{ slot := 0, seq := 7, crc := 0, lseq := 2, result := 2 ^ 14 }] } }

/-- The same module once the query's SEQ is stored. -/
def asked : State := { longResult with regs := storeReg longResult.regs (R.PCH_GB_Q_SEQ.at 0) 7 }

/-- Refutes O23: its first clause bounds the entry's RESULT only where it states RESULT and REASON, and VALID is asked of every
entry. RESULT 2^14, which no command gives (R326), carries into VALID. That a copy is VALID in the same step is the model's
choice (notes/assumptions/123); the refutation does not turn on it. -/
theorem not_copiesForTheHost : ¬ Obligations.CopiesForTheHost := by
  intro h
  have hruns : longResult.porchRuns = true := rfl
  have hawake : longResult = endDoze longResult := (endDoze_of_not_doze (by decide)).symm
  have hopen : writeStatus longResult (R.PCH_GB_Q_SEQ.at 0) = .ok := by decide
  obtain ⟨hquery, -⟩ := h longResult 7 longResult hruns hawake
  obtain ⟨t, ht, -, -, -, hvalid, -⟩ := hquery hopen
  have hwrite : hostWrite longResult (R.PCH_GB_Q_SEQ.at 0) 7 = ((queryBook asked 7).touch 2).emit (.access .ok 0) :=
    hostWrite_onPorch hruns hawake (by decide) (by decide) (by decide) hopen 7 {}
  obtain rfl : hostWrite longResult (R.PCH_GB_Q_SEQ.at 0) 7 = t := Outcome.next.inj ht
  have hfound : bookEntry asked (BitVec.ofNat 16 (asked.pg F.PCH_GB_Q_SRC_SOURCE)) (7 : Word).toNat =
    some { slot := 0, seq := 7, crc := 0, lseq := 2, result := 2 ^ 14 } := by decide
  rw [hwrite, pg_access, queryBook_valid_lost hfound rfl (by decide)] at hvalid
  cases hvalid

end Sys2Proof.Machine

namespace Sys2Proof.Machine
open Host

/-! ### The larder when LSEQ has gone round (R337)

LSEQ counts modulo 2^32 and an entry stands in the larder under its LSEQ: an entry appended under one that is held takes its
place. -/

theorem lt_key_of_smAbove {α : Type} {m : SMap α} {lo : Nat} (hm : smAbove lo m = true) {c : Nat × α} (hc : c ∈ m) :
    lo < c.1 := by
  induction m generalizing lo with
  | nil => cases hc
  | cons d m ih =>
    simp only [smAbove, Bool.and_eq_true, decide_eq_true_eq] at hm
    obtain ⟨hlo, hrest⟩ := hm
    rcases List.mem_cons.mp hc with rfl | hc
    · exact hlo
    · exact hlo.trans (ih hrest hc)

theorem smWf_of_smAbove {α : Type} {m : SMap α} {lo : Nat} (hm : smAbove lo m = true) : smWf m = true := by
  cases m with
  | nil => rfl
  | cons d m =>
    simp only [smAbove, Bool.and_eq_true] at hm
    exact hm.2

/-- What a store in canonical form holds after a write: the item written and, under the other keys, what it held. -/
theorem mem_smPut {α : Type} {m : SMap α} (hm : smWf m = true) {k : Nat} {a : α} {c : Nat × α} (hc : c ∈ smPut m k a) :
    c = (k, a) ∨ c ∈ m ∧ c.1 ≠ k := by
  induction m with
  | nil => exact .inl (List.mem_singleton.mp hc)
  | cons d m ih =>
    obtain ⟨j, b⟩ := d
    have habove : ∀ e ∈ m, j < e.1 := fun e he => lt_key_of_smAbove hm he
    unfold smPut at hc
    split at hc
    · next hk =>
      rcases List.mem_cons.mp hc with rfl | hc
      · exact .inl rfl
      · exact .inr ⟨List.mem_cons_of_mem _ hc, by have := habove c hc; omega⟩
    · next hk =>
      split at hc
      · next hlt =>
        rcases List.mem_cons.mp hc with rfl | hc
        · exact .inl rfl
        · refine .inr ⟨hc, ?_⟩
          rcases List.mem_cons.mp hc with rfl | hc
          · exact fun h => hk h.symm
          · have := habove c hc
            omega
      · rcases List.mem_cons.mp hc with rfl | hc
        · exact .inr ⟨List.mem_cons_self, fun h => hk h.symm⟩
        · exact (ih (smWf_of_smAbove hm) hc).imp_right (fun ⟨hmem, hne⟩ => ⟨List.mem_cons_of_mem _ hmem, hne⟩)

/-- Whether a larder entry is a marker of a head. -/
def LdItem.marks (i : LdItem) (n : Nat) : Bool :=
  match i.kind with
  | .mark _ _ h _ _ _ _ _ _ => h == n
  | _ => false

theorem markersOf_eq_nil_iff (s : State) (n : Nat) : markersOf s n = [] ↔ ∀ c ∈ s.journal.larder, c.2.marks n = false := by
  rw [markersOf, List.filterMap_eq_nil_iff]
  refine forall₂_congr fun c _ => ?_
  obtain ⟨k, src, kind⟩ := c
  cases kind <;> simp [LdItem.marks]

theorem porchMarker_none {s : State} {n : Nat} (h : markersOf s n = []) : s.porchMarker n = none := by
  rw [State.porchMarker, h]
  rfl

/-- What the first marker of a command of a host under way does to the journal: one entry under the next LSEQ. -/
structure MarkedNext (s t : State) (n : Nat) : Prop where
  larder  : ∃ i : LdItem, (∀ m, i.marks m = (n == m)) ∧ t.journal.larder = smPut s.journal.larder s.journal.next i
  next    : t.journal.next = (s.journal.next + 1) % 2 ^ 32
  running : t.journal.running = s.journal.running
  queue   : t.journal.porchQ = s.journal.porchQ

theorem markPorch_first {s : State} {x : Exec} (hrun : underway s x) (hfresh : markersOf s x.lseq = []) (r re : Nat) (v : Word) :
    MarkedNext s (markPorch s x.lseq r re v) x.lseq := by
  obtain ⟨a, ha, rfl, hhost⟩ := hrun
  let i : LdItem := ⟨a.x.source, .mark a.x.seq a.x.opcode a.x.lseq 0 true true r re v⟩
  have heq : markPorch s a.x.lseq r re v = fillRules (addEntry s i) := by
    simp [markPorch, ha, hfresh, endInternal, hhost, i]
  rw [heq]
  exact ⟨⟨i, fun m => rfl, by simp [addEntry]⟩, by simp [addEntry], by simp [addEntry], by simp [addEntry]⟩

/-- The first marker of a command is none of another's. -/
theorem MarkedNext.unmarked {s t : State} {n : Nat} (h : MarkedNext s t n) (hwf : smWf s.journal.larder = true) {m : Nat}
    (hm : n ≠ m) (hfresh : markersOf s m = []) : markersOf t m = [] := by
  obtain ⟨⟨i, hi, hlarder⟩, -, -, -⟩ := h
  rw [markersOf_eq_nil_iff] at hfresh ⊢
  intro c hc
  rw [hlarder] at hc
  rcases mem_smPut hwf hc with rfl | ⟨hc, -⟩
  · simp [hi, hm]
  · exact hfresh c hc

/-- Commands of hosts, each under way and without a marker. -/
structure Waiting (s : State) (l : List Exec) : Prop where
  run   : ∀ y ∈ l, underway s y
  fresh : ∀ y ∈ l, markersOf s y.lseq = []
  apart : (l.map Exec.lseq).Nodup

theorem Waiting.tail {s t : State} {y : Exec} {l : List Exec} (h : Waiting s (y :: l)) (hwf : smWf s.journal.larder = true)
    (ht : MarkedNext s t y.lseq) : Waiting t l := by
  obtain ⟨hrun, hfresh, hapart⟩ := h
  obtain ⟨hy, hl⟩ := List.nodup_cons.mp (List.map_cons ▸ hapart)
  refine ⟨fun z hz => underway_of_running (hrun z (List.mem_cons_of_mem _ hz)) ht.running, fun z hz => ?_, hl⟩
  refine ht.unmarked hwf (fun he => hy (he ▸ List.mem_map_of_mem hz)) (hfresh z (List.mem_cons_of_mem _ hz))

/-- The markers of waiting commands, in order. -/
def markAll (s : State) (l : List Exec) : State :=
  l.foldl (fun (s : State) y => markPorch s y.lseq resDone 0 (BitVec.ofNat 32 y.lseq)) s

/-- A marker of another head that the markers of waiting commands leave stood before them, under none of the LSEQ that they
take. -/
theorem markAll_overwrites {s : State} {l : List Exec} (hw : Waiting s l) (hwf : smWf s.journal.larder = true)
    (hnext : s.journal.next < 2 ^ 32) {n : Nat} (hn : n ∉ l.map Exec.lseq) {c : Nat × LdItem}
    (hc : c ∈ (markAll s l).journal.larder) (hmarks : c.2.marks n = true) :
    c ∈ s.journal.larder ∧ ∀ j < l.length, c.1 ≠ (s.journal.next + j) % 2 ^ 32 := by
  induction l generalizing s with
  | nil => exact ⟨hc, fun j hj => absurd hj (Nat.not_lt_zero j)⟩
  | cons y l ih =>
    have hy : y.lseq ≠ n := fun he => hn (he ▸ List.mem_cons_self)
    have hfirst := markPorch_first (hw.run y List.mem_cons_self) (hw.fresh y List.mem_cons_self) resDone 0
      (BitVec.ofNat 32 y.lseq)
    have ⟨⟨i, hi, hlarder⟩, hnext', _, _⟩ := hfirst
    obtain ⟨hmem, hkeys⟩ := ih (hw.tail hwf hfirst) (hlarder ▸ smWf_put _ _ _ hwf) (hnext' ▸ Nat.mod_lt _ (by decide))
      (fun h => hn (List.mem_cons_of_mem _ h)) hc
    rw [hlarder] at hmem
    rcases mem_smPut hwf hmem with rfl | ⟨hmem, hne⟩
    · simp [hi, hy] at hmarks
    · refine ⟨hmem, fun j hj => ?_⟩
      cases j with
      | zero => rwa [Nat.add_zero, Nat.mod_eq_of_lt hnext]
      | succ j =>
        have hkey := hkeys j (Nat.lt_of_succ_lt_succ hj)
        rw [hnext'] at hkey
        omega

/-! ### A porch command with 2^32 no-operations behind it (R343, R382) -/

theorem onQueue_journal (s : State) (f : List Exec → List Exec) :
    (s.onQueue f).journal = { s.journal with porchQ := f s.journal.porchQ } := by
  refine foldl_part State.journal _ (fun s g => ?_) _ _
  split <;> rfl

theorem dequeue_journal {s : State} {x : Exec} {l : List Exec} (hq : s.journal.porchQ = x :: l)
    (hl : ∀ y ∈ l, y.lseq ≠ x.lseq) : (dequeue s x.lseq).journal = { s.journal with porchQ := l } := by
  have hrest : (x :: l).filter (fun y => y.lseq != x.lseq) = l := by
    rw [List.filter_cons_of_neg (by simp)]
    exact List.filter_eq_self.mpr fun y hy => by simpa using hl y hy
  rw [dequeue, onQueue_journal, hq, hrest]

/-- The porch is to execute a command, and behind it wait at least 2^32 no-operations of hosts. -/
structure Flooded (s : State) (x : Exec) (l : List Exec) : Prop where
  queue : s.journal.porchQ = x :: l
  nops  : ∀ y ∈ l, y.opcode = 0x7F00
  wait  : Waiting s (x :: l)
  many  : 2 ^ 32 ≤ l.length
  next  : s.journal.next < 2 ^ 32
  wf    : smWf s.journal.larder = true

theorem Waiting.of_journal {s t : State} {l : List Exec} (h : Waiting s l) (hrun : t.journal.running = s.journal.running)
    (hlarder : t.journal.larder = s.journal.larder) : Waiting t l :=
  ⟨fun y hy => underway_of_running (h.run y hy) hrun, fun y hy => (markersOf_of_larder hlarder _).trans (h.fresh y hy),
    h.apart⟩

theorem Flooded.of_journal {s t : State} {x : Exec} {l : List Exec} (h : Flooded s x l) (hj : t.journal = s.journal) :
    Flooded t x l := by
  obtain ⟨hqueue, hnops, hwait, hmany, hnext, hwf⟩ := h
  exact ⟨by rwa [hj], hnops, hwait.of_journal (by rw [hj]) (by rw [hj]), hmany, by rwa [hj], by rwa [hj]⟩

theorem Flooded.ready {s : State} {x : Exec} {l : List Exec} (h : Flooded s x l) (hr : s.porchRuns = true) : porchReady s x where
  runs := hr
  next := ⟨l, h.queue, fun _ hy he => (List.nodup_cons.mp (List.map_cons ▸ h.wait.apart)).1 (he ▸ List.mem_map_of_mem hy)⟩
  open_ := h.wait.run x List.mem_cons_self
  fresh := h.wait.fresh x List.mem_cons_self

theorem Flooded.porchNext {s : State} {x : Exec} {l : List Exec} (h : Flooded s x l) : s.porchNext x = true := by
  rw [State.porchNext, h.queue]
  exact beq_self_eq_true _

theorem drainNops_nops {s : State} (h : ∀ y ∈ s.journal.porchQ, y.opcode = 0x7F00) :
    drainNops s = markAll (s.onQueue (fun l => l.dropWhile (fun y => y.opcode == 0x7F00))) s.journal.porchQ := by
  have hall : s.journal.porchQ.takeWhile (fun y => y.opcode == 0x7F00) = s.journal.porchQ :=
    List.takeWhile_eq_self_iff.mpr fun y hy => by simp [h y hy]
  rw [drainNops, hall, markAll]

/-- The no-operations behind a porch command are executed with it; 2^32 of them take every LSEQ, and so the place of its
marker. -/
theorem Flooded.porchMarker_lost {s : State} {x : Exec} {l : List Exec} (h : Flooded s x l) (r re : Nat) (v : Word) :
    (porchDone s x r re v).porchMarker x.lseq = none := by
  obtain ⟨hqueue, hnops, hwait, hmany, hnext, hwf⟩ := h
  have hx : x.lseq ∉ l.map Exec.lseq := (List.nodup_cons.mp (List.map_cons ▸ hwait.apart)).1
  have hdequeued := dequeue_journal hqueue (fun _ hy he => hx (he ▸ List.mem_map_of_mem hy))
  have hwait' : Waiting (dequeue s x.lseq) (x :: l) := hwait.of_journal (by rw [hdequeued]) (by rw [hdequeued])
  have hwf' : smWf (dequeue s x.lseq).journal.larder = true := by rwa [hdequeued]
  have hfirst := markPorch_first (hwait'.run x List.mem_cons_self) (hwait'.fresh x List.mem_cons_self) r re v
  have hwaitAfter := hwait'.tail hwf' hfirst
  obtain ⟨⟨i, -, hlarder⟩, hnextAfter, -, hqueueAfter⟩ := hfirst
  simp only [hdequeued] at hlarder hnextAfter hqueueAfter
  rw [porchDone]
  generalize markPorch (dequeue s x.lseq) x.lseq r re v = u at hwaitAfter hlarder hnextAfter hqueueAfter
  rw [drainNops_nops (by rwa [hqueueAfter]), hqueueAfter]
  refine porchMarker_none ((markersOf_eq_nil_iff ..).mpr fun c hc => Bool.eq_false_iff.mpr fun hmarks => ?_)
  have hjournal := onQueue_journal u (fun l => l.dropWhile (fun y => y.opcode == 0x7F00))
  obtain ⟨hmem, hkeys⟩ := markAll_overwrites (hwaitAfter.of_journal (by rw [hjournal]) (by rw [hjournal]))
    (by rw [hjournal, hlarder]; exact smWf_put _ _ _ hwf) (by rw [hjournal, hnextAfter]; exact Nat.mod_lt _ (by decide))
    hx hc hmarks
  rw [hjournal] at hmem hkeys
  rw [hlarder] at hmem
  rcases mem_smPut hwf hmem with rfl | ⟨hmem, -⟩
  · have hkey := hkeys (2 ^ 32 - 1) (by omega)
    rw [hnextAfter] at hkey
    omega
  · rw [(markersOf_eq_nil_iff ..).mp (hwait.fresh x List.mem_cons_self) c hmem] at hmarks
    cases hmarks

/-- No-operations of source 1 under the LSEQ from 2 on. -/
def noOps (n : Nat) : List Exec := (List.range n).map fun i =>
  { lseq := i + 2, source := 1, seq := BitVec.ofNat 32 (i + 2), opcode := 0x7F00, zmask := 0, payload := [] }

/-- A module in FACTORY, its replay done, whose porch is to execute a command with `n` no-operations waiting behind it. -/
def flooded (x : Exec) (n : Nat) : State :=
  { State.reset with journal := {
      next := (n + 2) % 2 ^ 32, replay := false, porchQ := x :: noOps n, running := (x :: noOps n).map fun y => { x := y } } }

theorem flooded_runs (x : Exec) (n : Nat) : (flooded x n).porchRuns = true := rfl

theorem noOps_lseq (n : Nat) : (noOps n).map Exec.lseq = (List.range n).map (· + 2) := by
  rw [noOps, List.map_map]
  rfl

theorem runningOf_of_apart {s : State} {l : List Exec} (hl : s.journal.running = l.map fun y => { x := y })
    (hapart : (l.map Exec.lseq).Nodup) {y : Exec} (hy : y ∈ l) : s.runningOf y.lseq = some { x := y } := by
  rw [State.runningOf, hl, List.find?_map]
  have hsome : (l.find? ((fun r : Running => r.x.lseq == y.lseq) ∘ fun y => { x := y })).isSome = true :=
    List.find?_isSome.mpr ⟨y, hy, by simp⟩
  obtain ⟨z, hz⟩ := Option.isSome_iff_exists.mp hsome
  have hlseq : z.lseq = y.lseq := by simpa using List.find?_some hz
  rw [hz, List.inj_on_of_nodup_map hapart (List.mem_of_find?_eq_some hz) hy hlseq]
  rfl

theorem flooded_flooded {x : Exec} (hx : x.lseq = 1) {n : Nat} (hn : 2 ^ 32 ≤ n) : Flooded (flooded x n) x (noOps n) := by
  have hapart : ((x :: noOps n).map Exec.lseq).Nodup := by
    rw [List.map_cons, noOps_lseq, hx, List.nodup_cons]
    exact ⟨by simp, List.nodup_range.map (fun a b => Nat.add_right_cancel)⟩
  have hnops : ∀ y ∈ noOps n, y.opcode = 0x7F00 := by
    intro y hy
    obtain ⟨i, -, rfl⟩ := List.mem_map.mp hy
    rfl
  exact ⟨rfl, hnops, ⟨fun y hy => ⟨_, runningOf_of_apart rfl hapart hy, rfl, rfl⟩, fun _ _ => rfl, hapart⟩,
    by simpa [noOps] using hn, Nat.mod_lt _ (by decide), rfl⟩

@[simp] theorem pwb_same (s : State) (x : Fld) (b : Bool) (i : Nat) : (s.pwb x b i).sameButRegs s := by repeat' constructor

/-- 0x0605 with AUTO 1 and MARGIN 3 (R519). -/
def repairPolicyCommand : Exec := { lseq := 1, source := 1, seq := 1, opcode := 0x0605, zmask := 0, payload := [1, 3, 0, 0] }

/-- No marker of 0x0605 stands after it on a flooded queue. -/
theorem Flooded.repairPolicy_unmarked {s : State} {x : Exec} {l : List Exec} (h : Flooded s x l) :
    ∃ t, exec (.repairPolicy x) s = .next t ∧ t.porchMarker x.lseq = none := by
  have hexec : exec (.repairPolicy x) s = execRepairPolicy x s := rfl
  refine ⟨setPolicy s x, by rw [hexec, execRepairPolicy, if_pos h.porchNext, go], ?_⟩
  exact (h.of_journal (by simp)).porchMarker_lost resDone 0 0

/-- Refutes O30: the statement bounds neither the porch queue nor the LSEQ of the commands in it. With 2^32 no-operations of
different LSEQ behind it, which no larder of R341 holds, a command leaves the porch queue together with them (R343, R382); the
entries of their markers stand under every LSEQ modulo 2^32, so that of its own marker too, and no marker of it stands. That
0x0603 makes one marker per zone is the model's choice (notes/assumptions/82); the refutation does not turn on it. -/
theorem not_porchOpcodes : ¬ Obligations.PorchOpcodes := by
  intro h
  have hflood : Flooded (flooded repairPolicyCommand (2 ^ 32)) repairPolicyCommand (noOps (2 ^ 32)) := flooded_flooded rfl le_rfl
  have hready := hflood.ready (flooded_runs repairPolicyCommand (2 ^ 32))
  generalize flooded repairPolicyCommand (2 ^ 32) = s at hflood hready
  obtain ⟨-, -, -, -, -, -, -, -, ⟨t, ht, -, -, hmarker⟩, -⟩ := h s repairPolicyCommand hready
  obtain ⟨u, hu, hlost⟩ := hflood.repairPolicy_unmarked
  obtain rfl : u = t := Outcome.next.inj (hu.symm.trans ht)
  rw [hlost] at hmarker
  cases hmarker

end Sys2Proof.Machine
namespace Sys2Proof.Machine
open Host

/-! ### The loop's part after the operations on a slice -/

section LoopPart
variable (s : State) (p : Phys)

theorem lp_of_z {s t : State} {p : Phys} (h : t.z p = s.z p) : t.lp p = s.lp p := congrArg ZoneState.loop h

@[simp] theorem lp_onLp (f : Loop → Loop) : (s.onLp p f).lp p = f (s.lp p) := by rw [State.lp, z_onLp, State.lp]
@[simp] theorem lp_onSide (cool : Bool) (f : Side → Side) : (s.onSide p cool f).lp p = (s.lp p).onSide cool f := lp_onLp ..
@[simp] theorem lp_onR (f : RegFile → RegFile) : (s.onR p f).lp p = s.lp p := by rw [State.lp, State.onR, z_onZ, State.lp]
@[simp] theorem lp_w (x : Fld) (v i : Nat) : (s.w p x v i).lp p = s.lp p := lp_onR ..
@[simp] theorem lp_wi (x : Fld) (v : Int) (i : Nat) : (s.wi p x v i).lp p = s.lp p := lp_onR ..
@[simp] theorem lp_wb (x : Fld) (b : Bool) (i : Nat) : (s.wb p x b i).lp p = s.lp p := lp_onR ..
@[simp] theorem lp_bump (x : Fld) (n i : Nat) : (s.bump p x n i).lp p = s.lp p := lp_onR ..
@[simp] theorem lp_evt (u b : Nat) : (s.evt p u b).lp p = s.lp p := lp_of_z (z_evt ..)
@[simp] theorem lp_err (u c e : Nat) : (s.err p u c e).lp p = s.lp p := lp_of_z (z_err ..)

end LoopPart

theorem gb_wb (s : State) (p : Phys) {x : Fld} (h : x.oneBit = true) (b : Bool) : (s.wb p x b).gb p x = b := by
  rw [State.gb, z_wb, bit_putNat_bit1 _ h]

/-- A flag written with its event reads as written. -/
theorem gb_wbEvt (s : State) (p : Phys) {x : Fld} (h : x.oneBit = true) (b : Bool) (u e : Nat) :
    (s.wbEvt p x b u e).gb p x = b := by
  unfold State.wbEvt
  split
  · assumption
  · rw [State.gb, z_evt, ← State.gb, gb_wb _ _ h]

theorem lp_wbEvt (s : State) (p : Phys) (x : Fld) (b : Bool) (u e : Nat) : (s.wbEvt p x b u e).lp p = s.lp p := by
  unfold State.wbEvt
  split <;> simp

/-! ### Timed modes and the end of a panel boost (R218, R219) -/

section Modes
variable (s : State) (p : Phys)

/-- The fields of mode and panel boost that are shown; the loop's part stays. -/
theorem showMode_shows : (showMode s p).lp p = s.lp p ∧
    (showMode s p).g p F.ZL_STAT_CMD_MODE = F.ZL_STAT_CMD_MODE.fit (s.lp p).cmd ∧
    (showMode s p).gb p F.ZL_STAT_PBOOST = decide (0 < (s.lp p).pboost) := by
  unfold showMode
  refine ⟨by simp, ?_, gb_wb _ _ (by decide) _⟩
  simp (disch := decide) only [State.g, z_wb, z_w, nat_putNat_apart, nat_putNat_fit]

variable {s p}

/-- A timed mode that ends returns to the former command (R218). -/
theorem endTimed_returns (h : isTimed (s.lp p).cmd = true) : ((endTimed s p).lp p).cmd = (s.lp p).prior ∧
    ((endTimed s p).lp p).remain = 0 ∧
    (endTimed s p).g p F.ZL_STAT_CMD_MODE = F.ZL_STAT_CMD_MODE.fit (s.lp p).prior := by
  have heq : endTimed s p = showMode (s.onLp p (fun l => { l with cmd := l.prior, remain := 0 })) p := if_pos h
  obtain ⟨hloop, hcmd, -⟩ := showMode_shows (s.onLp p (fun l => { l with cmd := l.prior, remain := 0 })) p
  rw [heq, hloop, hcmd, lp_onLp]
  exact ⟨rfl, rfl, rfl⟩

/-- A panel boost that ends (R219). -/
theorem endTimed_endsBoost (h : isTimed (s.lp p).cmd = false) (hboost : 0 < (s.lp p).pboost) :
    ((endTimed s p).lp p).cmd = (s.lp p).cmd ∧ ((endTimed s p).lp p).pboost = 0 ∧
    (endTimed s p).gb p F.ZL_STAT_PBOOST = false := by
  have heq : endTimed s p = showMode (s.onLp p (fun l => { l with pboost := 0 })) p := by simp [endTimed, h, hboost]
  obtain ⟨hloop, -, hshown⟩ := showMode_shows (s.onLp p (fun l => { l with pboost := 0 })) p
  rw [heq, hloop, hshown, lp_onLp]
  exact ⟨rfl, rfl, rfl⟩

theorem endTimed_untimed (h : isTimed (s.lp p).cmd = false) (hboost : (s.lp p).pboost = 0) : endTimed s p = s := by
  simp [endTimed, h, hboost]

end Modes

/-! ### Sensor loss (R232) -/

section Loss
variable {s : State} {p : Phys}

/-- The loss levels in force, with E-8C08 (R232). -/
def lossLevelsTaken (s : State) (p : Phys) : State :=
  ((s.onLp p (fun l => { l with lossLevels := true })).wbEvt p F.ZL_STAT_LOSS true 6 EVT.ZL_LOSS).err p 6 0 0x8C08

theorem exec_sensorLossTimeout (hrun : (s.sl p).running = true) (hloss : (s.lp p).lossT ≠ none)
    (hlevels : (s.lp p).lossLevels = false) : exec (.sensorLossTimeout p) s = .next (lossLevelsTaken s p) := by
  have hexec : exec (.sensorLossTimeout p) s = execSensorLossTimeout p s := rfl
  rw [hexec, execSensorLossTimeout, onRunning_runs hrun, if_pos (by simp [hlevels, Option.isSome_iff_ne_none, hloss]),
    lossLevelsTaken]

theorem lossLevelsTaken_cr_ne (q : Phys) (hq : q ≠ p) : (lossLevelsTaken s p).cr q = s.cr q := by
  unfold lossLevelsTaken
  simp [hq]

theorem lossLevelsTaken_shows : ((lossLevelsTaken s p).lp p).lossLevels = true ∧
    (lossLevelsTaken s p).gb p F.ZL_STAT_LOSS = true ∧ toldCode s (lossLevelsTaken s p) (slicePage p 6) 0 0x8C08 := by
  refine ⟨by rw [lossLevelsTaken, lp_err, lp_wbEvt, lp_onLp], ?_, toldCode_errP ?_ (.refl _)⟩
  · rw [lossLevelsTaken, State.gb, z_err]
    exact gb_wbEvt _ _ (by decide) _ _ _
  · exact (grows_onSl ..).trans (grows_ite (.refl _) ((grows_wb ..).trans (grows_evt ..)))

end Loss

/-! ### A step of the zone model (R237) -/

section Model
variable (s : State) (p : Phys) (cool : Bool)

/-- What an estimate leaves of the loop: the sums of the step under way and the means of the steps. -/
def Loop.means (l : Loop) :
    List Rat × List Rat × List Rat × Bool × List Rat × List Rat × List (Option Rat) × List (Option Rat) :=
  (l.secT, l.secUh, l.secUc, l.stepBad, l.sideH.uMeans, l.sideC.uMeans, l.sideH.yMeans, l.sideC.yMeans)

def Side.means (x : Side) : List Rat × List (Option Rat) := (x.uMeans, x.yMeans)

/-- The sums and means of a zone's loop stay. -/
def MeansKept (p : Phys) (s t : State) : Prop := (t.lp p).means = (s.lp p).means

section MeansKept
variable {p : Phys} {s t u : State}

theorem MeansKept.refl : MeansKept p s s := rfl

theorem MeansKept.of_lp (h : MeansKept p s t) (hl : u.lp p = t.lp p) : MeansKept p s u := (congrArg Loop.means hl).trans h

theorem MeansKept.onSide (h : MeansKept p s t) {cool : Bool} {f : Side → Side}
    (hf : Side.means ∘ f = Side.means) : MeansKept p s (t.onSide p cool f) := by
  have hmeans (x : Side) : (f x).uMeans = x.uMeans ∧ (f x).yMeans = x.yMeans := Prod.mk.inj (congrFun hf x)
  refine Eq.trans ?_ h
  cases cool <;> simp [Loop.onSide, Loop.means, hmeans]

end MeansKept

theorem showModel_loop : (showModel s p cool).lp p = s.lp p := by cases cool <;> simp [showModel]

theorem publishModel_means : MeansKept p s (publishModel s p cool) := by
  unfold publishModel
  dsimp only
  split
  · split
    · exact (((((MeansKept.refl.onSide (by rfl)).of_lp (lp_bump ..)).of_lp (showModel_loop ..)).onSide (by rfl)).of_lp
        (lp_evt ..)).of_lp (planTrigger_loop ..)
    · exact ((MeansKept.refl.onSide (by rfl)).of_lp (lp_bump ..)).of_lp (showModel_loop ..)
  · split
    · exact ((MeansKept.refl.onSide (by rfl)).of_lp (lp_bump ..)).of_lp (lp_err ..)
    · exact (MeansKept.refl.onSide (by rfl)).of_lp (lp_bump ..)

theorem modelSide_means (tOut : Rat) (pres bad : Bool) : MeansKept p s (modelSide s p cool tOut pres bad) := by
  unfold modelSide
  dsimp only
  split
  · exact Eq.trans (publishModel_means ..) (((MeansKept.refl.onSide (by rfl)).onSide (by rfl)).of_lp (lp_w ..))
  · exact MeansKept.refl.onSide (by rfl)

/-- The mean T_C of the seconds summed, none where there was none (R237). -/
def stepMean (l : List Rat) : Option Rat := if l = [] then none else some (meanOf l)

/-- A step takes the means of its seconds and begins the next sums (R237). -/
theorem modelStep_means : ((modelStep s p).lp p).means = ([], [], [], false,
    (meanOf (s.lp p).secUh :: (s.lp p).sideH.uMeans).take 362, (meanOf (s.lp p).secUc :: (s.lp p).sideC.uMeans).take 362,
    (stepMean (s.lp p).secT :: (s.lp p).sideH.yMeans).take 360, (stepMean (s.lp p).secT :: (s.lp p).sideC.yMeans).take 360) := by
  unfold modelStep
  dsimp only
  rw [modelSide_means, modelSide_means, lp_onLp]
  simp [Loop.means, Side.noteStep, stepMean]

end Model

end Sys2Proof.Machine

namespace Sys2Proof.Machine
open Host

/-! ### The first marker of a zone (R338) -/

section Marker
variable {s : State}

/-- A zone's marker that a larder entry holds for a head, if it holds one. -/
theorem zoneMarker_addEntry {n : Nat} {z : Zone} (h : marked s n z.val = false) (src : BitVec 16) (q : BitVec 32)
    (op : BitVec 16) (f : Bool) (r re : Nat) (v : Word) :
    (addEntry s ⟨src, .mark q op n z.val false f r re v⟩).zoneMarker n z = some (r, re, v) := by
  have hl : (addEntry s ⟨src, .mark q op n z.val false f r re v⟩).journal.larder =
    smPut s.journal.larder s.journal.next ⟨src, .mark q op n z.val false f r re v⟩ := by simp [addEntry]
  have hnone : (markersOf s n).find? (fun m => m.1 == z.val && !m.2.1) = none := by
    simpa [marked, List.find?_eq_none] using h
  rw [markersOf, List.find?_filterMap] at hnone
  rw [State.zoneMarker, markersOf, List.find?_filterMap, hl, find?_smPut (by simp)]
  · simp
  · intro c hc
    have hfound := List.find?_some hc
    rw [hc, Option.bind_some] at hnone
    rw [hnone] at hfound
    cases hfound

/-- The first marker of a zone for a command of a host under way stands with its result. -/
theorem markZone_first {n : Nat} {z : Zone} {a : Running} (hrun : s.runningOf n = some a) (hhost : a.internal = false)
    (h : marked s n z.val = false) (r re : Nat) (v : Word) : (markZone s n z r re v).zoneMarker n z = some (r, re, v) := by
  have heq : markZone s n z r re v = fillRules (addEntry s
      ⟨a.x.source, .mark a.x.seq a.x.opcode n z.val false (completes s a.x z.val) r re v⟩) := by
    simp [markZone, hrun, h, endInternal, hhost]
  rw [heq, State.zoneMarker, fillRules_markersOf, ← State.zoneMarker, zoneMarker_addEntry h]

end Marker

/-! ### A tune that fails (R242, R244) -/

section Tune
variable {s : State} {p : Phys} {u : Tune}

theorem failTune_running (h : (s.lp p).tune = some u) (why : Nat) : failTune s p why =
    (s.zoneOf p).elim (tuneStopped s p why) (fun z => markZone (tuneStopped s p why) u.lseq z resFault why 0) := by
  rw [failTune, h]
  exact tuneFault_eq ..

/-- A tune that fails shows its reason, no longer runs, and tells E-4C02 (R242). -/
theorem tuneStopped_shows (s : State) (p : Phys) (why : Nat) :
    (tuneStopped s p why).g p F.ZL_TUNE_STAT_REASON = F.ZL_TUNE_STAT_REASON.fit why ∧
    (tuneStopped s p why).gb p F.ZL_STAT_TUNING = false ∧ toldCode s (tuneStopped s p why) (slicePage p 6) why 0x4C02 := by
  unfold tuneStopped
  refine ⟨?_, ?_, toldCode_errP ?_ (grows_ite (.refl _) (grows_touch ..))⟩
  · simp (disch := decide) only [State.g, z_noteBusy, z_err, z_evt, z_onLp, z_wb, z_w, nat_putNat_apart, nat_putNat_fit]
  · simp (disch := decide) only [State.gb, z_noteBusy, z_err, z_evt, z_onLp, z_wb, bit_putNat_bit1]
  · exact (((((grows_w ..).trans (grows_w ..)).trans (grows_w ..)).trans (grows_wb ..)).trans (grows_onSl ..)).trans
      (grows_evt ..)

theorem failTune_shows (h : (s.lp p).tune = some u) (why : Nat) :
    (failTune s p why).g p F.ZL_TUNE_STAT_REASON = F.ZL_TUNE_STAT_REASON.fit why ∧
    (failTune s p why).gb p F.ZL_STAT_TUNING = false ∧ toldCode s (failTune s p why) (slicePage p 6) why 0x4C02 := by
  obtain ⟨hreason, htuning, htold⟩ := tuneStopped_shows s p why
  rw [failTune_running h]
  cases s.zoneOf p with
  | none => exact ⟨hreason, htuning, htold⟩
  | some z =>
    have hz : (markZone (tuneStopped s p why) u.lseq z resFault why 0).z p = (tuneStopped s p why).z p :=
      z_of_cr (markZone_cr ..)
    exact ⟨by rw [Option.elim_some, State.g, hz, ← State.g, hreason],
      by rw [Option.elim_some, State.gb, hz, ← State.gb, htuning],
      told.of_grows (.refl _) htold (kept_markZone (p := p) ..).grows⟩

/-- The FAULT marker of a tune's zone (R242). -/
theorem failTune_marks (h : (s.lp p).tune = some u) {z : Zone} (hz : s.zoneOf p = some z) {r : Running}
    (hrun : s.runningOf u.lseq = some r) (hhost : r.internal = false) (hnew : marked s u.lseq z.val = false) (why : Nat) :
    (failTune s p why).zoneMarker u.lseq z = some (resFault, why, 0) := by
  have hj : (tuneStopped s p why).journal = s.journal := journal_of_still (confined_tuneStopped s p why).still
  rw [failTune_running h, hz, Option.elim_some]
  refine markZone_first (a := r) ?_ hhost ?_ _ _ _
  · rwa [State.runningOf, hj]
  · rwa [marked, markersOf, hj]

/-- The limit of a step of a tune passed, and the reason that R242 gives it. -/
def stepTimedOut (u : Tune) (why : Nat) : Prop :=
  ((u.step = 1 ∨ (u.step = 4 ∧ u.moved = false)) ∧ 3600 ≤ u.ticks ∧ why = 1) ∨
    (u.step = 2 ∧ 14400 ≤ u.ticks ∧ why = 3)

theorem exec_tuneStepTimedOut (hrun : (s.sl p).running = true) (h : (s.lp p).tune = some u) {why : Nat}
    (hstep : stepTimedOut u why) : exec (.autotuneStepTimeout p) s = .next (failTune s p why) := by
  have hexec : exec (.autotuneStepTimeout p) s = execAutotuneStepTimeout p s := rfl
  rw [hexec, execAutotuneStepTimeout, onRunning_runs hrun, h]
  dsimp only
  rcases hstep with ⟨hfirst, hticks, rfl⟩ | ⟨hrelay, hticks, rfl⟩
  · rw [if_pos ⟨hfirst, hticks⟩]
  · rw [if_neg (by simp [hrelay]), if_pos ⟨hrelay, hticks⟩]

/-- A tune beyond 6 h fails with one of the reasons of R244; which one the manual leaves open (notes/assumptions/31). -/
theorem exec_tuneTimedOut (hrun : (s.sl p).running = true) (h : (s.lp p).tune = some u) (htotal : 21600 ≤ u.total) :
    ∃ n why, exec (.autotuneStepTimeout p) s = .next (failTune { s with free := n } p why) ∧ 1 ≤ why ∧ why ≤ 11 := by
  by_cases hstep : ∃ why, stepTimedOut u why
  · obtain ⟨why, hwhy⟩ := hstep
    exact ⟨s.free, why, exec_tuneStepTimedOut hrun h hwhy, by unfold stepTimedOut at hwhy; omega⟩
  · have hexec : exec (.autotuneStepTimeout p) s = execAutotuneStepTimeout p s := rfl
    refine ⟨s.free + 1, 1 + Config.freeNat s.free % 11, ?_, by omega⟩
    rw [hexec, execAutotuneStepTimeout, onRunning_runs hrun, h]
    dsimp only
    rw [if_neg (fun hfirst => hstep ⟨1, .inl ⟨hfirst.1, hfirst.2, rfl⟩⟩),
      if_neg (fun hrelay => hstep ⟨3, .inr ⟨hrelay.1, hrelay.2, rfl⟩⟩), if_pos htotal]
    rfl

theorem exec_noTune (h : (s.lp p).tune = none) : exec (.autotuneStepTimeout p) s = .next s := by
  have hexec : exec (.autotuneStepTimeout p) s = execAutotuneStepTimeout p s := rfl
  rw [hexec, execAutotuneStepTimeout]
  exact onRunning_keeps (by rw [h]) p

end Tune

/-! ### A stale outdoor temperature (R240) -/

section Stale
variable (s : State) (p q : Phys)

/-- A zone that had not gone stale is told that the outdoor temperature has (R240). -/
def staleTold : State := ((s.onLp p (fun l => { l with stale := true })).wb p F.ZP_STAT_OUTDOOR_STALE true).err p 6 0 0x4C09

def staleAt : State := if (s.sl p).running && !(s.lp p).stale then staleTold s p else s

theorem exec_outdoorStale : exec .outdoorStale s = .next ((List.finRange 68).foldl staleAt s) := rfl

theorem grows_staleAt : Grows s (staleAt s p) :=
  grows_ite (((grows_onSl ..).trans (grows_wb ..)).trans (grows_err ..)) (.refl s)

theorem staleAt_map : (staleAt s p).map = s.map := by
  have hheld : (staleAt s p).held = s.held := by simp [staleAt, staleTold, State.onLp]
  exact congrArg Held.map hheld

variable {p q}

theorem staleAt_sl_ne (h : q ≠ p) : (staleAt s p).sl q = s.sl q := by
  unfold staleAt
  split
  · have herr (t : State) : (t.err p 6 0 0x4C09).slices = t.slices := (congrArg State.slices (err_quiet t p 6 0 0x4C09) :)
    rw [staleTold, sl_of_slices (herr _)]
    exact (sl_setSl_ne _ _ _ _ h).trans (sl_setSl_ne _ _ _ _ h)
  · rfl

theorem staleAt_stopped (h : (s.sl p).running = false) : staleAt s p = s := by simp [staleAt, h]

/-- A running zone is stale afterwards, and told so unless it was. -/
theorem staleAt_running (h : (s.sl p).running = true) : ((staleAt s p).lp p).stale = true ∧
    ((s.lp p).stale = false → (staleAt s p).gb p F.ZP_STAT_OUTDOOR_STALE = true ∧
      toldCode s (staleAt s p) (slicePage p 6) 0 0x4C09) := by
  cases hstale : (s.lp p).stale with
  | true => simp [staleAt, hstale]
  | false =>
    have heq : staleAt s p = staleTold s p := by simp [staleAt, h, hstale]
    rw [heq, staleTold]
    refine ⟨by rw [lp_err, lp_wb, lp_onLp], fun _ => ⟨?_, toldCode_errP ((grows_onSl ..).trans (grows_wb ..)) (.refl _)⟩⟩
    rw [State.gb, z_err]
    exact gb_wb _ _ (by decide) _

theorem foldl_staleAt_sl {l : List Phys} (h : p ∉ l) : (l.foldl staleAt s).sl p = s.sl p := by
  induction l generalizing s with
  | nil => rfl
  | cons q l ih =>
    obtain ⟨hq, hl⟩ := List.ne_and_not_mem_of_not_mem_cons h
    rw [List.foldl_cons, ih _ hl, staleAt_sl_ne _ hq]

/-- What the whole pass does to one slice is what its own turn does. -/
theorem foldl_staleAt_turn (p : Phys) : ∃ d, d.sl p = s.sl p ∧ Grows s d ∧
    ((List.finRange 68).foldl staleAt s).sl p = (staleAt d p).sl p ∧
    Grows (staleAt d p) ((List.finRange 68).foldl staleAt s) := by
  obtain ⟨l₁, l₂, hl⟩ := List.append_of_mem (List.mem_finRange p)
  have hapart : (l₁ ++ p :: l₂).Nodup := hl ▸ List.nodup_finRange 68
  obtain ⟨-, hnodup, hdisj⟩ := List.nodup_append.mp hapart
  have h₁ : p ∉ l₁ := fun hp => hdisj p hp p List.mem_cons_self rfl
  refine ⟨l₁.foldl staleAt s, foldl_staleAt_sl s h₁, grows_foldl _ grows_staleAt _ _, ?_, ?_⟩
  · rw [hl, List.foldl_append, List.foldl_cons, foldl_staleAt_sl _ (List.nodup_cons.mp hnodup).1]
  · rw [hl, List.foldl_append, List.foldl_cons]
    exact grows_foldl _ grows_staleAt _ _

end Stale

end Sys2Proof.Machine

namespace Sys2Proof.Machine
open Host

/-! ### What most operations leave of a loop tick's marks (R219, R224, R275)

A tick takes the panel's requests, the due alarms and a waiting plan, counts its second and puts the outputs' requests; each
of these is done once. Every other operation of a tick leaves them all alone, with the registers that show the requests and
the commands that the porch holds back. -/

/-- The parts of a zone that a loop tick changes once. -/
structure TickPart where
  reqs     : List PanelReq
  due      : List Due
  plan     : Option Plan
  planNext : Option Plan
  sumN     : Nat
  req      : Vector Rat 5

def tickPart (z : ZoneState) : TickPart :=
  ⟨z.loop.reqs, z.sched.due, z.sched.plan, z.sched.planNext, z.sched.sumN, z.loop.req⟩

def Loop.asked (l : Loop) : List PanelReq × Vector Rat 5 := (l.reqs, l.req)

def Sched.waiting (x : Sched) : List Due × Option Plan × Option Plan × Nat := (x.due, x.plan, x.planNext, x.sumN)

/-- Whether an address is none of the registers of the outputs' requests (R250). -/
def offReq (a : Nat) : Bool := decide (a < 0x1060A0) || decide (0x1060B4 ≤ a)

theorem offReq_above {x : Reg} (h : 0x1060B4 ≤ x.key) (i : Nat) : offReq (x.at i) = true := by
  rw [offReq, Bool.or_eq_true]
  exact .inr (decide_eq_true (h.trans (Nat.le_add_right ..)))

theorem offReq_OUT (j : Out) : offReq (R.ZL_OUT_j.at j) = false := by revert j; decide

theorem rfGet_rfPut_offReq {a : Nat} (h : offReq a = true) (j : Out) (f : RegFile) (w : Word) :
    rfGet (rfPut f a w) (R.ZL_OUT_j.at j) = rfGet f (R.ZL_OUT_j.at j) :=
  rfGet_put_ne _ _ _ _ (by rintro rfl; simp [offReq_OUT] at h)

/-- The parts that a tick changes once, the shown requests and the commands held back stay. -/
structure TickKept (p : Phys) (s t : State) : Prop where
  part  : tickPart (t.z p) = tickPart (s.z p)
  regs  : ∀ j : Out, rfGet (t.z p).regs (R.ZL_OUT_j.at j) = rfGet (s.z p).regs (R.ZL_OUT_j.at j)
  waits : t.journal.handover = s.journal.handover

namespace TickKept
variable {p : Phys} {s t u : State}

theorem refl : TickKept p s s := ⟨rfl, fun _ => rfl, rfl⟩

theorem trans (h : TickKept p s t) (k : TickKept p t u) : TickKept p s u :=
  ⟨k.part.trans h.part, fun j => (k.regs j).trans (h.regs j), k.waits.trans h.waits⟩

theorem ite {c : Prop} [Decidable c] (ht : TickKept p s t) (hu : TickKept p s u) : TickKept p s (if c then t else u) := by
  split <;> assumption

theorem foldl {α : Type} {f : State → α → State} (l : List α) (h : TickKept p s t)
    (hf : ∀ t a, TickKept p t (f t a)) : TickKept p s (l.foldl f t) := by
  induction l generalizing t with
  | nil => exact h
  | cons a l ih => exact ih (h.trans (hf t a))

theorem beside (h : TickKept p s t) (hz : u.z p = t.z p) (hj : u.journal.handover = t.journal.handover) :
    TickKept p s u := h.trans ⟨by rw [hz], fun _ => by rw [hz], hj⟩

theorem loud (h : TickKept p s t) (hq : u.quiet = t.quiet) : TickKept p s u :=
  h.beside (z_of_quiet hq p) (congrArg (fun s : State => s.journal.handover) hq :)

theorem evt (h : TickKept p s t) {q : Phys} {n b : Nat} : TickKept p s (t.evt q n b) := h.loud (by simp)
theorem evtIf (h : TickKept p s t) {c : Bool} {q : Phys} {n b : Nat} : TickKept p s (t.evtIf c q n b) := h.loud (by simp)
theorem evtP (h : TickKept p s t) {g b : Nat} : TickKept p s (t.evtP g b) := h.loud (by simp)
theorem err (h : TickKept p s t) {q : Phys} {n c e : Nat} : TickKept p s (t.err q n c e) := h.loud (by simp)
theorem noteBusy (h : TickKept p s t) {b : State} {q : Phys} : TickKept p s (noteBusy b q t) := h.loud (by simp)

theorem errIf (h : TickKept p s t) {c : Prop} [Decidable c] {q : Phys} {n x e : Nat} :
    TickKept p s (if c then t.err q n x e else t) := .ite h.err h

theorem onSl {f : Slice → Slice} (hz : Slice.z ∘ f = Slice.z) (h : TickKept p s t) :
    TickKept p s (t.onSl p f) := h.beside (by rw [State.z, sl_onSl, ← Function.comp_apply (f := Slice.z), hz, State.z]) rfl

theorem onZ (h : TickKept p s t) {f : ZoneState → ZoneState} (hpart : tickPart ∘ f = tickPart)
    (hregs : ZoneState.regs ∘ f = ZoneState.regs) : TickKept p s (t.onZ p f) :=
  have hr : (f (t.z p)).regs = (t.z p).regs := congrFun hregs _
  h.trans ⟨by rw [z_onZ]; exact congrFun hpart _, fun j => by rw [z_onZ, hr], rfl⟩

theorem onInp (h : TickKept p s t) {f : Inputs → Inputs} : TickKept p s (t.onInp p f) := h.onZ rfl rfl
theorem onT (h : TickKept p s t) {n : Fin 4} {f : TempIn → TempIn} : TickKept p s (t.onT p n f) := h.onInp
theorem onOuts (h : TickKept p s t) {f : Outs → Outs} : TickKept p s (t.onOuts p f) := h.onZ rfl rfl
theorem onMt (h : TickKept p s t) {f : Meter → Meter} : TickKept p s (t.onMt p f) := h.onZ rfl rfl
theorem onCap (h : TickKept p s t) {f : Capture → Capture} : TickKept p s (t.onCap p f) := h.onMt
theorem onCv (h : TickKept p s t) {f : Conv → Conv} : TickKept p s (t.onCv p f) := h.onZ rfl rfl
theorem onSeq (h : TickKept p s t) {q : Fin 4} {f : SeqSt → SeqSt} : TickKept p s (t.onSeq p q f) := h.onCv

/-- A change of the loop that leaves the panel's requests and those of the outputs alone. -/
theorem onLp {f : Loop → Loop} (hf : Loop.asked ∘ f = Loop.asked) (h : TickKept p s t) : TickKept p s (t.onLp p f) :=
  h.onZ (funext fun z => by
    obtain ⟨hreqs, hreq⟩ := Prod.mk.inj (congrFun hf z.loop)
    simp only [Function.comp_apply, tickPart, hreqs, hreq]) rfl

theorem onSide (h : TickKept p s t) {cool : Bool} {f : Side → Side} : TickKept p s (t.onSide p cool f) :=
  h.onLp (by cases cool <;> rfl)

theorem onTune (h : TickKept p s t) {f : Tune → Tune} : TickKept p s (t.onTune p f) := h.onLp rfl

/-- A change of schedule and planner that leaves due alarms, plans and the seconds counted alone. -/
theorem onSc {f : Sched → Sched} (hf : Sched.waiting ∘ f = Sched.waiting) (h : TickKept p s t) :
    TickKept p s (t.onSc p f) :=
  h.onZ (funext fun z => by
    obtain ⟨hdue, hplan, hnext, hsum⟩ : _ ∧ _ ∧ _ ∧ _ := by simpa [Sched.waiting] using congrFun hf z.sched
    simp only [Function.comp_apply, tickPart, hdue, hplan, hnext, hsum]) rfl

theorem onR (h : TickKept p s t) {f : RegFile → RegFile}
    (hf : ∀ r (j : Out), rfGet (f r) (R.ZL_OUT_j.at j) = rfGet r (R.ZL_OUT_j.at j)) : TickKept p s (t.onR p f) :=
  h.trans ⟨by rw [State.onR, z_onZ]; rfl, fun j => by rw [State.onR, z_onZ]; exact hf .., rfl⟩

theorem wWord {r : Reg} {w : Word} {i : Nat} (hr : offReq (r.at i) = true) (h : TickKept p s t) :
    TickKept p s (t.wWord p r w i) := h.onR fun f j => rfGet_rfPut_offReq hr j f _
theorem w {x : Fld} {v i : Nat} (hx : offReq (x.at i) = true) (h : TickKept p s t) : TickKept p s (t.w p x v i) :=
  h.onR fun f j => rfGet_rfPut_offReq hx j f _
theorem wi {x : Fld} {v : Int} {i : Nat} (hx : offReq (x.at i) = true) (h : TickKept p s t) :
    TickKept p s (t.wi p x v i) := h.onR fun f j => rfGet_rfPut_offReq hx j f _
theorem wb {x : Fld} {b : Bool} {i : Nat} (hx : offReq (x.at i) = true) (h : TickKept p s t) :
    TickKept p s (t.wb p x b i) := h.w hx
theorem bump {x : Fld} {n i : Nat} (hx : offReq (x.at i) = true) (h : TickKept p s t) :
    TickKept p s (t.bump p x n i) := h.onR fun f j => rfGet_rfPut_offReq hx j f _
theorem wbEvt {x : Fld} {b : Bool} {n e i : Nat} (hx : offReq (x.at i) = true) (h : TickKept p s t) :
    TickKept p s (t.wbEvt p x b n e i) := .ite h (h.wb hx).evt

theorem pw (h : TickKept p s t) {x : Fld} {v i : Nat} : TickKept p s (t.pw x v i) := h.beside rfl rfl
theorem onCensus (h : TickKept p s t) {n : Nat} {f : Census → Census} : TickKept p s (t.onCensus n f) := h.beside rfl rfl

end TickKept

/-! ### Markers and checkpoints under a tick (R35, R338) -/

section Markers
variable {p : Phys} (s : State)

theorem endInternal_handover (r : Running) (f : Bool) : (endInternal s r f).journal.handover = s.journal.handover := by
  unfold endInternal
  split
  · simp [releaseLarder]
  · rfl

theorem markZone_handover (n : Nat) (z : Zone) (r re : Nat) (v : Word) :
    (markZone s n z r re v).journal.handover = s.journal.handover := by
  unfold markZone
  split
  · rfl
  · split
    · rfl
    · rw [endInternal_handover]
      simp

theorem tickKept_markZone (n : Nat) (z : Zone) (r re : Nat) (v : Word) : TickKept p s (markZone s n z r re v) :=
  TickKept.refl.beside (z_of_cr (markZone_cr ..)) (markZone_handover ..)

theorem tickKept_writeCheckpoint : TickKept p s (writeCheckpoint s p) :=
  have h := recorded_writeCheckpoint p s
  TickKept.refl.beside h.z h.waiting

theorem tickKept_tuneFault (n why : Nat) : TickKept p s (tuneFault s p n why) := by
  have hstop : TickKept p s (tuneStopped s p why) :=
    TickKept.noteBusy (.err (.evt (.onLp (by rfl) (.wb (by rfl) (.w (by rfl) (.w (by rfl) (.w (by rfl) .refl)))))))
  rw [tuneFault_eq]
  cases s.zoneOf p with
  | none => exact hstop
  | some z => exact hstop.trans (tickKept_markZone ..)

theorem tickKept_failTune (why : Nat) : TickKept p s (failTune s p why) := by
  unfold failTune
  split
  · exact tickKept_tuneFault ..
  · exact .refl

end Markers

end Sys2Proof.Machine

namespace Sys2Proof.Machine
open Host

/-! ### Inputs, outputs and captures under a tick -/

section Inputs
variable {p : Phys} (s : State)

theorem offReq_T (n : Fin 4) : offReq (R.ZI_T_n.at n.val) = true := by revert n; decide
theorem offReq_THR (n : Fin 4) : offReq (R.ZI_THR_n.at n.val) = true := by revert n; decide
theorem offReq_TRES (n : Fin 4) : offReq (R.ZI_TRES_n.at n.val) = true := by revert n; decide
theorem offReq_TNOISE (n : Fin 4) : offReq (R.ZI_TNOISE_n.at n.val) = true := by revert n; decide
theorem offReq_ENT (n : Fin 4) : offReq (R.ZC_ENT_CFG_k.at (8 + n.val)) = true := by revert n; decide

theorem tickKept_showExc (n : Fin 4) : TickKept p s (showExc s p n) := .w (offReq_T n) .refl

theorem tickKept_startWindow (n : Fin 4) (off : Bool) : TickKept p s (startWindow s p n off) := by
  refine .trans ?_ (tickKept_showExc _ n)
  exact .ite (.wb (offReq_T n) (.onT .refl)) (.onT .refl)

theorem tickKept_endOff (n : Fin 4) : TickKept p s (endOff s p n) := by
  refine .trans ?_ (tickKept_showExc _ n)
  exact .wb (offReq_T n) (.onT .refl)

theorem tickKept_retypeInput (n : Fin 4) : TickKept p s (retypeInput s p n) := by
  have hdrop (t : State) : TickKept p t (dropDew t p n) := .ite (.wb (by rfl) (.w (by rfl) .refl)) .refl
  refine .evtIf (.evtIf (.trans
    (TickKept.w (by rfl) (.w (by rfl) (.w (by rfl) (.onR (.onT .refl) fun f j => ?_)))) (hdrop _)))
  simp only [RegFile.putWord]
  rw [rfGet_rfPut_offReq (offReq_TNOISE n), rfGet_rfPut_offReq (offReq_TRES n), rfGet_rfPut_offReq (offReq_THR n),
    rfGet_rfPut_offReq (offReq_T n)]

theorem tickKept_newInput (was : State) (n : Fin 4) : TickKept p s (newInput was s p n) := by
  have retyped (c : Prop) [Decidable c] : TickKept p s (if c then s else retypeInput s p n) :=
    .ite .refl (tickKept_retypeInput ..)
  have diagnosed (t : State) (h : TickKept p s t) (c d e : Bool) (off : Bool) : TickKept p s
      (if c then (if d then t else startWindow t p n off) else if e then endOff t p n else t) :=
    .ite (.ite h (h.trans (tickKept_startWindow ..))) (.ite (h.trans (tickKept_endOff ..)) h)
  exact .trans (diagnosed _ (.ite (retyped _) (.onT (retyped _))) ..) (tickKept_showExc ..)

theorem tickKept_formPresence : TickKept p s (formPresence s p) := by
  unfold formPresence
  exact .evtIf (.ite (.onZ (.wb (by rfl) (.wb (by rfl) .refl)) (by rfl) (by rfl)) (.wb (by rfl) (.wb (by rfl) .refl)))

theorem tickKept_disableHumidity : TickKept p s (disableHumidity s p) :=
  .ite (.evtIf (.onInp (.wb (by rfl) (.wb (by rfl) (.w (by rfl) (.w (by rfl) .refl)))))) .refl

theorem tickKept_turnPrd : TickKept p s (turnPrd s p) := by
  unfold turnPrd
  exact .onInp (.wb (by rfl) .refl)

theorem tickKept_buildEntries : TickKept p s (buildEntries s p) := .foldl _ .refl fun _ n => .wWord (offReq_ENT n) .refl

end Inputs

section Outputs
variable {p : Phys} (s : State) (j : Out)

theorem tickKept_syncHold : TickKept p s (syncHold s p) := .wb (by rfl) (.w (by rfl) (.w (by rfl) .refl))

theorem tickKept_onOut (f : OutSt → OutSt) : TickKept p s (s.onOut p j f) := by
  have h : TickKept p s (syncHold ((s.onOuts p (fun x => { x with o := x.o.set j.val (f (s.out p j)) j.isLt })).wWord p
      R.ZO_OUT_j (f (s.out p j)).word j) p) :=
    .trans (.wWord (offReq_above (by decide) _) (.onOuts .refl)) (tickKept_syncHold _)
  exact .evtIf (.ite h.evtIf.evtIf.evtIf h.evtIf.evtIf.evtIf.evtP)

theorem tickKept_refreshOut : TickKept p s (refreshOut s p j) := by
  have h := tickKept_onOut (p := p) s j
  exact .ite .refl (.ite (.ite (.bump (by rfl) (h _)) (.bump (by rfl) (h _))) (h _))

theorem tickKept_driveSafe : TickKept p s (driveSafe s p j) := (tickKept_onOut ..).trans (tickKept_refreshOut ..)

theorem tickKept_redriveOutputs : TickKept p s (redriveOutputs s p) :=
  .trans (.foldl _ .refl fun t j => .ite (tickKept_driveSafe t j) (tickKept_refreshOut t j)) (tickKept_syncHold _)

theorem tickKept_endPulse (r re : Nat) : TickKept p s (endPulse s p j r re) := by
  unfold endPulse
  split
  · dsimp only
    split
    · exact (TickKept.noteBusy (.onZ (tickKept_onOut ..) (by rfl) (by rfl))).trans (tickKept_markZone ..)
    · exact .noteBusy (.onZ (tickKept_onOut ..) (by rfl) (by rfl))
  · exact .refl

theorem tickKept_ceilingPulses (cH cC : Rat) : TickKept p s (ceilingPulses s p cH cC) :=
  .foldl _ .refl fun _ _ => .ite (.ite ((tickKept_endPulse ..).trans (tickKept_refreshOut ..)) .refl) .refl

theorem tickKept_releaseOut : TickKept p s (releaseOut s p j) := .ite (tickKept_onOut ..) (.err (.bump (by rfl) .refl))

theorem tickKept_firmwareRelease : TickKept p s (firmwareRelease s p) :=
  .ite .refl (.foldl _ .refl fun t j => .ite (tickKept_releaseOut t j) .refl)

end Outputs

section Capture
variable {p : Phys} (s : State)

theorem tickKept_restartCal : TickKept p s (restartCal s p) := by
  unfold restartCal
  exact .wbEvt (by rfl) (.onSl (by rfl) (.onCv .refl))

theorem tickKept_takeBand : TickKept p s (takeBand s p) := by
  have hsync (t : State) : TickKept p t (syncTrims t p) :=
    .wbEvt (by rfl) (.wbEvt (by rfl) (.wi (by rfl) (.wi (by rfl) (.wi (by rfl) (.w (by rfl) .refl)))))
  exact .ite .refl (.trans (.trans (.evt (.w (by rfl) (.onInp (.onCv .refl)))) (tickKept_restartCal _)) (hsync _))

theorem tickKept_startPass (q : Fin 4) (e : Option Nat) : TickKept p s (startPass s p q e) := by
  unfold startPass
  exact .onSeq (tickKept_takeBand s)

theorem tickKept_dropTrigger (q : Fin 4) : TickKept p s (dropTrigger s p q) := by
  fin_cases q <;> exact .err (.evt (.bump (by rfl) .refl))

theorem tickKept_acceptTrigger (q : Fin 4) (e : Option Nat) : TickKept p s (acceptTrigger s p q e) :=
  .ite (tickKept_dropTrigger ..) (.ite (.ite (tickKept_dropTrigger ..) (.onSeq .refl)) (tickKept_startPass ..))

theorem tickKept_finishEnding (q : Fin 4) : TickKept p s (finishEnding s p q) :=
  .ite (.ite (.trans (.onSeq .refl) (tickKept_acceptTrigger ..)) (.onSeq .refl)) .refl

/-- No field of the converters' status shows a request. -/
theorem offReq_SEQ_STAT {x : Fld} (h : (x.key, x.stride) = (R.ZC_SEQ_STAT_q.key, R.ZC_SEQ_STAT_q.stride)) (q : Fin 4) :
    offReq (x.at q.val) = true := by
  obtain ⟨hkey, hstride⟩ := Prod.mk.inj h
  rw [Fld.at, hkey, hstride]
  revert q
  decide

theorem offReq_SEQ_EN (q : Fin 4) : offReq (F.ZC_SEQ_q_EN.at q.val) = true := by revert q; decide

theorem rfGet_putNat_offReq {x : Fld} {i : Nat} (hx : offReq (x.at i) = true) (j : Out) (f : RegFile) (v : Nat) :
    rfGet (f.putNat x v i) (R.ZL_OUT_j.at j) = rfGet f (R.ZL_OUT_j.at j) := rfGet_rfPut_offReq hx j f _

theorem tickKept_settle : TickKept p s (settle s p) := by
  refine .foldl _ (.onR (.onCv .refl) fun f j => ?_) fun t q => .onR .refl fun f j => ?_
  · rw [rfGet_putNat_offReq rfl, rfGet_putNat_offReq rfl, rfGet_putNat_offReq rfl, rfGet_putNat_offReq rfl,
      rfGet_putNat_offReq rfl]
  · have hq {x : Fld} (h : (x.key, x.stride) = (R.ZC_SEQ_STAT_q.key, R.ZC_SEQ_STAT_q.stride)) (g : RegFile) (v : Nat) :
        rfGet (g.putNat x v q.val) (R.ZL_OUT_j.at j) = rfGet g (R.ZL_OUT_j.at j) :=
      rfGet_putNat_offReq (offReq_SEQ_STAT h q) j g v
    simp only [RegFile.putBit]
    rw [hq rfl, hq rfl, hq rfl, hq rfl, hq rfl, hq rfl]

theorem tickKept_seqDisabled (q : Fin 4) : TickKept p s (seqDisabled s p q) :=
  .trans (.trans (.onSeq .refl) (tickKept_finishEnding ..)) (tickKept_settle _)

theorem tickKept_firmwareSeqs (on : Bool) : TickKept p s (firmwareSeqs s p on) :=
  .foldl _ .refl fun _ q => .trans (.wb (offReq_SEQ_EN q) .refl) (.ite (.onSeq .refl) (tickKept_seqDisabled ..))

theorem tickKept_setSq0 (fast : Option Nat) : TickKept p s (setSq0 s p fast) := by
  cases fast with
  | none => exact .wWord (by rfl) (.wWord (by rfl) .refl)
  | some ch => exact .w (by rfl) (.wWord (by rfl) .refl)

theorem tickKept_holdReadings : TickKept p s (holdReadings s p) :=
  .foldl _ .refl fun _ n => .ite (.wb (offReq_T n) .refl) .refl

theorem tickKept_syncCap : TickKept p s (syncCap s p) := by
  unfold syncCap
  refine .onR .refl fun f j => ?_
  simp only [RegFile.putBit]
  rw [rfGet_putNat_offReq rfl, rfGet_putNat_offReq rfl, rfGet_putNat_offReq rfl, rfGet_putNat_offReq rfl,
    rfGet_putNat_offReq rfl]

theorem tickKept_capArm : TickKept p s (capArm s p) :=
  .ite (.bump (by rfl) .refl) (.noteBusy (.trans (.onCap .refl) (tickKept_syncCap _)))

theorem tickKept_capTrigger : TickKept p s (capTrigger s p) := by
  unfold capTrigger
  refine .ite .refl (.trans (.trans (.onR (.evt (.onCap .refl)) fun f j => ?_)
    (.trans (.errIf .refl) (.ite ?fast .refl))) (tickKept_syncCap _))
  · simp only [RegFile.put64, RegFile.putWord]
    rw [rfGet_rfPut_offReq rfl, rfGet_rfPut_offReq rfl]
  case fast =>
    exact .wb (by rfl) (((tickKept_firmwareSeqs ..).trans (tickKept_holdReadings _)).trans (tickKept_setSq0 ..))

theorem tickKept_capRelay (j : Out) : TickKept p s (capRelay s p j).1 := by
  unfold capRelay
  dsimp only
  split
  · split
    · exact TickKept.onCap (f := fun c => { c with drvWait := some j }) (tickKept_capTrigger s)
    · exact tickKept_capTrigger s
  · exact .refl

theorem tickKept_startPulse (z : Zone) (j : Out) (n d : Nat) : TickKept p s (startPulse s p z j n d) :=
  .ite (tickKept_markZone ..) (.ite (tickKept_markZone ..)
    (.noteBusy (((tickKept_capRelay s j).trans (tickKept_onOut ..)).trans (tickKept_refreshOut ..))))

theorem tickKept_request (j : Out) (x : Rat) : TickKept p s (request s p j x) := by
  have hrelay (c : Prop) [Decidable c] : TickKept p s (if c then capRelay s p j else (s, false)).1 := by
    split
    · exact tickKept_capRelay s j
    · exact .refl
  exact .ite .refl (((hrelay _).trans (tickKept_onOut ..)).trans (tickKept_refreshOut ..))

end Capture

end Sys2Proof.Machine

namespace Sys2Proof.Machine
open Host

/-! ### Schedule, tariff and planner under a tick (R257 to R278) -/

section Schedule
variable {p : Phys} (s : State)

theorem tickKept_planTrigger : TickKept p s (planTrigger s p) :=
  .ite (.ite (.bump (by rfl) (.onSc (by rfl) .refl)) (.onSc (by rfl) .refl)) .refl

theorem tickKept_setSchedState (v : Nat) : TickKept p s (setSchedState s p v) := .ite .refl (.evt (.w (by rfl) .refl))

theorem tickKept_setBand (b : Option Nat) : TickKept p s (setBand s p b) :=
  .evtIf (.w (by rfl) (.w (by rfl) (.w (by rfl) (.w (by rfl) .refl))))

theorem tickKept_reevaluate : TickKept p s (reevaluate s p) := by
  have hday (t : State) : TickKept p t (setDay t p) := .evtIf (.wb (by rfl) (.w (by rfl) (.wb (by rfl) (.w (by rfl) .refl))))
  exact .ite (.trans (.trans (.trans (.wbEvt (by rfl) .refl) (hday _)) (tickKept_setSchedState ..)) (tickKept_setBand ..))
    ((tickKept_setSchedState ..).trans (tickKept_setBand ..))

theorem tickKept_judgeTariff : TickKept p s (judgeTariff s p) := by
  unfold judgeTariff
  exact .errIf (.errIf (.onSc (by rfl) (.wbEvt (by rfl) (.wbEvt (by rfl) (.wb (by rfl) (.wb (by rfl) .refl))))))

theorem tickKept_followTariff : TickKept p s (followTariff s p) :=
  .ite (tickKept_judgeTariff s) ((tickKept_judgeTariff s).trans (tickKept_planTrigger _))

theorem tickKept_resetBins : TickKept p s (resetBins s p) :=
  .foldl _ .refl fun _ b => .wWord (offReq_above (by decide) (b / 4)) .refl

theorem tickKept_trustFlag (x : Fld) (b trig : Bool) (hx : offReq (x.at 0) = true) : TickKept p s (trustFlag s p x b trig) :=
  .ite (.trans (.wbEvt hx .refl) (tickKept_planTrigger _)) (.wbEvt hx .refl)

theorem tickKept_judgeMeters : TickKept p s (judgeMeters s p) := by
  refine .foldl _ .refl fun t c => .errIf (.onSc (by rfl) (.trans (.w ?_ .refl) (tickKept_trustFlag _ _ _ _ ?_)))
  · cases c <;> rfl
  · cases c <;> rfl

theorem tickKept_judgePlanner : TickKept p s (judgePlanner s p) :=
  .errIf (.onSc (by rfl) (.w (by rfl) ((tickKept_trustFlag _ _ _ _ rfl).trans (tickKept_trustFlag _ _ _ _ rfl))))

theorem tickKept_judgeFrozen : TickKept p s (judgeFrozen s p) := .errIf (.wb (by rfl) .refl)

/-- The due alarms taken (R259). -/
def dueTaken (s : State) (p : Phys) : State := s.onSc p (fun x => { x with due := [] })

theorem tickKept_applyDue : TickKept p (dueTaken s p) (applyDue s p) := by
  have hcost : TickKept p (dueTaken s p) (((dueTaken s p).w p F.ZP_COST_DAY_COST 0).w p F.ZP_UNPRICED_MIN 0) :=
    .w (by rfl) (.w (by rfl) .refl)
  exact .ite .refl (.ite (.trans (.ite (hcost.onSc (by rfl)) .refl) (tickKept_reevaluate _))
    (.ite (hcost.onSc (by rfl)) .refl))

/-- A waiting plan taken into force (R275). -/
def planTaken (s : State) (p : Phys) : State :=
  s.onSc p (fun x => { x with plan := x.planNext.or x.plan, planNext := none })

theorem rfGet_planSteps (l : List (PlanStep × Nat)) (word : PlanStep → Word) (f : RegFile) (j : Out) :
    rfGet (l.foldl (fun (f : RegFile) (x : PlanStep × Nat) => f.putWord R.ZP_STEP_k (word x.1) x.2) f) (R.ZL_OUT_j.at j) =
      rfGet f (R.ZL_OUT_j.at j) := by
  induction l generalizing f with
  | nil => rfl
  | cons x l ih => rw [List.foldl_cons, ih, RegFile.putWord, rfGet_rfPut_offReq (offReq_above (by decide) _)]

theorem tickKept_adoptPlan : TickKept p (planTaken s p) (adoptPlan s p) := by
  unfold adoptPlan
  split
  · next h =>
    have hnext : (s.z p).sched.planNext = none := h
    exact ⟨by simp [planTaken, State.onSc, tickPart, hnext], fun _ => by simp [planTaken, State.onSc], rfl⟩
  · next pl h =>
    have hnext : (s.z p).sched.planNext = some pl := h
    have htaken : TickKept p (planTaken s p) (s.onSc p (fun x => { x with plan := some pl, planNext := none })) :=
      ⟨by simp [planTaken, State.onSc, tickPart, hnext], fun _ => by simp [planTaken, State.onSc], rfl⟩
    refine htaken.onR fun f j => ?_
    dsimp only
    rw [rfGet_planSteps pl.steps.zipIdx (fun x => BitVec.ofNat 32
      (stepField x.spH * 2 ^ 22 + stepField x.spC * 2 ^ 12 + bit1 x.occ * 2 ^ 11 + x.band * 2 ^ 4)),
      rfGet_putNat_offReq rfl, rfGet_putNat_offReq rfl]
    simp only [RegFile.put64, RegFile.putWord]
    rw [rfGet_rfPut_offReq rfl, rfGet_rfPut_offReq rfl]

end Schedule

/-! ### Modes and panel requests under a tick (R216 to R223) -/

section Modes
variable {p : Phys} (s : State)

theorem tickKept_showMode : TickKept p s (showMode s p) := .wb (by rfl) (.w (by rfl) (.w (by rfl) .refl))

theorem tickKept_applyMode (m : Nat) : TickKept p s (applyMode s p m) :=
  .trans (.trans (.trans (.onLp (by rfl) .refl) (tickKept_showMode _)) (tickKept_failTune ..)) (tickKept_planTrigger _)

theorem tickKept_setOffset (v : Int) : TickKept p s (setOffset s p v) :=
  .ite .refl (.trans (.onLp (by rfl) .refl) (tickKept_planTrigger _))

theorem tickKept_applyReq (r : PanelReq) : TickKept p s (applyReq s p r) := by
  have hboost (f : Loop → Loop) (hf : Loop.asked ∘ f = Loop.asked) : TickKept p s (showMode (s.onLp p f) p) :=
    .trans (.onLp hf .refl) (tickKept_showMode _)
  unfold applyReq
  refine .ite (.bump (by rfl) .refl) ?_
  cases r with
  | boost => exact .ite (hboost _ (by rfl)) (.ite (hboost _ (by rfl)) .refl)
  | step up => exact tickKept_setOffset ..
  | zero => exact tickKept_setOffset ..

/-- The panel's requests taken (R219). -/
def reqsTaken (s : State) (p : Phys) : State := s.onLp p (fun l => { l with reqs := [] })

theorem tickKept_applyReqs : TickKept p (reqsTaken s p) (applyReqs s p) := .foldl _ .refl fun _ _ => tickKept_applyReq ..

theorem tickKept_applySchedule (was : State) : TickKept p (dueTaken s p) (applySchedule was s p) :=
  .ite (.trans (.onLp (by rfl) (tickKept_applyDue s)) (tickKept_showMode _)) (tickKept_applyDue s)

theorem tickKept_formMode : TickKept p s (formMode s p) := by
  have hmode (m : Nat) :
      TickKept p s (((s.onLp p (fun l => { l with mode := m })).w p F.ZL_STAT_MODE m).evt p 6 EVT.ZL_MODE) :=
    .evt (.w (by rfl) (.onLp (by rfl) .refl))
  have hended (c : Prop) [Decidable c] (m : Nat) :=
    (TickKept.ite (c := c) ((hmode m).trans (tickKept_setOffset _ 0)) (hmode m)).trans (tickKept_failTune _ 6)
  exact .ite .refl (.ite (hended ..) ((hended ..).trans (tickKept_planTrigger _)))

theorem tickKept_formSetpoints : TickKept p s (formSetpoints s p) :=
  .evtIf (.wbEvt (by rfl) (.w (by rfl) (.w (by rfl) (.w (by rfl) (.w (by rfl) (.w (by rfl) (.onLp (by rfl) .refl)))))))

theorem tickKept_restoreModes : TickKept p s (restoreModes s p) := by
  have hone (t : State) (k : ModeKeep) : TickKept p t (restoreMode t p k) :=
    .trans (.trans (.trans (.onLp (by rfl) .refl) (tickKept_showMode _)) (tickKept_failTune ..)) (tickKept_planTrigger _)
  exact .foldl _ (.onLp (by rfl) .refl) hone

end Modes

end Sys2Proof.Machine

namespace Sys2Proof.Machine
open Host

/-! ### Commands taken under a tick (R343 to R347, R358) -/

section Taken
variable {p : Phys} (s : State) (x : Exec) (z : Zone)

/-- No image stands where a request is shown. -/
theorem offReq_of_isImage {a : Nat} (h : isImage a = true) : offReq a = true := by
  simp only [isImage, imageRanges, List.any_cons, List.any_nil, Bool.or_false, Bool.or_eq_true, Bool.and_eq_true,
    decide_eq_true_eq] at h
  simp only [offReq, Bool.or_eq_true, decide_eq_true_eq]
  omega

theorem tickKept_putWords {l : RegFile → List (Nat × Word)} (h : ∀ f, ∀ c ∈ l f, offReq c.1 = true) :
    TickKept p s (s.onR p (fun f => putWords f (l f))) :=
  .onR .refl fun f j => rfGet_putWords_of_ne _ _ _ fun c hc => by
    intro he
    have hoff := h f c hc
    rw [he, offReq_OUT] at hoff
    cases hoff

theorem tickKept_takeImages {op : Nat} (hop : op ∈ imageOps) (hx : x.opcode.toNat = op) : TickKept p s (takeImages s p x) :=
  tickKept_putWords s fun _ c hc => offReq_of_isImage (isImage_imageWords (hx ▸ hop) c hc)

theorem tickKept_takeCaptureImage (hx : x.opcode.toNat = 0x0304) : TickKept p s (takeImages s p x) :=
  tickKept_putWords s fun _ c hc => by
    rw [hx] at hc
    obtain rfl := List.mem_singleton.mp hc
    rfl

theorem tickKept_newInputs (hx : x.opcode.toNat = 0x0101) : TickKept p s (newInputs s p x) := by
  have h2 : TickKept p s _ := ((tickKept_takeImages s x (by decide) hx).foldl (f := fun t n => newInput s t p n)
    (List.finRange 4) fun t n => tickKept_newInput t s n).trans (u := restartFilters _ p) (.onInp .refl)
  refine TickKept.trans (.trans (.trans ?_ (tickKept_disableHumidity _)) (tickKept_formPresence _)) (tickKept_buildEntries _)
  exact .ite h2 (h2.trans (tickKept_turnPrd _))

theorem tickKept_flagInterval (b : Nat) : TickKept p s (flagInterval s p b) := .onZ .refl (by rfl) (by rfl)

theorem tickKept_noteCal : TickKept p s (noteCal s p x) :=
  .err (.trans (.onMt (.wb (by rfl) .refl)) (tickKept_flagInterval ..))

theorem tickKept_noteHeatCfg : TickKept p s (noteHeatCfg s p x) :=
  .err (.evt ((TickKept.ite (tickKept_flagInterval ..) .refl).trans (tickKept_flagInterval ..)))

theorem tickKept_configEffect {t : State} (h : configEffect s p x = some t) : TickKept p s t := by
  have images {op : Nat} (hx : x.opcode.toNat = op) (hop : op ∈ imageOps := by decide) :=
    tickKept_takeImages (p := p) s x hop hx
  have planned {t : State} (ht : TickKept p s t) : TickKept p s (planTrigger t p) := ht.trans (tickKept_planTrigger _)
  have evaluated {t : State} (ht : TickKept p s t) : TickKept p s (reevaluate t p) := ht.trans (tickKept_reevaluate _)
  unfold configEffect at h
  split at h
  all_goals rename_i hx
  all_goals simp only [Option.some.injEq, reduceCtorEq] at h
  all_goals subst h
  · exact tickKept_newInputs s x hx
  · refine planned (.trans (tickKept_putWords s fun f c hc => ?_) (tickKept_failTune ..))
    simp only [setpointWords, List.mem_cons, List.not_mem_nil, or_false] at hc
    rcases hc with rfl | rfl | rfl | rfl <;> rfl
  · exact images hx
  · exact images hx
  · exact .onLp (by rfl) .refl
  · exact (images hx).trans (tickKept_redriveOutputs _)
  · exact images hx
  · exact (images hx).trans (tickKept_noteCal ..)
  · refine .trans (.trans (tickKept_putWords s fun f c hc => ?_) (tickKept_takeImages _ x (by decide) hx)) (tickKept_noteCal ..)
    simp only [calWords, List.mem_cons, List.not_mem_nil, or_false] at hc
    rcases hc with rfl | rfl | rfl <;> rfl
  · exact (images hx).trans (tickKept_noteHeatCfg ..)
  · exact planned (evaluated (images hx))
  · exact planned (evaluated (.ite (images hx) (.trans (.onSc (by rfl) (images hx)) (tickKept_resetBins _))))
  · exact planned (evaluated (images hx))
  · exact planned (evaluated ((images hx).trans (tickKept_judgeTariff _)))
  · exact planned ((images hx).trans (tickKept_judgeMeters _))
  · exact planned (tickKept_resetBins s)

theorem tickKept_doneZone (v : Word) : TickKept p s (doneZone s x z v) := tickKept_markZone ..

theorem tickKept_takePulse : TickKept p s (takePulse s p z x) :=
  .trans (.ite ((tickKept_startPulse ..).trans (tickKept_writeCheckpoint _)) (tickKept_startPulse ..))
    (tickKept_ceilingPulses ..)

theorem tickKept_startTune : TickKept p s (startTune s p x) :=
  .ite (.trans (.w (by rfl) (.w (by rfl) .refl)) (tickKept_tuneFault ..))
    (.noteBusy (.wb (by rfl) (.w (by rfl) (.w (by rfl) (.w (by rfl) (.w (by rfl) (.w (by rfl) (.onLp (by rfl) .refl))))))))

theorem tickKept_takeTune : TickKept p s (takeTune s p x) :=
  .ite ((tickKept_startTune ..).trans (tickKept_writeCheckpoint _)) (tickKept_startTune ..)

theorem tickKept_clearDemand : TickKept p s (clearDemand s p) := .wWord (by rfl) (.wWord (by rfl) (.wWord (by rfl) .refl))

theorem tickKept_takeCapture (hx : x.opcode.toNat = 0x0304) : TickKept p s (takeCapture s p z x) :=
  .ite (tickKept_markZone ..) (.trans (.trans (.trans (tickKept_takeCaptureImage s x hx) (tickKept_capArm _))
    (tickKept_writeCheckpoint _)) (tickKept_doneZone ..))

theorem tickKept_takeTick : TickKept p s (takeTick s p z x) := by
  unfold takeTick
  extract_lets allNone s1 s2 taken s3 s4
  have h1 : TickKept p s s1 := .ite (.onLp (by rfl) .refl) .refl
  have h3 : TickKept p s s3 := .onCensus (h1.trans (tickKept_applyMode ..))
  have h4 : TickKept p s s4 := by
    refine .ite ?_ h3
    split
    · exact h3.pw.pw.pw.pw
    · exact h3
  exact .ite h4 (h4.trans (tickKept_doneZone ..))

theorem tickKept_takeNew : TickKept p s (takeNew s p z x) := by
  unfold takeNew
  split
  · next t ht => exact .trans (.onSl (by rfl) (tickKept_configEffect s x ht)) (tickKept_doneZone ..)
  · split
    · exact .ite (tickKept_takeTick ..) (.trans (.onSl (by rfl) (tickKept_applyMode ..)) (tickKept_doneZone ..))
    · exact tickKept_takePulse ..
    · exact tickKept_takeTune ..
    · exact (tickKept_failTune ..).trans (tickKept_doneZone ..)
    · exact (tickKept_clearDemand s).trans (tickKept_doneZone ..)
    · next hx => exact tickKept_takeCapture s x z hx
    · exact .refl

theorem tickKept_takeAgain : TickKept p s (takeAgain s p x) := by
  unfold takeAgain
  split
  · next t ht => exact tickKept_configEffect s x ht
  · split
    · exact tickKept_applyMode ..
    · exact tickKept_clearDemand s
    · next hx => exact tickKept_takeCaptureImage s x hx
    · exact .refl

theorem tickKept_takeOne : TickKept p s (takeOne s p z x) := by
  have hraised : TickKept p s (taking s p x) := by
    unfold taking raiseTaken
    exact .onZ (.onSl (by rfl) .refl) (by rfl) (by rfl)
  unfold takeOne
  dsimp only
  split
  · exact .ite (hraised.trans (tickKept_takeAgain ..)) hraised
  · exact hraised.trans (tickKept_takeNew ..)

theorem tickKept_takeList (upTo : Option Nat) (l : List Exec) : TickKept p s (takeList s p z upTo l) := by
  induction l generalizing s with
  | nil => exact .refl
  | cons x l ih => exact .ite ((tickKept_takeOne s x z).trans (ih _)) .refl

variable {s}

/-- Where the porch holds no command back, the commands taken are those of the inbox (R343, R344). -/
theorem takeInbox_heldNone (h : s.journal.handover = []) (upTo : Option Nat) : takeInbox s p upTo =
    (s.zoneOf p).elim s (fun z => takeList s p z upTo (s.sl p).inbox) := by
  unfold takeInbox
  cases s.zoneOf p with
  | none => rfl
  | some z => exact deliver_nothing ((tickKept_takeList ..).waits.trans h)

theorem takeInbox_keeps (h : s.journal.handover = []) (upTo : Option Nat) : TickKept p s (takeInbox s p upTo) ∧
    ∀ q, q ≠ p → (takeInbox s p upTo).cr q = s.cr q := by
  rw [takeInbox_heldNone h]
  cases s.zoneOf p with
  | none => exact ⟨.refl, fun _ _ => rfl⟩
  | some z => exact ⟨tickKept_takeList .., takeList_cr_ne _ _ _ _ _⟩

end Taken

/-! ### Step 1 of a loop tick (R219, R224) -/

section StepOne
variable {s : State} {p : Phys}

theorem reqsTaken_part : tickPart ((reqsTaken s p).z p) = { tickPart (s.z p) with reqs := [] } := by
  rw [reqsTaken, State.onLp, z_onZ]; rfl

theorem dueTaken_part : tickPart ((dueTaken s p).z p) = { tickPart (s.z p) with due := [] } := by
  rw [dueTaken, State.onSc, z_onZ]; rfl

theorem planTaken_part : tickPart ((planTaken s p).z p) =
    { tickPart (s.z p) with plan := (s.sc p).planNext.or (s.sc p).plan, planNext := none } := by
  rw [planTaken, State.onSc, z_onZ]; rfl

theorem planTaken_part_of {t : TickPart} (h : tickPart (s.z p) = t) :
    tickPart ((planTaken s p).z p) = { t with plan := t.planNext.or t.plan, planNext := none } := by
  rw [planTaken_part, ← h]; rfl

/-- Step 1 leaves no panel request, no due alarm and no waiting plan (R219, R259, R275). -/
theorem stepOne_part (h : s.journal.handover = []) : tickPart ((stepOne s p).z p) = { tickPart (s.z p) with
      reqs := [], due := [], plan := (s.sc p).planNext.or (s.sc p).plan, planNext := none } ∧
    (stepOne s p).journal.handover = [] := by
  unfold stepOne
  extract_lets a b c
  have ha : TickKept p s a := (takeInbox_keeps h none).1.trans (tickKept_restoreModes _)
  have hb : TickKept p (reqsTaken a p) b := tickKept_applyReqs a
  have hd : TickKept p (dueTaken b p) (judgeFrozen (followTariff (applySchedule a b p) p) p) :=
    ((tickKept_applySchedule b a).trans (tickKept_followTariff _)).trans (tickKept_judgeFrozen _)
  have hc : TickKept p (planTaken (judgeFrozen (followTariff (applySchedule a b p) p) p) p) c := tickKept_adoptPlan _
  have he : TickKept p c (formSetpoints (formMode (judgePlanner c p) p) p) :=
    ((tickKept_judgePlanner c).trans (tickKept_formMode _)).trans (tickKept_formSetpoints _)
  have hparts := hd.part
  rw [dueTaken_part, hb.part, reqsTaken_part, ha.part] at hparts
  exact ⟨he.part.trans (hc.part.trans (planTaken_part_of hparts)),
    he.waits.trans (hc.waits.trans (hd.waits.trans (hb.waits.trans (ha.waits.trans h))))⟩

/-- Step 1 leaves the other slices alone. -/
theorem stepOne_cr_ne (h : s.journal.handover = []) (q : Phys) (hq : q ≠ p) : (stepOne s p).cr q = s.cr q := by
  simp [stepOne, hq, (takeInbox_keeps h none).2 q hq]

end StepOne

end Sys2Proof.Machine

namespace Sys2Proof.Machine
open Host

/-! ### The control work of a tick and a tick's marks (R224 to R244) -/

section Control
variable (s : State) {p : Phys}

theorem TickKept.protFlag {s t : State} {x : Fld} {b : Bool} (hx : offReq (x.at 0) = true) (h : TickKept p s t) :
    TickKept p s (protFlag t p x b) := .wbEvt hx h

theorem tickKept_beginTransit (cool : Bool) (sp tc : Rat) : TickKept p s (beginTransit s p cool sp tc) := .onSide .refl

theorem tickKept_endTransit (cool : Bool) (e : Rat) : TickKept p s (endTransit s p cool e) := by
  unfold endTransit
  split
  · exact .evt (.onSide .refl)
  · exact .refl

theorem tickKept_piStep (cool : Bool) (e : Rat) (other fresh : Bool) : TickKept p s (piStep s p cool e other fresh) :=
  .onSide .refl

theorem tickKept_roomSide (cool : Bool) (sp : Option Int) (tc : Rat) (other fresh : Bool) :
    TickKept p s (roomSide s p cool sp tc other fresh) := by
  unfold roomSide
  extract_lets x sign verify
  split
  · exact .onSide .refl
  · extract_lets q e changed far s1 s2 s3
    have h1 : TickKept p s s1 := .ite (tickKept_endTransit ..) .refl
    have h2 : TickKept p s s2 := .ite (h1.trans (tickKept_beginTransit ..)) h1
    have h3 : TickKept p s s3 := .onSide (.ite (h2.trans (tickKept_endTransit ..)) h2)
    split
    · exact .ite ((h3.trans (tickKept_endTransit ..)).trans (tickKept_piStep ..)) (.onSide h3)
    · exact h3.trans (tickKept_piStep ..)

theorem tickKept_lossTick : TickKept p s (lossTick s p) :=
  .evtIf (.onLp (funext fun l => by dsimp only [Function.comp_apply]; cases l.lossT <;> rfl) .refl)

theorem tickKept_lossOver (eH eC : Option Rat) : TickKept p s (lossOver s p eH eC) := by
  unfold lossOver
  extract_lets l back s1
  split
  · exact .refl
  · have hback (t : State) (cool : Bool) (e : Option Rat) : TickKept p t (back t cool e) := by
      cases e with
      | none => exact .refl
      | some e =>
        refine .ite (.onSide .refl) ?_
        split
        · exact .onSide .refl
        · exact .refl
    exact .wbEvt (by rfl) (.onLp (by rfl) ((hback _ _ _).trans (hback _ _ _)))

theorem tickKept_takeImplied (eH eC : Option Rat) : TickKept p s (takeImplied s p eH eC) := by
  unfold takeImplied
  extract_lets side
  have hside (t : State) (cool : Bool) (e : Option Rat) : TickKept p t (side t cool e) := by
    dsimp only [side]
    split
    · exact .onSide .refl
    · exact .refl
  exact .onLp (by rfl) ((hside _ _ _).trans (hside _ _ _))

theorem tickKept_demands (tc : Option Rat) : TickKept p s (demands s p tc).1 := by
  unfold demands
  extract_lets l err eH eC sManual sLoss s0 s1 fresh pos
  have hloss : TickKept p s sLoss := tickKept_lossTick s
  have h0 : TickKept p s s0 := tickKept_lossOver ..
  have h1 : TickKept p s s1 := .ite (h0.trans (tickKept_takeImplied ..)) h0
  have hmanual : TickKept p s sManual := .ite (tickKept_lossTick s) (tickKept_lossOver ..)
  clear_value sLoss s1 sManual
  split
  · dsimp only
    exact .onLp (by rfl) hmanual
  · split
    · split <;> exact hloss
    · exact (h1.trans (tickKept_roomSide ..)).trans (tickKept_roomSide ..)

theorem tickKept_cascade (tc dH dC : Rat) : TickKept p s (cascade s p tc dH dC).1 := by
  unfold cascade
  split
  · exact .refl
  · extract_lets kc run
    have hrun (cool : Bool) (sp : Rat) : TickKept p s (run cool sp).1 := by
      dsimp only [run]
      exact .onLp (by rfl) .refl
    split
    · exact hrun ..
    · split
      · exact hrun ..
      · dsimp only
        exact .onLp (by rfl) .refl

theorem tickKept_ceilings (tc : Option Rat) (dH dC : Rat) : TickKept p s (ceilings s p tc dH dC).1 := by
  unfold ceilings
  extract_lets cL cR cD s0 cH h c lim dew l s1 s2 s3 s4 early s5 cutTuned
  have h0 : TickKept p s s0 := .ite (.beside .refl rfl rfl) .refl
  have h1 : TickKept p s s1 := .protFlag (by rfl) (.protFlag (by rfl) (.protFlag (by rfl) h0))
  have h3 : TickKept p s s3 := .errIf (.errIf h1)
  have hearly (t : State) (cool : Bool) (sp : Option Int) (cut : Bool) : TickKept p t (early t cool sp cut) := by
    dsimp only [early]
    split
    · exact .ite (tickKept_endTransit ..) .refl
    · exact .refl
  have h5 : TickKept p s s5 := ((TickKept.onLp (by rfl) h3).trans (hearly _ _ _ _)).trans (hearly _ _ _ _)
  exact .ite (h5.trans (tickKept_failTune ..)) h5

theorem ceilings_cr_ne (tc : Option Rat) (dH dC : Rat) (q : Phys) (hq : q ≠ p) :
    (ceilings s p tc dH dC).1.cr q = s.cr q := by
  unfold ceilings
  extract_lets cL cR cD s0 cH h c lim dew l s1 s2 s3 s4 early s5 cutTuned
  have hfree : s0.cr q = s.cr q := by unfold s0; split <;> rfl
  have hearly (t : State) (cool : Bool) (sp : Option Int) (cut : Bool) : (early t cool sp cut).cr q = t.cr q := by
    dsimp only [early]
    split
    · split <;> simp [hq]
    · rfl
  have h5 : s5.cr q = s.cr q := by
    have h4 : s4.cr q = s0.cr q := by simp [s4, s3, s2, s1, hq, apply_ite (State.cr · q)]
    rw [← hfree, ← h4]
    exact (hearly ..).trans (hearly ..)
  split
  · exact (failTune_cr_ne _ _ _ _ hq).trans h5
  · exact h5

theorem tickKept_antiWindup (cool held : Bool) (before : Rat) (e : Option Rat) :
    TickKept p s (antiWindup s p cool held before e).1 := by
  unfold antiWindup
  extract_lets s1
  have h1 : TickKept p s s1 := .ite (.onSide .refl) .refl
  split
  · extract_lets o
    split
    · split
      · exact .onSide h1
      · exact h1
    · exact h1
  · exact h1

theorem tickKept_settleTick (cool : Bool) (tc : Option Rat) (ceiling : Bool) :
    TickKept p s (settleTick s p cool tc ceiling) := by
  unfold settleTick
  split
  · exact .refl
  · extract_lets n entry ok done opt s1
    clear_value done
    split
    · exact .onSide .refl
    · extract_lets s2
      have h1 : TickKept p s s1 := .onSide .refl
      exact .errIf (.ite (.w (by rfl) (.w (by rfl) h1)) (.w (by rfl) (.w (by rfl) h1)))

end Control

/-! ### The work of a tune and a tick's marks (R242, R243) -/

section TuneWork
variable (s : State) {p : Phys}

theorem tickKept_tuneStep (n : Nat) (f : Tune → Tune) : TickKept p s (tuneStep s p n f) := .w (by rfl) (.onTune .refl)

theorem tickKept_tuneCommit (t : Tune) : TickKept p s (tuneCommit s p t) := by
  unfold tuneCommit
  extract_lets c k th tau kc ti m1 m2 pi r1 r2 rp old far s1 s2 s3 s4 s5 s6
  have h1 : TickKept p s s1 := by
    have hr1 : offReq (r1.at 0) = true := by cases hc : t.cool <;> simp [r1, c, hc] <;> rfl
    have hr2 : offReq (r2.at 0) = true := by cases hc : t.cool <;> simp [r2, c, hc] <;> rfl
    have hrp : offReq (rp.at 0) = true := by cases hc : t.cool <;> simp [rp, c, hc] <;> rfl
    exact .wWord hrp (.wWord hr2 (.wWord hr1 .refl))
  have h2 : TickKept p s s2 := .onSide h1
  have h3 : TickKept p s s3 := .ite (.trans (.evt (.onSide h2)) (tickKept_planTrigger _)) h2
  have h6 : TickKept p s s6 :=
    .noteBusy (.onSl (by rfl) (.err (.evt (.onLp (by rfl) (.wb (by rfl) (.w (by rfl) (.w (by rfl) h3)))))))
  split
  · dsimp only
    refine TickKept.trans ?_ (tickKept_markZone ..)
    exact h6.beside rfl rfl
  · exact h6

theorem tickKept_tuneFit (t : Tune) : TickKept p s (tuneFit s p t) := by
  unfold tuneFit
  extract_lets l n ticks a pu um ym s0
  have h0 : TickKept p s s0 := .wi (by rfl) (.w (by rfl) (.w (by rfl) (.w (by rfl) (.w (by rfl) .refl))))
  have hfail (why : Nat) : TickKept p s (failTune s0 p why) := h0.trans (tickKept_failTune ..)
  refine .ite (hfail 4) (.ite (hfail 5) (.ite (hfail 5) (.ite (hfail 5) ?_)))
  exact .ite (h0.trans (tickKept_tuneCommit ..)) (h0.trans (tickKept_tuneStep ..))

theorem tickKept_tuneRelay (t : Tune) (tc : Rat) : TickKept p s (tuneRelay s p t tc) := by
  unfold tuneRelay
  extract_lets r beyond below high first c ends cycles u base cur t' s1
  have h1 : TickKept p s s1 := .w (by rfl) (.onTune .refl)
  exact .ite (h1.trans (tickKept_failTune ..)) (.ite (.trans (.w (by rfl) (.onTune h1)) (tickKept_tuneFit ..)) h1)

theorem tickKept_tuneTick (tc : Option Rat) : TickKept p s (tuneTick s p tc) := by
  unfold tuneTick
  split
  · exact .refl
  · extract_lets s1
    have h1 : TickKept p s s1 := .onTune .refl
    refine .ite (h1.trans (tickKept_failTune ..)) ?_
    split
    · exact h1.trans (tickKept_failTune ..)
    · extract_lets temps s2
      have h2 : TickKept p s s2 := .onTune h1
      split
      · split
        · exact .ite (h2.trans (tickKept_failTune ..)) (h2.trans (tickKept_tuneStep ..))
        · exact h2
      · exact h2.trans (tickKept_tuneRelay ..)
      · split
        · split
          · exact .onTune h2
          · exact h2
          · exact .ite (h2.trans (tickKept_failTune ..)) (h2.trans (tickKept_tuneCommit ..))
        · split
          · exact .onSide (.onTune h2)
          · exact h2
      · exact h2

theorem tickKept_heatTick : TickKept p s (heatTick s p) := by
  unfold heatTick
  split
  · exact .wbEvt (by rfl) .refl
  · extract_lets s1
    have h1 : TickKept p s s1 := .trans (.bump (by rfl) .refl) (tickKept_flagInterval ..)
    exact .ite h1 (.err (.wbEvt (by rfl) h1))

theorem tickKept_overspeedTick : TickKept p s (overspeedTick s p) := .ite (.wb (by rfl) .refl) .refl

end TuneWork

end Sys2Proof.Machine

namespace Sys2Proof.Machine
open Host

/-! ### The outputs' requests of a tick (R250) -/

section Requests
variable {s t u : State} {p : Phys}

/-- Whether a zone's registers show the request of an output. -/
def reqShown (z : ZoneState) (j : Out) : Prop :=
  z.regs.nat F.ZL_OUT_j_REQ j = F.ZL_OUT_j_REQ.fit (Config.toUnits z.loop.req[j]).toNat

theorem TickKept.req (h : TickKept p s t) : (t.z p).loop.req = (s.z p).loop.req := congrArg TickPart.req h.part

theorem TickKept.shown (h : TickKept p s t) {j : Out} (hs : reqShown (s.z p) j) : reqShown (t.z p) j :=
  calc (t.z p).regs.nat F.ZL_OUT_j_REQ j
      = (s.z p).regs.nat F.ZL_OUT_j_REQ j := congrArg (fieldOf · 31 16) (h.regs j)
    _ = F.ZL_OUT_j_REQ.fit (Config.toUnits (s.z p).loop.req[j]).toNat := hs
    _ = F.ZL_OUT_j_REQ.fit (Config.toUnits (t.z p).loop.req[j]).toNat := by rw [h.req]

/-- Of a tick's marks only requests change; those of the outputs named are shown afterwards, and one that was stays shown. -/
structure ReqsPut (p : Phys) (s t : State) (l : List Out) : Prop where
  part  : ∃ r, tickPart (t.z p) = { tickPart (s.z p) with req := r }
  shown : ∀ j, j ∈ l ∨ reqShown (s.z p) j → reqShown (t.z p) j
  waits : t.journal.handover = s.journal.handover

theorem ReqsPut.refl : ReqsPut p s s [] := ⟨⟨_, rfl⟩, by simp, rfl⟩

theorem ReqsPut.trans {l m : List Out} (h : ReqsPut p s t l) (k : ReqsPut p t u m) : ReqsPut p s u (l ++ m) := by
  obtain ⟨r, hr⟩ := k.part
  obtain ⟨r', hr'⟩ := h.part
  refine ⟨⟨r, by rw [hr, hr']⟩, fun j hj => k.shown j ?_, k.waits.trans h.waits⟩
  rw [List.mem_append, or_right_comm] at hj
  exact hj.elim (fun hl => .inr (h.shown j hl)) .inl

theorem applied_apart_req (j k : Out) : F.ZL_OUT_j_APPLIED.apart j F.ZL_OUT_j_REQ k = true := by revert j k; decide

theorem req_apart_req {j k : Out} (h : j ≠ k) : F.ZL_OUT_j_REQ.apart j F.ZL_OUT_j_REQ k = true := by revert j k; decide

/-- A request that is put is shown. -/
theorem putRequest_puts (s : State) (j : Out) (x : Rat) : ReqsPut p s (putRequest s p j x) [j] := by
  unfold putRequest
  extract_lets was s0 s1 a s2
  have h2 : TickKept p s0 s2 := .onLp (by rfl) (.ite (tickKept_driveSafe ..) (tickKept_request ..))
  have h0 : tickPart (s0.z p) = { tickPart (s.z p) with req := (s.lp p).req.set j.val x j.isLt } ∧
      (s0.z p).regs = (s.z p).regs := by
    unfold s0
    rw [z_onLp]
    exact ⟨rfl, rfl⟩
  have hpart := h2.part.trans h0.1
  have hreq : (s2.z p).loop.req = (s.lp p).req.set j.val x j.isLt := congrArg TickPart.req hpart
  have hregs (k : Out) : rfGet (s2.z p).regs (R.ZL_OUT_j.at k) = rfGet (s.z p).regs (R.ZL_OUT_j.at k) := by
    rw [h2.regs, h0.2]
  clear_value s2
  generalize hv : (Config.toUnits a).toNat = v
  have hz : (((s2.w p F.ZL_OUT_j_REQ (Config.toUnits x).toNat j).w p F.ZL_OUT_j_APPLIED v j).z p) = { s2.z p with
      regs := ((s2.z p).regs.putNat F.ZL_OUT_j_REQ (Config.toUnits x).toNat j).putNat F.ZL_OUT_j_APPLIED v j } := by
    rw [z_w, z_w]
  refine ⟨⟨(s.lp p).req.set j.val x j.isLt, ?_⟩, fun k hk => ?_, h2.waits⟩
  · rw [hz]
    exact hpart
  · unfold reqShown
    rw [hz, hreq, nat_putNat_apart _ (applied_apart_req j k)]
    by_cases hjk : j = k
    · subst hjk
      rw [nat_putNat_fit _ (by decide)]
      simp
    · have hshown : reqShown (s.z p) k := hk.resolve_left (fun hmem => hjk (List.mem_singleton.mp hmem).symm)
      have hset : ((s.lp p).req.set j.val x j.isLt)[k] = (s.lp p).req[k] :=
        Vector.getElem_set_ne _ _ (fun h => hjk (Fin.ext h))
      rw [nat_putNat_apart _ (req_apart_req hjk), hset]
      exact (congrArg (fieldOf · 31 16) (hregs k)).trans hshown

theorem foldl_putRequest_puts (l : List (Out × Rat × Bool)) (s : State) :
    ReqsPut p s (l.foldl (fun s x => putRequest s p x.1 x.2.1) s) (l.map Prod.fst) := by
  induction l generalizing s with
  | nil => exact .refl
  | cons x l ih => exact (putRequest_puts s x.1 x.2.1).trans (ih _)

/-- The sequence puts the request of every output (R250). -/
theorem sequence_puts (s : State) (dH dC : Rat) (raw ceil : Rat × Rat) :
    ReqsPut p s (sequence s p dH dC raw ceil).1 (List.finRange 5) := by
  unfold sequence
  extract_lets l byp holding cutH cutC first air reqs s1
  have hall : reqs.map Prod.fst = List.finRange 5 := by
    have hfirst : first.map Prod.fst = List.finRange 5 := by simp [first, Function.comp_def]
    rw [← hfirst, List.map_map]
    refine List.map_congr_left fun x _ => ?_
    rw [Function.comp_apply]
    split <;> rfl
  exact hall ▸ foldl_putRequest_puts reqs s

end Requests
end Sys2Proof.Machine

namespace Sys2Proof.Machine
open Host

/-! ### A whole tick (R224, R275) -/

section Tick
variable {p : Phys}

/-- One second more in the sums of the quarter-hour (R275). -/
def secondTaken (s : State) (p : Phys) : State := s.onSc p (fun x => { x with sumN := x.sumN + 1 })

theorem secondTaken_part_of {s : State} {t : TickPart} (h : tickPart (s.z p) = t) :
    tickPart ((secondTaken s p).z p) = { t with sumN := t.sumN + 1 } := by
  rw [← h, secondTaken, State.onSc, z_onZ]; rfl

theorem secondTaken_shown {s : State} {j : Out} (h : reqShown (s.z p) j) : reqShown ((secondTaken s p).z p) j := by
  rw [secondTaken, State.onSc, z_onZ]; exact h

theorem tickKept_recordTick (s : State) (tc : Option Rat) (dH dC : Rat) :
    TickKept p (secondTaken s p) (recordTick s p tc dH dC) := by
  unfold recordTick
  extract_lets s1 s2 age
  have h2 : TickKept p (secondTaken s p) s2 := by
    refine ⟨?_, fun j => ?_, rfl⟩
    · simp only [secondTaken, s2, s1, State.onSc, State.onLp, z_onZ]
      rfl
    · simp only [secondTaken, s2, s1, State.onSc, State.onLp, z_onZ]
  exact (TickKept.w (by rfl) (.w (by rfl) h2)).trans (tickKept_showMode _)

/-- The control work of a tick counts its second and shows every request (R250, R275). -/
theorem controlTick_part (s : State) : (∃ r, tickPart ((controlTick s p).z p) =
      { tickPart (s.z p) with sumN := (s.sc p).sumN + 1, req := r }) ∧
    (∀ j, reqShown ((controlTick s p).z p) j) ∧ (controlTick s p).journal.handover = s.journal.handover := by
  unfold controlTick
  extract_lets tc iH iC d byp s1 s2 k c dH dC s3 mode frost s4 s5 q wH wC s6 l s7 side s8 s9 s10 ceil s11
  clear_value tc
  have hd : TickKept p s d.1 := tickKept_demands s tc
  have h2 : TickKept p s s2 := .protFlag (by rfl) (.errIf hd)
  have hk : TickKept p s k.1 := by
    dsimp only [k]
    split
    · split
      · exact h2.trans (tickKept_cascade ..)
      · exact h2
    · exact h2
  have h3 : TickKept p s s3 := (hk.trans (tickKept_ceilings ..)).trans (tickKept_ceilingPulses ..)
  have h5 : TickKept p s s5 := .protFlag (by rfl) (.errIf h3)
  have hq : ReqsPut p s5 q.1 (List.finRange 5) := sequence_puts ..
  have h6 : TickKept p q.1 s6 := .protFlag (by rfl) ((tickKept_antiWindup ..).trans (tickKept_antiWindup ..))
  have h10 : TickKept p q.1 s10 :=
    .w (by rfl) (.w (by rfl) (.w (by rfl) (.w (by rfl) (.evtIf (.w (by rfl) (.wb (by rfl) h6))))))
  have h11 : TickKept p q.1 s11 := (h10.trans (tickKept_settleTick ..)).trans (tickKept_settleTick ..)
  have hend : TickKept p (secondTaken s11 p) (tuneTick (recordTick s11 p tc dH dC) p tc) :=
    (tickKept_recordTick ..).trans (tickKept_tuneTick ..)
  obtain ⟨r, hr⟩ := hq.part
  refine ⟨⟨r, ?_⟩, fun j => hend.shown ?_, ?_⟩
  · rw [hend.part, secondTaken_part_of h11.part, hr, h5.part]
    rfl
  · exact secondTaken_shown (h11.shown (hq.shown j (.inl (List.mem_finRange j))))
  · exact hend.waits.trans (h11.waits.trans (hq.waits.trans h5.waits))

theorem controlTick_cr_ne (s : State) (q' : Phys) (hq : q' ≠ p) : (controlTick s p).cr q' = s.cr q' := by
  unfold controlTick
  extract_lets tc iH iC d byp s1 s2 k c dH dC s3 mode frost s4 s5 q wH wC s6 l s7 side s8 s9 s10 ceil s11
  clear_value tc
  have h2 : s2.cr q' = s.cr q' := by simp [s2, s1, d, hq, apply_ite (State.cr · q')]
  have hk : k.1.cr q' = s2.cr q' := by
    dsimp only [k]
    split
    · split
      · exact cascade_cr_ne _ _ _ _ _ _ hq
      · rfl
    · rfl
  have h5 : s5.cr q' = k.1.cr q' := by simp [s5, s4, s3, c, hq, ceilings_cr_ne, apply_ite (State.cr · q')]
  have h11 : s11.cr q' = s5.cr q' := by simp [s11, s10, s9, s8, s7, s6, wC, wH, q, hq]
  rw [tuneTick_cr_ne _ _ _ _ hq, recordTick_cr_ne _ _ _ _ _ _ hq, h11, h5, hk, h2]

/-- After a tick no panel request, due alarm or plan waits, its second is counted, and every request is shown (R219, R250, R259,
R275). -/
theorem loopTick_part {s : State} (h : s.journal.handover = []) : (∃ r, tickPart ((loopTick s p).z p) =
      ⟨[], [], (s.sc p).planNext.or (s.sc p).plan, none, (s.sc p).sumN + 1, r⟩) ∧
    ∀ j, reqShown ((loopTick s p).z p) j := by
  obtain ⟨hone, -⟩ := stepOne_part (p := p) h
  have hend : TickKept p (controlTick (stepOne s p) p) (loopTick s p) := by
    unfold loopTick
    extract_lets s1 s2
    have h2 : TickKept p s1 s2 := ((tickKept_heatTick _).trans (tickKept_overspeedTick _)).trans (tickKept_firmwareRelease _)
    clear_value s2
    exact .ite (h2.trans (tickKept_writeCheckpoint _)) h2
  generalize loopTick s p = t at hend ⊢
  generalize stepOne s p = u at hone hend
  obtain ⟨⟨r, hr⟩, hshown, -⟩ := controlTick_part (p := p) u
  refine ⟨⟨r, ?_⟩, fun j => hend.shown (hshown j)⟩
  have hsum : (u.sc p).sumN = (s.sc p).sumN := congrArg TickPart.sumN hone
  rw [hend.part, hr, hsum, hone]

theorem loopTick_cr_ne {s : State} (h : s.journal.handover = []) (q : Phys) (hq : q ≠ p) :
    (loopTick s p).cr q = s.cr q := by
  have hc : (controlTick (stepOne s p) p).cr q = s.cr q := (controlTick_cr_ne _ q hq).trans (stepOne_cr_ne h q hq)
  unfold loopTick
  extract_lets s1 s2
  have h2 : s2.cr q = s.cr q := by simpa [s2, s1, hq] using hc
  split
  · exact (writeCheckpoint_cr_ne _ _ _ hq).trans h2
  · exact h2

end Tick
end Sys2Proof.Machine

namespace Sys2Proof.Machine
open Host

/-! ### The events of a zone's loops (R218 to R275) -/

section Work
variable {s : State} {p : Phys}

/-- A loop tick (R219, R250, R259, R275). -/
theorem loopTick_work (hrun : (s.sl p).running = true) (h : s.journal.handover = []) :
    ∃ t, exec (.loopTick p) s = .next t ∧ othersKept s t p ∧ (t.lp p).reqs = [] ∧ (t.sc p).due = [] ∧ (t.sc p).planNext = none ∧
    (∀ x, (s.sc p).planNext = some x → (t.sc p).plan = some x) ∧ (t.sc p).sumN = (s.sc p).sumN + 1 ∧
    ∀ j : Out, t.g p F.ZL_OUT_j_REQ j = F.ZL_OUT_j_REQ.fit (Config.toUnits (t.lp p).req[j]).toNat := by
  refine ⟨_, onRunning_runs hrun (loopTick · p), loopTick_cr_ne h, ?_⟩
  obtain ⟨⟨r, hpart⟩, hshown⟩ := loopTick_part (p := p) h
  generalize loopTick s p = t at hpart hshown
  have hplan : (t.sc p).plan = (s.sc p).planNext.or (s.sc p).plan := congrArg TickPart.plan hpart
  exact ⟨congrArg TickPart.reqs hpart, congrArg TickPart.due hpart, congrArg TickPart.planNext hpart,
    fun x hx => by rw [hplan, hx, Option.some_or], congrArg TickPart.sumN hpart, hshown⟩

/-- A step of the zone model takes the means of its seconds (R237). -/
theorem modelStep_work (hrun : (s.sl p).running = true) : ∃ t, exec (.modelStep p) s = .next t ∧ othersKept s t p ∧
    (t.lp p).secT = [] ∧ (t.lp p).secUh = [] ∧ (t.lp p).secUc = [] ∧ (t.lp p).stepBad = false ∧
    (t.lp p).sideH.uMeans.head? = some (meanOf (s.lp p).secUh) ∧
    (t.lp p).sideC.uMeans.head? = some (meanOf (s.lp p).secUc) ∧
    (t.lp p).sideH.yMeans.head? = some (if (s.lp p).secT = [] then none else some (meanOf (s.lp p).secT)) := by
  refine ⟨_, onRunning_runs hrun (modelStep · p), modelStep_cr_ne _ _, ?_⟩
  have hmeans := modelStep_means s p
  generalize (modelStep s p).lp p = l at hmeans
  simp only [Loop.means, Prod.mk.injEq] at hmeans
  obtain ⟨hT, hUh, hUc, hbad, huH, huC, hyH, -⟩ := hmeans
  exact ⟨hT, hUh, hUc, hbad, by rw [huH]; rfl, by rw [huC]; rfl, by rw [hyH]; rfl⟩

theorem fit_reason {why : Nat} (h : why ≤ 11) : F.ZL_TUNE_STAT_REASON.fit why = why := by
  rw [Fld.fit, Nat.mod_eq_of_lt]
  exact h.trans_lt (by decide)

/-- A tune beyond the limit of its step (R242). -/
theorem tuneStepTimeout_work (hrun : (s.sl p).running = true) {u : Tune} (h : (s.lp p).tune = some u) {why : Nat}
    (hstep : stepTimedOut u why) : ∃ t, exec (.autotuneStepTimeout p) s = .next t ∧ othersKept s t p ∧
    (t.lp p).tune = none ∧ t.g p F.ZL_TUNE_STAT_REASON = why ∧ t.gb p F.ZL_STAT_TUNING = false ∧
    toldCode s t (slicePage p 6) why 0x4C02 ∧
    ∀ z r, s.zoneOf p = some z → s.runningOf u.lseq = some r → r.internal = false → marked s u.lseq z.val = false →
      t.zoneMarker u.lseq z = some (resFault, why, 0) := by
  have hwhy : why ≤ 11 := by unfold stepTimedOut at hstep; omega
  obtain ⟨hreason, htuning, htold⟩ := failTune_shows h why
  exact ⟨_, exec_tuneStepTimedOut hrun h hstep, failTune_cr_ne _ _ _, by rw [failTune_loop],
    hreason.trans (fit_reason hwhy), htuning, htold, fun z r hz hr hhost hnew => failTune_marks h hz hr hhost hnew why⟩

/-- A tune beyond 6 h in all (R242). -/
theorem tuneTimeout_work (hrun : (s.sl p).running = true) {u : Tune}
    (h : (s.lp p).tune = some u) (htotal : 21600 ≤ u.total) :
    ∃ t, exec (.autotuneStepTimeout p) s = .next t ∧ othersKept s t p ∧ (t.lp p).tune = none ∧
    1 ≤ t.g p F.ZL_TUNE_STAT_REASON ∧ t.g p F.ZL_TUNE_STAT_REASON ≤ 11 := by
  obtain ⟨n, why, hexec, hlow, hhigh⟩ := exec_tuneTimedOut hrun h htotal
  have hreason := (failTune_shows (s := { s with free := n }) h why).1.trans (fit_reason hhigh)
  exact ⟨_, hexec, fun q hq => failTune_cr_ne _ _ _ q hq, by rw [failTune_loop], by omega, by omega⟩

/-- A stale outdoor temperature (R240). -/
theorem outdoorStale_work (s : State) : ∃ t, exec .outdoorStale s = .next t ∧ t.map = s.map ∧ ∀ p,
    ((s.sl p).running = false → t.sl p = s.sl p) ∧ ((s.sl p).running = true → (t.lp p).stale = true) ∧
    ((s.sl p).running = true → (s.lp p).stale = false → t.gb p F.ZP_STAT_OUTDOOR_STALE = true ∧
      toldCode s t (slicePage p 6) 0 0x4C09) := by
  refine ⟨_, exec_outdoorStale s, ?_, fun p => ?_⟩
  · exact List.foldlRecOn (motive := fun t => t.map = s.map) _ staleAt rfl fun t ht q _ => (staleAt_map t q).trans ht
  · obtain ⟨d, hd, hbefore, hturn, hafter⟩ := foldl_staleAt_turn s p
    generalize (List.finRange 68).foldl staleAt s = t at hturn hafter
    have hlp : t.lp p = (staleAt d p).lp p := congrArg (fun x : Slice => x.z.loop) hturn
    have hgb : t.gb p F.ZP_STAT_OUTDOOR_STALE = (staleAt d p).gb p F.ZP_STAT_OUTDOOR_STALE :=
      congrArg (fun x : Slice => x.z.regs.bit F.ZP_STAT_OUTDOOR_STALE) hturn
    have hwas : d.lp p = s.lp p := congrArg (fun x : Slice => x.z.loop) hd
    rw [hlp, hgb, ← hwas, ← hd]
    refine ⟨fun hoff => by rw [hturn, staleAt_stopped d hoff], fun hon => (staleAt_running d hon).1, fun hon hfresh => ?_⟩
    obtain ⟨hshown, htold⟩ := (staleAt_running d hon).2 hfresh
    exact ⟨hshown, told.of_grows hbefore htold hafter⟩

end Work

/-- Settles O47. Step 1 of a tick takes requests, due alarms and plan, recordTick the second, the sequence shows the requests;
everything else of a tick keeps them (`TickKept`). Two clauses are the model's choices: the reason of a tune that fails at 6 h
in all is any of those of R244 (notes/assumptions/31), and in MANUAL the times of a sensor loss run and nothing of it acts
(notes/assumptions/157). -/
theorem loopWork : Obligations.LoopWork := by
  unfold Obligations.LoopWork
  refine ⟨fun s p hrun => ⟨loopTick_work hrun, ?_, ?_, ?_, ?_, modelStep_work hrun, ?_, ?_, exec_noTune⟩, outdoorStale_work⟩
  · exact fun h => ⟨_, onRunning_runs hrun (endTimed · p), endTimed_cr_ne _ _, endTimed_returns h⟩
  · exact fun h hboost => ⟨_, onRunning_runs hrun (endTimed · p), endTimed_cr_ne _ _, endTimed_endsBoost h hboost⟩
  · exact fun h hboost => onRunning_keeps (f := (endTimed · p)) (endTimed_untimed h hboost) p
  · exact fun hloss hlevels => ⟨_, exec_sensorLossTimeout hrun hloss hlevels,
      lossLevelsTaken_cr_ne, lossLevelsTaken_shows⟩
  · exact fun u why h hstep => tuneStepTimeout_work hrun h hstep
  · exact fun u h htotal => tuneTimeout_work hrun h htotal

end Sys2Proof.Machine
